-- ==== Sys2Proof/Word.lean ====
section
/-! DEFINITION. The word types of the TF26's registers, buses and memories, and their plainest arithmetic
(R2: every structure is little-endian; R3: register fields). -/

namespace Sys2Proof

/-- One byte of a buffer, of a memory or of a message. -/
abbrev Byte := BitVec 8

/-- One 32-bit register word. -/
abbrev Word := BitVec 32

/-- One 64-bit memory word. -/
abbrev Word64 := BitVec 64

/-- An address of the 40-bit NoC space (R9). -/
abbrev Addr := BitVec 40

/-- The low byte of a number. -/
abbrev byteOf (n : Nat) : Byte := BitVec.ofNat 8 n

end Sys2Proof
end

