-- ==== Sys2Proof/Syntax.lean ====
section
/-! DEFINITION. The commands and events of the TF26, as syntax. Each row of the spec's table is one constructor of
`Instr`. A mailbox command's operand is the mailbox whose request leaves the sequencer: the request itself lies in
that mailbox's buffer. An event's operands are what the outside world brings: a measured value, a packet, a pin. -/

namespace Sys2Proof

/-- What a lane's receiver counts in a slot: invalid headers that cost no lock (R303), and PRBS words and errors (R328). -/
structure LaneCount where
  lane : Fin 128
  badHeaders : BitVec 16
  prbsWords : BitVec 16
  prbsErrors : BitVec 16
  deriving DecidableEq, Repr

/-- What a slot boundary brings from outside: whether the HUDDLE line has been high for the last 1 µs (R130); the member
of the Game Clock pair with the larger error where the two strobes differ by more than 50 ps (R55); the RX_PHASE
measured on lanes (R308); and what receivers have counted. -/
structure SlotIn where
  huddleHigh : Bool
  pairFault : Option (Fin 2)
  rxPhase : List (Fin 128 × BitVec 13)
  counts : List LaneCount
  deriving DecidableEq, Repr

/-- A TIME frame as a timing lane brings it (R19): its CRC is right, TURN, SLOTS_M1 and FLAGS. -/
structure TimeFrame where
  crcOk : Bool
  turn : BitVec 48
  slotsM1 : BitVec 16
  flags : BitVec 8
  deriving DecidableEq, Repr

/-- What a monitor window measures of a reference (R28): its offset from nominal in 0.1 ppm, and loss of signal. -/
structure RefReading where
  offset : Int
  loss : Bool
  deriving DecidableEq, Repr

/-- What the fabric offers a port as one frame (R315): its blocks as bytes, RP_TX_SOP, EOP and PAD, and whether VALID drops
inside it. -/
structure FabTx where
  blocks : List (BitVec 64)
  sop : Bool
  eop : Bool
  pad : Fin 8
  underrun : Bool
  deriving DecidableEq, Repr

/-- A SYNC block as a port receives it (R312). -/
structure SyncIn where
  seen : Bool
  rallyA : Bool
  txNext : BitVec 16
  rxExp : BitVec 16
  crcOk : Bool
  deriving DecidableEq, Repr

/-- What a bonded port finds where an alignment marker is due on a lane (R311). -/
inductive MarkerIn where
  | inLine | outOfLine | missing
  deriving DecidableEq, Repr

/-- What DRAM devices bring to an access (R336): stored bits that have flipped since the last one, by unit of the access,
codeword and mask; and the difference that a fault makes in the address fold. -/
structure DramIn where
  upsets : List (Fin 16 × Fin 8 × BitVec 160)
  fold : BitVec 16
  deriving DecidableEq, Repr

/-- What a flash read meets (R354): 0 nothing, 1 a single-bit error, 2 an uncorrectable word at an offset of the read, 3 a
page CRC that fails at that offset. -/
structure FlashErr where
  kind : Fin 4
  off : BitVec 12
  deriving DecidableEq, Repr

/-- What a core's program does between two events of the model (R405, R406), in order: instructions retired in sequence, a
taken branch to a target, an interrupt or fault with its cause and handler, a write of CTXID; and the slot in which what
follows happens (turn, slot, F and TQ). -/
inductive CoreItem where
  | retired (n : BitVec 16)
  | branch (target : BitVec 40)
  | exception (cause : BitVec 8) (handler : BitVec 40)
  | context (id : BitVec 32)
  | at_ (turn : BitVec 48) (slot : BitVec 16) (fineTq : BitVec 8)
  deriving DecidableEq, Repr

/-- A core at an event: what its program has done, its PC, and its general registers and status as the program left them.
The instruction set is its vendor's (R387): what a program computes comes from outside. -/
structure CoreIn where
  items : List CoreItem
  pc : BitVec 40
  regs : List (BitVec 64)
  status : BitVec 64
  deriving DecidableEq, Repr

/-- A data access of a core (R401): address, size in bytes as a power of two, direction, datum. -/
structure CoreData where
  addr : BitVec 40
  size : Fin 4
  write : Bool
  data : BitVec 64
  deriving DecidableEq, Repr

/-- What the Line Judge's self-test finds (R436): the test passed; another card drives FAULT_N low (R441); the comparators of
the Playmaker pairs were exercised on time (R432). -/
structure SelfTestIn where
  ok : Bool
  othersLow : Bool
  exercised : Bool
  deriving DecidableEq, Repr

/-- What an access to a site finds on its bus (R101 to R103): a transfer timed out; the optical module's identifier, serial
number, temperature and its high-alarm threshold (signed, in 1/256 °C); the 256 bytes of the module record. -/
structure SiteIn where
  timeout : Bool
  optical : Option (BitVec 8)
  serial : List (BitVec 8)
  temp : BitVec 16
  high : BitVec 16
  imr : Option (List (BitVec 8))
  deriving DecidableEq, Repr

/-- What a poll finds (R101, R102): for each site that answers or times out, what it answers; the buses whose SDA stays low;
the MODPRS pins that are high. -/
structure PollIn where
  sites : List (Fin 32 × SiteIn)
  stuck : BitVec 4
  prs : BitVec 4
  deriving DecidableEq, Repr

/-- One port of a tile RAM in one clock cycle (R181, R182): its shape (0 to 6: W1 to W72; 7: ECC), whether it writes, TWE,
TADDR, TWD, and its write-read behaviour (0 PRIOR, 1 ECHO, 2 KEEP). -/
structure TilePort where
  shape : Fin 8
  write : Bool
  twe : BitVec 6
  addr : BitVec 16
  data : BitVec 72
  mode : Fin 3
  deriving DecidableEq, Repr

/-- The two ports of a tile RAM block in one cycle, or with edges of independent clocks within 300 ps of each other; and the
stored bits that have flipped since the last access. -/
structure TileIn where
  a : Option TilePort
  b : Option TilePort
  near : Bool
  upsets : List (Fin 512 × BitVec 72)
  deriving DecidableEq, Repr

/-- A deep RAM read (R188): RADDR, the stored bits of the word that have flipped, and a write of the same word whose clock edge
lies within 400 ps of the read's, with its WDATA and WBE. -/
structure DeepIn where
  addr : BitVec 15
  flips : BitVec 104
  near : Option (BitVec 64 × BitVec 8)
  deriving DecidableEq, Repr

/-- An initiator request of a fabric port (R202): direction, address, beats less 1, tag, and for a write its data and the
byte enables of each beat. -/
structure FabReq where
  write : Bool
  addr : BitVec 40
  len : Fin 16
  tag : Fin 64
  data : List (BitVec 8)
  be : List (BitVec 32)
  deriving DecidableEq, Repr

/-- A cell that a region's logic pushes (R280): DQP_QID, DATA, LEN_M1, SOP, EOP. -/
structure CellIn where
  queue : Fin 4096
  data : BitVec 512
  lenM1 : Fin 64
  sop : Bool
  eop : Bool
  deriving DecidableEq, Repr


/-- A flit on a link (R247, R248): a new one of a VC, or an entry of the replay buffer sent again; and whether its parity is good
at the receiver. -/
inductive FlitIn where
  | fresh (vc : Fin 4) (good : Bool)
  | again (i : Fin 8) (good : Bool)
  deriving DecidableEq, Repr

/-- An access that reaches the CSR hub (R246, R257): its source node, direction, address, 8 bytes or 4, and a write's datum. -/
structure CsrReq where
  src : BitVec 7
  write : Bool
  addr : BitVec 40
  eight : Bool
  data : BitVec 64
  deriving DecidableEq, Repr

/-- A packet that reaches an endpoint (R251 to R253): its place among those under way, the node and the VC at which it arrives, the
bits of each data flit that have flipped on the way, and what a flash read for it meets. -/
structure NocIn where
  index : Nat
  node : BitVec 7
  vc : Fin 4
  flips : List (BitVec 266)
  flash : FlashErr
  deriving DecidableEq, Repr

/-- What debug accesses that a command waits for meet outside (R205, R354): the answer of a fabric's logic to each of them, by its
place among them, and what flash reads find. -/
structure DebugIn where
  answers : List (Fin 4 × BitVec 64)
  flash : FlashErr
  deriving DecidableEq, Repr

/-- What start-up meets outside (R126, R128): the image slots whose stored bodies meet an uncorrectable flash read, and for each
readback in turn whether a frame differs. -/
structure BootIn where
  bad : BitVec 3
  differs : List Bool
  deriving DecidableEq, Repr

/-- The commands and events of the part: one constructor for each row of spec/opcode_table.json, with what the
row needs from outside. -/
inductive Instr where
  /-- REGISTER_WRITE (R3). -/
  | registerWrite (node : BitVec 7) (addr : BitVec 40) (value : BitVec 32)
  /-- ALL_RAILS_GOOD (R77). -/
  | allRailsGood
  /-- INTERNAL_RESET_RELEASE (R78). -/
  | internalResetRelease (sel : BitVec 2) (x : BootIn)
  /-- DRAM_TRAINING_COMPLETE (R350). -/
  | dramTrainingComplete (channel : Fin 4) (ok : Bool) (step : Fin 8)
  /-- LOCK_WAIT_EXPIRY (R129). -/
  | lockWaitExpiry
  /-- PCIE_ID_DEFAULT_TIMEOUT (R127). -/
  | pcieIdDefaultTimeout
  /-- HUDDLE_STAGED_ENTRY (R130). -/
  | huddleStagedEntry
  /-- HUDDLE_TIMEOUT (R132). -/
  | huddleTimeout
  /-- HUDDLE_LINE_FALL (R131). -/
  | huddleLineFall
  /-- AUTO_LIVE (R133). -/
  | autoLive
  /-- POR_N_RESET (R80). -/
  | porNReset
  /-- PGOOD_IN_FALL (R81). -/
  | pgoodInFall
  /-- REMOVAL_RESET (R81). -/
  | removalReset
  /-- BROWN_OUT (R82). -/
  | brownOut (rails : BitVec 23)
  /-- PERST_N (R84). -/
  | perstN (low : Bool)
  /-- PCIE_LINK_DOWN (R153). -/
  | pcieLinkDown (functionReset : Bool)
  /-- MODULE_POLL (R102). -/
  | modulePoll (x : PollIn)
  /-- MODPRS_PULSE (R102). -/
  | modprsPulse (bus : Fin 4)
  /-- MGMT_I2C_WRITE (R138). -/
  | mgmtI2cWrite (addr : BitVec 7) (offset : BitVec 16) (bytes : List (BitVec 8))
  /-- MGMT_I2C_READ (R138). -/
  | mgmtI2cRead (addr : BitVec 7) (offset : BitVec 16) (n : Nat)
  /-- MB_DOORBELL_RING (R143). -/
  | mbDoorbellRing (mbs : List (Fin 14))
  /-- REQUEST_REFUSED (R142). -/
  | requestRefused (mb : Fin 14)
  /-- NOTICE_CONS_WRITE (R161). -/
  | noticeConsWrite (mb : Fin 14) (value : BitVec 32)
  /-- NOTICE_MSI_INTERVAL_END (R162). -/
  | noticeMsiIntervalEnd
  /-- CLAIM_LEASE_EXPIRY (R157). -/
  | claimLeaseExpiry (group : Fin 7)
  /-- EXPERT_ACCESS (R164). -/
  | expertAccess (write : Bool) (offset : BitVec 30) (len : BitVec 10) (data : List (BitVec 8))
  /-- DEVICE_INFO (R170). -/
  | deviceInfo (mb : Fin 14)
  /-- DEVICE_STATUS (R171). -/
  | deviceStatus (mb : Fin 14)
  /-- OUTPUTS_ON (R172). -/
  | outputsOn (mb : Fin 14)
  /-- OUTPUTS_ON_AT_TURN (R172). -/
  | outputsOnAtTurn
  /-- OUTPUTS_OFF (R14). -/
  | outputsOff (mb : Fin 14)
  /-- QUIESCE (R326). -/
  | quiesce (mb : Fin 14)
  /-- DRAIN_COMPLETE (R326). -/
  | drainComplete
  /-- QUIESCE_DRAIN_TIMEOUT (R14). -/
  | quiesceDrainTimeout
  /-- DEVICE_RESET (R83). -/
  | deviceReset (mb : Fin 14)
  /-- DEVICE_RESET_EXPIRY (R83). -/
  | deviceResetExpiry
  /-- CLAIM (R155). -/
  | claim (mb : Fin 14)
  /-- RELEASE (R157). -/
  | release (mb : Fin 14)
  /-- EXPERT_GRANT (R163). -/
  | expertGrant (mb : Fin 14)
  /-- EXPERT_REVOKE (R165). -/
  | expertRevoke (mb : Fin 14)
  /-- NOTICE_MASK (R162). -/
  | noticeMask (mb : Fin 14)
  /-- ECHO (R170). -/
  | echo (mb : Fin 14)
  /-- CLOCK_STATUS (R26). -/
  | clockStatus (mb : Fin 14)
  /-- CLOCK_CONFIGURE (R17). -/
  | clockConfigure (mb : Fin 14)
  /-- CLOCK_SELECT (R28). -/
  | clockSelect (mb : Fin 14)
  /-- CLOCK_RUN (R33). -/
  | clockRun (mb : Fin 14)
  /-- TURN_SET (R24). -/
  | turnSet (mb : Fin 14)
  /-- PLAYBOOK_WRITE (R36). -/
  | playbookWrite (mb : Fin 14)
  /-- PLAYBOOK_READ (R34). -/
  | playbookRead (mb : Fin 14)
  /-- PLAYBOOK_DISARM (R34). -/
  | playbookDisarm (mb : Fin 14)
  /-- PB_CMD_WRITE (R36). -/
  | pbCmdWrite
  /-- PB_CMD_READ (R34). -/
  | pbCmdRead
  /-- CAL_SET (R41). -/
  | calSet (mb : Fin 14)
  /-- CAL_GET (R42). -/
  | calGet (mb : Fin 14)
  /-- CAL_LOAD (R42). -/
  | calLoad
  /-- TURN_LOAD_ARM (R24). -/
  | turnLoadArm (turnHi : BitVec 16)
  /-- GC_RUN_WRITE (R28). -/
  | gcRunWrite (run : Bool)
  /-- SLOT_BOUNDARY (R20). -/
  | slotBoundary (i : SlotIn)
  /-- MARKER_ARRIVAL (R22). -/
  | markerArrival (ref : Fin 2) (fine : Fin 64)
  /-- MARKER_MISS (R25). -/
  | markerMiss
  /-- TIME_FRAME (R19). -/
  | timeFrame (lane : Fin 128) (f : TimeFrame) (fine : Fin 64)
  /-- REF_WINDOW_END (R28). -/
  | refWindowEnd (a b : RefReading) (phaseOk : Bool)
  /-- ACQUIRE_TIMEOUT (R28). -/
  | acquireTimeout
  /-- TPLL_LOCK (R28). -/
  | tpllLock
  /-- PLAYBOOK_ENTRY_DUE (R37). -/
  | playbookEntryDue (idx : Fin 4096)
  /-- THROTTLE_END (R35). -/
  | throttleEnd
  /-- CALENDAR_TICK (R43). -/
  | calendarTick
  /-- XTAL_WINDOW_END (R47). -/
  | xtalWindowEnd (edges : BitVec 20)
  /-- PLL_LOCK (R51). -/
  | pllLock (p : Fin 63) (err : BitVec 8)
  /-- PLL_LOSS_OF_LOCK (R65). -/
  | pllLossOfLock (p : Fin 63) (both : Bool)
  /-- CLOCK_MONITOR_WINDOW (R64). -/
  | clockMonitorWindow (p : Fin 63) (mean nominal : BitVec 26)
  /-- STANDBY_RETURN (R56). -/
  | standbyReturn
  /-- RE_PHASE_COMPLETE (R59). -/
  | rePhaseComplete (second : Bool) (err : BitVec 8)
  /-- PLL_RELOCK (R51). -/
  | pllRelock (p : Fin 63)
  /-- GCLK_SEL_WRITE (R68). -/
  | gclkSelWrite (line : Fin 32) (code : BitVec 8)
  /-- RCLK_SEL_WRITE (R67). -/
  | rclkSelWrite (region : Fin 80) (line : Fin 24) (code : BitVec 6)
  /-- CLOCK_LINE_SWITCH_DONE (R68). -/
  | clockLineSwitchDone (line : Fin 32 ⊕ (Fin 80 × Fin 24))
  /-- PLL_STATUS_QUERY (R51). -/
  | pllStatusQuery (mb : Fin 14)
  /-- PLL_CONFIGURE (R50). -/
  | pllConfigure (mb : Fin 14) (lock : Option (BitVec 8))
  /-- PLL_PHASE_SET (R58). -/
  | pllPhaseSet (mb : Fin 14)
  /-- PLL_SPREAD (R61). -/
  | pllSpread (mb : Fin 14)
  /-- CLOCK_ROUTE (R66). -/
  | clockRoute (mb : Fin 14)
  /-- MODULE_LIST (R109). -/
  | moduleList (mb : Fin 14)
  /-- MODULE_READ (R103). -/
  | moduleRead (mb : Fin 14) (data : Option (List (BitVec 8))) (stuck : Bool)
  /-- MODULE_RECHECK (R109). -/
  | moduleRecheck (mb : Fin 14) (x : PollIn)
  /-- MODULE_ACCEPT (R109). -/
  | moduleAccept (mb : Fin 14)
  /-- MODULE_TX_DISABLE (R104). -/
  | moduleTxDisable (mb : Fin 14) (answers : Bool)
  /-- MODULE_IMR_WRITE (R107). -/
  | moduleImrWrite (mb : Fin 14) (acked same : Bool) (x : SiteIn)
  /-- IMAGE_STATUS (R126). -/
  | imageStatus (mb : Fin 14)
  /-- IMAGE_SLOT_INFO (R117). -/
  | imageSlotInfo (mb : Fin 14)
  /-- IMAGE_WRITE_BEGIN (R118). -/
  | imageWriteBegin (mb : Fin 14)
  /-- IMAGE_WRITE_DATA (R118). -/
  | imageWriteData (mb : Fin 14) (fail : Option (Fin 16))
  /-- IMAGE_COMMIT (R134). -/
  | imageCommit (mb : Fin 14)
  /-- IMAGE_BOOT (R116). -/
  | imageBoot (mb : Fin 14) (x : BootIn)
  /-- IMAGE_KEY_LOAD (R121). -/
  | imageKeyLoad (mb : Fin 14)
  /-- IMAGE_KEY_CLEAR (R121). -/
  | imageKeyClear (mb : Fin 14)
  /-- IMAGE_EFUSE_PROGRAM (R121). -/
  | imageEfuseProgram (mb : Fin 14) (ok : Bool)
  /-- ASYNC_COMMAND_COMPLETE (R150). -/
  | asyncCommandComplete (mb : Fin 14) (seq : BitVec 16) (readBad : Bool) (x : DebugIn) (stop : Option (BitVec 16))
  /-- FABRIC_PORT_STATUS (R206). -/
  | fabricPortStatus (mb : Fin 14)
  /-- FABRIC_PORT_ISOLATE (R201). -/
  | fabricPortIsolate (mb : Fin 14)
  /-- FABRIC_MEM_ERRORS (R191). -/
  | fabricMemErrors (mb : Fin 14)
  /-- FABRIC_REGION_POWER (R209). -/
  | fabricRegionPower (mb : Fin 14)
  /-- REGION_POWER_ON_COMPLETE (R209). -/
  | regionPowerOnComplete (region : Fin 80)
  /-- FP_ISOLATE (R201). -/
  | fpIsolate (region : Fin 80)
  /-- FP_RELEASE (R207). -/
  | fpRelease (region : Fin 80)
  /-- FAB_USER_COMMIT (R212). -/
  | fabUserCommit
  /-- FABRIC_INITIATOR_REQUEST (R203). -/
  | fabricInitiatorRequest (region : Fin 80) (q : FabReq)
  /-- FABRIC_TARGET_REQUEST (R202). -/
  | fabricTargetRequest (region : Fin 80)
  /-- FP_TARGET_TIMEOUT (R205). -/
  | fpTargetTimeout (region : Fin 80) (noClock : Bool)
  /-- TILE_RAM_ACCESS (R181). -/
  | tileRamAccess (region : Fin 80) (block : Fin 64) (x : TileIn)
  /-- TILE_RAM_SCRUB_READ (R185). -/
  | tileRamScrubRead (region : Fin 80) (blocks : List (Fin 64 × BitVec 72))
  /-- DEEP_RAM_WRITE (R187). -/
  | deepRamWrite (region : Fin 80) (block : Fin 16) (addr : BitVec 15) (data : BitVec 64) (be : BitVec 8)
  /-- DEEP_RAM_READ (R188). -/
  | deepRamRead (region : Fin 80) (block : Fin 16) (x : DeepIn)
  /-- DEEP_RAM_SCRUB_READ (R190). -/
  | deepRamScrubRead (region : Fin 80) (flips : List (Fin 16 × BitVec 104))
  /-- REGION_STATUS (R214). -/
  | regionStatus (mb : Fin 14)
  /-- REGION_LOAD (R221). -/
  | regionLoad (mb : Fin 14)
  /-- REGION_LOAD_COMPLETE (R222). -/
  | regionLoadComplete (readBad agree : Bool)
  /-- REGION_CLEAR (R214). -/
  | regionClear (mb : Fin 14)
  /-- REGION_SWAP_AT (R226). -/
  | regionSwapAt (mb : Fin 14)
  /-- REGION_STORE_WRITE (R220). -/
  | regionStoreWrite (mb : Fin 14) (fail : Option (Fin 16))
  /-- REGION_READBACK (R232). -/
  | regionReadback (mb : Fin 14)
  /-- REGION_VERIFY (R232). -/
  | regionVerify (mb : Fin 14)
  /-- REGION_FENCE_POLICY (R238). -/
  | regionFencePolicy (mb : Fin 14)
  /-- SCRUB_STATUS (R234). -/
  | scrubStatus (mb : Fin 14)
  /-- SCRUB_CONFIGURE (R240). -/
  | scrubConfigure (mb : Fin 14)
  /-- SCRUB_CTRL_WRITE (R240). -/
  | scrubCtrlWrite (value : BitVec 32)
  /-- ICP_NOP (R226). -/
  | icpNop
  /-- ICP_LOAD (R226). -/
  | icpLoad (region : BitVec 7) (active : Bool) (words : List (BitVec 32))
  /-- ICP_CLEAR (R226). -/
  | icpClear (region : BitVec 7)
  /-- ICP_SWAP_AT (R226). -/
  | icpSwapAt (region : BitVec 7) (index : Fin 4096) (lockedOnly : Bool) (turn : BitVec 48) (slot : BitVec 16)
  /-- ICP_READBACK (R232). -/
  | icpReadback (region : BitVec 7) (frame : Fin 4096) (shadow : Bool)
  /-- ICP_STATUS (R226). -/
  | icpStatus (region : BitVec 7)
  /-- ICP_BAD_OP (R226). -/
  | icpBadOp (op : Fin 10) (region : BitVec 7)
  /-- ICP_ABORT (R225). -/
  | icpAbort
  /-- SWAP_DRAIN_START (R227). -/
  | swapDrainStart (idx : Fin 4096)
  /-- SWAP_WINDOW_END (R230). -/
  | swapWindowEnd
  /-- SCRUB_FRAME_READ (R235). -/
  | scrubFrameRead (role : Fin 2) (mask : BitVec 4640) (selfOk : Bool)
  /-- REPAIR_COMPLETE (R237). -/
  | repairComplete (readBad : Bool)
  /-- FENCE_AUTO_RELEASE (R238). -/
  | fenceAutoRelease
  /-- SCRUB_PASS_TIMEOUT (R239). -/
  | scrubPassTimeout
  /-- TIMED_RES_SET (R262). -/
  | timedResSet (mb : Fin 14)
  /-- TIMED_RES_STATUS (R262). -/
  | timedResStatus (mb : Fin 14)
  /-- TRES_ENABLE_WRITE (R262). -/
  | tresEnableWrite (res : Fin 32) (en : Bool)
  /-- TIMED_PACKET_SEND (R264). -/
  | timedPacketSend (region : Fin 80) (res : Fin 32) (dest : BitVec 7) (data : BitVec 256)
  /-- TIMED_PACKET_ARRIVE (R266). -/
  | timedPacketArrive (res : Fin 32) (flips : BitVec 266)
  /-- TIMED_PRESENT (R266). -/
  | timedPresent (region : Fin 80) (n : Fin 65)
  /-- TIMED_WINDOW_CLOSE (R265). -/
  | timedWindowClose
  /-- NOC_STATUS (R249). -/
  | nocStatus (mb : Fin 14)
  /-- NOC_QOS_SET (R260). -/
  | nocQosSet (mb : Fin 14)
  /-- PROBE_SET (R271). -/
  | probeSet (mb : Fin 14)
  /-- PROBE_READ (R271). -/
  | probeRead (mb : Fin 14)
  /-- PROBE_TRACE_READ (R273). -/
  | probeTraceRead (mb : Fin 14)
  /-- PASSER_COPY (R269). -/
  | passerCopy (mb : Fin 14)
  /-- PASSER_STATUS (R270). -/
  | passerStatus (mb : Fin 14)
  /-- LINK_FLIT_RECEIVE (R248). -/
  | linkFlitReceive (router : Fin 48) (port : Fin 8) (f : FlitIn)
  /-- LINK_ACK_NAK (R248). -/
  | linkAckNak (router : Fin 48) (port : Fin 8) (good : Bool)
  /-- CREDIT_RETURN (R247). -/
  | creditReturn (router : Fin 48) (port : Fin 8) (vc : Fin 4) (good : Bool)
  /-- REPLAY_TIMEOUT (R248). -/
  | replayTimeout (router : Fin 48) (port : Fin 8)
  /-- LINK_FAIL (R249). -/
  | linkFail (router : Fin 48) (port : Fin 8)
  /-- CREDIT_AUDIT (R250). -/
  | creditAudit (router : Fin 48) (port : Fin 8) (vc : Fin 4) (upset : Option (Fin 16))
  /-- NOC_PACKET_DELIVER (R251). -/
  | nocPacketDeliver (x : NocIn)
  /-- CSR_ACCESS (R257). -/
  | csrAccess (requests : List CsrReq)
  /-- RSP_TIMEOUT (R255). -/
  | rspTimeout (node : BitVec 7) (tag : BitVec 6)
  /-- PASS_ENABLE (R269). -/
  | passEnable (n : Fin 16) (en : Bool)
  /-- PASS_PROD_WRITE (R269). -/
  | passProdWrite (n : Fin 16) (prod : BitVec 12)
  /-- PASS_ABORT (R270). -/
  | passAbort (n : Fin 16)
  /-- PASSER_DESCRIPTOR_FETCH (R269). -/
  | passerDescriptorFetch (n : Fin 16)
  /-- PASSER_WAIT_SLOT_START (R269). -/
  | passerWaitSlotStart (n : Fin 16)
  /-- PASSER_DESCRIPTOR_COMPLETE (R269). -/
  | passerDescriptorComplete (n : Fin 16)
  /-- PASSER_HALT (R270). -/
  | passerHalt (n : Fin 16)
  /-- PTRACE_RESTART (R273). -/
  | ptraceRestart
  /-- QUEUE_CONFIGURE (R278). -/
  | queueConfigure (mb : Fin 14)
  /-- QUEUE_STATUS (R294). -/
  | queueStatus (mb : Fin 14)
  /-- QUEUE_FLUSH (R286). -/
  | queueFlush (mb : Fin 14)
  /-- QUEUE_RELEASE (R288). -/
  | queueRelease (mb : Fin 14)
  /-- DUGOUT_STATUS (R279). -/
  | dugoutStatus (mb : Fin 14)
  /-- DUGOUT_SPILL_SET (R290). -/
  | dugoutSpillSet (mb : Fin 14)
  /-- QCMD_FLUSH (R286). -/
  | qcmdFlush (q : Fin 4096)
  /-- QCMD_RELEASE (R288). -/
  | qcmdRelease (q : Fin 4096)
  /-- DQ_CNT_CLR (R294). -/
  | dqCntClr (q : Fin 4096) (idx : Fin 8)
  /-- CELL_PUSH (R281). -/
  | cellPush (region : Fin 80) (c : CellIn) (pop : Option (Fin 80))
  /-- CELL_POP (R283). -/
  | cellPop (region : Fin 80) (q : Option (Fin 4096)) (word : Fin 3) (due : Bool)
  /-- SPILL_CHUNK_FETCH_COMPLETE (R289). -/
  | spillChunkFetchComplete (q : Fin 4096)
  /-- QUEUE_FAULT (R295). -/
  | queueFault (q : Fin 4096)
  /-- LANE_STATUS (R303). -/
  | laneStatus (mb : Fin 14)
  /-- LANE_CONFIGURE (R299). -/
  | laneConfigure (mb : Fin 14)
  /-- LANE_SLIP_SEARCH (R304). -/
  | laneSlipSearch (mb : Fin 14) (hit : Option (Fin 64))
  /-- LANE_EYE_SCAN (R329). -/
  | laneEyeScan (mb : Fin 14) (errors : List (BitVec 16))
  /-- QUAD_CONFIGURE (R297). -/
  | quadConfigure (mb : Fin 14) (locks : Bool)
  /-- PORT_CONFIGURE (R309). -/
  | portConfigure (mb : Fin 14)
  /-- PORT_STATUS (R321). -/
  | portStatus (mb : Fin 14)
  /-- PORT_CONTROL (R322). -/
  | portControl (mb : Fin 14)
  /-- LANE_SLIP (R304). -/
  | laneSlip (lane : Fin 128)
  /-- REARM (R307). -/
  | rearm (lane : Fin 128)
  /-- EYE_SCAN_START (R329). -/
  | eyeScanStart (lane : Fin 128)
  /-- EYE_SCAN_POINT_DONE (R329). -/
  | eyeScanPointDone (lane : Fin 128) (errors : BitVec 36)
  /-- LANE_CDR_LOCK (R303). -/
  | laneCdrLock (lane : Fin 128)
  /-- LANE_BLOCK_LOCK (R303). -/
  | laneBlockLock (lane : Fin 128) (measured : Option (BitVec 16))
  /-- LANE_LOCK_LOSS (R303). -/
  | laneLockLoss (lane : Fin 128)
  /-- LOSS_OF_SIGNAL (R303). -/
  | lossOfSignal (lane : Fin 128) (signal : Bool)
  /-- DESKEW_COMPLETE (R311). -/
  | deskewComplete (port : Fin 128) (depth : Fin 33)
  /-- DESKEW_FAIL (R311). -/
  | deskewFail (port : Fin 128)
  /-- ALIGNMENT_MARKER (R310). -/
  | alignmentMarker (port : Fin 128) (lane : Fin 4) (m : MarkerIn)
  /-- RALLY_F_FRAME_RECEIVE (R316). -/
  | rallyFFrameReceive (port : Fin 128) (bytes : List (BitVec 8))
  /-- RALLY_A_FRAME_RECEIVE (R320). -/
  | rallyAFrameReceive (port : Fin 128) (bytes : List (BitVec 8)) (alone : Bool)
  /-- ACK (R318). -/
  | ack (port : Fin 128) (block : BitVec 64)
  /-- RALLY_REPLAY_TIMER_EXPIRY (R319). -/
  | rallyReplayTimerExpiry (port : Fin 128)
  /-- SYNC (R324). -/
  | sync (port : Fin 128) (x : SyncIn)
  /-- RALLY_TX_FRAME (R314). -/
  | rallyTxFrame (port : Fin 128) (t : FabTx)
  /-- PORT_UP (R321). -/
  | portUp (port : Fin 128)
  /-- PORT_DOWN (R322). -/
  | portDown (port : Fin 128)
  /-- HOLD_MS_EXPIRY (R323). -/
  | holdMsExpiry (port : Fin 128)
  /-- DRAM_STATUS (R349). -/
  | dramStatus (mb : Fin 14)
  /-- DRAM_ERRORS (R341). -/
  | dramErrors (mb : Fin 14)
  /-- DRAM_QOS_SET (R344). -/
  | dramQosSet (mb : Fin 14)
  /-- DRAM_PATROL (R347). -/
  | dramPatrol (mb : Fin 14)
  /-- DRAM_RETRAIN (R351). -/
  | dramRetrain (mb : Fin 14)
  /-- DRAM_READ (R338). -/
  | dramRead (channel : Fin 4) (x : DramIn)
  /-- DRAM_WRITE (R339). -/
  | dramWrite (channel : Fin 4) (x : DramIn)
  /-- PATROL_READ (R347). -/
  | patrolRead (channel : Fin 4) (x : DramIn)
  /-- PATROL_OVERRUN (R347). -/
  | patrolOverrun (channel : Fin 4)
  /-- DRAM_REFRESH (R346). -/
  | dramRefresh (channel : Fin 4)
  /-- MR4_POLL (R345). -/
  | mr4Poll (channel : Fin 4) (hot : Bool)
  /-- ALERT_N (R331). -/
  | alertN (channel : Fin 4)
  /-- DRAM_CHANNEL_DOWN (R351). -/
  | dramChannelDown (channel : Fin 4)
  /-- FLASH_STATUS (R366). -/
  | flashStatus (mb : Fin 14)
  /-- FLASH_READ (R354). -/
  | flashRead (mb : Fin 14) (e : FlashErr)
  /-- FLASH_PROGRAM (R358). -/
  | flashProgram (mb : Fin 14) (fail : Option (Fin 16))
  /-- FLASH_ERASE (R358). -/
  | flashErase (mb : Fin 14)
  /-- FLASH_SECTOR_INFO (R360). -/
  | flashSectorInfo (mb : Fin 14)
  /-- FLASH_GUARD_SET (R368). -/
  | flashGuardSet (mb : Fin 14)
  /-- GUARD_CHANGE_COMPLETE (R368). -/
  | guardChangeComplete (ok : Bool)
  /-- FL_UNLOCK (R356). -/
  | flUnlock (node : BitVec 7) (value : BitVec 32)
  /-- UNLOCK_TIMEOUT (R356). -/
  | unlockTimeout
  /-- PROGRAM (R357). -/
  | program (node : BitVec 7)
  /-- ERASE (R357). -/
  | erase (node : BitVec 7)
  /-- BLANK_CHECK (R357). -/
  | blankCheck (node : BitVec 7)
  /-- READ_PAGE (R357). -/
  | readPage (node : BitVec 7) (e : FlashErr)
  /-- WEAR (R357). -/
  | wear (node : BitVec 7)
  /-- FL_CMD_BAD_OP (R357). -/
  | flCmdBadOp (node : BitVec 7) (code : BitVec 8)
  /-- FLASH_OPERATION_COMPLETE (R358). -/
  | flashOperationComplete (bank : Fin 2) (ok : Bool)
  /-- FLASH_WINDOW_READ (R361). -/
  | flashWindowRead (node : BitVec 7) (addr : BitVec 28) (beats : Fin 16) (e : FlashErr)
  /-- PLAYMAKER_FETCH (R362). -/
  | playmakerFetch (core : Fin 4) (addr : BitVec 28) (hit : Bool) (e : FlashErr)
  /-- WHISTLE_STATUS (R375). -/
  | whistleStatus (mb : Fin 14)
  /-- WHISTLE_SOURCE_SET (R374). -/
  | whistleSourceSet (mb : Fin 14)
  /-- WHISTLE_HOST_CLAIM (R382). -/
  | whistleHostClaim (mb : Fin 14)
  /-- WHISTLE_HOST_COMPLETE (R382). -/
  | whistleHostComplete (mb : Fin 14)
  /-- WHISTLE_SOURCE_CHANGE (R376). -/
  | whistleSourceChange (ch : Option (Fin 80 × BitVec 8 × Bool))
  /-- WH_CLAIM (R378). -/
  | whClaim (node : BitVec 7) (t : Fin 6)
  /-- WH_COMPLETE (R379). -/
  | whComplete (node : BitVec 7) (t : Fin 6) (id : BitVec 9)
  /-- WH_FLUSH (R380). -/
  | whFlush (t : Fin 6)
  /-- WH_PEND_SET (R373). -/
  | whPendSet (w : Fin 16) (bits : BitVec 32)
  /-- WH_PEND_CLR (R373). -/
  | whPendClr (w : Fin 16) (bits : BitVec 32)
  /-- WHISTLE_PARITY_ERROR (R385). -/
  | whistleParityError (t : Option (Fin 6))
  /-- PM_STATUS_QUERY (R391). -/
  | pmStatusQuery (mb : Fin 14)
  /-- PM_START (R391). -/
  | pmStart (mb : Fin 14)
  /-- PM_RESET (R391). -/
  | pmReset (mb : Fin 14)
  /-- PM_LOAD (R387). -/
  | pmLoad (mb : Fin 14)
  /-- DEBUG_RUN (R396). -/
  | debugRun (mb : Fin 14) (halts : Bool) (x : CoreIn)
  /-- DEBUG_ACCESS (R397). -/
  | debugAccess (mb : Fin 14) (x : DebugIn)
  /-- DEBUG_UNITS_SET (R403). -/
  | debugUnitsSet (mb : Fin 14)
  /-- TRACE_ACCESS (R408). -/
  | traceAccess (mb : Fin 14)
  /-- PM_RUN_WRITE (R391). -/
  | pmRunWrite (core : Fin 4) (run : Bool)
  /-- BEAT_ARM (R390). -/
  | beatArm (core : Fin 4)
  /-- BEAT_COMPARE_FIRE (R390). -/
  | beatCompareFire (core : Fin 4)
  /-- ICINV (R389). -/
  | icinv (core : Fin 4)
  /-- WDOG_KICK (R393). -/
  | wdogKick (core : Fin 4) (value : BitVec 32)
  /-- WATCHDOG_EXPIRY (R393). -/
  | watchdogExpiry (core : Fin 4)
  /-- WAIT_INSTRUCTION (R392). -/
  | waitInstruction (core : Fin 4) (mask : BitVec 3) (x : CoreIn)
  /-- DOZE_WAKE (R392). -/
  | dozeWake (core : Fin 4) (pc : BitVec 40)
  /-- LOCKSTEP_FAULT (R395). -/
  | lockstepFault (pair : Fin 2) (exercise : Bool)
  /-- HALT_REQ (R396). -/
  | haltReq (core : Fin 4) (x : CoreIn)
  /-- RESUME (R398). -/
  | resume (core : Fin 4)
  /-- STEP (R398). -/
  | step (core : Fin 4) (d : Option CoreData) (x : CoreIn)
  /-- REG_RD (R397). -/
  | regRd (core : Fin 4) (index : BitVec 6)
  /-- REG_WR (R397). -/
  | regWr (core : Fin 4) (index : BitVec 6)
  /-- DBG_MCMD_READ (R387). -/
  | dbgMcmdRead (core : Fin 4) (jtag : Bool)
  /-- DBG_MCMD_WRITE (R387). -/
  | dbgMcmdWrite (core : Fin 4) (jtag : Bool)
  /-- BREAKPOINT_MATCH (R400). -/
  | breakpointMatch (core : Fin 4) (x : CoreIn)
  /-- WATCH_MATCH (R401). -/
  | watchMatch (core : Fin 4) (d : CoreData) (x : CoreIn)
  /-- TRACE_RESTART (R407). -/
  | traceRestart (core : Fin 4)
  /-- TRACE_OVERFLOW (R408). -/
  | traceOverflow (core : Fin 4) (lost : BitVec 16)
  /-- RAM_ECC_ERROR (R388). -/
  | ramEccError (core : Fin 4) (double : Bool)
  /-- EXTEST (R410). -/
  | extest (pins dr : BitVec 2136)
  /-- SAMPLE_PRELOAD (R410). -/
  | samplePreload (pins dr : BitVec 2136)
  /-- IDCODE (R409). -/
  | idcode
  /-- HIGHZ (R410). -/
  | highz
  /-- CLAMP (R410). -/
  | clamp
  /-- EXTEST_PULSE (R410). -/
  | extestPulse (pins dr : BitVec 2136)
  /-- EXTEST_TRAIN (R410). -/
  | extestTrain (pins dr : BitVec 2136)
  /-- BYPASS (R409). -/
  | bypass
  /-- MBOX (R411). -/
  | mbox (dr : BitVec 64)
  /-- DBG (R412). -/
  | dbg (dr : BitVec 56)
  /-- TRST_N (R409). -/
  | trstN
  /-- RECORD_STATUS (R417). -/
  | recordStatus (mb : Fin 14)
  /-- RECORD_READ (R417). -/
  | recordRead (mb : Fin 14) (bad : Bool)
  /-- RECORD_MARK (R426). -/
  | recordMark (mb : Fin 14)
  /-- RECORD_WATCH (R426). -/
  | recordWatch (mb : Fin 14)
  /-- SCOREBOOK_PAGE_TIMER (R418). -/
  | scorebookPageTimer (fails : Bool)
  /-- TALLY_CLOSE (R420). -/
  | tallyClose
  /-- OPERATING_TIME_COMMIT (R422). -/
  | operatingTimeCommit
  /-- SAFETY_STATUS (R428). -/
  | safetyStatus (mb : Fin 14)
  /-- SAFETY_CLEAR (R440). -/
  | safetyClear (mb : Fin 14)
  /-- SAFE_ENTER (R443). -/
  | safeEnter (mb : Fin 14)
  /-- SAFE_EXIT (R444). -/
  | safeExit (mb : Fin 14)
  /-- SAFETY_POLICY (R440). -/
  | safetyPolicy (mb : Fin 14)
  /-- GAUGE_READ (R437). -/
  | gaugeRead (mb : Fin 14)
  /-- GAUGE_LIMITS (R446). -/
  | gaugeLimits (mb : Fin 14)
  /-- ALARM_RAISE (R440). -/
  | alarmRaise (code : Fin 22) (subject : BitVec 16) (present : Bool)
  /-- TEMPERATURE_READ (R437). -/
  | temperatureRead (temps : List (BitVec 12))
  /-- RAIL_SAMPLE (R438). -/
  | railSample (mv : List (BitVec 16))
  /-- LINE_JUDGE_SELFTEST (R436). -/
  | lineJudgeSelftest (x : SelfTestIn)
  /-- DETECTION_BOUND_MISS (R432). -/
  | detectionBoundMiss (mech : Fin 5) (subject : BitVec 16)
  /-- REFEREE_FAULT (R434). -/
  | refereeFault (kind : Fin 3)
  /-- LJ_POLICY_WRITE (R440). -/
  | ljPolicyWrite (reg : Fin 2) (value : BitVec 32)
  /-- LJ_TLIM_WRITE (R446). -/
  | ljTlimWrite (value : BitVec 32)
  /-- VBATT_LOSS (R121). -/
  | vbattLoss
  /-- PCIE_LINK_UP (R84). -/
  | pcieLinkUp
  /-- REFEREE_RESTART_COMPLETE (R434). -/
  | refereeRestartComplete (bad : List (Fin 512)) (x : BootIn)
  /-- FABRIC_TARGET_RESPONSE (R205). -/
  | fabricTargetResponse (region : Fin 80) (i : Fin 64) (status : Fin 4) (data : List (BitVec 8))
  /-- SCRUBBER_PARITY_ERROR (R239). -/
  | scrubberParityError
  deriving DecidableEq, Repr

end Sys2Proof
end

