-- ==== Sys2Proof/Decode.lean ====
section
/-! DEFINITION. The table's words. Its rows are commands and events of a block and have no bit fields, so no word spells one. -/

namespace Sys2Proof

/-- The command that a word of the table's bits spells: spec/opcode_table.json gives no row any bits, so none. -/
def decodeTableWord (_nbits _w : Nat) : Option Instr := none

end Sys2Proof
end

