-- ==== Sys2Proof/Config.lean ====
section
/-! DEFINITION. What the spec leaves open or takes from another standard: constants with NO BODY, so that
no proof can lean on a value of theirs. Every one is named in notes/assumptions. -/

namespace Sys2Proof.Config

/-- A value the spec leaves undefined or does not state. The argument is the counter `State.freeIdx`, which
every use advances, so that no two uses are related (log entry 4). -/
opaque freeValue : Nat → Nat

/-- SHA-384 over a byte sequence (R117, R124): the digest, as a number. The spec names the function and
leaves its definition to its own standard (log entry 5). -/
opaque sha384 : List Byte → Nat

/-- ECDSA P-384 verification of a digest (R124): public key, digest, signature (log entry 5). -/
opaque ecdsaP384Verify : List Byte → Nat → List Byte → Bool

/-- AES-256-GCM decryption (R122): key, nonce, associated data, ciphertext, tag; none where the tag does not
match (log entry 5). -/
opaque aesGcmOpen : List Byte → List Byte → List Byte → List Byte → List Byte → Option (List Byte)

/-- One AES-256 block encryption (R121: key rolling): key, block (log entry 5). -/
opaque aesBlock : List Byte → List Byte → List Byte

/-- A firmware package, header and body as they lie in its slot, passes its Iluphor ECDSA P-384 signature (R115): the spec
gives neither the package's layout nor the key (log entry 5). -/
opaque firmwareSigned : List Byte → Bool

/-- The version of a firmware package, major [31:16], minor [15:0] (R115; log entry 5). -/
opaque firmwareVersion : List Byte → Nat

/-- What tells one part from another: PART less 1, DIE_ID and FW_BUILD of DEVICE_INFO (log entry 7). -/
opaque partIndex : Nat
opaque dieId : Nat
opaque fwBuild : Nat

/-- PART of DEVICE_INFO: 1 TF26-1E, 2 TF26-2E, 3 TF26-2X. -/
def partCode : Nat := partIndex % 3 + 1

/-- What a region's frames store in a tile RAM word (R183, R224): the frames' layout is not the spec's. The arguments are
how often the region has been loaded, and the word's place (log entry 6). -/
opaque tileInit : Nat → Nat → Nat

/-- The eight check bits that the (72,64) code of tile RAM keeps for 64 data bits (R184): the spec names the code's kind, not its
matrix (log entry 30). -/
opaque secded72 : Nat → Nat

/-- What a deep RAM word holds after its region has lost power and nothing has written it (R209): how often it was
lost, and the word's place (log entry 6). -/
opaque deepLost : Nat → Nat → Nat

end Sys2Proof.Config
end

