-- ==== Sys2Proof/Machine/Tab.lean ====
section
/-! DEFINITION. Sparse tables as plain data: a list of keys and values with strictly rising keys. A key that is
not listed reads as the table's default; writing the default takes the key out, so that equal tables are
equal lists. -/

namespace Sys2Proof.Machine

/-- A sparse table. -/
abbrev Tab (α : Type) := List (Nat × α)

/-- Sparse memory: a table of bytes. -/
abbrev Mem := List (Nat × BitVec 8)

/-- The entry under a key, if it is listed. -/
def tabFind {α : Type} : Tab α → Nat → Option α
  | [], _ => none
  | (k, v) :: t, x => if k = x then some v else tabFind t x

/-- The value under a key; `d` where the key is not listed. -/
def tabGet {α : Type} (d : α) (t : Tab α) (k : Nat) : α := (tabFind t k).getD d

/-- The table without any entry under the key. -/
def tabDel {α : Type} : Tab α → Nat → Tab α
  | [], _ => []
  | (k, v) :: t, x => if k = x then tabDel t x else (k, v) :: tabDel t x

/-- The table with one more entry, put before the first larger key. -/
def tabIns {α : Type} (x : Nat) (v : α) : Tab α → Tab α
  | [] => [(x, v)]
  | (k, u) :: t => if x < k then (x, v) :: (k, u) :: t else (k, u) :: tabIns x v t

/-- The table with the value under the key, whatever it is. -/
def tabPut {α : Type} (t : Tab α) (k : Nat) (v : α) : Tab α := tabIns k v (tabDel t k)

/-- The table with the value under the key; the default is not listed. -/
def tabSet {α : Type} [DecidableEq α] (d : α) (t : Tab α) (k : Nat) (v : α) : Tab α :=
  if v = d then tabDel t k else tabPut t k v

/-- The table with the value under the key replaced by what `f` makes of it. -/
def tabUpd {α : Type} [DecidableEq α] (d : α) (t : Tab α) (k : Nat) (f : α → α) : Tab α :=
  tabSet d t k (f (tabGet d t k))

/-- The keys rise strictly. -/
def tabSorted {α : Type} : Tab α → Bool
  | [] => true
  | [_] => true
  | (k, _) :: (k', v') :: t => decide (k < k') && tabSorted ((k', v') :: t)

/-- The canonical form: the keys rise strictly and no entry is the default. -/
def tabWf {α : Type} [DecidableEq α] (d : α) (t : Tab α) : Bool :=
  tabSorted t && t.all (fun p => decide (p.2 ≠ d))

/-- The table without the keys of a range `[lo, hi)`. -/
def tabCut {α : Type} (lo hi : Nat) (t : Tab α) : Tab α :=
  t.filter (fun p => decide (p.1 < lo) || decide (hi ≤ p.1))

/-- The value of an element of a list; `d` beyond its end. -/
def listGet {α : Type} (d : α) : List α → Nat → α
  | [], _ => d
  | a :: _, 0 => a
  | _ :: l, n + 1 => listGet d l n

/-- The list with one element replaced; unchanged beyond its end. -/
def listSet {α : Type} : List α → Nat → α → List α
  | [], _, _ => []
  | _ :: l, 0, v => v :: l
  | a :: l, n + 1, v => a :: listSet l n v

/-- The list without the element at an index. -/
def listDrop {α : Type} : List α → Nat → List α
  | [], _ => []
  | _ :: l, 0 => l
  | a :: l, n + 1 => a :: listDrop l n

/-- The numbers `lo, lo + 1, …` of a range of `n` numbers. -/
def natsFrom (lo : Nat) : Nat → List Nat
  | 0 => []
  | n + 1 => lo :: natsFrom (lo + 1) n

/-- The index of the first element that satisfies `p`. -/
def listFind {α : Type} (p : α → Bool) : List α → Nat → Option Nat
  | [], _ => none
  | a :: l, i => if p a then some i else listFind p l (i + 1)

/-- Replace the first element that satisfies `p` by what `f` makes of it. -/
def listModify {α : Type} (p : α → Bool) (f : α → α) : List α → List α
  | [] => []
  | a :: l => if p a then f a :: l else a :: listModify p f l

/-- Fold a state over a list of things to do, in order. -/
def forEach {α σ : Type} (f : α → σ → σ) : List α → σ → σ
  | [], s => s
  | a :: l, s => forEach f l (f a s)

/-- The bytes of memory from an address on; `d` where nothing is listed. -/
def memBytes (d : BitVec 8) (m : Mem) (a : Nat) : Nat → List (BitVec 8)
  | 0 => []
  | n + 1 => tabGet d m a :: memBytes d m (a + 1) n

/-- Memory with a sequence of bytes written from an address on. -/
def memWrite (d : BitVec 8) (m : Mem) (a : Nat) : List (BitVec 8) → Mem
  | [] => m
  | b :: bs => memWrite d (tabSet d m a b) (a + 1) bs

end Sys2Proof.Machine
end

