-- ==== Sys2Proof/Machine/Bits.lean ====
section
/-! DEFINITION. Bit fields, sign extension, little-endian bytes (R2) and the cyclic redundancy checks that the
spec defines (R141, R312, R233). Numbers are exact and are narrowed explicitly. -/

namespace Sys2Proof.Machine

/-- Bits `[lo + w - 1 : lo]` of a number. -/
def bitsOf (v lo w : Nat) : Nat := v / 2 ^ lo % 2 ^ w

/-- One bit of a number. -/
def bitOf (v i : Nat) : Bool := decide (v / 2 ^ i % 2 = 1)

/-- The number of a bit. -/
def natOfBool (b : Bool) : Nat := if b then 1 else 0

/-- The number whose bits are those of `v` with bit `i` set. -/
def withBit (v i : Nat) : Nat := v ||| 2 ^ i

/-- The number whose bits are those of `v` with bit `i` clear. -/
def withoutBit (v i : Nat) : Nat := if bitOf v i then v - 2 ^ i else v

/-- The bits of `v` that are not in `m`. -/
def bitsClear (v m : Nat) : Nat := v - (v &&& m)

/-- The word `new` with the bits of `mask` as they are in `old`. -/
def keepBits (mask old new : Nat) : Nat := bitsClear new mask ||| (old &&& mask)

/-- The number of ones among the low `n` bits. -/
def popCount (v : Nat) : Nat → Nat
  | 0 => 0
  | n + 1 => v % 2 + popCount (v / 2) n

/-- A `w`-bit two's complement number as an integer. -/
def signedOf (v w : Nat) : Int :=
  if v % 2 ^ w < 2 ^ (w - 1) then (v % 2 ^ w : Nat) else ((v % 2 ^ w : Nat) : Int) - ((2 ^ w : Nat) : Int)

/-- An integer as a `w`-bit two's complement number. -/
def unsignedOf (i : Int) (w : Nat) : Nat := (i % ((2 ^ w : Nat) : Int)).toNat

/-- The low `n` bytes of a number, the least significant first (R2). -/
def leBytes : Nat → Nat → List (BitVec 8)
  | 0, _ => []
  | n + 1, v => BitVec.ofNat 8 v :: leBytes n (v / 256)

/-- The number that bytes spell, the least significant first (R2). -/
def leNat : List (BitVec 8) → Nat
  | [] => 0
  | b :: bs => b.toNat + 256 * leNat bs

/-- The little-endian field of `n` bytes at an offset of a byte sequence; bytes beyond its end read 0. -/
def fieldAt (bs : List (BitVec 8)) (off n : Nat) : Nat := leNat ((bs.drop off).take n)

/-- A byte sequence cut or padded with zeros to a length. -/
def padTo (n : Nat) (bs : List (BitVec 8)) : List (BitVec 8) :=
  bs.take n ++ List.replicate (n - bs.length) 0

/-- `n` rounded up to a multiple of `k`. -/
def roundUp (n k : Nat) : Nat := (n + k - 1) / k * k

/-- Eight shifts of a reflected check register. -/
def crcShifts (poly : Nat) : Nat → Nat → Nat
  | 0, c => c
  | n + 1, c => crcShifts poly n (if c % 2 = 1 then (c / 2) ^^^ poly else c / 2)

/-- A reflected check register after a byte sequence. -/
def crcReflected (poly : Nat) : List (BitVec 8) → Nat → Nat
  | [], c => c
  | b :: bs, c => crcReflected poly bs (crcShifts poly 8 (c ^^^ b.toNat))

/-- CRC-32C (R141): polynomial 0x1EDC_6F41 reflected, initial value and final XOR 0xFFFF_FFFF. -/
def crc32c (bs : List (BitVec 8)) : Nat := crcReflected 0x82F63B78 bs 0xFFFFFFFF ^^^ 0xFFFFFFFF

/-- The four bytes of a CRC-32C, stored little-endian (R141). -/
def crc32cBytes (bs : List (BitVec 8)) : List (BitVec 8) := leBytes 4 (crc32c bs)

/-- Eight shifts of a 16-bit check register that shifts left. -/
def crc16Shifts (poly : Nat) : Nat → Nat → Nat
  | 0, c => c
  | n + 1, c => crc16Shifts poly n (if 0x8000 ≤ c then (2 * c % 0x10000) ^^^ poly else 2 * c)

/-- A left-shifting 16-bit check register after a byte sequence. -/
def crc16Of (poly : Nat) : List (BitVec 8) → Nat → Nat
  | [], c => c
  | b :: bs, c => crc16Of poly bs (crc16Shifts poly 8 (c ^^^ (b.toNat * 256)))

end Sys2Proof.Machine
end

