-- ==== Sys2Proof/Machine/Regs.lean ====
section
/-! DEFINITION. The fields of the spec's register tables, one definition a field, each with its address, lowest
bit, width and reset value as its table gives them (spec/01 to spec/16). An array's definition takes the index;
a lane's or a port's takes its number 4q + k. -/

namespace Sys2Proof.Machine

/-- A register field: the register's NoC address, the field's lowest bit, its width and its reset value. -/
structure Fld where
  addr : Nat
  lo : Nat
  w : Nat
  rst : Nat
  deriving DecidableEq, Repr

/-- The key of a field in `State.regs`. -/
def fldKey (f : Fld) : Nat := f.addr * 32 + f.lo

/-- GC_CTRL.RUN, bits [0:0], RW. -/
def GC_CTRL_RUN : Fld := ⟨0x3F00100000, 0, 1, 0⟩
/-- GC_CTRL.SRC_MODE, bits [2:1], RW. -/
def GC_CTRL_SRC_MODE : Fld := ⟨0x3F00100000, 1, 2, 0⟩
/-- GC_CTRL.REVERTIVE, bits [3:3], RW. -/
def GC_CTRL_REVERTIVE : Fld := ⟨0x3F00100000, 3, 1, 0⟩
/-- GC_CTRL.PRIMARY, bits [4:4], RW. -/
def GC_CTRL_PRIMARY : Fld := ⟨0x3F00100000, 4, 1, 0⟩
/-- GC_CTRL.INPUT, bits [5:5], RW. -/
def GC_CTRL_INPUT : Fld := ⟨0x3F00100000, 5, 1, 0⟩

/-- GC_CFG_SLOTS.SLOTS_M1, bits [15:0], RW. -/
def GC_CFG_SLOTS_SLOTS_M1 : Fld := ⟨0x3F00100004, 0, 16, 0xFFFF⟩

/-- GC_CFG_REF.REF_KHZ, bits [17:0], RW. -/
def GC_CFG_REF_REF_KHZ : Fld := ⟨0x3F00100008, 0, 18, 0x9C40⟩
/-- GC_CFG_REF.SLOT_MUL_M1, bits [23:20], RW. -/
def GC_CFG_REF_SLOT_MUL_M1 : Fld := ⟨0x3F00100008, 20, 4, 0⟩
/-- GC_CFG_REF.SLOT_DIV_M1, bits [27:24], RW. -/
def GC_CFG_REF_SLOT_DIV_M1 : Fld := ⟨0x3F00100008, 24, 4, 0⟩

/-- GC_CFG_MON.WARN_PPM, bits [9:0], RW. -/
def GC_CFG_MON_WARN_PPM : Fld := ⟨0x3F0010000C, 0, 10, 0x32⟩
/-- GC_CFG_MON.LIMIT_PPM, bits [25:16], RW. -/
def GC_CFG_MON_LIMIT_PPM : Fld := ⟨0x3F0010000C, 16, 10, 0xC8⟩

/-- GC_CFG_LANE.TLANE_A, bits [6:0], RW. -/
def GC_CFG_LANE_TLANE_A : Fld := ⟨0x3F00100010, 0, 7, 0⟩
/-- GC_CFG_LANE.TLANE_B, bits [14:8], RW. -/
def GC_CFG_LANE_TLANE_B : Fld := ⟨0x3F00100010, 8, 7, 1⟩

/-- GC_STATUS.REF_STATE, bits [2:0], RO. -/
def GC_STATUS_REF_STATE : Fld := ⟨0x3F00100020, 0, 3, 0⟩
/-- GC_STATUS.ACTIVE_REF, bits [4:4], RO. -/
def GC_STATUS_ACTIVE_REF : Fld := ⟨0x3F00100020, 4, 1, 0⟩
/-- GC_STATUS.TQ, bits [6:5], RO. -/
def GC_STATUS_TQ : Fld := ⟨0x3F00100020, 5, 2, 0⟩
/-- GC_STATUS.DRIFT_WARN, bits [8:8], RO. -/
def GC_STATUS_DRIFT_WARN : Fld := ⟨0x3F00100020, 8, 1, 0⟩
/-- GC_STATUS.HOLDOVER, bits [9:9], RO. -/
def GC_STATUS_HOLDOVER : Fld := ⟨0x3F00100020, 9, 1, 0⟩
/-- GC_STATUS.MARKER_LOST, bits [10:10], RO. -/
def GC_STATUS_MARKER_LOST : Fld := ⟨0x3F00100020, 10, 1, 0⟩
/-- GC_STATUS.CFG_REJECT, bits [16:16], W1C. -/
def GC_STATUS_CFG_REJECT : Fld := ⟨0x3F00100020, 16, 1, 0⟩
/-- GC_STATUS.TURN_WRAP, bits [17:17], W1C. -/
def GC_STATUS_TURN_WRAP : Fld := ⟨0x3F00100020, 17, 1, 0⟩
/-- GC_STATUS.SLIP, bits [18:18], W1C. -/
def GC_STATUS_SLIP : Fld := ⟨0x3F00100020, 18, 1, 0⟩

/-- GC_EPOCH.PHASE_EPOCH, bits [31:0], RO. -/
def GC_EPOCH_PHASE_EPOCH : Fld := ⟨0x3F00100024, 0, 32, 0⟩

/-- GC_NOW0.FINE, bits [5:0], RO. -/
def GC_NOW0_FINE : Fld := ⟨0x3F00100030, 0, 6, 0⟩
/-- GC_NOW0.SLOT, bits [31:16], RO. -/
def GC_NOW0_SLOT : Fld := ⟨0x3F00100030, 16, 16, 0⟩

/-- GC_NOW1.TURN_LO, bits [31:0], RO. -/
def GC_NOW1_TURN_LO : Fld := ⟨0x3F00100034, 0, 32, 0⟩

/-- GC_NOW2.TURN_HI, bits [15:0], RO. -/
def GC_NOW2_TURN_HI : Fld := ⟨0x3F00100038, 0, 16, 0⟩
/-- GC_NOW2.TQ, bits [17:16], RO. -/
def GC_NOW2_TQ : Fld := ⟨0x3F00100038, 16, 2, 0⟩

/-- GC_TURN_LOAD0.TURN_LO, bits [31:0], RW. -/
def GC_TURN_LOAD0_TURN_LO : Fld := ⟨0x3F00100040, 0, 32, 0⟩

/-- GC_TURN_LOAD1.TURN_HI, bits [15:0], RW. -/
def GC_TURN_LOAD1_TURN_HI : Fld := ⟨0x3F00100044, 0, 16, 0⟩
/-- GC_TURN_LOAD1.ARM, bits [31:31], W1S. -/
def GC_TURN_LOAD1_ARM : Fld := ⟨0x3F00100044, 31, 1, 0⟩

/-- GC_CNT_IDX.IDX, bits [2:0], RW. -/
def GC_CNT_IDX_IDX : Fld := ⟨0x3F00100050, 0, 3, 0⟩

/-- GC_CNT_LO.VALUE_LO, bits [31:0], RO. -/
def GC_CNT_LO_VALUE_LO : Fld := ⟨0x3F00100054, 0, 32, 0⟩

/-- GC_CNT_HI.VALUE_HI, bits [15:0], RO. -/
def GC_CNT_HI_VALUE_HI : Fld := ⟨0x3F00100058, 0, 16, 0⟩
/-- GC_CNT_HI.OVF, bits [31:31], W1C. -/
def GC_CNT_HI_OVF : Fld := ⟨0x3F00100058, 31, 1, 0⟩

/-- PB_INDEX.IDX, bits [11:0], RW. -/
def PB_INDEX_IDX : Fld := ⟨0x3F00100100, 0, 12, 0⟩

/-- PB_CMD.WRITE, bits [0:0], WO. -/
def PB_CMD_WRITE : Fld := ⟨0x3F00100104, 0, 1, 0⟩
/-- PB_CMD.READ, bits [1:1], WO. -/
def PB_CMD_READ : Fld := ⟨0x3F00100104, 1, 1, 0⟩
/-- PB_CMD.DONE, bits [8:8], RO. -/
def PB_CMD_DONE : Fld := ⟨0x3F00100104, 8, 1, 1⟩
/-- PB_CMD.ERR, bits [11:9], RO. -/
def PB_CMD_ERR : Fld := ⟨0x3F00100104, 9, 3, 0⟩

/-- CAL_NOW0.SEC, bits [5:0], RO. -/
def CAL_NOW0_SEC : Fld := ⟨0x3F00100200, 0, 6, 0⟩
/-- CAL_NOW0.MIN, bits [13:8], RO. -/
def CAL_NOW0_MIN : Fld := ⟨0x3F00100200, 8, 6, 0⟩
/-- CAL_NOW0.HOUR, bits [20:16], RO. -/
def CAL_NOW0_HOUR : Fld := ⟨0x3F00100200, 16, 5, 0⟩
/-- CAL_NOW0.DAY, bits [28:24], RO. -/
def CAL_NOW0_DAY : Fld := ⟨0x3F00100200, 24, 5, 1⟩

/-- CAL_NOW1.MONTH, bits [3:0], RO. -/
def CAL_NOW1_MONTH : Fld := ⟨0x3F00100204, 0, 4, 1⟩
/-- CAL_NOW1.YEAR, bits [19:8], RO. -/
def CAL_NOW1_YEAR : Fld := ⟨0x3F00100204, 8, 12, 0x7D0⟩
/-- CAL_NOW1.CAL_VALID, bits [28:28], RO. -/
def CAL_NOW1_CAL_VALID : Fld := ⟨0x3F00100204, 28, 1, 0⟩
/-- CAL_NOW1.CAL_END, bits [29:29], RO. -/
def CAL_NOW1_CAL_END : Fld := ⟨0x3F00100204, 29, 1, 0⟩
/-- CAL_NOW1.BAD_DATE, bits [30:30], W1C. -/
def CAL_NOW1_BAD_DATE : Fld := ⟨0x3F00100204, 30, 1, 0⟩

/-- CAL_LOAD.LOAD, bits [0:0], WO. -/
def CAL_LOAD_LOAD : Fld := ⟨0x3F00100218, 0, 1, 0⟩

/-- GC_MON.OFFSET, bits [15:0], RO. -/
def GC_MON_OFFSET (x : Nat) : Fld := ⟨0x3F00100028 + x * 4, 0, 16, 0⟩
/-- GC_MON.CLASS, bits [17:16], RO. -/
def GC_MON_CLASS (x : Nat) : Fld := ⟨0x3F00100028 + x * 4, 16, 2, 0⟩
/-- GC_MON.HEALTHY, bits [18:18], RO. -/
def GC_MON_HEALTHY (x : Nat) : Fld := ⟨0x3F00100028 + x * 4, 18, 1, 0⟩

/-- PB_DATA.DATA, bits [31:0], RW. -/
def PB_DATA_DATA (n : Nat) : Fld := ⟨0x3F00100110 + n * 4, 0, 32, 0⟩

/-- CAL_SET0.SEC, bits [5:0], RW. -/
def CAL_SET0_SEC : Fld := ⟨0x3F00100210, 0, 6, 0⟩
/-- CAL_SET0.MIN, bits [13:8], RW. -/
def CAL_SET0_MIN : Fld := ⟨0x3F00100210, 8, 6, 0⟩
/-- CAL_SET0.HOUR, bits [20:16], RW. -/
def CAL_SET0_HOUR : Fld := ⟨0x3F00100210, 16, 5, 0⟩
/-- CAL_SET0.DAY, bits [28:24], RW. -/
def CAL_SET0_DAY : Fld := ⟨0x3F00100210, 24, 5, 1⟩

/-- CAL_SET1.MONTH, bits [3:0], RW. -/
def CAL_SET1_MONTH : Fld := ⟨0x3F00100214, 0, 4, 1⟩
/-- CAL_SET1.YEAR, bits [19:8], RW. -/
def CAL_SET1_YEAR : Fld := ⟨0x3F00100214, 8, 12, 0x7D0⟩

/-- CLK_STATUS.GC_TPLL, bits [0:0], RO. -/
def CLK_STATUS_GC_TPLL : Fld := ⟨0x3F00200000, 0, 1, 0⟩
/-- CLK_STATUS.STANDBY_OK, bits [1:1], RO. -/
def CLK_STATUS_STANDBY_OK : Fld := ⟨0x3F00200000, 1, 1, 0⟩
/-- CLK_STATUS.XTAL_OK, bits [2:2], RO. -/
def CLK_STATUS_XTAL_OK : Fld := ⟨0x3F00200000, 2, 1, 0⟩
/-- CLK_STATUS.SYS_ON_RCO, bits [3:3], RO. -/
def CLK_STATUS_SYS_ON_RCO : Fld := ⟨0x3F00200000, 3, 1, 1⟩
/-- CLK_STATUS.LOL_ANY, bits [4:4], RO. -/
def CLK_STATUS_LOL_ANY : Fld := ⟨0x3F00200000, 4, 1, 0⟩
/-- CLK_STATUS.CFG_REJECT, bits [16:16], W1C. -/
def CLK_STATUS_CFG_REJECT : Fld := ⟨0x3F00200000, 16, 1, 0⟩
/-- CLK_STATUS.XTAL_FAULT, bits [17:17], W1C. -/
def CLK_STATUS_XTAL_FAULT : Fld := ⟨0x3F00200000, 17, 1, 0⟩
/-- CLK_STATUS.TAKEOVER, bits [18:18], W1C. -/
def CLK_STATUS_TAKEOVER : Fld := ⟨0x3F00200000, 18, 1, 0⟩

/-- GCLK_SEL.SRC, bits [7:0], RW. -/
def GCLK_SEL_SRC (g : Nat) : Fld := ⟨0x3F00200040 + g * 4, 0, 8, 0xFF⟩
/-- GCLK_SEL.DONE, bits [8:8], RO. -/
def GCLK_SEL_DONE (g : Nat) : Fld := ⟨0x3F00200040 + g * 4, 8, 1, 1⟩

/-- RCLK_SEL.SRC, bits [5:0], RW. -/
def RCLK_SEL_SRC (r : Nat) (l : Nat) : Fld := ⟨0x3F00202000 + r * 0x80 + l * 4, 0, 6, 0x3F⟩
/-- RCLK_SEL.DONE, bits [8:8], RO. -/
def RCLK_SEL_DONE (r : Nat) (l : Nat) : Fld := ⟨0x3F00202000 + r * 0x80 + l * 4, 8, 1, 1⟩

/-- PLL_CTRL.EN, bits [0:0], RW. -/
def PLL_CTRL_EN (p : Nat) : Fld := ⟨0x3F00200100 + p * 0x40, 0, 1, if p = 0 ∨ p = 1 ∨ p = 4 ∨ p = 5 then 1 else 0⟩
/-- PLL_CTRL.LOL_ACTION, bits [1:1], RW. -/
def PLL_CTRL_LOL_ACTION (p : Nat) : Fld := ⟨0x3F00200100 + p * 0x40, 1, 1, 0⟩
/-- PLL_CTRL.BW, bits [3:2], RW. -/
def PLL_CTRL_BW (p : Nat) : Fld := ⟨0x3F00200100 + p * 0x40, 2, 2, 0⟩
/-- PLL_CTRL.RELOCK, bits [4:4], WO. -/
def PLL_CTRL_RELOCK (p : Nat) : Fld := ⟨0x3F00200100 + p * 0x40, 4, 1, 0⟩
/-- PLL_CTRL.SRC, bits [10:8], RW. -/
def PLL_CTRL_SRC (p : Nat) : Fld := ⟨0x3F00200100 + p * 0x40, 8, 3, 0⟩
/-- PLL_CTRL.PIN, bits [17:12], RW. -/
def PLL_CTRL_PIN (p : Nat) : Fld := ⟨0x3F00200100 + p * 0x40, 12, 6, 0⟩

/-- PLL_DIV.N_M1, bits [3:0], RW. -/
def PLL_DIV_N_M1 (p : Nat) : Fld := ⟨0x3F00200104 + p * 0x40, 0, 4, 0⟩
/-- PLL_DIV.M_INT, bits [15:8], RW. -/
def PLL_DIV_M_INT (p : Nat) : Fld := ⟨0x3F00200104 + p * 0x40, 8, 8, 0x20⟩
/-- PLL_DIV.M_FRAC, bits [23:16], RW. -/
def PLL_DIV_M_FRAC (p : Nat) : Fld := ⟨0x3F00200104 + p * 0x40, 16, 8, 0⟩

/-- PLL_SSC.MODE, bits [1:0], RW. -/
def PLL_SSC_MODE (p : Nat) : Fld := ⟨0x3F0020010C + p * 0x40, 0, 2, 0⟩
/-- PLL_SSC.DEPTH, bits [8:2], RW. -/
def PLL_SSC_DEPTH (p : Nat) : Fld := ⟨0x3F0020010C + p * 0x40, 2, 7, 0⟩
/-- PLL_SSC.RATE, bits [24:16], RW. -/
def PLL_SSC_RATE (p : Nat) : Fld := ⟨0x3F0020010C + p * 0x40, 16, 9, 0x12C⟩

/-- PLL_OUT.DIV_M1, bits [6:0], RW. -/
def PLL_OUT_DIV_M1 (p : Nat) (n : Nat) : Fld := ⟨0x3F00200110 + p * 0x40 + n * 4, 0, 7, 0⟩
/-- PLL_OUT.OEN, bits [7:7], RW. -/
def PLL_OUT_OEN (p : Nat) (n : Nat) : Fld := ⟨0x3F00200110 + p * 0x40 + n * 4, 7, 1, 0⟩
/-- PLL_OUT.PHASE_FINE, bits [13:8], RW. -/
def PLL_OUT_PHASE_FINE (p : Nat) (n : Nat) : Fld := ⟨0x3F00200110 + p * 0x40 + n * 4, 8, 6, 0⟩
/-- PLL_OUT.TMUL_M1, bits [21:16], RW. -/
def PLL_OUT_TMUL_M1 (p : Nat) (n : Nat) : Fld := ⟨0x3F00200110 + p * 0x40 + n * 4, 16, 6, 0⟩
/-- PLL_OUT.TDIV_M1, bits [29:24], RW. -/
def PLL_OUT_TDIV_M1 (p : Nat) (n : Nat) : Fld := ⟨0x3F00200110 + p * 0x40 + n * 4, 24, 6, 0⟩

/-- PLL_STATUS.STATE, bits [1:0], RO. -/
def PLL_STATUS_STATE (p : Nat) : Fld := ⟨0x3F00200128 + p * 0x40, 0, 2, 0⟩
/-- PLL_STATUS.FREQ_BAD, bits [2:2], RO. -/
def PLL_STATUS_FREQ_BAD (p : Nat) : Fld := ⟨0x3F00200128 + p * 0x40, 2, 1, 0⟩
/-- PLL_STATUS.LOL, bits [8:8], W1C. -/
def PLL_STATUS_LOL (p : Nat) : Fld := ⟨0x3F00200128 + p * 0x40, 8, 1, 0⟩
/-- PLL_STATUS.CFG_REJECT, bits [9:9], W1C. -/
def PLL_STATUS_CFG_REJECT (p : Nat) : Fld := ⟨0x3F00200128 + p * 0x40, 9, 1, 0⟩
/-- PLL_STATUS.PHASE_FAIL, bits [10:10], W1C. -/
def PLL_STATUS_PHASE_FAIL (p : Nat) : Fld := ⟨0x3F00200128 + p * 0x40, 10, 1, 0⟩

/-- PLL_PHASE.ERR_PS, bits [7:0], RO. -/
def PLL_PHASE_ERR_PS (p : Nat) : Fld := ⟨0x3F0020012C + p * 0x40, 0, 8, 0⟩
/-- PLL_PHASE.PHASE_OK, bits [8:8], RO. -/
def PLL_PHASE_PHASE_OK (p : Nat) : Fld := ⟨0x3F0020012C + p * 0x40, 8, 1, 0⟩
/-- PLL_PHASE.LOCK_COUNT, bits [31:16], RO. -/
def PLL_PHASE_LOCK_COUNT (p : Nat) : Fld := ⟨0x3F0020012C + p * 0x40, 16, 16, 0⟩

/-- PLL_FREQ.FREQ_10KHZ, bits [21:0], RO. -/
def PLL_FREQ_FREQ_10KHZ (p : Nat) : Fld := ⟨0x3F00200130 + p * 0x40, 0, 22, 0⟩

/-- MID_CTRL.POLL_EN, bits [0:0], RW. -/
def MID_CTRL_POLL_EN : Fld := ⟨0x3F00D00000, 0, 1, 1⟩
/-- MID_CTRL.POLL_MS, bits [15:8], RW. -/
def MID_CTRL_POLL_MS : Fld := ⟨0x3F00D00000, 8, 8, 0x64⟩

/-- MID_BUS.EN, bits [0:0], RW. -/
def MID_BUS_EN (n : Nat) : Fld := ⟨0x3F00D00010 + n * 4, 0, 1, 1⟩
/-- MID_BUS.SPEED, bits [1:1], RW. -/
def MID_BUS_SPEED (n : Nat) : Fld := ⟨0x3F00D00010 + n * 4, 1, 1, 0⟩
/-- MID_BUS.SWITCH, bits [2:2], RW. -/
def MID_BUS_SWITCH (n : Nat) : Fld := ⟨0x3F00D00010 + n * 4, 2, 1, 0⟩
/-- MID_BUS.PRS_USE, bits [3:3], RW. -/
def MID_BUS_PRS_USE (n : Nat) : Fld := ⟨0x3F00D00010 + n * 4, 3, 1, 0⟩
/-- MID_BUS.SEG_MASK, bits [15:8], RW. -/
def MID_BUS_SEG_MASK (n : Nat) : Fld := ⟨0x3F00D00010 + n * 4, 8, 8, 0xFF⟩
/-- MID_BUS.BUS_STUCK, bits [16:16], W1C. -/
def MID_BUS_BUS_STUCK (n : Nat) : Fld := ⟨0x3F00D00010 + n * 4, 16, 1, 0⟩
/-- MID_BUS.PRS_LATCH, bits [17:17], W1C. -/
def MID_BUS_PRS_LATCH (n : Nat) : Fld := ⟨0x3F00D00010 + n * 4, 17, 1, 0⟩

/-- MID_MGMT.TADDR, bits [6:0], RW. -/
def MID_MGMT_TADDR : Fld := ⟨0x3F00D00020, 0, 7, 0x3C⟩

/-- MID_SITE.STATE, bits [2:0], RO. -/
def MID_SITE_STATE (s : Nat) : Fld := ⟨0x3F00D00100 + s * 4, 0, 3, 0⟩
/-- MID_SITE.OPT_CLASS, bits [5:4], RO. -/
def MID_SITE_OPT_CLASS (s : Nat) : Fld := ⟨0x3F00D00100 + s * 4, 4, 2, 0⟩
/-- MID_SITE.IMR_PRESENT, bits [6:6], RO. -/
def MID_SITE_IMR_PRESENT (s : Nat) : Fld := ⟨0x3F00D00100 + s * 4, 6, 1, 0⟩
/-- MID_SITE.OPT_PRESENT, bits [7:7], RO. -/
def MID_SITE_OPT_PRESENT (s : Nat) : Fld := ⟨0x3F00D00100 + s * 4, 7, 1, 0⟩
/-- MID_SITE.CHANGED, bits [8:8], W1C. -/
def MID_SITE_CHANGED (s : Nat) : Fld := ⟨0x3F00D00100 + s * 4, 8, 1, 0⟩
/-- MID_SITE.ACCEPTED, bits [9:9], RO. -/
def MID_SITE_ACCEPTED (s : Nat) : Fld := ⟨0x3F00D00100 + s * 4, 9, 1, 0⟩
/-- MID_SITE.TX_DIS, bits [10:10], RO. -/
def MID_SITE_TX_DIS (s : Nat) : Fld := ⟨0x3F00D00100 + s * 4, 10, 1, 1⟩
/-- MID_SITE.TEMP, bits [23:16], RO. -/
def MID_SITE_TEMP (s : Nat) : Fld := ⟨0x3F00D00100 + s * 4, 16, 8, 0x80⟩
/-- MID_SITE.TEMP_ALARM, bits [24:24], W1C. -/
def MID_SITE_TEMP_ALARM (s : Nat) : Fld := ⟨0x3F00D00100 + s * 4, 24, 1, 0⟩

/-- BOOT_STATUS.BOOTSEL, bits [1:0], RO. -/
def BOOT_STATUS_BOOTSEL : Fld := ⟨0x3F0080F000, 0, 2, 0⟩
/-- BOOT_STATUS.SLOT, bits [4:2], RO. -/
def BOOT_STATUS_SLOT : Fld := ⟨0x3F0080F000, 2, 3, 7⟩
/-- BOOT_STATUS.FALLBACK, bits [5:5], RO. -/
def BOOT_STATUS_FALLBACK : Fld := ⟨0x3F0080F000, 5, 1, 0⟩
/-- BOOT_STATUS.AUTOLIVE_OFF, bits [6:6], RO. -/
def BOOT_STATUS_AUTOLIVE_OFF : Fld := ⟨0x3F0080F000, 6, 1, 0⟩
/-- BOOT_STATUS.NO_LOCK, bits [7:7], RO. -/
def BOOT_STATUS_NO_LOCK : Fld := ⟨0x3F0080F000, 7, 1, 0⟩
/-- BOOT_STATUS.FW_SLOT, bits [8:8], RO. -/
def BOOT_STATUS_FW_SLOT : Fld := ⟨0x3F0080F000, 8, 1, 0⟩
/-- BOOT_STATUS.UNANCHORED, bits [9:9], RO. -/
def BOOT_STATUS_UNANCHORED : Fld := ⟨0x3F0080F000, 9, 1, 0⟩
/-- BOOT_STATUS.LAST_REASON, bits [23:16], RO. -/
def BOOT_STATUS_LAST_REASON : Fld := ⟨0x3F0080F000, 16, 8, 0⟩

/-- BOOT_REASON.GOLDEN, bits [7:0], RO. -/
def BOOT_REASON_GOLDEN : Fld := ⟨0x3F0080F004, 0, 8, 0⟩
/-- BOOT_REASON.IMAGE_A, bits [15:8], RO. -/
def BOOT_REASON_IMAGE_A : Fld := ⟨0x3F0080F004, 8, 8, 0⟩
/-- BOOT_REASON.IMAGE_B, bits [23:16], RO. -/
def BOOT_REASON_IMAGE_B : Fld := ⟨0x3F0080F004, 16, 8, 0⟩
/-- BOOT_REASON.FW0, bits [27:24], RO. -/
def BOOT_REASON_FW0 : Fld := ⟨0x3F0080F004, 24, 4, 0⟩
/-- BOOT_REASON.FW1, bits [31:28], RO. -/
def BOOT_REASON_FW1 : Fld := ⟨0x3F0080F004, 28, 4, 0⟩

/-- IMG_VERSION.VERSION, bits [31:0], RO. -/
def IMG_VERSION_VERSION : Fld := ⟨0x3F0080F008, 0, 32, 0⟩

/-- KEY_STATUS.EFUSE_KEY, bits [0:0], RO. -/
def KEY_STATUS_EFUSE_KEY : Fld := ⟨0x3F0080F00C, 0, 1, 0⟩
/-- KEY_STATUS.VBATT_KEY, bits [1:1], RO. -/
def KEY_STATUS_VBATT_KEY : Fld := ⟨0x3F0080F00C, 1, 1, 0⟩
/-- KEY_STATUS.REQUIRE_ENC, bits [2:2], RO. -/
def KEY_STATUS_REQUIRE_ENC : Fld := ⟨0x3F0080F00C, 2, 1, 0⟩
/-- KEY_STATUS.EFUSE_KEY_ONLY, bits [3:3], RO. -/
def KEY_STATUS_EFUSE_KEY_ONLY : Fld := ⟨0x3F0080F00C, 3, 1, 0⟩
/-- KEY_STATUS.HASHES, bits [7:4], RO. -/
def KEY_STATUS_HASHES : Fld := ⟨0x3F0080F00C, 4, 4, 0⟩
/-- KEY_STATUS.REVOKE, bits [11:8], RO. -/
def KEY_STATUS_REVOKE : Fld := ⟨0x3F0080F00C, 8, 4, 0⟩

/-- HUDDLE_STATUS.LINE, bits [0:0], RO. -/
def HUDDLE_STATUS_LINE : Fld := ⟨0x3F0080F010, 0, 1, 0⟩
/-- HUDDLE_STATUS.RELEASED, bits [1:1], RO. -/
def HUDDLE_STATUS_RELEASED : Fld := ⟨0x3F0080F010, 1, 1, 0⟩
/-- HUDDLE_STATUS.SEEN_HIGH, bits [2:2], RO. -/
def HUDDLE_STATUS_SEEN_HIGH : Fld := ⟨0x3F0080F010, 2, 1, 0⟩
/-- HUDDLE_STATUS.TIMEOUT, bits [3:3], RO. -/
def HUDDLE_STATUS_TIMEOUT : Fld := ⟨0x3F0080F010, 3, 1, 0⟩
/-- HUDDLE_STATUS.LOW_EVENTS, bits [31:16], RO. -/
def HUDDLE_STATUS_LOW_EVENTS : Fld := ⟨0x3F0080F010, 16, 16, 0⟩

/-- HUDDLE_TURN0.TURN_LO, bits [31:0], RO. -/
def HUDDLE_TURN0_TURN_LO : Fld := ⟨0x3F0080F014, 0, 32, 0⟩

/-- HUDDLE_TURN1.TURN_HI, bits [15:0], RO. -/
def HUDDLE_TURN1_TURN_HI : Fld := ⟨0x3F0080F018, 0, 16, 0⟩

/-- MB_DOORBELL.RING, bits [0:0], WO. -/
def MB_DOORBELL_RING (m : Nat) : Fld := ⟨0x3F00C01F80 + m * 0x2000, 0, 1, 0⟩

/-- MB_STATUS.BUSY, bits [0:0], RO. -/
def MB_STATUS_BUSY (m : Nat) : Fld := ⟨0x3F00C01F84 + m * 0x2000, 0, 1, 0⟩
/-- MB_STATUS.RSP_READY, bits [1:1], RO. -/
def MB_STATUS_RSP_READY (m : Nat) : Fld := ⟨0x3F00C01F84 + m * 0x2000, 1, 1, 0⟩
/-- MB_STATUS.DB_REJECT, bits [8:8], W1C. -/
def MB_STATUS_DB_REJECT (m : Nat) : Fld := ⟨0x3F00C01F84 + m * 0x2000, 8, 1, 0⟩
/-- MB_STATUS.WR_WHILE_BUSY, bits [9:9], W1C. -/
def MB_STATUS_WR_WHILE_BUSY (m : Nat) : Fld := ⟨0x3F00C01F84 + m * 0x2000, 9, 1, 0⟩
/-- MB_STATUS.RESET_SEEN, bits [10:10], W1C. -/
def MB_STATUS_RESET_SEEN (m : Nat) : Fld := ⟨0x3F00C01F84 + m * 0x2000, 10, 1, 0⟩
/-- MB_STATUS.CONS_BAD, bits [11:11], W1C. -/
def MB_STATUS_CONS_BAD (m : Nat) : Fld := ⟨0x3F00C01F84 + m * 0x2000, 11, 1, 0⟩

/-- MB_CTRL.RSP_IRQ_EN, bits [0:0], RW. -/
def MB_CTRL_RSP_IRQ_EN (m : Nat) : Fld := ⟨0x3F00C01F88 + m * 0x2000, 0, 1, 0⟩
/-- MB_CTRL.NOTICE_IRQ_EN, bits [1:1], RW. -/
def MB_CTRL_NOTICE_IRQ_EN (m : Nat) : Fld := ⟨0x3F00C01F88 + m * 0x2000, 1, 1, 0⟩

/-- MB_LAST.SEQ, bits [15:0], RO. -/
def MB_LAST_SEQ (m : Nat) : Fld := ⟨0x3F00C01F8C + m * 0x2000, 0, 16, 0⟩
/-- MB_LAST.STATUS, bits [31:16], RO. -/
def MB_LAST_STATUS (m : Nat) : Fld := ⟨0x3F00C01F8C + m * 0x2000, 16, 16, 0⟩

/-- NOTICE_PROD.PROD, bits [31:0], RO. -/
def NOTICE_PROD_PROD (m : Nat) : Fld := ⟨0x3F00C01F90 + m * 0x2000, 0, 32, 0⟩

/-- NOTICE_CONS.CONS, bits [31:0], RW. -/
def NOTICE_CONS_CONS (m : Nat) : Fld := ⟨0x3F00C01F94 + m * 0x2000, 0, 32, 0⟩

/-- NOTICE_DROP.DROPPED, bits [15:0], RO. -/
def NOTICE_DROP_DROPPED (m : Nat) : Fld := ⟨0x3F00C01F98 + m * 0x2000, 0, 16, 0⟩

/-- NOTICE_MASK.MASK, bits [8:0], RW. -/
def NOTICE_MASK_MASK (m : Nat) : Fld := ⟨0x3F00C01F9C + m * 0x2000, 0, 9, 0x1FF⟩

/-- MB_EXPERT.WIN_BASE, bits [9:0], RW. -/
def MB_EXPERT_WIN_BASE (m : Nat) : Fld := ⟨0x3F00C01FA0 + m * 0x2000, 0, 10, 0⟩
/-- MB_EXPERT.GRANTED, bits [16:16], RO. -/
def MB_EXPERT_GRANTED (m : Nat) : Fld := ⟨0x3F00C01FA0 + m * 0x2000, 16, 1, 0⟩
/-- MB_EXPERT.WRITE, bits [17:17], RO. -/
def MB_EXPERT_WRITE (m : Nat) : Fld := ⟨0x3F00C01FA0 + m * 0x2000, 17, 1, 0⟩
/-- MB_EXPERT.SCOPE, bits [28:24], RO. -/
def MB_EXPERT_SCOPE (m : Nat) : Fld := ⟨0x3F00C01FA0 + m * 0x2000, 24, 5, 0⟩

/-- EXPERT_VIOL.COUNT, bits [15:0], RO. -/
def EXPERT_VIOL_COUNT (m : Nat) : Fld := ⟨0x3F00C01FA4 + m * 0x2000, 0, 16, 0⟩
/-- EXPERT_VIOL.OVF, bits [31:31], W1C. -/
def EXPERT_VIOL_OVF (m : Nat) : Fld := ⟨0x3F00C01FA4 + m * 0x2000, 31, 1, 0⟩

/-- CLAIM_OWNER.OWNER0, bits [3:0], RO. -/
def CLAIM_OWNER_OWNER0 : Fld := ⟨0x3F00C30000, 0, 4, 0xF⟩
/-- CLAIM_OWNER.OWNER1, bits [7:4], RO. -/
def CLAIM_OWNER_OWNER1 : Fld := ⟨0x3F00C30000, 4, 4, 0xF⟩
/-- CLAIM_OWNER.OWNER2, bits [11:8], RO. -/
def CLAIM_OWNER_OWNER2 : Fld := ⟨0x3F00C30000, 8, 4, 0xF⟩
/-- CLAIM_OWNER.OWNER3, bits [15:12], RO. -/
def CLAIM_OWNER_OWNER3 : Fld := ⟨0x3F00C30000, 12, 4, 0xF⟩
/-- CLAIM_OWNER.OWNER4, bits [19:16], RO. -/
def CLAIM_OWNER_OWNER4 : Fld := ⟨0x3F00C30000, 16, 4, 0xF⟩
/-- CLAIM_OWNER.OWNER5, bits [23:20], RO. -/
def CLAIM_OWNER_OWNER5 : Fld := ⟨0x3F00C30000, 20, 4, 0xF⟩
/-- CLAIM_OWNER.OWNER6, bits [27:24], RO. -/
def CLAIM_OWNER_OWNER6 : Fld := ⟨0x3F00C30000, 24, 4, 0xF⟩

/-- FP_CTRL.ENABLE, bits [0:0], RW. -/
def FP_CTRL_ENABLE (r : Nat) : Fld := ⟨0x3F00820000 + r * 0x100, 0, 1, 0⟩
/-- FP_CTRL.CSR_EN, bits [1:1], RW. -/
def FP_CTRL_CSR_EN (r : Nat) : Fld := ⟨0x3F00820000 + r * 0x100, 1, 1, 0⟩
/-- FP_CTRL.CLK_LINE, bits [12:8], RW. -/
def FP_CTRL_CLK_LINE (r : Nat) : Fld := ⟨0x3F00820000 + r * 0x100, 8, 5, 0⟩
/-- FP_CTRL.TGT_TIMEOUT, bits [23:16], RW. -/
def FP_CTRL_TGT_TIMEOUT (r : Nat) : Fld := ⟨0x3F00820000 + r * 0x100, 16, 8, 0xA⟩
/-- FP_CTRL.ISOLATE, bits [24:24], WO. -/
def FP_CTRL_ISOLATE (r : Nat) : Fld := ⟨0x3F00820000 + r * 0x100, 24, 1, 0⟩
/-- FP_CTRL.RELEASE, bits [25:25], WO. -/
def FP_CTRL_RELEASE (r : Nat) : Fld := ⟨0x3F00820000 + r * 0x100, 25, 1, 0⟩

/-- FP_STATUS.STATE, bits [2:0], RO. -/
def FP_STATUS_STATE (r : Nat) : Fld := ⟨0x3F00820004 + r * 0x100, 0, 3, 0⟩
/-- FP_STATUS.CAUSE, bits [6:4], RO. -/
def FP_STATUS_CAUSE (r : Nat) : Fld := ⟨0x3F00820004 + r * 0x100, 4, 3, 0⟩
/-- FP_STATUS.OUTSTANDING, bits [14:8], RO. -/
def FP_STATUS_OUTSTANDING (r : Nat) : Fld := ⟨0x3F00820004 + r * 0x100, 8, 7, 0⟩
/-- FP_STATUS.TGT_TIMEOUT_EV, bits [16:16], W1C. -/
def FP_STATUS_TGT_TIMEOUT_EV (r : Nat) : Fld := ⟨0x3F00820004 + r * 0x100, 16, 1, 0⟩
/-- FP_STATUS.PROTO_ERR, bits [17:17], W1C. -/
def FP_STATUS_PROTO_ERR (r : Nat) : Fld := ⟨0x3F00820004 + r * 0x100, 17, 1, 0⟩
/-- FP_STATUS.CFG_REJECT, bits [18:18], W1C. -/
def FP_STATUS_CFG_REJECT (r : Nat) : Fld := ⟨0x3F00820004 + r * 0x100, 18, 1, 0⟩
/-- FP_STATUS.DR_UE, bits [19:19], W1C. -/
def FP_STATUS_DR_UE (r : Nat) : Fld := ⟨0x3F00820004 + r * 0x100, 19, 1, 0⟩
/-- FP_STATUS.TR_UE, bits [20:20], W1C. -/
def FP_STATUS_TR_UE (r : Nat) : Fld := ⟨0x3F00820004 + r * 0x100, 20, 1, 0⟩

/-- DR_UE_LOG.WORD, bits [14:0], RO. -/
def DR_UE_LOG_WORD (r : Nat) : Fld := ⟨0x3F00820040 + r * 0x100, 0, 15, 0⟩
/-- DR_UE_LOG.BLOCK, bits [19:16], RO. -/
def DR_UE_LOG_BLOCK (r : Nat) : Fld := ⟨0x3F00820040 + r * 0x100, 16, 4, 0⟩
/-- DR_UE_LOG.VALID, bits [23:23], RO. -/
def DR_UE_LOG_VALID (r : Nat) : Fld := ⟨0x3F00820040 + r * 0x100, 23, 1, 0⟩
/-- DR_UE_LOG.BYTES, bits [31:24], RO. -/
def DR_UE_LOG_BYTES (r : Nat) : Fld := ⟨0x3F00820040 + r * 0x100, 24, 8, 0⟩

/-- TR_UE_LOG.WORD, bits [8:0], RO. -/
def TR_UE_LOG_WORD (r : Nat) : Fld := ⟨0x3F00820044 + r * 0x100, 0, 9, 0⟩
/-- TR_UE_LOG.BLOCK, bits [21:16], RO. -/
def TR_UE_LOG_BLOCK (r : Nat) : Fld := ⟨0x3F00820044 + r * 0x100, 16, 6, 0⟩
/-- TR_UE_LOG.VALID, bits [31:31], RO. -/
def TR_UE_LOG_VALID (r : Nat) : Fld := ⟨0x3F00820044 + r * 0x100, 31, 1, 0⟩

/-- MEM_CTRL.DR_SCRUB_EN, bits [0:0], RW. -/
def MEM_CTRL_DR_SCRUB_EN (r : Nat) : Fld := ⟨0x3F00820048 + r * 0x100, 0, 1, 1⟩
/-- MEM_CTRL.TR_SCRUB_EN, bits [1:1], RW. -/
def MEM_CTRL_TR_SCRUB_EN (r : Nat) : Fld := ⟨0x3F00820048 + r * 0x100, 1, 1, 1⟩
/-- MEM_CTRL.DR_PASS, bits [23:16], RO. -/
def MEM_CTRL_DR_PASS (r : Nat) : Fld := ⟨0x3F00820048 + r * 0x100, 16, 8, 0⟩
/-- MEM_CTRL.TR_PASS, bits [31:24], RO. -/
def MEM_CTRL_TR_PASS (r : Nat) : Fld := ⟨0x3F00820048 + r * 0x100, 24, 8, 0⟩

/-- BEAT_CTRL.THR_EN, bits [0:0], RW. -/
def BEAT_CTRL_THR_EN (r : Nat) : Fld := ⟨0x3F0082004C + r * 0x100, 0, 1, 0⟩
/-- BEAT_CTRL.BEAT_LINE, bits [12:8], RW. -/
def BEAT_CTRL_BEAT_LINE (r : Nat) : Fld := ⟨0x3F0082004C + r * 0x100, 8, 5, 0⟩
/-- BEAT_CTRL.BEAT_DET, bits [16:16], RO. -/
def BEAT_CTRL_BEAT_DET (r : Nat) : Fld := ⟨0x3F0082004C + r * 0x100, 16, 1, 0⟩

/-- POWER.ON, bits [0:0], RO. -/
def POWER_ON (r : Nat) : Fld := ⟨0x3F00820050 + r * 0x100, 0, 1, 1⟩

/-- FAB_USER_LINE.REGION, bits [6:0], RW. -/
def FAB_USER_LINE_REGION (u : Nat) : Fld := ⟨0x3F00828000 + u * 4, 0, 7, 0x7F⟩
/-- FAB_USER_LINE.SIG, bits [10:8], RW. -/
def FAB_USER_LINE_SIG (u : Nat) : Fld := ⟨0x3F00828000 + u * 4, 8, 3, 0⟩

/-- FAB_USER_COMMIT.COMMIT, bits [0:0], WO. -/
def FAB_USER_COMMIT_COMMIT : Fld := ⟨0x3F00828100, 0, 1, 0⟩
/-- FAB_USER_COMMIT.HELD, bits [8:8], RO. -/
def FAB_USER_COMMIT_HELD : Fld := ⟨0x3F00828100, 8, 1, 0⟩
/-- FAB_USER_COMMIT.ARMED, bits [9:9], RO. -/
def FAB_USER_COMMIT_ARMED : Fld := ⟨0x3F00828100, 9, 1, 0⟩

/-- CFG_CTRL.DRAIN_LEAD, bits [11:0], RW. -/
def CFG_CTRL_DRAIN_LEAD : Fld := ⟨0x3F00800000, 0, 12, 0x40⟩
/-- CFG_CTRL.READBACK_EN, bits [16:16], RW. -/
def CFG_CTRL_READBACK_EN : Fld := ⟨0x3F00800000, 16, 1, 0⟩

/-- CFG_STATUS.LOAD_BUSY, bits [0:0], RO. -/
def CFG_STATUS_LOAD_BUSY : Fld := ⟨0x3F00800004, 0, 1, 0⟩
/-- CFG_STATUS.LOAD_REGION, bits [7:1], RO. -/
def CFG_STATUS_LOAD_REGION : Fld := ⟨0x3F00800004, 1, 7, 0⟩
/-- CFG_STATUS.LOAD_SRC, bits [10:8], RO. -/
def CFG_STATUS_LOAD_SRC : Fld := ⟨0x3F00800004, 8, 3, 0⟩
/-- CFG_STATUS.CFG_REJECT, bits [16:16], W1C. -/
def CFG_STATUS_CFG_REJECT : Fld := ⟨0x3F00800004, 16, 1, 0⟩
/-- CFG_STATUS.RB_DENIED, bits [17:17], W1C. -/
def CFG_STATUS_RB_DENIED : Fld := ⟨0x3F00800004, 17, 1, 0⟩
/-- CFG_STATUS.SWAP_REFUSED, bits [18:18], W1C. -/
def CFG_STATUS_SWAP_REFUSED : Fld := ⟨0x3F00800004, 18, 1, 0⟩
/-- CFG_STATUS.SWAP_LATE, bits [19:19], W1C. -/
def CFG_STATUS_SWAP_LATE : Fld := ⟨0x3F00800004, 19, 1, 0⟩

/-- ICP_CTRL.EN, bits [0:0], RW. -/
def ICP_CTRL_EN : Fld := ⟨0x3F00800010, 0, 1, 0⟩
/-- ICP_CTRL.REGION, bits [14:8], RW. -/
def ICP_CTRL_REGION : Fld := ⟨0x3F00800010, 8, 7, 0x7F⟩
/-- ICP_CTRL.CLK_LINE, bits [20:16], RW. -/
def ICP_CTRL_CLK_LINE : Fld := ⟨0x3F00800010, 16, 5, 0⟩

/-- ICP_STATUS.BUSY, bits [0:0], RO. -/
def ICP_STATUS_BUSY : Fld := ⟨0x3F00800014, 0, 1, 0⟩
/-- ICP_STATUS.OP, bits [7:4], RO. -/
def ICP_STATUS_OP : Fld := ⟨0x3F00800014, 4, 4, 0⟩
/-- ICP_STATUS.ABORTED, bits [16:16], W1C. -/
def ICP_STATUS_ABORTED : Fld := ⟨0x3F00800014, 16, 1, 0⟩
/-- ICP_STATUS.BAD_WORD, bits [17:17], W1C. -/
def ICP_STATUS_BAD_WORD : Fld := ⟨0x3F00800014, 17, 1, 0⟩

/-- RGN_STATUS.ACTIVE_PLANE, bits [0:0], RO. -/
def RGN_STATUS_ACTIVE_PLANE (r : Nat) : Fld := ⟨0x3F00810000 + r * 0x20, 0, 1, 0⟩
/-- RGN_STATUS.SHADOW_STATE, bits [3:2], RO. -/
def RGN_STATUS_SHADOW_STATE (r : Nat) : Fld := ⟨0x3F00810000 + r * 0x20, 2, 2, 0⟩
/-- RGN_STATUS.ACTIVE_SRC, bits [6:4], RO. -/
def RGN_STATUS_ACTIVE_SRC (r : Nat) : Fld := ⟨0x3F00810000 + r * 0x20, 4, 3, 0⟩
/-- RGN_STATUS.SHADOW_SRC, bits [10:8], RO. -/
def RGN_STATUS_SHADOW_SRC (r : Nat) : Fld := ⟨0x3F00810000 + r * 0x20, 8, 3, 0⟩
/-- RGN_STATUS.FENCED, bits [12:12], RO. -/
def RGN_STATUS_FENCED (r : Nat) : Fld := ⟨0x3F00810000 + r * 0x20, 12, 1, 0⟩
/-- RGN_STATUS.REPAIR_PENDING, bits [13:13], RO. -/
def RGN_STATUS_REPAIR_PENDING (r : Nat) : Fld := ⟨0x3F00810000 + r * 0x20, 13, 1, 0⟩
/-- RGN_STATUS.REPAIR_FAILED, bits [14:14], RO. -/
def RGN_STATUS_REPAIR_FAILED (r : Nat) : Fld := ⟨0x3F00810000 + r * 0x20, 14, 1, 0⟩
/-- RGN_STATUS.ACTIVE_SLOT, bits [21:16], RO. -/
def RGN_STATUS_ACTIVE_SLOT (r : Nat) : Fld := ⟨0x3F00810000 + r * 0x20, 16, 6, 0x3F⟩
/-- RGN_STATUS.SHADOW_SLOT, bits [29:24], RO. -/
def RGN_STATUS_SHADOW_SLOT (r : Nat) : Fld := ⟨0x3F00810000 + r * 0x20, 24, 6, 0x3F⟩
/-- RGN_STATUS.ACTIVE_ENC, bits [30:30], RO. -/
def RGN_STATUS_ACTIVE_ENC (r : Nat) : Fld := ⟨0x3F00810000 + r * 0x20, 30, 1, 0⟩
/-- RGN_STATUS.SHADOW_ENC, bits [31:31], RO. -/
def RGN_STATUS_SHADOW_ENC (r : Nat) : Fld := ⟨0x3F00810000 + r * 0x20, 31, 1, 0⟩

/-- RGN_CFG.FENCE_POLICY, bits [1:0], RW. -/
def RGN_CFG_FENCE_POLICY (r : Nat) : Fld := ⟨0x3F00810004 + r * 0x20, 0, 2, 0⟩

/-- RGN_SWAPS.SWAPS, bits [15:0], RO. -/
def RGN_SWAPS_SWAPS (r : Nat) : Fld := ⟨0x3F00810008 + r * 0x20, 0, 16, 0⟩
/-- RGN_SWAPS.LAST_REASON, bits [23:16], RO. -/
def RGN_SWAPS_LAST_REASON (r : Nat) : Fld := ⟨0x3F00810008 + r * 0x20, 16, 8, 0⟩

/-- SCRUB_CTRL.ACTIVE_EN, bits [0:0], RW. -/
def SCRUB_CTRL_ACTIVE_EN : Fld := ⟨0x3F00840000, 0, 1, 1⟩
/-- SCRUB_CTRL.SHADOW_EN, bits [1:1], RW. -/
def SCRUB_CTRL_SHADOW_EN : Fld := ⟨0x3F00840000, 1, 1, 1⟩
/-- SCRUB_CTRL.REPAIR_EN, bits [2:2], RW. -/
def SCRUB_CTRL_REPAIR_EN : Fld := ⟨0x3F00840000, 2, 1, 1⟩
/-- SCRUB_CTRL.SELFTEST_EN, bits [3:3], RW. -/
def SCRUB_CTRL_SELFTEST_EN : Fld := ⟨0x3F00840000, 3, 1, 1⟩

/-- SCRUB_STATUS.LAST_ACTIVE_US, bits [11:0], RO. -/
def SCRUB_STATUS_LAST_ACTIVE_US : Fld := ⟨0x3F00840004, 0, 12, 0⟩
/-- SCRUB_STATUS.LAST_SHADOW_100US, bits [23:16], RO. -/
def SCRUB_STATUS_LAST_SHADOW_100US : Fld := ⟨0x3F00840004, 16, 8, 0⟩
/-- SCRUB_STATUS.FAULT, bits [28:28], W1C. -/
def SCRUB_STATUS_FAULT : Fld := ⟨0x3F00840004, 28, 1, 0⟩
/-- SCRUB_STATUS.LAPSED, bits [29:29], RO. -/
def SCRUB_STATUS_LAPSED : Fld := ⟨0x3F00840004, 29, 1, 0⟩

/-- SCRUB_PASSES.ACTIVE, bits [15:0], RO. -/
def SCRUB_PASSES_ACTIVE : Fld := ⟨0x3F00840008, 0, 16, 0⟩
/-- SCRUB_PASSES.SHADOW, bits [31:16], RO. -/
def SCRUB_PASSES_SHADOW : Fld := ⟨0x3F00840008, 16, 16, 0⟩

/-- SCRUB_UE_LOG.FRAME, bits [11:0], RO. -/
def SCRUB_UE_LOG_FRAME : Fld := ⟨0x3F0084000C, 0, 12, 0⟩
/-- SCRUB_UE_LOG.REGION, bits [18:12], RO. -/
def SCRUB_UE_LOG_REGION : Fld := ⟨0x3F0084000C, 12, 7, 0⟩
/-- SCRUB_UE_LOG.ROLE, bits [19:19], RO. -/
def SCRUB_UE_LOG_ROLE : Fld := ⟨0x3F0084000C, 19, 1, 0⟩
/-- SCRUB_UE_LOG.KIND, bits [21:20], RO. -/
def SCRUB_UE_LOG_KIND : Fld := ⟨0x3F0084000C, 20, 2, 0⟩
/-- SCRUB_UE_LOG.VALID, bits [31:31], W1C. -/
def SCRUB_UE_LOG_VALID : Fld := ⟨0x3F0084000C, 31, 1, 0⟩

/-- NOC_CTRL.ECC_EN, bits [0:0], RW. -/
def NOC_CTRL_ECC_EN : Fld := ⟨0x3F00500000, 0, 1, 1⟩
/-- NOC_CTRL.AUDIT_EN, bits [1:1], RW. -/
def NOC_CTRL_AUDIT_EN : Fld := ⟨0x3F00500000, 1, 1, 1⟩
/-- NOC_CTRL.RSP_TIMEOUT, bits [31:16], RW. -/
def NOC_CTRL_RSP_TIMEOUT : Fld := ⟨0x3F00500000, 16, 16, 0x3E8⟩

/-- NOC_STATUS.LINK_FAIL, bits [0:0], RO. -/
def NOC_STATUS_LINK_FAIL : Fld := ⟨0x3F00500004, 0, 1, 0⟩
/-- NOC_STATUS.CFG_REJECT, bits [16:16], W1C. -/
def NOC_STATUS_CFG_REJECT : Fld := ⟨0x3F00500004, 16, 1, 0⟩
/-- NOC_STATUS.CREDIT_FIX, bits [17:17], W1C. -/
def NOC_STATUS_CREDIT_FIX : Fld := ⟨0x3F00500004, 17, 1, 0⟩
/-- NOC_STATUS.CREDIT_PARITY, bits [18:18], W1C. -/
def NOC_STATUS_CREDIT_PARITY : Fld := ⟨0x3F00500004, 18, 1, 0⟩
/-- NOC_STATUS.MISROUTE, bits [19:19], W1C. -/
def NOC_STATUS_MISROUTE : Fld := ⟨0x3F00500004, 19, 1, 0⟩
/-- NOC_STATUS.PAYLOAD_UE, bits [20:20], W1C. -/
def NOC_STATUS_PAYLOAD_UE : Fld := ⟨0x3F00500004, 20, 1, 0⟩

/-- LINK_FAIL_LOG.ROUTER, bits [5:0], RO. -/
def LINK_FAIL_LOG_ROUTER : Fld := ⟨0x3F00500008, 0, 6, 0⟩
/-- LINK_FAIL_LOG.PORT, bits [10:8], RO. -/
def LINK_FAIL_LOG_PORT : Fld := ⟨0x3F00500008, 8, 3, 0⟩
/-- LINK_FAIL_LOG.VALID, bits [31:31], W1C. -/
def LINK_FAIL_LOG_VALID : Fld := ⟨0x3F00500008, 31, 1, 0⟩

/-- NOC_CNT_IDX.IDX, bits [3:0], RW. -/
def NOC_CNT_IDX_IDX : Fld := ⟨0x3F00500010, 0, 4, 0⟩

/-- NOC_QOS.WGT, bits [3:0], RW. -/
def NOC_QOS_WGT (n : Nat) : Fld := ⟨0x3F00500100 + n * 4, 0, 4, 4⟩

/-- TRES_CFG0.SRC, bits [6:0], RW. -/
def TRES_CFG0_SRC (r : Nat) : Fld := ⟨0x3F00500400 + r * 0x10, 0, 7, 0⟩
/-- TRES_CFG0.DEST, bits [14:8], RW. -/
def TRES_CFG0_DEST (r : Nat) : Fld := ⟨0x3F00500400 + r * 0x10, 8, 7, 0⟩
/-- TRES_CFG0.QUOTA, bits [19:16], RW. -/
def TRES_CFG0_QUOTA (r : Nat) : Fld := ⟨0x3F00500400 + r * 0x10, 16, 4, 1⟩
/-- TRES_CFG0.DELAY, bits [31:24], RW. -/
def TRES_CFG0_DELAY (r : Nat) : Fld := ⟨0x3F00500400 + r * 0x10, 24, 8, 1⟩

/-- TRES_CFG1.DURATION, bits [15:0], RW. -/
def TRES_CFG1_DURATION (r : Nat) : Fld := ⟨0x3F00500404 + r * 0x10, 0, 16, 1⟩
/-- TRES_CFG1.HOLD_KEEP, bits [16:16], RW. -/
def TRES_CFG1_HOLD_KEEP (r : Nat) : Fld := ⟨0x3F00500404 + r * 0x10, 16, 1, 0⟩
/-- TRES_CFG1.EN, bits [31:31], RW. -/
def TRES_CFG1_EN (r : Nat) : Fld := ⟨0x3F00500404 + r * 0x10, 31, 1, 0⟩

/-- TRES_STATUS.OPEN, bits [0:0], RO. -/
def TRES_STATUS_OPEN (r : Nat) : Fld := ⟨0x3F00500408 + r * 0x10, 0, 1, 0⟩
/-- TRES_STATUS.MIN_DELAY, bits [15:8], RO. -/
def TRES_STATUS_MIN_DELAY (r : Nat) : Fld := ⟨0x3F00500408 + r * 0x10, 8, 8, 0⟩
/-- TRES_STATUS.REMAIN, bits [31:16], RO. -/
def TRES_STATUS_REMAIN (r : Nat) : Fld := ⟨0x3F00500408 + r * 0x10, 16, 16, 0⟩

/-- PROBE_CFG.EN, bits [0:0], RW. -/
def PROBE_CFG_EN (p : Nat) : Fld := ⟨0x3F00580000 + p * 0x20, 0, 1, 0⟩
/-- PROBE_CFG.TRACE_EN, bits [1:1], RW. -/
def PROBE_CFG_TRACE_EN (p : Nat) : Fld := ⟨0x3F00580000 + p * 0x20, 1, 1, 0⟩
/-- PROBE_CFG.MODE, bits [3:2], RW. -/
def PROBE_CFG_MODE (p : Nat) : Fld := ⟨0x3F00580000 + p * 0x20, 2, 2, 0⟩
/-- PROBE_CFG.DIR, bits [4:4], RW. -/
def PROBE_CFG_DIR (p : Nat) : Fld := ⟨0x3F00580000 + p * 0x20, 4, 1, 0⟩
/-- PROBE_CFG.FREEZE_ON_HALT, bits [5:5], RW. -/
def PROBE_CFG_FREEZE_ON_HALT (p : Nat) : Fld := ⟨0x3F00580000 + p * 0x20, 5, 1, 0⟩
/-- PROBE_CFG.ASLEEP, bits [6:6], RO. -/
def PROBE_CFG_ASLEEP (p : Nat) : Fld := ⟨0x3F00580000 + p * 0x20, 6, 1, 0⟩
/-- PROBE_CFG.ROUTER, bits [13:8], RW. -/
def PROBE_CFG_ROUTER (p : Nat) : Fld := ⟨0x3F00580000 + p * 0x20, 8, 6, 0⟩
/-- PROBE_CFG.PORT, bits [18:16], RW. -/
def PROBE_CFG_PORT (p : Nat) : Fld := ⟨0x3F00580000 + p * 0x20, 16, 3, 0⟩
/-- PROBE_CFG.VC_MASK, bits [23:20], RW. -/
def PROBE_CFG_VC_MASK (p : Nat) : Fld := ⟨0x3F00580000 + p * 0x20, 20, 4, 0xF⟩
/-- PROBE_CFG.OP_MASK, bits [31:24], RW. -/
def PROBE_CFG_OP_MASK (p : Nat) : Fld := ⟨0x3F00580000 + p * 0x20, 24, 8, 0xFF⟩

/-- PROBE_NODE.SRC, bits [6:0], RW. -/
def PROBE_NODE_SRC (p : Nat) : Fld := ⟨0x3F00580004 + p * 0x20, 0, 7, 0⟩
/-- PROBE_NODE.THRESH_LO, bits [7:7], RW. -/
def PROBE_NODE_THRESH_LO (p : Nat) : Fld := ⟨0x3F00580004 + p * 0x20, 7, 1, 0⟩
/-- PROBE_NODE.SRC_MASK, bits [14:8], RW. -/
def PROBE_NODE_SRC_MASK (p : Nat) : Fld := ⟨0x3F00580004 + p * 0x20, 8, 7, 0⟩
/-- PROBE_NODE.THRESH_HI, bits [15:15], RW. -/
def PROBE_NODE_THRESH_HI (p : Nat) : Fld := ⟨0x3F00580004 + p * 0x20, 15, 1, 0⟩
/-- PROBE_NODE.DEST, bits [22:16], RW. -/
def PROBE_NODE_DEST (p : Nat) : Fld := ⟨0x3F00580004 + p * 0x20, 16, 7, 0⟩
/-- PROBE_NODE.DEST_MASK, bits [30:24], RW. -/
def PROBE_NODE_DEST_MASK (p : Nat) : Fld := ⟨0x3F00580004 + p * 0x20, 24, 7, 0⟩

/-- PROBE_ADDR_LO.ADDR, bits [31:0], RW. -/
def PROBE_ADDR_LO_ADDR (p : Nat) : Fld := ⟨0x3F00580008 + p * 0x20, 0, 32, 0⟩

/-- PROBE_ADDR_HI.ADDR, bits [31:0], RW. -/
def PROBE_ADDR_HI_ADDR (p : Nat) : Fld := ⟨0x3F0058000C + p * 0x20, 0, 32, 0xFFFFFFFF⟩

/-- PTRACE_CTRL.WRAP, bits [0:0], RW. -/
def PTRACE_CTRL_WRAP : Fld := ⟨0x3F00580800, 0, 1, 1⟩
/-- PTRACE_CTRL.RESTART, bits [1:1], WO. -/
def PTRACE_CTRL_RESTART : Fld := ⟨0x3F00580800, 1, 1, 0⟩

/-- PTRACE_STATUS.WPTR, bits [10:0], RO. -/
def PTRACE_STATUS_WPTR : Fld := ⟨0x3F00580804, 0, 11, 0⟩
/-- PTRACE_STATUS.FULL, bits [16:16], RO. -/
def PTRACE_STATUS_FULL : Fld := ⟨0x3F00580804, 16, 1, 0⟩
/-- PTRACE_STATUS.WRAPPED, bits [17:17], W1C. -/
def PTRACE_STATUS_WRAPPED : Fld := ⟨0x3F00580804, 17, 1, 0⟩

/-- PASS_CTRL.EN, bits [0:0], RW. -/
def PASS_CTRL_EN (n : Nat) : Fld := ⟨0x3F005C0000 + n * 0x40, 0, 1, 0⟩
/-- PASS_CTRL.ABORT, bits [1:1], WO. -/
def PASS_CTRL_ABORT (n : Nat) : Fld := ⟨0x3F005C0000 + n * 0x40, 1, 1, 0⟩
/-- PASS_CTRL.IRQ_EN, bits [2:2], RW. -/
def PASS_CTRL_IRQ_EN (n : Nat) : Fld := ⟨0x3F005C0000 + n * 0x40, 2, 1, 0⟩
/-- PASS_CTRL.FREEZE_ON_HALT, bits [3:3], RW. -/
def PASS_CTRL_FREEZE_ON_HALT (n : Nat) : Fld := ⟨0x3F005C0000 + n * 0x40, 3, 1, 0⟩
/-- PASS_CTRL.RING_LOG2, bits [11:8], RW. -/
def PASS_CTRL_RING_LOG2 (n : Nat) : Fld := ⟨0x3F005C0000 + n * 0x40, 8, 4, 4⟩

/-- PASS_RING_LO.BASE, bits [31:5], RW. -/
def PASS_RING_LO_BASE (n : Nat) : Fld := ⟨0x3F005C0004 + n * 0x40, 5, 27, 0⟩

/-- PASS_RING_HI.BASE, bits [7:0], RW. -/
def PASS_RING_HI_BASE (n : Nat) : Fld := ⟨0x3F005C0008 + n * 0x40, 0, 8, 0⟩

/-- PASS_IDX.PROD, bits [11:0], RW. -/
def PASS_IDX_PROD (n : Nat) : Fld := ⟨0x3F005C000C + n * 0x40, 0, 12, 0⟩
/-- PASS_IDX.CONS, bits [27:16], RO. -/
def PASS_IDX_CONS (n : Nat) : Fld := ⟨0x3F005C000C + n * 0x40, 16, 12, 0⟩

/-- PASS_STATUS.STATE, bits [1:0], RO. -/
def PASS_STATUS_STATE (n : Nat) : Fld := ⟨0x3F005C0010 + n * 0x40, 0, 2, 0⟩
/-- PASS_STATUS.ERR, bits [3:2], RO. -/
def PASS_STATUS_ERR (n : Nat) : Fld := ⟨0x3F005C0010 + n * 0x40, 2, 2, 0⟩
/-- PASS_STATUS.INFLIGHT, bits [13:8], RO. -/
def PASS_STATUS_INFLIGHT (n : Nat) : Fld := ⟨0x3F005C0010 + n * 0x40, 8, 6, 0⟩
/-- PASS_STATUS.ERR_INDEX, bits [27:16], RO. -/
def PASS_STATUS_ERR_INDEX (n : Nat) : Fld := ⟨0x3F005C0010 + n * 0x40, 16, 12, 0⟩
/-- PASS_STATUS.COMPLETE, bits [28:28], W1C. -/
def PASS_STATUS_COMPLETE (n : Nat) : Fld := ⟨0x3F005C0010 + n * 0x40, 28, 1, 0⟩
/-- PASS_STATUS.ABORTED, bits [29:29], W1C. -/
def PASS_STATUS_ABORTED (n : Nat) : Fld := ⟨0x3F005C0010 + n * 0x40, 29, 1, 0⟩

/-- DQ_STATUS.STORE_FULL, bits [0:0], W1C. -/
def DQ_STATUS_STORE_FULL : Fld := ⟨0x3F00400000, 0, 1, 0⟩
/-- DQ_STATUS.PROTO_ERR, bits [1:1], W1C. -/
def DQ_STATUS_PROTO_ERR : Fld := ⟨0x3F00400000, 1, 1, 0⟩
/-- DQ_STATUS.CFG_REJECT, bits [2:2], W1C. -/
def DQ_STATUS_CFG_REJECT : Fld := ⟨0x3F00400000, 2, 1, 0⟩
/-- DQ_STATUS.STORE_CE, bits [31:16], RO. -/
def DQ_STATUS_STORE_CE : Fld := ⟨0x3F00400000, 16, 16, 0⟩

/-- DQ_FREE.FREE_CELLS, bits [17:0], RO. -/
def DQ_FREE_FREE_CELLS : Fld := ⟨0x3F00400004, 0, 18, 0x20000⟩

/-- DQ_SPILL_DATA_LO.BASE, bits [31:12], RW. -/
def DQ_SPILL_DATA_LO_BASE : Fld := ⟨0x3F00400010, 12, 20, 0⟩

/-- DQ_SPILL_DATA_HI.BASE, bits [7:0], RW. -/
def DQ_SPILL_DATA_HI_BASE : Fld := ⟨0x3F00400014, 0, 8, 0⟩

/-- DQ_SPILL_META_LO.BASE, bits [31:12], RW. -/
def DQ_SPILL_META_LO_BASE : Fld := ⟨0x3F00400018, 12, 20, 0⟩

/-- DQ_SPILL_META_HI.BASE, bits [7:0], RW. -/
def DQ_SPILL_META_HI_BASE : Fld := ⟨0x3F0040001C, 0, 8, 0⟩

/-- DQ_SPILL_USED.USED, bits [19:0], RO. -/
def DQ_SPILL_USED_USED : Fld := ⟨0x3F00400024, 0, 20, 0⟩

/-- DQ_SPILL_CTRL.CHUNKS, bits [19:0], RW. -/
def DQ_SPILL_CTRL_CHUNKS : Fld := ⟨0x3F00400020, 0, 20, 0⟩

/-- DQ_CNT_SEL.Q, bits [11:0], RW. -/
def DQ_CNT_SEL_Q : Fld := ⟨0x3F00400030, 0, 12, 0⟩
/-- DQ_CNT_SEL.IDX, bits [18:16], RW. -/
def DQ_CNT_SEL_IDX : Fld := ⟨0x3F00400030, 16, 3, 0⟩
/-- DQ_CNT_SEL.CLR, bits [31:31], WO. -/
def DQ_CNT_SEL_CLR : Fld := ⟨0x3F00400030, 31, 1, 0⟩

/-- DQ_GRP_PEND.PEND, bits [31:0], RO. -/
def DQ_GRP_PEND_PEND (h : Nat) : Fld := ⟨0x3F00400040 + h * 4, 0, 32, 0⟩

/-- DQ_FIF.EN, bits [0:0], RW. -/
def DQ_FIF_EN (r : Nat) : Fld := ⟨0x3F00400100 + r * 4, 0, 1, 0⟩
/-- DQ_FIF.CLK_LINE, bits [12:8], RW. -/
def DQ_FIF_CLK_LINE (r : Nat) : Fld := ⟨0x3F00400100 + r * 4, 8, 5, 0⟩

/-- QCFG.EN, bits [0:0], RW. -/
def QCFG_EN (q : Nat) : Fld := ⟨0x3F00410000 + q * 0x40, 0, 1, 0⟩
/-- QCFG.CLASS, bits [1:1], RW. -/
def QCFG_CLASS (q : Nat) : Fld := ⟨0x3F00410000 + q * 0x40, 1, 1, 0⟩
/-- QCFG.PKT_MODE, bits [2:2], RW. -/
def QCFG_PKT_MODE (q : Nat) : Fld := ⟨0x3F00410000 + q * 0x40, 2, 1, 0⟩
/-- QCFG.CUT_THROUGH, bits [3:3], RW. -/
def QCFG_CUT_THROUGH (q : Nat) : Fld := ⟨0x3F00410000 + q * 0x40, 3, 1, 0⟩
/-- QCFG.SPILL_EN, bits [4:4], RW. -/
def QCFG_SPILL_EN (q : Nat) : Fld := ⟨0x3F00410000 + q * 0x40, 4, 1, 0⟩
/-- QCFG.POLICY, bits [7:6], RW. -/
def QCFG_POLICY (q : Nat) : Fld := ⟨0x3F00410000 + q * 0x40, 6, 2, 0⟩
/-- QCFG.CONSUMER, bits [9:8], RW. -/
def QCFG_CONSUMER (q : Nat) : Fld := ⟨0x3F00410000 + q * 0x40, 8, 2, 0⟩
/-- QCFG.CONS_ID, bits [22:16], RW. -/
def QCFG_CONS_ID (q : Nat) : Fld := ⟨0x3F00410000 + q * 0x40, 16, 7, 0⟩
/-- QCFG.PRIO, bits [26:24], RW. -/
def QCFG_PRIO (q : Nat) : Fld := ⟨0x3F00410000 + q * 0x40, 24, 3, 0⟩
/-- QCFG.WEIGHT, bits [31:28], RW. -/
def QCFG_WEIGHT (q : Nat) : Fld := ⟨0x3F00410000 + q * 0x40, 28, 4, 1⟩

/-- QDEPTH.DEPTH_MAX, bits [15:0], RW. -/
def QDEPTH_DEPTH_MAX (q : Nat) : Fld := ⟨0x3F00410004 + q * 0x40, 0, 16, 0x40⟩
/-- QDEPTH.RESERVE, bits [31:16], RW. -/
def QDEPTH_RESERVE (q : Nat) : Fld := ⟨0x3F00410004 + q * 0x40, 16, 16, 0⟩

/-- QWM.HI_WM, bits [15:0], RW. -/
def QWM_HI_WM (q : Nat) : Fld := ⟨0x3F00410008 + q * 0x40, 0, 16, 0⟩
/-- QWM.LO_WM, bits [31:16], RW. -/
def QWM_LO_WM (q : Nat) : Fld := ⟨0x3F00410008 + q * 0x40, 16, 16, 0⟩

/-- QAGE.AGE_TURNS, bits [15:0], RW. -/
def QAGE_AGE_TURNS (q : Nat) : Fld := ⟨0x3F0041000C + q * 0x40, 0, 16, 0⟩

/-- QSTATE.DEPTH, bits [15:0], RO. -/
def QSTATE_DEPTH (q : Nat) : Fld := ⟨0x3F00410010 + q * 0x40, 0, 16, 0⟩
/-- QSTATE.RELEASED, bits [31:16], RO. -/
def QSTATE_RELEASED (q : Nat) : Fld := ⟨0x3F00410010 + q * 0x40, 16, 16, 0⟩

/-- QFLAGS.EMPTY, bits [0:0], RO. -/
def QFLAGS_EMPTY (q : Nat) : Fld := ⟨0x3F00410014 + q * 0x40, 0, 1, 1⟩
/-- QFLAGS.HIGH, bits [1:1], RO. -/
def QFLAGS_HIGH (q : Nat) : Fld := ⟨0x3F00410014 + q * 0x40, 1, 1, 0⟩
/-- QFLAGS.FULL, bits [2:2], RO. -/
def QFLAGS_FULL (q : Nat) : Fld := ⟨0x3F00410014 + q * 0x40, 2, 1, 0⟩
/-- QFLAGS.HELD, bits [3:3], RO. -/
def QFLAGS_HELD (q : Nat) : Fld := ⟨0x3F00410014 + q * 0x40, 3, 1, 0⟩
/-- QFLAGS.DISCARD, bits [4:4], RO. -/
def QFLAGS_DISCARD (q : Nat) : Fld := ⟨0x3F00410014 + q * 0x40, 4, 1, 0⟩
/-- QFLAGS.FAULT, bits [5:5], RO. -/
def QFLAGS_FAULT (q : Nat) : Fld := ⟨0x3F00410014 + q * 0x40, 5, 1, 0⟩
/-- QFLAGS.SPILLED, bits [31:16], RO. -/
def QFLAGS_SPILLED (q : Nat) : Fld := ⟨0x3F00410014 + q * 0x40, 16, 16, 0⟩

/-- QCMD.FLUSH, bits [0:0], WO. -/
def QCMD_FLUSH (q : Nat) : Fld := ⟨0x3F00410020 + q * 0x40, 0, 1, 0⟩
/-- QCMD.RELEASE, bits [1:1], WO. -/
def QCMD_RELEASE (q : Nat) : Fld := ⟨0x3F00410020 + q * 0x40, 1, 1, 0⟩

/-- QEVT.NE, bits [0:0], W1C. -/
def QEVT_NE (q : Nat) : Fld := ⟨0x3F00410018 + q * 0x40, 0, 1, 0⟩
/-- QEVT.HI, bits [1:1], W1C. -/
def QEVT_HI (q : Nat) : Fld := ⟨0x3F00410018 + q * 0x40, 1, 1, 0⟩
/-- QEVT.LO, bits [2:2], W1C. -/
def QEVT_LO (q : Nat) : Fld := ⟨0x3F00410018 + q * 0x40, 2, 1, 0⟩
/-- QEVT.FULL, bits [3:3], W1C. -/
def QEVT_FULL (q : Nat) : Fld := ⟨0x3F00410018 + q * 0x40, 3, 1, 0⟩
/-- QEVT.DROP, bits [4:4], W1C. -/
def QEVT_DROP (q : Nat) : Fld := ⟨0x3F00410018 + q * 0x40, 4, 1, 0⟩
/-- QEVT.FLUSH, bits [5:5], W1C. -/
def QEVT_FLUSH (q : Nat) : Fld := ⟨0x3F00410018 + q * 0x40, 5, 1, 0⟩
/-- QEVT.SPILL_LOST, bits [6:6], W1C. -/
def QEVT_SPILL_LOST (q : Nat) : Fld := ⟨0x3F00410018 + q * 0x40, 6, 1, 0⟩
/-- QEVT.CFG_REJECT, bits [7:7], W1C. -/
def QEVT_CFG_REJECT (q : Nat) : Fld := ⟨0x3F00410018 + q * 0x40, 7, 1, 0⟩
/-- QEVT.FAULT, bits [8:8], W1C. -/
def QEVT_FAULT (q : Nat) : Fld := ⟨0x3F00410018 + q * 0x40, 8, 1, 0⟩

/-- QEVT_EN.NE, bits [0:0], RW. -/
def QEVT_EN_NE (q : Nat) : Fld := ⟨0x3F0041001C + q * 0x40, 0, 1, 0⟩
/-- QEVT_EN.HI, bits [1:1], RW. -/
def QEVT_EN_HI (q : Nat) : Fld := ⟨0x3F0041001C + q * 0x40, 1, 1, 0⟩
/-- QEVT_EN.LO, bits [2:2], RW. -/
def QEVT_EN_LO (q : Nat) : Fld := ⟨0x3F0041001C + q * 0x40, 2, 1, 0⟩
/-- QEVT_EN.FULL, bits [3:3], RW. -/
def QEVT_EN_FULL (q : Nat) : Fld := ⟨0x3F0041001C + q * 0x40, 3, 1, 0⟩
/-- QEVT_EN.DROP, bits [4:4], RW. -/
def QEVT_EN_DROP (q : Nat) : Fld := ⟨0x3F0041001C + q * 0x40, 4, 1, 0⟩
/-- QEVT_EN.FLUSH, bits [5:5], RW. -/
def QEVT_EN_FLUSH (q : Nat) : Fld := ⟨0x3F0041001C + q * 0x40, 5, 1, 0⟩
/-- QEVT_EN.SPILL_LOST, bits [6:6], RW. -/
def QEVT_EN_SPILL_LOST (q : Nat) : Fld := ⟨0x3F0041001C + q * 0x40, 6, 1, 0⟩
/-- QEVT_EN.CFG_REJECT, bits [7:7], RO. -/
def QEVT_EN_CFG_REJECT (q : Nat) : Fld := ⟨0x3F0041001C + q * 0x40, 7, 1, 1⟩
/-- QEVT_EN.FAULT, bits [8:8], RO. -/
def QEVT_EN_FAULT (q : Nat) : Fld := ⟨0x3F0041001C + q * 0x40, 8, 1, 1⟩

/-- QUAD_CTRL.EN, bits [0:0], RW. -/
def QUAD_CTRL_EN (q : Nat) : Fld := ⟨0x3F00700000 + q * 0x8000, 0, 1, 0⟩
/-- QUAD_CTRL.REF_SEL, bits [1:1], RW. -/
def QUAD_CTRL_REF_SEL (q : Nat) : Fld := ⟨0x3F00700000 + q * 0x8000, 1, 1, 0⟩
/-- QUAD_CTRL.GLINE, bits [12:8], RW. -/
def QUAD_CTRL_GLINE (q : Nat) : Fld := ⟨0x3F00700000 + q * 0x8000, 8, 5, 0⟩
/-- QUAD_CTRL.QM, bits [23:16], RW. -/
def QUAD_CTRL_QM (q : Nat) : Fld := ⟨0x3F00700000 + q * 0x8000, 16, 8, 0x64⟩
/-- QUAD_CTRL.QN, bits [25:24], RW. -/
def QUAD_CTRL_QN (q : Nat) : Fld := ⟨0x3F00700000 + q * 0x8000, 24, 2, 0⟩

/-- QUAD_REF.REF_KHZ, bits [18:0], RW. -/
def QUAD_REF_REF_KHZ (q : Nat) : Fld := ⟨0x3F00700004 + q * 0x8000, 0, 19, 0x1E848⟩

/-- QUAD_STATUS.STATE, bits [1:0], RO. -/
def QUAD_STATUS_STATE (q : Nat) : Fld := ⟨0x3F00700008 + q * 0x8000, 0, 2, 0⟩
/-- QUAD_STATUS.CFG_REJECT, bits [16:16], W1C. -/
def QUAD_STATUS_CFG_REJECT (q : Nat) : Fld := ⟨0x3F00700008 + q * 0x8000, 16, 1, 0⟩

/-- LANE_CTRL.TX_EN, bits [0:0], RW. -/
def LANE_CTRL_TX_EN (L : Nat) : Fld := ⟨0x3F00700100 + L / 4 * 0x8000 + L % 4 * 0x100, 0, 1, 0⟩
/-- LANE_CTRL.RX_EN, bits [1:1], RW. -/
def LANE_CTRL_RX_EN (L : Nat) : Fld := ⟨0x3F00700100 + L / 4 * 0x8000 + L % 4 * 0x100, 1, 1, 0⟩
/-- LANE_CTRL.MODE, bits [3:2], RW. -/
def LANE_CTRL_MODE (L : Nat) : Fld := ⟨0x3F00700100 + L / 4 * 0x8000 + L % 4 * 0x100, 2, 2, 1⟩
/-- LANE_CTRL.WIDTH, bits [6:4], RW. -/
def LANE_CTRL_WIDTH (L : Nat) : Fld := ⟨0x3F00700100 + L / 4 * 0x8000 + L % 4 * 0x100, 4, 3, 0⟩
/-- LANE_CTRL.RATE_D, bits [12:8], RW. -/
def LANE_CTRL_RATE_D (L : Nat) : Fld := ⟨0x3F00700100 + L / 4 * 0x8000 + L % 4 * 0x100, 8, 5, 0⟩
/-- LANE_CTRL.TX_POL, bits [16:16], RW. -/
def LANE_CTRL_TX_POL (L : Nat) : Fld := ⟨0x3F00700100 + L / 4 * 0x8000 + L % 4 * 0x100, 16, 1, 0⟩
/-- LANE_CTRL.RX_POL, bits [17:17], RW. -/
def LANE_CTRL_RX_POL (L : Nat) : Fld := ⟨0x3F00700100 + L / 4 * 0x8000 + L % 4 * 0x100, 17, 1, 0⟩
/-- LANE_CTRL.POL_LOCK, bits [18:18], RW. -/
def LANE_CTRL_POL_LOCK (L : Nat) : Fld := ⟨0x3F00700100 + L / 4 * 0x8000 + L % 4 * 0x100, 18, 1, 0⟩
/-- LANE_CTRL.SCR_EN, bits [19:19], RW. -/
def LANE_CTRL_SCR_EN (L : Nat) : Fld := ⟨0x3F00700100 + L / 4 * 0x8000 + L % 4 * 0x100, 19, 1, 1⟩
/-- LANE_CTRL.LOOP, bits [21:20], RW. -/
def LANE_CTRL_LOOP (L : Nat) : Fld := ⟨0x3F00700100 + L / 4 * 0x8000 + L % 4 * 0x100, 20, 2, 0⟩
/-- LANE_CTRL.PRBS, bits [24:22], RW. -/
def LANE_CTRL_PRBS (L : Nat) : Fld := ⟨0x3F00700100 + L / 4 * 0x8000 + L % 4 * 0x100, 22, 3, 0⟩

/-- LANE_TXEQ.SWING, bits [3:0], RW. -/
def LANE_TXEQ_SWING (L : Nat) : Fld := ⟨0x3F00700104 + L / 4 * 0x8000 + L % 4 * 0x100, 0, 4, 0xC⟩
/-- LANE_TXEQ.PRE, bits [7:4], RW. -/
def LANE_TXEQ_PRE (L : Nat) : Fld := ⟨0x3F00700104 + L / 4 * 0x8000 + L % 4 * 0x100, 4, 4, 0⟩
/-- LANE_TXEQ.POST, bits [12:8], RW. -/
def LANE_TXEQ_POST (L : Nat) : Fld := ⟨0x3F00700104 + L / 4 * 0x8000 + L % 4 * 0x100, 8, 5, 6⟩

/-- LANE_RXEQ.CTLE, bits [3:0], RW. -/
def LANE_RXEQ_CTLE (L : Nat) : Fld := ⟨0x3F00700108 + L / 4 * 0x8000 + L % 4 * 0x100, 0, 4, 8⟩
/-- LANE_RXEQ.CTLE_AUTO, bits [4:4], RW. -/
def LANE_RXEQ_CTLE_AUTO (L : Nat) : Fld := ⟨0x3F00700108 + L / 4 * 0x8000 + L % 4 * 0x100, 4, 1, 1⟩
/-- LANE_RXEQ.DFE_MODE, bits [6:5], RW. -/
def LANE_RXEQ_DFE_MODE (L : Nat) : Fld := ⟨0x3F00700108 + L / 4 * 0x8000 + L % 4 * 0x100, 5, 2, 1⟩
/-- LANE_RXEQ.DFE_TAPS, bits [11:8], RW. -/
def LANE_RXEQ_DFE_TAPS (L : Nat) : Fld := ⟨0x3F00700108 + L / 4 * 0x8000 + L % 4 * 0x100, 8, 4, 0xC⟩

/-- LANE_STATUS.LOCK_STATE, bits [1:0], RO. -/
def LANE_STATUS_LOCK_STATE (L : Nat) : Fld := ⟨0x3F00700120 + L / 4 * 0x8000 + L % 4 * 0x100, 0, 2, 0⟩
/-- LANE_STATUS.SIG, bits [2:2], RO. -/
def LANE_STATUS_SIG (L : Nat) : Fld := ⟨0x3F00700120 + L / 4 * 0x8000 + L % 4 * 0x100, 2, 1, 0⟩
/-- LANE_STATUS.LAT_SAME, bits [3:3], RO. -/
def LANE_STATUS_LAT_SAME (L : Nat) : Fld := ⟨0x3F00700120 + L / 4 * 0x8000 + L % 4 * 0x100, 3, 1, 0⟩
/-- LANE_STATUS.LOCK_LOST, bits [16:16], W1C. -/
def LANE_STATUS_LOCK_LOST (L : Nat) : Fld := ⟨0x3F00700120 + L / 4 * 0x8000 + L % 4 * 0x100, 16, 1, 0⟩
/-- LANE_STATUS.LOS, bits [17:17], W1C. -/
def LANE_STATUS_LOS (L : Nat) : Fld := ⟨0x3F00700120 + L / 4 * 0x8000 + L % 4 * 0x100, 17, 1, 0⟩
/-- LANE_STATUS.LAT_CHANGED, bits [18:18], W1C. -/
def LANE_STATUS_LAT_CHANGED (L : Nat) : Fld := ⟨0x3F00700120 + L / 4 * 0x8000 + L % 4 * 0x100, 18, 1, 0⟩
/-- LANE_STATUS.CFG_REJECT, bits [19:19], W1C. -/
def LANE_STATUS_CFG_REJECT (L : Nat) : Fld := ⟨0x3F00700120 + L / 4 * 0x8000 + L % 4 * 0x100, 19, 1, 0⟩
/-- LANE_STATUS.PRBS_ERR, bits [20:20], W1C. -/
def LANE_STATUS_PRBS_ERR (L : Nat) : Fld := ⟨0x3F00700120 + L / 4 * 0x8000 + L % 4 * 0x100, 20, 1, 0⟩
/-- LANE_STATUS.PORT_EVT, bits [21:21], W1C. -/
def LANE_STATUS_PORT_EVT (L : Nat) : Fld := ⟨0x3F00700120 + L / 4 * 0x8000 + L % 4 * 0x100, 21, 1, 0⟩
/-- LANE_STATUS.EVT_EN, bits [29:24], RW. -/
def LANE_STATUS_EVT_EN (L : Nat) : Fld := ⟨0x3F00700120 + L / 4 * 0x8000 + L % 4 * 0x100, 24, 6, 0x3F⟩

/-- LANE_LAT.RX_LAT, bits [15:0], RO. -/
def LANE_LAT_RX_LAT (L : Nat) : Fld := ⟨0x3F00700124 + L / 4 * 0x8000 + L % 4 * 0x100, 0, 16, 0⟩
/-- LANE_LAT.TX_LAT, bits [31:16], RO. -/
def LANE_LAT_TX_LAT (L : Nat) : Fld := ⟨0x3F00700124 + L / 4 * 0x8000 + L % 4 * 0x100, 16, 16, 0⟩

/-- LANE_LATREF.LAT_REF, bits [15:0], RO. -/
def LANE_LATREF_LAT_REF (L : Nat) : Fld := ⟨0x3F00700128 + L / 4 * 0x8000 + L % 4 * 0x100, 0, 16, 0⟩
/-- LANE_LATREF.REARM, bits [31:31], WO. -/
def LANE_LATREF_REARM (L : Nat) : Fld := ⟨0x3F00700128 + L / 4 * 0x8000 + L % 4 * 0x100, 31, 1, 0⟩

/-- LANE_PHASE.RX_PHASE, bits [12:0], RO. -/
def LANE_PHASE_RX_PHASE (L : Nat) : Fld := ⟨0x3F0070012C + L / 4 * 0x8000 + L % 4 * 0x100, 0, 13, 0⟩
/-- LANE_PHASE.EPOCH_LO, bits [23:16], RO. -/
def LANE_PHASE_EPOCH_LO (L : Nat) : Fld := ⟨0x3F0070012C + L / 4 * 0x8000 + L % 4 * 0x100, 16, 8, 0⟩
/-- LANE_PHASE.TQ, bits [25:24], RO. -/
def LANE_PHASE_TQ (L : Nat) : Fld := ⟨0x3F0070012C + L / 4 * 0x8000 + L % 4 * 0x100, 24, 2, 0⟩
/-- LANE_PHASE.VALID, bits [26:26], RO. -/
def LANE_PHASE_VALID (L : Nat) : Fld := ⟨0x3F0070012C + L / 4 * 0x8000 + L % 4 * 0x100, 26, 1, 0⟩

/-- LANE_SLIP.SLIP, bits [0:0], WO. -/
def LANE_SLIP_SLIP (L : Nat) : Fld := ⟨0x3F00700130 + L / 4 * 0x8000 + L % 4 * 0x100, 0, 1, 0⟩
/-- LANE_SLIP.SLIP_POS, bits [22:16], RO. -/
def LANE_SLIP_SLIP_POS (L : Nat) : Fld := ⟨0x3F00700130 + L / 4 * 0x8000 + L % 4 * 0x100, 16, 7, 0⟩

/-- LANE_ES_CTRL.H, bits [6:0], RW. -/
def LANE_ES_CTRL_H (L : Nat) : Fld := ⟨0x3F00700150 + L / 4 * 0x8000 + L % 4 * 0x100, 0, 7, 0⟩
/-- LANE_ES_CTRL.V, bits [15:8], RW. -/
def LANE_ES_CTRL_V (L : Nat) : Fld := ⟨0x3F00700150 + L / 4 * 0x8000 + L % 4 * 0x100, 8, 8, 0⟩
/-- LANE_ES_CTRL.DWELL, bits [21:16], RW. -/
def LANE_ES_CTRL_DWELL (L : Nat) : Fld := ⟨0x3F00700150 + L / 4 * 0x8000 + L % 4 * 0x100, 16, 6, 0x10⟩
/-- LANE_ES_CTRL.START, bits [31:31], WO. -/
def LANE_ES_CTRL_START (L : Nat) : Fld := ⟨0x3F00700150 + L / 4 * 0x8000 + L % 4 * 0x100, 31, 1, 0⟩

/-- LANE_ES_RESULT.ERRORS, bits [15:0], RO. -/
def LANE_ES_RESULT_ERRORS (L : Nat) : Fld := ⟨0x3F00700154 + L / 4 * 0x8000 + L % 4 * 0x100, 0, 16, 0⟩
/-- LANE_ES_RESULT.DONE, bits [31:31], RO. -/
def LANE_ES_RESULT_DONE (L : Nat) : Fld := ⟨0x3F00700154 + L / 4 * 0x8000 + L % 4 * 0x100, 31, 1, 0⟩

/-- LANE_DFE0.TAP1, bits [6:0], RW. -/
def LANE_DFE0_TAP1 (L : Nat) : Fld := ⟨0x3F0070010C + L / 4 * 0x8000 + L % 4 * 0x100, 0, 7, 0⟩
/-- LANE_DFE0.TAP2, bits [14:8], RW. -/
def LANE_DFE0_TAP2 (L : Nat) : Fld := ⟨0x3F0070010C + L / 4 * 0x8000 + L % 4 * 0x100, 8, 7, 0⟩
/-- LANE_DFE0.TAP3, bits [22:16], RW. -/
def LANE_DFE0_TAP3 (L : Nat) : Fld := ⟨0x3F0070010C + L / 4 * 0x8000 + L % 4 * 0x100, 16, 7, 0⟩
/-- LANE_DFE0.TAP4, bits [30:24], RW. -/
def LANE_DFE0_TAP4 (L : Nat) : Fld := ⟨0x3F0070010C + L / 4 * 0x8000 + L % 4 * 0x100, 24, 7, 0⟩

/-- LANE_DFE1.TAP5, bits [6:0], RW. -/
def LANE_DFE1_TAP5 (L : Nat) : Fld := ⟨0x3F00700110 + L / 4 * 0x8000 + L % 4 * 0x100, 0, 7, 0⟩
/-- LANE_DFE1.TAP6, bits [14:8], RW. -/
def LANE_DFE1_TAP6 (L : Nat) : Fld := ⟨0x3F00700110 + L / 4 * 0x8000 + L % 4 * 0x100, 8, 7, 0⟩
/-- LANE_DFE1.TAP7, bits [22:16], RW. -/
def LANE_DFE1_TAP7 (L : Nat) : Fld := ⟨0x3F00700110 + L / 4 * 0x8000 + L % 4 * 0x100, 16, 7, 0⟩
/-- LANE_DFE1.TAP8, bits [30:24], RW. -/
def LANE_DFE1_TAP8 (L : Nat) : Fld := ⟨0x3F00700110 + L / 4 * 0x8000 + L % 4 * 0x100, 24, 7, 0⟩

/-- LANE_DFE2.TAP9, bits [6:0], RW. -/
def LANE_DFE2_TAP9 (L : Nat) : Fld := ⟨0x3F00700114 + L / 4 * 0x8000 + L % 4 * 0x100, 0, 7, 0⟩
/-- LANE_DFE2.TAP10, bits [14:8], RW. -/
def LANE_DFE2_TAP10 (L : Nat) : Fld := ⟨0x3F00700114 + L / 4 * 0x8000 + L % 4 * 0x100, 8, 7, 0⟩
/-- LANE_DFE2.TAP11, bits [22:16], RW. -/
def LANE_DFE2_TAP11 (L : Nat) : Fld := ⟨0x3F00700114 + L / 4 * 0x8000 + L % 4 * 0x100, 16, 7, 0⟩
/-- LANE_DFE2.TAP12, bits [30:24], RW. -/
def LANE_DFE2_TAP12 (L : Nat) : Fld := ⟨0x3F00700114 + L / 4 * 0x8000 + L % 4 * 0x100, 24, 7, 0⟩

/-- LANE_CNT_IDX.IDX, bits [2:0], RW. -/
def LANE_CNT_IDX_IDX (L : Nat) : Fld := ⟨0x3F00700140 + L / 4 * 0x8000 + L % 4 * 0x100, 0, 3, 0⟩

/-- RP_CTRL.EN, bits [0:0], RW. -/
def RP_CTRL_EN (L : Nat) : Fld := ⟨0x3F00704000 + L / 4 * 0x8000 + L % 4 * 0x100, 0, 1, 0⟩
/-- RP_CTRL.RALLY_A, bits [1:1], RW. -/
def RP_CTRL_RALLY_A (L : Nat) : Fld := ⟨0x3F00704000 + L / 4 * 0x8000 + L % 4 * 0x100, 1, 1, 0⟩
/-- RP_CTRL.LANES, bits [3:2], RW. -/
def RP_CTRL_LANES (L : Nat) : Fld := ⟨0x3F00704000 + L / 4 * 0x8000 + L % 4 * 0x100, 2, 2, 0⟩
/-- RP_CTRL.TX_SRC, bits [4:4], RW. -/
def RP_CTRL_TX_SRC (L : Nat) : Fld := ⟨0x3F00704000 + L / 4 * 0x8000 + L % 4 * 0x100, 4, 1, 0⟩
/-- RP_CTRL.RX_DST, bits [5:5], RW. -/
def RP_CTRL_RX_DST (L : Nat) : Fld := ⟨0x3F00704000 + L / 4 * 0x8000 + L % 4 * 0x100, 5, 1, 0⟩
/-- RP_CTRL.POLICY, bits [6:6], RW. -/
def RP_CTRL_POLICY (L : Nat) : Fld := ⟨0x3F00704000 + L / 4 * 0x8000 + L % 4 * 0x100, 6, 1, 0⟩
/-- RP_CTRL.RX_REQ, bits [7:7], RW. -/
def RP_CTRL_RX_REQ (L : Nat) : Fld := ⟨0x3F00704000 + L / 4 * 0x8000 + L % 4 * 0x100, 7, 1, 1⟩
/-- RP_CTRL.LAT_STRICT, bits [8:8], RW. -/
def RP_CTRL_LAT_STRICT (L : Nat) : Fld := ⟨0x3F00704000 + L / 4 * 0x8000 + L % 4 * 0x100, 8, 1, 0⟩
/-- RP_CTRL.TIMING, bits [9:9], RO. -/
def RP_CTRL_TIMING (L : Nat) : Fld := ⟨0x3F00704000 + L / 4 * 0x8000 + L % 4 * 0x100, 9, 1, 0⟩
/-- RP_CTRL.HOLD_MS, bits [31:16], RW. -/
def RP_CTRL_HOLD_MS (L : Nat) : Fld := ⟨0x3F00704000 + L / 4 * 0x8000 + L % 4 * 0x100, 16, 16, 0xA⟩

/-- RP_CFG.RX_QUEUE, bits [11:0], RW. -/
def RP_CFG_RX_QUEUE (L : Nat) : Fld := ⟨0x3F00704004 + L / 4 * 0x8000 + L % 4 * 0x100, 0, 12, 0⟩
/-- RP_CFG.RA_TIMER, bits [23:16], RW. -/
def RP_CFG_RA_TIMER (L : Nat) : Fld := ⟨0x3F00704004 + L / 4 * 0x8000 + L % 4 * 0x100, 16, 8, 0x28⟩
/-- RP_CFG.RA_RETRY, bits [27:24], RW. -/
def RP_CFG_RA_RETRY (L : Nat) : Fld := ⟨0x3F00704004 + L / 4 * 0x8000 + L % 4 * 0x100, 24, 4, 8⟩

/-- RP_STATUS.STATE, bits [2:0], RO. -/
def RP_STATUS_STATE (L : Nat) : Fld := ⟨0x3F00704008 + L / 4 * 0x8000 + L % 4 * 0x100, 0, 3, 0⟩
/-- RP_STATUS.RX_UP, bits [3:3], RO. -/
def RP_STATUS_RX_UP (L : Nat) : Fld := ⟨0x3F00704008 + L / 4 * 0x8000 + L % 4 * 0x100, 3, 1, 0⟩
/-- RP_STATUS.CAUSE, bits [7:4], RO. -/
def RP_STATUS_CAUSE (L : Nat) : Fld := ⟨0x3F00704008 + L / 4 * 0x8000 + L % 4 * 0x100, 4, 4, 0⟩
/-- RP_STATUS.UNACKED, bits [16:8], RO. -/
def RP_STATUS_UNACKED (L : Nat) : Fld := ⟨0x3F00704008 + L / 4 * 0x8000 + L % 4 * 0x100, 8, 9, 0⟩
/-- RP_STATUS.DOWN_EV, bits [24:24], W1C. -/
def RP_STATUS_DOWN_EV (L : Nat) : Fld := ⟨0x3F00704008 + L / 4 * 0x8000 + L % 4 * 0x100, 24, 1, 0⟩
/-- RP_STATUS.UP_EV, bits [25:25], W1C. -/
def RP_STATUS_UP_EV (L : Nat) : Fld := ⟨0x3F00704008 + L / 4 * 0x8000 + L % 4 * 0x100, 25, 1, 0⟩
/-- RP_STATUS.GAP, bits [26:26], W1C. -/
def RP_STATUS_GAP (L : Nat) : Fld := ⟨0x3F00704008 + L / 4 * 0x8000 + L % 4 * 0x100, 26, 1, 0⟩
/-- RP_STATUS.FLUSHED, bits [27:27], W1C. -/
def RP_STATUS_FLUSHED (L : Nat) : Fld := ⟨0x3F00704008 + L / 4 * 0x8000 + L % 4 * 0x100, 27, 1, 0⟩
/-- RP_STATUS.DESKEW_FAIL, bits [28:28], W1C. -/
def RP_STATUS_DESKEW_FAIL (L : Nat) : Fld := ⟨0x3F00704008 + L / 4 * 0x8000 + L % 4 * 0x100, 28, 1, 0⟩

/-- RP_LAT.PORT_LAT, bits [15:0], RO. -/
def RP_LAT_PORT_LAT (L : Nat) : Fld := ⟨0x3F0070400C + L / 4 * 0x8000 + L % 4 * 0x100, 0, 16, 0⟩
/-- RP_LAT.DESKEW, bits [23:16], RO. -/
def RP_LAT_DESKEW (L : Nat) : Fld := ⟨0x3F0070400C + L / 4 * 0x8000 + L % 4 * 0x100, 16, 8, 0⟩

/-- RP_SEQ.TX_NEXT, bits [15:0], RO. -/
def RP_SEQ_TX_NEXT (L : Nat) : Fld := ⟨0x3F00704010 + L / 4 * 0x8000 + L % 4 * 0x100, 0, 16, 0⟩
/-- RP_SEQ.RX_EXP, bits [31:16], RO. -/
def RP_SEQ_RX_EXP (L : Nat) : Fld := ⟨0x3F00704010 + L / 4 * 0x8000 + L % 4 * 0x100, 16, 16, 0⟩

/-- RP_CNT_IDX.IDX, bits [3:0], RW. -/
def RP_CNT_IDX_IDX (L : Nat) : Fld := ⟨0x3F00704020 + L / 4 * 0x8000 + L % 4 * 0x100, 0, 4, 0⟩

/-- DRC_CFG.EN, bits [0:0], RW. -/
def DRC_CFG_EN (c : Nat) : Fld := ⟨0x3F00600000 + c * 0x40000, 0, 1, 0⟩
/-- DRC_CFG.ECC_MODE, bits [2:1], RW. -/
def DRC_CFG_ECC_MODE (c : Nat) : Fld := ⟨0x3F00600000 + c * 0x40000, 1, 2, 1⟩
/-- DRC_CFG.ORDER, bits [4:3], RW. -/
def DRC_CFG_ORDER (c : Nat) : Fld := ⟨0x3F00600000 + c * 0x40000, 3, 2, 1⟩
/-- DRC_CFG.REF_MODE, bits [6:5], RW. -/
def DRC_CFG_REF_MODE (c : Nat) : Fld := ⟨0x3F00600000 + c * 0x40000, 5, 2, 0⟩
/-- DRC_CFG.RATE, bits [11:8], RW. -/
def DRC_CFG_RATE (c : Nat) : Fld := ⟨0x3F00600000 + c * 0x40000, 8, 4, 8⟩
/-- DRC_CFG.DENSITY, bits [13:12], RW. -/
def DRC_CFG_DENSITY (c : Nat) : Fld := ⟨0x3F00600000 + c * 0x40000, 12, 2, 1⟩
/-- DRC_CFG.WIDTH, bits [14:14], RW. -/
def DRC_CFG_WIDTH (c : Nat) : Fld := ⟨0x3F00600000 + c * 0x40000, 14, 1, 0⟩
/-- DRC_CFG.RANKS, bits [15:15], RW. -/
def DRC_CFG_RANKS (c : Nat) : Fld := ⟨0x3F00600000 + c * 0x40000, 15, 1, 0⟩

/-- DRC_STATUS.STATE, bits [2:0], RO. -/
def DRC_STATUS_STATE (c : Nat) : Fld := ⟨0x3F00600004 + c * 0x40000, 0, 3, 0⟩
/-- DRC_STATUS.HOT, bits [3:3], RO. -/
def DRC_STATUS_HOT (c : Nat) : Fld := ⟨0x3F00600004 + c * 0x40000, 3, 1, 0⟩
/-- DRC_STATUS.CONTENTS_LOST, bits [4:4], RO. -/
def DRC_STATUS_CONTENTS_LOST (c : Nat) : Fld := ⟨0x3F00600004 + c * 0x40000, 4, 1, 0⟩
/-- DRC_STATUS.SIZE_LOG2, bits [13:8], RO. -/
def DRC_STATUS_SIZE_LOG2 (c : Nat) : Fld := ⟨0x3F00600004 + c * 0x40000, 8, 6, 0⟩
/-- DRC_STATUS.CFG_REJECT, bits [16:16], W1C. -/
def DRC_STATUS_CFG_REJECT (c : Nat) : Fld := ⟨0x3F00600004 + c * 0x40000, 16, 1, 0⟩
/-- DRC_STATUS.UE_EV, bits [17:17], W1C. -/
def DRC_STATUS_UE_EV (c : Nat) : Fld := ⟨0x3F00600004 + c * 0x40000, 17, 1, 0⟩
/-- DRC_STATUS.DOWN_EV, bits [18:18], W1C. -/
def DRC_STATUS_DOWN_EV (c : Nat) : Fld := ⟨0x3F00600004 + c * 0x40000, 18, 1, 0⟩
/-- DRC_STATUS.OVERRUN, bits [19:19], W1C. -/
def DRC_STATUS_OVERRUN (c : Nat) : Fld := ⟨0x3F00600004 + c * 0x40000, 19, 1, 0⟩

/-- DRC_PATROL.EN, bits [0:0], RW. -/
def DRC_PATROL_EN (c : Nat) : Fld := ⟨0x3F00600008 + c * 0x40000, 0, 1, 1⟩
/-- DRC_PATROL.PASS_HOURS, bits [15:8], RW. -/
def DRC_PATROL_PASS_HOURS (c : Nat) : Fld := ⟨0x3F00600008 + c * 0x40000, 8, 8, 0x18⟩
/-- DRC_PATROL.PASSES, bits [31:16], RO. -/
def DRC_PATROL_PASSES (c : Nat) : Fld := ⟨0x3F00600008 + c * 0x40000, 16, 16, 0⟩

/-- DRC_PATROL_T.TARGET_10NS, bits [11:0], RW. -/
def DRC_PATROL_T_TARGET_10NS (c : Nat) : Fld := ⟨0x3F0060000C + c * 0x40000, 0, 12, 0x3E8⟩

/-- DRC_TRAIN.LAST_STEP, bits [3:0], RO. -/
def DRC_TRAIN_LAST_STEP (c : Nat) : Fld := ⟨0x3F00600020 + c * 0x40000, 0, 4, 0⟩
/-- DRC_TRAIN.FAILED, bits [4:4], RO. -/
def DRC_TRAIN_FAILED (c : Nat) : Fld := ⟨0x3F00600020 + c * 0x40000, 4, 1, 0⟩

/-- DRC_DEV.DEV_THRESH, bits [15:0], RW. -/
def DRC_DEV_DEV_THRESH (c : Nat) : Fld := ⟨0x3F00600024 + c * 0x40000, 0, 16, 0x100⟩

/-- DRC_SUSPECT.SUSPECT, bits [19:0], W1C. -/
def DRC_SUSPECT_SUSPECT (c : Nat) : Fld := ⟨0x3F00600028 + c * 0x40000, 0, 20, 0⟩

/-- DRC_CE_LOG0.UNIT, bits [28:0], RO. -/
def DRC_CE_LOG0_UNIT (c : Nat) : Fld := ⟨0x3F00600010 + c * 0x40000, 0, 29, 0⟩

/-- DRC_CE_LOG1.SYNDROME, bits [7:0], RO. -/
def DRC_CE_LOG1_SYNDROME (c : Nat) : Fld := ⟨0x3F00600014 + c * 0x40000, 0, 8, 0⟩
/-- DRC_CE_LOG1.DEVICE, bits [12:8], RO. -/
def DRC_CE_LOG1_DEVICE (c : Nat) : Fld := ⟨0x3F00600014 + c * 0x40000, 8, 5, 0⟩
/-- DRC_CE_LOG1.CW, bits [15:13], RO. -/
def DRC_CE_LOG1_CW (c : Nat) : Fld := ⟨0x3F00600014 + c * 0x40000, 13, 3, 0⟩
/-- DRC_CE_LOG1.KIND, bits [18:16], RO. -/
def DRC_CE_LOG1_KIND (c : Nat) : Fld := ⟨0x3F00600014 + c * 0x40000, 16, 3, 0⟩
/-- DRC_CE_LOG1.PATROL, bits [19:19], RO. -/
def DRC_CE_LOG1_PATROL (c : Nat) : Fld := ⟨0x3F00600014 + c * 0x40000, 19, 1, 0⟩
/-- DRC_CE_LOG1.VALID, bits [31:31], W1C. -/
def DRC_CE_LOG1_VALID (c : Nat) : Fld := ⟨0x3F00600014 + c * 0x40000, 31, 1, 0⟩

/-- DRC_UE_LOG0.UNIT, bits [28:0], RO. -/
def DRC_UE_LOG0_UNIT (c : Nat) : Fld := ⟨0x3F00600018 + c * 0x40000, 0, 29, 0⟩

/-- DRC_UE_LOG1.SYNDROME, bits [7:0], RO. -/
def DRC_UE_LOG1_SYNDROME (c : Nat) : Fld := ⟨0x3F0060001C + c * 0x40000, 0, 8, 0⟩
/-- DRC_UE_LOG1.DEVICE, bits [12:8], RO. -/
def DRC_UE_LOG1_DEVICE (c : Nat) : Fld := ⟨0x3F0060001C + c * 0x40000, 8, 5, 0⟩
/-- DRC_UE_LOG1.CW, bits [15:13], RO. -/
def DRC_UE_LOG1_CW (c : Nat) : Fld := ⟨0x3F0060001C + c * 0x40000, 13, 3, 0⟩
/-- DRC_UE_LOG1.KIND, bits [18:16], RO. -/
def DRC_UE_LOG1_KIND (c : Nat) : Fld := ⟨0x3F0060001C + c * 0x40000, 16, 3, 0⟩
/-- DRC_UE_LOG1.PATROL, bits [19:19], RO. -/
def DRC_UE_LOG1_PATROL (c : Nat) : Fld := ⟨0x3F0060001C + c * 0x40000, 19, 1, 0⟩
/-- DRC_UE_LOG1.VALID, bits [31:31], W1C. -/
def DRC_UE_LOG1_VALID (c : Nat) : Fld := ⟨0x3F0060001C + c * 0x40000, 31, 1, 0⟩

/-- DRC_CNT_IDX.IDX, bits [3:0], RW. -/
def DRC_CNT_IDX_IDX (c : Nat) : Fld := ⟨0x3F00600030 + c * 0x40000, 0, 4, 0⟩

/-- DRC_DEV_CE.COUNT, bits [15:0], RO. -/
def DRC_DEV_CE_COUNT (c : Nat) (d : Nat) : Fld := ⟨0x3F00600040 + c * 0x40000 + d * 4, 0, 16, 0⟩

/-- DRC_QOS.TARGET_10NS, bits [11:0], RW. -/
def DRC_QOS_TARGET_10NS (c : Nat) (n : Nat) : Fld := ⟨0x3F00600400 + c * 0x40000 + n * 4, 0, 12, 0⟩

/-- DRC_QOS_DEFAULT.TARGET_10NS, bits [11:0], RW. -/
def DRC_QOS_DEFAULT_TARGET_10NS (c : Nat) : Fld := ⟨0x3F00600600 + c * 0x40000, 0, 12, 0x3E8⟩

/-- FL_UNLOCK.KEY, bits [15:0], WO. -/
def FL_UNLOCK_KEY : Fld := ⟨0x3F00900000, 0, 16, 0⟩

/-- FL_CTRL.STALL_OK, bits [0:0], RW. -/
def FL_CTRL_STALL_OK : Fld := ⟨0x3F00900004, 0, 1, 0⟩
/-- FL_CTRL.IRQ_EN, bits [1:1], RW. -/
def FL_CTRL_IRQ_EN : Fld := ⟨0x3F00900004, 1, 1, 0⟩

/-- FL_CMD.CODE, bits [7:0], WO. -/
def FL_CMD_CODE : Fld := ⟨0x3F00900008, 0, 8, 0⟩

/-- FL_ADDR.ADDR, bits [27:0], RW. -/
def FL_ADDR_ADDR : Fld := ⟨0x3F0090000C, 0, 28, 0⟩

/-- FL_XIP.MARK, bits [7:0], W1C. -/
def FL_XIP_MARK : Fld := ⟨0x3F00900014, 0, 8, 0⟩

/-- FL_STATUS.BUSY_A, bits [0:0], RO. -/
def FL_STATUS_BUSY_A : Fld := ⟨0x3F00900010, 0, 1, 0⟩
/-- FL_STATUS.BUSY_B, bits [1:1], RO. -/
def FL_STATUS_BUSY_B : Fld := ⟨0x3F00900010, 1, 1, 0⟩
/-- FL_STATUS.OWN_BUSY, bits [2:2], RO. -/
def FL_STATUS_OWN_BUSY : Fld := ⟨0x3F00900010, 2, 1, 0⟩
/-- FL_STATUS.SUSPENDED, bits [3:3], RO. -/
def FL_STATUS_SUSPENDED : Fld := ⟨0x3F00900010, 3, 1, 0⟩
/-- FL_STATUS.BLANK, bits [4:4], RO. -/
def FL_STATUS_BLANK : Fld := ⟨0x3F00900010, 4, 1, 0⟩
/-- FL_STATUS.ERR, bits [11:8], RO. -/
def FL_STATUS_ERR : Fld := ⟨0x3F00900010, 8, 4, 0⟩
/-- FL_STATUS.DONE, bits [16:16], W1C. -/
def FL_STATUS_DONE : Fld := ⟨0x3F00900010, 16, 1, 0⟩
/-- FL_STATUS.KEY_ERR, bits [17:17], W1C. -/
def FL_STATUS_KEY_ERR : Fld := ⟨0x3F00900010, 17, 1, 0⟩
/-- FL_STATUS.LOCKOUT, bits [18:18], RO. -/
def FL_STATUS_LOCKOUT : Fld := ⟨0x3F00900010, 18, 1, 0⟩
/-- FL_STATUS.WEAR, bits [19:19], W1C. -/
def FL_STATUS_WEAR : Fld := ⟨0x3F00900010, 19, 1, 0⟩
/-- FL_STATUS.UE_EV, bits [20:20], W1C. -/
def FL_STATUS_UE_EV : Fld := ⟨0x3F00900010, 20, 1, 0⟩

/-- FL_GUARD.LEVEL, bits [1:0], RO. -/
def FL_GUARD_LEVEL : Fld := ⟨0x3F00900018, 0, 2, 0⟩
/-- FL_GUARD.PENDING, bits [2:2], RO. -/
def FL_GUARD_PENDING : Fld := ⟨0x3F00900018, 2, 1, 0⟩
/-- FL_GUARD.GUARD2, bits [3:3], RO. -/
def FL_GUARD_GUARD2 : Fld := ⟨0x3F00900018, 3, 1, 0⟩

/-- FL_UE_LOG.ADDR, bits [27:3], RO. -/
def FL_UE_LOG_ADDR : Fld := ⟨0x3F0090001C, 3, 25, 0⟩
/-- FL_UE_LOG.PAGE_CRC, bits [28:28], RO. -/
def FL_UE_LOG_PAGE_CRC : Fld := ⟨0x3F0090001C, 28, 1, 0⟩
/-- FL_UE_LOG.VALID, bits [31:31], W1C. -/
def FL_UE_LOG_VALID : Fld := ⟨0x3F0090001C, 31, 1, 0⟩

/-- FL_CNT_IDX.IDX, bits [2:0], RW. -/
def FL_CNT_IDX_IDX : Fld := ⟨0x3F00900030, 0, 3, 0⟩

/-- FL_BUF.DATA, bits [31:0], RW. -/
def FL_BUF_DATA (i : Nat) : Fld := ⟨0x3F00900100 + i * 4, 0, 32, 0⟩

/-- WH_PRIO.PRIO, bits [4:0], RW. -/
def WH_PRIO_PRIO (s : Nat) : Fld := ⟨0x3F00300000 + s * 4, 0, 5, if s = 2 then 31 else 0⟩

/-- WH_PEND.PEND, bits [31:0], RO. -/
def WH_PEND_PEND (w : Nat) : Fld := ⟨0x3F00301000 + w * 4, 0, 32, 0⟩

/-- WH_PEND_SET.SET, bits [31:0], SET. -/
def WH_PEND_SET_SET (w : Nat) : Fld := ⟨0x3F00301080 + w * 4, 0, 32, 0⟩

/-- WH_PEND_CLR.CLR, bits [31:0], CLR. -/
def WH_PEND_CLR_CLR (w : Nat) : Fld := ⟨0x3F00301100 + w * 4, 0, 32, 0⟩

/-- WH_LATCH.LATCH, bits [31:0], W1C. -/
def WH_LATCH_LATCH (w : Nat) : Fld := ⟨0x3F00301200 + w * 4, 0, 32, 0⟩

/-- WH_INSERVICE.INSERVICE, bits [31:0], RO. -/
def WH_INSERVICE_INSERVICE (w : Nat) : Fld := ⟨0x3F00301280 + w * 4, 0, 32, 0⟩

/-- WH_EN.EN, bits [31:0], RO. -/
def WH_EN_EN (t : Nat) (w : Nat) : Fld := ⟨0x3F00302000 + t * 0x200 + w * 4, 0, 32, if t = 0 ∧ w = 0 then 4 else 0⟩

/-- WH_EN_SET.SET, bits [31:0], SET. -/
def WH_EN_SET_SET (t : Nat) (w : Nat) : Fld := ⟨0x3F00302040 + t * 0x200 + w * 4, 0, 32, 0⟩

/-- WH_EN_CLR.CLR, bits [31:0], CLR. -/
def WH_EN_CLR_CLR (t : Nat) (w : Nat) : Fld := ⟨0x3F00302080 + t * 0x200 + w * 4, 0, 32, 0⟩

/-- WH_THRESH.THRESH, bits [4:0], RW. -/
def WH_THRESH_THRESH (t : Nat) : Fld := ⟨0x3F00302100 + t * 0x200, 0, 5, 0⟩

/-- WH_CLAIM.ID, bits [8:0], RC. -/
def WH_CLAIM_ID (t : Nat) : Fld := ⟨0x3F00302104 + t * 0x200, 0, 9, 0⟩
/-- WH_CLAIM.PRIO, bits [20:16], RC. -/
def WH_CLAIM_PRIO (t : Nat) : Fld := ⟨0x3F00302104 + t * 0x200, 16, 5, 0⟩

/-- WH_COMPLETE.ID, bits [8:0], WO. -/
def WH_COMPLETE_ID (t : Nat) : Fld := ⟨0x3F00302108 + t * 0x200, 0, 9, 0⟩

/-- WH_TSTATUS.DEPTH, bits [4:0], RO. -/
def WH_TSTATUS_DEPTH (t : Nat) : Fld := ⟨0x3F0030210C + t * 0x200, 0, 5, 0⟩
/-- WH_TSTATUS.TOP_PRIO, bits [12:8], RO. -/
def WH_TSTATUS_TOP_PRIO (t : Nat) : Fld := ⟨0x3F0030210C + t * 0x200, 8, 5, 0⟩
/-- WH_TSTATUS.TOP_ID, bits [24:16], RO. -/
def WH_TSTATUS_TOP_ID (t : Nat) : Fld := ⟨0x3F0030210C + t * 0x200, 16, 9, 0⟩
/-- WH_TSTATUS.REQ, bits [25:25], RO. -/
def WH_TSTATUS_REQ (t : Nat) : Fld := ⟨0x3F0030210C + t * 0x200, 25, 1, 0⟩
/-- WH_TSTATUS.STACK_FAULT, bits [28:28], W1C. -/
def WH_TSTATUS_STACK_FAULT (t : Nat) : Fld := ⟨0x3F0030210C + t * 0x200, 28, 1, 0⟩
/-- WH_TSTATUS.STACK_FULL, bits [29:29], W1C. -/
def WH_TSTATUS_STACK_FULL (t : Nat) : Fld := ⟨0x3F0030210C + t * 0x200, 29, 1, 0⟩
/-- WH_TSTATUS.PARITY, bits [30:30], W1C. -/
def WH_TSTATUS_PARITY (t : Nat) : Fld := ⟨0x3F0030210C + t * 0x200, 30, 1, 0⟩
/-- WH_TSTATUS.FLUSH, bits [31:31], WO. -/
def WH_TSTATUS_FLUSH (t : Nat) : Fld := ⟨0x3F0030210C + t * 0x200, 31, 1, 0⟩

/-- WH_STACK.ID, bits [8:0], RO. -/
def WH_STACK_ID (t : Nat) (e : Nat) : Fld := ⟨0x3F00302140 + t * 0x200 + e * 4, 0, 9, 0⟩
/-- WH_STACK.PRIO, bits [20:16], RO. -/
def WH_STACK_PRIO (t : Nat) (e : Nat) : Fld := ⟨0x3F00302140 + t * 0x200 + e * 4, 16, 5, 0⟩
/-- WH_STACK.VALID, bits [31:31], RO. -/
def WH_STACK_VALID (t : Nat) (e : Nat) : Fld := ⟨0x3F00302140 + t * 0x200 + e * 4, 31, 1, 0⟩

/-- WH_CTRL.FWD_EN, bits [0:0], RW. -/
def WH_CTRL_FWD_EN : Fld := ⟨0x3F00303000, 0, 1, 0⟩
/-- WH_CTRL.CFG_REJECT, bits [16:16], W1C. -/
def WH_CTRL_CFG_REJECT : Fld := ⟨0x3F00303000, 16, 1, 0⟩
/-- WH_CTRL.PARITY, bits [17:17], W1C. -/
def WH_CTRL_PARITY : Fld := ⟨0x3F00303000, 17, 1, 0⟩

/-- PM_CTRL.RUN, bits [0:0], RW. -/
def PM_CTRL_RUN (n : Nat) : Fld := ⟨0x3F00E00000 + n * 0x100, 0, 1, 0⟩
/-- PM_CTRL.LOCKSTEP, bits [1:1], RW. -/
def PM_CTRL_LOCKSTEP (n : Nat) : Fld := ⟨0x3F00E00000 + n * 0x100, 1, 1, 0⟩
/-- PM_CTRL.TMR_FOH, bits [2:2], RW. -/
def PM_CTRL_TMR_FOH (n : Nat) : Fld := ⟨0x3F00E00000 + n * 0x100, 2, 1, 1⟩
/-- PM_CTRL.WDOG_FOH, bits [3:3], RW. -/
def PM_CTRL_WDOG_FOH (n : Nat) : Fld := ⟨0x3F00E00000 + n * 0x100, 3, 1, 1⟩
/-- PM_CTRL.HALT_ON_RESET, bits [4:4], RW. -/
def PM_CTRL_HALT_ON_RESET (n : Nat) : Fld := ⟨0x3F00E00000 + n * 0x100, 4, 1, 0⟩

/-- PM_STATUS.STATE, bits [2:0], RO. -/
def PM_STATUS_STATE (n : Nat) : Fld := ⟨0x3F00E00004 + n * 0x100, 0, 3, 0⟩
/-- PM_STATUS.PAIRED, bits [3:3], RO. -/
def PM_STATUS_PAIRED (n : Nat) : Fld := ⟨0x3F00E00004 + n * 0x100, 3, 1, 0⟩
/-- PM_STATUS.WDOG_EV, bits [16:16], W1C. -/
def PM_STATUS_WDOG_EV (n : Nat) : Fld := ⟨0x3F00E00004 + n * 0x100, 16, 1, 0⟩
/-- PM_STATUS.LS_FAULT, bits [17:17], W1C. -/
def PM_STATUS_LS_FAULT (n : Nat) : Fld := ⟨0x3F00E00004 + n * 0x100, 17, 1, 0⟩
/-- PM_STATUS.RAM_UE, bits [18:18], W1C. -/
def PM_STATUS_RAM_UE (n : Nat) : Fld := ⟨0x3F00E00004 + n * 0x100, 18, 1, 0⟩
/-- PM_STATUS.CFG_REJECT, bits [19:19], W1C. -/
def PM_STATUS_CFG_REJECT (n : Nat) : Fld := ⟨0x3F00E00004 + n * 0x100, 19, 1, 0⟩

/-- PM_WDOG.EN, bits [0:0], RW. -/
def PM_WDOG_EN (n : Nat) : Fld := ⟨0x3F00E00010 + n * 0x100, 0, 1, 0⟩
/-- PM_WDOG.RESTART, bits [1:1], RW. -/
def PM_WDOG_RESTART (n : Nat) : Fld := ⟨0x3F00E00010 + n * 0x100, 1, 1, 0⟩
/-- PM_WDOG.TIMEOUT_MS, bits [31:16], RW. -/
def PM_WDOG_TIMEOUT_MS (n : Nat) : Fld := ⟨0x3F00E00010 + n * 0x100, 16, 16, 0x3E8⟩

/-- PM_BOOT_LO.BOOT, bits [31:2], RW. -/
def PM_BOOT_LO_BOOT (n : Nat) : Fld := ⟨0x3F00E00008 + n * 0x100, 2, 30, 0x3FFC0000⟩

/-- PM_BOOT_HI.BOOT, bits [7:0], RW. -/
def PM_BOOT_HI_BOOT (n : Nat) : Fld := ⟨0x3F00E0000C + n * 0x100, 0, 8, 0xFF⟩

/-- PM_CNT_IDX.IDX, bits [1:0], RW. -/
def PM_CNT_IDX_IDX (n : Nat) : Fld := ⟨0x3F00E00020 + n * 0x100, 0, 2, 0⟩

/-- DBG_GLOBAL.HALT_ANY, bits [0:0], RO. -/
def DBG_GLOBAL_HALT_ANY : Fld := ⟨0x3F00B80000, 0, 1, 0⟩
/-- DBG_GLOBAL.HALTED, bits [7:4], RO. -/
def DBG_GLOBAL_HALTED : Fld := ⟨0x3F00B80000, 4, 4, 0⟩
/-- DBG_GLOBAL.CFG_REJECT, bits [16:16], W1C. -/
def DBG_GLOBAL_CFG_REJECT : Fld := ⟨0x3F00B80000, 16, 1, 0⟩

/-- DBG_CTRL.HALT_REQ, bits [0:0], WO. -/
def DBG_CTRL_HALT_REQ (n : Nat) : Fld := ⟨0x3F00B81000 + n * 0x400, 0, 1, 0⟩
/-- DBG_CTRL.RESUME, bits [1:1], WO. -/
def DBG_CTRL_RESUME (n : Nat) : Fld := ⟨0x3F00B81000 + n * 0x400, 1, 1, 0⟩
/-- DBG_CTRL.STEP, bits [2:2], WO. -/
def DBG_CTRL_STEP (n : Nat) : Fld := ⟨0x3F00B81000 + n * 0x400, 2, 1, 0⟩
/-- DBG_CTRL.STEP_MASK, bits [3:3], RW. -/
def DBG_CTRL_STEP_MASK (n : Nat) : Fld := ⟨0x3F00B81000 + n * 0x400, 3, 1, 1⟩

/-- DBG_STATUS.HALTED, bits [0:0], RO. -/
def DBG_STATUS_HALTED (n : Nat) : Fld := ⟨0x3F00B81004 + n * 0x400, 0, 1, 0⟩
/-- DBG_STATUS.CAUSE, bits [3:1], RO. -/
def DBG_STATUS_CAUSE (n : Nat) : Fld := ⟨0x3F00B81004 + n * 0x400, 1, 3, 0⟩
/-- DBG_STATUS.UNIT, bits [7:4], RO. -/
def DBG_STATUS_UNIT (n : Nat) : Fld := ⟨0x3F00B81004 + n * 0x400, 4, 4, 0⟩
/-- DBG_STATUS.ACC_ERR, bits [16:16], W1C. -/
def DBG_STATUS_ACC_ERR (n : Nat) : Fld := ⟨0x3F00B81004 + n * 0x400, 16, 1, 0⟩

/-- DBG_REGSEL.INDEX, bits [5:0], RW. -/
def DBG_REGSEL_INDEX (n : Nat) : Fld := ⟨0x3F00B81008 + n * 0x400, 0, 6, 0⟩
/-- DBG_REGSEL.REG_RD, bits [8:8], WO. -/
def DBG_REGSEL_REG_RD (n : Nat) : Fld := ⟨0x3F00B81008 + n * 0x400, 8, 1, 0⟩
/-- DBG_REGSEL.REG_WR, bits [9:9], WO. -/
def DBG_REGSEL_REG_WR (n : Nat) : Fld := ⟨0x3F00B81008 + n * 0x400, 9, 1, 0⟩

/-- DBG_REGDATA_LO.DATA, bits [31:0], RW. -/
def DBG_REGDATA_LO_DATA (n : Nat) : Fld := ⟨0x3F00B8100C + n * 0x400, 0, 32, 0⟩

/-- DBG_REGDATA_HI.DATA, bits [31:0], RW. -/
def DBG_REGDATA_HI_DATA (n : Nat) : Fld := ⟨0x3F00B81010 + n * 0x400, 0, 32, 0⟩

/-- DBG_MADDR_LO.ADDR, bits [31:0], RW. -/
def DBG_MADDR_LO_ADDR (n : Nat) : Fld := ⟨0x3F00B81014 + n * 0x400, 0, 32, 0⟩

/-- DBG_MADDR_HI.ADDR, bits [7:0], RW. -/
def DBG_MADDR_HI_ADDR (n : Nat) : Fld := ⟨0x3F00B81018 + n * 0x400, 0, 8, 0⟩

/-- DBG_MDATA.DATA, bits [31:0], RW. -/
def DBG_MDATA_DATA (n : Nat) : Fld := ⟨0x3F00B8101C + n * 0x400, 0, 32, 0⟩

/-- DBG_MCMD.READ, bits [0:0], WO. -/
def DBG_MCMD_READ (n : Nat) : Fld := ⟨0x3F00B81020 + n * 0x400, 0, 1, 0⟩
/-- DBG_MCMD.WRITE, bits [1:1], WO. -/
def DBG_MCMD_WRITE (n : Nat) : Fld := ⟨0x3F00B81020 + n * 0x400, 1, 1, 0⟩
/-- DBG_MCMD.DONE, bits [8:8], RO. -/
def DBG_MCMD_DONE (n : Nat) : Fld := ⟨0x3F00B81020 + n * 0x400, 8, 1, 1⟩
/-- DBG_MCMD.ERR, bits [11:9], RO. -/
def DBG_MCMD_ERR (n : Nat) : Fld := ⟨0x3F00B81020 + n * 0x400, 9, 3, 0⟩

/-- BP_ADDR_LO.ADDR, bits [31:2], RW. -/
def BP_ADDR_LO_ADDR (n : Nat) (k : Nat) : Fld := ⟨0x3F00B81040 + n * 0x400 + k * 0x10, 2, 30, 0⟩

/-- BP_ADDR_HI.ADDR, bits [7:0], RW. -/
def BP_ADDR_HI_ADDR (n : Nat) (k : Nat) : Fld := ⟨0x3F00B81044 + n * 0x400 + k * 0x10, 0, 8, 0⟩

/-- BP_CTX.CTX, bits [31:0], RW. -/
def BP_CTX_CTX (n : Nat) (k : Nat) : Fld := ⟨0x3F00B81048 + n * 0x400 + k * 0x10, 0, 32, 0⟩

/-- BP_CTRL.EN, bits [0:0], RW. -/
def BP_CTRL_EN (n : Nat) (k : Nat) : Fld := ⟨0x3F00B8104C + n * 0x400 + k * 0x10, 0, 1, 0⟩
/-- BP_CTRL.RANGE, bits [1:1], RW. -/
def BP_CTRL_RANGE (n : Nat) (k : Nat) : Fld := ⟨0x3F00B8104C + n * 0x400 + k * 0x10, 1, 1, 0⟩
/-- BP_CTRL.CTX_EN, bits [2:2], RW. -/
def BP_CTRL_CTX_EN (n : Nat) (k : Nat) : Fld := ⟨0x3F00B8104C + n * 0x400 + k * 0x10, 2, 1, 0⟩
/-- BP_CTRL.ACTION, bits [5:3], RW. -/
def BP_CTRL_ACTION (n : Nat) (k : Nat) : Fld := ⟨0x3F00B8104C + n * 0x400 + k * 0x10, 3, 3, 0⟩

/-- WP_ADDR_LO.ADDR, bits [31:0], RW. -/
def WP_ADDR_LO_ADDR (n : Nat) (k : Nat) : Fld := ⟨0x3F00B810C0 + n * 0x400 + k * 0x20, 0, 32, 0⟩

/-- WP_ADDR_HI.ADDR, bits [7:0], RW. -/
def WP_ADDR_HI_ADDR (n : Nat) (k : Nat) : Fld := ⟨0x3F00B810C4 + n * 0x400 + k * 0x20, 0, 8, 0⟩

/-- WP_DATA_LO.DATA, bits [31:0], RW. -/
def WP_DATA_LO_DATA (n : Nat) (k : Nat) : Fld := ⟨0x3F00B810C8 + n * 0x400 + k * 0x20, 0, 32, 0⟩

/-- WP_DATA_HI.DATA, bits [31:0], RW. -/
def WP_DATA_HI_DATA (n : Nat) (k : Nat) : Fld := ⟨0x3F00B810CC + n * 0x400 + k * 0x20, 0, 32, 0⟩

/-- WP_MASK_LO.MASK, bits [31:0], RW. -/
def WP_MASK_LO_MASK (n : Nat) (k : Nat) : Fld := ⟨0x3F00B810D0 + n * 0x400 + k * 0x20, 0, 32, 0⟩

/-- WP_MASK_HI.MASK, bits [31:0], RW. -/
def WP_MASK_HI_MASK (n : Nat) (k : Nat) : Fld := ⟨0x3F00B810D4 + n * 0x400 + k * 0x20, 0, 32, 0⟩

/-- WP_CTX.CTX, bits [31:0], RW. -/
def WP_CTX_CTX (n : Nat) (k : Nat) : Fld := ⟨0x3F00B810D8 + n * 0x400 + k * 0x20, 0, 32, 0⟩

/-- WP_CTRL.EN, bits [0:0], RW. -/
def WP_CTRL_EN (n : Nat) (k : Nat) : Fld := ⟨0x3F00B810DC + n * 0x400 + k * 0x20, 0, 1, 0⟩
/-- WP_CTRL.ACCESS, bits [2:1], RW. -/
def WP_CTRL_ACCESS (n : Nat) (k : Nat) : Fld := ⟨0x3F00B810DC + n * 0x400 + k * 0x20, 1, 2, 3⟩
/-- WP_CTRL.SIZE, bits [4:3], RW. -/
def WP_CTRL_SIZE (n : Nat) (k : Nat) : Fld := ⟨0x3F00B810DC + n * 0x400 + k * 0x20, 3, 2, 0⟩
/-- WP_CTRL.DATA_EN, bits [5:5], RW. -/
def WP_CTRL_DATA_EN (n : Nat) (k : Nat) : Fld := ⟨0x3F00B810DC + n * 0x400 + k * 0x20, 5, 1, 0⟩
/-- WP_CTRL.CTX_EN, bits [6:6], RW. -/
def WP_CTRL_CTX_EN (n : Nat) (k : Nat) : Fld := ⟨0x3F00B810DC + n * 0x400 + k * 0x20, 6, 1, 0⟩
/-- WP_CTRL.ACTION, bits [9:7], RW. -/
def WP_CTRL_ACTION (n : Nat) (k : Nat) : Fld := ⟨0x3F00B810DC + n * 0x400 + k * 0x20, 7, 3, 0⟩

/-- SEQ_CTRL.EN, bits [0:0], RW. -/
def SEQ_CTRL_EN (n : Nat) : Fld := ⟨0x3F00B81140 + n * 0x400, 0, 1, 0⟩
/-- SEQ_CTRL.ONCE, bits [1:1], RW. -/
def SEQ_CTRL_ONCE (n : Nat) : Fld := ⟨0x3F00B81140 + n * 0x400, 1, 1, 0⟩
/-- SEQ_CTRL.ACTION, bits [4:2], RW. -/
def SEQ_CTRL_ACTION (n : Nat) : Fld := ⟨0x3F00B81140 + n * 0x400, 2, 3, 0⟩
/-- SEQ_CTRL.COUNT, bits [15:8], RW. -/
def SEQ_CTRL_COUNT (n : Nat) : Fld := ⟨0x3F00B81140 + n * 0x400, 8, 8, 0⟩
/-- SEQ_CTRL.STATE, bits [17:16], RO. -/
def SEQ_CTRL_STATE (n : Nat) : Fld := ⟨0x3F00B81140 + n * 0x400, 16, 2, 0⟩
/-- SEQ_CTRL.CNT, bits [31:24], RO. -/
def SEQ_CTRL_CNT (n : Nat) : Fld := ⟨0x3F00B81140 + n * 0x400, 24, 8, 0⟩

/-- SEQ_SEL0.ARM, bits [11:0], RW. -/
def SEQ_SEL0_ARM (n : Nat) : Fld := ⟨0x3F00B81144 + n * 0x400, 0, 12, 0⟩
/-- SEQ_SEL0.TRIG, bits [27:16], RW. -/
def SEQ_SEL0_TRIG (n : Nat) : Fld := ⟨0x3F00B81144 + n * 0x400, 16, 12, 0⟩

/-- SEQ_SEL1.RST, bits [11:0], RW. -/
def SEQ_SEL1_RST (n : Nat) : Fld := ⟨0x3F00B81148 + n * 0x400, 0, 12, 0⟩

/-- TR_CTRL.EN, bits [0:0], RW. -/
def TR_CTRL_EN (n : Nat) : Fld := ⟨0x3F00B81180 + n * 0x400, 0, 1, 0⟩
/-- TR_CTRL.WRAP, bits [1:1], RW. -/
def TR_CTRL_WRAP (n : Nat) : Fld := ⟨0x3F00B81180 + n * 0x400, 1, 1, 1⟩
/-- TR_CTRL.GATE_INIT, bits [2:2], RW. -/
def TR_CTRL_GATE_INIT (n : Nat) : Fld := ⟨0x3F00B81180 + n * 0x400, 2, 1, 1⟩
/-- TR_CTRL.RESTART, bits [3:3], WO. -/
def TR_CTRL_RESTART (n : Nat) : Fld := ⟨0x3F00B81180 + n * 0x400, 3, 1, 0⟩

/-- TR_STATUS.WPTR, bits [15:0], RO. -/
def TR_STATUS_WPTR (n : Nat) : Fld := ⟨0x3F00B81184 + n * 0x400, 0, 16, 0⟩
/-- TR_STATUS.FULL, bits [16:16], RO. -/
def TR_STATUS_FULL (n : Nat) : Fld := ⟨0x3F00B81184 + n * 0x400, 16, 1, 0⟩
/-- TR_STATUS.WRAPPED, bits [17:17], W1C. -/
def TR_STATUS_WRAPPED (n : Nat) : Fld := ⟨0x3F00B81184 + n * 0x400, 17, 1, 0⟩
/-- TR_STATUS.OVF, bits [18:18], W1C. -/
def TR_STATUS_OVF (n : Nat) : Fld := ⟨0x3F00B81184 + n * 0x400, 18, 1, 0⟩
/-- TR_STATUS.GATE, bits [19:19], RO. -/
def TR_STATUS_GATE (n : Nat) : Fld := ⟨0x3F00B81184 + n * 0x400, 19, 1, 0⟩

/-- SB_CTRL.REPEAT_S, bits [7:0], RW. -/
def SB_CTRL_REPEAT_S : Fld := ⟨0x3F00A00000, 0, 8, 0xA⟩

/-- SB_STATUS.LOST, bits [15:0], RO. -/
def SB_STATUS_LOST : Fld := ⟨0x3F00A00004, 0, 16, 0⟩
/-- SB_STATUS.LOST_EV, bits [16:16], W1C. -/
def SB_STATUS_LOST_EV : Fld := ⟨0x3F00A00004, 16, 1, 0⟩
/-- SB_STATUS.WRITE_FAIL, bits [17:17], W1C. -/
def SB_STATUS_WRITE_FAIL : Fld := ⟨0x3F00A00004, 17, 1, 0⟩
/-- SB_STATUS.WATCH_EV, bits [18:18], W1C. -/
def SB_STATUS_WATCH_EV : Fld := ⟨0x3F00A00004, 18, 1, 0⟩
/-- SB_STATUS.CFG_REJECT, bits [19:19], W1C. -/
def SB_STATUS_CFG_REJECT : Fld := ⟨0x3F00A00004, 19, 1, 0⟩

/-- SB_WATCH.LO, bits [15:0], RW. -/
def SB_WATCH_LO : Fld := ⟨0x3F00A00018, 0, 16, 0⟩
/-- SB_WATCH.HI, bits [31:16], RW. -/
def SB_WATCH_HI : Fld := ⟨0x3F00A00018, 16, 16, 0⟩

/-- SB_OPSEC.VALUE, bits [31:0], RO. -/
def SB_OPSEC_VALUE : Fld := ⟨0x3F00A00008, 0, 32, 0⟩

/-- SB_PCYCLE.VALUE, bits [31:0], RO. -/
def SB_PCYCLE_VALUE : Fld := ⟨0x3F00A0000C, 0, 32, 0⟩

/-- SB_HEAD.VALUE, bits [31:0], RO. -/
def SB_HEAD_VALUE : Fld := ⟨0x3F00A00010, 0, 32, 0⟩

/-- SB_OLDEST.VALUE, bits [31:0], RO. -/
def SB_OLDEST_VALUE : Fld := ⟨0x3F00A00014, 0, 32, 0⟩

/-- LJ_STATUS.GUARANTEE, bits [0:0], RO. -/
def LJ_STATUS_GUARANTEE : Fld := ⟨0x3F00F00000, 0, 1, 0⟩
/-- LJ_STATUS.SAFE, bits [1:1], RO. -/
def LJ_STATUS_SAFE : Fld := ⟨0x3F00F00000, 1, 1, 0⟩
/-- LJ_STATUS.FAULT_OUT, bits [2:2], RO. -/
def LJ_STATUS_FAULT_OUT : Fld := ⟨0x3F00F00000, 2, 1, 1⟩
/-- LJ_STATUS.FAULT_LINE, bits [3:3], RO. -/
def LJ_STATUS_FAULT_LINE : Fld := ⟨0x3F00F00000, 3, 1, 0⟩
/-- LJ_STATUS.SELFTEST_FAIL, bits [4:4], RO. -/
def LJ_STATUS_SELFTEST_FAIL : Fld := ⟨0x3F00F00000, 4, 1, 0⟩
/-- LJ_STATUS.TEMP_WARN, bits [5:5], RO. -/
def LJ_STATUS_TEMP_WARN : Fld := ⟨0x3F00F00000, 5, 1, 0⟩
/-- LJ_STATUS.CFG_REJECT, bits [16:16], W1C. -/
def LJ_STATUS_CFG_REJECT : Fld := ⟨0x3F00F00000, 16, 1, 0⟩

/-- LJ_COND.COND, bits [15:0], RO. -/
def LJ_COND_COND : Fld := ⟨0x3F00F00004, 0, 16, 0⟩

/-- LJ_ALARM_ACT.ALARM, bits [21:0], RO. -/
def LJ_ALARM_ACT_ALARM : Fld := ⟨0x3F00F00008, 0, 22, 0⟩

/-- LJ_ALARM_LATCH.ALARM, bits [21:0], W1C. -/
def LJ_ALARM_LATCH_ALARM : Fld := ⟨0x3F00F0000C, 0, 22, 0⟩

/-- LJ_POLICY0.POLICY_1, bits [1:0], RW. -/
def LJ_POLICY0_POLICY_1 : Fld := ⟨0x3F00F00010, 0, 2, 0⟩
/-- LJ_POLICY0.POLICY_2, bits [3:2], RW. -/
def LJ_POLICY0_POLICY_2 : Fld := ⟨0x3F00F00010, 2, 2, 1⟩
/-- LJ_POLICY0.POLICY_3, bits [5:4], RW. -/
def LJ_POLICY0_POLICY_3 : Fld := ⟨0x3F00F00010, 4, 2, 1⟩
/-- LJ_POLICY0.POLICY_4, bits [7:6], RW. -/
def LJ_POLICY0_POLICY_4 : Fld := ⟨0x3F00F00010, 6, 2, 0⟩
/-- LJ_POLICY0.POLICY_5, bits [9:8], RW. -/
def LJ_POLICY0_POLICY_5 : Fld := ⟨0x3F00F00010, 8, 2, 0⟩
/-- LJ_POLICY0.POLICY_6, bits [11:10], RW. -/
def LJ_POLICY0_POLICY_6 : Fld := ⟨0x3F00F00010, 10, 2, 1⟩
/-- LJ_POLICY0.POLICY_7, bits [13:12], RW. -/
def LJ_POLICY0_POLICY_7 : Fld := ⟨0x3F00F00010, 12, 2, 1⟩
/-- LJ_POLICY0.POLICY_8, bits [15:14], RW. -/
def LJ_POLICY0_POLICY_8 : Fld := ⟨0x3F00F00010, 14, 2, 2⟩
/-- LJ_POLICY0.POLICY_9, bits [17:16], RW. -/
def LJ_POLICY0_POLICY_9 : Fld := ⟨0x3F00F00010, 16, 2, 1⟩
/-- LJ_POLICY0.POLICY_10, bits [19:18], RW. -/
def LJ_POLICY0_POLICY_10 : Fld := ⟨0x3F00F00010, 18, 2, 0⟩
/-- LJ_POLICY0.POLICY_11, bits [21:20], RW. -/
def LJ_POLICY0_POLICY_11 : Fld := ⟨0x3F00F00010, 20, 2, 0⟩
/-- LJ_POLICY0.POLICY_12, bits [23:22], RW. -/
def LJ_POLICY0_POLICY_12 : Fld := ⟨0x3F00F00010, 22, 2, 1⟩
/-- LJ_POLICY0.POLICY_13, bits [25:24], RW. -/
def LJ_POLICY0_POLICY_13 : Fld := ⟨0x3F00F00010, 24, 2, 1⟩
/-- LJ_POLICY0.POLICY_14, bits [27:26], RW. -/
def LJ_POLICY0_POLICY_14 : Fld := ⟨0x3F00F00010, 26, 2, 0⟩
/-- LJ_POLICY0.POLICY_15, bits [29:28], RW. -/
def LJ_POLICY0_POLICY_15 : Fld := ⟨0x3F00F00010, 28, 2, 0⟩
/-- LJ_POLICY0.POLICY_16, bits [31:30], RW. -/
def LJ_POLICY0_POLICY_16 : Fld := ⟨0x3F00F00010, 30, 2, 1⟩

/-- LJ_POLICY1.POLICY_17, bits [1:0], RW. -/
def LJ_POLICY1_POLICY_17 : Fld := ⟨0x3F00F00014, 0, 2, 2⟩
/-- LJ_POLICY1.POLICY_18, bits [3:2], RW. -/
def LJ_POLICY1_POLICY_18 : Fld := ⟨0x3F00F00014, 2, 2, 1⟩
/-- LJ_POLICY1.POLICY_19, bits [5:4], RW. -/
def LJ_POLICY1_POLICY_19 : Fld := ⟨0x3F00F00014, 4, 2, 0⟩
/-- LJ_POLICY1.POLICY_20, bits [7:6], RW. -/
def LJ_POLICY1_POLICY_20 : Fld := ⟨0x3F00F00014, 6, 2, 1⟩
/-- LJ_POLICY1.POLICY_21, bits [9:8], RW. -/
def LJ_POLICY1_POLICY_21 : Fld := ⟨0x3F00F00014, 8, 2, 1⟩
/-- LJ_POLICY1.POLICY_22, bits [11:10], RW. -/
def LJ_POLICY1_POLICY_22 : Fld := ⟨0x3F00F00014, 10, 2, 2⟩

/-- LJ_TLIM.WARN, bits [7:0], RW. -/
def LJ_TLIM_WARN : Fld := ⟨0x3F00F00018, 0, 8, if Config.partCode = 3 then 0x64 else 0x5F⟩
/-- LJ_TLIM.LIMIT, bits [15:8], RW. -/
def LJ_TLIM_LIMIT : Fld := ⟨0x3F00F00018, 8, 8, if Config.partCode = 3 then 0x69 else 0x64⟩
/-- LJ_TLIM.CRIT, bits [23:16], RW. -/
def LJ_TLIM_CRIT : Fld := ⟨0x3F00F00018, 16, 8, if Config.partCode = 3 then 0x73 else 0x6E⟩

/-- LJ_REFEREE.RESTARTS, bits [15:0], RO. -/
def LJ_REFEREE_RESTARTS : Fld := ⟨0x3F00F0001C, 0, 16, 0⟩
/-- LJ_REFEREE.KIND, bits [17:16], RO. -/
def LJ_REFEREE_KIND : Fld := ⟨0x3F00F0001C, 16, 2, 0⟩

/-- LJ_COMPANION.PIN, bits [9:0], RW. -/
def LJ_COMPANION_PIN (i : Nat) : Fld := ⟨0x3F00F00020 + i * 4, 0, 10, 0⟩
/-- LJ_COMPANION.EN, bits [15:15], RW. -/
def LJ_COMPANION_EN (i : Nat) : Fld := ⟨0x3F00F00020 + i * 4, 15, 1, 0⟩

/-- LJ_TEMP.TEMP, bits [11:0], RO. -/
def LJ_TEMP_TEMP (k : Nat) : Fld := ⟨0x3F00F00040 + k * 4, 0, 12, 0⟩
/-- LJ_TEMP.MAX, bits [27:16], RO. -/
def LJ_TEMP_MAX (k : Nat) : Fld := ⟨0x3F00F00040 + k * 4, 16, 12, 0x800⟩

/-- LJ_RAIL.MV, bits [15:0], RO. -/
def LJ_RAIL_MV (m : Nat) : Fld := ⟨0x3F00F000A0 + m * 4, 0, 16, 0⟩
/-- LJ_RAIL.MIN_MV, bits [31:16], RO. -/
def LJ_RAIL_MIN_MV (m : Nat) : Fld := ⟨0x3F00F000A0 + m * 4, 16, 16, 0xFFFF⟩

end Sys2Proof.Machine
end

