-- ==== Sys2Proof/Machine/State.lean ====
section
/-! DEFINITION. The state of the part, as plain data: every register field that is not at its reset value, every
counter, every memory, and what the spec gives each block beyond its registers; and the queue of commands that
wait. -/

namespace Sys2Proof.Machine

/-- The device states of R13. -/
inductive DevState where
  | cold | verify | load | huddle | staged | live | quiesce | safe | hold
  deriving DecidableEq, Repr

/-- What leaves the part on a bus, a link or a pin, in the order it left. The list of these in `State.out` is the
model's own record of the part's answers; nothing in the part reads it. -/
inductive Out where
  /-- An MSI-X vector is sent (R148). -/
  | msix (vector : Nat)
  /-- A CSR or NoC access is answered with this data. -/
  | readData (data : Nat)
  /-- A CSR or NoC access is answered OK, without data. -/
  | accessOk
  /-- A CSR or NoC access is answered with a status of R244 other than OK. -/
  | accessError (status : Nat)
  /-- A violating BAR2 read completes with Completer Abort and is reported through AER (R164). -/
  | completerAbort
  /-- A management I2C transfer returns these bytes (R138). -/
  | i2cData (bytes : List (BitVec 8))
  /-- The JTAG data register shifted out (R409 to R412). -/
  | tdo (bits : Nat) (width : Nat)
  /-- A request to a module on an identity bus: bus, device address, register, bytes written (R100 to R107). -/
  | moduleWrite (bus : Nat) (device : Nat) (register : Nat) (bytes : List (BitVec 8))
  /-- A frame leaves on a Rally port (R314). -/
  | frame (port : Nat) (bytes : List (BitVec 8))
  /-- A packet leaves a NoC endpoint towards the outside: destination node, status, data. -/
  | packet (dest : Nat) (status : Nat) (data : List (BitVec 8))
  /-- A cell is handed to a queue's consumer (R283). -/
  | cell (queue : Nat) (bytes : List (BitVec 8)) (flags : Nat)
  /-- Something is presented to a region's logic: 0 FPI_RSP, 1 FPT_REQ, 2 FPX_RX, 3 DQD, 4 RP_RX (R202, R266,
  R280, R315). -/
  | fabric (region : Nat) (kind : Nat) (tag : Nat) (status : Nat) (data : List (BitVec 8))
  /-- An ICP response word (R226). -/
  | icp (word : Nat)
  /-- A one-slot pulse or a level on a beat line or pin: kind, line, level (R35). -/
  | line (kind : Nat) (index : Nat) (level : Bool)
  deriving DecidableEq, Repr

/-- A 48-bit counter with its sticky overflow (R211). -/
structure Ctr where
  val : Nat
  ovf : Bool
  deriving DecidableEq, Repr

/-- Local time and what runs on it. -/
structure Time where
  /-- Local time in microseconds since power was applied. -/
  us : Nat
  /-- The running timers and when each is due. -/
  deadlines : Tab Nat
  /-- What the timers that firmware keeps were last started with (R434). -/
  full : Tab Nat
  /-- When a rate-limited event was last written, by its key. -/
  lastEvt : Tab Nat
  /-- When the internal reset was last released: OPSEC counts from here (R421). -/
  runFrom : Nat
  deriving DecidableEq, Repr

/-- The device state and what the Referee remembers of its last change (R13, R171). -/
structure Dev where
  state : DevState
  prev : DevState
  cause : Nat
  atTurn : Nat
  atSlot : Nat
  atFine : Nat
  atTq : Nat
  /-- A pending OUTPUTS_ON of MODE 1: the turn it waits for (R172). -/
  onAt : Option Nat
  /-- The mailbox whose OUTPUTS_ON of MODE 0 waits for its turn boundary; 64 + m once mailbox m has been reset. -/
  onNext : Option Nat
  /-- Turn boundaries counted since STAGED entry (R133). -/
  stagedTurns : Nat
  /-- Auto-live has been resolved since STAGED was entered from HUDDLE: LIVE entered, or suppressed (R133). -/
  autoSpent : Bool
  /-- A DEVICE_RESET is due (R83). -/
  resetDue : Bool
  deriving DecidableEq, Repr

/-- External time T:S.F (R20). -/
structure Clk where
  turn : Nat
  slot : Nat
  fine : Nat
  deriving DecidableEq, Repr

/-- One stored command result (R150). -/
structure Hist where
  seq : Nat
  opcode : Nat
  crc : Nat
  status : Nat
  payload : List (BitVec 8)
  running : Bool
  deriving DecidableEq, Repr

/-- One mailbox: its request buffer, its response buffer and its history of at most 16 results, newest first. -/
structure MBox where
  req : Mem
  rsp : List (BitVec 8)
  hist : List Hist
  deriving DecidableEq, Repr

/-- A request in the sequencer: its mailbox, and whether it is an OUTPUTS_ON that R146 turns away. -/
structure Seq where
  mb : Nat
  lost : Bool
  deriving DecidableEq, Repr

/-- An asynchronous command that has returned ACCEPTED and still runs. -/
structure Async where
  mb : Nat
  seq : Nat
  opcode : Nat
  args : List Nat
  data : List (BitVec 8)
  deriving DecidableEq, Repr

/-- The mailbox block (spec/05). -/
structure Mail where
  boxes : Tab MBox
  /-- The requests placed in the sequencer, in the order in which they run (R144). -/
  queue : List Seq
  running : List Async
  /-- Notice entries, key ring * 4096 + slot (R136, R159). -/
  rings : Tab (List (BitVec 8))
  /-- Mailboxes are served: the Referee firmware runs (R149, R434). -/
  served : Bool
  /-- Only MB13 is served, by the boot ROM (R149). -/
  romOnly : Bool
  /-- The mailbox that made the BAR2 grant (R163). -/
  grantor : Nat
  /-- The MSI-X vector 8 of ring 0 is owed at its interval's end (R162). -/
  msiOwed : Bool
  /-- Expert violations since the last event 0x0113 (R164). -/
  violations : Nat
  deriving DecidableEq, Repr

/-- The Whistle (spec/13): the service stacks, top entry first, as source and captured priority, and for each
target whether REQ is 1 and whether it has been 1 since the last claim, as bit masks. -/
structure Wh where
  stackTab : Tab (List (Nat × Nat))
  req : Nat
  seen : Nat
  deriving DecidableEq, Repr

/-- A Scorebook record that waits in Referee SRAM or is programmed (R414). ARG is a little-endian number. -/
structure Rec where
  code : Nat
  rep : Nat
  opsec : Nat
  pcycle : Nat
  turn : Nat
  slot : Nat
  fineTq : Nat
  flags : Nat
  arg : Nat
  /-- Local time of arrival in SRAM; not part of the record's bytes. -/
  us : Nat
  deriving DecidableEq, Repr

/-- An open tally (R420): the folded code and subject, the count, the OPSEC of the first occurrence counted, the
stamp of the last, and when the slot closes in local time. -/
structure Tally where
  code : Nat
  subj : Nat
  count : Nat
  first : Nat
  last : Rec
  closeUs : Nat
  deriving DecidableEq, Repr

/-- The Scorebook (spec/15): what the Referee keeps of it in SRAM. The ring itself lies in flash. -/
structure Sb where
  waiting : List Rec
  tallies : List Tally
  /-- Index, code and subject of the programmed records, newest first. -/
  known : List (Nat × Nat × Nat)
  /-- Head sector (0 to 127), next page in it (1 to 256), its SSEQ. -/
  sector : Nat
  page : Nat
  sseq : Nat
  /-- Index of the next record; index of the oldest record in the ring. -/
  next : Nat
  oldest : Nat
  /-- Index of the first record of each sector that holds a valid header. -/
  firsts : Tab Nat
  /-- Pages of the ring found torn: sector * 256 + page (R424). -/
  torn : List Nat
  /-- Failed programs in the head sector (R418). -/
  fails : Nat
  /-- Records dropped since the last event 0x0003. -/
  dropped : Nat
  /-- Counter area: CSEQ of the newest page, next page (0 to 4095), and OPSEC and PCYCLE (R421, R422). -/
  cseq : Nat
  cpage : Nat
  opBase : Nat
  pcycle : Nat
  /-- The Scorebook has been recovered since reset. -/
  live : Bool
  /-- A counter page is owed as soon as bank B is free (R422). -/
  commitDue : Bool
  deriving DecidableEq, Repr

/-- A flash operation on a bank: who started it (0 the Referee, 1 FL_ registers, 2 a FLASH command, 3 an IMAGE or
REGION command), its FL_CMD code (1 program, 2 erase, 3 to 5 as R357), its address and data, the sectors to erase after
this one, those erased before it, and the opcode of the asynchronous command that it serves (0 none). -/
structure FlashOp where
  owner : Nat
  code : Nat
  addr : Nat
  data : List (BitVec 8)
  rest : List Nat
  count : Nat
  job : Nat
  deriving DecidableEq, Repr

/-- One copy of the guard record (R367). -/
structure GuardCopy where
  level : Nat
  pending : Nat
  seq : Nat
  crc : Nat
  deriving DecidableEq, Repr

/-- The flash (spec/12): the array, and the state of each page (R354): 0 erased, 1 programmed, 2 undefined. -/
structure Flash where
  mem : Mem
  page : Tab Nat
  /-- Erase count of each sector (R360). -/
  erases : Tab Nat
  /-- The operation in progress on bank 0 (A) and 1 (B); operations waiting for a bank. -/
  ops : Tab FlashOp
  waiting : List FlashOp
  /-- Unlock sequence: 0 locked, 1 first key written, 2 unlocked; the initiator; its deadline is a timer. -/
  unlock : Nat
  unlockBy : Nat
  wrongKeys : Nat
  guard : List GuardCopy
  /-- The eFuse bit GUARD2 (R366). -/
  guard2 : Bool
  /-- A read of FL_GUARD is owed to source 341. -/
  guardChanged : Bool
  /-- A mass erase runs: the step of R368 it has reached, 0 none. -/
  massStep : Nat
  /-- Operations interrupted, latched in the VBATT domain (R365): bank, FL_CMD code, address. -/
  latched : List (Nat × Nat × Nat)
  /-- Last suspension of each bank, in local time (R361). -/
  suspended : Tab Nat
  deriving DecidableEq, Repr

/-- The Line Judge's own state (spec/16). -/
structure Lj where
  /-- Alarms whose latch was taken with FAULT, and with SAFE (R441, R444), as bit masks. -/
  takenFault : Nat
  takenSafe : Nat
  /-- Conditions as the Line Judge last saw them (R431). -/
  cond : Nat
  /-- A bound has been missed and not met since (R432), by mechanism code. -/
  missed : Nat
  /-- Two-reading state of each sensor and threshold: key sensor * 3 + threshold; bit 0 crossed, bit 1 the last
  reading lay above, bit 2 the last reading lay 3 degrees or more below (R437). -/
  temp : Tab Nat
  /-- Two-sample state of each rail: 0 in range, 1 one sample outside, 2 + k in excursion with k good samples (R438). -/
  rail : Tab Nat
  /-- When the last Referee fault was, and whether a restart runs (R434, R435). -/
  lastRefFault : Option Nat
  restarting : Bool
  restartKind : Nat
  /-- Another card drives FAULT_N low. -/
  othersLow : Bool
  deriving DecidableEq, Repr
/-- One cell in a queue (R275): its valid data bytes, its flags, its stamp, and where it lies: 0 in the cell store,
1 in the store in a tail chunk being gathered, 2 + k in DRAM in chunk k of the spill pool (R289). -/
structure Cell where
  data : List (BitVec 8)
  sop : Bool
  eop : Bool
  poison : Bool
  turn : Nat
  slot : Nat
  fineTq : Nat
  place : Nat
  deriving DecidableEq, Repr

/-- The Dugout (spec/09): the cells of each queue, head first, and the released count of each TIMED queue. -/
structure Dq where
  cells : Tab (List Cell)
  released : Tab Nat
  /-- Chunks of the spill pool in use or reserved for a chunk being gathered. -/
  chunks : List Nat
  deriving DecidableEq, Repr

/-- A Rally-A frame kept for replay (R318): SEQ, its bytes, and whether its cells came from a TIMED queue. -/
structure Sent where
  seq : Nat
  bytes : List (BitVec 8)
  timed : Bool
  deriving DecidableEq, Repr

/-- One Rally port (spec/10), beyond its registers. -/
structure Port where
  /-- The queue of the packet the port has begun (R291), the bytes taken and not yet sent, and their flags. -/
  taking : Option Nat
  buf : List (BitVec 8)
  bufFirst : Bool
  bufLast : Bool
  bufPoison : Bool
  /-- Deficit round robin (R291): the queue served last and each queue's deficit in
  cells. -/
  lastQ : Nat
  deficit : Tab Int
  /-- Rally-A sender (R318, R319): oldest unacknowledged SEQ, kept frames, consecutive expiries. -/
  oldest : Nat
  replay : List Sent
  expiries : Nat
  /-- Frames accepted since the last acknowledgement, and whether one is due (R320). -/
  ackDue : Nat
  /-- SYNC exchange (R321): the peer was seen; a SYNC with SEEN = 1 came; one was sent. -/
  synSeen : Bool
  synGot : Bool
  synSent : Bool
  /-- Receiver (R316): adopt the next SEQ; inside a packet; its bytes short of a whole cell, whether they are poisoned,
  whether the next cell is the packet's first. -/
  adopt : Bool
  inPkt : Bool
  rxBuf : List (BitVec 8)
  rxPoison : Bool
  rxSop : Bool
  /-- Down bookkeeping: commanded down; latency mismatch; when the outage began; HOLD in force for it. -/
  cmdDown : Bool
  latBad : Bool
  downUs : Nat
  holding : Bool
  /-- Deskew: complete; first depth after REARM; AM periods tried; markers missed in a row per lane. -/
  deskewed : Bool
  deskewRef : Option Nat
  amTries : Nat
  amMissed : Tab Nat
  /-- A fabric frame is open (R315): its payload so far. -/
  fabOpen : Option (List (BitVec 8))
  deriving DecidableEq, Repr

/-- The lanes and ports. -/
structure Rally where
  ports : Tab Port
  /-- Lanes whose LAT_REF has been set since reset or REARM (R307). -/
  latSet : List Nat
  /-- Valid headers counted in HUNT, and invalid headers in the present window, are the receiver's; what leaves a
  lane is an event. The LOS level of each lane's input and whether the CDR has frequency lock. -/
  cdr : List Nat
  /-- Asynchronous eye scans keep the points measured so far. -/
  eye : List Nat
  deriving DecidableEq, Repr
/-- One entry of the port plan (R108). -/
structure PlanEntry where
  site : Nat
  mode : Nat
  type : Nat
  minRev : Nat
  first : Nat
  count : Nat
  optClass : Nat
  deriving DecidableEq, Repr

/-- Module identity (spec/03): the plan in force, and what the Referee last read of each site. -/
structure Sites where
  plan : List PlanEntry
  imr : Tab (List (BitVec 8))
  optSerial : Tab (List (BitVec 8))
  /-- Transmit-disable masks written by command, by site; buses with a MODPRSn_N pulse since the last poll. -/
  txMask : Tab Nat
  pulsed : List Nat
  deriving DecidableEq, Repr

/-- Start-up, images and keys (spec/04), and what the VBATT domain and the eFuses hold. -/
structure Boot where
  /-- The version of the running firmware, major [31:16], minor [15:0]; 0 where none runs. -/
  fw : Nat
  /-- BOOTSEL pins; candidates still to be checked (slots 0 to 2); the candidate in hand is a fallback. -/
  bootsel : Nat
  candidates : List Nat
  fallback : Bool
  /-- Start-up's next step: 0 none, 1 DRAM channels train (step 6 of R128), 2 waits for TQ (step 7), 3 the boot ROM
  checks the firmware, 4 the next image candidate is checked, 5 it is loaded, 6 it is read back, 7 it is read back after
  its second load, 8 an unfinished mass erase runs. -/
  stage : Nat
  /-- The start was an IMAGE_BOOT; it allowed auto-live. -/
  byCommand : Bool
  allowAuto : Bool
  /-- The header (4,096 bytes) of the image in hand. -/
  header : List (BitVec 8)
  /-- BUILD_ID of the loaded device image. -/
  build : Nat
  /-- Turn boundaries counted since T_s; none before a high sample (R130). -/
  huddle : Option Nat
  /-- eFuses (R121): DEVICE_KEY, KEY_HASH0 to 3, DEF_VID, DEF_SSVID, DEF_SSID (key 0 to 7); 0 is blank. -/
  fuses : Tab Nat
  revoke : Nat
  requireEnc : Bool
  efuseOnly : Bool
  /-- The VBATT key; none where lost or never loaded. -/
  vbattKey : Option (List (BitVec 8))
  /-- Image slots with a begin command open and its LENGTH; key 64 + s for region store slots. -/
  open_ : Tab Nat
  /-- PCIe: IDs that are fixed (vendor, subsystem vendor, subsystem), link up, PERST_N low. -/
  ids : Option (Nat × Nat × Nat)
  linkUp : Bool
  perst : Bool
  /-- Rails: 0 not good, 1 good since t0, 2 internal reset released. -/
  power : Nat
  /-- Reset causes latched in the VBATT domain since the last boot (R83). -/
  causes : Nat
  /-- Card removal: a warning is in force (R81). -/
  removal : Bool
  /-- VBATT has fallen below 1.20 V and has not been measured above it since (R121, R438). -/
  vbattLow : Bool
  /-- The measured VCCIO code of each bank as last given (R73), and banks held by a mismatch. -/
  bankBad : List Nat
  deriving DecidableEq, Repr

/-- A stored word of a tile RAM (R181, R184): 72 plain bits, or a word written under the ECC code: its 64 data bits
and the stored bits that have flipped since, data in bits 63:0 and check bits in 71:64. -/
inductive TWord where
  | raw (bits : Nat)
  | ecc (data : Nat) (flips : Nat)
  deriving DecidableEq, Repr

/-- What a tile RAM port last read: TRD, TFIX and TBAD. -/
structure TRead where
  trd : Nat
  tfix : Bool
  tbad : Bool
  deriving DecidableEq, Repr

/-- A stored word of a deep RAM (R186): eight data bytes, and the flipped bits of its eight 13-bit codewords,
codeword k in bits 13k + 12:13k, data bits first. -/
structure DWord where
  data : Nat
  flips : Nat
  deriving DecidableEq, Repr

/-- A packet on the network (R244), as its endpoints see it. `bad` names the beats sent as poisoned flits. `era` is the
model's own mark of the isolation period of a fabric port in which the request was made (R207). -/
structure Pkt where
  dest : Nat
  src : Nat
  op : Nat
  status : Nat
  ecc : Bool
  tag : Nat
  len : Nat
  wgt : Nat
  addr : Nat
  beFirst : Nat
  beLast : Nat
  turn : Nat
  slot : Nat
  res : Nat
  data : List (BitVec 8)
  bad : List Nat
  era : Nat
  deriving DecidableEq, Repr

/-- An initiator tag in use at a fabric port (R203): responses still owed, the worst STATUS so far, when it was issued. -/
structure FTag where
  op : Nat
  parts : Nat
  worst : Nat
  at_ : Nat
  deriving DecidableEq, Repr

/-- A target request at a fabric port: not yet presented, or presented at a local time; `dead` once the port has
answered it itself (R205). -/
structure TReq where
  pkt : Pkt
  shown : Option Nat
  dead : Bool
  deriving DecidableEq, Repr

/-- The fabric (spec/06). -/
structure Fab where
  /-- Global hold (R179). -/
  hold : Bool
  /-- FAB_IRQ[7:0] of each region as its logic drives it, and as last shown before a SWAP hold (R201). -/
  irq : Tab Nat
  shownIrq : Tab Nat
  /-- Regions whose logic asserts FAB_THROTTLE, and those that did when their SWAP hold began (R199, R201). -/
  throttle : List Nat
  shownThrottle : List Nat
  /-- FAB_USER_LINE writes held, and committed ones that wait for the turn boundary (R212). -/
  lineHeld : Tab Nat
  lineArmed : Tab Nat
  /-- Tile RAM words, key (64 r + b) * 512 + w; port outputs, key (64 r + b) * 2 + port. -/
  tile : Tab TWord
  trd : Tab TRead
  /-- Deep RAM words, key (16 r + b) * 32,768 + w. -/
  deep : Tab DWord
  /-- Deep RAM blocks that have written event 0x0330 in the present scrub pass. -/
  deepNoted : List Nat
  /-- Tags in use, key 64 r + tag; isolation periods of each port; target requests at each port. -/
  tags : Tab FTag
  era : Tab Nat
  targets : Tab (List TReq)
  /-- Slots left in each open swap window (R228, R230). -/
  window : Tab Nat
  /-- Regions powered off, and being powered on. -/
  off : List Nat
  waking : List Nat
  /-- Regions loaded while isolated: R224 applies at their RELEASE. -/
  fresh : List Nat
  /-- Pops a region has asked for and whose responses SWAP holds (R285). -/
  heldPops : Tab (List Cell)
  /-- How often a region's tile RAM has been loaded from frames (R183, R224), and its deep RAM lost (R209). -/
  tileGen : Tab Nat
  deepGen : Tab Nat
  /-- The next word of each region's tile RAM scrub (key 2 r) and deep RAM scrub (key 2 r + 1). -/
  ramPos : Tab Nat
  /-- Draining for a swap (R227): by region, the start t_S of the entry's slot as turn * 65,536 + slot. -/
  drains : Tab Nat
  deriving DecidableEq, Repr

/-- What is known of one configuration plane (R215, R216). -/
structure Plane where
  src : Nat
  slot : Nat
  enc : Bool
  version : Nat
  runs : Nat
  epochs : Nat
  deriving DecidableEq, Repr

/-- A load in progress (R221). SRC as R215; `data` holds an ICP image. -/
structure Load where
  region : Nat
  active : Bool
  src : Nat
  slot : Nat
  addr : Nat
  len : Nat
  data : List (BitVec 8)
  deriving DecidableEq, Repr

/-- A frame that waits for its repair (R237): plane, region, frame, local time of detection, started. -/
structure Repair where
  plane : Nat
  region : Nat
  frame : Nat
  us : Nat
  started : Bool
  /-- The frame was found in the active plane under FENCE_AUTO (R238). -/
  auto : Bool
  deriving DecidableEq, Repr

/-- The configuration controller and the scrubber (spec/07). -/
structure Cfg where
  /-- Frames by key plane * 184,320 + 2,304 r + f: 4,096 data bits; flipped stored bits: data bit i at i, check bit k of
  codeword w at 4,096 + 8 w + k, CRC bits at 4,608. -/
  frames : Tab Nat
  flips : Tab Nat
  /-- Planes by key 128 * plane + r. -/
  planes : Tab Plane
  load : Option Load
  repairs : List Repair
  /-- Next frame of the active and shadow pass, 2,304 r + f; regions with a priority read (R231) and their next frame. -/
  activePos : Nat
  shadowPos : Nat
  priority : List (Nat × Nat)
  activeFrom : Nat
  shadowFrom : Nat
  /-- Regions that FENCE_AUTO releases (R238): r waits for a turn boundary, 128 + r has met it. -/
  autoRelease : List Nat
  deriving DecidableEq, Repr

/-- One output of a router (R247, R248): credits and receiver queue occupancy of each VC, the flits kept for replay
(LSEQ, oldest first), the next LSEQ to send and to accept, NAK outstanding at the receiver, local time of the first NAK
or resend not yet made good, failed. -/
structure Link where
  credits : List Nat
  queued : List Nat
  kept : List (Nat × Nat)
  sendL : Nat
  wantL : Nat
  naked : Bool
  since : Option Nat
  failed : Bool
  /-- ACKs (false) and NAKs (true) on the return sideband, oldest first, with their LSEQ (R248). -/
  returns : List (Nat × Bool)
  deriving DecidableEq, Repr

/-- A Passer operation in flight (R269): tag, first byte of the copy it carries, bytes, writing, issue time. -/
structure POp where
  tag : Nat
  off : Nat
  n : Nat
  writing : Bool
  at_ : Nat
  deriving DecidableEq, Repr

/-- A Passer's work (R268 to R270), beyond its registers. -/
structure Pass where
  /-- The descriptor in hand: its 32 bytes; started; LATE; next byte to issue; operations in flight; worst STATUS. -/
  desc : Option (List (BitVec 8))
  started : Bool
  late : Bool
  off : Nat
  ops : List POp
  worst : Nat
  badDesc : Bool
  aborting : Bool
  /-- The descriptor came from a PASSER_COPY command; its RESULT is being written; its index in the ring. -/
  copy : Bool
  index : Nat
  deriving DecidableEq, Repr

/-- The network, TIMED channel, probes and Passers (spec/08). -/
structure Noc where
  /-- Packets under way, oldest first. -/
  net : List Pkt
  links : Tab Link
  /-- Slots left in each reservation's open window; packets sent in this slot on each reservation. -/
  windows : Tab Nat
  used : Tab Nat
  /-- TIMED packets under way, held at their destination, and presented there. -/
  flying : List Pkt
  held : List Pkt
  shown : List Pkt
  passes : Tab Pass
  /-- Probes whose threshold has been raised and not cleared; trace records; record count. -/
  raised : List Nat
  trace : Tab (List (BitVec 8))
  traceSeq : Nat
  /-- Tags in use at nodes 87 to 92 (R254), key 64 node + tag. -/
  tags : Tab FTag
  deriving DecidableEq, Repr

/-- A request in a DRAM controller: the packet, its arrival in local time, its latency target in 10 ns. -/
structure DReq where
  pkt : Pkt
  us : Nat
  target : Nat
  deriving DecidableEq, Repr

/-- DRAM (spec/11): bytes by NoC address; by codeword (unit address / 64 * 8 + j) the stored bits in error; the poisoned
units (address / 64); each controller's requests, oldest first; open rows; postponed refreshes; patrol. -/
structure Dram where
  mem : Mem
  errs : Tab Nat
  poison : Tab Bool
  reqs : Tab (List DReq)
  rows : Tab Nat
  postponed : Tab Nat
  patrolAt : Tab Nat
  patrolFrom : Tab Nat
  retrainInit : Tab Bool
  deriving DecidableEq, Repr

/-- A Playmaker core (spec/14): registers 0 to 31, PC and status as last known to run control; private registers; trace. -/
structure Core where
  regs : Tab Nat
  mtime : Nat
  mtimeUs : Nat
  mtimeHi : Nat
  mtimecmp : Nat
  beatLo : Nat
  beatHi : Nat
  beatArm : Bool
  lateArm : Bool
  ctxid : Nat
  beat : Bool
  late : Bool
  /-- The watchdog was last kicked, in local time; how long it had run when it stopped. -/
  kickUs : Nat
  stoppedFor : Option Nat
  /-- Run control: a halt event 0x0A06 has been written since the last resume; skip the first breakpoint; the interrupt
  inputs that the dozing core has unmasked (EXT, TIMER, BEAT); a DBG_MCMD under way through the NoC, and whether it writes. -/
  halted1 : Bool
  skipBp : Bool
  mask : Nat
  mcmd : Option Bool
  /-- The instruction cache (R388): words fetched since it was last invalidated, by flash address. -/
  icache : Tab (List (BitVec 8))
  /-- Trace: instructions retired and not yet written, RESYNC owed, slot of the last packet, bytes lost. -/
  retired : Nat
  resync : Bool
  tSlot : Nat
  tTurn : Nat
  lost : Option Nat
  deriving DecidableEq, Repr

/-- The Playmakers, run control, trace and JTAG. -/
structure Pm where
  cores : Tab Core
  /-- Local RAM, key core * 2^18 + offset; shared RAM; trace RAM, key core * 2^16 + offset. -/
  localRam : Mem
  sharedRam : Mem
  trace : Mem
  /-- JTAG: the selected instruction, the boundary register, pins taken; MBOX and DBG results. -/
  ir : Nat
  boundary : Nat
  pinsTaken : Bool
  mboxData : Nat
  mboxErr : Bool
  dbgData : Nat
  dbgErr : Bool
  deriving DecidableEq, Repr

/-- A Playbook entry (R34). -/
structure PbEntry where
  turn : Nat
  slot : Nat
  fine : Nat
  action : Nat
  en : Bool
  lockedOnly : Bool
  suppressHalt : Bool
  status : Nat
  period : Nat
  arg : Nat
  deriving DecidableEq, Repr

/-- The Game Clock beyond its registers (spec/01): Playbook, reference monitor, marker runs, calendar. -/
structure Gc where
  entries : Tab PbEntry
  /-- Entries fired in this slot; regions already swapped in this slot. -/
  fired : Nat
  swapped : List Nat
  /-- Actions in progress: kind, line, slots left (R35). -/
  acts : List (Nat × Nat × Nat)
  /-- A lock since reset; QUALIFY: the state it came from and windows counted; the reference being acquired. -/
  locked : Bool
  from_ : Nat
  count : Nat
  target : Nat
  /-- Windows beyond LIMIT in PENDING after the first; windows within WARN in a row of A and B (at most 100). -/
  beyond : Nat
  runA : Nat
  runB : Nat
  /-- TPLL lock reached: realign at the next marker. -/
  realign : Bool
  /-- A revertive return waits for the turn boundary. -/
  revert : Bool
  /-- Slipped markers in a row at one offset (slots * 64 + fine steps, from the boundary), missed markers in a row. -/
  slips : Nat
  slipAt : Int
  misses : Nat
  /-- The thresholds of the monitor window under way, WARN and LIMIT in ppm. -/
  warn : Nat
  limit : Nat
  /-- TQ at this slot's start. -/
  tqNow : Nat
  /-- Local time of the next calendar tick (R42). -/
  calDue : Nat
  deriving DecidableEq, Repr

/-- Clocks beyond their registers (spec/02). -/
structure Pll where
  /-- XTAL_IN is faulty: RCO windows since; good windows in a row. -/
  xtalBad : Bool
  badMs : Nat
  good : Nat
  /-- PLLs that have locked since EN; phase failures in a row of each; TPLL pair: disagreeing slots, faulty member. -/
  locked : List Nat
  fails : Tab Nat
  disagree : Nat
  faulty : Option Nat
  /-- Sources that lines changed while a change was under way take next: key 0 to 31 global, 64 + 32 r + l regional. -/
  switching : Tab Nat
  deriving DecidableEq, Repr

/-- The machine stops with a fault: no command of this part does. -/
inductive Fault where
  /-- Raised by no meaning: the spec gives every command an effect (safe). -/
  | none
  deriving DecidableEq, Repr

/-- No meaning for a command. -/
inductive Refusal where
  /-- Raised by an arm of exec for a command that has no meaning yet (safe). -/
  | notModelled (mnemonic : String)
  deriving DecidableEq, Repr

/-- The state of the part. -/
structure State where
  /-- Register fields that are not at their reset value, by field key (log entry 1). -/
  regs : Tab Nat
  /-- The 48-bit counters that are not zero (R211). -/
  ctrs : Tab Ctr
  /-- Words latched by the read of another word (R44, R211), by the address they are read at. -/
  latch : Tab Nat
  /-- Local time and timers. -/
  time : Time
  /-- The MODEL's own counter of free values: it picks no value (log entry 4). -/
  freeIdx : Nat
  /-- External time (R20). -/
  clk : Clk
  /-- The device state (R13). -/
  dev : Dev
  /-- The mailboxes (spec/05). -/
  mail : Mail
  /-- The Whistle (spec/13). -/
  wh : Wh
  /-- The Scorebook (spec/15). -/
  sb : Sb
  /-- The flash (spec/12). -/
  flash : Flash
  /-- The Line Judge (spec/16). -/
  lj : Lj
  /-- The Dugout (spec/09). -/
  dq : Dq
  /-- Lanes and ports (spec/10). -/
  rally : Rally
  /-- Module identity (spec/03). -/
  sites : Sites
  /-- The Game Clock (spec/01). -/
  gc : Gc
  /-- Clocks (spec/02). -/
  pll : Pll
  /-- Start-up (spec/04). -/
  boot : Boot
  /-- The fabric (spec/06). -/
  fab : Fab
  /-- Configuration and scrubbing (spec/07). -/
  cfg : Cfg
  /-- The network (spec/08). -/
  noc : Noc
  /-- DRAM (spec/11). -/
  dram : Dram
  /-- Playmakers and debug (spec/14). -/
  pm : Pm
  /-- The MODEL's own record of what left the part, oldest first. -/
  out : List Out
  /-- The commands that wait, first in, first out. -/
  pending : List Instr
  deriving DecidableEq, Repr

/-- The part right after reset, before its rails are good: every register at its reset value. -/
def State.reset : State where
  regs := []
  ctrs := []
  latch := []
  time := ⟨0, [], [], [], 0⟩
  freeIdx := 0
  clk := ⟨0, 0, 0⟩
  dev := ⟨.cold, .cold, 0, 0, 0, 0, 0, none, none, 0, false, false⟩
  mail := ⟨[], [], [], [], false, false, 0, false, 0⟩
  wh := ⟨[], 0, 0⟩
  sb := ⟨[], [], [], 0, 0, 0, 0, 0, [], [], 0, 0, 0, 0, 0, 0, false, false⟩
  flash := ⟨[], [], [], [], [], 0, 0, 0, [⟨0, 0, 1, 0x8A6FD632⟩, ⟨0, 0, 0, 0x572A7C8A⟩], false, false, 0, [], []⟩
  lj := ⟨0, 0, 0, 0, [], [], none, false, 0, false⟩
  dq := ⟨[], [], []⟩
  rally := ⟨[], [], [], []⟩
  sites := ⟨[], [], [], [], []⟩
  gc := ⟨[], 0, [], [], false, 0, 0, 0, 0, 0, 0, false, false, 0, 0, 0, 50, 200, 0, 0⟩
  pll := ⟨false, 0, 0, [], [], 0, none, []⟩
  boot := ⟨0, 0, [], false, 0, false, false, [], 0, none, [], 0, false, false, none, [], none, false, false, 0, 0, false, false, []⟩
  fab := ⟨false, [], [], [], [], [], [], [], [], [], [], [], [], [], [], [], [], [], [], [], [], [], []⟩
  cfg := ⟨[], [], [], none, [], 0, 0, [], 0, 0, []⟩
  noc := ⟨[], [], [], [], [], [], [], [], [], [], 0, []⟩
  dram := ⟨[], [], [], [], [], [], [], [], []⟩
  pm := ⟨[], [], [], [], 2, 0, false, 0, false, 0, false⟩
  out := []
  pending := []

end Sys2Proof.Machine
end

