-- ==== Sys2Proof/Machine/Ops.lean ====
section
/-! DEFINITION. The named operations that every block shares: reading and writing a register field, counting,
local timers, free values, and what leaves the part. -/

namespace Sys2Proof.Machine

/-- The value of a register field: its reset value until something else has been written (R3). -/
def getF (f : Fld) (s : State) : Nat := tabGet f.rst s.regs (fldKey f)

/-- Write a register field: the value is cut to the field's width (R3, R4). -/
def setF (f : Fld) (v : Nat) (s : State) : State :=
  { s with regs := tabSet f.rst s.regs (fldKey f) (v % 2 ^ f.w) }

/-- A one-bit field is 1. -/
def isSet (f : Fld) (s : State) : Bool := decide (getF f s = 1)

/-- Write a one-bit field from a Bool. -/
def setB (f : Fld) (b : Bool) (s : State) : State := setF f (natOfBool b) s

/-- Add one to a field that saturates at its maximum. -/
def bumpF (f : Fld) (s : State) : State :=
  if getF f s + 1 < 2 ^ f.w then setF f (getF f s + 1) s else s

/-- Add to a field that wraps at its width. -/
def addF (f : Fld) (n : Nat) (s : State) : State := setF f (getF f s + n) s

/-- The identity of a statistics counter: the address of the register that selects it, and its index there. -/
def ctrKey (sel i : Nat) : Nat := sel * 64 + i

/-- A statistics counter. -/
def getC (k : Nat) (s : State) : Ctr := tabGet ⟨0, false⟩ s.ctrs k

/-- Add to a 48-bit statistics counter: it saturates at its maximum, and OVF then stays set (R211). -/
def addC (k n : Nat) (s : State) : State :=
  let c := getC k s
  let c' : Ctr := if c.val + n < 2 ^ 48 then ⟨c.val + n, c.ovf⟩ else ⟨2 ^ 48 - 1, true⟩
  { s with ctrs := tabSet ⟨0, false⟩ s.ctrs k (if n = 0 then c else c') }

/-- Count one occurrence. -/
def incC (k : Nat) (s : State) : State := addC k 1 s

/-- Clear a statistics counter and its OVF. -/
def clrC (k : Nat) (s : State) : State := { s with ctrs := tabSet ⟨0, false⟩ s.ctrs k ⟨0, false⟩ }

/-- The six bytes of a counter in a response. -/
def ctrBytes (k : Nat) (s : State) : List (BitVec 8) := leBytes 6 (getC k s).val

/-- Do something only where a condition holds. -/
def whenS (b : Bool) (f : State → State) (s : State) : State := if b then f s else s

/-- Something leaves the part. -/
def emit (o : Out) (s : State) : State := { s with out := s.out ++ [o] }

/-- An MSI-X vector is sent (R148): nothing leaves while the PCIe link is down. -/
def msix (v : Nat) (s : State) : State := if s.boot.linkUp then emit (.msix v) s else s

/-- A free value (log entry 4), and the counter advanced so that the next one is unrelated. -/
def freeNat (s : State) : Nat := Config.freeValue s.freeIdx

/-- The state after one free value has been used. -/
def useFree (s : State) : State := { s with freeIdx := s.freeIdx + 1 }

/-- Start (or restart) a timer that runs for `d` microseconds of local time. -/
def startTimer (k d : Nat) (s : State) : State :=
  { s with time := { s.time with deadlines := tabPut s.time.deadlines k (s.time.us + d) } }

/-- Start a timer that firmware keeps: a Referee restart starts it again from its full value (R434). -/
def startFirm (k d : Nat) (s : State) : State :=
  let s := startTimer k d s
  { s with time := { s.time with full := tabPut s.time.full k d } }

/-- Stop a timer. -/
def stopTimer (k : Nat) (s : State) : State :=
  { s with time := { s.time with deadlines := tabDel s.time.deadlines k } }

/-- A timer runs. -/
def timerOn (k : Nat) (s : State) : Bool := (tabFind s.time.deadlines k).isSome

/-- The timer's expiry is happening: local time is at least its due time, and it no longer runs (log entry 3). -/
def expire (k : Nat) (s : State) : State :=
  { s with time := { s.time with
      us := max s.time.us (tabGet 0 s.time.deadlines k)
      deadlines := tabDel s.time.deadlines k } }

/-- A rate-limited event may be written: a period has passed since the last one. -/
def rateFree (k period : Nat) (s : State) : Bool :=
  match tabFind s.time.lastEvt k with
  | none => true
  | some t => decide (t + period ≤ s.time.us)

/-- Note that a rate-limited event is written now. -/
def rateMark (k : Nat) (s : State) : State :=
  { s with time := { s.time with lastEvt := tabPut s.time.lastEvt k s.time.us } }

/-- Do something at most once in a period for the key `k`. -/
def atMostOnce (k period : Nat) (f : State → State) (s : State) : State :=
  if rateFree k period s then f (rateMark k s) else s

/-- At most once per second, in the form most chapters give. -/
def oncePerSecond (k : Nat) (f : State → State) (s : State) : State := atMostOnce k 1000000 f s

/-- FINE and TQ in one byte: F in bits 5:0, TQ in bits 7:6 (R159, R275, R414). -/
def fineTq (s : State) : Nat := s.clk.fine % 64 + 64 * getF GC_STATUS_TQ s

/-- SLOTS_PER_TURN (R20). -/
def slotsPerTurn (s : State) : Nat := getF GC_CFG_SLOTS_SLOTS_M1 s + 1

/-- The difference of two turn numbers, counted modulo 2^48. -/
def turnDiff (a b : Nat) : Nat := (a % 2 ^ 48 + 2 ^ 48 - b % 2 ^ 48) % 2 ^ 48

/-- The code of a device state (R13). -/
def devCode : DevState → Nat
  | .cold => 0 | .verify => 1 | .load => 2 | .huddle => 3 | .staged => 4
  | .live => 5 | .quiesce => 6 | .safe => 7 | .hold => 8

/-- Outputs are on: only in LIVE and QUIESCE (R16), and never once a removal warning has turned them off (R81). -/
def outputsOn (s : State) : Bool :=
  !s.boot.removal &&
  match s.dev.state with
  | .live => true
  | .quiesce => true
  | _ => false

end Sys2Proof.Machine
end

