-- ==== Sys2Proof/Machine/FlashCore.lean ====
section
/-! DEFINITION. The flash array and its two banks, as every path uses them (R352, R354, R359, R360). What FL_
registers, FLASH commands and the guard do is in Machine/Flash.lean. -/

namespace Sys2Proof.Machine

/-- The bank of a flash address: 0 is A, 1 is B (R352). -/
def flBank (a : Nat) : Nat := if a < 0x8000000 then 0 else 1

/-- The counters behind FL_CNT_IDX: 0 FL_CE, 1 FL_UE, 2 BUSY_READS, 3 SAME_BANK refusals, 4 programs, 5 erases. -/
def ctFL (i : Nat) : Nat := ctrKey 0x3F00900030 i

/-- The state of a page: 0 erased, 1 programmed, 2 undefined (R354, R363). -/
def flPage (s : State) (a : Nat) : Nat := tabGet 0 s.flash.page (a / 256)

/-- A bank is busy with an operation. -/
def flBusy (b : Nat) (s : State) : Bool := (tabFind s.flash.ops b).isSome

/-- An operation of the FL_ registers or of a FLASH command runs or waits (FL_STATUS.OWN_BUSY). -/
def flOwnBusy (s : State) : Bool :=
  s.flash.ops.any (fun p => decide (p.2.owner ≠ 0)) || s.flash.waiting.any (fun o => decide (o.owner ≠ 0))

/-- The bytes of the array from an address on; erased bytes read 0xFF (R354). -/
def flBytes (a n : Nat) (s : State) : List (BitVec 8) := memBytes 0xFF s.flash.mem a n

/-- Every page of a sector is erased. -/
def flSectorBlank (a : Nat) (s : State) : Bool :=
  s.flash.page.all (fun p => decide (p.1 < a / 65536 * 256) || decide (a / 65536 * 256 + 256 ≤ p.1))

/-- A page is programmed with 256 bytes (R357). -/
def flProgram (a : Nat) (bytes : List (BitVec 8)) (s : State) : State :=
  incC (ctFL 4) { s with flash := { s.flash with
    mem := memWrite 0xFF s.flash.mem (a / 256 * 256) (padTo 256 bytes)
    page := tabSet 0 s.flash.page (a / 256) 1 } }

/-- A page whose program did not finish is undefined (R363). -/
def flSpoilPage (a : Nat) (s : State) : State :=
  { s with flash := { s.flash with page := tabSet 0 s.flash.page (a / 256) 2 } }

/-- The sector's bytes become 0xFF and its pages erased; its erase count rises by 1 (R357, R360). -/
def flEraseSector (a : Nat) (s : State) : State :=
  let b := a / 65536
  incC (ctFL 5) { s with flash := { s.flash with
    mem := tabCut (b * 65536) (b * 65536 + 65536) s.flash.mem
    page := tabCut (b * 256) (b * 256 + 256) s.flash.page
    erases := tabUpd 0 s.flash.erases b (· + 1) } }

/-- A sector whose erase did not finish is undefined: each of its pages (R363). -/
def flSpoilSector (a : Nat) (s : State) : State :=
  forEach (fun i => flSpoilPage (a / 65536 * 65536 + i * 256)) (natsFrom 0 256) s

/-- The sector's erase count has just reached the limit of R360. -/
def flWornOut (a : Nat) (s : State) : Bool := decide (tabGet 0 s.flash.erases (a / 65536) = 100000)

/-- Start an operation on its bank. -/
def flStart (o : FlashOp) (s : State) : State :=
  { s with flash := { s.flash with ops := tabPut s.flash.ops (flBank o.addr) o } }

end Sys2Proof.Machine
end

