-- ==== Sys2Proof/Machine/Records.lean ====
section
/-! DEFINITION. Writing an event into the Scorebook (R414 to R422): the record, its folding into REPEAT or a tally,
and the programming of pages. -/

namespace Sys2Proof.Machine

/-- The timer that runs while a record waits in SRAM (R418). -/
def tmSbPage : Nat := 1

/-- OPSEC (R421): seconds run since the release of the internal reset, added to what the counter area held. -/
def opsec (s : State) : Nat := min (s.sb.opBase + (s.time.us - s.time.runFrom) / 1000000) 0xFFFFFFFF

/-- The width an ARG value keeps where all of them, of widths `ws`, must fit six bytes: the last values are cut
first, a byte at a time, each to no less than one byte (R415; log entry 20). `keep` bytes are left for the
values from here on. -/
def argWidths : List Nat → Nat → List Nat
  | [], _ => []
  | w :: ws, room =>
    let k := min w (room - ws.length)
    k :: argWidths ws (room - k)

/-- The bytes of the values, each cut to the width it keeps. -/
def argBytes : List Nat → List (Nat × Nat) → List (BitVec 8)
  | k :: ks, (_, v) :: vs => leBytes k v ++ argBytes ks vs
  | _, _ => []

/-- ARG of an event written with the values `vs`, each a width and a value (R415). -/
def argOf (vs : List (Nat × Nat)) : Nat :=
  leNat (padTo 6 (argBytes (argWidths (vs.map (·.1)) 6) vs))

/-- ARG was cut (R415). -/
def argCut (vs : List (Nat × Nat)) : Bool := decide (6 < (vs.map (·.1)).foldl (· + ·) 0)

/-- The record of an event that happens now (R414). -/
def recNow (code : Nat) (vs : List (Nat × Nat)) (s : State) : Rec :=
  { code := code, rep := 0, opsec := opsec s, pcycle := s.sb.pcycle, turn := s.clk.turn, slot := s.clk.slot
    fineTq := fineTq s, flags := natOfBool (argCut vs), arg := argOf vs, us := s.time.us }

/-- The 28 bytes of a record before its CRC. -/
def recBody (r : Rec) : List (BitVec 8) :=
  leBytes 2 r.code ++ leBytes 2 r.rep ++ leBytes 4 r.opsec ++ leBytes 4 r.pcycle ++ leBytes 6 r.turn ++
    leBytes 2 r.slot ++ leBytes 1 r.fineTq ++ leBytes 1 r.flags ++ leBytes 6 r.arg

/-- The 32 bytes of a record (R414). -/
def recBytes (r : Rec) : List (BitVec 8) := recBody r ++ crc32cBytes (recBody r)

/-- Two occurrences are identical: CODE and the first 2 bytes of ARG are equal (R419). -/
def recSame (code arg : Nat) (r : Rec) : Bool := decide (r.code = code) && decide (r.arg % 65536 = arg % 65536)

/-- A code is watched (SB_WATCH). -/
def sbWatched (code : Nat) (s : State) : Bool :=
  decide (getF SB_WATCH_LO s ≤ code) && decide (code ≤ getF SB_WATCH_HI s) && decide (getF SB_WATCH_HI s ≠ 0)

/-- Append a record to those that wait; the 513th is dropped and counted in LOST (R418). -/
def sbAppend (r : Rec) (s : State) : State :=
  if s.sb.waiting.length < 512 then
    { s with sb := { s.sb with waiting := s.sb.waiting ++ [r], next := (s.sb.next + 1) % 2 ^ 32 } }
  else
    bumpF SB_STATUS_LOST { s with sb := { s.sb with dropped := s.sb.dropped + 1 } }

/-- The tally of an identical occurrence, if one is open. -/
def sbTallyOpen (r : Rec) (s : State) : Bool :=
  s.sb.tallies.any (fun t => decide (t.code = r.code) && decide (t.subj = r.arg % 65536))

/-- Count an occurrence in its open tally (R420). -/
def sbTallyCount (r : Rec) (s : State) : State :=
  { s with sb := { s.sb with tallies :=
      (listModify (fun t => decide (t.code = r.code) && decide (t.subj = r.arg % 65536))
        (fun t => { t with count := min (t.count + 1) 0xFFFF, last := r }) s.sb.tallies) } }

/-- Open a tally with its first occurrence (R420). -/
def sbTallyNew (r : Rec) (s : State) : State :=
  { s with sb := { s.sb with tallies := s.sb.tallies ++
      [⟨r.code, r.arg % 65536, 1, r.opsec, r, s.time.us + getF SB_CTRL_REPEAT_S s * 1000000⟩] } }

/-- Buffer an occurrence: folded into a waiting record, counted in a tally, or a record of its own (R419, R420). -/
def sbBuffer (r : Rec) (s : State) : State :=
  let s := whenS (sbWatched r.code s) (setF SB_STATUS_WATCH_EV 1) s
  if s.sb.waiting.any (recSame r.code r.arg) then
    { s with sb := { s.sb with waiting :=
        (listModify (recSame r.code r.arg) (fun x => { x with rep := min (x.rep + 1) 0xFFFF }) s.sb.waiting) } }
  else if sbTallyOpen r s then sbTallyCount r s
  else if s.sb.known.any (fun k => decide (k.2.1 = r.code) && decide (k.2.2 = r.arg % 65536)) &&
      decide (s.sb.tallies.length < 32) then sbTallyNew r s
  else sbAppend r s

/-- The flash address of a page of the Scorebook (R352). -/
def sbAddr (sector page : Nat) : Nat := 0xC800000 + sector * 65536 + page * 256

/-- The header page of a Scorebook sector (R416). -/
def sbHeader (sseq first : Nat) : List (BitVec 8) :=
  let h := [0x53, 0x42, 0x4B, 0x31] ++ leBytes 4 sseq ++ leBytes 4 first
  h ++ crc32cBytes h ++ List.replicate 240 0xFF

/-- A worn sector is noted (R360): WEAR, event 0x080A with the address; source 340 is held by WEAR. -/
def sbWear (a : Nat) (s : State) : State :=
  if flWornOut a s then sbBuffer (recNow 0x080A [(4, a)] s) (setF FL_STATUS_WEAR 1 s) else s

/-- Open the sector ahead: its header is written with SSEQ + 1, and the erase of the oldest sector begins (R417). -/
def sbOpen (s : State) : State :=
  let n := (s.sb.sector + 1) % 128
  let old := (n + 1) % 128
  let first := (s.sb.next + 2 ^ 32 - s.sb.waiting.length) % 2 ^ 32
  let s := flProgram (sbAddr n 0) (sbHeader (s.sb.sseq + 1) first) s
  let lost := (tabFind s.sb.firsts old).isSome
  let firsts := tabPut (tabDel s.sb.firsts old) n first
  let oldest := if lost then tabGet first firsts ((old + 1) % 128) else s.sb.oldest
  let s := { s with sb := { s.sb with
    sector := n, page := 1, sseq := (s.sb.sseq + 1) % 2 ^ 32, fails := 0, firsts := firsts, oldest := oldest
    known := if lost then s.sb.known.filter (fun k => decide ((k.1 + 2 ^ 32 - oldest) % 2 ^ 32 < 2 ^ 31)) else s.sb.known
    torn := s.sb.torn.filter (fun t => decide (t / 256 ≠ old)) } }
  flStart ⟨0, 2, sbAddr old 0, [], [], 0, 0⟩ s

/-- Program one page of waiting records into the head sector, with event 0x0003 first where records were dropped
(R418). A program that fails leaves its page unused. -/
def sbProgram (fails : Bool) (s : State) : State :=
  let lost := decide (s.sb.dropped ≠ 0)
  let recs := if lost then recNow 0x0003 [(4, s.sb.dropped)] s :: s.sb.waiting.take 7 else s.sb.waiting.take 8
  let rest := if lost then s.sb.waiting.drop 7 else s.sb.waiting.drop 8
  let a := sbAddr s.sb.sector s.sb.page
  if fails then
    let s := flSpoilPage a s
    let s := { s with sb := { s.sb with page := s.sb.page + 1, fails := s.sb.fails + 1 } }
    let s := sbBuffer (recNow 0x0004 [(4, a)] s) (setF SB_STATUS_WRITE_FAIL 1 s)
    if 3 ≤ s.sb.fails then sbOpen s else s
  else
    let first := (s.sb.next + 2 ^ 32 - s.sb.waiting.length) % 2 ^ 32
    let idx := natsFrom 0 recs.length
    let s := flProgram a ((recs.map recBytes).flatten ++ List.replicate 256 0xFF) s
    whenS (lost && sbWatched 0x0003 s) (setF SB_STATUS_WATCH_EV 1) <| whenS lost (setF SB_STATUS_LOST_EV 1) { s with sb := { s.sb with
      page := s.sb.page + 1
      waiting := rest
      dropped := 0
      next := if lost then (s.sb.next + 1) % 2 ^ 32 else s.sb.next
      known := ((idx.zip recs).foldl
        (fun l p => ((first + p.1) % 2 ^ 32, p.2.code, p.2.arg % 65536) :: l) s.sb.known) } }

/-- A page may be programmed now: the Scorebook is in use and bank B is free. -/
def sbReady (s : State) : Bool := s.sb.live && !flBusy 1 s

/-- The oldest waiting record has waited 500 ms (R418). -/
def sbAged (s : State) : Bool :=
  match s.sb.waiting with
  | [] => false
  | r :: _ => decide (r.us + 500000 ≤ s.time.us)

/-- Program pages while 8 records wait, or while any waits and `all` asks for it, at most `n` of them (R418). -/
def sbPages (all : Bool) : Nat → State → State
  | 0, s => s
  | n + 1, s =>
    if sbReady s && (decide (8 ≤ s.sb.waiting.length) || ((all || sbAged s) && decide (s.sb.waiting ≠ []))) then
      if 256 ≤ s.sb.page then sbPages all n (sbOpen s) else sbPages all n (sbProgram false s)
    else s

/-- The page timer follows the oldest waiting record (R418). -/
def sbTimer (s : State) : State :=
  match s.sb.waiting with
  | [] => stopTimer tmSbPage s
  | r :: _ => { s with time := { s.time with deadlines := tabPut s.time.deadlines tmSbPage (r.us + 500000) } }

/-- Program what is due, or everything where `all` asks for it. -/
def sbFlush (all : Bool) (s : State) : State := sbTimer (sbPages all 70 s)

/-- Write an event with the values the defining chapter names (R414, R415). -/
def sbEvent (code : Nat) (vs : List (Nat × Nat)) (s : State) : State :=
  sbFlush false (sbBuffer (recNow code vs s) s)

/-- Close a tally: it becomes a tally record (R420). -/
def sbClose (t : Tally) (s : State) : State :=
  whenS (sbWatched 0x0001 s) (setF SB_STATUS_WATCH_EV 1) <| sbAppend { t.last with
    code := 1, rep := t.count
    arg := t.code + 65536 * t.subj + 65536 * 65536 * (t.first % 65536)
    flags := t.last.flags ||| 1, us := s.time.us } s

/-- Close every open tally, oldest first (R418, R420: at a commit). -/
def sbCloseAll (s : State) : State :=
  forEach sbClose s.sb.tallies { s with sb := { s.sb with tallies := [] } }

/-- The counter page of R422 with the next CSEQ. -/
def sbCounterPage (s : State) : List (BitVec 8) :=
  let b := [0x4F, 0x50, 0x43, 0x31] ++ leBytes 4 (s.sb.cseq + 1) ++ leBytes 4 (opsec s) ++
    leBytes 4 s.sb.pcycle ++ List.replicate 12 0
  b ++ crc32cBytes b ++ List.replicate 224 0xFF

/-- Write a counter page; entering a new sector erases the sector ahead (R422). -/
def sbCounter (s : State) : State :=
  let a := 0xD000000 + s.sb.cpage * 256
  let s1 := flProgram a (sbCounterPage s) s
  let s2 := { s1 with sb := { s1.sb with
    cseq := (s.sb.cseq + 1) % 2 ^ 32, cpage := (s.sb.cpage + 1) % 4096, commitDue := false } }
  if s.sb.cpage % 256 = 0 then
    flStart ⟨0, 2, 0xD000000 + (s.sb.cpage / 256 + 1) % 16 * 65536, [], [], 0, 0⟩ s2
  else s2

/-- A commit: the tallies close, the waiting records are programmed, then one counter page (R418, R422). -/
def sbCommit (s : State) : State :=
  let s := sbFlush true (sbCloseAll s)
  if sbReady s then sbCounter s else { s with sb := { s.sb with commitDue := true } }

end Sys2Proof.Machine
end

