-- ==== Sys2Proof/Machine/Notices.lean ====
section
/-! DEFINITION. Notices to the masters' rings (R159 to R162), the latches of the Whistle's sources (R371), the
FAULT_N drive (R441) and the change of the device state (R14, R171). -/

namespace Sys2Proof.Machine

/-- The timer of the 10 µs between two MSI-X vectors 8 (R162). -/
def tmMsi8 : Nat := 2

/-- The bits of codes that are not maskable: 0, 1, 3, 4 and 7 (R160, R162). -/
def noticeFixed : Nat := 0x9B

/-- The mailbox whose registers hold ring `r`: MB0 for the shared ring 0, MB8 for 1, MB(r + 7) for 2 to 6 (R135). -/
def ringBox (r : Nat) : Nat := if r = 0 then 0 else r + 7

/-- The ring of a mailbox (R135). -/
def boxRing (m : Nat) : Nat := if m < 8 then 0 else m - 7

/-- The entries a ring holds (R136). -/
def ringSize (r : Nat) : Nat := if r = 0 then 2048 else 128

/-- Entries written and not yet read (R161). -/
def ringUsed (r : Nat) (s : State) : Nat :=
  (getF (NOTICE_PROD_PROD (ringBox r)) s + 2 ^ 32 - getF (NOTICE_CONS_CONS (ringBox r)) s) % 2 ^ 32

/-- The ring is full (R161). -/
def ringFull (r : Nat) (s : State) : Bool := decide (ringUsed r s = ringSize r)

/-- Some host mailbox enables the notice interrupt of ring 0 (R162; log entry 22). -/
def hostNoticeIrq (s : State) : Bool := (natsFrom 0 8).any (fun m => isSet (MB_CTRL_NOTICE_IRQ_EN m) s)

/-- MSI-X vector 8, at most once per 10 µs; one owed within that time is sent at its end (R162). -/
def noticeMsi (s : State) : State :=
  if hostNoticeIrq s then
    if timerOn tmMsi8 s then { s with mail := { s.mail with msiOwed := true } }
    else msix 8 (startTimer tmMsi8 10 s)
  else s

/-- The 28 bytes of a notice before its CRC (R159). -/
def noticeBody (code mb nseq : Nat) (arg : List (BitVec 8)) (s : State) : List (BitVec 8) :=
  leBytes 2 code ++ leBytes 1 mb ++ leBytes 1 0 ++ leBytes 4 nseq ++ leBytes 6 s.clk.turn ++
    leBytes 2 s.clk.slot ++ leBytes 1 (fineTq s) ++ leBytes 3 0 ++ padTo 8 arg

/-- The key of a ring's slot in `Mail.rings`. -/
def ringKey (r k : Nat) : Nat := r * 4096 + k % ringSize r

/-- Write one entry into a ring that has room: the entry first, then NOTICE_PROD (R161). -/
def ringWrite (r code mb : Nat) (arg : List (BitVec 8)) (s : State) : State :=
  let p := getF (NOTICE_PROD_PROD (ringBox r)) s
  let b := noticeBody code mb p arg s
  let s := { s with mail := { s.mail with rings := tabPut s.mail.rings (ringKey r p) (b ++ crc32cBytes b) } }
  let s := setF (NOTICE_PROD_PROD (ringBox r)) (p + 1) s
  if r = 0 then noticeMsi s else s

/-- Write the OVERFLOW entry that dropped notices owe, once space has returned (R161). -/
def ringOverflow (r : Nat) (s : State) : State :=
  let d := getF (NOTICE_DROP_DROPPED (ringBox r)) s
  if d ≠ 0 ∧ ringFull r s = false then
    ringWrite r 0 0xFF (leBytes 2 d) (setF (NOTICE_DROP_DROPPED (ringBox r)) 0 s)
  else s

/-- Post a notice to one ring: written, or dropped and counted when the ring is full; the first drop after an
OVERFLOW writes event 0x0115 (R161). -/
def ringPost (r code mb : Nat) (arg : List (BitVec 8)) (s : State) : State :=
  let s := ringOverflow r s
  if ringFull r s then
    let s := whenS (decide (getF (NOTICE_DROP_DROPPED (ringBox r)) s = 0)) (sbEvent 0x0115 []) s
    bumpF (NOTICE_DROP_DROPPED (ringBox r)) s
  else ringWrite r code mb arg s

/-- A ring takes a code: its mask bit is 1, or the code is not maskable (R162). -/
def ringTakes (r code : Nat) (s : State) : Bool :=
  bitOf (getF (NOTICE_MASK_MASK (ringBox r)) s ||| noticeFixed) code

/-- Post a notice to every ring whose mask takes its code, in ring order (R162). -/
def notice (code mb : Nat) (arg : List (BitVec 8)) (s : State) : State :=
  forEach (fun r s => if ringTakes r code s then ringPost r code mb arg s else s) (natsFrom 0 7) s

/-- A latched source is raised: its bit of WH_LATCH is set (R371). -/
def whRaise (id : Nat) (s : State) : State :=
  setF (WH_LATCH_LATCH (id / 32)) (withBit (getF (WH_LATCH_LATCH (id / 32)) s) (id % 32)) s

/-- The latch of a source. -/
def whLatched (id : Nat) (s : State) : Bool := bitOf (getF (WH_LATCH_LATCH (id / 32)) s) (id % 32)

/-- This device drives FAULT_N low (R441): a latched alarm was taken with FAULT or SAFE, or the device state asks
for it, or the self-test has failed. -/
def faultWanted (s : State) : Bool :=
  decide (s.lj.takenFault ≠ 0) || decide (s.lj.takenSafe ≠ 0) || isSet LJ_STATUS_SELFTEST_FAIL s ||
  match s.dev.state with
  | .staged => false
  | .live => false
  | .quiesce => false
  | _ => true

/-- FAULT_N follows a change: each assertion writes event 0x0C04 and each release 0x0C05 (R441). -/
def faultFollow (s : State) : State :=
  if faultWanted s = isSet LJ_STATUS_FAULT_OUT s then s
  else
    let w := faultWanted s
    sbEvent (if w then 0x0C04 else 0x0C05) [] (setB LJ_STATUS_FAULT_OUT w s)

/-- The device state changes (R14): the last transition is noted with its cause, event 0x0110 is written with the
cause, STATE_CHANGE is posted, and FAULT_N follows (R171, R441). -/
def setDevState (st : DevState) (cause : Nat) (s : State) : State :=
  let old := s.dev.state
  let s := { s with dev := { s.dev with
    state := st, prev := old, cause := cause, atTurn := s.clk.turn, atSlot := s.clk.slot
    atFine := s.clk.fine, atTq := getF GC_STATUS_TQ s } }
  let s := sbEvent 0x0110 [(1, cause)] s
  let s := notice 0x0002 0xFF (leBytes 1 (devCode st) ++ leBytes 1 (devCode old) ++ leBytes 1 cause) s
  faultFollow s

end Sys2Proof.Machine
end

