-- ==== Sys2Proof/Machine/Queues.lean ====
section
/-! DEFINITION. The Dugout's queues as every input and consumer uses them: admission, the full policies, popping,
release, flush, spill and the depth events (R275 to R293). -/

namespace Sys2Proof.Machine

/-- The counters of queue q behind DQ_CNT_SEL: 0 IN, 1 OUT, 2 DROP_NEW, 3 DROP_OLD, 4 AGED, 5 FLUSHED, 6 LOST,
7 BP_REFUSED (R294). -/
def ctDQ (q i : Nat) : Nat := ctrKey 0x3F00400030 (q * 8 + i)

/-- Rate-limit keys of the Dugout: event 0x0502, event 0x0507, and event 0x0506 of queue q. -/
def rlStoreFull : Nat := 0x0502
def rlStoreCe : Nat := 0x0507
def rlPoison (q : Nat) : Nat := 0x05060000 + q

/-- The cells of a queue, head first. -/
def dqCells (q : Nat) (s : State) : List Cell := tabGet [] s.dq.cells q

/-- DEPTH counts every cell of the queue, on chip and spilled (R279). -/
def dqDepth (q : Nat) (s : State) : Nat := (dqCells q s).length

/-- Cells of a queue that lie on chip. -/
def cellsOnChip (l : List Cell) : Nat := (l.filter (fun c => decide (c.place < 2))).length

/-- Cells of a queue that lie in DRAM (QFLAGS.SPILLED). -/
def dqSpilled (q : Nat) (s : State) : Nat := dqDepth q s - cellsOnChip (dqCells q s)

/-- The queue is TIMED (R277). -/
def dqTimed (q : Nat) (s : State) : Bool := isSet (QCFG_CLASS q) s

/-- RELEASED (R288): the released cells of a TIMED queue; equal to DEPTH for NORMAL. -/
def dqReleased (q : Nat) (s : State) : Nat :=
  if dqTimed q s then tabGet 0 s.dq.released q else dqDepth q s

/-- Replace the cells of a queue. -/
def dqSetCells (q : Nat) (l : List Cell) (s : State) : State :=
  { s with dq := { s.dq with cells := tabSet [] s.dq.cells q l } }

/-- Replace the released count of a queue. -/
def dqSetReleased (q n : Nat) (s : State) : State :=
  { s with dq := { s.dq with released := tabSet 0 s.dq.released q n } }

/-- The queue counts as full (R279): DEPTH has reached DEPTH_MAX. -/
def dqFull (q : Nat) (s : State) : Bool := decide (getF (QDEPTH_DEPTH_MAX q) s ≤ dqDepth q s)

/-- Cells of the store in use (R279). -/
def storeUsed (s : State) : Nat := s.dq.cells.foldl (fun n p => n + cellsOnChip p.2) 0

/-- FREE_CELLS: unused on-chip cells. -/
def storeFree (s : State) : Nat := 131072 - storeUsed s

/-- The queue a register-field key of QDEPTH.RESERVE belongs to, if it is one. -/
def reserveKeyQueue (k : Nat) : Option Nat :=
  if k % 32 = 16 ∧ 0x3F00410004 ≤ k / 32 ∧ k / 32 < 0x3F00450000 ∧ (k / 32 - 0x3F00410004) % 0x40 = 0 then
    some ((k / 32 - 0x3F00410004) / 0x40)
  else none

/-- The sum of RESERVE over enabled queues (R278, R279); RESERVE resets to 0, so only written fields count. -/
def reserveSum (s : State) : Nat :=
  s.regs.foldl (fun n p =>
    match reserveKeyQueue p.1 with
    | some q => if isSet (QCFG_EN q) s then n + p.2 else n
    | none => n) 0

/-- Shared cells in use: on-chip cells above RESERVE, over all queues (R279). -/
def sharedUsed (s : State) : Nat :=
  s.dq.cells.foldl (fun n p =>
    n + (cellsOnChip p.2 - (if isSet (QCFG_EN p.1) s then getF (QDEPTH_RESERVE p.1) s else 0))) 0

/-- A shared cell is free (R279). -/
def sharedFree (s : State) : Bool := decide (reserveSum s + sharedUsed s < 131072)

/-- The address of the spill pool's areas and its size (R290). -/
def spillData (s : State) : Nat := getF DQ_SPILL_DATA_LO_BASE s * 4096 + getF DQ_SPILL_DATA_HI_BASE s * 2 ^ 32
def spillMeta (s : State) : Nat := getF DQ_SPILL_META_LO_BASE s * 4096 + getF DQ_SPILL_META_HI_BASE s * 2 ^ 32
def spillChunks (s : State) : Nat := getF DQ_SPILL_CTRL_CHUNKS s

/-- The first free chunk of the spill pool. -/
def chunkFree (s : State) : Option Nat :=
  (natsFrom 0 (s.dq.chunks.length + 1)).find? (fun k => decide (k < spillChunks s) && !s.dq.chunks.contains k)

/-- How the queue places a new cell: 0 in the store, 1 in its tail chunk; none where no cell is found (R279, R289). -/
def dqPlace (q : Nat) (s : State) : Option Nat :=
  let l := dqCells q s
  let own := decide (cellsOnChip l < getF (QDEPTH_RESERVE q) s)
  if isSet (QCFG_SPILL_EN q) s then
    if own && l.all (fun c => decide (c.place = 0)) then some 0
    else if (chunkFree s).isSome then some 1 else none
  else if own then some 0
  else if sharedFree s then some 0 else none

/-- The 16-byte descriptor of a cell (R275). -/
def cellDesc (q : Nat) (c : Cell) : List (BitVec 8) :=
  leBytes 1 ((c.data.length - 1) % 64 + 64 * natOfBool c.sop + 128 * natOfBool c.eop) ++
    leBytes 1 (1 + 2 * natOfBool c.poison) ++ leBytes 2 q ++ leBytes 6 c.turn ++ leBytes 2 c.slot ++
    leBytes 1 c.fineTq ++ leBytes 3 0

/-- Set a QEVT bit of queue q (R286): bit 0 NE, 1 HI, 2 LO, 3 FULL, 4 DROP, 5 FLUSH, 6 SPILL_LOST, 7 CFG_REJECT,
8 FAULT. -/
def qevt (q bit : Nat) (s : State) : State := setF ⟨(QEVT_NE q).addr, bit, 1, 0⟩ 1 s

/-- The depth events of a queue whose DEPTH was `before` (R286). -/
def dqDepthEvents (q before : Nat) (s : State) : State :=
  let d := dqDepth q s
  let hi := getF (QWM_HI_WM q) s
  let s := whenS (decide (before = 0) && decide (0 < d)) (qevt q 0) s
  let s := whenS (decide (hi ≠ 0) && decide (before < hi) && decide (hi ≤ d))
    (fun s => setF (QFLAGS_HIGH q) 1 (qevt q 1 s)) s
  let s := whenS (decide (before < getF (QDEPTH_DEPTH_MAX q) s) && decide (getF (QDEPTH_DEPTH_MAX q) s ≤ d)) (qevt q 3) s
  whenS (isSet (QFLAGS_HIGH q) s && decide (hi ≠ 0) && decide (d < before) && decide (d ≤ getF (QWM_LO_WM q) s))
    (fun s => setF (QFLAGS_HIGH q) 0 (qevt q 2 s)) s

/-- Remove the first `n` cells of a queue: its released count falls by as many as were released. Freed chunks
return to the pool. -/
def dqRemove (q n : Nat) (s : State) : State :=
  let l := dqCells q s
  let keep := l.drop n
  let gone := ((l.take n).map (·.place)).filter (fun p => decide (2 ≤ p) && !(keep.any (fun c => decide (c.place = p))))
  let s := dqSetReleased q (tabGet 0 s.dq.released q - n) (dqSetCells q keep s)
  { s with dq := { s.dq with chunks := s.dq.chunks.filter (fun k => !gone.contains (k + 2)) } }

/-- Write a completed chunk of four tail cells to the spill pool (R289): data and descriptors, whole. -/
def spillWrite (q : Nat) (s : State) : State :=
  let l := dqCells q s
  let tail := l.filter (fun c => decide (c.place = 1))
  if tail.length < 4 then s
  else
    match chunkFree s with
    | none => s
    | some k =>
      let d := spillData s + 256 * k
      let m := spillMeta s + 64 * k
      let s := { s with dram := { s.dram with
        mem := (memWrite 0 (memWrite 0 s.dram.mem d ((tail.map (fun c => padTo 64 c.data)).flatten))
          m ((tail.map (cellDesc q)).flatten))
        errs := tabCut (m / 8) (m / 8 + 8) (tabCut (d / 8) (d / 8 + 32) s.dram.errs)
        poison := tabCut (m / 64) (m / 64 + 1) (tabCut (d / 64) (d / 64 + 4) s.dram.poison) } }
      let s := dqSetCells q (l.map (fun c => if c.place = 1 then { c with place := k + 2 } else c)) s
      { s with dq := { s.dq with chunks := k :: s.dq.chunks } }

/-- A cell lands at the tail of the queue (R281): counted in IN, with the depth events of a core cycle that began at depth
`before`. -/
def dqLand (q before place : Nat) (c : Cell) (s : State) : State :=
  let s := dqSetCells q (dqCells q s ++ [{ c with place := place }]) s
  spillWrite q (dqDepthEvents q before (incC (ctDQ q 0) s))

/-- An arriving cell is dropped: counted in DROP_NEW; with PKT_MODE the queue is then in DISCARD (R281, R282). -/
def dqDropNew (q : Nat) (discard : Bool) (s : State) : State :=
  whenS discard (setF (QFLAGS_DISCARD q) 1) (qevt q 4 (incC (ctDQ q 2) s))

/-- The cells that DROP_OLDEST drops: the head cell, or with PKT_MODE the head packet (R281, R282). -/
def dqHeadRun (q : Nat) (s : State) : Nat :=
  if isSet (QCFG_PKT_MODE q) s then
    match (dqCells q s).findIdx? (fun c => c.eop) with
    | some i => i + 1
    | none => dqDepth q s
  else min 1 (dqDepth q s)

/-- What a push answers. -/
inductive PushResult where
  | landed | dropped | refused
  deriving DecidableEq, Repr

/-- A push into a full queue, or one that finds no cell (R281, R282). -/
def dqPushFull (q : Nat) (c : Cell) (s : State) : PushResult × State :=
  let pkt := isSet (QCFG_PKT_MODE q) s
  let pol := getF (QCFG_POLICY q) s
  if pol = 0 then (.dropped, dqDropNew q pkt s)
  else if pol = 1 then
    let l := dqCells q s
    if l = [] then (.dropped, dqDropNew q pkt s)
    else if pkt && !c.sop && !(l.any (fun x => x.eop)) then (.dropped, dqDropNew q true s)
    else
      let n := dqHeadRun q s
      let before := dqDepth q s
      let s := qevt q 4 (addC (ctDQ q 3) n (dqRemove q n s))
      match dqPlace q s with
      | some p => (.landed, dqLand q before p c s)
      | none => (.dropped, dqDropNew q pkt (dqDepthEvents q before s))
  else (.refused, s)

/-- Push a cell into a queue (R279, R281, R282) in a core cycle that began at depth `before`; `full` says whether DEPTH_MAX
holds it back. -/
def dqPushAt (q before : Nat) (full : Bool) (c : Cell) (s : State) : PushResult × State :=
  if !isSet (QCFG_EN q) s then (.dropped, dqDropNew q false s)
  else if isSet (QFLAGS_DISCARD q) s && !c.sop then (.dropped, dqDropNew q true s)
  else
    let s := setF (QFLAGS_DISCARD q) 0 s
    if full then dqPushFull q c s
    else
      match dqPlace q s with
      | some p => (.landed, dqLand q before p c s)
      | none => dqPushFull q c (oncePerSecond rlStoreFull (sbEvent 0x0502 []) (setF DQ_STATUS_STORE_FULL 1 s))

/-- Push a cell into a queue with no pop of it in the same core cycle. -/
def dqPush (q : Nat) (c : Cell) (s : State) : PushResult × State := dqPushAt q (dqDepth q s) (dqFull q s) c s

/-- The cell a producer offers, stamped by the Dugout (R275). -/
def cellNow (data : List (BitVec 8)) (sop eop poison : Bool) (s : State) : Cell :=
  { data := data.take 64, sop := sop, eop := eop, poison := poison, turn := s.clk.turn, slot := s.clk.slot
    fineTq := fineTq s, place := 0 }

/-- What a pop answers: a cell, nothing, or a wait for a chunk on its way from DRAM (R289). -/
inductive PopResult where
  | got (c : Cell)
  | empty
  | wait
  deriving DecidableEq, Repr

/-- Take the head cell of a queue (R281, R288, R289), not yet counted in OUT and with no depth event yet: only a released cell
of a TIMED queue. -/
def dqTake (q : Nat) (s : State) : PopResult × State :=
  match dqCells q s with
  | [] => (.empty, s)
  | c :: _ =>
    if dqReleased q s = 0 then (.empty, s)
    else if 2 ≤ c.place then (.wait, s)
    else (.got c, dqRemove q 1 s)

/-- Pop the head cell of a queue: taken and counted in OUT, with its depth events. -/
def dqPop (q : Nat) (s : State) : PopResult × State :=
  match dqTake q s with
  | (.got c, s') => (.got c, dqDepthEvents q (dqDepth q s) (incC (ctDQ q 1) s'))
  | x => x

/-- A cell in the form in which it is handed over: 64 data bytes and the descriptor, its QUEUE and VALID as given; a pop
that finds nothing returns zero data and VALID = 0 (R275, R280). -/
def popBytes (q : Nat) (c : Option Cell) : List (BitVec 8) :=
  match c with
  | some c => padTo 64 c.data ++ cellDesc q c
  | none => List.replicate 80 0

/-- The queue holds a cell that its consumer could pop now. -/
def dqPoppable (q : Nat) (s : State) : Bool :=
  match dqPop q s with
  | (.got _, _) => true
  | _ => false

/-- Discard the first `n` cells of a queue, each counted in FLUSHED; FLUSH is set where any went (R286, R292). -/
def dqFlushN (q n : Nat) (s : State) : State :=
  let k := min n (dqDepth q s)
  if k = 0 then s
  else
    let before := dqDepth q s
    dqDepthEvents q before (qevt q 5 (addC (ctDQ q 5) k (dqRemove q k s)))

/-- Flush a queue: every cell, released or not (R288, R292). -/
def dqFlush (q : Nat) (s : State) : State := dqFlushN q (dqDepth q s) s

/-- A release makes every cell then in an enabled TIMED queue a released cell (R288). -/
def dqRelease (q : Nat) (s : State) : State :=
  if isSet (QCFG_EN q) s && dqTimed q s then dqSetReleased q (dqDepth q s) s else s

/-- The head cells older than AGE_TURNS, from the head on (R292). -/
def agedRun (age now : Nat) : List Cell → Nat
  | [] => 0
  | c :: l => if age < turnDiff now c.turn ∧ turnDiff now c.turn < 2 ^ 47 then agedRun age now l + 1 else 0

/-- The age rule of a held queue (R292): AGE_TURNS = 0 means none. -/
def dqAge (q : Nat) (s : State) : State :=
  let age := getF (QAGE_AGE_TURNS q) s
  if age = 0 then s
  else
    let n := agedRun age s.clk.turn (dqCells q s)
    if n = 0 then s
    else
      let before := dqDepth q s
      dqDepthEvents q before (qevt q 4 (addC (ctDQ q 4) n (dqRemove q n s)))

/-- The queues whose field at lowest bit `lo` of QCFG has been written to something else than its reset value. -/
def qcfgQueues (lo : Nat) (s : State) : List Nat :=
  (s.regs.filter (fun p => decide (p.1 % 32 = lo) && decide (0x3F00410000 ≤ p.1 / 32) &&
    decide (p.1 / 32 < 0x3F00450000) && decide ((p.1 / 32 - 0x3F00410000) % 0x40 = 0))).map
    (fun p => (p.1 / 32 - 0x3F00410000) / 0x40)

/-- The enabled queues that port p consumes, by number (R291). -/
def portQueues (p : Nat) (s : State) : List Nat :=
  (qcfgQueues 8 s).filter (fun q => decide (getF (QCFG_CONSUMER q) s = 1) &&
    decide (getF (QCFG_CONS_ID q) s = p) && isSet (QCFG_EN q) s)

/-- The queues that are HELD, by number. -/
def heldQueues (s : State) : List Nat :=
  (s.regs.filter (fun p => decide (p.1 % 32 = 3) && decide (0x3F00410014 ≤ p.1 / 32) &&
    decide (p.1 / 32 < 0x3F00450000) && decide ((p.1 / 32 - 0x3F00410014) % 0x40 = 0))).map
    (fun p => (p.1 / 32 - 0x3F00410014) / 0x40)

/-- The groups of 64 queues whose Whistle level is high (R287): a pending QEVT bit that is enabled. CFG_REJECT and
FAULT are always enabled. -/
def dqGroupHigh (g : Nat) (s : State) : Bool :=
  s.regs.any (fun p =>
    decide (0x3F00410018 ≤ p.1 / 32) && decide (p.1 / 32 < 0x3F00450000) &&
    decide ((p.1 / 32 - 0x3F00410018) % 0x40 = 0) && decide ((p.1 / 32 - 0x3F00410018) / 0x40 / 64 = g) &&
    decide (p.2 = 1) && (decide (7 ≤ p.1 % 32) || decide (tabGet 0 s.regs (p.1 + 128) = 1)))

/-- The cells at the head of a queue that remain of a packet whose first cells its port has taken (R292): none where a drop took
the rest of that packet (R282), so that the head cell opens another. -/
def dqRest (q : Nat) (s : State) : Nat :=
  if (dqCells q s).head?.any (·.sop) then 0
  else match (dqCells q s).findIdx? (fun c => c.eop) with
    | some i => i + 1
    | none => dqDepth q s

/-- Port p is reported down to the Dugout (R292): TIMED queues, and under FLUSH every queue, are flushed; under
HOLD the others become HELD; the rest of a packet that the port had begun is flushed. -/
def dqPortDown (p : Nat) (hold : Bool) (begun : Option Nat) (s : State) : State :=
  let qs := portQueues p s
  let any := qs.any (fun q => decide (0 < dqDepth q s) && (!hold || dqTimed q s)) ||
    (match begun with | some q => decide (0 < dqRest q s) | none => false)
  let s := match begun with
    | some q => dqFlushN q (dqRest q s) s
    | none => s
  let s := forEach (fun q s =>
    if dqTimed q s || !hold then dqFlush q s else setF (QFLAGS_HELD q) 1 s) qs s
  whenS any (sbEvent 0x0503 []) s

/-- The HELD queues of port p are flushed and event 0x0504 is written (R293). -/
def dqHoldEnd (p : Nat) (s : State) : State :=
  let qs := (portQueues p s).filter (fun q => isSet (QFLAGS_HELD q) s)
  if qs = [] then s else sbEvent 0x0504 [] (forEach dqFlush qs s)

/-- Port p may carry traffic again: the age rule once, HELD cleared (R293). -/
def dqPortUp (p : Nat) (s : State) : State :=
  forEach (fun q s => if isSet (QFLAGS_HELD q) s then setF (QFLAGS_HELD q) 0 (dqAge q s) else s) (portQueues p s) s

/-- The age rule for every held queue at a turn boundary (R292). -/
def dqAgeAll (s : State) : State := forEach dqAge (heldQueues s) s

end Sys2Proof.Machine
end

