-- ==== Sys2Proof/Machine/PortsCore.lean ====
section
/-! DEFINITION. Lanes and ports as every block needs them: when a transmitter drives (R301), which causes hold a port
down (R322), a port's going down (R322, R323) and its state (R321). -/

namespace Sys2Proof.Machine

/-- The counters of port p behind RP_CNT_IDX: 0 TX_FRAMES, 1 RX_FRAMES, 2 CRC_ERR, 3 LOST_FRAMES, 4 ORPHAN, 5 BAD_FRAME,
6 REPLAYS, 7 DUPLICATES, 8 OUT_OF_SEQ, 9 ACK_BAD, 10 RX_NOSPACE, 11 TX_UNDERRUN, 12 DOWN_COUNT, 13 RESYNCS. -/
def ctRP (p i : Nat) : Nat := ctrKey ((RP_CTRL_EN p).addr + 0x20) i

/-- The counters of lane L behind LANE_CNT_IDX: 0 INVALID_HDR, 1 LOCK_LOSSES, 2 PRBS_ERRORS, 3 PRBS_WORDS. -/
def ctLane (L i : Nat) : Nat := ctrKey ((LANE_CTRL_TX_EN L).addr + 0x40) i

/-- The timer of port p's HOLD_MS (R323), of its replay (R319). -/
def tmHold (p : Nat) : Nat := 0x1000 + p
def tmReplay (p : Nat) : Nat := 0x1100 + p

/-- A port that has not run. -/
def portInit : Port :=
  { taking := none, buf := [], bufFirst := false, bufLast := false, bufPoison := false, lastQ := 0, deficit := []
    oldest := 0, replay := [], expiries := 0, ackDue := 0, synSeen := false, synGot := false, synSent := false
    adopt := false, inPkt := false, rxBuf := [], rxPoison := false
    rxSop := false, cmdDown := false, latBad := false, downUs := 0
    holding := false, deskewed := false, deskewRef := none, amTries := 0, amMissed := []
    fabOpen := none }

/-- Port p beyond its registers. -/
def portOf (p : Nat) (s : State) : Port := tabGet portInit s.rally.ports p

/-- Replace port p's own state. -/
def portSet (p : Nat) (x : Port) (s : State) : State :=
  { s with rally := { s.rally with ports := tabSet portInit s.rally.ports p x } }

/-- Change port p's own state. -/
def portUpd (p : Nat) (f : Port → Port) (s : State) : State := portSet p (f (portOf p s)) s

/-- The number of lanes of a port (R309). -/
def portWidth (p : Nat) (s : State) : Nat :=
  match getF (RP_CTRL_LANES p) s with
  | 0 => 1
  | 1 => 2
  | _ => 4

/-- The lanes of a port (R309). -/
def portLanes (p : Nat) (s : State) : List Nat := natsFrom p (portWidth p s)

/-- A lane is in LOCKED (R303). -/
def laneLocked (L : Nat) (s : State) : Bool := decide (getF (LANE_STATUS_LOCK_STATE L) s = 3)

/-- The PLL of a lane's quad is locked. -/
def quadLocked (q : Nat) (s : State) : Bool := decide (getF (QUAD_STATUS_STATE q) s = 2)

/-- The plan entry that names a lane (R108). -/
def planOfLane (L : Nat) (s : State) : Option PlanEntry :=
  s.sites.plan.find? (fun e => decide (e.first ≤ L) && decide (L < e.first + e.count))

/-- A site may carry traffic: MATCH or ACCEPTED (R110). -/
def siteOk (site : Nat) (s : State) : Bool :=
  decide (getF (MID_SITE_STATE site) s = 2) || decide (getF (MID_SITE_STATE site) s = 7)

/-- A lane is not gated by module identity (R110). -/
def laneSiteOk (L : Nat) (s : State) : Bool :=
  match planOfLane L s with
  | none => true
  | some e => siteOk e.site s

/-- A lane transmitter drives data (R301). -/
def txDrives (L : Nat) (s : State) : Bool :=
  isSet (LANE_CTRL_TX_EN L) s && quadLocked (L / 4) s && outputsOn s && laneSiteOk L s

/-- The port's receive side is required (R321): RX_REQ, taken as 1 for Rally-A. -/
def rxRequired (p : Nat) (s : State) : Bool := isSet (RP_CTRL_RX_REQ p) s || isSet (RP_CTRL_RALLY_A p) s

/-- RX_UP (R321): every lane LOCKED and, for a bonded port, deskewed. -/
def rxUpNow (p : Nat) (s : State) : Bool :=
  (portLanes p s).all (fun L => laneLocked L s) && (decide (portWidth p s = 1) || (portOf p s).deskewed)

/-- A cause of R322 holds for port p. Causes 1 and 2 are receive causes; 6 is an event and never a level. -/
def portCause (p : Nat) (s : State) : Nat → Bool
  | 1 => rxRequired p s && !(portLanes p s).all (fun L => laneLocked L s)
  | 2 => rxRequired p s && decide (portWidth p s ≠ 1) && !(portOf p s).deskewed
  | 3 => !quadLocked (p / 4) s
  | 4 => !(portLanes p s).all (fun L => laneSiteOk L s)
  | 5 => !outputsOn s || !(portLanes p s).all (fun L => isSet (LANE_CTRL_TX_EN L) s)
  | 7 => (portOf p s).cmdDown
  | 8 => (portOf p s).latBad && isSet (RP_CTRL_LAT_STRICT p) s
  | _ => false

/-- The lowest cause that holds (R322 Collisions: the lowest code is recorded). A quad PLL's loss and outputs off are
recorded as what they are, not as the lanes' loss that follows from them. -/
def portCauseNow (p : Nat) (s : State) : Option Nat :=
  if portCause p s 3 then some 3
  else if !(outputsOn s) then some 5
  else [1, 2, 4, 5, 7, 8].find? (fun c => portCause p s c)

/-- What holds a port in DOWN rather than in TRAINING (R321). -/
def portHeldDown (p : Nat) (s : State) : Bool := [3, 4, 5, 7, 8].any (fun c => portCause p s c)

/-- A Rally-A port has exchanged SYNC blocks with SEEN = 1 both ways (R321). -/
def portSynced (p : Nat) (s : State) : Bool :=
  !isSet (RP_CTRL_RALLY_A p) s || ((portOf p s).synGot && (portOf p s).synSent)

/-- Nothing keeps the port from UP (R321). -/
def portReady (p : Nat) (s : State) : Bool :=
  isSet (RP_CTRL_EN p) s && !portHeldDown p s && (!rxRequired p s || rxUpNow p s) && portSynced p s

/-- RP_STATUS.STATE of a port that is not UP (R321). -/
def portStateIdle (p : Nat) (s : State) : Nat :=
  if !isSet (RP_CTRL_EN p) s then 0
  else if portHeldDown p s then 1
  else if rxRequired p s && !rxUpNow p s then 2
  else if !portSynced p s then 3 else 2

/-- An event bit of RP_STATUS is set; it sets PORT_EVT on the port's first lane. -/
def portEvent (p : Nat) (f : Fld) (s : State) : State := setF (LANE_STATUS_PORT_EVT p) 1 (setF f 1 s)

/-- The replay memory is emptied (R323). -/
def replayEmpty (p : Nat) (s : State) : State :=
  stopTimer (tmReplay p)
    (portUpd p (fun x => { x with replay := [], oldest := getF (RP_SEQ_TX_NEXT p) s % 4096, expiries := 0 }) s)

/-- A port that was UP goes down (R322): DOWN_EV, DOWN_COUNT, event 0x0604 with the cause; the Dugout applies the
policy; under HOLD the timer of HOLD_MS starts, under FLUSH the replay memory is emptied (R323). -/
def portDown (p cause : Nat) (s : State) : State :=
  let hold := isSet (RP_CTRL_POLICY p) s
  let begun := (portOf p s).taking
  let s := setF (RP_STATUS_CAUSE p) cause (portEvent p (RP_STATUS_DOWN_EV p) s)
  let s := sbEvent 0x0604 [(1, cause)] (incC (ctRP p 12) s)
  let s := dqPortDown p hold begun s
  let s := portUpd p (fun x => { x with
    taking := none, buf := [], bufFirst := false, bufLast := false, bufPoison := false, fabOpen := none
    replay := x.replay.filter (fun f => !f.timed), expiries := 0, ackDue := 0
    synSeen := false, synGot := false, synSent := false
    downUs := s.time.us, holding := hold }) s
  let s := stopTimer (tmReplay p) s
  let s := if hold then startTimer (tmHold p) (getF (RP_CTRL_HOLD_MS p) s * 1000) s else replayEmpty p s
  setF (RP_STATUS_STATE p) (portStateIdle p s) s

/-- Push a cell of a received packet to RX_QUEUE (R316). -/
def rxCell (p : Nat) (bytes : List (BitVec 8)) (eop poison : Bool) (s : State) : State :=
  let c := cellNow bytes (portOf p s).rxSop eop poison s
  let s := (dqPush (getF (RP_CFG_RX_QUEUE p) s) c s).2
  portUpd p (fun x => { x with rxSop := eop }) s

/-- A gap or a discard falls inside a packet (R316): the packet ends with a 1-byte cell that has EOP and POISON set. -/
def rxAbort (p : Nat) (s : State) : State :=
  let x := portOf p s
  if x.inPkt then
    let s := if x.rxBuf = [] then s else rxCell p x.rxBuf false x.rxPoison s
    let s := rxCell p [0] true true s
    portUpd p (fun x => { x with inPkt := false, rxBuf := [], rxPoison := false }) s
  else s

/-- The outage of a Rally-F receiver that feeds a queue is a discard for the packet it cuts. -/
def rxCut (p : Nat) (s : State) : State :=
  if isSet (RP_CTRL_RALLY_A p) s || isSet (RP_CTRL_RX_DST p) s then s else rxAbort p s

/-- Keep RX_UP, and the rule that the first frame after the receive side comes up is adopted (R316). -/
def portRx (p : Nat) (s : State) : State :=
  if rxUpNow p s = isSet (RP_STATUS_RX_UP p) s then s
  else if rxUpNow p s then portUpd p (fun x => { x with adopt := true }) (setF (RP_STATUS_RX_UP p) 1 s)
  else rxCut p (setF (RP_STATUS_RX_UP p) 0 s)

/-- A port follows its conditions: an UP port goes down on the first cause that holds; another port takes the state
that its conditions give, short of UP, which PORT_UP enters. -/
def portFollow (p : Nat) (s : State) : State :=
  let s := portRx p s
  if getF (RP_STATUS_STATE p) s = 4 then
    match portCauseNow p s with
    | some c => portDown p c s
    | none => s
  else setF (RP_STATUS_STATE p) (portStateIdle p s) s

/-- The port of a key of RP_CTRL.EN in the register table. -/
def rpKeyPort (k : Nat) : Option Nat :=
  if k % 32 = 0 ∧ 0x3F00704000 ≤ k / 32 ∧ k / 32 < 0x3F00804000 ∧ (k / 32 - 0x3F00704000) % 0x8000 % 0x100 = 0 ∧
      (k / 32 - 0x3F00704000) % 0x8000 < 0x400 then
    some ((k / 32 - 0x3F00704000) / 0x8000 * 4 + (k / 32 - 0x3F00704000) % 0x8000 / 0x100)
  else none

/-- The enabled ports, by number: EN resets to 0, so they stand among the written fields. -/
def enabledPorts (s : State) : List Nat := s.regs.filterMap (fun p => if p.2 = 1 then rpKeyPort p.1 else none)

/-- Every enabled port follows its conditions. -/
def portsFollow (s : State) : State := forEach portFollow (enabledPorts s) s

/-- The enabled ports that use a lane. -/
def portsOfLane (L : Nat) (s : State) : List Nat := (enabledPorts s).filter (fun p => (portLanes p s).contains L)

/-- The ports of a lane follow their conditions. -/
def laneFollow (L : Nat) (s : State) : State := forEach portFollow (portsOfLane L s) s

/-- HOLD_MS has expired, or is taken as expired (R323): the Dugout is told, the replay memory is emptied, FLUSHED is
set and event 0x0606 is written. -/
def portHoldEnd (p : Nat) (s : State) : State :=
  if (portOf p s).holding then
    let s := stopTimer (tmHold p) (portUpd p (fun x => { x with holding := false }) s)
    let s := sbEvent 0x0606 [] (portEvent p (RP_STATUS_FLUSHED p) (replayEmpty p s))
    dqHoldEnd p s
  else s

/-- A port is drained (R326): it is down, or its queues are empty, no frame is in progress and, for Rally-A, U = N. -/
def portDrained (p : Nat) (s : State) : Bool :=
  decide (getF (RP_STATUS_STATE p) s ≠ 4) ||
    ((portQueues p s).all (fun q => decide (dqDepth q s = 0)) && decide ((portOf p s).taking = none) &&
      decide ((portOf p s).buf = []) && decide ((portOf p s).fabOpen = none) && decide ((portOf p s).replay = []))

end Sys2Proof.Machine
end

