-- ==== Sys2Proof/Machine/MailCore.lean ====
section
/-! DEFINITION. Requests, responses, history and asynchronous completion (R139 to R150), and the one path on which
every mailbox command runs: the checks of R142 in their order, then the command's own sheet. -/

namespace Sys2Proof.Machine

/-! The status codes of R166. -/
def stOk : Nat := 0x0000
def stAccepted : Nat := 0x0001
def stBadCrc : Nat := 0x0101
def stBadOpcode : Nat := 0x0102
def stBadArg : Nat := 0x0103
def stBadDate : Nat := 0x0104
def stBusy : Nat := 0x0201
def stOwned : Nat := 0x0202
def stWrongState : Nat := 0x0203
def stSameBank : Nat := 0x0204
def stDenied : Nat := 0x0301
def stAuthFail : Nat := 0x0302
def stHwFault : Nat := 0x0401
def stTimeout : Nat := 0x0402
def stDuplicate : Nat := 0x0501

/-- Not a status of R166: the model's own mark of a command that is still running and holds the sequencer (R147), an
OUTPUTS_ON of MODE 0 that waits for its turn boundary. -/
def stWait : Nat := 0xFFFF

/-- A mailbox after reset. -/
def boxInit : MBox := ⟨[], [], []⟩

/-- Mailbox m. -/
def boxOf (m : Nat) (s : State) : MBox := tabGet boxInit s.mail.boxes m

/-- Replace mailbox m. -/
def boxSet (m : Nat) (x : MBox) (s : State) : State :=
  { s with mail := { s.mail with boxes := tabSet boxInit s.mail.boxes m x } }

/-- A request as it leaves the sequencer (R139). -/
structure Req where
  mb : Nat
  opcode : Nat
  seq : Nat
  len : Nat
  tag : Nat
  crc : Nat
  crcOk : Bool
  zeroOk : Bool
  payload : List (BitVec 8)
  lost : Bool
  deriving DecidableEq, Repr

/-- The bytes of a mailbox's request buffer. -/
def reqBytes (m n : Nat) (s : State) : List (BitVec 8) := memBytes 0 (boxOf m s).req 0 n

/-- Read the request in mailbox m's buffer (R139, R141). A LENGTH above 4,192 is refused before its CRC is looked
for. -/
def reqParse (m : Nat) (lost : Bool) (s : State) : Req :=
  let h := reqBytes m 16 s
  let len := fieldAt h 4 2
  let n := if len ≤ 4192 then 16 + roundUp len 4 else 16
  let all := reqBytes m (n + 4) s
  { mb := m, opcode := fieldAt h 0 2, seq := fieldAt h 2 2, len := len, tag := fieldAt h 8 4
    crc := fieldAt all n 4
    crcOk := decide (fieldAt all n 4 = crc32c (all.take n))
    zeroOk := decide (fieldAt h 6 2 = 0) && decide (fieldAt h 12 4 = 0) &&
      ((all.take n).drop (16 + len)).all (fun b => decide (b = 0))
    payload := (all.drop 16).take len
    lost := lost }

/-- What a command answers: its status, its payload, and for an asynchronous command that has started, what it keeps
while it runs. -/
structure Reply where
  status : Nat
  payload : List (BitVec 8)
  keep : Option (List Nat × List (BitVec 8))
  deriving DecidableEq, Repr

/-- OK with a payload. -/
def replyOk (p : List (BitVec 8)) : Reply := ⟨stOk, p, none⟩

/-- A refusal, or an end without payload. -/
def replySt (st : Nat) : Reply := ⟨st, [], none⟩

/-- ACCEPTED: the command keeps `args` and `data` while it runs. -/
def replyAccepted (args : List Nat) (data : List (BitVec 8)) : Reply := ⟨stAccepted, [], some (args, data)⟩

/-- A command's sheet: its opcode and the checks of steps 6 to 9 of R142, then what it does. -/
structure Sheet where
  op : Nat
  /-- Step 6: LENGTH and field values; the status where they fail. -/
  args : Req → State → Option Nat
  /-- Step 7: the issuing mailbox is permitted. -/
  permit : Req → State → Bool
  /-- Step 8: DEVICE_STATE and block state; the status where they fail. -/
  state : Req → State → Option Nat
  /-- Step 9: the groups a claim of which by another mailbox refuses the command (R156). -/
  groups : Req → List Nat
  /-- Step 10 and the effect. -/
  run : Req → State → Reply × State

/-- The LENGTH is `n` and the fields satisfy `ok`. -/
def argsLen (n : Nat) (ok : Req → Bool) (r : Req) : Option Nat :=
  if r.len = n ∧ ok r then none else some stBadArg

/-- Field at an offset of a request's payload. -/
def arg (r : Req) (off n : Nat) : Nat := fieldAt r.payload off n

/-- A sheet for a command that any mailbox may send in any state. -/
def plainSheet (op : Nat) (args : Req → State → Option Nat) (groups : List Nat) (run : Req → State → Reply × State) :
    Sheet :=
  { op := op, args := args, permit := fun _ _ => true, state := fun _ _ => none, groups := fun _ => groups, run := run }

/-- The field of CLAIM_OWNER for group g (R154). -/
def ownerFld (g : Nat) : Fld := ⟨CLAIM_OWNER_OWNER0.addr, 4 * g, 4, 0xF⟩

/-- The owner of a group; 0xF where it is free. -/
def ownerOf (g : Nat) (s : State) : Nat := getF (ownerFld g) s

/-- A group is held by a mailbox other than `m` (R156). -/
def groupTaken (m g : Nat) (s : State) : Bool := decide (ownerOf g s ≠ 0xF) && decide (ownerOf g s ≠ m)

/-- The payload of an OWNED answer: the owner of the first group in conflict, and the groups in conflict. -/
def ownedPayload (m : Nat) (gs : List Nat) (s : State) : List (BitVec 8) :=
  let c := gs.filter (fun g => groupTaken m g s)
  leBytes 1 (match c with | g :: _ => ownerOf g s | [] => 0xF) ++ leBytes 1 (c.foldl (fun n g => n ||| 2 ^ g) 0)

/-- Steps 6 to 9 of R142 for a sheet: the first failure. R146 is checked with the block state. -/
def sheetRefusal (sh : Sheet) (r : Req) (s : State) : Option Reply :=
  match sh.args r s with
  | some st => some (replySt st)
  | none =>
    if !sh.permit r s then some (replySt stDenied)
    else if r.lost then some (replySt stWrongState)
    else
      match sh.state r s with
      | some st => some (replySt st)
      | none =>
        if (sh.groups r).any (fun g => groupTaken r.mb g s) then
          some ⟨stOwned, ownedPayload r.mb (sh.groups r) s, none⟩
        else none

/-- The response bytes (R140). -/
def rspBytes (r : Req) (status orig : Nat) (payload : List (BitVec 8)) (s : State) : List (BitVec 8) :=
  let h := leBytes 2 r.opcode ++ leBytes 2 r.seq ++ leBytes 2 payload.length ++ leBytes 2 status ++ leBytes 2 orig ++
    leBytes 1 (devCode s.dev.state) ++ leBytes 1 0 ++ leBytes 4 r.tag
  let b := h ++ padTo (roundUp payload.length 4) payload
  b ++ crc32cBytes b

/-- The response is written; then MB_LAST; then RSP_READY = 1 and BUSY = 0 (R147), with the MSI-X vector of a host
mailbox at the rise of RSP_READY. -/
def respond (r : Req) (status orig : Nat) (payload : List (BitVec 8)) (s : State) : State :=
  let s := boxSet r.mb { boxOf r.mb s with rsp := rspBytes r status orig payload s } s
  let s := setF (MB_LAST_STATUS r.mb) status (setF (MB_LAST_SEQ r.mb) r.seq s)
  let s := setF (MB_STATUS_BUSY r.mb) 0 (setF (MB_STATUS_RSP_READY r.mb) 1 s)
  whenS (decide (r.mb < 8) && isSet (MB_CTRL_RSP_IRQ_EN r.mb) s) (msix r.mb) s

/-- Keep a result among the last 16 of its mailbox (R150). -/
def remember (r : Req) (status : Nat) (payload : List (BitVec 8)) (running : Bool) (s : State) : State :=
  boxSet r.mb { boxOf r.mb s with
    hist := (⟨r.seq, r.opcode, r.crc, status, payload, running⟩ :: (boxOf r.mb s).hist).take 16 } s

/-- A stored result of the same SEQ (R150). -/
def histFind (r : Req) (s : State) : Option Hist := (boxOf r.mb s).hist.find? (fun h => decide (h.seq = r.seq))

/-- What becomes of a request before its own sheet is asked: answered without being stored, answered and stored, or
let through (steps 1 to 4 of R142). -/
inductive Gate where
  | answer (status orig : Nat) (payload : List (BitVec 8))
  | refuse (status : Nat)
  | pass
  deriving DecidableEq, Repr

/-- Steps 1 to 4 of R142. -/
def gateOf (r : Req) (s : State) : Gate :=
  if 4192 < r.len then .answer stBadArg stBadArg []
  else if !r.crcOk then .answer stBadCrc stBadCrc []
  else
    match histFind r s with
    | some h =>
      if h.opcode = r.opcode ∧ h.crc = r.crc then
        .answer stDuplicate (if h.running then stAccepted else h.status) (if h.running then [] else h.payload)
      else .answer stBadArg stBadArg []
    | none => if r.zeroOk then .pass else .refuse stBadArg

/-- The commands that the boot ROM serves on MB13 without firmware (R149). -/
def romServes (r : Req) : Bool :=
  [0x0101, 0x0102, 0x010C, 0x0106].contains r.opcode ||
    ([0x0203, 0x0204, 0x0205].contains r.opcode && [3, 4].contains (arg r 0 1))

/-- The request at the front of the sequencer; the boot ROM takes those of MB13 alone (R149). -/
def seqHead (s : State) : Option Seq :=
  if s.mail.romOnly then s.mail.queue.find? (fun q => decide (q.mb = 13)) else s.mail.queue.head?

/-- The request that leaves the sequencer now, if mailboxes are served (R149, R434). -/
def headReq (s : State) : Option Req :=
  if !s.mail.served || s.dev.onNext.isSome then none
  else
    match seqHead s with
    | none => none
    | some q => some (reqParse q.mb q.lost s)

/-- The request leaves the sequencer. -/
def seqPop (s : State) : State :=
  match seqHead s with
  | none => s
  | some q => { s with mail := { s.mail with queue := s.mail.queue.erase q } }

/-- A command ends, or has been accepted: it is remembered and answered (R147, R150). -/
def conclude (r : Req) (p : Reply) (s : State) : State :=
  let s := match p.keep with
    | some (args, data) =>
      { s with mail := { s.mail with running := s.mail.running ++ [⟨r.mb, r.seq, r.opcode, args, data⟩] } }
    | none => s
  respond r p.status p.status p.payload (remember r p.status p.payload p.keep.isSome s)

/-- A request that has left the sequencer runs under a sheet (R142). -/
def runReq (sh : Sheet) (r : Req) (s : State) : State :=
  match gateOf r s with
  | .answer st orig p => respond r st orig p s
  | .refuse st => conclude r (replySt st) s
  | .pass =>
    if s.mail.romOnly && !romServes r then conclude r (replySt stWrongState) s
    else
      match sheetRefusal sh r s with
      | some p => conclude r p s
      | none =>
        let x := sh.run r s
        if x.1.status = stWait then x.2 else conclude r x.1 x.2

/-- A mailbox command: mailbox `m`'s request stands at the front of the sequencer and carries the sheet's opcode. Where
it does not, this command is not what leaves the sequencer, and nothing happens (log entry 2). -/
def runSheet (sh : Sheet) (m : Nat) (s : State) : State :=
  match headReq s with
  | none => s
  | some r => if r.mb = m ∧ r.opcode = sh.op then runReq sh r (seqPop s) else s

/-- Mark the stored result of an asynchronous command as ended (R150). -/
def histEnd (a : Async) (status : Nat) (payload : List (BitVec 8)) (s : State) : State :=
  boxSet a.mb { boxOf a.mb s with
    hist := (boxOf a.mb s).hist.map (fun h =>
      if h.seq = a.seq ∧ h.opcode = a.opcode ∧ h.running = true then
        { h with status := status, payload := payload, running := false } else h) } s

/-- The COMPLETION of an asynchronous command (R150, R160, R162): it goes to the ring of the issuing mailbox. -/
def complete (a : Async) (status detail : Nat) (payload : List (BitVec 8)) (s : State) : State :=
  let s := histEnd a status payload s
  ringPost (boxRing a.mb) 0x0001 a.mb
    (leBytes 2 a.seq ++ leBytes 2 a.opcode ++ leBytes 2 status ++ leBytes 2 detail) s

/-- The OUTPUTS_ON of MODE 0 that holds the sequencer ends with a reply; the response of a mailbox that has been reset
since (64 + m) is discarded (R153). -/
def endNext (p : Reply) (s : State) : State :=
  match s.dev.onNext with
  | none => s
  | some m =>
    let s : State := { s with dev := { s.dev with onNext := none } }
    if m < 64 then conclude (reqParse m false s) p s else s

/-- The oldest running asynchronous command with this opcode. -/
def asyncOf (op : Nat) (s : State) : Option Async := s.mail.running.find? (fun a => decide (a.opcode = op))

/-- End the oldest running command with this opcode, if one runs. -/
def asyncEnd (op status detail : Nat) (payload : List (BitVec 8)) (s : State) : State :=
  match asyncOf op s with
  | none => s
  | some a => complete a status detail payload
      { s with mail := { s.mail with running := s.mail.running.erase a } }

end Sys2Proof.Machine
end

