-- ==== Sys2Proof/Machine/JudgeCore.lean ====
section
/-! DEFINITION. The Line Judge as every block reaches it: raising an alarm (R440), the SAFE entry (R443), the
conditions of the guarantee (R428, R431); and the refusal of a register write (R8). -/

namespace Sys2Proof.Machine

/-- The timer of QUIESCE's DRAIN_MS. -/
def tmDrain : Nat := 3

/-- The Whistle source of an alarm (R439). -/
def alarmSource (c : Nat) : Nat :=
  if c ≤ 2 then 3 else if c ≤ 6 then 4 else if c ≤ 9 then 5 else if c ≤ 11 then 6 else if c = 12 then 7
  else if c ≤ 15 then 8 else if c ≤ 17 then 9 else if c = 18 then 10 else 11

/-- The minimum policy of an alarm (R439): 0 RECORD, 1 FAULT, 2 SAFE. -/
def alarmMinimum (c : Nat) : Nat := if c = 0x15 then 1 else if c = 0x08 ∨ c = 0x11 ∨ c = 0x16 then 2 else 0

/-- The default policy of an alarm (R439). -/
def alarmDefault (c : Nat) : Nat :=
  if c = 0x08 ∨ c = 0x11 ∨ c = 0x16 then 2
  else if [0x02, 0x03, 0x06, 0x07, 0x09, 0x0C, 0x0D, 0x10, 0x12, 0x14, 0x15].contains c then 1 else 0

/-- The field that holds the policy of alarm c (R440): LJ_POLICY0 for 1 to 16, LJ_POLICY1 for 17 to 22. -/
def policyFld (c : Nat) : Fld :=
  if c ≤ 16 then ⟨0x3F00F00010, 2 * (c - 1), 2, alarmDefault c⟩ else ⟨0x3F00F00014, 2 * (c - 17), 2, alarmDefault c⟩

/-- A pending OUTPUTS_ON is cancelled and completes with WRONG_STATE (sheet of 0x0103). -/
def cancelOn (s : State) : State :=
  let s := endNext (replySt stWrongState) s
  match s.dev.onAt with
  | none => s
  | some _ => asyncEnd 0x0103 stWrongState 0 [] { s with dev := { s.dev with onAt := none } }

/-- A drain in progress ends: its timer stops and the QUIESCE command completes with `st`. -/
def endDrain (st : Nat) (s : State) : State := stopTimer tmDrain (asyncEnd 0x0105 st 0 [] s)

/-- Enter SAFE for alarm c (R443): from STAGED, LIVE or QUIESCE only. -/
def enterSafe (c : Nat) (s : State) : State :=
  let go (s : State) : State :=
    let s := cancelOn (endDrain stWrongState s)
    let s := sbEvent 0x0C02 [(2, c)] s
    portsFollow (setDevState .safe 3 s)
  match s.dev.state with
  | .staged => go s
  | .live => go s
  | .quiesce => go s
  | _ => s

/-- Raise alarm c with its subject (R440): ACT while the cause is `present`, the latch, event 0x0C01 with the code and
the subject, notice LINE_JUDGE with the code; under FAULT and SAFE FAULT_N goes low, and under SAFE the device enters
SAFE. The policy is the one in force now. -/
def alarm (c subject : Nat) (present : Bool) (s : State) : State :=
  let p := getF (policyFld c) s
  let s := whenS present (fun s => setF LJ_ALARM_ACT_ALARM (withBit (getF LJ_ALARM_ACT_ALARM s) (c - 1)) s) s
  let s := setF LJ_ALARM_LATCH_ALARM (withBit (getF LJ_ALARM_LATCH_ALARM s) (c - 1)) s
  let s := sbEvent 0x0C01 [(2, c), (2, subject)] s
  let s := notice 0x0006 0xFF (leBytes 2 c) s
  let s := if p = 1 then { s with lj := { s.lj with takenFault := withBit s.lj.takenFault (c - 1) } } else s
  let s := if p = 2 then { s with lj := { s.lj with takenSafe := withBit s.lj.takenSafe (c - 1) } } else s
  let s := faultFollow s
  if p = 2 then enterSafe c s else s

/-- The cause of alarm c is no longer present: ACT shows only present causes (R440). -/
def alarmGone (c : Nat) (s : State) : State :=
  setF LJ_ALARM_ACT_ALARM (withoutBit (getF LJ_ALARM_ACT_ALARM s) (c - 1)) s

/-- Channel c meets the bit-fault case of R348. -/
def dramBitCase (c : Nat) (s : State) : Bool :=
  decide (1 ≤ getF (DRC_CFG_ECC_MODE c) s) && isSet (DRC_PATROL_EN c) s &&
    decide (getF (DRC_PATROL_PASS_HOURS c) s ≤ 24) && !isSet (DRC_STATUS_OVERRUN c) s

/-- Channel c meets the device-fault case of R348. -/
def dramDeviceCase (c : Nat) (s : State) : Bool := dramBitCase c s && decide (getF (DRC_CFG_ECC_MODE c) s = 2)

/-- A sensor is beyond its LIMIT (R437): the middle threshold of some sensor is crossed. -/
def tempBeyond (s : State) : Bool :=
  (natsFrom 0 16).any (fun k => bitOf (tabGet 0 s.lj.temp (k * 3 + 1)) 0)

/-- A Playmaker pair runs in lockstep (R394). -/
def pairRuns (n : Nat) (s : State) : Bool :=
  isSet (PM_STATUS_PAIRED n) s && decide (1 ≤ getF (PM_STATUS_STATE n) s) && decide (getF (PM_STATUS_STATE n) s ≤ 3)

/-- The conditions of R428, as LJ_COND shows them. -/
def condNow (s : State) : Nat :=
  let b0 := isSet SCRUB_CTRL_ACTIVE_EN s && isSet SCRUB_CTRL_SHADOW_EN s && isSet SCRUB_CTRL_REPAIR_EN s &&
    isSet SCRUB_CTRL_SELFTEST_EN s && !isSet SCRUB_STATUS_LAPSED s
  let b1 := isSet NOC_CTRL_ECC_EN s && isSet NOC_CTRL_AUDIT_EN s
  let b3 := (natsFrom 0 4).all (fun c => decide (getF (DRC_STATUS_STATE c) s = 0) || dramBitCase c s)
  let b4 := isSet GC_CTRL_RUN s && isSet CLK_STATUS_XTAL_OK s
  let b6 := decide (0x00030002 ≤ s.boot.fw) && decide (s.boot.fw < 0x00040000)
  natOfBool b0 + 2 * natOfBool b1 + 4 + 8 * natOfBool b3 + 16 * natOfBool b4 + 32 * natOfBool (!tempBeyond s) +
    64 * natOfBool b6 + 256 * natOfBool (pairRuns 0 s) + 512 * natOfBool (pairRuns 2 s) +
    4096 * natOfBool (dramDeviceCase 0 s) + 8192 * natOfBool (dramDeviceCase 1 s) +
    16384 * natOfBool (dramDeviceCase 2 s) + 32768 * natOfBool (dramDeviceCase 3 s)

/-- GUARANTEE follows the conditions, which LJ_COND shows when it is read: a lapse writes event 0x0C09 with the LJ_COND value and
raises alarm 0x13, a restoration writes 0x0C0A (R431). A missed bound holds GUARANTEE at 0 (R432). -/
def guaranteeFollow (s : State) : State :=
  let c := condNow s
  let g := decide (c % 128 = 127) && decide (s.lj.missed = 0)
  if g = isSet LJ_STATUS_GUARANTEE s then s
  else if g then alarmGone 0x13 (sbEvent 0x0C0A [] (setF LJ_STATUS_GUARANTEE 1 s))
  else alarm 0x13 0 true (sbEvent 0x0C09 [(4, c)] (setF LJ_STATUS_GUARANTEE 0 s))

/-- A mechanism of R432 completes on time: its missed bound, if any, is made good. -/
def boundMet (c : Nat) (s : State) : State := { s with lj := { s.lj with missed := withoutBit s.lj.missed c } }

end Sys2Proof.Machine
end

