-- ==== Sys2Proof/Machine/Sources.lean ====
section
/-! DEFINITION. The levels of the Whistle's sources (R370 to R372), eligibility (R375), the request outputs (R376),
claim, complete and flush (R378 to R380), and how every command ends: the Whistle follows the levels. -/

namespace Sys2Proof.Machine

/-- An alarm with this source is latched (R439, R440). -/
def alarmSourceHigh (id : Nat) (s : State) : Bool :=
  (natsFrom 1 22).any (fun c => decide (alarmSource c = id) && bitOf (getF LJ_ALARM_LATCH_ALARM s) (c - 1))

/-- Any fault bit of the Whistle is set (R386). -/
def whFaultHigh (s : State) : Bool :=
  isSet WH_CTRL_CFG_REJECT s || isSet WH_CTRL_PARITY s ||
    (natsFrom 0 6).any (fun t => isSet (WH_TSTATUS_STACK_FAULT t) s || isSet (WH_TSTATUS_PARITY t) s)

/-- The level of a region's user signal as its dock shows it (R179, R201). -/
def userSignal (r : Nat) (s : State) : Nat :=
  if s.fab.hold || getF (FP_STATUS_CAUSE r) s = 3 || getF (FP_STATUS_CAUSE r) s = 1 ||
      getF (FP_STATUS_CAUSE r) s = 4 then 0
  else if getF (FP_STATUS_CAUSE r) s = 2 ∧ getF (FP_STATUS_STATE r) s = 3 then tabGet 0 s.fab.shownIrq r
  else tabGet 0 s.fab.irq r

/-- Fabric user line u (FAB_USER_LINE): the chosen signal of the driving region. -/
def userLine (u : Nat) (s : State) : Bool :=
  let r := getF (FAB_USER_LINE_REGION u) s
  decide (r < 80) && bitOf (userSignal r s) (getF (FAB_USER_LINE_SIG u) s)

/-- The pending and enabled event bits of a lane (spec/10); CFG_REJECT is always enabled. -/
def laneEvents (L : Nat) (s : State) : Bool :=
  let en := withBit (getF (LANE_STATUS_EVT_EN L) s) 3
  (natsFrom 0 6).any (fun b => bitOf en b && isSet ⟨(LANE_STATUS_LOCK_LOST L).addr, 16 + b, 1, 0⟩ s)

/-- A mailbox's own level (R147, R162). -/
def mailboxHigh (m : Nat) (s : State) : Bool :=
  (isSet (MB_STATUS_RSP_READY m) s && isSet (MB_CTRL_RSP_IRQ_EN m) s) ||
    (decide (8 < m) && isSet (MB_CTRL_NOTICE_IRQ_EN m) s && decide (ringUsed (boxRing m) s ≠ 0))

/-- The level of a source that its chapter says is held while a condition is high (R371). -/
def heldHigh (id : Nat) (s : State) : Bool :=
  if id = 1 then decide (s.dev.state = .safe)
  else if id = 2 then whFaultHigh s
  else if id ≤ 11 then alarmSourceHigh id s || (decide (id = 9) && isSet LJ_STATUS_TEMP_WARN s)
  else if id < 112 then false
  else if id < 128 then isSet (PASS_CTRL_IRQ_EN (id - 112)) s && isSet (PASS_STATUS_COMPLETE (id - 112)) s
  else if id < 192 then dqGroupHigh (id - 128) s
  else if id < 320 then laneEvents (id - 192) s
  else if id < 336 then
    let c := (id - 320) / 4
    match id % 4 with
    | 0 => decide (getF (DRC_SUSPECT_SUSPECT c) s ≠ 0)
    | 1 => isSet (DRC_STATUS_UE_EV c) s
    | 2 => isSet (DRC_STATUS_DOWN_EV c) s || isSet (DRC_TRAIN_FAILED c) s
    | _ => isSet (DRC_STATUS_CFG_REJECT c) s || isSet (DRC_STATUS_OVERRUN c) s
  else if id = 336 then isSet FL_STATUS_DONE s && isSet FL_CTRL_IRQ_EN s
  else if id = 337 then decide (getF FL_STATUS_ERR s = 6) || decide (getF FL_STATUS_ERR s = 7)
  else if id = 338 then isSet FL_STATUS_UE_EV s
  else if id = 339 then isSet FL_STATUS_LOCKOUT s
  else if id = 340 then isSet FL_STATUS_WEAR s
  else if id = 341 then s.flash.guardChanged
  else if id = 344 then isSet SB_STATUS_LOST_EV s
  else if id = 345 then isSet SB_STATUS_WRITE_FAIL s
  else if id = 346 then isSet SB_STATUS_WATCH_EV s
  else if id = 351 then (natsFrom 0 4).any (fun n => isSet (TR_STATUS_FULL n) s || isSet (TR_STATUS_OVF n) s)
  else if id < 352 then false
  else if id < 432 then
    let r := id - 352
    isSet (FP_STATUS_TGT_TIMEOUT_EV r) s || isSet (FP_STATUS_PROTO_ERR r) s || isSet (FP_STATUS_CFG_REJECT r) s ||
      isSet (FP_STATUS_DR_UE r) s || isSet (FP_STATUS_TR_UE r) s || isSet (RGN_STATUS_FENCED r) s
  else if id < 496 then userLine (id - 432) s
  else if id < 510 then mailboxHigh (id - 496) s
  else false

/-- PEND bit of a source (R372): its latch, or the level its chapter holds. Sources 0 and 511 do not exist. -/
def whPending (id : Nat) (s : State) : Bool :=
  decide (1 ≤ id) && decide (id ≤ 510) && (whLatched id s || heldHigh id s)

/-- The priority of a source (R374): 0 for 0 and 511. -/
def whPrio (id : Nat) (s : State) : Nat := if id = 0 ∨ 511 ≤ id then 0 else getF (WH_PRIO_PRIO id) s

/-- A source is enabled for a target. -/
def whEnabled (t id : Nat) (s : State) : Bool := bitOf (getF (WH_EN_EN t (id / 32)) s) (id % 32)

/-- The service stack of a target, top entry first. -/
def whStack (t : Nat) (s : State) : List (Nat × Nat) := tabGet [] s.wh.stackTab t

/-- Replace the stack of a target. -/
def whSetStack (t : Nat) (l : List (Nat × Nat)) (s : State) : State :=
  { s with wh := { s.wh with stackTab := tabSet [] s.wh.stackTab t l } }

/-- A source is in service at some target. -/
def whInService (id : Nat) (s : State) : Bool := s.wh.stackTab.any (fun p => p.2.any (fun e => decide (e.1 = id)))

/-- Target t is held because its core is the second of a running pair (R376). -/
def whHeld (t : Nat) (s : State) : Bool := (decide (t = 2) && pairRuns 0 s) || (decide (t = 4) && pairRuns 2 s)

/-- A source is eligible for a target (R375). -/
def whEligible (t id : Nat) (s : State) : Bool :=
  let p := whPrio id s
  decide (0 < p) && whEnabled t id s && decide (getF (WH_THRESH_THRESH t) s < p) &&
    (match whStack t s with
     | [] => true
     | e :: _ => decide (e.2 < p)) && !whInService id s && whPending id s

/-- The sources whose PRIO has been written, and source 2, whose PRIO resets to 31: no other source can be
presented. -/
def whCandidates (s : State) : List Nat :=
  let l := s.regs.filterMap (fun p =>
    if p.1 % 32 = 0 ∧ 0x3F00300000 ≤ p.1 / 32 ∧ p.1 / 32 < 0x3F00300800 then some ((p.1 / 32 - 0x3F00300000) / 4)
    else none)
  if l.contains 2 then l else 2 :: l

/-- The better of two sources (R375): higher PRIO, then lower ID. -/
def whBetter (s : State) (a : Option Nat) (b : Nat) : Option Nat :=
  match a with
  | none => some b
  | some a => if whPrio a s < whPrio b s ∨ (whPrio a s = whPrio b s ∧ b < a) then some b else some a

/-- The best eligible source of a target (R375). -/
def whBest (t : Nat) (s : State) : Option Nat :=
  if whHeld t s then none
  else ((whCandidates s).filter (fun id => whEligible t id s)).foldl (whBetter s) none

/-- REQ_t (R376). -/
def whReq (t : Nat) (s : State) : Bool := (whBest t s).isSome && decide ((whStack t s).length < 16)

/-- REQ_t as the Whistle last saw it. -/
def whReqSeen (t : Nat) (s : State) : Bool := bitOf s.wh.req t

/-- One target's REQ follows the levels; a rise of REQ_5 sends vector 9 while FWD_EN = 1 (R376, R382). -/
def whFollow (t : Nat) (s : State) : State :=
  let r := whReq t s
  if r = bitOf s.wh.req t then s
  else if r then
    whenS (decide (t = 5) && isSet WH_CTRL_FWD_EN s) (msix 9)
      { s with wh := { s.wh with req := withBit s.wh.req t, seen := withBit s.wh.seen t } }
  else { s with wh := { s.wh with req := withoutBit s.wh.req t } }

/-- Every target's REQ follows the levels. -/
def whSettle (s : State) : State := forEach whFollow (natsFrom 0 6) s

/-- A claim of target t (R378): the ID and priority returned. -/
def whClaim (t : Nat) (s : State) : (Nat × Nat) × State :=
  if whHeld t s then ((0, 0), s)
  else if 16 ≤ (whStack t s).length then
    ((0, 0), oncePerSecond (0x09020000 + t) (sbEvent 0x0902 []) (setF (WH_TSTATUS_STACK_FULL t) 1 s))
  else
    let seen := bitOf s.wh.seen t
    let s1 : State := { s with wh := { s.wh with seen := withoutBit s.wh.seen t } }
    match whBest t s with
    | some id =>
      let s2 := whSetStack t ((id, whPrio id s) :: whStack t s) s1
      ((id, whPrio id s), { s2 with wh := { s2.wh with req := withoutBit s2.wh.req t } })
    | none => (if seen then (511, 0) else (0, 0), s1)

/-- STACK_FAULT of target t (R384): event 0x0901 with the target, the written ID and the top ID; alarm 0x0E is the Line
Judge's. -/
def whStackFault (t id : Nat) (s : State) : State :=
  let top := match whStack t s with | [] => 0 | e :: _ => e.1
  alarm 0x0E t false (sbEvent 0x0901 [(1, t), (2, id), (2, top)] (setF (WH_TSTATUS_STACK_FAULT t) 1 s))

/-- A COMPLETE of target t (R379): whether it raised STACK_FAULT. -/
def whComplete (t id : Nat) (s : State) : Bool × State :=
  if id = 0 ∨ id = 511 then (false, s)
  else
    match whStack t s with
    | e :: l =>
      if e.1 = id then
        let s := whSetStack t l s
        (false, whenS (decide (t = 5) && isSet WH_CTRL_FWD_EN s && whReq 5 s && bitOf s.wh.req 5) (msix 9) s)
      else (true, whStackFault t id s)
    | [] => (true, whStackFault t id s)

/-- Target t's stack is emptied (R380): event 0x0905 with the target and the depth. -/
def whFlush (t : Nat) (s : State) : State :=
  let d := (whStack t s).length
  sbEvent 0x0905 [(1, t), (4, d)] (whSetStack t [] s)

/-- How a command ends: the Whistle follows every level it changed. -/
def fin (s : State) : Host.Outcome State Fault Refusal := .next (whSettle s)

/-- How a command ends that can change a condition of the guarantee (R428): GUARANTEE follows first (R431). -/
def finG (s : State) : Host.Outcome State Fault Refusal := fin (guaranteeFollow s)

end Sys2Proof.Machine
end

