-- ==== Sys2Proof/Machine/DramCore.lean ====
section
/-! DEFINITION. What a DRAM controller does with one unit of 64 bytes (R333, R335 to R341): decoding, counting,
reading, writing and merging. The rows and commands of spec/11 are in Machine/Dram.lean. -/

namespace Sys2Proof.Machine

/-- The counters of channel c behind DRC_CNT_IDX: 0 CE, 1 UE, 2 ADDR_ERR, 3 POISON_READS, 4 PATROL_CE, 5 NARROW_MERGES,
6 LATE, 7 REF_POSTPONED, 8 ALERT, 9 REQUESTS. -/
def ctDR (c i : Nat) : Nat := ctrKey (0x3F00600030 + c * 0x40000) i

/-- The channel of a DRAM address (R243). -/
def drChannel (a : Nat) : Nat := a / 2 ^ 35

/-- SIZE of a channel in bytes (R330); 0 while it is OFF. -/
def drSize (c : Nat) (s : State) : Nat :=
  if getF (DRC_STATUS_SIZE_LOG2 c) s = 0 then 0 else 2 ^ getF (DRC_STATUS_SIZE_LOG2 c) s

/-- The unit index N of a DRAM address in its channel (R333). -/
def drUnit (a : Nat) : Nat := a % 2 ^ 35 / 64

/-- The channel serves requests (R349). -/
def drUp (c : Nat) (s : State) : Bool := decide (getF (DRC_STATUS_STATE c) s = 3)

/-- One product step in GF(2^8) with the polynomial of R335. -/
def gfDouble (a : Nat) : Nat := if 128 ≤ a then (2 * a) ^^^ 0x11D else 2 * a

/-- The product of `a` and 2^n. -/
def gfShift (a : Nat) : Nat → Nat
  | 0 => a
  | n + 1 => gfDouble (gfShift a n)

/-- The error values of a SYMBOL codeword: the 20 stored symbols, then the virtual symbols V0 and V1. -/
def symErrors (mask virt : Nat) : List Nat :=
  (natsFrom 0 20).map (fun i => bitsOf mask (8 * i) 8) ++ [bitsOf virt 0 8, bitsOf virt 8 8]

/-- The syndrome S_k of an error vector, symbol i at α^i. -/
def symSyndrome (k : Nat) (es : List Nat) : Nat :=
  ((natsFrom 0 22).zip es).foldl (fun n p => n ^^^ gfShift p.2 (k * p.1)) 0

/-- The outcomes of R336, and their rank. -/
inductive DOut where
  | good | ce | poison | addrErr | ue
  deriving DecidableEq, Repr

/-- The rank of an outcome (R336). -/
def drRank : DOut → Nat
  | .good => 0 | .ce => 1 | .poison => 2 | .addrErr => 3 | .ue => 4

/-- The decoding of one codeword: its outcome, the device corrected (0x1F none), the syndrome for the log, and whether
the delivered data is not the data written (more stored errors than the code is for). -/
structure DCode where
  out : DOut
  device : Nat
  syndrome : Nat
  garbled : Bool
  deriving DecidableEq, Repr

/-- Decode a SYMBOL codeword from its stored errors and the difference in V0 and V1 (R335, R336). -/
def symDecode (mask virt : Nat) : DCode :=
  let es := symErrors mask virt
  let s := (natsFrom 0 4).map (fun k => symSyndrome k es)
  let p := (natsFrom 0 4).map (fun k => symSyndrome k (symErrors 0 0xFFFF))
  let s0 := listGet 0 s 0
  if s = [0, 0, 0, 0] then ⟨.good, 0x1F, 0, decide (mask ≠ 0)⟩
  else if s = p then ⟨.poison, 0x1F, s0, false⟩
  else
    match (natsFrom 0 22).find? (fun i => decide (s0 ≠ 0) && decide (s = (natsFrom 0 4).map (fun k => gfShift s0 (k * i)))) with
    | some i =>
      if i < 20 then ⟨.ce, i, s0, decide (mask ≠ s0 * 2 ^ (8 * i))⟩ else ⟨.addrErr, 0x1F, s0, false⟩
    | none => ⟨.ue, 0x1F, s0, false⟩

/-- Decode a SECDED codeword from its stored errors, the difference in the address fold, and a free value that stands for
what the code does with three or more errors and for its syndrome (R335, R336; log entry 30). -/
def secDecode (mask fold free : Nat) : DCode :=
  let n := popCount mask 80
  let after (o : DOut) : DOut := if fold = 0 then o else if fold = 0xFF then .poison else .addrErr
  if n = 0 then ⟨after .good, 0x1F, 0, false⟩
  else if n = 1 then ⟨after .ce, 0x1F, free % 256, false⟩
  else if n = 2 ∨ free / 256 % 2 = 0 then ⟨.ue, 0x1F, free % 256, false⟩
  else ⟨after (if n % 2 = 0 then .good else .ce), 0x1F, free % 256, true⟩

/-- The stored errors of codeword j of the unit at address a. -/
def drErrs (a j : Nat) (s : State) : Nat := tabGet 0 s.dram.errs (a / 64 * 8 + j)

/-- The unit at an address is poisoned (R337). -/
def drPoisoned (a : Nat) (s : State) : Bool := tabGet false s.dram.poison (a / 64)

/-- The codewords of a unit (R335), decoded with a difference `fold` in the address on this access. -/
def drCodes (a fold : Nat) (s : State) : List DCode :=
  let mode := getF (DRC_CFG_ECC_MODE (drChannel a)) s
  if mode = 0 then []
  else if mode = 2 then
    let v := if drPoisoned a s then 0xFFFF ^^^ fold % 65536 else fold % 65536
    (natsFrom 0 4).map (fun j => symDecode (drErrs a j s) v)
  else
    let v := if drPoisoned a s then 0xFF ^^^ fold % 256 else fold % 256
    (natsFrom 0 8).map (fun j => secDecode (drErrs a j s) v (freeNat s / 2 ^ (16 * j)))

/-- The decoding of a unit: the worst outcome, the codeword that gave it, its device and syndrome (R336). -/
structure DRes where
  out : DOut
  cw : Nat
  device : Nat
  syndrome : Nat
  garbled : Bool
  deriving DecidableEq, Repr

/-- The outcome of a whole unit: the worst among its codewords; in SYMBOL corrections that name different devices make
it UE (R336). -/
def drWorst (codes : List DCode) : DRes :=
  let step (acc : DRes) (p : Nat × DCode) : DRes :=
    let g := acc.garbled || p.2.garbled
    if drRank acc.out < drRank p.2.out then ⟨p.2.out, p.1, p.2.device, p.2.syndrome, g⟩ else { acc with garbled := g }
  let r := ((natsFrom 0 codes.length).zip codes).foldl step ⟨.good, 0, 0x1F, 0, false⟩
  let ds := (codes.filter (fun c => decide (c.out = .ce) && decide (c.device < 0x1F))).map (·.device)
  match ds with
  | [] => r
  | d :: l =>
    if l.any (fun e => decide (e ≠ d)) ∧ drRank r.out < 4 then { r with out := .ue, device := 0x1F } else r

/-- Decode the unit at an address. -/
def drDecode (a fold : Nat) (s : State) : DRes := drWorst (drCodes a fold s)

/-- A log entry of DRC_CE_LOG or DRC_UE_LOG (spec/11). -/
def drLog (u l : Fld) (kind : Nat) (a : Nat) (r : DRes) (patrol : Bool) (s : State) : State :=
  let l1 (lo w : Nat) : Fld := ⟨l.addr, lo, w, 0⟩
  setF (l1 0 8) r.syndrome (setF (l1 8 5) r.device (setF (l1 13 3) r.cw (setF (l1 16 3) kind
    (setB (l1 19 1) patrol (setF (l1 31 1) 1 (setF ⟨u.addr, 0, 29, 0⟩ (drUnit a) s))))))

/-- Fill DRC_UE_LOG if it is empty (R341). -/
def drUeLog (kind : Nat) (a : Nat) (r : DRes) (patrol : Bool) (s : State) : State :=
  let c := drChannel a
  if isSet ⟨0x3F0060001C + c * 0x40000, 31, 1, 0⟩ s then s
  else drLog ⟨0x3F00600018 + c * 0x40000, 0, 29, 0⟩ ⟨0x3F0060001C + c * 0x40000, 0, 8, 0⟩ kind a r patrol s

/-- Rate-limit key of event `e` of channel c. -/
def rlDram (e c : Nat) : Nat := e * 0x10000 + c

/-- A correction names a device (R341): DEV_CE counts it, and at DEV_THRESH within one pass it is SUSPECT. -/
def drDevice (c d : Nat) (s : State) : State :=
  if 20 ≤ d then s
  else
    let s := bumpF (DRC_DEV_CE_COUNT c d) s
    if getF (DRC_DEV_CE_COUNT c d) s = getF (DRC_DEV_DEV_THRESH c) s ∧ bitOf (getF (DRC_SUSPECT_SUSPECT c) s) d = false then
      sbEvent 0x0707 [(1, d)] (setF (DRC_SUSPECT_SUSPECT c) (withBit (getF (DRC_SUSPECT_SUSPECT c) s) d) s)
    else s

/-- Every outcome other than GOOD is counted, logged and reported (R341). A patrol's POISON is not (R347). -/
def drCount (a : Nat) (r : DRes) (patrol : Bool) (s : State) : State :=
  let c := drChannel a
  match r.out with
  | .good => s
  | .ce =>
    let s := drLog ⟨0x3F00600010 + c * 0x40000, 0, 29, 0⟩ ⟨0x3F00600014 + c * 0x40000, 0, 8, 0⟩ 0 a r patrol (incC (ctDR c 0) s)
    let s := oncePerSecond (rlDram 0x0704 c) (sbEvent 0x0704 []) s
    if getF (DRC_CFG_ECC_MODE c) s = 2 then drDevice c r.device s else s
  | .ue =>
    let s := setF (DRC_STATUS_UE_EV c) 1 (drUeLog 1 a r patrol (incC (ctDR c 1) s))
    alarm 0x0A c false (oncePerSecond (rlDram 0x0705 c) (sbEvent 0x0705 []) s)
  | .addrErr =>
    let s := setF (DRC_STATUS_UE_EV c) 1 (drUeLog 2 a r patrol (incC (ctDR c 2) s))
    alarm 0x0A c false (oncePerSecond (rlDram 0x0708 c) (sbEvent 0x0708 []) s)
  | .poison =>
    if patrol then s
    else oncePerSecond (rlDram 0x0706 c) (sbEvent 0x0706 []) (drUeLog 3 a r patrol (incC (ctDR c 3) s))

/-- A unit whose stored bits hold no errors. -/
def drClean (a : Nat) (s : State) : State :=
  { s with dram := { s.dram with errs := tabCut (a / 64 * 8) (a / 64 * 8 + 8) s.dram.errs } }

/-- Store a whole unit, poisoned or not (R337, R339). -/
def drPutUnit (a : Nat) (bytes : List (BitVec 8)) (poison : Bool) (s : State) : State :=
  let b := a / 64 * 64
  let s := drClean a s
  { s with dram := { s.dram with
      mem := memWrite 0 s.dram.mem b (padTo 64 bytes)
      poison := tabSet false s.dram.poison (a / 64) poison } }

/-- The 64 bytes a decoded unit delivers: what was written, the stored bits as they stand in mode OFF, and a free value
where more errors were stored than the code is for. -/
def drBytes (a : Nat) (r : DRes) (s : State) : List (BitVec 8) :=
  let b := a / 64 * 64
  let d := memBytes 0 s.dram.mem b 64
  if r.garbled then leBytes 64 (freeNat s / 2 ^ 128)
  else if getF (DRC_CFG_ECC_MODE (drChannel a)) s = 0 then
    (((natsFrom 0 8).map (fun j =>
      leBytes 8 (leNat ((d.drop (8 * j)).take 8) ^^^ drErrs a j s % 2 ^ 64))).flatten)
  else d

/-- A unit is good enough to deliver: GOOD or CE (R338). -/
def drFine (o : DOut) : Bool := decide (drRank o < 2)

/-- Bits of the unit at `a` flip in the devices: by codeword, a mask of its stored bits. -/
def drUpset (a : Nat) (ups : List (Nat × Nat)) (s : State) : State :=
  forEach (fun p s => { s with dram := { s.dram with
    errs := tabUpd 0 s.dram.errs (a / 64 * 8 + p.1 % 8) (· ^^^ p.2) } }) ups s

/-- Read a unit: decode, count, deliver (R336, R338, R341). The bytes and whether they may be delivered. -/
def drReadUnit (a fold : Nat) (s : State) : (List (BitVec 8) × Bool) × State :=
  let r := drDecode a fold s
  ((drBytes a r s, drFine r.out), drCount a r false (useFree s))

/-- Merge enabled bytes into a unit's bytes, from the byte enables of the unit's two beats. -/
def drMerge : Nat → List (BitVec 8) → List (BitVec 8) → List (BitVec 8)
  | be, o :: old, n :: new => (if be % 2 = 1 then n else o) :: drMerge (be / 2) old new
  | _, old, _ => old

/-- Write a unit: whole where all 64 bytes are enabled, otherwise a narrow write that reads, merges and writes back
(R339). Answers whether the write is good; a merge into a unit that cannot be read is stored poisoned. -/
def drWriteUnit (a : Nat) (be : Nat) (bytes : List (BitVec 8)) (s : State) : Bool × State :=
  if be % 2 ^ 64 = 2 ^ 64 - 1 then (true, drPutUnit a bytes false s)
  else
    let c := drChannel a
    let r := drReadUnit a 0 (incC (ctDR c 5) s)
    (r.1.2, drPutUnit a (drMerge be r.1.1 (padTo 64 bytes)) (!r.1.2) r.2)

/-- A DRAM address that a channel serves now (R243, R333). -/
def drServes (a : Nat) (s : State) : Bool :=
  decide (a < 4 * 2 ^ 35) && drUp (drChannel a) s && decide (a % 2 ^ 35 < drSize (drChannel a) s)

/-- Read bytes from consecutive units: all of them, and whether every unit could be delivered. -/
def drReadSpan (a : Nat) : Nat → State → (List (BitVec 8) × Bool) × State
  | 0, s => (([], true), s)
  | n + 1, s =>
    let r := drReadUnit a 0 s
    let q := drReadSpan (a + 64) n r.2
    ((r.1.1 ++ q.1.1, r.1.2 && q.1.2), q.2)

/-- Read `n` bytes at any address of a channel that serves it. -/
def drRead (a n : Nat) (s : State) : (List (BitVec 8) × Bool) × State :=
  let lo := a / 64 * 64
  let r := drReadSpan lo ((a + n + 63 - lo) / 64) s
  (((r.1.1.drop (a - lo)).take n, r.1.2), r.2)

/-- Write units from a byte address on: `skip` bytes of the first unit stay, and what is left of `bytes` follows. -/
def drWriteSpan (a skip : Nat) (bytes : List (BitVec 8)) : Nat → State → Bool × State
  | 0, s => (true, s)
  | n + 1, s =>
    let k := min (64 - skip) bytes.length
    let be := (2 ^ k - 1) * 2 ^ skip
    let w := drWriteUnit a be (List.replicate skip 0 ++ bytes.take k) s
    let q := drWriteSpan (a + 64) 0 (bytes.drop k) n w.2
    (w.1 && q.1, q.2)

/-- Write bytes at any address of a channel that serves it. -/
def drWrite (a : Nat) (bytes : List (BitVec 8)) (s : State) : Bool × State :=
  let lo := a / 64 * 64
  drWriteSpan lo (a - lo) bytes ((a + bytes.length + 63 - lo) / 64) s

end Sys2Proof.Machine
end

