-- ==== Sys2Proof/Machine/NocCore.lean ====
section
/-! DEFINITION. The network as every initiator and target uses it: addresses (R9, R243), nodes (R241), tags and
packets (R244, R245), responses, counters and probes (R271 to R274). -/

namespace Sys2Proof.Machine

/-- The counters behind NOC_CNT_IDX: 0 PAYLOAD_CE, 1 PAYLOAD_UE, 2 REPLAYS, 3 CREDITS_RESTORED, 4 MISROUTES, 5 TIMEOUTS,
6 TIMED_EXCESS, 7 TIMED_BAD_RES, 8 TIMED_LATE, 9 TIMED_EPOCH_DROP, 10 TIMED_ISO_DROP. -/
def ctNoc (i : Nat) : Nat := ctrKey 0x3F00500010 i

/-- The counters of region r: 0 FP_TERR, 1 FP_DISCARD, 2 DR_CE, 3 DR_UE, 4 TR_CE, 5 TR_UE (spec/06). -/
def ctFP (r i : Nat) : Nat := ctrKey (0x3F00820010 + r * 0x100 + i * 8) 0

/-- The count of probe p, and TRACE_DROP (spec/08). -/
def ctProbe (p : Nat) : Nat := ctrKey (0x3F00580010 + p * 0x20) 0
def ctTraceDrop : Nat := ctrKey 0x3F00580808 0

/-- The statuses of R244. -/
def nsOk : Nat := 0
def nsNoTarget : Nat := 1
def nsTargetError : Nat := 2
def nsPoisoned : Nat := 3

/-- The packet operations of R245. -/
def opRd : Nat := 0
def opWr : Nat := 1
def opRdRsp : Nat := 2
def opWrRsp : Nat := 3
def opTimed : Nat := 4
def opCsrRd : Nat := 5
def opCsrWr : Nat := 6
def opCsrRsp : Nat := 7

/-- The VC of an operation: 0 REQ, 1 RSP, 2 TIMED, 3 MGMT (R245). -/
def opVc (op : Nat) : Nat := if op < 2 then 0 else if op < 4 then 1 else if op = 4 then 2 else 3

/-- The node that an address belongs to (R9, R243); none where no node serves it. -/
def nodeOf (a : Nat) : Option Nat :=
  if a < 0x2000000000 then some (80 + a / 2 ^ 35)
  else if a < 0x2500000000 then some ((a - 0x2000000000) / 0x10000000)
  else if 0x3000000000 ≤ a ∧ a < 0x3000800000 then some 84
  else if 0x3E00000000 ≤ a ∧ a < 0x3E10000000 then some 86
  else if 0x3F00000000 ≤ a ∧ a < 0x4000000000 then some 109
  else none

/-- The rank of a STATUS: POISONED, TARGET_ERROR, NO_TARGET, OK (R245). -/
def statusRank (st : Nat) : Nat := if st = 0 then 0 else if st = 1 then 1 else if st = 2 then 2 else 3

/-- The worse of two statuses. -/
def statusWorse (a b : Nat) : Nat := if statusRank a < statusRank b then b else a

/-- The isolation period of a fabric port. -/
def fpEra (r : Nat) (s : State) : Nat := tabGet 0 s.fab.era r

/-- A packet of no kind, to be filled in. -/
def pktZero : Pkt :=
  { dest := 0, src := 0, op := 0, status := 0, ecc := false, tag := 0, len := 0, wgt := 0, addr := 0, beFirst := 0
    beLast := 0, turn := 0, slot := 0, res := 0, data := [], bad := [], era := 0 }

/-- A probe matches a head flit (R271). -/
def probeMatches (p : Nat) (k : Pkt) (s : State) : Bool :=
  let sm := getF (PROBE_NODE_SRC_MASK p) s
  let dm := getF (PROBE_NODE_DEST_MASK p) s
  bitOf (getF (PROBE_CFG_VC_MASK p) s) (opVc k.op) &&
    bitOf (getF (PROBE_CFG_OP_MASK p) s) k.op &&
    decide (k.src &&& sm = getF (PROBE_NODE_SRC p) s &&& sm) &&
    decide (k.dest &&& dm = getF (PROBE_NODE_DEST p) s &&& dm) &&
    (decide (k.op = opTimed) || (decide (getF (PROBE_ADDR_LO_ADDR p) s ≤ k.addr / 256) &&
      decide (k.addr / 256 ≤ getF (PROBE_ADDR_HI_ADDR p) s)))

/-- A core is halted (R399). -/
def haltAny (s : State) : Bool := (natsFrom 0 4).any (fun n => decide (getF (PM_STATUS_STATE n) s = 3))

/-- A probe watches the local port of a fabric port that is ASLEEP (R274). -/
def probeAsleep (p : Nat) (s : State) : Bool :=
  let n := getF (PROBE_CFG_ROUTER p) s
  let o := getF (PROBE_CFG_PORT p) s
  decide (8 ≤ n) && decide (n < 48) && decide (4 ≤ o) && decide (o < 6) &&
    decide (getF (FP_STATUS_STATE (2 * (n - 8) + (o - 4))) s = 4)

/-- A probe is stopped: asleep or frozen (R274). -/
def probeStopped (p : Nat) (s : State) : Bool :=
  probeAsleep p s || (isSet (PROBE_CFG_FREEZE_ON_HALT p) s && haltAny s)

/-- THRESH of a probe (R271). -/
def probeThresh (p : Nat) (s : State) : Nat :=
  getF (PROBE_NODE_THRESH_LO p) s + 2 * getF (PROBE_NODE_THRESH_HI p) s

/-- The source of a probe: 73 to 103, and 104 for probe 31. -/
def probeSource (p : Nat) : Nat := 73 + p

/-- A probe's count has reached its threshold: its source is raised once (R271). -/
def probeThreshold (p : Nat) (s : State) : State :=
  let t := probeThresh p s
  if t ≠ 0 ∧ t * 2 ^ 32 ≤ (getC (ctProbe p) s).val ∧ s.noc.raised.contains p = false then
    whRaise (probeSource p) { s with noc := { s.noc with raised := p :: s.noc.raised } }
  else s

/-- The 32 bytes of a trace record (R272). CYC, the cycles since the slot strobe, is a free value: the model counts no
NoC cycles (log entry 31). -/
def traceRecord (p : Nat) (k : Pkt) (s : State) : List (BitVec 8) :=
  leBytes 6 s.clk.turn ++ leBytes 2 s.clk.slot ++ leBytes 1 (fineTq s) ++ leBytes 1 p ++ leBytes 1 k.dest ++
    leBytes 1 k.src ++ leBytes 1 (k.op + 16 * opVc k.op + 64 * k.status) ++ leBytes 1 k.tag ++
    leBytes 1 (k.len + 16 * k.wgt) ++ leBytes 1 0 ++ leBytes 5 k.addr ++ leBytes 2 (freeNat s) ++ leBytes 1 0 ++
    leBytes 4 k.beFirst ++ leBytes 2 0 ++ leBytes 2 s.noc.traceSeq

/-- Write one trace record (R273). -/
def traceWrite (p : Nat) (k : Pkt) (s : State) : State :=
  if isSet PTRACE_STATUS_FULL s then s
  else
    let w := getF PTRACE_STATUS_WPTR s
    let s1 := useFree { s with noc := { s.noc with
      trace := (tabPut s.noc.trace w (traceRecord p k s)), traceSeq := (s.noc.traceSeq + 1) % 65536 } }
    if w < 2047 then setF PTRACE_STATUS_WPTR (w + 1) s1
    else if isSet PTRACE_CTRL_WRAP s then
      oncePerSecond 0x040D (sbEvent 0x040D []) (whRaise 104 (setF PTRACE_STATUS_WRAPPED 1 (setF PTRACE_STATUS_WPTR 0 s1)))
    else setF PTRACE_STATUS_FULL 1 (setF PTRACE_STATUS_WPTR 0 s1)

/-- The router a node attaches to, and its local port (R242): probe PORT codes 4 to 7. -/
def nodeAttach (n : Nat) : Nat × Nat :=
  if n < 80 then (8 + n / 2, 4 + n % 2)
  else
    let at_ : List (Nat × Nat × Nat) :=
      [(80, 0, 4), (93, 0, 5), (94, 0, 6), (95, 0, 7), (81, 1, 4), (96, 1, 5), (97, 1, 6), (98, 1, 7),
       (84, 2, 4), (99, 2, 5), (100, 2, 6), (101, 2, 7), (87, 3, 4), (88, 3, 5), (109, 3, 6), (85, 3, 7),
       (86, 4, 4), (89, 4, 5), (90, 4, 6), (102, 4, 7), (91, 5, 4), (92, 5, 5), (103, 5, 6), (104, 5, 7),
       (82, 6, 4), (105, 6, 5), (106, 6, 6), (107, 6, 7), (83, 7, 4), (108, 7, 5)]
    match at_.find? (fun e => decide (e.1 = n)) with
    | some e => e.2
    | none => (48, 0)

/-- The mesh links of a path, X first and then Y (R261): router and output port, 0 north, 1 east, 2 south, 3 west. -/
def pathLinks (a b : Nat) : List (Nat × Nat) :=
  let ax := a % 8
  let bx := b % 8
  let ay := a / 8
  let bY := b / 8
  let xs := if ax ≤ bx then (natsFrom ax (bx - ax)).map (fun x => (ay * 8 + x, 1))
    else ((natsFrom bx (ax - bx)).map (fun x => (ay * 8 + x + 1, 3))).reverse
  let ys := if ay ≤ bY then (natsFrom ay (bY - ay)).map (fun y => (y * 8 + bx, 0))
    else ((natsFrom bY (ay - bY)).map (fun y => ((y + 1) * 8 + bx, 2))).reverse
  xs ++ ys

/-- The router ports that a packet passes: router, port, direction (0 input, 1 output) as PROBE_CFG names them. -/
def pathPorts (k : Pkt) : List (Nat × Nat × Nat) :=
  let src := nodeAttach k.src
  let dst := nodeAttach k.dest
  let ls := pathLinks src.1 dst.1
  let far (l : Nat × Nat) : Nat × Nat × Nat :=
    match l.2 with
    | 0 => (l.1 + 8, 2, 0)
    | 1 => (l.1 + 1, 3, 0)
    | 2 => (l.1 - 8, 0, 0)
    | _ => (l.1 - 1, 1, 0)
  (src.1, src.2, 0) :: ((ls.map (fun l => [(l.1, l.2, 1), far l])).flatten ++ [(dst.1, dst.2, 1)])

/-- The flits of a packet: its head and its data flits. -/
def pktFlits (k : Pkt) : Nat := 1 + (k.data.length + 31) / 32

/-- A packet passes its ports: every probe that watches one of them and matches counts it while EN = 1, and the lowest of those
with TRACE_EN = 1 writes its record (R271 to R273). MODE 2 counts waiting cycles, which the model does not have: its count is
advanced by a free value (log entry 31). -/
def probesSee (k : Pkt) (s : State) : State :=
  let ports := pathPorts k
  let sees (p : Nat) : Bool :=
    (isSet (PROBE_CFG_EN p) s || isSet (PROBE_CFG_TRACE_EN p) s) && ports.contains
      (getF (PROBE_CFG_ROUTER p) s, getF (PROBE_CFG_PORT p) s, getF (PROBE_CFG_DIR p) s) &&
      probeMatches p k s && !probeStopped p s
  let ps := (natsFrom 0 32).filter sees
  let count (p : Nat) (s : State) : State :=
    let s := match getF (PROBE_CFG_MODE p) s with
      | 0 => incC (ctProbe p) s
      | 1 => addC (ctProbe p) (pktFlits k) s
      | _ => useFree (addC (ctProbe p) (freeNat s) s)
    probeThreshold p s
  let s := forEach count (ps.filter (fun p => isSet (PROBE_CFG_EN p) s)) s
  match ps.filter (fun p => isSet (PROBE_CFG_TRACE_EN p) s) with
  | [] => s
  | p :: l => addC ctTraceDrop l.length (traceWrite p k s)

/-- A packet enters the network: it takes its source's weight and the ECC bit (R251, R259). -/
def inject (k : Pkt) (s : State) : State :=
  let k := { k with wgt := getF (NOC_QOS_WGT k.src) s, ecc := isSet NOC_CTRL_ECC_EN s }
  probesSee k { s with noc := { s.noc with net := s.noc.net ++ [k] } }

/-- The response to a request packet (R245): TAG, LEN and ADDR are its own, SRC and DEST exchanged. A response with a
STATUS other than OK carries no data. -/
def respondPkt (k : Pkt) (op status : Nat) (data : List (BitVec 8)) (bad : List Nat) : Pkt :=
  { pktZero with
    dest := k.src, src := k.dest, op := op, status := status, tag := k.tag, len := k.len, addr := k.addr, era := k.era
    data := if status = 0 then data else [], bad := if status = 0 then bad else [] }

/-- Answer a request packet with a status and no data. -/
def refusePkt (k : Pkt) (status : Nat) (s : State) : State :=
  inject (respondPkt k (if k.op = opRd then opRdRsp else if k.op = opWr then opWrRsp else opCsrRsp) status [] []) s

/-- The data beats of a packet. -/
def beatOf (data : List (BitVec 8)) (i : Nat) : List (BitVec 8) := (data.drop (32 * i)).take 32

/-- The byte enables of beat i of a WR with n beats (R244, R245). -/
def beatEnable (k : Pkt) (i : Nat) : Nat :=
  if i = 0 then k.beFirst else if i = k.len then k.beLast else 0xFFFFFFFF

end Sys2Proof.Machine
end

