-- ==== Sys2Proof/Machine/FabCore.lean ====
section
/-! DEFINITION. Fabric ports and isolation as every block reaches them (R199, R201, R206 to R208). The rows and commands of
spec/06 are in Machine/Fabric.lean. -/

namespace Sys2Proof.Machine

/-- The isolation causes of FP_STATUS.CAUSE. -/
def fcNone : Nat := 0
def fcCommand : Nat := 1
def fcSwap : Nat := 2
def fcFence : Nat := 3
def fcAsleep : Nat := 4

/-- The port states of R206. -/
def fpDown : Nat := 0
def fpReady : Nat := 1
def fpDraining : Nat := 2
def fpIsolated : Nat := 3
def fpAsleep : Nat := 4

/-- STATE and CAUSE of region r's port. -/
def fpState (r : Nat) (s : State) : Nat := getF (FP_STATUS_STATE r) s
def fpCause (r : Nat) (s : State) : Nat := getF (FP_STATUS_CAUSE r) s

/-- Set STATE and CAUSE. -/
def fpSet (r st c : Nat) (s : State) : State := setF (FP_STATUS_CAUSE r) c (setF (FP_STATUS_STATE r) st s)

/-- Initiator tags in use (FP_STATUS.OUTSTANDING). -/
def fpOutstanding (r : Nat) (s : State) : Nat :=
  (s.fab.tags.filter (fun p => decide (p.1 / 64 = r))).length

/-- Target requests at a port. -/
def fpTargets (r : Nat) (s : State) : List TReq := tabGet [] s.fab.targets r

/-- Replace the target requests at a port. -/
def fpSetTargets (r : Nat) (l : List TReq) (s : State) : State :=
  { s with fab := { s.fab with targets := tabSet [] s.fab.targets r l } }

/-- A target request is in progress: presented to the fabric and not answered (R229). -/
def fpTargetBusy (r : Nat) (s : State) : Bool := (fpTargets r s).any (fun t => t.shown.isSome && !t.dead)

/-- The state an enabled port has when nothing isolates it (R206). -/
def fpFree (r : Nat) (s : State) : Nat := if isSet (FP_CTRL_ENABLE r) s && !s.fab.hold then fpReady else fpDown

/-- Answer a target request with TARGET_ERROR. -/
def tgtError (t : TReq) (s : State) : State := if t.dead then s else refusePkt t.pkt nsTargetError s

/-- Every target request at a port is answered TARGET_ERROR (R207). -/
def tgtErrorAll (r : Nat) (s : State) : State := forEach tgtError (fpTargets r s) (fpSetTargets r [] s)

/-- Responses on their way to a region, oldest first. `place` names the queue the cell was popped from; a response of a pop
that found nothing has no data. A cell counts in OUT when it is delivered, so that one discarded on the way counts in
FLUSHED alone (R294). -/
def popsDeliver (r : Nat) (s : State) : State :=
  let l := tabGet [] s.fab.heldPops r
  forEach (fun (c : Cell) s =>
      if c.data = [] then emit (.fabric r 3 c.place 0 (popBytes c.place none)) s
      else emit (.fabric r 3 c.place 0 (popBytes c.place (some c))) (incC (ctDQ c.place 1) s)) l
    { s with fab := { s.fab with heldPops := tabSet [] s.fab.heldPops r [] } }

/-- The responses of pops a region has already taken are discarded and counted in FLUSHED (R285). -/
def popsDiscard (r : Nat) (s : State) : State :=
  let l := tabGet [] s.fab.heldPops r
  forEach (fun (c : Cell) s => if c.data = [] then s else incC (ctDQ c.place 5) s) l
    { s with fab := { s.fab with heldPops := tabSet [] s.fab.heldPops r [] } }

/-- Isolation by FENCE or COMMAND begins or takes over (R201, R207): FP_READY = 0 at once, target requests are answered
TARGET_ERROR, and no response to a request made before is delivered. -/
def fabIsolate (r cause : Nat) (s : State) : State :=
  if fpCause r s = fcAsleep ∨ fpCause r s = cause ∨ fpCause r s = fcFence then s
  else
    let fresh := decide (fpState r s ≠ fpIsolated)
    let s := fpSet r fpIsolated cause s
    let s := popsDiscard r (tgtErrorAll r { s with fab := { s.fab with era := tabUpd 0 s.fab.era r (· + 1) } })
    whenS fresh (sbEvent 0x0332 []) s

/-- The tags of a port become free (R207). -/
def fpFreeTags (r : Nat) (s : State) : State :=
  { s with fab := { s.fab with tags := tabCut (64 * r) (64 * r + 64) s.fab.tags } }

/-- A region's tile RAM takes the contents of its frames (R183, R224). -/
def tileLoad (r : Nat) (s : State) : State :=
  { s with fab := { s.fab with
      tile := tabCut (64 * r * 512) (64 * (r + 1) * 512) s.fab.tile
      tileGen := tabUpd 0 s.fab.tileGen r (· + 1) } }

/-- A region's deep RAM loses its contents (R209). -/
def deepLose (r : Nat) (s : State) : State :=
  { s with fab := { s.fab with
      deep := tabCut (16 * r * 32768) (16 * (r + 1) * 32768) s.fab.deep
      deepGen := tabUpd 0 s.fab.deepGen r (· + 1) } }

/-- Isolation ends (R207, R224, R238): the port takes its free state with all tags free, and after an active load the
region's memories take the contents of its frames. -/
def fabRelease (r : Nat) (s : State) : State :=
  let loaded := s.fab.fresh.contains r
  let s := whenS loaded (fun s => tileLoad r { s with fab := { s.fab with fresh := s.fab.fresh.filter (· ≠ r) } }) s
  let s := fpFreeTags r (fpSet r (fpFree r s) fcNone (setF (RGN_STATUS_FENCED r) 0 s))
  let s := if (natsFrom 0 80).any (fun q => isSet (RGN_STATUS_FENCED q) s && decide (getF (RGN_CFG_FENCE_POLICY q) s = 2)) then s
    else alarmGone 0x08 s
  sbEvent 0x0333 [] s

/-- A repair of the region is complete: nothing pending and nothing failed (R238). -/
def repairDone (r : Nat) (s : State) : Bool :=
  !isSet (RGN_STATUS_REPAIR_PENDING r) s && !isSet (RGN_STATUS_REPAIR_FAILED r) s

/-- RELEASE is refused: CAUSE is SWAP, ASLEEP or none, or FENCE with an incomplete repair (sheet of 0x0741). -/
def releaseRefused (r : Nat) (s : State) : Bool :=
  match fpCause r s with
  | 1 => false
  | 3 => !repairDone r s
  | 0 => false
  | _ => true

/-- A region's FAB_THROTTLE as its dock shows it: 0 under FENCE, COMMAND and ASLEEP, held under SWAP (R199, R201). -/
def fabThrottleOf (r : Nat) (s : State) : Bool :=
  if fpCause r s = fcFence ∨ fpCause r s = fcCommand ∨ fpCause r s = fcAsleep then false
  else if fpCause r s = fcSwap ∧ fpState r s = fpIsolated then s.fab.shownThrottle.contains r
  else s.fab.throttle.contains r

/-- The THROTTLE line as the regions drive it (R199). -/
def fabThrottle (s : State) : Bool :=
  (natsFrom 0 80).any (fun r => isSet (BEAT_CTRL_THR_EN r) s && fabThrottleOf r s)

/-- Global hold ends (R179, R206): enabled ports go READY. -/
def holdEnd (s : State) : State :=
  let s : State := { s with fab := { s.fab with hold := false } }
  forEach (fun r s => if fpState r s = fpDown ∧ isSet (FP_CTRL_ENABLE r) s then setF (FP_STATUS_STATE r) fpReady s else s)
    (natsFrom 0 80) s

/-- Global hold begins (R179): ports are DOWN. -/
def holdBegin (s : State) : State :=
  forEach (fun r s => if fpState r s = fpReady then setF (FP_STATUS_STATE r) fpDown s else s) (natsFrom 0 80)
    { s with fab := { s.fab with hold := true } }

/-- A refused write of region r's set (R8): CFG_REJECT, which holds source 352 + r. -/
def fpReject (r : Nat) (s : State) : State := setF (FP_STATUS_CFG_REJECT r) 1 s

end Sys2Proof.Machine
end

