-- ==== Sys2Proof/Machine/ImageCore.lean ====
section
/-! DEFINITION. Images as data: slots, commit records, headers, epochs and body records (R117 to R124, R126, R217, R218). -/

namespace Sys2Proof.Machine

/-- The flash address of a slot: 0 GOLDEN, 1 IMAGE_A, 2 IMAGE_B, 3 FW0, 4 FW1, 64 + k region store slot k (R352, R220). -/
def slotBase (n : Nat) : Nat :=
  if n < 3 then n * 0x4000000
  else if n = 3 then 0xC000000
  else if n = 4 then 0xC400000
  else 0xD100000 + (n - 64) * 0x140000

/-- The size of a slot. -/
def slotSize (n : Nat) : Nat := if n < 3 then 0x4000000 else if n < 64 then 0x400000 else 0x140000

/-- The header of a slot's contents: 4,096 bytes, or 1,024 for a region image. -/
def slotHdrLen (n : Nat) : Nat := if n < 64 then 4096 else 1024

/-- The states of a commit record (R117). -/
inductive Commit where
  | valid | empty | bad
  deriving DecidableEq, Repr

/-- The last page of a slot. -/
def commitAddr (n : Nat) : Nat := slotBase n + slotSize n - 256

/-- The offset of BODY_LEN in the header. -/
def bodyLenAt (n : Nat) : Nat := if n < 64 then 40 else 48

/-- The commit state of slot n with commit page `p` and header `h` (R117, R220). -/
def commitOf (n : Nat) (p h : List (BitVec 8)) : Commit :=
  if p.all (fun b => decide (b = 0xFF)) then .empty
  else if fieldAt p 0 4 = 0x544D4F43 ∧ fieldAt p 252 4 = crc32c (p.take 252) ∧ fieldAt p 12 4 = crc32c h ∧
      fieldAt p 8 4 = fieldAt h (bodyLenAt n) 4 ∧
      ((n = 1 ∨ n = 2) → fieldAt p 4 4 ≠ 0 ∧ fieldAt p 4 4 ≠ 0xFFFFFFFF) then .valid
  else .bad

/-- The bytes of a commit record (R117). -/
def commitBytes (n seq : Nat) (h : List (BitVec 8)) : List (BitVec 8) :=
  let b := leBytes 4 0x544D4F43 ++ leBytes 4 seq ++ leBytes 4 (fieldAt h (bodyLenAt n) 4) ++ leBytes 4 (crc32c h) ++
    List.replicate 236 0
  b ++ crc32cBytes b

/-- Bytes `[lo, hi)` of a header are 0. -/
def zeros (h : List (BitVec 8)) (lo hi : Nat) : Bool := ((h.drop lo).take (hi - lo)).all (fun b => decide (b = 0))

/-- f_slot of R17 lies between 10 and 250 MHz, in exact arithmetic over kHz. -/
def slotFreqOk (khz mul div : Nat) : Bool :=
  decide (10000 * (div + 1) ≤ khz * (mul + 1)) && decide (khz * (mul + 1) ≤ 250000 * (div + 1))

/-- The 16 bytes of a CLOCK_CONFIGURE request are valid (sheet of 0x0302). -/
def clockArgsOk (b : List (BitVec 8)) : Bool :=
  decide (fieldAt b 0 1 ≤ 1) && decide (fieldAt b 1 1 ≤ 1) && decide (10000 ≤ fieldAt b 4 4) &&
    decide (fieldAt b 4 4 ≤ 250000) && decide (fieldAt b 8 1 ≤ 15) && decide (fieldAt b 9 1 ≤ 15) &&
    slotFreqOk (fieldAt b 4 4) (fieldAt b 8 1) (fieldAt b 9 1) && decide (fieldAt b 10 2 < fieldAt b 12 2) &&
    decide (fieldAt b 12 2 ≤ 0x3FF) && decide (fieldAt b 14 1 ≤ 127) && decide (fieldAt b 15 1 ≤ 127)

/-- The VCCIO codes of a header (R120). -/
def vccioOk (h : List (BitVec 8)) : Bool :=
  (natsFrom 0 10).all (fun i => decide (fieldAt h (100 + i) 1 ≤ 4)) &&
    (natsFrom 10 4).all (fun i => decide (fieldAt h (100 + i) 1 = 0) ||
      (decide (4 ≤ fieldAt h (100 + i) 1) && decide (fieldAt h (100 + i) 1 ≤ 6)))

/-- A port-plan entry is well formed (R108); the reserved bytes of an unused one are 0 too (R119). -/
def planEntryOk (b : List (BitVec 8)) : Bool :=
  zeros b 8 16 && (decide (fieldAt b 6 1 = 0) ||
    (decide (fieldAt b 0 1 < 32) && decide (fieldAt b 1 1 < 4) && decide (fieldAt b 6 1 ≤ 16) &&
      decide (fieldAt b 5 1 + fieldAt b 6 1 ≤ 128) && decide (fieldAt b 7 1 ≤ 2)))

/-- The header fields that both kinds of image share, at their offsets: reserved flag bits, EPOCH_COUNT against ENC,
KEY_SOURCE, SIGNER_KEY. -/
def hdrCommonOk (flags flagMax epochs keySrc key0 : Nat) : Bool :=
  decide (flags ≤ flagMax) && decide ((epochs = 0) = (flags % 2 = 0)) && decide (keySrc ≤ 1) &&
    (decide (flags % 2 = 1) || decide (keySrc = 0)) && decide (key0 = 4)

/-- Check 3 for a device image (R119). -/
def deviceHdrOk (n : Nat) (h : List (BitVec 8)) : Bool :=
  decide (fieldAt h 0 4 = 0x36324654) && decide (fieldAt h 4 2 = 1) && decide (fieldAt h 6 2 = 0x1000) &&
    hdrCommonOk (fieldAt h 8 4) 7 (fieldAt h 44 4) (fieldAt h 768 1) (fieldAt h 1024 1) &&
    decide (1 ≤ fieldAt h 22 2) && zeros h 39 40 && decide (fieldAt h 40 4 ≤ slotSize n - 4352) && vccioOk h &&
    zeros h 114 128 && clockArgsOk ((h.drop 128).take 16) && decide (fieldAt h 144 1 ≤ 2) &&
    decide (fieldAt h 145 1 ≤ 1) && decide (8 ≤ fieldAt h 146 1) && decide (fieldAt h 146 1 < 0x78) && zeros h 147 148 &&
    (decide (fieldAt h 152 4 = 0) || (decide (1000 ≤ fieldAt h 152 4) && decide (fieldAt h 152 4 ≤ 600000))) &&
    zeros h 156 256 && (natsFrom 0 32).all (fun i => planEntryOk ((h.drop (256 + 16 * i)).take 16)) &&
    zeros h 769 772 && zeros h 844 1024 && zeros h 1121 4000

/-- A region image's header is well formed (R217). -/
def regionHdrForm (h : List (BitVec 8)) : Bool :=
  decide (fieldAt h 0 4 = 0x314E4752) && decide (fieldAt h 4 2 = 1) && decide (fieldAt h 6 2 = 0x400) &&
    hdrCommonOk (fieldAt h 8 4) 1 (fieldAt h 52 4) (fieldAt h 128 1) (fieldAt h 256 1) &&
    zeros h 42 48 && decide (fieldAt h 48 4 % 4 = 0) && zeros h 108 128 && zeros h 129 132 && zeros h 204 256 &&
    zeros h 353 928

/-- Check 3 for a region image into region r, against the BUILD_ID of the loaded device image (R217, R219). -/
def regionHdrOk (r build : Nat) (h : List (BitVec 8)) : Bool :=
  regionHdrForm h && (decide (fieldAt h 24 8 = 0) || decide (fieldAt h 24 8 = build)) && bitOf (fieldAt h 32 10) r

/-- Where a header keeps what checks 4 to 10 use. -/
structure HdrAt where
  len : Nat
  signed : Nat
  aad : Nat
  bodyLen : Nat
  epochs : Nat
  digest : Nat
  minFw : Nat
  keySrc : Nat
  wrap : Nat
  signer : Nat
  deriving DecidableEq, Repr

/-- The device image header (R119). -/
def hdrDevice : HdrAt := ⟨4096, 4000, 768, 40, 44, 48, 96, 768, 772, 1024⟩

/-- The region image header (R217). -/
def hdrRegion : HdrAt := ⟨1024, 928, 128, 48, 52, 56, 104, 128, 132, 256⟩

/-- SIGNER_KEY of a header. -/
def signerOf (a : HdrAt) (h : List (BitVec 8)) : List (BitVec 8) := (h.drop a.signer).take 97

/-- No KEY_HASH is programmed (R121). -/
def unanchored (s : State) : Bool := (natsFrom 1 4).all (fun k => decide (tabGet 0 s.boot.fuses k = 0))

/-- The anchor rule of R121. -/
def signerKnown (a : HdrAt) (h : List (BitVec 8)) (s : State) : Bool :=
  unanchored s || (natsFrom 1 4).any (fun k => decide (tabGet 0 s.boot.fuses k ≠ 0) && !bitOf s.boot.revoke (k - 1) &&
    decide (tabGet 0 s.boot.fuses k = Config.sha384 (signerOf a h)))

/-- The header signature (R119, R217). -/
def signatureOk (a : HdrAt) (h : List (BitVec 8)) : Bool :=
  Config.ecdsaP384Verify (signerOf a h) (Config.sha384 (h.take a.signed)) ((h.drop a.signed).take 96)

/-- The device key a header asks for; none where it is blank, lost or not allowed (check 8). -/
def sourceKey (a : HdrAt) (h : List (BitVec 8)) (s : State) : Option (List (BitVec 8)) :=
  if fieldAt h a.keySrc 1 = 1 then (if s.boot.efuseOnly then none else s.boot.vbattKey)
  else if tabGet 0 s.boot.fuses 0 = 0 then none else some (leBytes 32 (tabGet 0 s.boot.fuses 0))

/-- K_0 of an encrypted image (R119, R122); none where WRAP_TAG fails. -/
def unwrapKey (a : HdrAt) (h key : List (BitVec 8)) : Option (List (BitVec 8)) :=
  Config.aesGcmOpen key ((h.drop a.wrap).take 12) (h.take a.aad) ((h.drop (a.wrap + 12)).take 32)
    ((h.drop (a.wrap + 44)).take 16)

/-- Checks 4 to 10 of R126 on a header and a stored body: the reason of the first failure, 0 where all pass. -/
def checkImage (a : HdrAt) (h body : List (BitVec 8)) (s : State) : Nat :=
  let enc := fieldAt h 8 4 % 2 = 1
  if s.boot.fw < fieldAt h a.minFw 4 then 4
  else if !signerKnown a h s then 5
  else if !signatureOk a h then 6
  else if Config.sha384 body ≠ fieldAt h a.digest 48 then 7
  else if enc then
    match sourceKey a h s with
    | none => 8
    | some k => if (unwrapKey a h k).isSome then 0 else 9
  else if s.boot.requireEnc then 10
  else 0

/-- One epoch (R122, R123): its plaintext and roll block, and the rest of the body; none where it is EPOCH_BAD. -/
def epochOpen (key iv body : List (BitVec 8)) (e : Nat) (last : Bool) :
    Option (List (BitVec 8) × List (BitVec 8) × List (BitVec 8)) :=
  let h := body.take 16
  let n := fieldAt h 4 4
  let ct := (body.drop 16).take (n + 64)
  let tag := (body.drop (80 + n)).take 16
  if fieldAt h 0 4 = e ∧ fieldAt h 8 4 = natOfBool last ∧ fieldAt h 12 4 = 0 ∧ 1 ≤ n ∧ n ≤ 262144 ∧
      (last = false → n = 262144) ∧ 96 + n ≤ body.length then
    match Config.aesGcmOpen key iv h ct tag with
    | none => none
    | some p =>
      let roll := p.drop n
      let ok := decide (fieldAt roll 48 4 = 0x4C4C4F52) && zeros roll 52 64 &&
        (if last then zeros roll 0 48
         else !zeros roll 0 32 && decide (roll.take 32 ≠ key) && !zeros roll 32 44 && decide (fieldAt roll 44 4 = e + 1))
      if ok then some (p.take n, roll, body.drop (96 + n)) else none
  else none

/-- The plaintext of `n` epochs from epoch e on (R122); none where one is EPOCH_BAD or they do not span the body. -/
def epochsOpen : Nat → Nat → List (BitVec 8) → List (BitVec 8) → List (BitVec 8) → Option (List (BitVec 8))
  | 0, _, _, _, body => if body = [] then some [] else none
  | n + 1, e, key, iv, body =>
    match epochOpen key iv body e (decide (n = 0)) with
    | none => none
    | some (p, roll, rest) =>
      match epochsOpen n (e + 1) (roll.take 32) ((roll.drop 32).take 12) rest with
      | none => none
      | some q => some (p ++ q)

/-- The plaintext body of an image that has passed checks 1 to 10; none where it is EPOCH_BAD (check 11). -/
def plainBody (a : HdrAt) (h body : List (BitVec 8)) (s : State) : Option (List (BitVec 8)) :=
  if fieldAt h 8 4 % 2 = 0 then some body
  else
    match sourceKey a h s with
    | none => none
    | some k =>
      match unwrapKey a h k with
      | none => none
      | some k0 => epochsOpen (fieldAt h a.epochs 4) 0 k0 ((h.drop (a.wrap + 60)).take 12) body

/-- A body record (R124). -/
structure BRec where
  type : Nat
  payload : List (BitVec 8)
  deriving DecidableEq, Repr

/-- The records of a plaintext body, at most `fuel` of them; none where they do not end in END at its end (R124). -/
def recordsOf : Nat → List (BitVec 8) → Option (List BRec)
  | 0, _ => none
  | n + 1, b =>
    let len := fieldAt b 4 4
    if b.length < 8 + len ∨ fieldAt b 2 2 ≠ 0 then none
    else if fieldAt b 0 2 = 0xFFFF then (if len = 0 ∧ b.length = 8 then some [] else none)
    else
      match recordsOf n (b.drop (8 + len)) with
      | none => none
      | some l => some (⟨fieldAt b 0 2, (b.drop 8).take len⟩ :: l)

/-- CRC-32 of IEEE 802.3, as frames carry it (R233). -/
def crc32 (bs : List (BitVec 8)) : Nat := crcReflected 0xEDB88320 bs 0xFFFFFFFF ^^^ 0xFFFFFFFF

/-- One frame of a record: where it goes (2,304 r + f) and its 512 bytes. -/
abbrev FrameAt := Nat × List (BitVec 8)

/-- The frames that a FRAMES or FILL record writes, or the reason it is rejected: 12 RECORD_BAD, 13 FRAME_CRC. -/
def framesOf (r : BRec) : Nat ⊕ List FrameAt :=
  let fa := fieldAt r.payload 0 4
  let n := fieldAt r.payload 4 4
  let f := fa % 4096
  let rg := fa / 4096
  let fill := decide (r.type = 3)
  let k := if fill then 1 else n
  let body := r.payload.drop 8
  let frame (i : Nat) : List (BitVec 8) := (body.drop (516 * i)).take 516
  if 80 ≤ rg ∨ 2304 < f + n ∨ 2304 ≤ f ∨ body.length ≠ 516 * k then .inl 12
  else if (natsFrom 0 k).any (fun i => decide (fieldAt (frame i) 512 4 ≠ crc32 ((frame i).take 512))) then .inl 13
  else .inr ((natsFrom 0 n).map (fun i => (2304 * rg + f + i, (frame (if fill then 0 else i)).take 512)))

/-- The number of frame runs and epochs that a load of these records needs in the repair index (R216). -/
def indexRuns (rs : List BRec) : Nat := (rs.filter (fun r => decide (r.type = 2) || decide (r.type = 3))).length

end Sys2Proof.Machine
end

