-- ==== Sys2Proof/Machine/CfgCore.lean ====
section
/-! DEFINITION. Configuration planes: frames, loads, uncorrectable frames and repairs, and swaps (R213 to R216, R221 to
R223, R227 to R239). The rows and commands of spec/07 are in Machine/Reconfig.lean. -/

namespace Sys2Proof.Machine

/-- Counters: RGN_CE and RGN_UE of region r; SCRUB_CE, SCRUB_UE, SCRUB_REPAIRED (spec/07). -/
def ctRgn (r i : Nat) : Nat := ctrKey (0x3F00810010 + r * 0x20 + i * 8) 0
def ctScrub (i : Nat) : Nat := ctrKey (0x3F00840010 + i * 8) 0

/-- The timer of the active pass (R239). -/
def tmScrub : Nat := 4

/-- The shadow states of R214. -/
def shBlank : Nat := 0
def shLoading : Nat := 1
def shReady : Nat := 2
def shRepairing : Nat := 3

/-- The physical plane in a role: 0 active, 1 shadow (R213). -/
def planeIn (r role : Nat) (s : State) : Nat := (getF (RGN_STATUS_ACTIVE_PLANE r) s + role) % 2

/-- A plane with no source (R215). -/
def planeNone : Plane := ⟨0, 0x3F, false, 0, 0, 0⟩

/-- What is known of a plane. -/
def planeOf (p r : Nat) (s : State) : Plane := tabGet planeNone s.cfg.planes (128 * p + r)

/-- Replace what is known of a plane. -/
def planeSet (p r : Nat) (x : Plane) (s : State) : State :=
  { s with cfg := { s.cfg with planes := tabSet planeNone s.cfg.planes (128 * p + r) x } }

/-- The key of a frame. -/
def frameKey (p r f : Nat) : Nat := p * 184320 + 2304 * r + f

/-- The 512 bytes of a frame as written. -/
def frameBytes (p r f : Nat) (s : State) : List (BitVec 8) := leBytes 512 (tabGet 0 s.cfg.frames (frameKey p r f))

/-- Write a frame: its stored bits are then all right. -/
def frameWrite (p r f : Nat) (b : List (BitVec 8)) (s : State) : State :=
  { s with cfg := { s.cfg with
      frames := tabSet 0 s.cfg.frames (frameKey p r f) (leNat (b.take 512))
      flips := tabDel s.cfg.flips (frameKey p r f) } }

/-- All frames of a plane become zero. -/
def framesClear (p r : Nat) (s : State) : State :=
  { s with cfg := { s.cfg with
      frames := tabCut (frameKey p r 0) (frameKey p (r + 1) 0) s.cfg.frames
      flips := tabCut (frameKey p r 0) (frameKey p (r + 1) 0) s.cfg.flips
      repairs := s.cfg.repairs.filter (fun x => decide (x.plane ≠ p) || decide (x.region ≠ r)) } }

/-- REPAIR_PENDING follows the repairs that wait for the region. -/
def repairFollow (r : Nat) (s : State) : State :=
  setB (RGN_STATUS_REPAIR_PENDING r) (s.cfg.repairs.any (fun x => decide (x.region = r))) s

/-- A plane is cleared: frames zero, no source (R213, R222). -/
def planeClear (p r : Nat) (s : State) : State := repairFollow r (planeSet p r planeNone (framesClear p r s))

/-- Both planes of every region are cleared (R126, R213). -/
def planesClear (s : State) : State :=
  let s : State := { s with cfg := { s.cfg with frames := [], flips := [], planes := [], repairs := [], load := none } }
  forEach (fun r s => setF (RGN_STATUS_SHADOW_STATE r) 0 (setF (RGN_STATUS_ACTIVE_PLANE r) 0
    (setF (RGN_STATUS_REPAIR_PENDING r) 0 (setF (RGN_STATUS_REPAIR_FAILED r) 0 (setF (RGN_STATUS_FENCED r) 0 s)))))
    (natsFrom 0 80) (alarmGone 0x08 (alarmGone 0x09 s))

/-- The shadow state of a region. -/
def shadowState (r : Nat) (s : State) : Nat := getF (RGN_STATUS_SHADOW_STATE r) s

/-- Loads are permitted (R221). -/
def loadsPermitted (s : State) : Bool :=
  match s.dev.state with
  | .staged => true
  | .live => true
  | .quiesce => true
  | .safe => true
  | _ => false

/-- The active plane of a region may be loaded (R221). -/
def activeLoadable (r : Nat) (s : State) : Bool :=
  decide (fpState r s = fpIsolated) &&
    (decide (fpCause r s = fcCommand) || (decide (fpCause r s = fcFence) && isSet (RGN_STATUS_REPAIR_FAILED r) s))

/-- A load starts: the shadow goes to LOADING, event 0x0301 (R221). -/
def loadStart (l : Load) (s : State) : State :=
  let s : State := { s with cfg := { s.cfg with load := some l } }
  let s := if l.active then s else setF (RGN_STATUS_SHADOW_STATE l.region) shLoading s
  let s := setF CFG_STATUS_LOAD_BUSY 1 (setF CFG_STATUS_LOAD_REGION l.region (setF CFG_STATUS_LOAD_SRC l.src s))
  sbEvent 0x0301 [] s

/-- No load runs any more. -/
def loadGone (s : State) : State :=
  setF CFG_STATUS_LOAD_BUSY 0 { s with cfg := { s.cfg with load := none } }

/-- The frames of a region image's records, all for one region (R218); or the reason. -/
def regionFrames : List BRec → Nat ⊕ List FrameAt
  | [] => .inr []
  | r :: rs =>
    if r.type ≠ 2 ∧ r.type ≠ 3 then .inl 12
    else if 4096 ≤ fieldAt r.payload 0 4 then .inl 12
    else
      match framesOf r with
      | .inl e => .inl e
      | .inr a =>
        match regionFrames rs with
        | .inl e => .inl e
        | .inr b => .inr (a ++ b)

/-- The repair index has room for a plane's runs and epochs, in place of what plane p of region r has now (R216).
The device image keeps its epochs once for all regions. -/
def indexRoom (p r runs epochs : Nat) (s : State) : Bool :=
  let others := (s.cfg.planes.filter (fun x => decide (x.1 ≠ 128 * p + r) &&
    (decide (x.2.src = 1) || decide (x.2.src = 2)))).map (·.2)
  let image := if others.any (fun x => decide (x.src = 1)) then fieldAt s.boot.header 44 4 else 0
  decide (runs + (others.map (·.runs)).foldl (· + ·) 0 ≤ 16384) &&
    decide (epochs + image + (others.map (·.epochs)).foldl (· + ·) 0 ≤ 2048)

/-- A region image in hand: the reason it is rejected, or its frames and what the plane then is (R219). -/
def regionCheck (l : Load) (h body : List (BitVec 8)) (good : Bool) (s : State) : Nat ⊕ (List FrameAt × Plane) :=
  let p := planeIn l.region (if l.active then 0 else 1) s
  if !regionHdrOk l.region s.boot.build h then .inl 3
  else
    let c := checkImage hdrRegion h body s
    if c ≠ 0 ∧ (c < 7 ∨ good = true) then .inl c
    else if !good then .inl 7
    else
      match plainBody hdrRegion h body s with
      | none => .inl 11
      | some plain =>
        match recordsOf (plain.length / 8 + 1) plain with
        | none => .inl 12
        | some rs =>
          match regionFrames rs with
          | .inl e => .inl e
          | .inr fs =>
            let runs := indexRuns rs
            let epochs := fieldAt h 52 4
            if l.src = 2 ∧ indexRoom p l.region runs epochs s = false then .inl 12
            else .inr (fs, ⟨l.src, if l.src = 2 then l.slot else 0x3F, decide (fieldAt h 8 4 % 2 = 1),
              fieldAt h 12 4, runs, epochs⟩)

/-- Write the frames of a plane, later ones over earlier ones; the others are zero (R218, R124). -/
def framesWrite (p r : Nat) (fs : List FrameAt) (s : State) : State :=
  forEach (fun (x : FrameAt) s => frameWrite p r (x.1 % 2304) x.2 s) fs (framesClear p r s)

/-- An ICP response word (R226). -/
def icpWord (op region code detail : Nat) : Nat := op * 2 ^ 28 + region * 2 ^ 21 + code * 2 ^ 16 + detail % 65536

/-- The ICP answers a command: it runs no command any more. -/
def icpAnswer (op region code detail : Nat) (s : State) : State :=
  emit (.icp (icpWord op region code detail)) (setF ICP_STATUS_BUSY 0 s)

/-- Whoever asked for a load is told how it ended: the ICP by a response word, a command by its notice, with the reason. -/
def loadTell (l : Load) (reason : Nat) (ok : Bool) (s : State) : State :=
  if l.src = 4 then icpAnswer 1 l.region (if ok then 0 else 5) reason s
  else asyncEnd 0x0702 (if ok then stOk else if reason = 5 ∨ reason = 6 ∨ reason = 9 then stAuthFail else stBadArg) reason [] s

/-- A load ends because its plane is cleared (collisions of R224): event 0x0303 with reason 0. -/
def loadCut (l : Load) (s : State) : State := loadTell l 0 false (sbEvent 0x0303 [(1, 0)] (loadGone s))

/-- A load fails (R222): the plane is cleared, event 0x0303 with the reason, source 40. -/
def loadReject (l : Load) (reason : Nat) (s : State) : State :=
  let s := planeClear (planeIn l.region (if l.active then 0 else 1) s) l.region s
  let s := if l.active then s else setF (RGN_STATUS_SHADOW_STATE l.region) shBlank s
  loadTell l reason false
    (whRaise 40 (sbEvent 0x0303 [(1, reason)] (setF (RGN_SWAPS_LAST_REASON l.region) reason (loadGone s))))

/-- A load succeeds (R222): the shadow is READY, or the active load is complete; event 0x0302. -/
def loadDone (l : Load) (fs : List FrameAt) (x : Plane) (s : State) : State :=
  let p := planeIn l.region (if l.active then 0 else 1) s
  let s := repairFollow l.region (planeSet p l.region x (framesWrite p l.region fs s))
  let s := setF (RGN_STATUS_REPAIR_FAILED l.region) 0 s
  let s := if (natsFrom 0 80).any (fun r => isSet (RGN_STATUS_REPAIR_FAILED r) s) then s else alarmGone 0x09 s
  let s : State := if l.active then { s with fab := { s.fab with fresh := l.region :: s.fab.fresh } }
    else setF (RGN_STATUS_SHADOW_STATE l.region) shReady s
  loadTell l 0 true (sbEvent 0x0302 [] (loadGone s))

/-- The shadow is cleared to BLANK, which ends a load of the region (R214, collisions of R224); the plane of an active load is
cleared too (R222). -/
def shadowClear (r : Nat) (s : State) : State :=
  let s' := setF (RGN_STATUS_SHADOW_STATE r) shBlank (planeClear (planeIn r 1 s) r s)
  match s.cfg.load with
  | some l => if l.region = r then loadCut l (if l.active then planeClear (planeIn r 0 s) r s' else s') else s'
  | none => s'

/-- The source slot of a plane has been erased: its source becomes 0 and event 0x030B is written (R215). `slot` is an
image slot 0 to 2, or 64 + k. -/
def sourceLost (slot : Nat) (s : State) : State :=
  let hit (x : Nat × Plane) : Bool :=
    if 64 ≤ slot then decide (x.2.src = 2) && decide (x.2.slot = slot - 64)
    else decide (x.2.src = 1) && decide (getF BOOT_STATUS_SLOT s = slot)
  forEach (fun (x : Nat × Plane) s =>
    sbEvent 0x030B [] (planeSet (x.1 / 128) (x.1 % 128) { x.2 with src := 0, slot := 0x3F } s))
    (s.cfg.planes.filter hit) s

/-- The scrubber's fault (R239): FAULT, event 0x030E, source 43, alarm 0x07, and both passes start again. -/
def scrubFault (s : State) : State :=
  let s := whRaise 43 (sbEvent 0x030E [] (setF SCRUB_STATUS_FAULT 1 s))
  let s := alarm 0x07 0 false s
  whenS (isSet SCRUB_CTRL_ACTIVE_EN s) (startTimer tmScrub 3000) { s with cfg := { s.cfg with
    activePos := 0, shadowPos := 0, activeFrom := s.time.us, shadowFrom := s.time.us } }

/-- The stored bits of codeword w of a frame (R233), among 4,096 data bits, 512 check bits and the CRC. -/
def codewordFlips (flips w : Nat) : Nat :=
  (natsFrom 0 64).foldl (fun n k => n + natOfBool (bitOf flips (w + 64 * k))) 0 + popCount (bitsOf flips (4096 + 8 * w) 8) 8

/-- What a scrubber's read finds (R235, R236): nothing, single-bit errors, or an uncorrectable frame and its KIND. Three
or more errors in one codeword are uncorrectable: the CRC-32 or the code finds them; which KIND is a free value. -/
inductive Finding where
  | clean
  | corrected
  | uncorrectable (kind : Nat)
  deriving DecidableEq, Repr

/-- Decode a frame's stored bits. -/
def frameFind (flips free : Nat) : Finding :=
  if flips = 0 then .clean
  else
    let ns := (natsFrom 0 64).map (codewordFlips flips)
    if ns.any (fun n => decide (n = 2)) then .uncorrectable 1
    else if ns.any (fun n => decide (2 < n)) then .uncorrectable (1 + free % 2)
    else if bitsOf flips 4608 32 ≠ 0 then .uncorrectable 2
    else .corrected

/-- The scrubber's log of an uncorrectable frame, if it is empty (R236). -/
def ueLog (r f role kind : Nat) (s : State) : State :=
  if isSet SCRUB_UE_LOG_VALID s then s
  else setF SCRUB_UE_LOG_FRAME f (setF SCRUB_UE_LOG_REGION r (setF SCRUB_UE_LOG_ROLE role
    (setF SCRUB_UE_LOG_KIND kind (setF SCRUB_UE_LOG_VALID 1 s))))

/-- An uncorrectable frame (R236, R238): counted, logged, event 0x0308, source 42; an active region is fenced under its
policy, a READY shadow goes to REPAIRING; the repair is queued (R237). -/
def uncorrectable (p r f kind : Nat) (s : State) : State :=
  let role := if p = planeIn r 0 s then 0 else 1
  let s := ueLog r f role kind (incC (ctScrub 1) (incC (ctRgn r 1) s))
  let s := whRaise 42 (sbEvent 0x0308 [] s)
  let queue (s : State) : State :=
    setF (RGN_STATUS_REPAIR_PENDING r) 1 { s with cfg := { s.cfg with
      repairs := s.cfg.repairs ++ [⟨p, r, f, s.time.us, isSet SCRUB_CTRL_REPAIR_EN s,
        decide (role = 0) && decide (getF (RGN_CFG_FENCE_POLICY r) s = 1)⟩] } }
  if s.cfg.repairs.any (fun x => decide (x.plane = p) && decide (x.region = r) && decide (x.frame = f)) then s
  else if role = 0 then
    let inWindow := (tabFind s.fab.window r).isSome
    let s := fabIsolate r fcFence (setF (RGN_STATUS_FENCED r) 1 s)
    let s := if getF (RGN_CFG_FENCE_POLICY r) s = 2 ∧ inWindow = false then alarm 0x08 r true s else s
    queue s
  else if shadowState r s = shReady ∨ shadowState r s = shRepairing then
    queue (setF (RGN_STATUS_SHADOW_STATE r) shRepairing s)
  else s

/-- A scrubber's or a verifier's read of one frame of a plane: corrected and written back, or uncorrectable. -/
def frameScrub (p r f : Nat) (s : State) : Finding × State :=
  let x := frameFind (tabGet 0 s.cfg.flips (frameKey p r f)) (freeNat s)
  match x with
  | .clean => (x, s)
  | .corrected =>
    let s : State := { s with cfg := { s.cfg with flips := tabDel s.cfg.flips (frameKey p r f) } }
    (x, whRaise 41 (sbEvent 0x0307 [(2, r), (2, f)] (incC (ctScrub 0) (incC (ctRgn r 0) s))))
  | .uncorrectable k => (x, uncorrectable p r f k (useFree s))

/-- Bits of a frame flip. -/
def frameUpset (p r f mask : Nat) (s : State) : State :=
  { s with cfg := { s.cfg with flips := tabUpd 0 s.cfg.flips (frameKey p r f) (· ^^^ mask) } }

/-! Swaps (R227 to R231). -/

/-- W of R228. -/
def swapSlots (s : State) : Nat :=
  let n := getF GC_CFG_REF_REF_KHZ s * (getF GC_CFG_REF_SLOT_MUL_M1 s + 1) * 20
  let d := (getF GC_CFG_REF_SLOT_DIV_M1 s + 1) * 1000000
  max 1 ((n + d - 1) / d)

/-- Draining starts only if the port is READY and the shadow is READY (R227). -/
def swapDrain (r : Nat) (s : State) : State :=
  if fpState r s = fpReady ∧ shadowState r s = shReady then fpSet r fpDraining fcSwap s else s

/-- A port that drains for a swap that does not happen returns to READY (R229). -/
def swapBack (r : Nat) (s : State) : State :=
  if fpState r s = fpDraining then fpSet r (fpFree r s) fcNone s else s

/-- Why a swap is refused (R229), but for the drain: 0 where it is not. -/
def swapReason (r : Nat) (s : State) : Nat :=
  if shadowState r s ≠ shReady then 1
  else if fpCause r s ≠ fcNone ∧ fpCause r s ≠ fcSwap then 2
  else if s.dev.state = .safe ∨ s.dev.state = .hold then 3
  else if s.fab.hold then 4
  else 0

/-- The swap of a FIRED entry at the start of its slot (R229, R230): refused, late, or begun. -/
def swapFire (r : Nat) (s : State) : State :=
  let why := swapReason r s
  if why ≠ 0 then
    whRaise 40 (sbEvent 0x0306 [(2, r), (1, why)] (setF CFG_STATUS_SWAP_REFUSED 1 (swapBack r s)))
  else
    let n := fpOutstanding r s + ((fpTargets r s).filter (fun t => t.shown.isSome && !t.dead)).length
    if n ≠ 0 then
      whRaise 40 (sbEvent 0x0305 [(2, r), (4, n)] (setF CFG_STATUS_SWAP_LATE 1 (swapBack r s)))
    else
      let s := fpSet r fpIsolated fcSwap s
      let s : State := { s with fab := { s.fab with
        window := tabPut s.fab.window r (swapSlots s)
        shownIrq := tabSet 0 s.fab.shownIrq r (tabGet 0 s.fab.irq r)
        shownThrottle := s.fab.shownThrottle.filter (· ≠ r) ++ s.fab.throttle.filter (· = r) } }
      sbEvent 0x0332 [] (setF (RGN_STATUS_ACTIVE_PLANE r) ((getF (RGN_STATUS_ACTIVE_PLANE r) s + 1) % 2) s)

/-- Step 5 of R230: holds are released, the port is READY, the swap is counted, event 0x0304, and the scrubber reads the
new active plane first (R231). Responses to pops already taken are delivered (R285). -/
def swapEnd (r : Nat) (s : State) : State :=
  let s : State := { s with
    fab := { s.fab with window := tabDel s.fab.window r }
    cfg := { s.cfg with priority := s.cfg.priority ++ [(r, 0)] } }
  let s := addF (RGN_SWAPS_SWAPS r) 1 s
  let s := if fpCause r s = fcSwap then
      sbEvent 0x0333 [] (popsDeliver r (fpSet r (fpFree r s) fcNone s))
    else s
  sbEvent 0x0304 [] s

/-- FENCE_AUTO (R238): the regions whose repair is complete and which have met a turn boundary since are released. -/
def autoReleases (s : State) : State :=
  let due := s.cfg.autoRelease.filter (fun r => decide (128 ≤ r))
  forEach (fun r s => if fpCause (r - 128) s = fcFence ∧ repairDone (r - 128) s = true then fabRelease (r - 128) s else s) due
    { s with cfg := { s.cfg with autoRelease := s.cfg.autoRelease.filter (fun r => decide (r < 128)) } }

end Sys2Proof.Machine
end

