-- ==== Sys2Proof/Machine/DevCore.lean ====
section
/-! DEFINITION. The device state's moves that several commands share (R14, R128 to R133, R172): leaving LOAD for the Huddle,
STAGED entry, going LIVE and turning outputs off. -/

namespace Sys2Proof.Machine

/-- The timers of LOCK_WAIT and of HUDDLE_TIMEOUT. -/
def tmLock : Nat := 5
def tmHuddle : Nat := 6

/-- Header fields of the image in hand (R119). -/
def hdrAutoLive (s : State) : Bool := bitOf (fieldAt s.boot.header 8 4) 1
def hdrHuddleFree (s : State) : Bool := bitOf (fieldAt s.boot.header 8 4) 2
def hdrAutoTurns (s : State) : Nat := fieldAt s.boot.header 22 2
def hdrHuddleDelay (s : State) : Nat := fieldAt s.boot.header 148 2
def hdrLockWait (s : State) : Nat := if fieldAt s.boot.header 150 2 = 0 then 5000 else fieldAt s.boot.header 150 2
def hdrHuddleTimeout (s : State) : Nat := if fieldAt s.boot.header 152 4 = 0 then 10000 else fieldAt s.boot.header 152 4

/-- TQ is 1 or 2. -/
def tqGood (s : State) : Bool := decide (getF GC_STATUS_TQ s = 1) || decide (getF GC_STATUS_TQ s = 2)

/-- Step 8 of R128: HUDDLE is released and the device enters HUDDLE, with event 0x0104 carrying the slot, VERSION and the
fallback flag; NO_LOCK where LOCK_WAIT has expired (R129). An IMAGE_BOOT completes OK. -/
def bootHuddle (noLock : Bool) (s : State) : State :=
  let s := stopTimer tmLock { s with boot := { s.boot with stage := 0, huddle := none } }
  let s := if noLock then sbEvent 0x010E [] (setF BOOT_STATUS_NO_LOCK 1 s) else s
  let s := setB BOOT_STATUS_AUTOLIVE_OFF (s.boot.fallback || noLock || (s.boot.byCommand && !s.boot.allowAuto)) s
  let s := setF HUDDLE_STATUS_SEEN_HIGH 0 (setF HUDDLE_STATUS_RELEASED 1 s)
  let s := setDevState .huddle 0 s
  let s := sbEvent 0x0104 [(1, getF BOOT_STATUS_SLOT s), (4, getF IMG_VERSION_VERSION s), (1, natOfBool s.boot.fallback)] s
  asyncEnd 0x0206 stOk 0 [] (startFirm tmHuddle (hdrHuddleTimeout s * 1000) s)

/-- Step 7 of R128: the wait ends when TQ is 1 or 2. -/
def bootTq (s : State) : State := if s.boot.stage = 2 ∧ tqGood s = true then bootHuddle false s else s

/-- Step 7 begins, after DRAM training. -/
def bootWait (s : State) : State :=
  if hdrHuddleFree s || tqGood s then bootHuddle false s
  else startFirm tmLock (hdrLockWait s * 1000) { s with boot := { s.boot with stage := 2 } }

/-- Pin-driving actions end: outputs are off (R12). -/
def pinsOff (s : State) : State :=
  { s with gc := { s.gc with acts := s.gc.acts.filter (fun a => decide (a.1 ≠ 2)) } }

/-- Outputs go off and the device is in STAGED (R14, R16). -/
def enterStaged (cause : Nat) (s : State) : State := pinsOff (portsFollow (setDevState .staged cause s))

/-- The payload of an OUTPUTS_ON: the turn of LIVE entry. -/
def onPayload (s : State) : List (BitVec 8) := leBytes 6 s.clk.turn ++ leBytes 2 0

/-- The device enters LIVE at this turn boundary; a pending OUTPUTS_ON of either mode completes OK (R172). The COMPLETION
stands before the STATE_CHANGE in its ring (worked example of spec/05). -/
def enterLive (cause : Nat) (s : State) : State :=
  let p := onPayload s
  let s := if s.dev.onAt.isSome then asyncEnd 0x0103 stOk 0 p { s with dev := { s.dev with onAt := none } } else s
  endNext (replyOk p) (portsFollow (setDevState .live cause s))

/-- The present instant is a turn boundary, S.F = 0.0. -/
def atBoundary (s : State) : Bool := decide (s.clk.slot = 0) && decide (s.clk.fine = 0) && isSet GC_CTRL_RUN s

/-- STAGED entry from HUDDLE at the (HUDDLE_DELAY + 1)th boundary after T_s (R130). -/
def huddleDue (s : State) : Bool :=
  decide (s.dev.state = .huddle) && atBoundary s &&
    (match s.boot.huddle with
     | some n => decide (hdrHuddleDelay s + 1 ≤ n)
     | none => false)

def huddleEntry (s : State) : State :=
  let s := stopTimer tmHuddle { s with boot := { s.boot with huddle := none } }
  let s := setDevState .staged 5 { s with dev := { s.dev with stagedTurns := 0, autoSpent := false } }
  let s := setF HUDDLE_TURN1_TURN_HI (s.clk.turn / 2 ^ 32) (setF HUDDLE_TURN0_TURN_LO s.clk.turn (holdEnd s))
  sbEvent 0x0107 [] s

/-- The AUTO_LIVE_TURNSth boundary after STAGED entry (R133). -/
def autoDue (s : State) : Bool :=
  hdrAutoLive s && !s.dev.autoSpent && atBoundary s && decide (hdrAutoTurns s ≤ s.dev.stagedTurns) &&
    match s.dev.state with
    | .staged => true
    | .live => true
    | .quiesce => true
    | .safe => true
    | _ => false

/-- Auto-live: LIVE, or event 0x010A where it is suppressed (R15, R133, R444): forced off, or STAGED has been left. -/
def autoLive (s : State) : State :=
  let s : State := { s with dev := { s.dev with autoSpent := true } }
  if s.dev.state = .staged ∧ s.dev.prev = .huddle ∧ isSet BOOT_STATUS_AUTOLIVE_OFF s = false then enterLive 2 s
  else sbEvent 0x010A [] s

/-- A pending OUTPUTS_ON of MODE 1 reaches its boundary (R172). -/
def onAtDue (s : State) : Bool := decide (s.dev.onAt = some s.clk.turn) && atBoundary s && decide (s.dev.state = .staged)

/-- A pending OUTPUTS_ON of MODE 1 at a realigned boundary (R172). -/
def onRealign (s : State) : State :=
  match s.dev.onAt with
  | none => s
  | some t =>
    if t = s.clk.turn then (if s.dev.state = .staged then enterLive 1 s else s)
    else if 2 ^ 24 ≤ turnDiff t s.clk.turn then
      asyncEnd 0x0103 stWrongState 0 [] { s with dev := { s.dev with onAt := none } }
    else s

/-- What falls due at a turn boundary and is not yet done, in the order in which it is done: STAGED entry, a pending
OUTPUTS_ON, auto-live. -/
def boundaryDue (s : State) : State :=
  let s := if huddleDue s then huddleEntry s else s
  let s := if s.dev.onNext.isSome && atBoundary s && decide (s.dev.state = .staged) then enterLive 1 s else s
  let s := if onAtDue s then enterLive 1 s else s
  if autoDue s then autoLive s else s

/-- The device enters HOLD: HUDDLE and FAULT_N as R131 and R441 say; the PCIe IDs, if not fixed, take the eFuse defaults
(R127). -/
def enterHold (cause : Nat) (s : State) : State :=
  let s := setF HUDDLE_STATUS_RELEASED 1 (setDevState .hold cause s)
  { s with boot := { s.boot with
      stage := 0
      ids := match s.boot.ids with
        | some x => some x
        | none => some (tabGet 0 s.boot.fuses 5, tabGet 0 s.boot.fuses 6, tabGet 0 s.boot.fuses 7) } }

end Sys2Proof.Machine
end

