-- ==== Sys2Proof/Machine/ClockCore.lean ====
section
/-! DEFINITION. The Game Clock as every block reaches it (spec/01): reference states and TQ, realignment, slots and turns,
the Playbook. The rows and commands are in Machine/GameClock.lean. -/

namespace Sys2Proof.Machine

/-- The counters behind GC_CNT_IDX: 0 MARKER_MISS, 1 MARKER_SLIP, 2 SWITCHOVER, 3 HOLDOVER_ENTRY, 4 PB_MISSED,
5 PB_SUPPRESSED, 6 TIME_FRAME_BAD. -/
def ctGC (i : Nat) : Nat := ctrKey 0x3F00100050 i

/-- The timer of the 20 ms of ACQUIRE. -/
def tmAcquire : Nat := 7

/-- The reference states of R26. -/
def rsFreerun : Nat := 0
def rsAcquire : Nat := 1
def rsLocked : Nat := 2
def rsDrifting : Nat := 3
def rsPending : Nat := 4
def rsHoldover : Nat := 5
def rsQualify : Nat := 6

/-- REF_STATE. -/
def refState (s : State) : Nat := getF GC_STATUS_REF_STATE s

/-- TQ of a reference state (R26). -/
def tqOf (st : Nat) (s : State) : Nat :=
  if st = 2 then 1
  else if st = 3 then 2
  else if st = 4 ∨ st = 5 then 3
  else if st = 1 then (if s.gc.locked then 3 else 0)
  else if st = 6 then (if s.gc.from_ = 5 then 3 else 0)
  else 0

/-- While TQ is 0 or 3, a reservation with HOLD_KEEP = 0 lapses: its open window closes (R267). -/
def timedLapse (s : State) : State :=
  if tqGood s then s
  else { s with noc := { s.noc with windows := (s.noc.windows.filter (fun p => isSet (TRES_CFG1_HOLD_KEEP p.1) s)) } }

/-- The reference state changes (R26, R28): TQ follows it, event 0x0201 is written and source 20 is raised; entry into
HOLDOVER, other than the return from QUALIFY, is counted and writes 0x0203. A TQ of 1 or 2 ends step 7 of R128. -/
def setRef (st : Nat) (s : State) : State :=
  let old := refState s
  if st = old then s
  else
    let s := setF GC_STATUS_REF_STATE st s
    let s := setB GC_STATUS_DRIFT_WARN (decide (st = rsDrifting)) s
    let s := setB GC_STATUS_HOLDOVER (decide (st = rsPending) || decide (st = rsHoldover)) s
    let s := timedLapse (setF GC_STATUS_TQ (tqOf st s) s)
    let s := whRaise 20 (sbEvent 0x0201 [] s)
    let s := if st = rsHoldover ∧ old ≠ rsQualify then sbEvent 0x0203 [] (incC (ctGC 3) s) else s
    bootTq s

/-- The preferred reference under AUTO, or the forced one (R28). -/
def refSelected (s : State) : Nat :=
  match getF GC_CTRL_SRC_MODE s with
  | 1 => 0
  | 2 => 1
  | _ => getF GC_CTRL_PRIMARY s

/-- The active reference. -/
def refActive (s : State) : Nat := getF GC_STATUS_ACTIVE_REF s

/-- CLASS and HEALTHY of a reference. -/
def refClass (r : Nat) (s : State) : Nat := getF (GC_MON_CLASS r) s
def refHealthy (r : Nat) (s : State) : Bool := isSet (GC_MON_HEALTHY r) s

/-- The lock detector of a PLL reports lock. -/
def pllLocked (p : Nat) (s : State) : Bool := s.pll.locked.contains p

/-- Note what the lock detector reports. -/
def pllLockedSet (p : Nat) (b : Bool) (s : State) : State :=
  let l := s.pll.locked.filter (· ≠ p)
  { s with pll := { s.pll with locked := if b then p :: l else l } }

/-- Phase failures in a row of a PLL (R60). -/
def pllFails (p n : Nat) (s : State) : State :=
  { s with pll := { s.pll with fails := tabSet 0 s.pll.fails p n } }

/-- A PLL starts to lock (R51): its lock count restarts from zero. -/
def pllRelock (p : Nat) (s : State) : State :=
  setF (PLL_PHASE_PHASE_OK p) 0 (setF (PLL_STATUS_STATE p) 1 (pllLockedSet p false s))

/-- A PLL is stopped. -/
def pllStop (p : Nat) (s : State) : State :=
  pllFails p 0 (setF (PLL_STATUS_FREQ_BAD p) 0 (setF (PLL_PHASE_PHASE_OK p) 0 (setF (PLL_STATUS_STATE p) 0
    (setF (PLL_CTRL_EN p) 0 (pllLockedSet p false s)))))

/-- A PLL is started (R51, R52). -/
def pllStart (p : Nat) (s : State) : State := pllFails p 0 (pllRelock p (setF (PLL_CTRL_EN p) 1 s))

/-- STANDBY_OK: both members are locked and none is faulty. -/
def standbyFollow (s : State) : State :=
  setB CLK_STATUS_STANDBY_OK (decide (getF (PLL_STATUS_STATE 0) s = 2) && decide (getF (PLL_STATUS_STATE 1) s = 2) &&
    decide (s.pll.faulty = none)) s

/-- ACQUIRE begins on a reference (R28): both members of the Game Clock pair start to lock to it (R51, R55). A change of the
active reference once a lock has been held is a switchover: counted, event 0x0202. -/
def acquire (r : Nat) (s : State) : State :=
  let switch := decide (r ≠ refActive s) && s.gc.locked
  let s := setF GC_STATUS_ACTIVE_REF r s
  let s : State := { s with gc := { s.gc with
    target := r, realign := false, revert := false, count := 0, beyond := 0, slips := 0, misses := 0 } }
  let s := if switch then sbEvent 0x0202 [] (incC (ctGC 2) s) else s
  setRef rsAcquire (startTimer tmAcquire 20000 (pllRelock 1 (pllRelock 0 s)))

/-! The Playbook (R34 to R38). -/

/-- An entry never written. -/
def pbInit : PbEntry :=
  { turn := 0, slot := 0, fine := 0, action := 0, en := false, lockedOnly := false, suppressHalt := false, status := 0
    period := 0, arg := 0 }

/-- Entry i of the Playbook. -/
def pbOf (i : Nat) (s : State) : PbEntry := tabGet pbInit s.gc.entries i

/-- Replace entry i. -/
def pbPut (i : Nat) (e : PbEntry) (s : State) : State :=
  { s with gc := { s.gc with entries := tabSet pbInit s.gc.entries i e } }

/-- The 16 bytes of an entry (R34). -/
def pbBytes (e : PbEntry) : List (BitVec 8) :=
  leBytes 6 e.turn ++ leBytes 2 e.slot ++ leBytes 1 e.fine ++ leBytes 1 e.action ++
    leBytes 1 (natOfBool e.en + 2 * natOfBool e.lockedOnly + 4 * natOfBool e.suppressHalt) ++ leBytes 1 e.status ++
    leBytes 2 e.period ++ leBytes 2 e.arg

/-- The entry that 16 bytes spell; STATUS is not taken from them, and reserved bits are ignored. -/
def pbParse (b : List (BitVec 8)) : PbEntry :=
  { turn := fieldAt b 0 6, slot := fieldAt b 6 2, fine := fieldAt b 8 1 % 64, action := fieldAt b 9 1
    en := bitOf (fieldAt b 10 1) 0, lockedOnly := bitOf (fieldAt b 10 1) 1, suppressHalt := bitOf (fieldAt b 10 1) 2
    status := 0, period := fieldAt b 12 2, arg := fieldAt b 14 2 }

/-- The entry time lies at least 2 slots after the present count (R36). -/
def isFuture (eTurn eSlot nTurn nSlot slots : Nat) : Bool :=
  let dt := turnDiff eTurn nTurn
  decide (dt < 2 ^ 47) && decide ((2 : Int) ≤ (dt * slots + eSlot : Nat) - (nSlot : Int))

/-- ARG is in the range of its action (R35). -/
def pbArgOk (e : PbEntry) : Bool :=
  match e.action with
  | 0 => decide (e.arg = 0)
  | 1 => decide (e.arg ≤ 63)
  | 2 => decide (e.arg ≤ 615)
  | 3 => decide (e.arg ≤ 63)
  | 4 => decide (1 ≤ e.arg)
  | 5 => decide (e.arg ≤ 79)
  | 6 => decide (e.arg ≤ 4095)
  | 7 => decide (e.arg ≤ 31)
  | _ => true

/-- R36, as PB_CMD.ERR names the failures: 0 none, 1 bad action, 2 late, 3 bad FINE, 4 bad ARG or SLOT. -/
def pbCheck (e : PbEntry) (s : State) : Nat :=
  if 8 < e.action then 1
  else if !pbArgOk e then 4
  else if e.fine ≠ 0 ∧ (e.action < 1 ∨ 3 < e.action) then 3
  else if slotsPerTurn s ≤ e.slot then 4
  else if !isFuture e.turn e.slot s.clk.turn s.clk.slot (slotsPerTurn s) then 2
  else 0

/-- After its occurrence a periodic entry re-arms at TURN + PERIOD, and a one-shot entry clears EN (R37). -/
def pbAfter (st : Nat) (e : PbEntry) : PbEntry :=
  if e.period = 0 then { e with status := st, en := false }
  else { e with status := st, turn := (e.turn + e.period) % 2 ^ 48 }

/-- Entry i is MISSED (R38): counted, event 0x0208, source 22. -/
def pbMiss (i : Nat) (s : State) : State :=
  whRaise 22 (sbEvent 0x0208 [] (incC (ctGC 4) (pbPut i (pbAfter 3 (pbOf i s)) s)))

/-- A TIMED_WINDOW on reservation n (R265, R267). -/
def timedOpen (n : Nat) (s : State) : State :=
  if !isSet (TRES_CFG1_EN n) s then sbEvent 0x0408 [] s
  else if !tqGood s && !isSet (TRES_CFG1_HOLD_KEEP n) s then s
  else { s with noc := { s.noc with windows := (tabPut s.noc.windows n (max (tabGet 0 s.noc.windows n) (getF (TRES_CFG1_DURATION n) s))) } }

/-- A beat line or pin is driven for `n` slots (R35): kinds 1 PULSE, 2 TEST_PULSE, 3 RESET, 4 THROTTLE. -/
def actBegin (kind line n : Nat) (s : State) : State :=
  emit (.line kind line true) { s with gc := { s.gc with acts := s.gc.acts ++ [(kind, line, n)] } }

/-- The bank of a user I/O pin (R87): HP0 to HP9, then HD0 to HD3. -/
def pinBank (pin : Nat) : Nat := if pin < 520 then pin / 52 else 10 + (pin - 520) / 24

/-- The bank of a pin stays high-impedance (R73, R120): its VCCIO code is 0, or its voltage is not the declared one. -/
def pinHeld (pin : Nat) (s : State) : Bool :=
  s.boot.bankBad.contains (pinBank pin) || decide (fieldAt s.boot.header (100 + pinBank pin) 1 = 0)

/-- The effect of a FIRED entry (R35). -/
def pbAct (i : Nat) (e : PbEntry) (s : State) : State :=
  match e.action with
  | 1 => actBegin 1 e.arg 1 s
  | 2 => if pinHeld e.arg s then s else actBegin 2 e.arg 1 s
  | 3 => actBegin 3 e.arg 1 s
  | 4 => actBegin 4 0 e.arg s
  | 5 => swapFire e.arg { s with gc := { s.gc with swapped := e.arg :: s.gc.swapped } }
  | 6 => dqRelease e.arg s
  | 7 => timedOpen e.arg s
  | 8 => notice 0x0005 0xFF (leBytes 2 i ++ leBytes 2 e.arg) (whRaise 22 s)
  | _ => s

/-- Entry i falls due in the present slot and is not yet resolved. -/
def pbDue (i : Nat) (s : State) : Bool :=
  let e := pbOf i s
  e.en && decide (e.turn = s.clk.turn) && decide (e.slot = s.clk.slot)

/-- The entry is SUPPRESSED (R37): with the TQ and the halt of this slot's start. -/
def pbSuppressed (e : PbEntry) (s : State) : Bool :=
  (e.lockedOnly && (decide (s.gc.tqNow = 0) || decide (s.gc.tqNow = 3))) || (e.suppressHalt && haltAny s) ||
    (decide (e.action = 2) && !outputsOn s)

/-- Resolve entry i at the start of its slot (R37, R38). -/
def pbResolve (i : Nat) (s : State) : State :=
  let e := pbOf i s
  if pbSuppressed e s then incC (ctGC 5) (pbPut i (pbAfter 2 e) s)
  else if 16 ≤ s.gc.fired ∨ (e.action = 5 ∧ s.gc.swapped.contains e.arg = true) then pbMiss i s
  else
    let s := pbPut i (pbAfter 1 e) { s with gc := { s.gc with fired := s.gc.fired + 1 } }
    pbAct i e s

/-- Resolve the entries due now, in index order, up to index `hi` (R38). -/
def pbResolveTo (hi : Nat) (s : State) : State :=
  forEach (fun i s => if pbDue i s then pbResolve i s else s)
    ((s.gc.entries.map (·.1)).filter (fun i => decide (i ≤ hi))) s

/-- Resolve every entry due now. -/
def pbResolveAll (s : State) : State := if isSet GC_CTRL_RUN s then pbResolveTo 4095 s else s

/-- The THROTTLE line (R35, R199). -/
def throttleLine (s : State) : Bool := s.gc.acts.any (fun a => decide (a.1 = 4)) || fabThrottle s

/-- A THROTTLE action whose slots are over ends; the line drops unless another hold applies (R35). -/
def throttleEnd (s : State) : State :=
  if s.gc.acts.any (fun a => decide (a.1 = 4) && decide (a.2.2 = 0)) then
    let s : State := { s with gc := { s.gc with
      acts := s.gc.acts.filter (fun a => decide (a.1 ≠ 4) || decide (a.2.2 ≠ 0)) } }
    if throttleLine s then s else emit (.line 4 0 false) s
  else s

/-- The swap windows whose slots are over end (R230). -/
def swapEnds (s : State) : State :=
  forEach (fun (p : Nat × Nat) s => if p.2 = 0 then swapEnd p.1 s else s) s.fab.window s

/-- TIMED windows whose slots are over close (R265). -/
def timedCloses (s : State) : State :=
  { s with noc := { s.noc with windows := s.noc.windows.filter (fun p => decide (p.2 ≠ 0)) } }

/-- The slots from the present count to an entry; none where it lies behind (R36's future test without its margin). -/
def slotsUntil (e : PbEntry) (s : State) : Option Nat :=
  let d := turnDiff e.turn s.clk.turn
  if d < 2 ^ 47 ∧ s.clk.slot ≤ d * slotsPerTurn s + e.slot then some (d * slotsPerTurn s + e.slot - s.clk.slot) else none

/-- The drain of an armed REGION_SWAP entry that lies no more than DRAIN_LEAD slots ahead begins (R227); it is begun once. -/
def drainBegin (i : Nat) (s : State) : State :=
  let e := pbOf i s
  let at_ := e.turn * 65536 + e.slot
  match slotsUntil e s with
  | none => s
  | some n =>
    if e.en && decide (e.action = 5) && decide (n ≤ getF CFG_CTRL_DRAIN_LEAD s) && decide (tabFind s.fab.drains e.arg ≠ some at_) then
      swapDrain e.arg { s with fab := { s.fab with drains := tabPut s.fab.drains e.arg at_ } }
    else s

/-- The drains that are due begin. -/
def drainsBegin (s : State) : State :=
  if isSet GC_CTRL_RUN s then
    forEach drainBegin ((s.gc.entries.filter (fun p => p.2.en && decide (p.2.action = 5))).map (·.1)) s
  else s

/-- At t_S a port that drains for a swap that did not happen, its entry suppressed, missed or disarmed, returns to READY
(collisions of R231). -/
def drainsEnd (s : State) : State :=
  let past (p : Nat × Nat) : Bool :=
    decide (turnDiff s.clk.turn (p.2 / 65536) < 2 ^ 47) &&
      (decide (0 < turnDiff s.clk.turn (p.2 / 65536)) || decide (p.2 % 65536 ≤ s.clk.slot))
  forEach (fun (p : Nat × Nat) s => if past p then
    swapBack p.1 { s with fab := { s.fab with drains := tabDel s.fab.drains p.1 } } else s) s.fab.drains s

/-- How many slots a held TIMED packet is past the start of its presentation slot S + DELAY (R266), in the turn and slot order of
R20; its `era` is DELAY as it was when the packet was sent. -/
def timedPast (k : Pkt) (s : State) : Int :=
  let d := turnDiff s.clk.turn k.turn
  let turns : Int := if d < 2 ^ 47 then (d : Int) else (d : Int) - 2 ^ 48
  turns * (slotsPerTurn s : Int) + (s.clk.slot : Int) - (k.slot : Int) - (k.era : Int)

/-- Put a packet among those presented: after the ones that were due earlier, or in the same slot with no higher RES. -/
def timedInsert (k : Pkt) (s : State) : List Pkt → List Pkt
  | [] => [k]
  | x :: l =>
    if timedPast x s < timedPast k s ∨ (timedPast x s = timedPast k s ∧ k.res < x.res) then k :: x :: l
    else x :: timedInsert k s l

/-- TIMED packets that are due are presented to their regions (R266). -/
def timedDue (s : State) : State :=
  { s with noc := { s.noc with
    held := s.noc.held.filter (fun k => decide (timedPast k s < 0))
    shown := (s.noc.held.filter (fun k => decide (0 ≤ timedPast k s))).foldl (fun l k => timedInsert k s l) s.noc.shown } }

/-- Everything that falls due in the present slot and is not yet done: at a turn boundary what falls due there; the ends
of windows and of THROTTLE; the Playbook's entries. -/
def settleSlot (s : State) : State :=
  drainsEnd (pbResolveAll (drainsBegin (throttleEnd (timedDue (timedCloses (swapEnds (autoReleases (boundaryDue s))))))))

/-- A new slot begins: one-slot actions end, durations count down, quotas and the Playbook's limit start again. -/
def slotStart (s : State) : State :=
  let ended := s.gc.acts.filter (fun a => decide (a.1 ≠ 4))
  let s := forEach (fun (a : Nat × Nat × Nat) s => emit (.line a.1 a.2.1 false) s) ended s
  { s with
    gc := { s.gc with
      acts := (s.gc.acts.filter (fun a => decide (a.1 = 4))).map (fun a => (a.1, a.2.1, a.2.2 - 1))
      fired := 0, swapped := [], tqNow := getF GC_STATUS_TQ s }
    noc := { s.noc with windows := s.noc.windows.map (fun p => (p.1, p.2 - 1)), used := [] }
    fab := { s.fab with window := s.fab.window.map (fun p => (p.1, p.2 - 1)) } }

/-- Committed FAB_USER_LINE writes take effect together (R7, R212). -/
def userLinesApply (s : State) : State :=
  forEach (fun (p : Nat × Nat) s =>
      setF (FAB_USER_LINE_SIG p.1) (p.2 / 256) (setF (FAB_USER_LINE_REGION p.1) p.2 s)) s.fab.lineArmed
    (setF FAB_USER_COMMIT_ARMED 0 { s with fab := { s.fab with lineArmed := [] } })

/-- A takeover that is due happens at this boundary (R55): the other member drives the beat network. -/
def takeover (s : State) : State :=
  match s.pll.faulty with
  | some m => if getF CLK_STATUS_GC_TPLL s = m then setF CLK_STATUS_TAKEOVER 1 (setF CLK_STATUS_GC_TPLL (1 - m) s) else s
  | none => s

/-- A core after a device reset (R389): its first trace packet will be RESYNC. -/
def coreInit : Core :=
  { regs := [], mtime := 0, mtimeUs := 0, mtimeHi := 0, mtimecmp := 2 ^ 64 - 1, beatLo := 0, beatHi := 0, beatArm := false
    lateArm := false, ctxid := 0, beat := false, late := false, kickUs := 0, stoppedFor := none, halted1 := false
    skipBp := false, mask := 0, mcmd := none, icache := [], retired := 0, resync := true, tSlot := 0, tTurn := 0, lost := none }

/-- Core n. -/
def coreOf (n : Nat) (s : State) : Core := tabGet coreInit s.pm.cores n

/-- Change core n. -/
def coreUpd (n : Nat) (f : Core → Core) (s : State) : State :=
  { s with pm := { s.pm with cores := tabUpd coreInit s.pm.cores n f } }

/-- The trace of every core owes a RESYNC with the new turn (R406). -/
def traceTurn (s : State) : State := forEach (fun n => coreUpd n (fun c => { c with resync := true })) (natsFrom 0 4) s

/-- A turn boundary (R20): the fields applied at turns take effect, a revertive return acts (R28), boundaries are counted
for the Huddle and for auto-live (R130, R133), and held queues apply the age rule (R292). -/
def turnBoundary (s : State) : State :=
  let s := userLinesApply s
  let s := if s.gc.revert && decide (refState s = rsLocked) then acquire (1 - refActive s) s else s
  let s : State := { s with
    boot := { s.boot with huddle := s.boot.huddle.map (· + 1) }
    dev := { s.dev with stagedTurns := s.dev.stagedTurns + 1 }
    cfg := { s.cfg with autoRelease := s.cfg.autoRelease.map (fun r => if r < 128 then r + 128 else r) } }
  traceTurn (dqAgeAll s)

/-- TURN wraps (R21). -/
def turnWrap (s : State) : State := sbEvent 0x0207 [] (whRaise 23 (setF GC_STATUS_TURN_WRAP 1 s))

/-- TIMED packets stamped before a realigned boundary and not yet presented are dropped (R267). -/
def timedEpoch (s : State) : State :=
  let n := s.noc.flying.length + s.noc.held.length
  if n = 0 then s
  else sbEvent 0x040A [] (addC (ctNoc 9) n { s with noc := { s.noc with flying := [], held := [] } })

/-- TPLL2 and TPLL3 re-phase to the new strobe (R59): PHASE_OK is 0 until the step completes. -/
def rePhase (s : State) : State :=
  forEach (fun p s => if getF (PLL_STATUS_STATE p) s = 2 then setF (PLL_PHASE_PHASE_OK p) 0 s else s) [2, 3] s

/-- An armed entry lies strictly between the old count and the start of the new turn (Collisions of R24). -/
def pbSkipped (oldT oldS newT n : Nat) (e : PbEntry) : Bool :=
  let a := turnDiff e.turn oldT * n + e.slot
  let b := turnDiff newT oldT * n
  e.en && decide (turnDiff newT oldT < 2 ^ 47) && decide (turnDiff e.turn oldT < 2 ^ 47) && decide (oldS < a) && decide (a < b)

/-- Realignment by the nearest-turn rule (R24) at the present count; `frame` is the turn number a TIME frame carries.
Event 0x0205 carries the signed slot offset and the new T, with the count as it read; then the count is the start of
the turn, PHASE_EPOCH increments (R31), and the boundary acts. -/
def realign (frame : Option Nat) (s : State) : State :=
  let s := takeover (settleSlot s)
  let n := slotsPerTurn s
  let t := s.clk.turn
  let sl := s.clk.slot
  let back := decide (2 * sl < n)
  let base := if back then t else (t + 1) % 2 ^ 48
  let wraps := !back && decide (t = 2 ^ 48 - 1)
  let new := match frame with
    | some x => x
    | none => if isSet GC_TURN_LOAD1_ARM s then
        getF GC_TURN_LOAD0_TURN_LO s + getF GC_TURN_LOAD1_TURN_HI s * 2 ^ 32 else base
  let s := setF GC_TURN_LOAD1_ARM 0 s
  let off : Int := if back then (sl : Int) else (sl : Int) - (n : Int)
  let s := if new ≠ t ∨ sl ≠ 0 then sbEvent 0x0205 [(2, unsignedOf off 16), (6, new)] s else s
  let s := forEach pbMiss ((s.gc.entries.filter (fun p => pbSkipped t sl new n p.2)).map (·.1)) s
  let s : State := { s with
    clk := ⟨new, 0, 0⟩
    gc := { s.gc with slips := 0, realign := false } }
  let s := addF GC_EPOCH_PHASE_EPOCH 1 s
  let s := emit (.line 5 0 true) s
  let s := if wraps then turnWrap s else s
  onRealign (rePhase (timedEpoch (turnBoundary (slotStart s))))

/-! Markers (R22, R23, R25). -/

/-- Where the present count stands, in fine steps from the nearest turn boundary. -/
def markerOffset (s : State) : Int :=
  if 2 * s.clk.slot < slotsPerTurn s then ((s.clk.slot * 64 + s.clk.fine : Nat) : Int)
  else ((s.clk.slot * 64 + s.clk.fine : Nat) : Int) - ((slotsPerTurn s * 64 : Nat) : Int)

/-- A slipped marker (R22, R23): counted; the third in a row at one offset realigns. -/
def markerSlip (frame : Option Nat) (s : State) : State :=
  let o := markerOffset s
  let s := incC (ctGC 1) (setF GC_STATUS_SLIP 1 s)
  let same := decide (0 < s.gc.slips) && decide (-1 ≤ o - s.gc.slipAt) && decide (o - s.gc.slipAt ≤ 1)
  let k := if same then s.gc.slips + 1 else 1
  let s : State := { s with gc := { s.gc with
    slips := k, slipAt := if same then s.gc.slipAt else o
    misses := if -64 ≤ o ∧ o ≤ 64 then 0 else s.gc.misses } }
  if 3 ≤ k then realign frame s else s

/-- A good marker (R22, R23, R25): the first after MARKER_LOST realigns. -/
def markerGood (frame : Option Nat) (s : State) : State :=
  let s : State := { s with gc := { s.gc with slips := 0, misses := 0 } }
  if isSet GC_STATUS_MARKER_LOST s then realign frame (setF GC_STATUS_MARKER_LOST 0 s) else s

/-- A marker of the active reference arrives at the present count (R22, R23, R28): the first after TPLL lock realigns and
ACQUIRE ends in LOCKED, with event 0x0204 for a relock; in LOCKED and DRIFTING it is judged; otherwise the count goes
by prediction. -/
def marker (frame : Option Nat) (s : State) : State :=
  let st := refState s
  if s.gc.realign then
    let s := realign frame s
    if st = rsAcquire then
      let again := s.gc.locked
      let s := setRef rsLocked { s with gc := { s.gc with locked := true } }
      if again then sbEvent 0x0204 [(1, 0)] s else s
    else s
  else if st = rsLocked ∨ st = rsDrifting then
    let o := markerOffset s
    if -1 ≤ o ∧ o ≤ 1 then markerGood frame s else markerSlip frame s
  else s

/-- A marker is missed (R22, R25): counted while LOCKED or DRIFTING; sixteen in a row set MARKER_LOST. -/
def markerMiss (s : State) : State :=
  if refState s = rsLocked ∨ refState s = rsDrifting then
    let s := incC (ctGC 0) { s with gc := { s.gc with misses := s.gc.misses + 1, slips := s.gc.slips } }
    if 16 ≤ s.gc.misses ∧ isSet GC_STATUS_MARKER_LOST s = false then
      sbEvent 0x0206 [] (whRaise 21 (setF GC_STATUS_MARKER_LOST 1 s))
    else s
  else s

/-- GC_CTRL.RUN written 1 starts the count in FREERUN (R28): TPLL0 and TPLL1 run. -/
def gcStart (s : State) : State :=
  let s : State := { s with gc := { s.gc with realign := false, revert := false, count := 0, misses := 0, slips := 0 } }
  let s := setRef rsFreerun (stopTimer tmAcquire s)
  pllStart 1 (pllStart 0 (setF GC_CTRL_RUN 1 s))

/-- GC_CTRL.RUN written 0 stops the count and the beat network; it governs TPLL0 and TPLL1. -/
def gcStop (s : State) : State :=
  standbyFollow (pllStop 1 (pllStop 0 (setF GC_CTRL_RUN 0 (stopTimer tmAcquire s))))

/-- A stop is refused while LIVE or QUIESCE. -/
def gcStopRefused (s : State) : Bool :=
  match s.dev.state with
  | .live => true
  | .quiesce => true
  | _ => false

/-- CFG_REJECT of the Game Clock, with source 23 (R8; Collisions of the reference monitor). -/
def gcReject (s : State) : State := whRaise 23 (setF GC_STATUS_CFG_REJECT 1 s)

/-! The calendar (R40 to R43). -/

/-- A leap year (R40). -/
def leapYear (y : Nat) : Bool := decide (y % 4 = 0) && (decide (y % 100 ≠ 0) || decide (y % 400 = 0))

/-- The days of a month (R40). -/
def monthDays (y m : Nat) : Nat :=
  if m = 2 then (if leapYear y then 29 else 28)
  else if m = 4 ∨ m = 6 ∨ m = 9 ∨ m = 11 then 30 else 31

/-- A calendar value. -/
structure Cal where
  year : Nat
  month : Nat
  day : Nat
  hour : Nat
  minute : Nat
  second : Nat
  deriving DecidableEq, Repr

/-- A valid calendar value (R41). -/
def calOk (c : Cal) : Bool :=
  decide (2000 ≤ c.year) && decide (c.year ≤ 2399) && decide (1 ≤ c.month) && decide (c.month ≤ 12) &&
    decide (1 ≤ c.day) && decide (c.day ≤ monthDays c.year c.month) && decide (c.hour ≤ 23) &&
    decide (c.minute ≤ 59) && decide (c.second ≤ 59)

/-- The calendar's present value. -/
def calNow (s : State) : Cal :=
  { year := getF CAL_NOW1_YEAR s, month := getF CAL_NOW1_MONTH s, day := getF CAL_NOW0_DAY s
    hour := getF CAL_NOW0_HOUR s, minute := getF CAL_NOW0_MIN s, second := getF CAL_NOW0_SEC s }

/-- Put a value into the calendar. -/
def calPut (c : Cal) (s : State) : State :=
  setF CAL_NOW1_YEAR c.year (setF CAL_NOW1_MONTH c.month (setF CAL_NOW0_DAY c.day (setF CAL_NOW0_HOUR c.hour
    (setF CAL_NOW0_MIN c.minute (setF CAL_NOW0_SEC c.second s)))))

/-- One second later (R40). -/
def calStep (c : Cal) : Cal :=
  if c.second < 59 then { c with second := c.second + 1 }
  else if c.minute < 59 then { c with second := 0, minute := c.minute + 1 }
  else if c.hour < 23 then { c with second := 0, minute := 0, hour := c.hour + 1 }
  else
    let z := { c with second := 0, minute := 0, hour := 0 }
    if c.day < monthDays c.year c.month then { z with day := c.day + 1 }
    else if c.month < 12 then { z with day := 1, month := c.month + 1 }
    else { z with day := 1, month := 1, year := c.year + 1 }

/-- A calendar set (R41, R42): refused with BAD_DATE, or loaded with the 1 Hz divider restarted and record 0x0209. -/
def calSet (c : Cal) (s : State) : Bool × State :=
  if calOk c then
    let s := setF CAL_NOW1_CAL_END 0 (setF CAL_NOW1_CAL_VALID 1 (calPut c s))
    (true, sbEvent 0x0209 [] { s with gc := { s.gc with calDue := s.time.us + 1000000 } })
  else (false, setF CAL_NOW1_BAD_DATE 1 s)

end Sys2Proof.Machine
end

