-- ==== Sys2Proof/Machine/PllCore.lean ====
section
/-! DEFINITION. PLLs and clock lines as registers, commands and events reach them (spec/02). Frequencies are exact: a
numerator and a denominator in kHz. The rows and commands are in Machine/Pll.lean. -/

namespace Sys2Proof.Machine

/-- The PLL families of R49. -/
inductive PllFam where
  | gameClock | timing | system | general | dram | pcie | quad
  deriving DecidableEq, Repr

/-- The family of a PLL index. -/
def pllFam (p : Nat) : PllFam :=
  if p < 2 then .gameClock else if p < 4 then .timing else if p < 6 then .system else if p < 26 then .general
  else if p < 30 then .dram else if p = 30 then .pcie else .quad

/-- The Whistle source of a family's loss of lock (R65); 0 where the lanes' sources show it. -/
def pllSource (p : Nat) : Nat :=
  match pllFam p with
  | .gameClock => 32
  | .timing => 32
  | .system => 36
  | .general => 33
  | .dram => 34
  | .pcie => 35
  | .quad => 0

/-- A refused write of PLL p (R8): its CFG_REJECT, the block's and source 38. -/
def pllReject (p : Nat) (s : State) : State :=
  whRaise 38 (setF CLK_STATUS_CFG_REJECT 1 (setF (PLL_STATUS_CFG_REJECT p) 1 s))

/-- A refused write of a clock line (R8). -/
def clkReject (s : State) : State := whRaise 38 (setF CLK_STATUS_CFG_REJECT 1 s)

/-- LOL_ANY follows the LOL bits. -/
def lolFollow (s : State) : State :=
  setB CLK_STATUS_LOL_ANY ((natsFrom 0 63).any (fun p => isSet (PLL_STATUS_LOL p) s)) s

/-- A frequency in kHz, as numerator and denominator. -/
abbrev Freq := Nat × Nat

/-- A frequency lies in [lo, hi] kHz. -/
def freqIn (f : Freq) (lo hi : Nat) : Bool := decide (lo * f.2 ≤ f.1) && decide (f.1 ≤ hi * f.2)

/-- f_slot (R17). -/
def slotFreq (s : State) : Freq :=
  (getF GC_CFG_REF_REF_KHZ s * (getF GC_CFG_REF_SLOT_MUL_M1 s + 1), getF GC_CFG_REF_SLOT_DIV_M1 s + 1)

/-- Output n of TPLL2 or TPLL3 (R57). -/
def timingFreq (p n : Nat) (s : State) : Freq :=
  ((slotFreq s).1 * (getF (PLL_OUT_TMUL_M1 p n) s + 1), (slotFreq s).2 * (getF (PLL_OUT_TDIV_M1 p n) s + 1))

/-- The other GPLL of a column. -/
def gpllOther (p : Nat) : Nat := if p % 2 = 0 then p + 1 else p - 1

/-- The input of a GPLL; none for a pin, whose frequency no register holds. `fuel` bounds the step to the column's
other GPLL, whose output 0 serves as the input. -/
def gpllIn : Nat → Nat → State → Option Freq
  | 0, _, _ => none
  | fuel + 1, p, s =>
    match getF (PLL_CTRL_SRC p) s with
    | 0 => some (100000, 1)
    | 1 => some (timingFreq 2 0 s)
    | 2 => some (timingFreq 3 0 s)
    | 4 =>
      let q := gpllOther p
      match gpllIn fuel q s with
      | none => none
      | some f => some (f.1 * (getF (PLL_DIV_M_INT q) s * 256 + getF (PLL_DIV_M_FRAC q) s),
          f.2 * (getF (PLL_DIV_N_M1 q) s + 1) * 256 * (getF (PLL_OUT_DIV_M1 q 0) s + 1))
    | _ => none

/-- The VCO of a GPLL. -/
def gpllVco (p : Nat) (s : State) : Option Freq :=
  match gpllIn 2 p s with
  | none => none
  | some f => some (f.1 * (getF (PLL_DIV_M_INT p) s * 256 + getF (PLL_DIV_M_FRAC p) s),
      f.2 * (getF (PLL_DIV_N_M1 p) s + 1) * 256)

/-- Output n of a GPLL (R50). -/
def gpllFreq (p n : Nat) (s : State) : Option Freq :=
  match gpllVco p s with
  | none => none
  | some f => some (f.1, f.2 * (getF (PLL_OUT_DIV_M1 p n) s + 1))

/-- A frequency that is known lies in a range. -/
def freqOkIf (f : Option Freq) (lo hi : Nat) : Bool :=
  match f with
  | none => true
  | some f => freqIn f lo hi

/-- A GPLL's settings satisfy R50 and R62; for a pin input only what does not depend on its frequency is checked. -/
def gpllOk (p : Nat) (s : State) : Bool :=
  let pfd := match gpllIn 2 p s with
    | none => none
    | some f => some (f.1, f.2 * (getF (PLL_DIV_N_M1 p) s + 1))
  freqOkIf pfd 10000 400000 && decide (8 ≤ getF (PLL_DIV_M_INT p) s) && freqOkIf (gpllVco p s) 2400000 4800000 &&
    (natsFrom 0 6).all (fun n => !isSet (PLL_OUT_OEN p n) s ||
      match gpllFreq p n s with
      | none => true
      | some f => decide (18750 * f.2 ≤ f.1) && decide (f.1 ≤ 800000 * f.2)) &&
    decide (getF (PLL_CTRL_SRC p) s ≤ 4) &&
    !(decide (getF (PLL_CTRL_SRC p) s = 4) &&
      (decide (getF (PLL_CTRL_SRC (gpllOther p)) s = 4) ||
        (decide (getF (PLL_SSC_MODE (gpllOther p)) s ≠ 0) && decide (getF (PLL_SSC_DEPTH (gpllOther p)) s ≠ 0)))) &&
    decide (getF (PLL_CTRL_PIN p) s ≤ 39)

/-- The enabled outputs of TPLL2 or TPLL3. -/
def timingOuts (p : Nat) (s : State) : List Nat := (natsFrom 0 4).filter (fun n => isSet (PLL_OUT_OEN p n) s)

/-- The settings of TPLL2 or TPLL3 satisfy R57. -/
def timingOk (p : Nat) (s : State) : Bool :=
  let outs := timingOuts p s
  let a (n : Nat) : Nat := getF (PLL_OUT_TMUL_M1 p n) s + 1
  let b (n : Nat) : Nat := getF (PLL_OUT_TDIV_M1 p n) s + 1
  let common := outs.foldl (fun l n => Nat.lcm l (b n)) 1
  let k := outs.foldl (fun l n => Nat.lcm l (a n * (common / b n))) 1
  let num := (slotFreq s).1 * k
  let den := (slotFreq s).2 * common
  let m := if num = 0 then 0 else (5000000 * den + num - 1) / num
  outs.all (fun n => freqIn (timingFreq p n s) 10000 800000 && decide (slotsPerTurn s % b n = 0)) &&
    (decide (outs = []) || decide (m * num ≤ 10000000 * den ∧ 1 ≤ m))

/-- Spread settings are permitted for a PLL (R61). -/
def spreadOk (p mode depth rate : Nat) : Bool :=
  let off := decide (mode = 0) || decide (depth = 0)
  decide (mode ≤ 2) && (off || (decide (300 ≤ rate) && decide (rate ≤ 330) &&
    match pllFam p with
    | .general => if mode = 1 then decide (depth ≤ 100) else decide (depth ≤ 50)
    | .dram => decide (mode = 2) && decide (depth ≤ 25)
    | _ => false))

/-- What starting a PLL checks (R50, R57). -/
def pllSettingsOk (p : Nat) (s : State) : Bool :=
  match pllFam p with
  | .general => gpllOk p s
  | .timing => timingOk p s
  | _ => true

/-- A register write of PLL_CTRL.EN (R52, R53): ignored for the Game Clock pair; a stop of an SPLL is refused; settings
that R50 or R57 rules out refuse the start. -/
def pllEnWrite (p : Nat) (v : Bool) (s : State) : State :=
  if p < 2 then s
  else if v = isSet (PLL_CTRL_EN p) s then s
  else if v then (if pllSettingsOk p s then pllStart p s else pllReject p s)
  else if pllFam p = .system then pllReject p s
  else pllStop p s

/-- The signed error of a phase reading lies within 12 ps. -/
def phaseWithin (err : BitVec 8) : Bool := decide (-12 ≤ err.toInt) && decide (err.toInt ≤ 12)

/-- A PLL that phase applies to declares lock with an error (R58, R60): PHASE_OK and LOCK_COUNT; beyond 12 ps it is
relocked, and the third failure sets PHASE_FAIL, with event 0x0212, source 32 and alarm 0x05. -/
def phaseLock (p : Nat) (err : BitVec 8) (s : State) : State :=
  let s := setF (PLL_PHASE_ERR_PS p) err.toNat s
  if phaseWithin err then
    pllFails p 0 (addF (PLL_PHASE_LOCK_COUNT p) 1 (setF (PLL_PHASE_PHASE_OK p) 1 s))
  else
    let n := tabGet 0 s.pll.fails p + 1
    let s := setF (PLL_PHASE_PHASE_OK p) 0 (pllFails p n s)
    if 3 ≤ n then
      alarm 0x05 p false (whRaise 32 (sbEvent 0x0212 [] (setF (PLL_STATUS_PHASE_FAIL p) 1 (pllFails p 0 s))))
    else pllRelock p s

/-- A member of the Game Clock pair is faulty (R55): STANDBY_OK clears, event 0x0211, source 32, alarm 0x04; where it
drives the beat network, the other takes over at the next slot boundary; and the Referee relocks it once (R56). -/
def memberFault (m : Nat) (s : State) : State :=
  if s.pll.faulty.isSome then s
  else
    let s : State := { s with pll := { s.pll with faulty := some m, disagree := 0 } }
    let s := whRaise 32 (sbEvent 0x0211 [] (setF CLK_STATUS_STANDBY_OK 0 s))
    pllRelock m (alarm 0x04 m true s)

/-- The comparison of the pair at a slot boundary (R55): `d` is the member with the larger error where the strobes
differ by more than 50 ps. Four slots in a row make it faulty. -/
def pairCompare (d : Option Nat) (s : State) : State :=
  match d with
  | none => { s with pll := { s.pll with disagree := 0 } }
  | some m =>
    let k := s.pll.disagree + 1
    let s : State := { s with pll := { s.pll with disagree := k } }
    if 4 ≤ k then memberFault m s else s

/-- The loop of the Game Clock TPLL is closed (R26). -/
def loopClosed (s : State) : Bool :=
  decide (refState s = rsAcquire) || decide (refState s = rsLocked) || decide (refState s = rsDrifting)

/-- The source of a line is a code of R66, and not above the grade's user-clock limit where its frequency is known. -/
def gclkOk (code : Nat) (s : State) : Bool :=
  let limit := if Config.partCode = 1 then 650000 else 800000
  let below (f : Option Freq) : Bool := match f with
    | none => true
    | some f => decide (f.1 ≤ limit * f.2)
  if code < 120 then below (gpllFreq (6 + code / 6) (code % 6) s)
  else if code < 124 then below (some (timingFreq 2 (code - 120) s))
  else if code < 128 then below (some (timingFreq 3 (code - 124) s))
  else decide (code < 168) || decide (code = 255)

/-- A line's source code of R67. -/
def rclkOk (code : Nat) : Bool := decide (code ≤ 35) || decide (code = 63)

/-- The key of a line in `Pll.switching`: global, or line l of region r. -/
def lineKey (kind r l : Nat) : Nat := if kind = 0 then l else 64 + 32 * r + l

/-- The SRC and DONE fields of a line. -/
def lineSrc (kind r l : Nat) : Fld := if kind = 0 then GCLK_SEL_SRC l else RCLK_SEL_SRC r l
def lineDone (kind r l : Nat) : Fld := if kind = 0 then GCLK_SEL_DONE l else RCLK_SEL_DONE r l

/-- A new source is selected (R68): DONE is 0 until the line follows it; while a change is under way the newest source
waits for its end. -/
def lineSelect (kind r l code : Nat) (s : State) : State :=
  if getF (lineDone kind r l) s = 1 then
    if getF (lineSrc kind r l) s = code then s else setF (lineDone kind r l) 0 (setF (lineSrc kind r l) code s)
  else
    setF (lineSrc kind r l) code
      { s with pll := { s.pll with switching := tabPut s.pll.switching (lineKey kind r l) code } }

/-- The line follows its new source (R68): DONE rises, or the change that waited begins. -/
def lineSwitched (kind r l : Nat) (s : State) : State :=
  if getF (lineDone kind r l) s = 1 then s
  else
    match tabFind s.pll.switching (lineKey kind r l) with
    | some _ => { s with pll := { s.pll with switching := tabDel s.pll.switching (lineKey kind r l) } }
    | none => setF (lineDone kind r l) 1 s

end Sys2Proof.Machine
end

