-- ==== Sys2Proof/Machine/HostCore.lean ====
section
/-! DEFINITION. Mailboxes as resets, claims, notices and the BAR2 grant reach them (R135 to R165). The rows and commands are
in Machine/Mailbox.lean and Machine/DeviceCmd.lean. -/

namespace Sys2Proof.Machine

/-- The timer of group g's lease (R157). -/
def tmLease (g : Nat) : Nat := 0x2000 + g

/-- Group g becomes free. -/
def claimDrop (g : Nat) (s : State) : State := stopTimer (tmLease g) (setF (ownerFld g) 0xF s)

/-- The groups a mailbox holds, as a mask. -/
def groupsHeld (m : Nat) (s : State) : Nat :=
  (natsFrom 0 7).foldl (fun n g => if ownerOf g s = m then n ||| 2 ^ g else n) 0

/-- A mailbox is reset (R153): its waiting requests are discarded, the response of a command that runs will be
discarded, history, claims and buffers are cleared, RESET_SEEN is set and event 0x0114 is written. -/
def mailboxReset (m : Nat) (s : State) : State :=
  let s : State := { s with
    mail := { s.mail with queue := s.mail.queue.filter (fun q => decide (q.mb ≠ m)) }
    dev := { s.dev with onNext := s.dev.onNext.map (fun k => if k = m then 64 + m else k) } }
  let s := forEach (fun g s => if ownerOf g s = m then claimDrop g s else s) (natsFrom 0 7) (boxSet m boxInit s)
  let s := setF (MB_STATUS_RESET_SEEN m) 1 (setF (MB_STATUS_RSP_READY m) 0 (setF (MB_STATUS_BUSY m) 0 s))
  sbEvent 0x0114 [] s

/-- A BAR2 grant is held (R163). -/
def grantHeld (s : State) : Bool := isSet (MB_EXPERT_GRANTED 0) s

/-- The grant ends, if one is held (R165): event 0x0112, and EXPERT_REVOKED on rings 0 and 1 and the granting mailbox's. -/
def grantEnd (s : State) : State :=
  if grantHeld s then
    let s := setF (MB_EXPERT_SCOPE 0) 0 (setF (MB_EXPERT_WRITE 0) 0 (setF (MB_EXPERT_GRANTED 0) 0 s))
    let r := boxRing s.mail.grantor
    let s := ringPost 1 0x0007 0xFF [] (ringPost 0 0x0007 0xFF [] (sbEvent 0x0112 [] s))
    if r = 0 ∨ r = 1 then s else ringPost r 0x0007 0xFF [] s
  else s

/-- Ring 0 is emptied (R153). -/
def ringEmpty (s : State) : State :=
  setF (NOTICE_DROP_DROPPED 0) 0 (setF (NOTICE_CONS_CONS 0) (getF (NOTICE_PROD_PROD 0) s) s)

/-- MB0 to MB7 are reset (R153): ring 0 is emptied, its next notice is HOST_RESET, the grant is revoked, and the host
forwarder's stack is emptied (R380). -/
def hostReset (s : State) : State :=
  let s := forEach mailboxReset (natsFrom 0 8) s
  grantEnd (notice 0x0003 0xFF [] (ringEmpty (whFlush 5 s)))

/-- The PCIe link goes down (Collisions of R14; R153). -/
def linkDown (s : State) : State := hostReset { s with boot := { s.boot with linkUp := false } }

/-- A group is taken from its owner by force or on expiry (R157): CLAIM_LOST on the loser's ring, event 0x0111. -/
def claimLost (m groups by_ : Nat) (s : State) : State :=
  sbEvent 0x0111 [] (ringPost (boxRing m) 0x0004 m (leBytes 1 groups ++ leBytes 1 by_) s)

end Sys2Proof.Machine
end

