-- ==== Sys2Proof/Machine/LaneCore.lean ====
section
/-! DEFINITION. Lanes, quads and ports as registers, commands and events reach them (R296 to R311, R321 to R327). The rows and
commands are in Machine/Lanes.lean and Machine/Rally.lean. -/

namespace Sys2Proof.Machine

/-! Refusals (R8). -/

/-- A refused write of lane L's registers, or of its port's: CFG_REJECT and event 0x060A. -/
def laneReject (L : Nat) (s : State) : State := sbEvent 0x060A [] (setF (LANE_STATUS_CFG_REJECT L) 1 s)

/-- A refused write of quad q's registers. -/
def quadReject (q : Nat) (s : State) : State := sbEvent 0x060A [] (setF (QUAD_STATUS_CFG_REJECT q) 1 s)

/-! Quads. -/

/-- Four times D, by RATE_D (R297). -/
def rateTable : List Nat := [4, 5, 6, 8, 10, 12, 16, 20, 24, 32, 40, 48, 64, 80, 96, 128, 160]

/-- f_vco of a quad in kHz (R297). -/
def quadVco (q : Nat) (s : State) : Freq :=
  (getF (QUAD_REF_REF_KHZ q) s * getF (QUAD_CTRL_QM q) s, getF (QUAD_CTRL_QN q) s + 1)

/-- The line rate of lane L in kHz for a RATE_D (R297). -/
def rateOf (L d : Nat) (s : State) : Freq := ((quadVco (L / 4) s).1 * 8, (quadVco (L / 4) s).2 * listGet 4 rateTable d)

/-- The line rate of lane L as configured. -/
def lineRate (L : Nat) (s : State) : Freq := rateOf L (getF (LANE_CTRL_RATE_D L) s) s

/-- A line rate lies in 0.6 to 28.2 Gb/s (R297). -/
def rateIn (f : Freq) : Bool := freqIn f 600000 28200000

/-- A global line's source is a GPLL with spread on (R62). -/
def codeSpreads (code : Nat) (s : State) : Bool :=
  decide (code < 120) && decide (getF (PLL_SSC_MODE (6 + code / 6)) s ≠ 0) && decide (getF (PLL_SSC_DEPTH (6 + code / 6)) s ≠ 0)

/-- The reference of a quad is permitted (R296). -/
def quadRefOk (sel line khz : Nat) (s : State) : Bool :=
  decide (100000 ≤ khz) && decide (khz ≤ 400000) &&
    (decide (sel = 0) || (decide (getF (GCLK_SEL_SRC line) s ≠ 255) && !codeSpreads (getF (GCLK_SEL_SRC line) s) s))

/-- The settings in quad q's registers are permitted (R296, R297), with the rates that its lanes have chosen. -/
def quadOk (q : Nat) (s : State) : Bool :=
  let n := getF (QUAD_CTRL_QN q) s + 1
  quadRefOk (getF (QUAD_CTRL_REF_SEL q) s) (getF (QUAD_CTRL_GLINE q) s) (getF (QUAD_REF_REF_KHZ q) s) s &&
    freqIn (getF (QUAD_REF_REF_KHZ q) s, n) 25000 400000 && decide (25 ≤ getF (QUAD_CTRL_QM q) s) &&
    freqIn (quadVco q s) 9800000 14100000 && (natsFrom (4 * q) 4).all (fun L => rateIn (lineRate L s))

/-- A lane of the quad is enabled. -/
def quadInUse (q : Nat) (s : State) : Bool :=
  (natsFrom (4 * q) 4).any (fun L => isSet (LANE_CTRL_TX_EN L) s || isSet (LANE_CTRL_RX_EN L) s)

/-- QUAD_STATUS.STATE is PLL_STATUS.STATE of PLL 31 + q. -/
def quadShow (q : Nat) (s : State) : State := setF (QUAD_STATUS_STATE q) (getF (PLL_STATUS_STATE (31 + q)) s) s

/-! Lanes: modes and latencies. -/

/-- W of R299. -/
def rawWidth (code : Nat) : Nat := listGet 16 [16, 20, 32, 40, 64] code

/-- The lane is in RAW mode. -/
def laneRaw (L : Nat) (s : State) : Bool := decide (getF (LANE_CTRL_MODE L) s = 2)

/-- W of a lane. -/
def laneW (L : Nat) (s : State) : Nat := rawWidth (getF (LANE_CTRL_WIDTH L) s)

/-- Transmit and receive latency in UI (R305, R306). -/
def txLat (L : Nat) (s : State) : Nat := if laneRaw L s then 4 * laneW L s + 24 else 264
def rxLat (L : Nat) (s : State) : Nat :=
  if laneRaw L s then 6 * laneW L s + 32 + getF (LANE_SLIP_SLIP_POS L) s else 462

/-- The grade's user-clock limit in kHz (R66). -/
def userClockLimit : Nat := if Config.partCode = 1 then 650000 else 800000

/-- The values in lane L's LANE_CTRL are permitted (R297, R299, R300, R302, R328). -/
def laneCtrlOk (L : Nat) (s : State) : Bool :=
  let r := lineRate L s
  decide (getF (LANE_CTRL_MODE L) s ≤ 2) && decide (getF (LANE_CTRL_WIDTH L) s ≤ 4) &&
    decide (getF (LANE_CTRL_RATE_D L) s ≤ 16) && decide (getF (LANE_CTRL_PRBS L) s ≤ 4) && rateIn r &&
    (decide (getF (LANE_CTRL_MODE L) s ≠ 1) || isSet (LANE_CTRL_SCR_EN L) s) &&
    (!laneRaw L s || decide (r.1 ≤ userClockLimit * laneW L s * r.2))

/-- PRE dB + POST dB is at most 18 dB (R327). -/
def txeqOk (pre post : Nat) : Bool := decide (4 * pre + 5 * post ≤ 180)

/-- DFE_TAPS is 1 to 12 (R327). -/
def rxeqOk (taps : Nat) : Bool := decide (1 ≤ taps) && decide (taps ≤ 12)

/-- A DFE tap is in its range (R327): tap 1 ±63 codes, the others ±31. -/
def tapOk (t v : Nat) : Bool := decide ((signedOf v 7).natAbs ≤ if t = 1 then 63 else 31)

/-- The field of DFE tap t, 1 to 12. -/
def tapFld (L t : Nat) : Fld := ⟨(LANE_DFE0_TAP1 L).addr + (t - 1) / 4 * 4, (t - 1) % 4 * 8, 7, 0⟩

/-- The taps in use are held as they have adapted (R327): free values, since the spec states no adaptation. -/
def tapsFreeze (L : Nat) (s : State) : State :=
  forEach (fun t s => useFree (setF (tapFld L t) (freeNat s) s)) (natsFrom 1 12) s

/-- A lane is a timing lane in use (R309, sheet of 0x0402). -/
def laneTiming (L : Nat) (s : State) : Bool :=
  isSet GC_CTRL_INPUT s && (decide (getF GC_CFG_LANE_TLANE_A s = L) || decide (getF GC_CFG_LANE_TLANE_B s = L))

/-! The lock machine of R303. -/

/-- The bonded ports of a lane lose their deskew. -/
def deskewDrop (L : Nat) (s : State) : State :=
  forEach (fun p s => if portWidth p s = 1 then s else portUpd p (fun x => { x with deskewed := false, amMissed := [] }) s)
    (portsOfLane L s) s

/-- A lane's lock state changes: leaving LOCKED counts LOCK_LOSSES, sets LOCK_LOST, writes event 0x0601 at most once a
second and resets SLIP_POS (R303, R304); the ports of the lane follow. -/
def laneTo (L st : Nat) (s : State) : State :=
  let s := if laneLocked L s ∧ st ≠ 3 then
      let s := setF (LANE_SLIP_SLIP_POS L) 0 (setF (LANE_STATUS_LOCK_LOST L) 1 (incC (ctLane L 1) s))
      deskewDrop L (oncePerSecond (0x06010000 + L) (sbEvent 0x0601 [(2, L)]) s)
    else s
  laneFollow L (setF (LANE_STATUS_LOCK_STATE L) st s)

/-- The latency of a lock differs from LAT_REF (R307): a port that uses the lane and has LAT_STRICT = 1 stays down with cause 8. -/
def latChanged (L : Nat) (s : State) : State :=
  let s := sbEvent 0x0603 [] (setF (LANE_STATUS_LAT_CHANGED L) 1 (setF (LANE_STATUS_LAT_SAME L) 0 s))
  forEach (fun p s =>
    if isSet (RP_CTRL_LAT_STRICT p) s then
      let s := portUpd p (fun x => { x with latBad := true }) s
      if getF (RP_STATUS_STATE p) s = 4 then s else setF (RP_STATUS_CAUSE p) 8 s
    else s) (portsOfLane L s) s

/-- Entry to LOCKED with a latency (R305 to R307). -/
def laneLock (L lat : Nat) (s : State) : State :=
  let s := setF (LANE_LAT_TX_LAT L) (txLat L s) (setF (LANE_LAT_RX_LAT L) lat s)
  let s := if s.rally.latSet.contains L then
      (if getF (LANE_LATREF_LAT_REF L) s = lat then setF (LANE_STATUS_LAT_SAME L) 1 s else latChanged L s)
    else
      setF (LANE_STATUS_LAT_SAME L) 1 (setF (LANE_LATREF_LAT_REF L) lat
        { s with rally := { s.rally with latSet := L :: s.rally.latSet } })
  laneTo L 3 s

/-- REARM (R307, R311): the next lock sets LAT_REF; a port held by the mismatch may come up. -/
def laneRearm (L : Nat) (s : State) : State :=
  let s : State := { s with rally := { s.rally with latSet := s.rally.latSet.filter (· ≠ L) } }
  let s := forEach (fun p s => portUpd p (fun x => { x with
    latBad := false, deskewRef := if p = L then none else x.deskewRef }) s) (portsOfLane L s) s
  laneFollow L s

/-- The receiver of a lane starts, or stops, with RX_EN and the quad PLL (R303). -/
def laneRun (L : Nat) (s : State) : State :=
  let st := getF (LANE_STATUS_LOCK_STATE L) s
  if !isSet (LANE_CTRL_RX_EN L) s then (if st = 0 then s else laneTo L 0 (setF (LANE_STATUS_SIG L) 0 s))
  else if st = 0 ∧ quadLocked (L / 4) s then laneTo L 1 s
  else s

/-- LOCKED, HUNT or CDR is left for CDR (R303): loss of signal sets LOS and writes event 0x0602 at most once a second. -/
def laneLoss (L : Nat) (signal : Bool) (s : State) : State :=
  if getF (LANE_STATUS_LOCK_STATE L) s = 0 then s
  else
    let s := whenS signal (fun s => oncePerSecond (0x06020000 + L) (sbEvent 0x0602 [(2, L)])
      (setF (LANE_STATUS_SIG L) 0 (setF (LANE_STATUS_LOS L) 1 s))) s
    laneTo L 1 s

/-- The lane's signal and CDR lock have held for 10 µs (R303). -/
def laneCdr (L : Nat) (s : State) : State :=
  if getF (LANE_STATUS_LOCK_STATE L) s = 1 ∧ quadLocked (L / 4) s then
    let s := setF (LANE_STATUS_SIG L) 1 s
    if laneRaw L s then laneLock L (rxLat L s) s else laneTo L 2 s
  else s

/-- A quad PLL locks: lanes with RX_EN leave OFF, and ports follow. -/
def quadLock (q : Nat) (s : State) : State :=
  forEach (fun L s => laneFollow L (laneRun L s)) (natsFrom (4 * q) 4) (quadShow q s)

/-- A quad PLL stops or loses lock (collisions of R298): its lanes' receivers go to CDR and its ports go down with cause
3. -/
def quadDrop (q : Nat) (s : State) : State :=
  let s := portsFollow (quadShow q s)
  forEach (fun L s => if getF (LANE_STATUS_LOCK_STATE L) s = 0 then s else laneTo L 1 s) (natsFrom (4 * q) 4) s

/-- QUAD_CTRL.EN changes. -/
def quadEnable (q : Nat) (en : Bool) (s : State) : State :=
  let s := setB (QUAD_CTRL_EN q) en s
  if en then quadShow q (pllStart (31 + q) s) else quadDrop q (pllStop (31 + q) s)

/-- A change of a lane's enables takes effect (R301, R303). -/
def laneEnables (L : Nat) (tx rx : Bool) (s : State) : State :=
  let s := setB (LANE_CTRL_RX_EN L) rx (setB (LANE_CTRL_TX_EN L) tx s)
  let s := if tx || rx then setF (LANE_LAT_TX_LAT L) (txLat L s) s else s
  laneFollow L (laneRun L s)

/-- LANE_CTRL's fields other than the enables, from a word. -/
def laneCtrlFields (L w : Nat) (s : State) : State :=
  let s := setF (LANE_CTRL_RATE_D L) (bitsOf w 8 5) (setF (LANE_CTRL_WIDTH L) (bitsOf w 4 3) (setF (LANE_CTRL_MODE L) (bitsOf w 2 2) s))
  let s := setF (LANE_CTRL_POL_LOCK L) (bitsOf w 18 1) (setF (LANE_CTRL_RX_POL L) (bitsOf w 17 1) (setF (LANE_CTRL_TX_POL L) (bitsOf w 16 1) s))
  setF (LANE_CTRL_PRBS L) (bitsOf w 22 3) (setF (LANE_CTRL_LOOP L) (bitsOf w 20 2) (setF (LANE_CTRL_SCR_EN L) (bitsOf w 19 1) s))

/-- The STOPPED fields of LANE_CTRL differ from what a word asks for. -/
def laneStopped (L w : Nat) (s : State) : Bool :=
  decide (bitsOf w 2 2 ≠ getF (LANE_CTRL_MODE L) s) || decide (bitsOf w 4 3 ≠ getF (LANE_CTRL_WIDTH L) s) ||
    decide (bitsOf w 8 5 ≠ getF (LANE_CTRL_RATE_D L) s) || decide (bitsOf w 19 1 ≠ getF (LANE_CTRL_SCR_EN L) s)

/-- LANE_CTRL as a word. -/
def laneCtrlWord (L : Nat) (s : State) : Nat :=
  getF (LANE_CTRL_TX_EN L) s + 2 * getF (LANE_CTRL_RX_EN L) s + 4 * getF (LANE_CTRL_MODE L) s + 16 * getF (LANE_CTRL_WIDTH L) s +
    2 ^ 8 * getF (LANE_CTRL_RATE_D L) s + 2 ^ 16 * getF (LANE_CTRL_TX_POL L) s + 2 ^ 17 * getF (LANE_CTRL_RX_POL L) s +
    2 ^ 18 * getF (LANE_CTRL_POL_LOCK L) s + 2 ^ 19 * getF (LANE_CTRL_SCR_EN L) s + 2 ^ 20 * getF (LANE_CTRL_LOOP L) s +
    2 ^ 22 * getF (LANE_CTRL_PRBS L) s

/-- A register write of LANE_CTRL (R8): a STOPPED field of a running lane keeps its value, and a value that is refused refuses the
write; otherwise every field and then the enables. -/
def laneCtrlWrite (L w : Nat) (s : State) : State :=
  let bad := (isSet (LANE_CTRL_TX_EN L) s || isSet (LANE_CTRL_RX_EN L) s) && laneStopped L w s
  let t := laneCtrlFields L (if bad then keepBits 0x81F7C (laneCtrlWord L s) w else w) s
  if laneCtrlOk L t = false then laneReject L s
  else laneEnables L (bitOf w 0) (bitOf w 1) (if bad then laneReject L t else t)

/-- LANE_TXEQ's fields from a word. -/
def txeqFields (L w : Nat) (s : State) : State :=
  setF (LANE_TXEQ_POST L) (bitsOf w 8 5) (setF (LANE_TXEQ_PRE L) (bitsOf w 4 4) (setF (LANE_TXEQ_SWING L) (bitsOf w 0 4) s))

/-- LANE_RXEQ's fields from a word: adapted taps are held from the moment they are frozen (R327). -/
def rxeqFields (L w : Nat) (s : State) : State :=
  let s := if getF (LANE_RXEQ_DFE_MODE L) s = 1 ∧ bitsOf w 5 2 = 2 then tapsFreeze L s else s
  setF (LANE_RXEQ_DFE_TAPS L) (bitsOf w 8 4) (setF (LANE_RXEQ_DFE_MODE L) (bitsOf w 5 2)
    (setF (LANE_RXEQ_CTLE_AUTO L) (bitsOf w 4 1) (setF (LANE_RXEQ_CTLE L) (bitsOf w 0 4) s)))

/-- Register writes of LANE_TXEQ and LANE_RXEQ (R8, R327). -/
def txeqWrite (L w : Nat) (s : State) : State :=
  if txeqOk (bitsOf w 4 4) (bitsOf w 8 5) then txeqFields L w s else laneReject L s
def rxeqWrite (L w : Nat) (s : State) : State := if rxeqOk (bitsOf w 8 4) then rxeqFields L w s else laneReject L s

/-- A register write of LANE_DFE n: four taps, refused where one is out of range. -/
def dfeWrite (L n w : Nat) (s : State) : State :=
  let ts := natsFrom 0 4
  if ts.all (fun i => tapOk (4 * n + i + 1) (bitsOf w (8 * i) 7)) then
    forEach (fun i s => setF (tapFld L (4 * n + i + 1)) (bitsOf w (8 * i) 7) s) ts s
  else laneReject L s

/-- LANE_PHASE.VALID (R308). -/
def phaseValid (L : Nat) (s : State) : Bool := laneLocked L s && isSet GC_CTRL_RUN s

/-- SLIP (R304): one bit later, in RAW only; the receive latency follows. -/
def laneSlip (L : Nat) (s : State) : State :=
  if laneRaw L s then
    let s := setF (LANE_SLIP_SLIP_POS L) ((getF (LANE_SLIP_SLIP_POS L) s + 1) % laneW L s) s
    if laneLocked L s then setF (LANE_LAT_RX_LAT L) (rxLat L s) s else s
  else s

/-- H, V and DWELL of an eye-scan point are in range (R329). -/
def eyeOk (h v dwell : Nat) : Bool :=
  decide ((signedOf h 7).natAbs ≤ 32) && decide ((signedOf v 8).natAbs ≤ 127) && decide (16 ≤ dwell) && decide (dwell ≤ 36)

/-- LANE_ES_CTRL.START (R329): refused unless the lane is LOCKED; DONE is 0 until the point is complete. -/
def eyeStart (L : Nat) (s : State) : State :=
  if laneLocked L s then
    setF (LANE_ES_RESULT_ERRORS L) 0 (setF (LANE_ES_RESULT_DONE L) 0
      { s with rally := { s.rally with eye := L :: s.rally.eye.filter (· ≠ L) } })
  else laneReject L s

/-! Ports. -/

/-- What R278 asks of queue q's descriptor as it stands; `asRx` where the queue is being named as a receive queue. -/
def dqOk (asRx : Bool) (q : Nat) (s : State) : Bool :=
  let hi := getF (QWM_HI_WM q) s
  let dm := getF (QDEPTH_DEPTH_MAX q) s
  let rs := getF (QDEPTH_RESERVE q) s
  let timed := dqTimed q s
  let pol := getF (QCFG_POLICY q) s
  let con := getF (QCFG_CONSUMER q) s
  let spill := isSet (QCFG_SPILL_EN q) s
  let rx := asRx || (enabledPorts s).any (fun p => !isSet (RP_CTRL_RX_DST p) s && decide (getF (RP_CFG_RX_QUEUE p) s = q))
  (decide (hi = 0) || decide (getF (QWM_LO_WM q) s < hi)) && decide (hi ≤ dm) && decide (rs ≤ dm) &&
    decide (reserveSum s ≤ 131072) && (!spill || (decide (8 ≤ rs) && decide (spillChunks s ≠ 0))) &&
    !(timed && (decide (pol = 2) || isSet (QCFG_CUT_THROUGH q) s || spill)) &&
    (decide (con ≠ 1) || isSet (QCFG_PKT_MODE q) s) && !(decide (pol = 2) && rx) && decide (getF (QCFG_WEIGHT q) s ≠ 0) &&
    decide (1 ≤ dm) && decide (pol ≤ 2) && decide (con ≤ 2) && (decide (con ≠ 0) || decide (getF (QCFG_CONS_ID q) s < 80))

/-- The port holds a timing lane in use. -/
def portTiming (p : Nat) (s : State) : Bool := (portLanes p s).any (fun L => laneTiming L s)

/-- The fields that only a port write checks: LANES, HOLD_MS, RA_TIMER, RA_RETRY. -/
def portFieldsOk (p : Nat) (s : State) : Bool :=
  decide (getF (RP_CTRL_LANES p) s ≤ 2) && decide (getF (RP_CTRL_HOLD_MS p) s ≠ 0) &&
    decide (getF (RP_CFG_RA_TIMER p) s ≠ 0) && decide (getF (RP_CFG_RA_RETRY p) s ≠ 0)

/-- The enable of port p is permitted (R309). -/
def portEnableOk (p : Nat) (s : State) : Bool :=
  let n := portWidth p s
  let ls := portLanes p s
  let fab := isSet (RP_CTRL_TX_SRC p) s || isSet (RP_CTRL_RX_DST p) s
  decide (p % n = 0) && ls.all (fun L => decide (getF (LANE_CTRL_MODE L) s = 1)) &&
    ls.all (fun L => (portsOfLane L s).all (fun k => decide (k = p))) &&
    ls.all (fun L => decide (getF (LANE_CTRL_RATE_D L) s = getF (LANE_CTRL_RATE_D p) s)) &&
    !(fab && (decide (n ≠ 1) || isSet (RP_CTRL_RALLY_A p) s)) &&
    (isSet (RP_CTRL_RX_DST p) s || dqOk true (getF (RP_CFG_RX_QUEUE p) s) s) &&
    (!portTiming p s || (decide (n = 1) && !isSet (RP_CTRL_RALLY_A p) s && isSet (LANE_CTRL_RX_EN p) s))

/-- RP_CTRL's fields other than EN, and RP_CFG's, from their words. -/
def rpCtrlFields (p w : Nat) (s : State) : State :=
  let s := setF (RP_CTRL_TX_SRC p) (bitsOf w 4 1) (setF (RP_CTRL_LANES p) (bitsOf w 2 2) (setF (RP_CTRL_RALLY_A p) (bitsOf w 1 1) s))
  let s := setF (RP_CTRL_RX_REQ p) (bitsOf w 7 1) (setF (RP_CTRL_POLICY p) (bitsOf w 6 1) (setF (RP_CTRL_RX_DST p) (bitsOf w 5 1) s))
  setF (RP_CTRL_HOLD_MS p) (bitsOf w 16 16) (setF (RP_CTRL_LAT_STRICT p) (bitsOf w 8 1) s)
def rpCfgFields (p w : Nat) (s : State) : State :=
  setF (RP_CFG_RA_RETRY p) (bitsOf w 24 4) (setF (RP_CFG_RA_TIMER p) (bitsOf w 16 8) (setF (RP_CFG_RX_QUEUE p) (bitsOf w 0 12) s))

/-- The STOPPED fields of a port differ between two states. -/
def portStopped (p : Nat) (t s : State) : Bool :=
  [RP_CTRL_RALLY_A p, RP_CTRL_LANES p, RP_CTRL_TX_SRC p, RP_CTRL_RX_DST p, RP_CTRL_RX_REQ p, RP_CFG_RX_QUEUE p].any
    (fun f => decide (getF f t ≠ getF f s))

/-- EN of a port changes (R309, R321, R324): a port that stops was, for the Dugout, a port that went down; it forgets
RX_EXP. -/
def portEnable (p : Nat) (en : Bool) (s : State) : State :=
  if en = isSet (RP_CTRL_EN p) s then s
  else if en then
    portFollow p (setF (RP_CTRL_EN p) 1 (portSet p { portInit with oldest := getF (RP_SEQ_TX_NEXT p) s % 4096 } s))
  else
    let s := if getF (RP_STATUS_STATE p) s = 4 then dqPortDown p (isSet (RP_CTRL_POLICY p) s) (portOf p s).taking s else s
    let s := stopTimer (tmReplay p) (stopTimer (tmHold p) (portSet p portInit (rxCut p s)))
    setF (RP_SEQ_RX_EXP p) 0 (setF (RP_STATUS_RX_UP p) 0 (setF (RP_STATUS_STATE p) 0 (setF (RP_CTRL_EN p) 0 s)))

/-- A write of a port's registers as a whole: which check refuses it, 0 none, 1 a value, 2 a STOPPED field, and the state
with the fields written. -/
def portWriteCheck (p ctrl cfg : Nat) (s : State) : Nat × State :=
  let t := rpCfgFields p cfg (rpCtrlFields p ctrl s)
  let on := isSet (RP_CTRL_EN p) s
  if !portFieldsOk p t || (bitOf ctrl 0 && !on && !portEnableOk p t) then (1, t)
  else if on && portStopped p t s then (2, t)
  else (0, t)

/-- RP_CTRL and RP_CFG as words. -/
def rpCtrlWord (p : Nat) (s : State) : Nat :=
  getF (RP_CTRL_EN p) s + 2 * getF (RP_CTRL_RALLY_A p) s + 4 * getF (RP_CTRL_LANES p) s + 16 * getF (RP_CTRL_TX_SRC p) s +
    32 * getF (RP_CTRL_RX_DST p) s + 64 * getF (RP_CTRL_POLICY p) s + 128 * getF (RP_CTRL_RX_REQ p) s +
    256 * getF (RP_CTRL_LAT_STRICT p) s + 512 * natOfBool (portTiming p s) + 2 ^ 16 * getF (RP_CTRL_HOLD_MS p) s
def rpCfgWord (p : Nat) (s : State) : Nat :=
  getF (RP_CFG_RX_QUEUE p) s + 2 ^ 16 * getF (RP_CFG_RA_TIMER p) s + 2 ^ 24 * getF (RP_CFG_RA_RETRY p) s

/-- A register write of RP_CTRL and RP_CFG as words (R8): a STOPPED field of a running port keeps its value. -/
def portWrite (p ctrl cfg : Nat) (s : State) : State :=
  let x := portWriteCheck p ctrl cfg s
  let bad := decide (x.1 = 2)
  let x := if bad then portWriteCheck p (keepBits 0xBE (rpCtrlWord p s) ctrl) (keepBits 0xFFF (rpCfgWord p s) cfg) s else x
  if x.1 = 0 then portFollow p (portEnable p (bitOf ctrl 0) (if bad then laneReject p x.2 else x.2)) else laneReject p s
def rpCtrlWrite (p w : Nat) (s : State) : State := portWrite p w (rpCfgWord p s) s
def rpCfgWrite (p w : Nat) (s : State) : State := portWrite p (rpCtrlWord p s) w s

/-- RP_STATUS.UNACKED. -/
def unacked (p : Nat) (s : State) : Nat := (getF (RP_SEQ_TX_NEXT p) s % 4096 + 4096 - (portOf p s).oldest) % 4096

end Sys2Proof.Machine
end

