-- ==== Sys2Proof/Machine/DramChan.lean ====
section
/-! DEFINITION. DRAM channels as registers, commands and events reach them (R330 to R351): configuration, the request queue
and its choice, training, going down. The rows and commands are in Machine/Dram.lean. -/

namespace Sys2Proof.Machine

/-- The timer of channel c's patrol pass (R347). -/
def tmPatrol (c : Nat) : Nat := 0x3000 + c

/-- A refused write of channel c: CFG_REJECT and event 0x070D; source 323 + 4c is held by CFG_REJECT. -/
def drReject (c : Nat) (s : State) : State := sbEvent 0x070D [] (setF (DRC_STATUS_CFG_REJECT c) 1 s)

/-- A DRC_CFG word is a supported configuration (R330, R334, R345). -/
def drCfgOk (w : Nat) : Bool :=
  let ecc := bitsOf w 1 2
  let dens := bitsOf w 12 2
  let x8 := bitOf w 14
  let two := bitOf w 15
  decide (ecc ≤ 2) && decide (bitsOf w 3 2 ≤ 2) && decide (bitsOf w 5 2 ≤ 2) && decide (bitsOf w 8 4 ≤ 8) && decide (dens ≤ 2) &&
    (if x8 then decide (ecc ≤ 1) && (decide (dens ≤ 1) || !two) else decide (dens = 0) || (decide (dens = 1) && !two))

/-- The fields of DRC_CFG from a word. -/
def drCfgFields (c w : Nat) (s : State) : State :=
  let s := setF (DRC_CFG_REF_MODE c) (bitsOf w 5 2) (setF (DRC_CFG_ORDER c) (bitsOf w 3 2) (setF (DRC_CFG_ECC_MODE c) (bitsOf w 1 2)
    (setF (DRC_CFG_EN c) (bitsOf w 0 1) s)))
  setF (DRC_CFG_RANKS c) (bitsOf w 15 1) (setF (DRC_CFG_WIDTH c) (bitsOf w 14 1) (setF (DRC_CFG_DENSITY c) (bitsOf w 12 2)
    (setF (DRC_CFG_RATE c) (bitsOf w 8 4) s)))

/-- DRC_CFG as a word. -/
def drCfgWord (c : Nat) (s : State) : Nat :=
  getF (DRC_CFG_EN c) s + 2 * getF (DRC_CFG_ECC_MODE c) s + 8 * getF (DRC_CFG_ORDER c) s + 32 * getF (DRC_CFG_REF_MODE c) s +
    2 ^ 8 * getF (DRC_CFG_RATE c) s + 2 ^ 12 * getF (DRC_CFG_DENSITY c) s + 2 ^ 14 * getF (DRC_CFG_WIDTH c) s +
    2 ^ 15 * getF (DRC_CFG_RANKS c) s

/-- The channel is stopped: OFF or DOWN. -/
def drStopped (c : Nat) (s : State) : Bool := decide (getF (DRC_STATUS_STATE c) s = 0) || decide (getF (DRC_STATUS_STATE c) s = 4)

/-- A register write of DRC_CFG (R8, R330). -/
def drCfgWrite (c w : Nat) (s : State) : State :=
  if drCfgOk w = false ∨ (drStopped c s = false ∧ drCfgWord c s ≠ w % 65536 - w / 128 % 2 * 128) then drReject c s
  else drCfgFields c w s

/-- log2 of SIZE (R330). -/
def drSizeLog2 (c : Nat) (s : State) : Nat :=
  33 + getF (DRC_CFG_DENSITY c) s + (1 - getF (DRC_CFG_WIDTH c) s) + getF (DRC_CFG_RANKS c) s

/-! The physical place of a unit (R333, R334). -/

/-- The fields of N, least significant first: 0 S, 1 G, 2 B, 3 U, 4 R, 5 K, each with its width. -/
def drFields (c : Nat) (s : State) : List (Nat × Nat) :=
  let dens := getF (DRC_CFG_DENSITY c) s
  let sym := decide (getF (DRC_CFG_ECC_MODE c) s = 2)
  let w : Nat → Nat
    | 0 => if sym then 0 else 1
    | 1 => 3
    | 2 => if dens = 0 then 1 else 2
    | 3 => if isSet (DRC_CFG_WIDTH c) s then 6 else if sym then 8 else 7
    | 4 => if dens = 2 then 17 else 16
    | _ => getF (DRC_CFG_RANKS c) s
  let order := if getF (DRC_CFG_ORDER c) s = 1 then [0, 1, 2, 3, 4, 5] else [3, 2, 1, 0, 4, 5]
  order.map (fun t => (t, w t))

/-- One field of N. -/
def drField (tag : Nat) : List (Nat × Nat) → Nat → Nat
  | [], _ => 0
  | (t, w) :: l, n => if t = tag then n % 2 ^ w else drField tag l (n / 2 ^ w)

/-- The bank of a unit (rank, subchannel, device bank group, device bank) and its row (R334). -/
def drBank (c n : Nat) (s : State) : Nat × Nat :=
  let f := drFields c s
  let r := drField 4 f n
  let w := if getF (DRC_CFG_DENSITY c) s = 0 then 1 else 2
  let x := decide (getF (DRC_CFG_ORDER c) s = 2)
  let g := if x then drField 1 f n ^^^ r % 8 else drField 1 f n
  let b := if x then drField 2 f n ^^^ r / 8 % 2 ^ w else drField 2 f n
  (drField 5 f n * 64 + drField 0 f n * 32 + g * 4 + b, r)

/-! The request queue (R340, R342 to R344). -/

/-- The requests at channel c, oldest first. -/
def drReqs (c : Nat) (s : State) : List DReq := tabGet [] s.dram.reqs c

/-- Replace them. -/
def drSetReqs (c : Nat) (l : List DReq) (s : State) : State :=
  { s with dram := { s.dram with reqs := tabSet [] s.dram.reqs c l } }

/-- The latency target of a node's next request, in 10 ns; 0 means the default (R342, R344). -/
def drTarget (c node : Nat) (s : State) : Nat :=
  let t := getF (DRC_QOS_TARGET_10NS c node) s
  if t = 0 then getF (DRC_QOS_DEFAULT_TARGET_10NS c) s else t

/-- The units that a request touches: the first and the last, and all of them. -/
def drSpan (k : Pkt) : Nat × Nat := (k.addr / 64, (k.addr + 32 * k.len) / 64)
def drSpanUnits (k : Pkt) : List Nat := natsFrom (drSpan k).1 ((drSpan k).2 + 1 - (drSpan k).1)

/-- The byte enables and bytes that a WR brings to unit u: its beats at offsets 0 and 32. -/
def drUnitWrite (k : Pkt) (u : Nat) : Nat × List (BitVec 8) :=
  let beat (h : Nat) : Nat × List (BitVec 8) :=
    let a := 64 * u + 32 * h
    if k.addr ≤ a ∧ a ≤ k.addr + 32 * k.len then (beatEnable k ((a - k.addr) / 32), padTo 32 (beatOf k.data ((a - k.addr) / 32)))
    else (0, List.replicate 32 0)
  ((beat 0).1 + 2 ^ 32 * (beat 1).1, (beat 0).2 ++ (beat 1).2)

/-- The units of a WR, in order (R339): whether every merge was good. -/
def drWriteUnits (k : Pkt) : List Nat → State → Bool × State
  | [], s => (true, s)
  | u :: l, s =>
    let w := drUnitWrite k u
    let r := drWriteUnit (64 * u) w.1 w.2 s
    let q := drWriteUnits k l r.2
    (r.1 && q.1, q.2)

/-- A WR that covers every unit it touches whole, with every byte enabled (R339): no merge can change what it is answered. -/
def drWhole (k : Pkt) : Bool :=
  decide (k.op = opWr) && (drSpanUnits k).all (fun u => decide ((drUnitWrite k u).1 = 2 ^ 64 - 1))

/-- The controller holds 128 transactions: a further request waits in the network (R340, R261). -/
def drFull (c : Nat) (s : State) : Bool := decide (128 ≤ (drReqs c s).length)

/-- A request enters the controller (R340, R344): a write of whole units is answered as it enters. -/
def drEnter (c : Nat) (k : Pkt) (s : State) : State :=
  whenS (drWhole k) (inject (respondPkt k opWrRsp nsOk [] []))
    (drSetReqs c (drReqs c s ++ [⟨k, s.time.us, drTarget c k.src s⟩]) (incC (ctDR c 9) s))

/-- The urgency of a request (R342). -/
def drUrgency (now : Nat) (q : DReq) : Nat :=
  let a := (now - q.us) * 100
  if q.target ≤ a then 3 else if 3 * q.target ≤ 4 * a then 2 else if q.target ≤ 2 * a then 1 else 0

/-- Two requests must keep their order: they touch a common unit and one of them writes (R256, R339, R340). -/
def drConflict (a b : Pkt) : Bool :=
  decide ((drSpan a).1 ≤ (drSpan b).2) && decide ((drSpan b).1 ≤ (drSpan a).2) && (decide (a.op = opWr) || decide (b.op = opWr))

/-- The requests that no older one holds back. -/
def drFreeReqs : List DReq → List DReq → List DReq
  | _, [] => []
  | old, q :: l =>
    let rest := drFreeReqs (old ++ [q]) l
    if old.any (fun o => drConflict o.pkt q.pkt) then rest else q :: rest

/-- A request hits an open row. -/
def drRowHit (c : Nat) (s : State) (q : DReq) : Bool :=
  let b := drBank c (drUnit q.pkt.addr) s
  decide (tabFind s.dram.rows (c * 256 + b.1) = some b.2)

/-- The request that R343 serves next: the highest urgency; within urgency 0 to 2 a row hit first, then the oldest; within
urgency 3 the oldest. -/
def drPick (c : Nat) (s : State) : Option DReq :=
  let l := drFreeReqs [] (drReqs c s)
  let u := l.foldl (fun m q => max m (drUrgency s.time.us q)) 0
  let top := l.filter (fun q => decide (drUrgency s.time.us q = u))
  if u = 3 then top.head?
  else (top.find? (drRowHit c s)).orElse (fun _ => top.head?)

/-- A request leaves the queue to be served: its row is open, and it is LATE if it is past its target (R344). -/
def drServe (c : Nat) (q : DReq) (s : State) : State :=
  let b := drBank c (drUnit q.pkt.addr) s
  let s := drSetReqs c ((drReqs c s).erase q) s
  let s : State := { s with dram := { s.dram with rows := tabPut s.dram.rows (c * 256 + b.1) b.2 } }
  whenS (decide (q.target < (s.time.us - q.us) * 100)) (incC (ctDR c 6)) s

/-! Training, and going down (R350, R351). -/

/-- A chunk of the spill pool lies in channel c. -/
def chunkIn (c k : Nat) (s : State) : Bool :=
  decide (drChannel (spillData s + 256 * k) = c) || decide (drChannel (spillMeta s + 64 * k) = c)

/-- Queue q loses its cells in channel c (R289): counted in LOST, SPILL_LOST and event 0x0505. -/
def dqLose (c q : Nat) (s : State) : State :=
  let l := dqCells q s
  let gone (x : Cell) : Bool := decide (2 ≤ x.place) && chunkIn c (x.place - 2) s
  let n := (l.filter gone).length
  if n = 0 then s
  else
    let before := l.length
    let s := qevt q 6 (addC (ctDQ q 6) n (dqSetCells q (l.filter (fun x => !gone x)) s))
    sbEvent 0x0505 [] (dqDepthEvents q before s)

/-- The spilled cells in a channel are lost, and its chunks are free. -/
def spillLose (c : Nat) (s : State) : State :=
  let free := s.dq.chunks.filter (fun k => chunkIn c k s)
  let s := forEach (dqLose c) (s.dq.cells.map (·.1)) s
  { s with dq := { s.dq with chunks := s.dq.chunks.filter (fun k => !free.contains k) } }

/-- A Dugout queue has cells spilled to the channel. -/
def spillUses (c : Nat) (s : State) : Bool := s.dq.chunks.any (fun k => chunkIn c k s)

/-- The writes of a queue that were answered as they entered reach their units (R340). -/
def drDrain (l : List DReq) (s : State) : State :=
  forEach (fun (q : DReq) s => if drWhole q.pkt then (drWriteUnits q.pkt (drSpanUnits q.pkt) s).2 else s) l s

/-- The channel goes DOWN (R351): queued requests are answered TARGET_ERROR, spilled cells are lost, DOWN_EV and event
0x0703; contents are kept only for a retrain, and with them the writes that were answered already. -/
def drDown (c : Nat) (keep : Bool) (s : State) : State :=
  let l := drReqs c s
  let s := setF (DRC_STATUS_DOWN_EV c) 1 (setF (DRC_STATUS_STATE c) 4 (stopTimer (tmPatrol c) s))
  let s := if keep then drDrain l s else setF (DRC_STATUS_CONTENTS_LOST c) 1 s
  let s := forEach (fun (q : DReq) s => if drWhole q.pkt then s else refusePkt q.pkt nsTargetError s) l (drSetReqs c [] s)
  let s : State := { s with dram := { s.dram with
    rows := tabCut (c * 256) (c * 256 + 256) s.dram.rows, postponed := tabSet 0 s.dram.postponed c 0
    patrolAt := tabSet 0 s.dram.patrolAt c 0 } }
  sbEvent 0x0703 [] (spillLose c s)

/-- Training starts (R350): the DRAM PLL runs, SIZE is known. `init` says whether step 8 is done. -/
def drTrain (c : Nat) (init : Bool) (s : State) : State :=
  let s := if isSet (PLL_CTRL_EN (26 + c)) s then s else pllStart (26 + c) s
  let s := setF (DRC_TRAIN_LAST_STEP c) 0 (setF (DRC_TRAIN_FAILED c) 0 (setF (DRC_STATUS_SIZE_LOG2 c) (drSizeLog2 c s) s))
  setF (DRC_STATUS_STATE c) 1 { s with dram := { s.dram with retrainInit := tabSet false s.dram.retrainInit c init } }

/-- The contents of a channel become zero with valid check bits (step 8 of R350). -/
def drInit (c : Nat) (s : State) : State :=
  let lo := c * 2 ^ 35
  let hi := lo + 2 ^ 35
  { s with dram := { s.dram with
      mem := tabCut lo hi s.dram.mem
      errs := tabCut (lo / 8) (hi / 8) s.dram.errs
      poison := tabCut (lo / 64) (hi / 64) s.dram.poison } }

/-- A patrol pass starts from N = 0 (R341, R347): the device counts are cleared. -/
def patrolStart (c : Nat) (s : State) : State :=
  let s := forEach (fun d => setF (DRC_DEV_CE_COUNT c d) 0) (natsFrom 0 20) s
  let s : State := { s with dram := { s.dram with
    patrolAt := tabSet 0 s.dram.patrolAt c 0, patrolFrom := tabSet 0 s.dram.patrolFrom c s.time.us } }
  if isSet (DRC_PATROL_EN c) s then startTimer (tmPatrol c) ((getF (DRC_PATROL_PASS_HOURS c) s + 1) * 3600000000) s else s

/-- Training ends (R350): UP, or DOWN after a second failure. A DRAM_RETRAIN completes. -/
def drTrained (c : Nat) (ok : Bool) (step : Nat) (s : State) : State :=
  let init := tabGet false s.dram.retrainInit c
  let s := if ok then
      let s := if init then setF (DRC_STATUS_CONTENTS_LOST c) 0 (drInit c s) else s
      let s := setF (DRC_STATUS_STATE c) 3 (setF (DRC_TRAIN_LAST_STEP c) (if init then 8 else 7) s)
      sbEvent 0x0701 [] (patrolStart c s)
    else
      let s := setF (DRC_STATUS_STATE c) 4 (setF (DRC_TRAIN_FAILED c) 1 (setF (DRC_TRAIN_LAST_STEP c) step s))
      sbEvent 0x0702 [] s
  match s.mail.running.find? (fun a => decide (a.opcode = 0x0605) && decide (a.args = [c])) with
  | none => s
  | some a =>
    let st := getF (DRC_STATUS_STATE c) s
    let ls := getF (DRC_TRAIN_LAST_STEP c) s
    complete a (if ok then stOk else stHwFault) (st + 256 * ls) (leBytes 1 st ++ leBytes 1 ls)
      { s with mail := { s.mail with running := s.mail.running.erase a } }

/-- Some channel still trains. -/
def drTraining (s : State) : Bool :=
  (natsFrom 0 4).any (fun c => decide (getF (DRC_STATUS_STATE c) s = 1) || decide (getF (DRC_STATUS_STATE c) s = 2))

/-- Writes of the patrol's registers (R347): PASS_HOURS is re-spread over the pass in progress. -/
def patrolWrite (c : Nat) (en : Bool) (hours : Nat) (s : State) : State :=
  let was := isSet (DRC_PATROL_EN c) s
  let s := setF (DRC_PATROL_PASS_HOURS c) hours (setB (DRC_PATROL_EN c) en s)
  if !drUp c s then s
  else if !en then stopTimer (tmPatrol c) s
  else
    let from_ := if was then tabGet 0 s.dram.patrolFrom c else s.time.us
    { s with
      dram := { s.dram with patrolFrom := tabSet 0 s.dram.patrolFrom c from_ }
      time := { s.time with deadlines := tabPut s.time.deadlines (tmPatrol c) (from_ + (hours + 1) * 3600000000) } }

end Sys2Proof.Machine
end

