-- ==== Sys2Proof/Machine/Dram.lean ====
section
/-! DEFINITION. The commands and events of DRAM (spec/11). Group DRAM is 4 (R154). -/

namespace Sys2Proof.Machine

/-- The channel of a DRAM request. -/
def drArg (r : Req) : Nat := arg r 0 1

/-- DRC_STATUS as a word. -/
def drStatusWord (c : Nat) (s : State) : Nat :=
  getF (DRC_STATUS_STATE c) s + 8 * getF (DRC_STATUS_HOT c) s + 16 * getF (DRC_STATUS_CONTENTS_LOST c) s +
    2 ^ 8 * getF (DRC_STATUS_SIZE_LOG2 c) s + 2 ^ 16 * getF (DRC_STATUS_CFG_REJECT c) s + 2 ^ 17 * getF (DRC_STATUS_UE_EV c) s +
    2 ^ 18 * getF (DRC_STATUS_DOWN_EV c) s + 2 ^ 19 * getF (DRC_STATUS_OVERRUN c) s

/-- 0x0601 DRAM_STATUS. -/
def sheetDramStatus : Sheet :=
  plainSheet 0x0601 (fun r _ => argsLen 1 (fun r => decide (drArg r < 4)) r) [] (fun r s =>
    let c := drArg r
    (replyOk (leBytes 4 (drCfgWord c s) ++ leBytes 4 (drStatusWord c s) ++
      leBytes 4 (getF (DRC_PATROL_EN c) s + 2 ^ 8 * getF (DRC_PATROL_PASS_HOURS c) s + 2 ^ 16 * getF (DRC_PATROL_PASSES c) s) ++
      leBytes 4 (drSize c s / 2 ^ 20) ++ ((natsFrom 0 10).map (fun i => ctrBytes (ctDR c i) s)).flatten), s))

def execDramStatus (mb : Fin 14) (s : State) : Host.Outcome State Fault Refusal := fin (runSheet sheetDramStatus mb s)

/-- A log register pair as 8 bytes. -/
def drLogBytes (a : Nat) (s : State) : List (BitVec 8) :=
  let g (lo w : Nat) : Nat := getF ⟨a + 4, lo, w, 0⟩ s
  leBytes 4 (getF ⟨a, 0, 29, 0⟩ s) ++
    leBytes 4 (g 0 8 + 2 ^ 8 * g 8 5 + 2 ^ 13 * g 13 3 + 2 ^ 16 * g 16 3 + 2 ^ 19 * g 19 1 + 2 ^ 31 * g 31 1)

/-- A log becomes empty. -/
def drLogEmpty (a : Nat) (s : State) : State :=
  forEach (fun (p : Nat × Nat) => setF ⟨a + 4, p.1, p.2, 0⟩ 0) [(0, 8), (8, 5), (13, 3), (16, 3), (19, 1), (31, 1)]
    (setF ⟨a, 0, 29, 0⟩ 0 s)

/-- 0x0602 DRAM_ERRORS. -/
def sheetDramErrors : Sheet :=
  { plainSheet 0x0602 (fun r _ => argsLen 2 (fun r => decide (drArg r < 4) && decide (arg r 1 1 ≤ 3)) r) [] (fun r s =>
      let c := drArg r
      let ce := (DRC_CE_LOG0_UNIT c).addr
      let ue := (DRC_UE_LOG0_UNIT c).addr
      let b := drLogBytes ce s ++ drLogBytes ue s ++
        ((natsFrom 0 20).map (fun d => leBytes 2 (getF (DRC_DEV_CE_COUNT c d) s))).flatten ++ leBytes 4 (getF (DRC_SUSPECT_SUSPECT c) s)
      let s := if bitOf (arg r 1 1) 0 then drLogEmpty ue (drLogEmpty ce s) else s
      let s := if bitOf (arg r 1 1) 1 then setF (DRC_SUSPECT_SUSPECT c) 0 s else s
      (replyOk b, s)) with
    groups := fun r => if arg r 1 1 = 0 then [] else [4] }

def execDramErrors (mb : Fin 14) (s : State) : Host.Outcome State Fault Refusal := fin (runSheet sheetDramErrors mb s)

/-- 0x0603 DRAM_QOS_SET. -/
def sheetDramQosSet : Sheet :=
  plainSheet 0x0603 (fun r _ => argsLen 4 (fun r => (decide (drArg r < 4) || decide (drArg r = 0xFF)) &&
      (decide (arg r 1 1 < 128) || (decide (arg r 1 1 = 0xFF) && decide (arg r 2 2 ≠ 0))) && decide (arg r 2 2 ≤ 4095)) r) [4]
    (fun r s =>
      let cs := if drArg r = 0xFF then natsFrom 0 4 else [drArg r]
      (replyOk [], forEach (fun c => setF (if arg r 1 1 = 0xFF then DRC_QOS_DEFAULT_TARGET_10NS c
        else DRC_QOS_TARGET_10NS c (arg r 1 1)) (arg r 2 2)) cs s))

def execDramQosSet (mb : Fin 14) (s : State) : Host.Outcome State Fault Refusal := fin (runSheet sheetDramQosSet mb s)

/-- 0x0604 DRAM_PATROL. -/
def sheetDramPatrol : Sheet :=
  plainSheet 0x0604 (fun r _ => argsLen 8 (fun r => decide (drArg r < 4) && decide (arg r 1 1 ≤ 1) && decide (1 ≤ arg r 2 1) &&
      decide (arg r 3 1 = 0) && decide (arg r 4 2 ≤ 4095) && decide (1 ≤ arg r 6 2)) r) [4]
    (fun r s =>
      let c := drArg r
      (replyOk [], setF (DRC_DEV_DEV_THRESH c) (arg r 6 2) (setF (DRC_PATROL_T_TARGET_10NS c) (arg r 4 2)
        (patrolWrite c (decide (arg r 1 1 = 1)) (arg r 2 1) s))))

def execDramPatrol (mb : Fin 14) (s : State) : Host.Outcome State Fault Refusal := finG (runSheet sheetDramPatrol mb s)

/-- 0x0605 DRAM_RETRAIN (R351). -/
def sheetDramRetrain : Sheet :=
  { plainSheet 0x0605 (fun r _ => argsLen 2 (fun r => decide (drArg r < 4) && decide (arg r 1 1 ≤ 1)) r) [4]
      (fun r s =>
        let c := drArg r
        let s := if drUp c s then drDown c true s else s
        (replyAccepted [c] [], drTrain c (decide (arg r 1 1 = 1)) s)) with
    state := fun r s =>
      let c := drArg r
      let outputs := decide (s.dev.state = .live) || decide (s.dev.state = .quiesce)
      if !isSet (DRC_CFG_EN c) s || (decide (arg r 1 1 = 0) && isSet (DRC_STATUS_CONTENTS_LOST c) s) ||
          (outputs && spillUses c s) then some stWrongState else none }

def execDramRetrain (mb : Fin 14) (s : State) : Host.Outcome State Fault Refusal := finG (runSheet sheetDramRetrain mb s)

/-- DRAM_TRAINING_COMPLETE (R350): a channel's training and INIT end; at start-up the wait of step 7 follows the last. -/
def dramTrainingComplete (c : Nat) (ok : Bool) (step : Nat) (s : State) : State :=
  if getF (DRC_STATUS_STATE c) s = 1 ∨ getF (DRC_STATUS_STATE c) s = 2 then
    let s := drTrained c ok step s
    if s.boot.stage = 1 ∧ drTraining s = false then bootWait s else s
  else s

def execDramTrainingComplete (channel : Fin 4) (ok : Bool) (step : Fin 8) (s : State) : Host.Outcome State Fault Refusal :=
  finG (dramTrainingComplete channel.val ok step.val s)

/-- What the devices bring to an access: bits that have flipped since, by unit of the access, codeword and mask of its stored
bits; and what a fault makes of the address fold. -/
def dramUpsets (a : Nat) (x : DramIn) (s : State) : State :=
  forEach (fun (u : Fin 16 × Fin 8 × BitVec 160) s => drUpset (a / 64 * 64 + 64 * u.1.val) [(u.2.1.val, u.2.2.toNat)] s) x.upsets s

/-- The units of a RD, each read once (R338): bytes and whether they may be delivered. -/
def drReadUnits (fold : Nat) : List Nat → State → List (List (BitVec 8) × Bool) × State
  | [], s => ([], s)
  | u :: l, s =>
    let r := drReadUnit (64 * u) fold s
    let q := drReadUnits fold l r.2
    (r.1 :: q.1, q.2)

/-- A RD is served (R338). -/
def dramRead (c : Nat) (q : DReq) (x : DramIn) (s : State) : State :=
  let k := q.pkt
  let s := dramUpsets k.addr x (drServe c q s)
  let lo := (drSpan k).1
  let r := drReadUnits x.fold.toNat (drSpanUnits k) s
  let beats := natsFrom 0 (k.len + 1)
  let unit (i : Nat) : List (BitVec 8) × Bool := listGet ([], true) r.1 ((k.addr + 32 * i) / 64 - lo)
  let data := (beats.map (fun i => ((unit i).1.drop ((k.addr + 32 * i) % 64)).take 32)).flatten
  inject (respondPkt k opRdRsp nsOk data (beats.filter (fun i => !(unit i).2))) r.2

/-- DRAM_READ: the request that the controller serves next is a RD (R338, R343). -/
def execDramRead (channel : Fin 4) (x : DramIn) (s : State) : Host.Outcome State Fault Refusal :=
  fin (match drPick channel.val s with
    | some q => if drUp channel.val s && decide (q.pkt.op = opRd) then dramRead channel.val q x s else s
    | none => s)

/-- A WR is served (R339): a narrow one is answered now, since the answer says what its merge found. -/
def dramWrite (c : Nat) (q : DReq) (x : DramIn) (s : State) : State :=
  let k := q.pkt
  let s := dramUpsets k.addr x (drServe c q s)
  let r := drWriteUnits k (drSpanUnits k) s
  if drWhole k then r.2 else inject (respondPkt k opWrRsp (if r.1 then nsOk else nsPoisoned) [] []) r.2

/-- DRAM_WRITE: the request that the controller serves next is a WR (R339, R343). -/
def execDramWrite (channel : Fin 4) (x : DramIn) (s : State) : Host.Outcome State Fault Refusal :=
  fin (match drPick channel.val s with
    | some q => if drUp channel.val s && decide (q.pkt.op = opWr) then dramWrite channel.val q x s else s
    | none => s)

/-- A patrol reads the unit at address a (R347): corrected, poisoned or left. -/
def patrolUnit (c a : Nat) (x : DramIn) (s : State) : State :=
  let s := dramUpsets a x s
  let r := drDecode a x.fold.toNat s
  let b := drBytes a r s
  let s := drCount a r true (useFree s)
  match r.out with
  | .good => s
  | .poison => s
  | .ce => incC (ctDR c 4) (drPutUnit a b false s)
  | _ => sbEvent 0x0706 [(4, drUnit a)] (drPutUnit a b true s)

/-- PATROL_READ (R347): the unit, and the end of a pass. -/
def patrolRead (c : Nat) (x : DramIn) (s : State) : State :=
  if !drUp c s || !isSet (DRC_PATROL_EN c) s then s
  else
    let n := tabGet 0 s.dram.patrolAt c
    let s := patrolUnit c (c * 2 ^ 35 + 64 * n) x s
    if n + 1 < drSize c s / 64 then { s with dram := { s.dram with patrolAt := tabSet 0 s.dram.patrolAt c (n + 1) } }
    else patrolStart c (sbEvent 0x0709 [] (addF (DRC_PATROL_PASSES c) 1 s))

def execPatrolRead (channel : Fin 4) (x : DramIn) (s : State) : Host.Outcome State Fault Refusal :=
  fin (patrolRead channel.val x s)

/-- PATROL_OVERRUN (R347): a pass still runs after PASS_HOURS + 1 hours. -/
def patrolOverrun (c : Nat) (s : State) : State :=
  if timerOn (tmPatrol c) s then sbEvent 0x070A [] (setF (DRC_STATUS_OVERRUN c) 1 (expire (tmPatrol c) s)) else s

def execPatrolOverrun (channel : Fin 4) (s : State) : Host.Outcome State Fault Refusal := finG (patrolOverrun channel.val s)

/-- DRAM_REFRESH (R345, R346): at a refresh interval the refresh is postponed while a request of urgency 3 waits, up to 4
intervals; otherwise it is issued, and one that is owed is made up. A refresh closes the rows. -/
def dramRefresh (c : Nat) (s : State) : State :=
  if !drUp c s then s
  else
    let n := tabGet 0 s.dram.postponed c
    if n < 4 ∧ (drReqs c s).any (fun q => decide (drUrgency s.time.us q = 3)) then
      incC (ctDR c 7) { s with dram := { s.dram with postponed := tabSet 0 s.dram.postponed c (n + 1) } }
    else { s with dram := { s.dram with
      postponed := tabSet 0 s.dram.postponed c (n - 1), rows := tabCut (c * 256) (c * 256 + 256) s.dram.rows } }

def execDramRefresh (channel : Fin 4) (s : State) : Host.Outcome State Fault Refusal := fin (dramRefresh channel.val s)

/-- MR4_POLL (R345): some device reports a refresh rate above 1×, or none does. -/
def mr4Poll (c : Nat) (hot : Bool) (s : State) : State :=
  if drUp c s && (hot != isSet (DRC_STATUS_HOT c) s) then sbEvent 0x070C [] (setB (DRC_STATUS_HOT c) hot s) else s

def execMr4Poll (channel : Fin 4) (hot : Bool) (s : State) : Host.Outcome State Fault Refusal := fin (mr4Poll channel.val hot s)

/-- ALERT_N (R331): a low level while the channel is UP. -/
def alertN (c : Nat) (s : State) : State := if drUp c s then sbEvent 0x070B [] (incC (ctDR c 8) s) else s

def execAlertN (channel : Fin 4) (s : State) : Host.Outcome State Fault Refusal := fin (alertN channel.val s)

/-- DRAM_CHANNEL_DOWN (R351): a parity error in the state of a controller that is UP. -/
def execDramChannelDown (channel : Fin 4) (s : State) : Host.Outcome State Fault Refusal :=
  finG (if drUp channel.val s then drDown channel.val false s else s)

end Sys2Proof.Machine
end

