-- ==== Sys2Proof/Machine/GameClock.lean ====
section
/-! DEFINITION. The commands and events of the Game Clock, the Playbook and the calendar (spec/01). -/

namespace Sys2Proof.Machine

/-! CLOCK commands. Group CLOCK is 0 (R154). -/

/-- 0x0301 CLOCK_STATUS. -/
def sheetClockStatus : Sheet := plainSheet 0x0301 (fun r _ => argsLen 0 (fun _ => true) r) [] (fun _ s =>
  (replyOk (leBytes 1 (refState s) ++ leBytes 1 (refActive s) ++ leBytes 1 (getF GC_STATUS_TQ s) ++
    leBytes 1 (getF GC_STATUS_DRIFT_WARN s + 2 * getF GC_STATUS_HOLDOVER s + 4 * getF GC_STATUS_MARKER_LOST s) ++
    leBytes 4 (getF GC_EPOCH_PHASE_EPOCH s) ++ leBytes 6 s.clk.turn ++ leBytes 2 s.clk.slot ++ leBytes 1 s.clk.fine ++
    leBytes 3 0 ++ ((natsFrom 0 2).map (fun r => leBytes 4 (getF (GC_MON_OFFSET r) s + getF (GC_MON_CLASS r) s * 2 ^ 16 +
      getF (GC_MON_HEALTHY r) s * 2 ^ 18))).flatten), s))

def execClockStatus (mb : Fin 14) (s : State) : Host.Outcome State Fault Refusal := fin (runSheet sheetClockStatus mb s)

/-- The settings that 16 bytes of a CLOCK_CONFIGURE request carry are written (R17). -/
def clockWrite (b : List (BitVec 8)) (s : State) : State :=
  let s := setF GC_CTRL_PRIMARY (fieldAt b 1 1) (setF GC_CTRL_INPUT (fieldAt b 0 1) s)
  let s := setF GC_CFG_REF_REF_KHZ (fieldAt b 4 4) (setF GC_CFG_SLOTS_SLOTS_M1 (fieldAt b 2 2) s)
  let s := setF GC_CFG_REF_SLOT_DIV_M1 (fieldAt b 9 1) (setF GC_CFG_REF_SLOT_MUL_M1 (fieldAt b 8 1) s)
  let s := setF GC_CFG_MON_LIMIT_PPM (fieldAt b 12 2) (setF GC_CFG_MON_WARN_PPM (fieldAt b 10 2) s)
  setF GC_CFG_LANE_TLANE_B (fieldAt b 15 1) (setF GC_CFG_LANE_TLANE_A (fieldAt b 14 1) s)

/-- 0x0302 CLOCK_CONFIGURE. -/
def sheetClockConfigure : Sheet :=
  { plainSheet 0x0302 (fun r _ => argsLen 16 (fun r => clockArgsOk r.payload) r) [0]
      (fun r s => (replyOk [], clockWrite r.payload s)) with
    state := fun _ s => if isSet GC_CTRL_RUN s then some stWrongState else none }

def execClockConfigure (mb : Fin 14) (s : State) : Host.Outcome State Fault Refusal :=
  fin (runSheet sheetClockConfigure mb s)

/-- 0x0303 CLOCK_SELECT (R28): the change of state comes at the end of a window. -/
def sheetClockSelect : Sheet :=
  { plainSheet 0x0303 (fun r _ => argsLen 2 (fun r => decide (arg r 0 1 ≤ 2) && decide (arg r 1 1 ≤ 1)) r) [0]
      (fun r s =>
        let s := setF GC_CTRL_REVERTIVE (arg r 1 1) (setF GC_CTRL_SRC_MODE (arg r 0 1) s)
        (replyOk (leBytes 1 (refState s)), s)) with
    state := fun r s => if arg r 0 1 ≠ 0 ∧ refHealthy (arg r 0 1 - 1) s = false then some stWrongState else none }

def execClockSelect (mb : Fin 14) (s : State) : Host.Outcome State Fault Refusal := fin (runSheet sheetClockSelect mb s)

/-- 0x0304 CLOCK_RUN (R28, R33). -/
def sheetClockRun : Sheet :=
  { plainSheet 0x0304 (fun r _ => argsLen 1 (fun r => decide (arg r 0 1 ≤ 1)) r) [0]
      (fun r s => (replyOk [], if arg r 0 1 = 1 then gcStart s else gcStop s)) with
    state := fun r s => if arg r 0 1 = 0 ∧ gcStopRefused s = true then some stWrongState else none }

def execClockRun (mb : Fin 14) (s : State) : Host.Outcome State Fault Refusal := finG (runSheet sheetClockRun mb s)

/-- The turn value for the next realignment is loaded and armed (R24). -/
def turnArm (t : Nat) (s : State) : State :=
  setF GC_TURN_LOAD1_ARM 1 (setF GC_TURN_LOAD1_TURN_HI (t / 2 ^ 32) (setF GC_TURN_LOAD0_TURN_LO t s))

/-- 0x0305 TURN_SET. -/
def sheetTurnSet : Sheet :=
  { plainSheet 0x0305 (fun r _ => argsLen 6 (fun _ => true) r) [0] (fun r s => (replyOk [], turnArm (arg r 0 6) s)) with
    state := fun _ s => if isSet GC_CTRL_INPUT s then some stWrongState else none }

def execTurnSet (mb : Fin 14) (s : State) : Host.Outcome State Fault Refusal := fin (runSheet sheetTurnSet mb s)

/-- An entry is checked under R36 and written, after the resolution of the present slot's entries (R39): the ERR code. -/
def pbWrite (i : Nat) (b : List (BitVec 8)) (s : State) : Nat × State :=
  let e := pbParse b
  let err := pbCheck e s
  if err ≠ 0 then (err, s) else (0, pbPut i e (pbResolveAll s))

/-- 0x0310 PLAYBOOK_WRITE. -/
def sheetPlaybookWrite : Sheet :=
  plainSheet 0x0310 (fun r s => argsLen 20 (fun r => decide (arg r 0 2 ≤ 4095) &&
      decide (pbCheck (pbParse (r.payload.drop 4)) s = 0)) r) [0]
    (fun r s => (replyOk [], (pbWrite (arg r 0 2) (r.payload.drop 4) s).2))

def execPlaybookWrite (mb : Fin 14) (s : State) : Host.Outcome State Fault Refusal :=
  fin (runSheet sheetPlaybookWrite mb s)

/-- 0x0311 PLAYBOOK_READ. -/
def sheetPlaybookRead : Sheet :=
  plainSheet 0x0311 (fun r _ => argsLen 2 (fun r => decide (arg r 0 2 ≤ 4095)) r) []
    (fun r s => (replyOk (pbBytes (pbOf (arg r 0 2) s)), s))

def execPlaybookRead (mb : Fin 14) (s : State) : Host.Outcome State Fault Refusal :=
  fin (runSheet sheetPlaybookRead mb s)

/-- 0x0312 PLAYBOOK_DISARM: EN is cleared on a range, and the entries that were armed are counted. -/
def sheetPlaybookDisarm : Sheet :=
  plainSheet 0x0312 (fun r _ => argsLen 4 (fun r => decide (1 ≤ arg r 2 2) && decide (arg r 0 2 + arg r 2 2 ≤ 4096)) r) [0]
    (fun r s =>
      let s := pbResolveAll s
      let hit := (s.gc.entries.filter (fun p => decide (arg r 0 2 ≤ p.1) && decide (p.1 < arg r 0 2 + arg r 2 2) &&
        p.2.en)).map (·.1)
      (replyOk (leBytes 2 hit.length), forEach (fun i s => pbPut i { pbOf i s with en := false } s) hit s))

def execPlaybookDisarm (mb : Fin 14) (s : State) : Host.Outcome State Fault Refusal :=
  fin (runSheet sheetPlaybookDisarm mb s)

/-- PB_DATA0 to PB_DATA3 as 16 bytes. -/
def pbData (s : State) : List (BitVec 8) := ((natsFrom 0 4).map (fun n => leBytes 4 (getF (PB_DATA_DATA n) s))).flatten

/-- PB_CMD.WRITE: PB_DATA0–3 go into the indexed entry, checked under R36; a refusal is shown in ERR. -/
def pbCmdWrite (s : State) : State :=
  let r := pbWrite (getF PB_INDEX_IDX s) (pbData s) s
  setF PB_CMD_ERR r.1 r.2

def execPbCmdWrite (s : State) : Host.Outcome State Fault Refusal := fin (pbCmdWrite s)

/-- PB_CMD.READ: the indexed entry goes into PB_DATA0–3. -/
def pbCmdRead (s : State) : State :=
  let b := pbBytes (pbOf (getF PB_INDEX_IDX s) s)
  setF PB_CMD_ERR 0 (forEach (fun n s => setF (PB_DATA_DATA n) (fieldAt b (4 * n) 4) s) (natsFrom 0 4) s)

def execPbCmdRead (s : State) : Host.Outcome State Fault Refusal := fin (pbCmdRead s)

/-- 0x0D01 CAL_SET (R41, R42). -/
def sheetCalSet : Sheet :=
  plainSheet 0x0D01 (fun r _ => argsLen 8 (fun _ => true) r) [0] (fun r s =>
    let x := calSet ⟨arg r 0 2, arg r 2 1, arg r 3 1, arg r 4 1, arg r 5 1, arg r 6 1⟩ s
    (if x.1 then replyOk [] else replySt stBadDate, x.2))

def execCalSet (mb : Fin 14) (s : State) : Host.Outcome State Fault Refusal := fin (runSheet sheetCalSet mb s)

/-- 0x0D02 CAL_GET. -/
def sheetCalGet : Sheet :=
  plainSheet 0x0D02 (fun r _ => argsLen 0 (fun _ => true) r) [] (fun _ s =>
    let c := calNow s
    (replyOk (leBytes 2 c.year ++ leBytes 1 c.month ++ leBytes 1 c.day ++ leBytes 1 c.hour ++ leBytes 1 c.minute ++
      leBytes 1 c.second ++ leBytes 1 (getF CAL_NOW1_CAL_VALID s + 2 * getF CAL_NOW1_CAL_END s)), s))

def execCalGet (mb : Fin 14) (s : State) : Host.Outcome State Fault Refusal := fin (runSheet sheetCalGet mb s)

/-- CAL_LOAD.LOAD: CAL_SET0–1 are checked and loaded (R41, R42). -/
def calLoad (s : State) : State :=
  (calSet ⟨getF CAL_SET1_YEAR s, getF CAL_SET1_MONTH s, getF CAL_SET0_DAY s, getF CAL_SET0_HOUR s, getF CAL_SET0_MIN s,
    getF CAL_SET0_SEC s⟩ s).2

def execCalLoad (s : State) : Host.Outcome State Fault Refusal := fin (calLoad s)

/-- GC_TURN_LOAD1 is written with ARM = 1 (R24). -/
def execTurnLoadArm (turnHi : BitVec 16) (s : State) : Host.Outcome State Fault Refusal :=
  fin (setF GC_TURN_LOAD1_ARM 1 (setF GC_TURN_LOAD1_TURN_HI turnHi.toNat s))

/-- GC_CTRL.RUN is written (R28, R33): a stop while LIVE or QUIESCE is refused under R8. -/
def gcRunWrite (run : Bool) (s : State) : State :=
  if run then gcStart s
  else if !isSet GC_CTRL_RUN s then s
  else if gcStopRefused s then gcReject s else gcStop s

def execGcRunWrite (run : Bool) (s : State) : Host.Outcome State Fault Refusal := finG (gcRunWrite run s)

/-- RX_PHASE of a lane is measured (R308): with the epoch and the TQ of the slot. -/
def rxPhase (L v : Nat) (s : State) : State :=
  setF (LANE_PHASE_TQ L) (getF GC_STATUS_TQ s) (setF (LANE_PHASE_EPOCH_LO L) (getF GC_EPOCH_PHASE_EPOCH s)
    (setF (LANE_PHASE_RX_PHASE L) v s))

/-- What a lane's receiver has counted (R303, R328): the PRBS counts only while a pattern is selected. -/
def laneCount (c : LaneCount) (s : State) : State :=
  let L := c.lane.val
  let s := addC (ctLane L 0) c.badHeaders.toNat s
  if getF (LANE_CTRL_PRBS L) s = 0 then s
  else
    whenS (decide (c.prbsErrors ≠ 0)) (setF (LANE_STATUS_PRBS_ERR L) 1)
      (addC (ctLane L 3) c.prbsWords.toNat (addC (ctLane L 2) c.prbsErrors.toNat s))

/-- The HUDDLE line is sampled at slot (SLOTS_M1 + 1) div 2 (R130). -/
def huddleSample (high : Bool) (s : State) : State :=
  if s.dev.state = .huddle ∧ s.boot.huddle = none ∧ s.clk.slot = slotsPerTurn s / 2 ∧ high = true then
    setF HUDDLE_STATUS_SEEN_HIGH 1 (setF HUDDLE_STATUS_LINE 1 { s with boot := { s.boot with huddle := some 0 } })
  else s

/-- The count advances by one slot (R20, R21). -/
def slotAdvance (s : State) : State :=
  if s.clk.slot < getF GC_CFG_SLOTS_SLOTS_M1 s then
    slotStart { s with clk := ⟨s.clk.turn, s.clk.slot + 1, 0⟩ }
  else
    let w := decide (s.clk.turn = 2 ^ 48 - 1)
    let s : State := { s with clk := ⟨(s.clk.turn + 1) % 2 ^ 48, 0, 0⟩ }
    turnBoundary (slotStart (if w then turnWrap s else s))

/-- SLOT_BOUNDARY (R20): what was due in the slot that ends is done first. -/
def slotBoundary (i : SlotIn) (s : State) : State :=
  if !isSet GC_CTRL_RUN s then s
  else
    let s := slotAdvance (takeover (settleSlot s))
    let s := huddleSample i.huddleHigh (pairCompare (i.pairFault.map (·.val)) s)
    forEach laneCount i.counts (forEach (fun (p : Fin 128 × BitVec 13) s => rxPhase p.1.val p.2.toNat s) i.rxPhase s)

def execSlotBoundary (i : SlotIn) (s : State) : Host.Outcome State Fault Refusal := fin (slotBoundary i s)

/-- Markers come to the active reference of a running count. -/
def markersOf (input : Bool) (r : Nat) (s : State) : Bool :=
  isSet GC_CTRL_RUN s && decide (isSet GC_CTRL_INPUT s = input) && decide (refActive s = r)

/-- The count reads this fine phase now. -/
def atFine (fine : Nat) (s : State) : State := { s with clk := { s.clk with fine := fine } }

/-- MARKER_ARRIVAL: a marker on the pins of a reference, in this slot at this fine phase (R18, R22). -/
def execMarkerArrival (ref : Fin 2) (fine : Fin 64) (s : State) : Host.Outcome State Fault Refusal :=
  fin (if markersOf false ref.val s then marker none (atFine fine.val s) else s)

/-- MARKER_MISS: no marker came within one slot of the expected boundary (R22, R25). -/
def execMarkerMiss (s : State) : Host.Outcome State Fault Refusal :=
  fin (if isSet GC_CTRL_RUN s then markerMiss s else s)

/-- The reference that a timing lane is; the active one where the lane is both. -/
def timingRef (lane : Nat) (s : State) : Option Nat :=
  let a := getF GC_CFG_LANE_TLANE_A s
  let b := getF GC_CFG_LANE_TLANE_B s
  if lane = a ∧ lane = b then some (refActive s)
  else if lane = a then some 0
  else if lane = b then some 1
  else none

/-- A TIME frame is good (R19). -/
def timeFrameOk (f : TimeFrame) (s : State) : Bool :=
  f.crcOk && bitOf f.flags.toNat 1 && decide (f.slotsM1.toNat = getF GC_CFG_SLOTS_SLOTS_M1 s)

/-- TIME_FRAME (R18, R19, R317): it supplies the marker and the turn number, or is discarded; on a lane that is no timing
lane it counts as BAD_FRAME. -/
def timeFrame (lane : Nat) (f : TimeFrame) (fine : Nat) (s : State) : State :=
  match timingRef lane s with
  | none => incC (ctRP lane 5) s
  | some r =>
    if !isSet GC_CTRL_INPUT s || !isSet GC_CTRL_RUN s then s
    else if timeFrameOk f s then
      (if r = refActive s then marker (some f.turn.toNat) (atFine fine s) else s)
    else
      let s := incC (ctGC 6) s
      if r = refActive s then markerMiss s else s

def execTimeFrame (lane : Fin 128) (f : TimeFrame) (fine : Fin 64) (s : State) : Host.Outcome State Fault Refusal :=
  fin (timeFrame lane.val f fine.val s)

/-! REF_WINDOW_END (R28). -/

/-- The class of a reading: 0 within WARN, 1 WARN band, 2 beyond LIMIT, 3 loss of signal. -/
def readingClass (x : RefReading) (s : State) : Nat :=
  if x.loss then 3
  else if x.offset.natAbs ≤ s.gc.warn * 10 then 0
  else if x.offset.natAbs ≤ s.gc.limit * 10 then 1
  else 2

/-- The reading of a reference is stored: OFFSET saturates, and HEALTHY says that the last 16 windows were within WARN. -/
def readingStore (r : Nat) (x : RefReading) (s : State) : State :=
  let c := readingClass x s
  let run := min 100 (if c = 0 then (if r = 0 then s.gc.runA else s.gc.runB) + 1 else 0)
  let s := setF (GC_MON_OFFSET r) (unsignedOf (max (-32767) (min 32767 x.offset)) 16) s
  let s := setB (GC_MON_HEALTHY r) (decide (16 ≤ run)) (setF (GC_MON_CLASS r) c s)
  if r = 0 then { s with gc := { s.gc with runA := run } } else { s with gc := { s.gc with runB := run } }

/-- Windows in a row within WARN of a reference, at most 100. -/
def refRun (r : Nat) (s : State) : Nat := if r = 0 then s.gc.runA else s.gc.runB

/-- ACQUIRE fails (R28): HOLDOVER if locked since reset, otherwise FREERUN; event 0x0204 with the failure flag. -/
def acquireFail (s : State) : State :=
  let s := stopTimer tmAcquire { s with gc := { s.gc with realign := false } }
  setRef (if s.gc.locked then rsHoldover else rsFreerun) (sbEvent 0x0204 [(1, 1)] s)

/-- FREERUN or HOLDOVER: QUALIFY on a permitted reference with a window within WARN, the selected one first. -/
def seekQualify (s : State) : State :=
  let sel := refSelected s
  let go (r : Nat) : State :=
    setRef rsQualify { s with gc := { s.gc with from_ := refState s, count := 0, target := r } }
  if refClass sel s = 0 then go sel
  else if getF GC_CTRL_SRC_MODE s = 0 ∧ refClass (1 - sel) s = 0 then go (1 - sel)
  else s

/-- The forced reference, where a force is in effect on the other reference. -/
def forcedOther (s : State) : Option Nat :=
  let m := getF GC_CTRL_SRC_MODE s
  if (m = 1 ∨ m = 2) ∧ m - 1 ≠ refActive s then some (m - 1) else none

/-- LOCKED or DRIFTING at a window's end. -/
def trackWindow (s : State) : State :=
  let c := refClass (refActive s) s
  let forced := match forcedOther s with
    | some r => refHealthy r s
    | none => false
  if forced then acquire (1 - refActive s) s
  else if 2 ≤ c then
    setRef rsPending { s with gc := { s.gc with beyond := 1, revert := false, realign := false } }
  else
    let s := setRef (if c = 1 then rsDrifting else rsLocked) s
    let back := decide (refState s = rsLocked) && isSet GC_CTRL_REVERTIVE s && decide (getF GC_CTRL_SRC_MODE s = 0) &&
      decide (refActive s ≠ getF GC_CTRL_PRIMARY s) && decide (100 ≤ refRun (getF GC_CTRL_PRIMARY s) s)
    { s with gc := { s.gc with revert := back } }

/-- PENDING at a window's end (R28, R30): the loop closes, and a member that lost lock locks again; or at the third window beyond
LIMIT the clock switches or enters HOLDOVER. -/
def pendingWindow (phaseOk : Bool) (s : State) : State :=
  let c := refClass (refActive s) s
  if c ≤ 1 then
    let s := sbEvent 0x020B [] (setRef (if c = 1 then rsDrifting else rsLocked) s)
    let s := forEach (fun p s => if getF (PLL_STATUS_STATE p) s = 3 then pllRelock p s else s) (natsFrom 0 2) s
    { s with gc := { s.gc with beyond := 0, realign := !phaseOk } }
  else if s.gc.beyond + 1 < 3 then { s with gc := { s.gc with beyond := s.gc.beyond + 1 } }
  else
    let other := 1 - refActive s
    let may := decide (getF GC_CTRL_SRC_MODE s = 0) || decide (forcedOther s = some other)
    if may && refHealthy other s then acquire other s
    else setRef rsHoldover { s with gc := { s.gc with beyond := 0 } }

/-- The reference state machine steps (R28). -/
def refStep (phaseOk : Bool) (s : State) : State :=
  match refState s with
  | 0 => seekQualify s
  | 5 => seekQualify s
  | 6 =>
    if refClass s.gc.target s = 0 then
      (if s.gc.count + 1 < 100 then { s with gc := { s.gc with count := s.gc.count + 1 } } else acquire s.gc.target s)
    else setRef s.gc.from_ s
  | 1 => if 2 ≤ refClass (refActive s) s then acquireFail s else s
  | 4 => pendingWindow phaseOk s
  | _ => trackWindow s

/-- REF_WINDOW_END: no window ends while XTAL_IN is faulty (R47); the state machine steps while the clock runs; a new
threshold takes effect from the next window. -/
def refWindowEnd (a b : RefReading) (phaseOk : Bool) (s : State) : State :=
  if s.pll.xtalBad then s
  else
    let s := readingStore 1 b (readingStore 0 a s)
    let s := if isSet GC_CTRL_RUN s then refStep phaseOk s else s
    { s with gc := { s.gc with warn := getF GC_CFG_MON_WARN_PPM s, limit := getF GC_CFG_MON_LIMIT_PPM s } }

def execRefWindowEnd (a b : RefReading) (phaseOk : Bool) (s : State) : Host.Outcome State Fault Refusal :=
  finG (boundMet 2 (refWindowEnd a b phaseOk s))

/-- ACQUIRE_TIMEOUT: no TPLL lock within 20 ms of ACQUIRE (R28). -/
def execAcquireTimeout (s : State) : Host.Outcome State Fault Refusal :=
  fin (if timerOn tmAcquire s && decide (refState s = rsAcquire) then acquireFail (expire tmAcquire s) else s)

/-- TPLL_LOCK: the TPLL locks in ACQUIRE; realignment follows at the next marker (R23, R28, R54). -/
def execTpllLock (s : State) : Host.Outcome State Fault Refusal :=
  fin (if timerOn tmAcquire s && decide (refState s = rsAcquire) then
      let m := getF CLK_STATUS_GC_TPLL s
      let s : State := stopTimer tmAcquire { s with gc := { s.gc with realign := true } }
      standbyFollow (addF (PLL_PHASE_LOCK_COUNT m) 1 (setF (PLL_PHASE_PHASE_OK m) 1
        (setF (PLL_STATUS_STATE m) 2 (pllLockedSet m true s))))
    else s)

/-- PLAYBOOK_ENTRY_DUE: an entry due in this slot resolves, after those of lower index (R37, R38). -/
def execPlaybookEntryDue (idx : Fin 4096) (s : State) : Host.Outcome State Fault Refusal :=
  fin (if isSet GC_CTRL_RUN s && pbDue idx.val s then pbResolveTo idx.val s else s)

/-- THROTTLE_END (R35). -/
def execThrottleEnd (s : State) : Host.Outcome State Fault Refusal := fin (throttleEnd s)

/-- CALENDAR_TICK (R43, R47): the tick advances the calendar, or stops it at its end. -/
def calendarTick (s : State) : State :=
  if s.pll.xtalBad || s.boot.power ≠ 2 then s
  else
    let s : State := { s with
      time := { s.time with us := max s.time.us s.gc.calDue }
      gc := { s.gc with calDue := max s.time.us s.gc.calDue + 1000000 } }
    if isSet CAL_NOW1_CAL_END s then s
    else if calNow s = ⟨2399, 12, 31, 23, 59, 59⟩ then
      sbEvent 0x020A [] (whRaise 24 (setF CAL_NOW1_CAL_END 1 s))
    else calPut (calStep (calNow s)) s

def execCalendarTick (s : State) : Host.Outcome State Fault Refusal := fin (calendarTick s)

end Sys2Proof.Machine
end

