-- ==== Sys2Proof/Machine/Lanes.lean ====
section
/-! DEFINITION. The commands and events of lanes, quads and port settings (spec/10). Group LANES is 2 (R154). -/

namespace Sys2Proof.Machine

/-- LANE_STATUS as a word. -/
def laneStatusWord (L : Nat) (s : State) : Nat :=
  getF (LANE_STATUS_LOCK_STATE L) s + 4 * getF (LANE_STATUS_SIG L) s + 8 * getF (LANE_STATUS_LAT_SAME L) s +
    (natsFrom 0 6).foldl (fun n b => n + 2 ^ (16 + b) * getF ⟨(LANE_STATUS_LOCK_LOST L).addr, 16 + b, 1, 0⟩ s) 0 +
    2 ^ 24 * withBit (getF (LANE_STATUS_EVT_EN L) s) 3

/-- LANE_PHASE as a word. -/
def lanePhaseWord (L : Nat) (s : State) : Nat :=
  getF (LANE_PHASE_RX_PHASE L) s + 2 ^ 16 * getF (LANE_PHASE_EPOCH_LO L) s + 2 ^ 24 * getF (LANE_PHASE_TQ L) s +
    2 ^ 26 * natOfBool (phaseValid L s)

/-- 0x0401 LANE_STATUS. -/
def sheetLaneStatus : Sheet :=
  plainSheet 0x0401 (fun r _ => argsLen 1 (fun r => decide (arg r 0 1 < 128)) r) [] (fun r s =>
    let L := arg r 0 1
    (replyOk (leBytes 4 (laneCtrlWord L s) ++ leBytes 4 (laneStatusWord L s) ++
      leBytes 4 (getF (LANE_LAT_RX_LAT L) s + 2 ^ 16 * getF (LANE_LAT_TX_LAT L) s) ++
      leBytes 4 (getF (LANE_LATREF_LAT_REF L) s) ++ leBytes 4 (lanePhaseWord L s) ++
      ((natsFrom 0 4).map (fun i => ctrBytes (ctLane L i) s)).flatten), s))

def execLaneStatus (mb : Fin 14) (s : State) : Host.Outcome State Fault Refusal := fin (runSheet sheetLaneStatus mb s)

/-- The values of a LANE_CONFIGURE are permitted (R297, R300, R327). -/
def laneConfigOk (r : Req) (s : State) : Bool :=
  let L := arg r 0 1
  decide (L < 128) && decide (arg r 1 3 = 0) && laneCtrlOk L (laneCtrlFields L (arg r 4 4) s) &&
    txeqOk (bitsOf (arg r 8 4) 4 4) (bitsOf (arg r 8 4) 8 5) && rxeqOk (bitsOf (arg r 12 4) 8 4)

/-- 0x0402 LANE_CONFIGURE: the enables are cleared, the registers written, then the requested enables. -/
def sheetLaneConfigure : Sheet :=
  { plainSheet 0x0402 (fun r s => argsLen 16 (fun r => laneConfigOk r s) r) [2] (fun r s =>
      let L := arg r 0 1
      let w := arg r 4 4
      let s := rxeqFields L (arg r 12 4) (txeqFields L (arg r 8 4) (laneCtrlFields L w (laneEnables L false false s)))
      (replyOk [], laneEnables L (bitOf w 0) (bitOf w 1) s)) with
    state := fun r s =>
      if (portsOfLane (arg r 0 1) s ≠ []) ∨ (laneTiming (arg r 0 1) s && isSet GC_CTRL_RUN s) then some stWrongState
      else none }

def execLaneConfigure (mb : Fin 14) (s : State) : Host.Outcome State Fault Refusal := fin (runSheet sheetLaneConfigure mb s)

/-- Slips of the boundary, one after the other. -/
def laneSlips (L n : Nat) (s : State) : State := forEach (fun _ s => laneSlip L s) (natsFrom 0 n) s

/-- 0x0403 LANE_SLIP_SEARCH (R304): `hit` is the number of slips after which the training word is found, if it is found
before W slips. -/
def sheetLaneSlipSearch (hit : Option (Fin 64)) : Sheet :=
  { plainSheet 0x0403 (fun r _ => argsLen 20 (fun r => decide (arg r 0 1 < 128) && decide (1 ≤ arg r 1 1) &&
        decide (arg r 2 2 = 0)) r) [2]
      (fun r s =>
        let L := arg r 0 1
        match hit with
        | some k =>
          if k.val < laneW L s then
            let s := laneSlips L k.val s
            (replyOk (leBytes 1 (getF (LANE_SLIP_SLIP_POS L) s)), s)
          else (replySt stTimeout, laneSlips L (laneW L s) s)
        | none => (replySt stTimeout, laneSlips L (laneW L s) s)) with
    state := fun r s => if laneRaw (arg r 0 1) s && laneLocked (arg r 0 1) s then none else some stWrongState }

def execLaneSlipSearch (mb : Fin 14) (hit : Option (Fin 64)) (s : State) : Host.Outcome State Fault Refusal :=
  fin (runSheet (sheetLaneSlipSearch hit) mb s)

/-- A signed byte of a request. -/
def sarg (r : Req) (off : Nat) : Int := signedOf (arg r off 1) 8

/-- The points of a scan in one direction; 0 where the steps do not make a scan. -/
def scanCount (lo hi step : Int) : Nat := if step ≤ 0 ∨ hi < lo then 0 else ((hi - lo) / step).toNat + 1

/-- The points of a LANE_EYE_SCAN. -/
def eyePoints (r : Req) : Nat := scanCount (sarg r 1) (sarg r 2) (sarg r 3) * scanCount (sarg r 4) (sarg r 5) (sarg r 6)

/-- The values of a LANE_EYE_SCAN are permitted (R329). -/
def eyeScanOk (r : Req) (s : State) : Bool :=
  let f := lineRate (arg r 0 1) s
  decide (arg r 0 1 < 128) && decide (-32 ≤ sarg r 1) && decide (sarg r 2 ≤ 32) && decide (-127 ≤ sarg r 4) &&
    decide (sarg r 5 ≤ 127) && decide (16 ≤ arg r 7 1) && decide (arg r 7 1 ≤ 36) && decide (1 ≤ eyePoints r) &&
    decide (eyePoints r ≤ 1900) && decide (eyePoints r * 2 ^ arg r 7 1 * f.2 ≤ 200 * f.1)

/-- 0x0404 LANE_EYE_SCAN: `errors` is what each point counts. The registers are left with the last point. -/
def sheetLaneEyeScan (errors : List (BitVec 16)) : Sheet :=
  { plainSheet 0x0404 (fun r s => argsLen 8 (fun r => eyeScanOk r s) r) [] (fun r s =>
      let L := arg r 0 1
      let n := eyePoints r
      let es := (natsFrom 0 n).map (fun i => (listGet 0 errors i).toNat)
      let lastOf (lo hi step : Int) : Int := lo + (hi - lo) / step * step
      let s := setF (LANE_ES_CTRL_H L) (unsignedOf (lastOf (sarg r 1) (sarg r 2) (sarg r 3)) 7) s
      let s := setF (LANE_ES_CTRL_V L) (unsignedOf (lastOf (sarg r 4) (sarg r 5) (sarg r 6)) 8) s
      let s := setF (LANE_ES_CTRL_DWELL L) (arg r 7 1) s
      let s := setF (LANE_ES_RESULT_ERRORS L) (listGet 0 es (n - 1)) (setF (LANE_ES_RESULT_DONE L) 1
        { s with rally := { s.rally with eye := s.rally.eye.filter (· ≠ L) } })
      (replyOk (leBytes 2 n ++ (es.map (fun e => leBytes 2 e)).flatten), s)) with
    state := fun r s => if laneLocked (arg r 0 1) s then none else some stWrongState }

def execLaneEyeScan (mb : Fin 14) (errors : List (BitVec 16)) (s : State) : Host.Outcome State Fault Refusal :=
  fin (runSheet (sheetLaneEyeScan errors) mb s)

/-- Quad q with the settings of a QUAD_CONFIGURE. -/
def quadSettings (r : Req) (s : State) : State :=
  let q := arg r 0 1
  let s := setF (QUAD_CTRL_GLINE q) (arg r 2 1) (setF (QUAD_CTRL_REF_SEL q) (arg r 1 1) s)
  let s := setF (QUAD_CTRL_QM q) (arg r 4 1) (setF (QUAD_CTRL_QN q) (arg r 3 1) s)
  setF (QUAD_REF_REF_KHZ q) (arg r 8 4) s

/-- 0x0410 QUAD_CONFIGURE: `locks` says whether the PLL locks within 2 ms. -/
def sheetQuadConfigure (locks : Bool) : Sheet :=
  { plainSheet 0x0410 (fun r s => argsLen 12 (fun r => decide (arg r 0 1 < 32) && decide (arg r 1 1 ≤ 1) &&
        decide (arg r 2 1 ≤ 31) && decide (arg r 3 1 ≤ 3) && decide (arg r 5 1 ≤ 1) && decide (arg r 6 2 = 0) &&
        decide (arg r 8 4 < 2 ^ 19) && quadOk (arg r 0 1) (quadSettings r s)) r) [2]
      (fun r s =>
        let q := arg r 0 1
        let s := quadEnable q (decide (arg r 5 1 = 1)) (quadSettings r (quadEnable q false s))
        let s := if arg r 5 1 = 1 ∧ locks then
            quadLock q (setF (PLL_STATUS_STATE (31 + q)) 2 (pllLockedSet (31 + q) true s))
          else s
        (if arg r 5 1 = 1 ∧ locks = false then replySt stTimeout else replyOk (leBytes 1 (getF (QUAD_STATUS_STATE q) s)), s))
    with
    state := fun r s => if quadInUse (arg r 0 1) s then some stWrongState else none }

def execQuadConfigure (mb : Fin 14) (locks : Bool) (s : State) : Host.Outcome State Fault Refusal :=
  fin (runSheet (sheetQuadConfigure locks) mb s)

/-- 0x0420 PORT_CONFIGURE. -/
def sheetPortConfigure : Sheet :=
  { plainSheet 0x0420 (fun r s => argsLen 12 (fun r => decide (arg r 0 1 < 128) && decide (arg r 1 3 = 0) &&
        decide ((portWriteCheck (arg r 0 1) (arg r 4 4) (arg r 8 4) s).1 ≠ 1)) r) [2]
      (fun r s =>
        let p := arg r 0 1
        let x := portWriteCheck p (arg r 4 4) (arg r 8 4) s
        (replyOk [], portFollow p (portEnable p (bitOf (arg r 4 4) 0) x.2))) with
    state := fun r s =>
      if (portWriteCheck (arg r 0 1) (arg r 4 4) (arg r 8 4) s).1 = 2 then some stWrongState else none }

def execPortConfigure (mb : Fin 14) (s : State) : Host.Outcome State Fault Refusal := fin (runSheet sheetPortConfigure mb s)

/-- RP_STATUS as a word. -/
def rpStatusWord (p : Nat) (s : State) : Nat :=
  getF (RP_STATUS_STATE p) s + 8 * getF (RP_STATUS_RX_UP p) s + 16 * getF (RP_STATUS_CAUSE p) s + 2 ^ 8 * unacked p s +
    (natsFrom 0 5).foldl (fun n b => n + 2 ^ (24 + b) * getF ⟨(RP_STATUS_DOWN_EV p).addr, 24 + b, 1, 0⟩ s) 0

/-- 0x0421 PORT_STATUS. -/
def sheetPortStatus : Sheet :=
  plainSheet 0x0421 (fun r _ => argsLen 1 (fun r => decide (arg r 0 1 < 128)) r) [] (fun r s =>
    let p := arg r 0 1
    (replyOk (leBytes 4 (rpStatusWord p s) ++
      leBytes 4 (getF (RP_LAT_PORT_LAT p) s + 2 ^ 16 * getF (RP_LAT_DESKEW p) s) ++
      leBytes 4 (getF (RP_SEQ_TX_NEXT p) s + 2 ^ 16 * getF (RP_SEQ_RX_EXP p) s) ++
      ((natsFrom 0 14).map (fun i => ctrBytes (ctRP p i) s)).flatten), s))

def execPortStatus (mb : Fin 14) (s : State) : Host.Outcome State Fault Refusal := fin (runSheet sheetPortStatus mb s)

/-- 0x0422 PORT_CONTROL. -/
def sheetPortControl : Sheet :=
  { plainSheet 0x0422 (fun r _ => argsLen 2 (fun r => decide (arg r 0 1 < 128) && decide (arg r 1 1 ≤ 3)) r) [2]
      (fun r s =>
        let p := arg r 0 1
        let s := match arg r 1 1 with
          | 0 => portFollow p (portUpd p (fun x => { x with cmdDown := true }) s)
          | 1 => portFollow p (portUpd p (fun x => { x with cmdDown := false }) s)
          | 2 => forEach laneRearm (portLanes p s) s
          | _ => portHoldEnd p s
        (replyOk (leBytes 1 (getF (RP_STATUS_STATE p) s)), s)) with
    state := fun r s =>
      if !isSet (RP_CTRL_EN (arg r 0 1)) s ∨ (arg r 1 1 = 3 ∧ getF (RP_STATUS_STATE (arg r 0 1)) s = 4) then
        some stWrongState
      else none }

def execPortControl (mb : Fin 14) (s : State) : Host.Outcome State Fault Refusal := fin (runSheet sheetPortControl mb s)

/-- LANE_SLIP.SLIP is written (R304). -/
def execLaneSlip (lane : Fin 128) (s : State) : Host.Outcome State Fault Refusal := fin (laneSlip lane.val s)

/-- LANE_LATREF.REARM is written (R307). -/
def execRearm (lane : Fin 128) (s : State) : Host.Outcome State Fault Refusal := fin (laneRearm lane.val s)

/-- LANE_ES_CTRL.START is written (R329). -/
def execEyeScanStart (lane : Fin 128) (s : State) : Host.Outcome State Fault Refusal := fin (eyeStart lane.val s)

/-- EYE_SCAN_POINT_DONE (R329): the point counts this many errors; the count saturates at 0xFFFF. -/
def eyeDone (L errors : Nat) (s : State) : State :=
  if s.rally.eye.contains L then
    setF (LANE_ES_RESULT_DONE L) 1 (setF (LANE_ES_RESULT_ERRORS L) (min errors 0xFFFF)
      { s with rally := { s.rally with eye := s.rally.eye.filter (· ≠ L) } })
  else s

def execEyeScanPointDone (lane : Fin 128) (errors : BitVec 36) (s : State) : Host.Outcome State Fault Refusal :=
  fin (eyeDone lane.val errors.toNat s)

/-- LANE_CDR_LOCK: signal and CDR lock have held for 10 µs (R303, R298). -/
def execLaneCdrLock (lane : Fin 128) (s : State) : Host.Outcome State Fault Refusal := fin (laneCdr lane.val s)

/-- LANE_BLOCK_LOCK: 96 valid headers in a row (R303). `measured` is the latency where the compensating delay fails its
self-check (collisions of R308). -/
def laneBlockLock (L : Nat) (measured : Option Nat) (s : State) : State :=
  if getF (LANE_STATUS_LOCK_STATE L) s = 2 then
    laneLock L (match measured with | some m => m | none => rxLat L s) s
  else s

def execLaneBlockLock (lane : Fin 128) (measured : Option (BitVec 16)) (s : State) : Host.Outcome State Fault Refusal :=
  fin (laneBlockLock lane.val (measured.map (·.toNat)) s)

/-- LANE_LOCK_LOSS: the 24th invalid header within one window (R303); a 64b/66b lane goes to HUNT. -/
def laneLockLoss (L : Nat) (s : State) : State :=
  if laneLocked L s && !laneRaw L s then laneTo L 2 (addC (ctLane L 0) 24 s) else s

def execLaneLockLoss (lane : Fin 128) (s : State) : Host.Outcome State Fault Refusal := fin (laneLockLoss lane.val s)

/-- LOSS_OF_SIGNAL: loss of signal, or of CDR frequency lock only (R303). -/
def execLossOfSignal (lane : Fin 128) (signal : Bool) (s : State) : Host.Outcome State Fault Refusal :=
  fin (laneLoss lane.val signal s)

end Sys2Proof.Machine
end

