-- ==== Sys2Proof/Machine/RegTable.lean ====
section
/-! DEFINITION. The register map as data, made from the spec's register tables: for every register its base
address, the counts and strides of its indices, and its fields with their type (R3), their Applies value (R5)
and their reset value. Software accesses (REGISTER_WRITE, CSR_ACCESS) find a register here. -/

namespace Sys2Proof.Machine

/-- The register field types of R3. -/
inductive FTy where
  | rw | ro | rc | w1s | w1c | wo | setAlias | clrAlias
  deriving DecidableEq, Repr

/-- The Applies values of R5; a field whose table gives none applies now. -/
inductive App where
  | now | packet | turn | stopped
  deriving DecidableEq, Repr

/-- One field of a register: lowest bit, width, type, Applies value, reset value. -/
structure FSpec where
  lo : Nat
  w : Nat
  ty : FTy
  app : App
  rst : Nat
  deriving DecidableEq, Repr

/-- One register of the map: base address, the count and stride of each index, its fields. -/
structure RegRow where
  base : Nat
  dims : List (Nat × Nat)
  fields : List FSpec
  deriving DecidableEq, Repr

/-- Registers of spec/01. -/
def regRows01a : List RegRow := [
  -- GC_CTRL
  ⟨0x3F00100000, [],
    [⟨0, 1, .rw, .now, 0⟩, ⟨1, 2, .rw, .now, 0⟩, ⟨3, 1, .rw, .now, 0⟩, ⟨4, 1, .rw, .stopped, 0⟩, ⟨5, 1, .rw, .stopped, 0⟩]⟩,
  -- GC_CFG_SLOTS
  ⟨0x3F00100004, [],
    [⟨0, 16, .rw, .stopped, 0xFFFF⟩]⟩,
  -- GC_CFG_REF
  ⟨0x3F00100008, [],
    [⟨0, 18, .rw, .stopped, 0x9C40⟩, ⟨20, 4, .rw, .stopped, 0⟩, ⟨24, 4, .rw, .stopped, 0⟩]⟩,
  -- GC_CFG_MON
  ⟨0x3F0010000C, [],
    [⟨0, 10, .rw, .now, 0x32⟩, ⟨16, 10, .rw, .now, 0xC8⟩]⟩,
  -- GC_CFG_LANE
  ⟨0x3F00100010, [],
    [⟨0, 7, .rw, .stopped, 0⟩, ⟨8, 7, .rw, .stopped, 1⟩]⟩,
  -- GC_STATUS
  ⟨0x3F00100020, [],
    [⟨0, 3, .ro, .now, 0⟩, ⟨4, 1, .ro, .now, 0⟩, ⟨5, 2, .ro, .now, 0⟩, ⟨8, 1, .ro, .now, 0⟩, ⟨9, 1, .ro, .now, 0⟩, ⟨10, 1, .ro, .now, 0⟩, ⟨16, 1, .w1c, .now, 0⟩, ⟨17, 1, .w1c, .now, 0⟩, ⟨18, 1, .w1c, .now, 0⟩]⟩,
  -- GC_EPOCH
  ⟨0x3F00100024, [],
    [⟨0, 32, .ro, .now, 0⟩]⟩,
  -- GC_NOW0
  ⟨0x3F00100030, [],
    [⟨0, 6, .ro, .now, 0⟩, ⟨16, 16, .ro, .now, 0⟩]⟩,
  -- GC_NOW1
  ⟨0x3F00100034, [],
    [⟨0, 32, .ro, .now, 0⟩]⟩,
  -- GC_NOW2
  ⟨0x3F00100038, [],
    [⟨0, 16, .ro, .now, 0⟩, ⟨16, 2, .ro, .now, 0⟩]⟩,
  -- GC_TURN_LOAD0
  ⟨0x3F00100040, [],
    [⟨0, 32, .rw, .now, 0⟩]⟩,
  -- GC_TURN_LOAD1
  ⟨0x3F00100044, [],
    [⟨0, 16, .rw, .now, 0⟩, ⟨31, 1, .w1s, .now, 0⟩]⟩,
  -- GC_CNT_IDX
  ⟨0x3F00100050, [],
    [⟨0, 3, .rw, .now, 0⟩]⟩,
  -- GC_CNT_LO
  ⟨0x3F00100054, [],
    [⟨0, 32, .ro, .now, 0⟩]⟩,
  -- GC_CNT_HI
  ⟨0x3F00100058, [],
    [⟨0, 16, .ro, .now, 0⟩, ⟨31, 1, .w1c, .now, 0⟩]⟩,
  -- PB_INDEX
  ⟨0x3F00100100, [],
    [⟨0, 12, .rw, .now, 0⟩]⟩]

/-- Registers of spec/01. -/
def regRows01b : List RegRow := [
  -- PB_CMD
  ⟨0x3F00100104, [],
    [⟨0, 1, .wo, .now, 0⟩, ⟨1, 1, .wo, .now, 0⟩, ⟨8, 1, .ro, .now, 1⟩, ⟨9, 3, .ro, .now, 0⟩]⟩,
  -- CAL_NOW0
  ⟨0x3F00100200, [],
    [⟨0, 6, .ro, .now, 0⟩, ⟨8, 6, .ro, .now, 0⟩, ⟨16, 5, .ro, .now, 0⟩, ⟨24, 5, .ro, .now, 1⟩]⟩,
  -- CAL_NOW1
  ⟨0x3F00100204, [],
    [⟨0, 4, .ro, .now, 1⟩, ⟨8, 12, .ro, .now, 0x7D0⟩, ⟨28, 1, .ro, .now, 0⟩, ⟨29, 1, .ro, .now, 0⟩, ⟨30, 1, .w1c, .now, 0⟩]⟩,
  -- CAL_LOAD
  ⟨0x3F00100218, [],
    [⟨0, 1, .wo, .now, 0⟩]⟩,
  -- GC_MON
  ⟨0x3F00100028, [(2, 4)],
    [⟨0, 16, .ro, .now, 0⟩, ⟨16, 2, .ro, .now, 0⟩, ⟨18, 1, .ro, .now, 0⟩]⟩,
  -- PB_DATA
  ⟨0x3F00100110, [(4, 4)],
    [⟨0, 32, .rw, .now, 0⟩]⟩,
  -- CAL_SET0
  ⟨0x3F00100210, [],
    [⟨0, 6, .rw, .now, 0⟩, ⟨8, 6, .rw, .now, 0⟩, ⟨16, 5, .rw, .now, 0⟩, ⟨24, 5, .rw, .now, 1⟩]⟩,
  -- CAL_SET1
  ⟨0x3F00100214, [],
    [⟨0, 4, .rw, .now, 1⟩, ⟨8, 12, .rw, .now, 0x7D0⟩]⟩]

/-- Registers of spec/01. -/
def regRows01 : List RegRow := regRows01a ++ regRows01b

/-- Registers of spec/02. -/
def regRows02 : List RegRow := [
  -- CLK_STATUS
  ⟨0x3F00200000, [],
    [⟨0, 1, .ro, .now, 0⟩, ⟨1, 1, .ro, .now, 0⟩, ⟨2, 1, .ro, .now, 0⟩, ⟨3, 1, .ro, .now, 1⟩, ⟨4, 1, .ro, .now, 0⟩, ⟨16, 1, .w1c, .now, 0⟩, ⟨17, 1, .w1c, .now, 0⟩, ⟨18, 1, .w1c, .now, 0⟩]⟩,
  -- GCLK_SEL
  ⟨0x3F00200040, [(32, 4)],
    [⟨0, 8, .rw, .now, 0xFF⟩, ⟨8, 1, .ro, .now, 1⟩]⟩,
  -- RCLK_SEL
  ⟨0x3F00202000, [(80, 0x80), (24, 4)],
    [⟨0, 6, .rw, .now, 0x3F⟩, ⟨8, 1, .ro, .now, 1⟩]⟩,
  -- PLL_CTRL
  ⟨0x3F00200100, [(63, 0x40)],
    [⟨0, 1, .rw, .now, 0⟩, ⟨1, 1, .rw, .now, 0⟩, ⟨2, 2, .rw, .stopped, 0⟩, ⟨4, 1, .wo, .now, 0⟩, ⟨8, 3, .rw, .stopped, 0⟩, ⟨12, 6, .rw, .stopped, 0⟩]⟩,
  -- PLL_DIV
  ⟨0x3F00200104, [(63, 0x40)],
    [⟨0, 4, .rw, .stopped, 0⟩, ⟨8, 8, .rw, .stopped, 0x20⟩, ⟨16, 8, .rw, .stopped, 0⟩]⟩,
  -- PLL_SSC
  ⟨0x3F0020010C, [(63, 0x40)],
    [⟨0, 2, .rw, .stopped, 0⟩, ⟨2, 7, .rw, .stopped, 0⟩, ⟨16, 9, .rw, .stopped, 0x12C⟩]⟩,
  -- PLL_OUT
  ⟨0x3F00200110, [(63, 0x40), (6, 4)],
    [⟨0, 7, .rw, .stopped, 0⟩, ⟨7, 1, .rw, .stopped, 0⟩, ⟨8, 6, .rw, .stopped, 0⟩, ⟨16, 6, .rw, .stopped, 0⟩, ⟨24, 6, .rw, .stopped, 0⟩]⟩,
  -- PLL_STATUS
  ⟨0x3F00200128, [(63, 0x40)],
    [⟨0, 2, .ro, .now, 0⟩, ⟨2, 1, .ro, .now, 0⟩, ⟨8, 1, .w1c, .now, 0⟩, ⟨9, 1, .w1c, .now, 0⟩, ⟨10, 1, .w1c, .now, 0⟩]⟩,
  -- PLL_PHASE
  ⟨0x3F0020012C, [(63, 0x40)],
    [⟨0, 8, .ro, .now, 0⟩, ⟨8, 1, .ro, .now, 0⟩, ⟨16, 16, .ro, .now, 0⟩]⟩,
  -- PLL_FREQ
  ⟨0x3F00200130, [(63, 0x40)],
    [⟨0, 22, .ro, .now, 0⟩]⟩]

/-- Registers of spec/03. -/
def regRows03 : List RegRow := [
  -- MID_CTRL
  ⟨0x3F00D00000, [],
    [⟨0, 1, .rw, .now, 1⟩, ⟨8, 8, .rw, .now, 0x64⟩]⟩,
  -- MID_BUS
  ⟨0x3F00D00010, [(4, 4)],
    [⟨0, 1, .rw, .packet, 1⟩, ⟨1, 1, .rw, .packet, 0⟩, ⟨2, 1, .rw, .packet, 0⟩, ⟨3, 1, .rw, .packet, 0⟩, ⟨8, 8, .rw, .packet, 0xFF⟩, ⟨16, 1, .w1c, .now, 0⟩, ⟨17, 1, .w1c, .now, 0⟩]⟩,
  -- MID_MGMT
  ⟨0x3F00D00020, [],
    [⟨0, 7, .rw, .packet, 0x3C⟩]⟩,
  -- MID_SITE
  ⟨0x3F00D00100, [(32, 4)],
    [⟨0, 3, .ro, .now, 0⟩, ⟨4, 2, .ro, .now, 0⟩, ⟨6, 1, .ro, .now, 0⟩, ⟨7, 1, .ro, .now, 0⟩, ⟨8, 1, .w1c, .now, 0⟩, ⟨9, 1, .ro, .now, 0⟩, ⟨10, 1, .ro, .now, 1⟩, ⟨16, 8, .ro, .now, 0x80⟩, ⟨24, 1, .w1c, .now, 0⟩]⟩]

/-- Registers of spec/04. -/
def regRows04 : List RegRow := [
  -- BOOT_STATUS
  ⟨0x3F0080F000, [],
    [⟨0, 2, .ro, .now, 0⟩, ⟨2, 3, .ro, .now, 7⟩, ⟨5, 1, .ro, .now, 0⟩, ⟨6, 1, .ro, .now, 0⟩, ⟨7, 1, .ro, .now, 0⟩, ⟨8, 1, .ro, .now, 0⟩, ⟨9, 1, .ro, .now, 0⟩, ⟨16, 8, .ro, .now, 0⟩]⟩,
  -- BOOT_REASON
  ⟨0x3F0080F004, [],
    [⟨0, 8, .ro, .now, 0⟩, ⟨8, 8, .ro, .now, 0⟩, ⟨16, 8, .ro, .now, 0⟩, ⟨24, 4, .ro, .now, 0⟩, ⟨28, 4, .ro, .now, 0⟩]⟩,
  -- IMG_VERSION
  ⟨0x3F0080F008, [],
    [⟨0, 32, .ro, .now, 0⟩]⟩,
  -- KEY_STATUS
  ⟨0x3F0080F00C, [],
    [⟨0, 1, .ro, .now, 0⟩, ⟨1, 1, .ro, .now, 0⟩, ⟨2, 1, .ro, .now, 0⟩, ⟨3, 1, .ro, .now, 0⟩, ⟨4, 4, .ro, .now, 0⟩, ⟨8, 4, .ro, .now, 0⟩]⟩,
  -- HUDDLE_STATUS
  ⟨0x3F0080F010, [],
    [⟨0, 1, .ro, .now, 0⟩, ⟨1, 1, .ro, .now, 0⟩, ⟨2, 1, .ro, .now, 0⟩, ⟨3, 1, .ro, .now, 0⟩, ⟨16, 16, .ro, .now, 0⟩]⟩,
  -- HUDDLE_TURN0
  ⟨0x3F0080F014, [],
    [⟨0, 32, .ro, .now, 0⟩]⟩,
  -- HUDDLE_TURN1
  ⟨0x3F0080F018, [],
    [⟨0, 16, .ro, .now, 0⟩]⟩]

/-- Registers of spec/05. -/
def regRows05 : List RegRow := [
  -- MB_DOORBELL
  ⟨0x3F00C01F80, [(14, 0x2000)],
    [⟨0, 1, .wo, .now, 0⟩]⟩,
  -- MB_STATUS
  ⟨0x3F00C01F84, [(14, 0x2000)],
    [⟨0, 1, .ro, .now, 0⟩, ⟨1, 1, .ro, .now, 0⟩, ⟨8, 1, .w1c, .now, 0⟩, ⟨9, 1, .w1c, .now, 0⟩, ⟨10, 1, .w1c, .now, 0⟩, ⟨11, 1, .w1c, .now, 0⟩]⟩,
  -- MB_CTRL
  ⟨0x3F00C01F88, [(14, 0x2000)],
    [⟨0, 1, .rw, .now, 0⟩, ⟨1, 1, .rw, .now, 0⟩]⟩,
  -- MB_LAST
  ⟨0x3F00C01F8C, [(14, 0x2000)],
    [⟨0, 16, .ro, .now, 0⟩, ⟨16, 16, .ro, .now, 0⟩]⟩,
  -- NOTICE_PROD
  ⟨0x3F00C01F90, [(14, 0x2000)],
    [⟨0, 32, .ro, .now, 0⟩]⟩,
  -- NOTICE_CONS
  ⟨0x3F00C01F94, [(14, 0x2000)],
    [⟨0, 32, .rw, .now, 0⟩]⟩,
  -- NOTICE_DROP
  ⟨0x3F00C01F98, [(14, 0x2000)],
    [⟨0, 16, .ro, .now, 0⟩]⟩,
  -- NOTICE_MASK
  ⟨0x3F00C01F9C, [(14, 0x2000)],
    [⟨0, 9, .rw, .now, 0x1FF⟩]⟩,
  -- MB_EXPERT
  ⟨0x3F00C01FA0, [(14, 0x2000)],
    [⟨0, 10, .rw, .now, 0⟩, ⟨16, 1, .ro, .now, 0⟩, ⟨17, 1, .ro, .now, 0⟩, ⟨24, 5, .ro, .now, 0⟩]⟩,
  -- EXPERT_VIOL
  ⟨0x3F00C01FA4, [(14, 0x2000)],
    [⟨0, 16, .ro, .now, 0⟩, ⟨31, 1, .w1c, .now, 0⟩]⟩,
  -- CLAIM_OWNER
  ⟨0x3F00C30000, [],
    [⟨0, 4, .ro, .now, 0xF⟩, ⟨4, 4, .ro, .now, 0xF⟩, ⟨8, 4, .ro, .now, 0xF⟩, ⟨12, 4, .ro, .now, 0xF⟩, ⟨16, 4, .ro, .now, 0xF⟩, ⟨20, 4, .ro, .now, 0xF⟩, ⟨24, 4, .ro, .now, 0xF⟩]⟩]

/-- Registers of spec/06. -/
def regRows06 : List RegRow := [
  -- FP_CTRL
  ⟨0x3F00820000, [(80, 0x100)],
    [⟨0, 1, .rw, .stopped, 0⟩, ⟨1, 1, .rw, .stopped, 0⟩, ⟨8, 5, .rw, .stopped, 0⟩, ⟨16, 8, .rw, .now, 0xA⟩, ⟨24, 1, .wo, .now, 0⟩, ⟨25, 1, .wo, .now, 0⟩]⟩,
  -- FP_STATUS
  ⟨0x3F00820004, [(80, 0x100)],
    [⟨0, 3, .ro, .now, 0⟩, ⟨4, 3, .ro, .now, 0⟩, ⟨8, 7, .ro, .now, 0⟩, ⟨16, 1, .w1c, .now, 0⟩, ⟨17, 1, .w1c, .now, 0⟩, ⟨18, 1, .w1c, .now, 0⟩, ⟨19, 1, .w1c, .now, 0⟩, ⟨20, 1, .w1c, .now, 0⟩]⟩,
  -- DR_UE_LOG
  ⟨0x3F00820040, [(80, 0x100)],
    [⟨0, 15, .ro, .now, 0⟩, ⟨16, 4, .ro, .now, 0⟩, ⟨23, 1, .ro, .now, 0⟩, ⟨24, 8, .ro, .now, 0⟩]⟩,
  -- TR_UE_LOG
  ⟨0x3F00820044, [(80, 0x100)],
    [⟨0, 9, .ro, .now, 0⟩, ⟨16, 6, .ro, .now, 0⟩, ⟨31, 1, .ro, .now, 0⟩]⟩,
  -- MEM_CTRL
  ⟨0x3F00820048, [(80, 0x100)],
    [⟨0, 1, .rw, .now, 1⟩, ⟨1, 1, .rw, .now, 1⟩, ⟨16, 8, .ro, .now, 0⟩, ⟨24, 8, .ro, .now, 0⟩]⟩,
  -- BEAT_CTRL
  ⟨0x3F0082004C, [(80, 0x100)],
    [⟨0, 1, .rw, .now, 0⟩, ⟨8, 5, .rw, .stopped, 0⟩, ⟨16, 1, .ro, .now, 0⟩]⟩,
  -- POWER
  ⟨0x3F00820050, [(80, 0x100)],
    [⟨0, 1, .ro, .now, 1⟩]⟩,
  -- FAB_USER_LINE
  ⟨0x3F00828000, [(64, 4)],
    [⟨0, 7, .rw, .turn, 0x7F⟩, ⟨8, 3, .rw, .turn, 0⟩]⟩,
  -- FAB_USER_COMMIT
  ⟨0x3F00828100, [],
    [⟨0, 1, .wo, .now, 0⟩, ⟨8, 1, .ro, .now, 0⟩, ⟨9, 1, .ro, .now, 0⟩]⟩]

/-- Registers of spec/07. -/
def regRows07 : List RegRow := [
  -- CFG_CTRL
  ⟨0x3F00800000, [],
    [⟨0, 12, .rw, .now, 0x40⟩, ⟨16, 1, .rw, .now, 0⟩]⟩,
  -- CFG_STATUS
  ⟨0x3F00800004, [],
    [⟨0, 1, .ro, .now, 0⟩, ⟨1, 7, .ro, .now, 0⟩, ⟨8, 3, .ro, .now, 0⟩, ⟨16, 1, .w1c, .now, 0⟩, ⟨17, 1, .w1c, .now, 0⟩, ⟨18, 1, .w1c, .now, 0⟩, ⟨19, 1, .w1c, .now, 0⟩]⟩,
  -- ICP_CTRL
  ⟨0x3F00800010, [],
    [⟨0, 1, .rw, .packet, 0⟩, ⟨8, 7, .rw, .packet, 0x7F⟩, ⟨16, 5, .rw, .packet, 0⟩]⟩,
  -- ICP_STATUS
  ⟨0x3F00800014, [],
    [⟨0, 1, .ro, .now, 0⟩, ⟨4, 4, .ro, .now, 0⟩, ⟨16, 1, .w1c, .now, 0⟩, ⟨17, 1, .w1c, .now, 0⟩]⟩,
  -- RGN_STATUS
  ⟨0x3F00810000, [(80, 0x20)],
    [⟨0, 1, .ro, .now, 0⟩, ⟨2, 2, .ro, .now, 0⟩, ⟨4, 3, .ro, .now, 0⟩, ⟨8, 3, .ro, .now, 0⟩, ⟨12, 1, .ro, .now, 0⟩, ⟨13, 1, .ro, .now, 0⟩, ⟨14, 1, .ro, .now, 0⟩, ⟨16, 6, .ro, .now, 0x3F⟩, ⟨24, 6, .ro, .now, 0x3F⟩, ⟨30, 1, .ro, .now, 0⟩, ⟨31, 1, .ro, .now, 0⟩]⟩,
  -- RGN_CFG
  ⟨0x3F00810004, [(80, 0x20)],
    [⟨0, 2, .rw, .now, 0⟩]⟩,
  -- RGN_SWAPS
  ⟨0x3F00810008, [(80, 0x20)],
    [⟨0, 16, .ro, .now, 0⟩, ⟨16, 8, .ro, .now, 0⟩]⟩,
  -- SCRUB_CTRL
  ⟨0x3F00840000, [],
    [⟨0, 1, .rw, .now, 1⟩, ⟨1, 1, .rw, .now, 1⟩, ⟨2, 1, .rw, .now, 1⟩, ⟨3, 1, .rw, .now, 1⟩]⟩,
  -- SCRUB_STATUS
  ⟨0x3F00840004, [],
    [⟨0, 12, .ro, .now, 0⟩, ⟨16, 8, .ro, .now, 0⟩, ⟨28, 1, .w1c, .now, 0⟩, ⟨29, 1, .ro, .now, 0⟩]⟩,
  -- SCRUB_PASSES
  ⟨0x3F00840008, [],
    [⟨0, 16, .ro, .now, 0⟩, ⟨16, 16, .ro, .now, 0⟩]⟩,
  -- SCRUB_UE_LOG
  ⟨0x3F0084000C, [],
    [⟨0, 12, .ro, .now, 0⟩, ⟨12, 7, .ro, .now, 0⟩, ⟨19, 1, .ro, .now, 0⟩, ⟨20, 2, .ro, .now, 0⟩, ⟨31, 1, .w1c, .now, 0⟩]⟩]

/-- Registers of spec/08. -/
def regRows08a : List RegRow := [
  -- NOC_CTRL
  ⟨0x3F00500000, [],
    [⟨0, 1, .rw, .packet, 1⟩, ⟨1, 1, .rw, .now, 1⟩, ⟨16, 16, .rw, .now, 0x3E8⟩]⟩,
  -- NOC_STATUS
  ⟨0x3F00500004, [],
    [⟨0, 1, .ro, .now, 0⟩, ⟨16, 1, .w1c, .now, 0⟩, ⟨17, 1, .w1c, .now, 0⟩, ⟨18, 1, .w1c, .now, 0⟩, ⟨19, 1, .w1c, .now, 0⟩, ⟨20, 1, .w1c, .now, 0⟩]⟩,
  -- LINK_FAIL_LOG
  ⟨0x3F00500008, [],
    [⟨0, 6, .ro, .now, 0⟩, ⟨8, 3, .ro, .now, 0⟩, ⟨31, 1, .w1c, .now, 0⟩]⟩,
  -- NOC_CNT_IDX
  ⟨0x3F00500010, [],
    [⟨0, 4, .rw, .now, 0⟩]⟩,
  -- NOC_QOS
  ⟨0x3F00500100, [(128, 4)],
    [⟨0, 4, .rw, .packet, 4⟩]⟩,
  -- TRES_CFG0
  ⟨0x3F00500400, [(32, 0x10)],
    [⟨0, 7, .rw, .stopped, 0⟩, ⟨8, 7, .rw, .stopped, 0⟩, ⟨16, 4, .rw, .stopped, 1⟩, ⟨24, 8, .rw, .stopped, 1⟩]⟩,
  -- TRES_CFG1
  ⟨0x3F00500404, [(32, 0x10)],
    [⟨0, 16, .rw, .stopped, 1⟩, ⟨16, 1, .rw, .stopped, 0⟩, ⟨31, 1, .rw, .now, 0⟩]⟩,
  -- TRES_STATUS
  ⟨0x3F00500408, [(32, 0x10)],
    [⟨0, 1, .ro, .now, 0⟩, ⟨8, 8, .ro, .now, 0⟩, ⟨16, 16, .ro, .now, 0⟩]⟩,
  -- PROBE_CFG
  ⟨0x3F00580000, [(32, 0x20)],
    [⟨0, 1, .rw, .now, 0⟩, ⟨1, 1, .rw, .now, 0⟩, ⟨2, 2, .rw, .now, 0⟩, ⟨4, 1, .rw, .now, 0⟩, ⟨5, 1, .rw, .now, 0⟩, ⟨6, 1, .ro, .now, 0⟩, ⟨8, 6, .rw, .now, 0⟩, ⟨16, 3, .rw, .now, 0⟩, ⟨20, 4, .rw, .now, 0xF⟩, ⟨24, 8, .rw, .now, 0xFF⟩]⟩,
  -- PROBE_NODE
  ⟨0x3F00580004, [(32, 0x20)],
    [⟨0, 7, .rw, .now, 0⟩, ⟨7, 1, .rw, .now, 0⟩, ⟨8, 7, .rw, .now, 0⟩, ⟨15, 1, .rw, .now, 0⟩, ⟨16, 7, .rw, .now, 0⟩, ⟨24, 7, .rw, .now, 0⟩]⟩,
  -- PROBE_ADDR_LO
  ⟨0x3F00580008, [(32, 0x20)],
    [⟨0, 32, .rw, .now, 0⟩]⟩,
  -- PROBE_ADDR_HI
  ⟨0x3F0058000C, [(32, 0x20)],
    [⟨0, 32, .rw, .now, 0xFFFFFFFF⟩]⟩,
  -- PTRACE_CTRL
  ⟨0x3F00580800, [],
    [⟨0, 1, .rw, .now, 1⟩, ⟨1, 1, .wo, .now, 0⟩]⟩,
  -- PTRACE_STATUS
  ⟨0x3F00580804, [],
    [⟨0, 11, .ro, .now, 0⟩, ⟨16, 1, .ro, .now, 0⟩, ⟨17, 1, .w1c, .now, 0⟩]⟩,
  -- PASS_CTRL
  ⟨0x3F005C0000, [(16, 0x40)],
    [⟨0, 1, .rw, .now, 0⟩, ⟨1, 1, .wo, .now, 0⟩, ⟨2, 1, .rw, .now, 0⟩, ⟨3, 1, .rw, .now, 0⟩, ⟨8, 4, .rw, .stopped, 4⟩]⟩,
  -- PASS_RING_LO
  ⟨0x3F005C0004, [(16, 0x40)],
    [⟨5, 27, .rw, .stopped, 0⟩]⟩]

/-- Registers of spec/08. -/
def regRows08b : List RegRow := [
  -- PASS_RING_HI
  ⟨0x3F005C0008, [(16, 0x40)],
    [⟨0, 8, .rw, .stopped, 0⟩]⟩,
  -- PASS_IDX
  ⟨0x3F005C000C, [(16, 0x40)],
    [⟨0, 12, .rw, .now, 0⟩, ⟨16, 12, .ro, .now, 0⟩]⟩,
  -- PASS_STATUS
  ⟨0x3F005C0010, [(16, 0x40)],
    [⟨0, 2, .ro, .now, 0⟩, ⟨2, 2, .ro, .now, 0⟩, ⟨8, 6, .ro, .now, 0⟩, ⟨16, 12, .ro, .now, 0⟩, ⟨28, 1, .w1c, .now, 0⟩, ⟨29, 1, .w1c, .now, 0⟩]⟩]

/-- Registers of spec/08. -/
def regRows08 : List RegRow := regRows08a ++ regRows08b

/-- Registers of spec/09. -/
def regRows09a : List RegRow := [
  -- DQ_STATUS
  ⟨0x3F00400000, [],
    [⟨0, 1, .w1c, .now, 0⟩, ⟨1, 1, .w1c, .now, 0⟩, ⟨2, 1, .w1c, .now, 0⟩, ⟨16, 16, .ro, .now, 0⟩]⟩,
  -- DQ_FREE
  ⟨0x3F00400004, [],
    [⟨0, 18, .ro, .now, 0x20000⟩]⟩,
  -- DQ_SPILL_DATA_LO
  ⟨0x3F00400010, [],
    [⟨12, 20, .rw, .stopped, 0⟩]⟩,
  -- DQ_SPILL_DATA_HI
  ⟨0x3F00400014, [],
    [⟨0, 8, .rw, .stopped, 0⟩]⟩,
  -- DQ_SPILL_META_LO
  ⟨0x3F00400018, [],
    [⟨12, 20, .rw, .stopped, 0⟩]⟩,
  -- DQ_SPILL_META_HI
  ⟨0x3F0040001C, [],
    [⟨0, 8, .rw, .stopped, 0⟩]⟩,
  -- DQ_SPILL_USED
  ⟨0x3F00400024, [],
    [⟨0, 20, .ro, .now, 0⟩]⟩,
  -- DQ_SPILL_CTRL
  ⟨0x3F00400020, [],
    [⟨0, 20, .rw, .stopped, 0⟩]⟩,
  -- DQ_CNT_SEL
  ⟨0x3F00400030, [],
    [⟨0, 12, .rw, .now, 0⟩, ⟨16, 3, .rw, .now, 0⟩, ⟨31, 1, .wo, .now, 0⟩]⟩,
  -- DQ_GRP_PEND
  ⟨0x3F00400040, [(2, 4)],
    [⟨0, 32, .ro, .now, 0⟩]⟩,
  -- DQ_FIF
  ⟨0x3F00400100, [(80, 4)],
    [⟨0, 1, .rw, .now, 0⟩, ⟨8, 5, .rw, .stopped, 0⟩]⟩,
  -- QCFG
  ⟨0x3F00410000, [(4096, 0x40)],
    [⟨0, 1, .rw, .now, 0⟩, ⟨1, 1, .rw, .stopped, 0⟩, ⟨2, 1, .rw, .stopped, 0⟩, ⟨3, 1, .rw, .stopped, 0⟩, ⟨4, 1, .rw, .stopped, 0⟩, ⟨6, 2, .rw, .packet, 0⟩, ⟨8, 2, .rw, .stopped, 0⟩, ⟨16, 7, .rw, .stopped, 0⟩, ⟨24, 3, .rw, .packet, 0⟩, ⟨28, 4, .rw, .packet, 1⟩]⟩,
  -- QDEPTH
  ⟨0x3F00410004, [(4096, 0x40)],
    [⟨0, 16, .rw, .now, 0x40⟩, ⟨16, 16, .rw, .stopped, 0⟩]⟩,
  -- QWM
  ⟨0x3F00410008, [(4096, 0x40)],
    [⟨0, 16, .rw, .now, 0⟩, ⟨16, 16, .rw, .now, 0⟩]⟩,
  -- QAGE
  ⟨0x3F0041000C, [(4096, 0x40)],
    [⟨0, 16, .rw, .now, 0⟩]⟩,
  -- QSTATE
  ⟨0x3F00410010, [(4096, 0x40)],
    [⟨0, 16, .ro, .now, 0⟩, ⟨16, 16, .ro, .now, 0⟩]⟩]

/-- Registers of spec/09. -/
def regRows09b : List RegRow := [
  -- QFLAGS
  ⟨0x3F00410014, [(4096, 0x40)],
    [⟨0, 1, .ro, .now, 1⟩, ⟨1, 1, .ro, .now, 0⟩, ⟨2, 1, .ro, .now, 0⟩, ⟨3, 1, .ro, .now, 0⟩, ⟨4, 1, .ro, .now, 0⟩, ⟨5, 1, .ro, .now, 0⟩, ⟨16, 16, .ro, .now, 0⟩]⟩,
  -- QCMD
  ⟨0x3F00410020, [(4096, 0x40)],
    [⟨0, 1, .wo, .now, 0⟩, ⟨1, 1, .wo, .now, 0⟩]⟩,
  -- QEVT
  ⟨0x3F00410018, [(4096, 0x40)],
    [⟨0, 1, .w1c, .now, 0⟩, ⟨1, 1, .w1c, .now, 0⟩, ⟨2, 1, .w1c, .now, 0⟩, ⟨3, 1, .w1c, .now, 0⟩, ⟨4, 1, .w1c, .now, 0⟩, ⟨5, 1, .w1c, .now, 0⟩, ⟨6, 1, .w1c, .now, 0⟩, ⟨7, 1, .w1c, .now, 0⟩, ⟨8, 1, .w1c, .now, 0⟩]⟩,
  -- QEVT_EN
  ⟨0x3F0041001C, [(4096, 0x40)],
    [⟨0, 1, .rw, .now, 0⟩, ⟨1, 1, .rw, .now, 0⟩, ⟨2, 1, .rw, .now, 0⟩, ⟨3, 1, .rw, .now, 0⟩, ⟨4, 1, .rw, .now, 0⟩, ⟨5, 1, .rw, .now, 0⟩, ⟨6, 1, .rw, .now, 0⟩, ⟨7, 1, .ro, .now, 1⟩, ⟨8, 1, .ro, .now, 1⟩]⟩]

/-- Registers of spec/09. -/
def regRows09 : List RegRow := regRows09a ++ regRows09b

/-- Registers of spec/10. -/
def regRows10a : List RegRow := [
  -- QUAD_CTRL
  ⟨0x3F00700000, [(32, 0x8000)],
    [⟨0, 1, .rw, .stopped, 0⟩, ⟨1, 1, .rw, .stopped, 0⟩, ⟨8, 5, .rw, .stopped, 0⟩, ⟨16, 8, .rw, .stopped, 0x64⟩, ⟨24, 2, .rw, .stopped, 0⟩]⟩,
  -- QUAD_REF
  ⟨0x3F00700004, [(32, 0x8000)],
    [⟨0, 19, .rw, .stopped, 0x1E848⟩]⟩,
  -- QUAD_STATUS
  ⟨0x3F00700008, [(32, 0x8000)],
    [⟨0, 2, .ro, .now, 0⟩, ⟨16, 1, .w1c, .now, 0⟩]⟩,
  -- LANE_CTRL
  ⟨0x3F00700100, [(32, 0x8000), (4, 0x100)],
    [⟨0, 1, .rw, .now, 0⟩, ⟨1, 1, .rw, .now, 0⟩, ⟨2, 2, .rw, .stopped, 1⟩, ⟨4, 3, .rw, .stopped, 0⟩, ⟨8, 5, .rw, .stopped, 0⟩, ⟨16, 1, .rw, .now, 0⟩, ⟨17, 1, .rw, .now, 0⟩, ⟨18, 1, .rw, .now, 0⟩, ⟨19, 1, .rw, .stopped, 1⟩, ⟨20, 2, .rw, .now, 0⟩, ⟨22, 3, .rw, .now, 0⟩]⟩,
  -- LANE_TXEQ
  ⟨0x3F00700104, [(32, 0x8000), (4, 0x100)],
    [⟨0, 4, .rw, .now, 0xC⟩, ⟨4, 4, .rw, .now, 0⟩, ⟨8, 5, .rw, .now, 6⟩]⟩,
  -- LANE_RXEQ
  ⟨0x3F00700108, [(32, 0x8000), (4, 0x100)],
    [⟨0, 4, .rw, .now, 8⟩, ⟨4, 1, .rw, .now, 1⟩, ⟨5, 2, .rw, .now, 1⟩, ⟨8, 4, .rw, .now, 0xC⟩]⟩,
  -- LANE_STATUS
  ⟨0x3F00700120, [(32, 0x8000), (4, 0x100)],
    [⟨0, 2, .ro, .now, 0⟩, ⟨2, 1, .ro, .now, 0⟩, ⟨3, 1, .ro, .now, 0⟩, ⟨16, 1, .w1c, .now, 0⟩, ⟨17, 1, .w1c, .now, 0⟩, ⟨18, 1, .w1c, .now, 0⟩, ⟨19, 1, .w1c, .now, 0⟩, ⟨20, 1, .w1c, .now, 0⟩, ⟨21, 1, .w1c, .now, 0⟩, ⟨24, 6, .rw, .now, 0x3F⟩]⟩,
  -- LANE_LAT
  ⟨0x3F00700124, [(32, 0x8000), (4, 0x100)],
    [⟨0, 16, .ro, .now, 0⟩, ⟨16, 16, .ro, .now, 0⟩]⟩,
  -- LANE_LATREF
  ⟨0x3F00700128, [(32, 0x8000), (4, 0x100)],
    [⟨0, 16, .ro, .now, 0⟩, ⟨31, 1, .wo, .now, 0⟩]⟩,
  -- LANE_PHASE
  ⟨0x3F0070012C, [(32, 0x8000), (4, 0x100)],
    [⟨0, 13, .ro, .now, 0⟩, ⟨16, 8, .ro, .now, 0⟩, ⟨24, 2, .ro, .now, 0⟩, ⟨26, 1, .ro, .now, 0⟩]⟩,
  -- LANE_SLIP
  ⟨0x3F00700130, [(32, 0x8000), (4, 0x100)],
    [⟨0, 1, .wo, .now, 0⟩, ⟨16, 7, .ro, .now, 0⟩]⟩,
  -- LANE_ES_CTRL
  ⟨0x3F00700150, [(32, 0x8000), (4, 0x100)],
    [⟨0, 7, .rw, .now, 0⟩, ⟨8, 8, .rw, .now, 0⟩, ⟨16, 6, .rw, .now, 0x10⟩, ⟨31, 1, .wo, .now, 0⟩]⟩,
  -- LANE_ES_RESULT
  ⟨0x3F00700154, [(32, 0x8000), (4, 0x100)],
    [⟨0, 16, .ro, .now, 0⟩, ⟨31, 1, .ro, .now, 0⟩]⟩,
  -- LANE_DFE0
  ⟨0x3F0070010C, [(32, 0x8000), (4, 0x100)],
    [⟨0, 7, .rw, .now, 0⟩, ⟨8, 7, .rw, .now, 0⟩, ⟨16, 7, .rw, .now, 0⟩, ⟨24, 7, .rw, .now, 0⟩]⟩,
  -- LANE_DFE1
  ⟨0x3F00700110, [(32, 0x8000), (4, 0x100)],
    [⟨0, 7, .rw, .now, 0⟩, ⟨8, 7, .rw, .now, 0⟩, ⟨16, 7, .rw, .now, 0⟩, ⟨24, 7, .rw, .now, 0⟩]⟩,
  -- LANE_DFE2
  ⟨0x3F00700114, [(32, 0x8000), (4, 0x100)],
    [⟨0, 7, .rw, .now, 0⟩, ⟨8, 7, .rw, .now, 0⟩, ⟨16, 7, .rw, .now, 0⟩, ⟨24, 7, .rw, .now, 0⟩]⟩]

/-- Registers of spec/10. -/
def regRows10b : List RegRow := [
  -- LANE_CNT_IDX
  ⟨0x3F00700140, [(32, 0x8000), (4, 0x100)],
    [⟨0, 3, .rw, .now, 0⟩]⟩,
  -- RP_CTRL
  ⟨0x3F00704000, [(32, 0x8000), (4, 0x100)],
    [⟨0, 1, .rw, .now, 0⟩, ⟨1, 1, .rw, .stopped, 0⟩, ⟨2, 2, .rw, .stopped, 0⟩, ⟨4, 1, .rw, .stopped, 0⟩, ⟨5, 1, .rw, .stopped, 0⟩, ⟨6, 1, .rw, .now, 0⟩, ⟨7, 1, .rw, .stopped, 1⟩, ⟨8, 1, .rw, .now, 0⟩, ⟨9, 1, .ro, .now, 0⟩, ⟨16, 16, .rw, .now, 0xA⟩]⟩,
  -- RP_CFG
  ⟨0x3F00704004, [(32, 0x8000), (4, 0x100)],
    [⟨0, 12, .rw, .stopped, 0⟩, ⟨16, 8, .rw, .now, 0x28⟩, ⟨24, 4, .rw, .now, 8⟩]⟩,
  -- RP_STATUS
  ⟨0x3F00704008, [(32, 0x8000), (4, 0x100)],
    [⟨0, 3, .ro, .now, 0⟩, ⟨3, 1, .ro, .now, 0⟩, ⟨4, 4, .ro, .now, 0⟩, ⟨8, 9, .ro, .now, 0⟩, ⟨24, 1, .w1c, .now, 0⟩, ⟨25, 1, .w1c, .now, 0⟩, ⟨26, 1, .w1c, .now, 0⟩, ⟨27, 1, .w1c, .now, 0⟩, ⟨28, 1, .w1c, .now, 0⟩]⟩,
  -- RP_LAT
  ⟨0x3F0070400C, [(32, 0x8000), (4, 0x100)],
    [⟨0, 16, .ro, .now, 0⟩, ⟨16, 8, .ro, .now, 0⟩]⟩,
  -- RP_SEQ
  ⟨0x3F00704010, [(32, 0x8000), (4, 0x100)],
    [⟨0, 16, .ro, .now, 0⟩, ⟨16, 16, .ro, .now, 0⟩]⟩,
  -- RP_CNT_IDX
  ⟨0x3F00704020, [(32, 0x8000), (4, 0x100)],
    [⟨0, 4, .rw, .now, 0⟩]⟩]

/-- Registers of spec/10. -/
def regRows10 : List RegRow := regRows10a ++ regRows10b

/-- Registers of spec/11. -/
def regRows11 : List RegRow := [
  -- DRC_CFG
  ⟨0x3F00600000, [(4, 0x40000)],
    [⟨0, 1, .rw, .stopped, 0⟩, ⟨1, 2, .rw, .stopped, 1⟩, ⟨3, 2, .rw, .stopped, 1⟩, ⟨5, 2, .rw, .stopped, 0⟩, ⟨8, 4, .rw, .stopped, 8⟩, ⟨12, 2, .rw, .stopped, 1⟩, ⟨14, 1, .rw, .stopped, 0⟩, ⟨15, 1, .rw, .stopped, 0⟩]⟩,
  -- DRC_STATUS
  ⟨0x3F00600004, [(4, 0x40000)],
    [⟨0, 3, .ro, .now, 0⟩, ⟨3, 1, .ro, .now, 0⟩, ⟨4, 1, .ro, .now, 0⟩, ⟨8, 6, .ro, .now, 0⟩, ⟨16, 1, .w1c, .now, 0⟩, ⟨17, 1, .w1c, .now, 0⟩, ⟨18, 1, .w1c, .now, 0⟩, ⟨19, 1, .w1c, .now, 0⟩]⟩,
  -- DRC_PATROL
  ⟨0x3F00600008, [(4, 0x40000)],
    [⟨0, 1, .rw, .now, 1⟩, ⟨8, 8, .rw, .now, 0x18⟩, ⟨16, 16, .ro, .now, 0⟩]⟩,
  -- DRC_PATROL_T
  ⟨0x3F0060000C, [(4, 0x40000)],
    [⟨0, 12, .rw, .packet, 0x3E8⟩]⟩,
  -- DRC_TRAIN
  ⟨0x3F00600020, [(4, 0x40000)],
    [⟨0, 4, .ro, .now, 0⟩, ⟨4, 1, .ro, .now, 0⟩]⟩,
  -- DRC_DEV
  ⟨0x3F00600024, [(4, 0x40000)],
    [⟨0, 16, .rw, .now, 0x100⟩]⟩,
  -- DRC_SUSPECT
  ⟨0x3F00600028, [(4, 0x40000)],
    [⟨0, 20, .w1c, .now, 0⟩]⟩,
  -- DRC_CE_LOG0
  ⟨0x3F00600010, [(4, 0x40000)],
    [⟨0, 29, .ro, .now, 0⟩]⟩,
  -- DRC_CE_LOG1
  ⟨0x3F00600014, [(4, 0x40000)],
    [⟨0, 8, .ro, .now, 0⟩, ⟨8, 5, .ro, .now, 0⟩, ⟨13, 3, .ro, .now, 0⟩, ⟨16, 3, .ro, .now, 0⟩, ⟨19, 1, .ro, .now, 0⟩, ⟨31, 1, .w1c, .now, 0⟩]⟩,
  -- DRC_UE_LOG0
  ⟨0x3F00600018, [(4, 0x40000)],
    [⟨0, 29, .ro, .now, 0⟩]⟩,
  -- DRC_UE_LOG1
  ⟨0x3F0060001C, [(4, 0x40000)],
    [⟨0, 8, .ro, .now, 0⟩, ⟨8, 5, .ro, .now, 0⟩, ⟨13, 3, .ro, .now, 0⟩, ⟨16, 3, .ro, .now, 0⟩, ⟨19, 1, .ro, .now, 0⟩, ⟨31, 1, .w1c, .now, 0⟩]⟩,
  -- DRC_CNT_IDX
  ⟨0x3F00600030, [(4, 0x40000)],
    [⟨0, 4, .rw, .now, 0⟩]⟩,
  -- DRC_DEV_CE
  ⟨0x3F00600040, [(4, 0x40000), (20, 4)],
    [⟨0, 16, .ro, .now, 0⟩]⟩,
  -- DRC_QOS
  ⟨0x3F00600400, [(4, 0x40000), (128, 4)],
    [⟨0, 12, .rw, .packet, 0⟩]⟩,
  -- DRC_QOS_DEFAULT
  ⟨0x3F00600600, [(4, 0x40000)],
    [⟨0, 12, .rw, .packet, 0x3E8⟩]⟩]

/-- Registers of spec/12. -/
def regRows12 : List RegRow := [
  -- FL_UNLOCK
  ⟨0x3F00900000, [],
    [⟨0, 16, .wo, .now, 0⟩]⟩,
  -- FL_CTRL
  ⟨0x3F00900004, [],
    [⟨0, 1, .rw, .now, 0⟩, ⟨1, 1, .rw, .now, 0⟩]⟩,
  -- FL_CMD
  ⟨0x3F00900008, [],
    [⟨0, 8, .wo, .now, 0⟩]⟩,
  -- FL_ADDR
  ⟨0x3F0090000C, [],
    [⟨0, 28, .rw, .now, 0⟩]⟩,
  -- FL_XIP
  ⟨0x3F00900014, [],
    [⟨0, 8, .w1c, .now, 0⟩]⟩,
  -- FL_STATUS
  ⟨0x3F00900010, [],
    [⟨0, 1, .ro, .now, 0⟩, ⟨1, 1, .ro, .now, 0⟩, ⟨2, 1, .ro, .now, 0⟩, ⟨3, 1, .ro, .now, 0⟩, ⟨4, 1, .ro, .now, 0⟩, ⟨8, 4, .ro, .now, 0⟩, ⟨16, 1, .w1c, .now, 0⟩, ⟨17, 1, .w1c, .now, 0⟩, ⟨18, 1, .ro, .now, 0⟩, ⟨19, 1, .w1c, .now, 0⟩, ⟨20, 1, .w1c, .now, 0⟩]⟩,
  -- FL_GUARD
  ⟨0x3F00900018, [],
    [⟨0, 2, .ro, .now, 0⟩, ⟨2, 1, .ro, .now, 0⟩, ⟨3, 1, .ro, .now, 0⟩]⟩,
  -- FL_UE_LOG
  ⟨0x3F0090001C, [],
    [⟨3, 25, .ro, .now, 0⟩, ⟨28, 1, .ro, .now, 0⟩, ⟨31, 1, .w1c, .now, 0⟩]⟩,
  -- FL_CNT_IDX
  ⟨0x3F00900030, [],
    [⟨0, 3, .rw, .now, 0⟩]⟩,
  -- FL_BUF
  ⟨0x3F00900100, [(64, 4)],
    [⟨0, 32, .rw, .now, 0⟩]⟩]

/-- Registers of spec/13. -/
def regRows13 : List RegRow := [
  -- WH_PRIO
  ⟨0x3F00300000, [(512, 4)],
    [⟨0, 5, .rw, .now, 0⟩]⟩,
  -- WH_PEND
  ⟨0x3F00301000, [(16, 4)],
    [⟨0, 32, .ro, .now, 0⟩]⟩,
  -- WH_PEND_SET
  ⟨0x3F00301080, [(16, 4)],
    [⟨0, 32, .setAlias, .now, 0⟩]⟩,
  -- WH_PEND_CLR
  ⟨0x3F00301100, [(16, 4)],
    [⟨0, 32, .clrAlias, .now, 0⟩]⟩,
  -- WH_LATCH
  ⟨0x3F00301200, [(16, 4)],
    [⟨0, 32, .w1c, .now, 0⟩]⟩,
  -- WH_INSERVICE
  ⟨0x3F00301280, [(16, 4)],
    [⟨0, 32, .ro, .now, 0⟩]⟩,
  -- WH_EN
  ⟨0x3F00302000, [(6, 0x200), (16, 4)],
    [⟨0, 32, .ro, .now, 0⟩]⟩,
  -- WH_EN_SET
  ⟨0x3F00302040, [(6, 0x200), (16, 4)],
    [⟨0, 32, .setAlias, .now, 0⟩]⟩,
  -- WH_EN_CLR
  ⟨0x3F00302080, [(6, 0x200), (16, 4)],
    [⟨0, 32, .clrAlias, .now, 0⟩]⟩,
  -- WH_THRESH
  ⟨0x3F00302100, [(6, 0x200)],
    [⟨0, 5, .rw, .now, 0⟩]⟩,
  -- WH_CLAIM
  ⟨0x3F00302104, [(6, 0x200)],
    [⟨0, 9, .rc, .now, 0⟩, ⟨16, 5, .rc, .now, 0⟩]⟩,
  -- WH_COMPLETE
  ⟨0x3F00302108, [(6, 0x200)],
    [⟨0, 9, .wo, .now, 0⟩]⟩,
  -- WH_TSTATUS
  ⟨0x3F0030210C, [(6, 0x200)],
    [⟨0, 5, .ro, .now, 0⟩, ⟨8, 5, .ro, .now, 0⟩, ⟨16, 9, .ro, .now, 0⟩, ⟨25, 1, .ro, .now, 0⟩, ⟨28, 1, .w1c, .now, 0⟩, ⟨29, 1, .w1c, .now, 0⟩, ⟨30, 1, .w1c, .now, 0⟩, ⟨31, 1, .wo, .now, 0⟩]⟩,
  -- WH_STACK
  ⟨0x3F00302140, [(6, 0x200), (16, 4)],
    [⟨0, 9, .ro, .now, 0⟩, ⟨16, 5, .ro, .now, 0⟩, ⟨31, 1, .ro, .now, 0⟩]⟩,
  -- WH_CTRL
  ⟨0x3F00303000, [],
    [⟨0, 1, .rw, .now, 0⟩, ⟨16, 1, .w1c, .now, 0⟩, ⟨17, 1, .w1c, .now, 0⟩]⟩]

/-- Registers of spec/14. -/
def regRows14a : List RegRow := [
  -- PM_CTRL
  ⟨0x3F00E00000, [(4, 0x100)],
    [⟨0, 1, .rw, .now, 0⟩, ⟨1, 1, .rw, .stopped, 0⟩, ⟨2, 1, .rw, .now, 1⟩, ⟨3, 1, .rw, .now, 1⟩, ⟨4, 1, .rw, .now, 0⟩]⟩,
  -- PM_STATUS
  ⟨0x3F00E00004, [(4, 0x100)],
    [⟨0, 3, .ro, .now, 0⟩, ⟨3, 1, .ro, .now, 0⟩, ⟨16, 1, .w1c, .now, 0⟩, ⟨17, 1, .w1c, .now, 0⟩, ⟨18, 1, .w1c, .now, 0⟩, ⟨19, 1, .w1c, .now, 0⟩]⟩,
  -- PM_WDOG
  ⟨0x3F00E00010, [(4, 0x100)],
    [⟨0, 1, .rw, .now, 0⟩, ⟨1, 1, .rw, .now, 0⟩, ⟨16, 16, .rw, .now, 0x3E8⟩]⟩,
  -- PM_BOOT_LO
  ⟨0x3F00E00008, [(4, 0x100)],
    [⟨2, 30, .rw, .stopped, 0x3FFC0000⟩]⟩,
  -- PM_BOOT_HI
  ⟨0x3F00E0000C, [(4, 0x100)],
    [⟨0, 8, .rw, .stopped, 0xFF⟩]⟩,
  -- PM_CNT_IDX
  ⟨0x3F00E00020, [(4, 0x100)],
    [⟨0, 2, .rw, .now, 0⟩]⟩,
  -- DBG_GLOBAL
  ⟨0x3F00B80000, [],
    [⟨0, 1, .ro, .now, 0⟩, ⟨4, 4, .ro, .now, 0⟩, ⟨16, 1, .w1c, .now, 0⟩]⟩,
  -- DBG_CTRL
  ⟨0x3F00B81000, [(4, 0x400)],
    [⟨0, 1, .wo, .now, 0⟩, ⟨1, 1, .wo, .now, 0⟩, ⟨2, 1, .wo, .now, 0⟩, ⟨3, 1, .rw, .now, 1⟩]⟩,
  -- DBG_STATUS
  ⟨0x3F00B81004, [(4, 0x400)],
    [⟨0, 1, .ro, .now, 0⟩, ⟨1, 3, .ro, .now, 0⟩, ⟨4, 4, .ro, .now, 0⟩, ⟨16, 1, .w1c, .now, 0⟩]⟩,
  -- DBG_REGSEL
  ⟨0x3F00B81008, [(4, 0x400)],
    [⟨0, 6, .rw, .now, 0⟩, ⟨8, 1, .wo, .now, 0⟩, ⟨9, 1, .wo, .now, 0⟩]⟩,
  -- DBG_REGDATA_LO
  ⟨0x3F00B8100C, [(4, 0x400)],
    [⟨0, 32, .rw, .now, 0⟩]⟩,
  -- DBG_REGDATA_HI
  ⟨0x3F00B81010, [(4, 0x400)],
    [⟨0, 32, .rw, .now, 0⟩]⟩,
  -- DBG_MADDR_LO
  ⟨0x3F00B81014, [(4, 0x400)],
    [⟨0, 32, .rw, .now, 0⟩]⟩,
  -- DBG_MADDR_HI
  ⟨0x3F00B81018, [(4, 0x400)],
    [⟨0, 8, .rw, .now, 0⟩]⟩,
  -- DBG_MDATA
  ⟨0x3F00B8101C, [(4, 0x400)],
    [⟨0, 32, .rw, .now, 0⟩]⟩,
  -- DBG_MCMD
  ⟨0x3F00B81020, [(4, 0x400)],
    [⟨0, 1, .wo, .now, 0⟩, ⟨1, 1, .wo, .now, 0⟩, ⟨8, 1, .ro, .now, 1⟩, ⟨9, 3, .ro, .now, 0⟩]⟩]

/-- Registers of spec/14. -/
def regRows14b : List RegRow := [
  -- BP_ADDR_LO
  ⟨0x3F00B81040, [(4, 0x400), (8, 0x10)],
    [⟨2, 30, .rw, .stopped, 0⟩]⟩,
  -- BP_ADDR_HI
  ⟨0x3F00B81044, [(4, 0x400), (8, 0x10)],
    [⟨0, 8, .rw, .stopped, 0⟩]⟩,
  -- BP_CTX
  ⟨0x3F00B81048, [(4, 0x400), (8, 0x10)],
    [⟨0, 32, .rw, .stopped, 0⟩]⟩,
  -- BP_CTRL
  ⟨0x3F00B8104C, [(4, 0x400), (8, 0x10)],
    [⟨0, 1, .rw, .now, 0⟩, ⟨1, 1, .rw, .stopped, 0⟩, ⟨2, 1, .rw, .stopped, 0⟩, ⟨3, 3, .rw, .stopped, 0⟩]⟩,
  -- WP_ADDR_LO
  ⟨0x3F00B810C0, [(4, 0x400), (4, 0x20)],
    [⟨0, 32, .rw, .stopped, 0⟩]⟩,
  -- WP_ADDR_HI
  ⟨0x3F00B810C4, [(4, 0x400), (4, 0x20)],
    [⟨0, 8, .rw, .stopped, 0⟩]⟩,
  -- WP_DATA_LO
  ⟨0x3F00B810C8, [(4, 0x400), (4, 0x20)],
    [⟨0, 32, .rw, .stopped, 0⟩]⟩,
  -- WP_DATA_HI
  ⟨0x3F00B810CC, [(4, 0x400), (4, 0x20)],
    [⟨0, 32, .rw, .stopped, 0⟩]⟩,
  -- WP_MASK_LO
  ⟨0x3F00B810D0, [(4, 0x400), (4, 0x20)],
    [⟨0, 32, .rw, .stopped, 0⟩]⟩,
  -- WP_MASK_HI
  ⟨0x3F00B810D4, [(4, 0x400), (4, 0x20)],
    [⟨0, 32, .rw, .stopped, 0⟩]⟩,
  -- WP_CTX
  ⟨0x3F00B810D8, [(4, 0x400), (4, 0x20)],
    [⟨0, 32, .rw, .stopped, 0⟩]⟩,
  -- WP_CTRL
  ⟨0x3F00B810DC, [(4, 0x400), (4, 0x20)],
    [⟨0, 1, .rw, .now, 0⟩, ⟨1, 2, .rw, .stopped, 3⟩, ⟨3, 2, .rw, .stopped, 0⟩, ⟨5, 1, .rw, .stopped, 0⟩, ⟨6, 1, .rw, .stopped, 0⟩, ⟨7, 3, .rw, .stopped, 0⟩]⟩,
  -- SEQ_CTRL
  ⟨0x3F00B81140, [(4, 0x400)],
    [⟨0, 1, .rw, .now, 0⟩, ⟨1, 1, .rw, .stopped, 0⟩, ⟨2, 3, .rw, .stopped, 0⟩, ⟨8, 8, .rw, .stopped, 0⟩, ⟨16, 2, .ro, .now, 0⟩, ⟨24, 8, .ro, .now, 0⟩]⟩,
  -- SEQ_SEL0
  ⟨0x3F00B81144, [(4, 0x400)],
    [⟨0, 12, .rw, .stopped, 0⟩, ⟨16, 12, .rw, .stopped, 0⟩]⟩,
  -- SEQ_SEL1
  ⟨0x3F00B81148, [(4, 0x400)],
    [⟨0, 12, .rw, .stopped, 0⟩]⟩,
  -- TR_CTRL
  ⟨0x3F00B81180, [(4, 0x400)],
    [⟨0, 1, .rw, .now, 0⟩, ⟨1, 1, .rw, .now, 1⟩, ⟨2, 1, .rw, .now, 1⟩, ⟨3, 1, .wo, .now, 0⟩]⟩]

/-- Registers of spec/14. -/
def regRows14c : List RegRow := [
  -- TR_STATUS
  ⟨0x3F00B81184, [(4, 0x400)],
    [⟨0, 16, .ro, .now, 0⟩, ⟨16, 1, .ro, .now, 0⟩, ⟨17, 1, .w1c, .now, 0⟩, ⟨18, 1, .w1c, .now, 0⟩, ⟨19, 1, .ro, .now, 0⟩]⟩]

/-- Registers of spec/14. -/
def regRows14 : List RegRow := regRows14a ++ regRows14b ++ regRows14c

/-- Registers of spec/15. -/
def regRows15 : List RegRow := [
  -- SB_CTRL
  ⟨0x3F00A00000, [],
    [⟨0, 8, .rw, .now, 0xA⟩]⟩,
  -- SB_STATUS
  ⟨0x3F00A00004, [],
    [⟨0, 16, .ro, .now, 0⟩, ⟨16, 1, .w1c, .now, 0⟩, ⟨17, 1, .w1c, .now, 0⟩, ⟨18, 1, .w1c, .now, 0⟩, ⟨19, 1, .w1c, .now, 0⟩]⟩,
  -- SB_WATCH
  ⟨0x3F00A00018, [],
    [⟨0, 16, .rw, .now, 0⟩, ⟨16, 16, .rw, .now, 0⟩]⟩,
  -- SB_OPSEC
  ⟨0x3F00A00008, [],
    [⟨0, 32, .ro, .now, 0⟩]⟩,
  -- SB_PCYCLE
  ⟨0x3F00A0000C, [],
    [⟨0, 32, .ro, .now, 0⟩]⟩,
  -- SB_HEAD
  ⟨0x3F00A00010, [],
    [⟨0, 32, .ro, .now, 0⟩]⟩,
  -- SB_OLDEST
  ⟨0x3F00A00014, [],
    [⟨0, 32, .ro, .now, 0⟩]⟩]

/-- Registers of spec/16. -/
def regRows16 : List RegRow := [
  -- LJ_STATUS
  ⟨0x3F00F00000, [],
    [⟨0, 1, .ro, .now, 0⟩, ⟨1, 1, .ro, .now, 0⟩, ⟨2, 1, .ro, .now, 1⟩, ⟨3, 1, .ro, .now, 0⟩, ⟨4, 1, .ro, .now, 0⟩, ⟨5, 1, .ro, .now, 0⟩, ⟨16, 1, .w1c, .now, 0⟩]⟩,
  -- LJ_COND
  ⟨0x3F00F00004, [],
    [⟨0, 16, .ro, .now, 0⟩]⟩,
  -- LJ_ALARM_ACT
  ⟨0x3F00F00008, [],
    [⟨0, 22, .ro, .now, 0⟩]⟩,
  -- LJ_ALARM_LATCH
  ⟨0x3F00F0000C, [],
    [⟨0, 22, .w1c, .now, 0⟩]⟩,
  -- LJ_POLICY0
  ⟨0x3F00F00010, [],
    [⟨0, 2, .rw, .now, 0⟩, ⟨2, 2, .rw, .now, 1⟩, ⟨4, 2, .rw, .now, 1⟩, ⟨6, 2, .rw, .now, 0⟩, ⟨8, 2, .rw, .now, 0⟩, ⟨10, 2, .rw, .now, 1⟩, ⟨12, 2, .rw, .now, 1⟩, ⟨14, 2, .rw, .now, 2⟩, ⟨16, 2, .rw, .now, 1⟩, ⟨18, 2, .rw, .now, 0⟩, ⟨20, 2, .rw, .now, 0⟩, ⟨22, 2, .rw, .now, 1⟩, ⟨24, 2, .rw, .now, 1⟩, ⟨26, 2, .rw, .now, 0⟩, ⟨28, 2, .rw, .now, 0⟩, ⟨30, 2, .rw, .now, 1⟩]⟩,
  -- LJ_POLICY1
  ⟨0x3F00F00014, [],
    [⟨0, 2, .rw, .now, 2⟩, ⟨2, 2, .rw, .now, 1⟩, ⟨4, 2, .rw, .now, 0⟩, ⟨6, 2, .rw, .now, 1⟩, ⟨8, 2, .rw, .now, 1⟩, ⟨10, 2, .rw, .now, 2⟩]⟩,
  -- LJ_TLIM
  ⟨0x3F00F00018, [],
    [⟨0, 8, .rw, .now, 0x5F⟩, ⟨8, 8, .rw, .now, 0x64⟩, ⟨16, 8, .rw, .now, 0x6E⟩]⟩,
  -- LJ_REFEREE
  ⟨0x3F00F0001C, [],
    [⟨0, 16, .ro, .now, 0⟩, ⟨16, 2, .ro, .now, 0⟩]⟩,
  -- LJ_COMPANION
  ⟨0x3F00F00020, [(4, 4)],
    [⟨0, 10, .rw, .stopped, 0⟩, ⟨15, 1, .rw, .now, 0⟩]⟩,
  -- LJ_TEMP
  ⟨0x3F00F00040, [(16, 4)],
    [⟨0, 12, .ro, .now, 0⟩, ⟨16, 12, .ro, .now, 0x800⟩]⟩,
  -- LJ_RAIL
  ⟨0x3F00F000A0, [(24, 4)],
    [⟨0, 16, .ro, .now, 0⟩, ⟨16, 16, .ro, .now, 0xFFFF⟩]⟩]

/-- The whole register map. -/
def regRows : List RegRow :=
  regRows01 ++ regRows02 ++ regRows03 ++ regRows04 ++ regRows05 ++ regRows06 ++ regRows07 ++ regRows08 ++ regRows09 ++ regRows10 ++ regRows11 ++ regRows12 ++ regRows13 ++ regRows14 ++ regRows15 ++ regRows16

end Sys2Proof.Machine
end

