-- ==== Sys2Proof/Machine/RegAccess.lean ====
section
/-! DEFINITION. A register of the map by its address: whether it exists, its fields, its word as its fields hold it (R3). -/

namespace Sys2Proof.Machine

/-- An offset from a register's base is that of one of its indices. -/
def dimsMatch : List (Nat × Nat) → Nat → Bool
  | [], d => decide (d = 0)
  | (n, st) :: l, d => dimsMatch l (d - min (n - 1) (d / st) * st)

/-- A row of the map holds an address. -/
def rowHas (a : Nat) (r : RegRow) : Bool := decide (r.base ≤ a) && dimsMatch r.dims (a - r.base)

/-- The row of the map that holds an address. -/
def regFind (a : Nat) : Option RegRow := regRows.find? (rowHas a)

/-- The fields of the register at an address. -/
def regFields (a : Nat) : List FSpec := match regFind a with | some r => r.fields | none => []

/-- The field of a register at an address. -/
def fldAt (a : Nat) (f : FSpec) : Fld := ⟨a, f.lo, f.w, f.rst⟩

/-- The word that a register's fields hold; write-only fields read 0 (R3), reserved bits read 0 (R4). -/
def regWord (a : Nat) (s : State) : Nat :=
  (regFields a).foldl (fun n f =>
    if f.ty = .wo ∨ f.ty = .setAlias ∨ f.ty = .clrAlias then n else n + getF (fldAt a f) s * 2 ^ f.lo) 0

/-- The bits of a register's read-write fields. -/
def regMask (a : Nat) : Nat := (regFields a).foldl (fun n f => if f.ty = .rw then n + (2 ^ f.w - 1) * 2 ^ f.lo else n) 0

/-- Put a word into a register's read-write fields. -/
def regPoke (a v : Nat) (s : State) : State :=
  forEach (fun f s => if f.ty = .rw then setF (fldAt a f) (v / 2 ^ f.lo) s else s) (regFields a) s

end Sys2Proof.Machine
end

