-- ==== Sys2Proof/Machine/Pll.lean ====
section
/-! DEFINITION. The commands and events of XTAL_IN, PLLs and clock lines (spec/02). Group CLOCK is 0 (R154). -/

namespace Sys2Proof.Machine

/-! XTAL_IN (R47, R48). -/

/-- A window's edge count is good: within 3 % of the nominal 100,000, and no fewer than half. -/
def xtalGood (edges : Nat) : Bool := decide (97000 ≤ edges) && decide (edges ≤ 103000)

/-- XTAL_IN becomes faulty (R47). -/
def xtalFail (s : State) : State :=
  let s : State := { s with pll := { s.pll with xtalBad := true, badMs := 1, good := 0 } }
  let s := setF CLK_STATUS_SYS_ON_RCO 1 (setF CLK_STATUS_XTAL_FAULT 1 (setF CLK_STATUS_XTAL_OK 0 s))
  let s := alarm 0x03 0 true (sbEvent 0x0213 [] (whRaise 37 s))
  pllRelock 5 (pllRelock 4 s)

/-- XTAL_IN is good after 16 good windows in a row (R48): the SPLLs return to it, and the calendar resumes. -/
def xtalReturn (s : State) : State :=
  let bad := s.pll.xtalBad
  let ms := s.pll.badMs
  let s : State := { s with pll := { s.pll with xtalBad := false, badMs := 0 } }
  let s := pllRelock 5 (pllRelock 4 (setF CLK_STATUS_SYS_ON_RCO 0 (setF CLK_STATUS_XTAL_OK 1 s)))
  if bad then
    alarmGone 0x03 (sbEvent 0x0214 [(4, ms)] { s with gc := { s.gc with calDue := s.time.us + 1000000 } })
  else s

/-- XTAL_WINDOW_END (R47, R48). -/
def xtalWindow (edges : Nat) (s : State) : State :=
  if !xtalGood edges then
    (if s.pll.xtalBad then { s with pll := { s.pll with badMs := s.pll.badMs + 1, good := 0 } } else xtalFail s)
  else
    let s : State := { s with pll := { s.pll with
      good := min 16 (s.pll.good + 1), badMs := if s.pll.xtalBad then s.pll.badMs + 1 else 0 } }
    if s.pll.good = 16 ∧ isSet CLK_STATUS_XTAL_OK s = false then xtalReturn s else s

def execXtalWindowEnd (edges : BitVec 20) (s : State) : Host.Outcome State Fault Refusal := finG (xtalWindow edges.toNat s)

/-! Lock and loss of lock (R51, R65). -/

/-- PLL p declares lock with a phase error (R51, R52, R58, R60): a GPLL that is gated stays so until a window in its band. -/
def pllLock (p : Nat) (err : BitVec 8) (s : State) : State :=
  if !isSet (PLL_CTRL_EN p) s || decide (getF (PLL_STATUS_STATE p) s ≠ 1) then s
  else
    let s := pllLockedSet p true s
    if pllFam p = .general ∧ isSet (PLL_CTRL_LOL_ACTION p) s ∧ isSet (PLL_STATUS_FREQ_BAD p) s then s
    else
      let s := setF (PLL_STATUS_STATE p) 2 s
      match pllFam p with
      | .gameClock => if getF CLK_STATUS_GC_TPLL s = p then s else standbyFollow (phaseLock p err s)
      | .timing => phaseLock p err s
      | .system => alarmGone 0x06 s
      | .quad => quadLock (p - 31) s
      | _ => s

def execPllLock (p : Fin 63) (err : BitVec 8) (s : State) : Host.Outcome State Fault Refusal := fin (pllLock p.val err s)

/-- What the loss of lock does to what the PLL feeds (R65), after the PLL has begun to relock. -/
def pllFeeds (p : Nat) (s : State) : State :=
  match pllFam p with
  | .system => alarm 0x06 (p - 4) true s
  | .dram => if drUp (p - 26) s then drDown (p - 26) false s else s
  | .pcie => linkDown s
  | .quad => quadDrop (p - 31) s
  | _ => s

/-- PLL p loses lock (R65): LOL, event 0x0210 with the index, the family's source; then it relocks. Both members of the
Game Clock pair in one slot, or a loss with the loop open, is no member fault (R55 and its collisions). -/
def pllLose (p : Nat) (both : Bool) (s : State) : State :=
  let s := lolFollow (sbEvent 0x0210 [(2, p)] (setF (PLL_STATUS_LOL p) 1 s))
  let s := if pllSource p = 0 then s else whRaise (pllSource p) s
  if p < 2 then
    (if loopClosed s && !both then memberFault p s else setF (PLL_STATUS_STATE p) 3 (pllLockedSet p false s))
  else pllFeeds p (pllRelock p s)

/-- PLL_LOSS_OF_LOCK (R65): of a PLL that is locked. -/
def execPllLossOfLock (p : Fin 63) (both : Bool) (s : State) : Host.Outcome State Fault Refusal :=
  finG (if isSet (PLL_CTRL_EN p.val) s && decide (getF (PLL_STATUS_STATE p.val) s = 2) then pllLose p.val both s else s)

/-! Clock monitors (R64). -/

/-- The nominal frequency of a PLL's first enabled output, computed from its settings; none where no register holds it. -/
def pllNominal (p : Nat) (s : State) : Option Freq :=
  match pllFam p with
  | .general => ((natsFrom 0 6).find? (fun n => isSet (PLL_OUT_OEN p n) s)).bind (fun n => gpllFreq p n s)
  | .timing => ((natsFrom 0 4).find? (fun n => isSet (PLL_OUT_OEN p n) s)).map (fun n => timingFreq p n s)
  | .system => some (if p = 4 then 1200000 else 600000, 1)
  | .dram => some ((3200 + 400 * getF (DRC_CFG_RATE (p - 26)) s) * 500, 1)
  | _ => none

/-- The mean lies in the band of R64 around a nominal frequency. -/
def bandOk (mode depth mean : Nat) (f : Freq) : Bool :=
  let d := if mode = 0 then 0 else depth
  let lo := 10000 - d - 10
  let hi := if mode = 2 then 10000 + d + 10 else 10010
  decide (lo * f.1 ≤ mean * 10000 * f.2) && decide (mean * 10000 * f.2 ≤ hi * f.1)

/-- CLOCK_MONITOR_WINDOW (R64): the window's mean, and the nominal frequency where no register holds it, both in kHz. -/
def monitorWindow (p mean nominal : Nat) (s : State) : State :=
  if p < 2 || s.pll.xtalBad || !isSet (PLL_CTRL_EN p) s || !pllLocked p s then s
  else
    let f := (pllNominal p s).getD (nominal, 1)
    let s := setF (PLL_FREQ_FREQ_10KHZ p) (mean / 10) s
    if bandOk (getF (PLL_SSC_MODE p) s) (getF (PLL_SSC_DEPTH p) s) mean f then
      let s := setF (PLL_STATUS_FREQ_BAD p) 0 s
      if getF (PLL_STATUS_STATE p) s = 1 then setF (PLL_STATUS_STATE p) 2 s else s
    else pllLose p false (sbEvent 0x0215 [] (setF (PLL_STATUS_FREQ_BAD p) 1 s))

def execClockMonitorWindow (p : Fin 63) (mean nominal : BitVec 26) (s : State) : Host.Outcome State Fault Refusal :=
  finG (monitorWindow p.val mean.toNat nominal.toNat s)

/-! The pair's standby, re-phasing, RELOCK. -/

/-- STANDBY_RETURN (R56): the relocked faulty member has agreed for 16 ms. -/
def standbyReturn (s : State) : State :=
  match s.pll.faulty with
  | some m =>
    if getF (PLL_STATUS_STATE m) s = 2 ∧ getF CLK_STATUS_GC_TPLL s ≠ m then
      alarmGone 0x04 (setF CLK_STATUS_STANDBY_OK 1 { s with pll := { s.pll with faulty := none } })
    else s
  | none => s

def execStandbyReturn (s : State) : Host.Outcome State Fault Refusal := fin (standbyReturn s)

/-- RE_PHASE_COMPLETE (R58, R59): TPLL2 or TPLL3 has slewed to the new strobe. -/
def rePhaseDone (p : Nat) (err : BitVec 8) (s : State) : State :=
  if getF (PLL_STATUS_STATE p) s = 2 ∧ isSet (PLL_PHASE_PHASE_OK p) s = false then
    addF (PLL_PHASE_LOCK_COUNT p) 1 (setB (PLL_PHASE_PHASE_OK p) (phaseWithin err) (setF (PLL_PHASE_ERR_PS p) err.toNat s))
  else s

def execRePhaseComplete (second : Bool) (err : BitVec 8) (s : State) : Host.Outcome State Fault Refusal :=
  fin (rePhaseDone (if second then 3 else 2) err s)

/-- PLL_RELOCK (R51): RELOCK is written; what the PLL feeds loses its clock until it locks again. -/
def pllRelockWrite (p : Nat) (s : State) : State :=
  if !isSet (PLL_CTRL_EN p) s then s
  else
    let s := pllRelock p s
    match pllFam p with
    | .system => s
    | _ => pllFeeds p s

def execPllRelock (p : Fin 63) (s : State) : Host.Outcome State Fault Refusal := finG (pllRelockWrite p.val s)

/-! Clock lines (R66 to R68). -/

/-- A running quad takes global line g as its reference. -/
def quadTakes (g : Nat) (s : State) : Bool :=
  (natsFrom 0 32).any (fun q => isSet (QUAD_CTRL_EN q) s && isSet (QUAD_CTRL_REF_SEL q) s && decide (getF (QUAD_CTRL_GLINE q) s = g))

/-- A source of a global line is permitted (R66, collisions of R298). -/
def gclkTakes (g code : Nat) (s : State) : Bool := gclkOk code s && !(codeSpreads code s && quadTakes g s)

/-- A write of GCLK_SEL and of RCLK_SEL. -/
def gclkWrite (g code : Nat) (s : State) : State := if gclkTakes g code s then lineSelect 0 0 g code s else clkReject s
def rclkWrite (r l code : Nat) (s : State) : State := if rclkOk code then lineSelect 1 r l code s else clkReject s

def execGclkSelWrite (line : Fin 32) (code : BitVec 8) (s : State) : Host.Outcome State Fault Refusal :=
  fin (gclkWrite line.val code.toNat s)

def execRclkSelWrite (region : Fin 80) (line : Fin 24) (code : BitVec 6) (s : State) : Host.Outcome State Fault Refusal :=
  fin (rclkWrite region.val line.val code.toNat s)

/-- CLOCK_LINE_SWITCH_DONE (R68): a global line, or line l of a region. -/
def execClockLineSwitchDone (line : Fin 32 ⊕ (Fin 80 × Fin 24)) (s : State) : Host.Outcome State Fault Refusal :=
  fin (match line with
    | .inl g => lineSwitched 0 0 g.val s
    | .inr (r, l) => lineSwitched 1 r.val l.val s)

/-! CLOCK commands for local clocks. -/

/-- 0x0320 PLL_STATUS. -/
def sheetPllStatus : Sheet :=
  plainSheet 0x0320 (fun r _ => argsLen 1 (fun r => decide (arg r 0 1 ≤ 62)) r) [] (fun r s =>
    let p := arg r 0 1
    (replyOk (leBytes 1 (getF (PLL_STATUS_STATE p) s) ++ leBytes 1 (getF (PLL_STATUS_LOL p) s + 2 * getF (PLL_STATUS_FREQ_BAD p) s +
      4 * getF (PLL_PHASE_PHASE_OK p) s + 8 * getF (PLL_STATUS_PHASE_FAIL p) s) ++ leBytes 1 (getF (PLL_PHASE_ERR_PS p) s) ++
      leBytes 1 0 ++ leBytes 2 (getF (PLL_PHASE_LOCK_COUNT p) s) ++ leBytes 2 0 ++ leBytes 4 (getF (PLL_FREQ_FREQ_10KHZ p) s)), s))

def execPllStatusQuery (mb : Fin 14) (s : State) : Host.Outcome State Fault Refusal := fin (runSheet sheetPllStatus mb s)

/-- Output n of a PLL from a PLL_CONFIGURE record. -/
def pllOutRec (r : Req) (p n : Nat) (s : State) : State :=
  let b := 8 + 4 * n
  let s := setF (PLL_OUT_OEN p n) (arg r (b + 1) 1) (setF (PLL_OUT_DIV_M1 p n) (arg r b 1) s)
  setF (PLL_OUT_TDIV_M1 p n) (arg r (b + 3) 1) (setF (PLL_OUT_TMUL_M1 p n) (arg r (b + 2) 1) s)

/-- The settings of a PLL_CONFIGURE request in the PLL's registers. -/
def pllSettings (r : Req) (s : State) : State :=
  let p := arg r 0 1
  let s := setF (PLL_DIV_N_M1 p) (arg r 4 1) (setF (PLL_CTRL_PIN p) (arg r 3 1) (setF (PLL_CTRL_SRC p) (arg r 2 1) s))
  if pllFam p = .general then
    let s := setF (PLL_CTRL_LOL_ACTION p) (arg r 7 1) (setF (PLL_DIV_M_FRAC p) (arg r 6 1) (setF (PLL_DIV_M_INT p) (arg r 5 1) s))
    forEach (pllOutRec r p) (natsFrom 0 6) s
  else forEach (pllOutRec r p) (natsFrom 0 4) s

/-- The values of a PLL_CONFIGURE are permitted: fields that the family does not use are 0, and R50 and R57 hold. -/
def pllConfigOk (r : Req) (s : State) : Bool :=
  let p := arg r 0 1
  let recs (n : Nat) (ok : Nat → Bool) : Bool := (natsFrom 0 n).all (fun i => ok (8 + 4 * i))
  let z (o : Nat) : Bool := decide (arg r o 1 = 0)
  decide (arg r 1 1 ≤ 1) &&
    match pllFam p with
    | .general =>
      decide (arg r 2 1 ≤ 4) && decide (arg r 3 1 ≤ 39) && decide (arg r 4 1 ≤ 15) && decide (arg r 7 1 ≤ 1) &&
        recs 6 (fun o => decide (arg r o 1 ≤ 127) && decide (arg r (o + 1) 1 ≤ 1) && z (o + 2) && z (o + 3)) &&
        gpllOk p (pllSettings r s)
    | .timing =>
      (natsFrom 2 6).all z && recs 4 (fun o => z o && decide (arg r (o + 1) 1 ≤ 1) && decide (arg r (o + 2) 1 ≤ 63) &&
        decide (arg r (o + 3) 1 ≤ 63)) && (natsFrom 24 8).all z && timingOk p (pllSettings r s)
    | _ => false

/-- 0x0321 PLL_CONFIGURE: `lock` is the phase error where the PLL locks within its lock time. -/
def sheetPllConfigure (lock : Option (BitVec 8)) : Sheet :=
  { plainSheet 0x0321 (fun r s => argsLen 32 (fun r => pllConfigOk r s) r) [0] (fun r s =>
      let p := arg r 0 1
      let s := pllSettings r (pllStop p s)
      if arg r 1 1 = 0 then (replyOk (leBytes 1 0), s)
      else
        let s := pllStart p s
        match lock with
        | none => (replySt stTimeout, s)
        | some e =>
          let s := pllLock p e s
          (replyOk (leBytes 1 (getF (PLL_STATUS_STATE p) s)), s)) with
    state := fun _ s => if s.dev.state = .live ∨ s.dev.state = .quiesce then some stWrongState else none }

def execPllConfigure (mb : Fin 14) (lock : Option (BitVec 8)) (s : State) : Host.Outcome State Fault Refusal :=
  fin (runSheet (sheetPllConfigure lock) mb s)

/-- 0x0324 PLL_PHASE_SET. -/
def sheetPllPhaseSet : Sheet :=
  { plainSheet 0x0324 (fun r _ => argsLen 3 (fun r => (decide (arg r 0 1 = 2) || decide (arg r 0 1 = 3)) && decide (arg r 1 1 ≤ 3) &&
        decide (arg r 2 1 ≤ 63)) r) [0]
      (fun r s => (replyOk [], setF (PLL_OUT_PHASE_FINE (arg r 0 1) (arg r 1 1)) (arg r 2 1) s)) with
    state := fun r s => if isSet (PLL_CTRL_EN (arg r 0 1)) s then some stWrongState else none }

def execPllPhaseSet (mb : Fin 14) (s : State) : Host.Outcome State Fault Refusal := fin (runSheet sheetPllPhaseSet mb s)

/-- Spread settings are permitted (R61, R62): a GPLL that feeds the column's other one takes none. -/
def sscOk (p mode depth rate : Nat) (s : State) : Bool :=
  spreadOk p mode depth rate &&
    !(decide (pllFam p = .general) && decide (mode ≠ 0) && decide (depth ≠ 0) && decide (getF (PLL_CTRL_SRC (gpllOther p)) s = 4))

/-- 0x0322 PLL_SPREAD. -/
def sheetPllSpread : Sheet :=
  { plainSheet 0x0322 (fun r s => argsLen 6 (fun r => decide (arg r 0 1 ≤ 62) && decide (arg r 3 1 = 0) &&
        decide (300 ≤ arg r 4 2) && decide (arg r 4 2 ≤ 330) && sscOk (arg r 0 1) (arg r 1 1) (arg r 2 1) (arg r 4 2) s) r) [0]
      (fun r s =>
        let p := arg r 0 1
        (replyOk [], setF (PLL_SSC_RATE p) (arg r 4 2) (setF (PLL_SSC_DEPTH p) (arg r 2 1) (setF (PLL_SSC_MODE p) (arg r 1 1) s))))
    with
    state := fun r s => if isSet (PLL_CTRL_EN (arg r 0 1)) s then some stWrongState else none }

def execPllSpread (mb : Fin 14) (s : State) : Host.Outcome State Fault Refusal := fin (runSheet sheetPllSpread mb s)

/-- 0x0323 CLOCK_ROUTE. -/
def sheetClockRoute : Sheet :=
  plainSheet 0x0323 (fun r s => argsLen 4 (fun r =>
      if arg r 0 1 = 0 then decide (arg r 1 1 < 32) && decide (arg r 2 1 = 0) && gclkTakes (arg r 1 1) (arg r 3 1) s
      else decide (arg r 0 1 = 1) && decide (arg r 1 1 < 24) && decide (arg r 2 1 < 80) && rclkOk (arg r 3 1)) r) [0]
    (fun r s => (replyOk [], if arg r 0 1 = 0 then gclkWrite (arg r 1 1) (arg r 3 1) s
      else rclkWrite (arg r 2 1) (arg r 1 1) (arg r 3 1) s))

def execClockRoute (mb : Fin 14) (s : State) : Host.Outcome State Fault Refusal := fin (runSheet sheetClockRoute mb s)

/-! Register writes of a PLL (R8, R53). -/

/-- PLL_CTRL: EN, LOL_ACTION, BW, RELOCK, SRC, PIN. A quad's EN is QUAD_CTRL.EN. -/
def pllCtrlWrite (p w : Nat) (s : State) : State :=
  let on := isSet (PLL_CTRL_EN p) s
  let diff := decide (bitsOf w 2 2 ≠ getF (PLL_CTRL_BW p) s) || decide (bitsOf w 8 3 ≠ getF (PLL_CTRL_SRC p) s) ||
    decide (bitsOf w 12 6 ≠ getF (PLL_CTRL_PIN p) s)
  let bad := (bitOf w 1 && decide (pllFam p ≠ .general)) || decide (bitsOf w 2 2 = 3) || decide (4 < bitsOf w 8 3) ||
    decide (39 < bitsOf w 12 6) || (decide (pllFam p = .general) && decide (bitsOf w 8 3 = 4) &&
      (decide (getF (PLL_CTRL_SRC (gpllOther p)) s = 4) || (decide (getF (PLL_SSC_MODE (gpllOther p)) s ≠ 0) &&
        decide (getF (PLL_SSC_DEPTH (gpllOther p)) s ≠ 0))))
  if bad then pllReject p s
  else
    let s := if on && diff then pllReject p s else s
    let k := if on && diff then keepBits 0x3F70C (regWord (PLL_CTRL_EN p).addr s) w else w
    let s := setF (PLL_CTRL_PIN p) (bitsOf k 12 6) (setF (PLL_CTRL_SRC p) (bitsOf k 8 3) (setF (PLL_CTRL_BW p) (bitsOf k 2 2)
      (setF (PLL_CTRL_LOL_ACTION p) (bitsOf w 1 1) s)))
    let s := if pllFam p = .quad then
        (if bitOf w 0 = isSet (QUAD_CTRL_EN (p - 31)) s then s
         else if bitOf w 0 && !quadOk (p - 31) s then pllReject p s
         else if quadInUse (p - 31) s then pllReject p s
         else quadEnable (p - 31) (bitOf w 0) s)
      else pllEnWrite p (bitOf w 0) s
    if bitOf w 4 then pllRelockWrite p s else s

/-- PLL_DIV: writable for GPLLs, and for DRAM PLLs with M_FRAC = 0. -/
def pllDivWrite (p w : Nat) (s : State) : State :=
  let g := decide (pllFam p = .general)
  let d := decide (pllFam p = .dram)
  let frac := bitsOf w 16 8
  if !g && !d then s
  else
    let diff := decide (bitsOf w 0 4 ≠ getF (PLL_DIV_N_M1 p) s) || decide (bitsOf w 8 8 ≠ getF (PLL_DIV_M_INT p) s) ||
      decide (frac ≠ getF (PLL_DIV_M_FRAC p) s)
    if (isSet (PLL_CTRL_EN p) s && diff) || decide (bitsOf w 8 8 < 8) || (d && decide (frac ≠ 0)) then pllReject p s
    else setF (PLL_DIV_M_FRAC p) frac (setF (PLL_DIV_M_INT p) (bitsOf w 8 8) (setF (PLL_DIV_N_M1 p) (bitsOf w 0 4) s))

/-- PLL_SSC. -/
def pllSscWrite (p w : Nat) (s : State) : State :=
  let diff := decide (bitsOf w 0 2 ≠ getF (PLL_SSC_MODE p) s) || decide (bitsOf w 2 7 ≠ getF (PLL_SSC_DEPTH p) s) ||
    decide (bitsOf w 16 9 ≠ getF (PLL_SSC_RATE p) s)
  if (isSet (PLL_CTRL_EN p) s && diff) || !sscOk p (bitsOf w 0 2) (bitsOf w 2 7) (bitsOf w 16 9) s ||
      decide (bitsOf w 16 9 < 300) || decide (330 < bitsOf w 16 9) then pllReject p s
  else setF (PLL_SSC_RATE p) (bitsOf w 16 9) (setF (PLL_SSC_DEPTH p) (bitsOf w 2 7) (setF (PLL_SSC_MODE p) (bitsOf w 0 2) s))

/-- PLL_OUT n: GPLL outputs 0 to 5, TPLL2 and TPLL3 outputs 0 to 3; reserved elsewhere. -/
def pllOutWrite (p n w : Nat) (s : State) : State :=
  let g := decide (pllFam p = .general)
  let t := decide (pllFam p = .timing)
  if !(g || (t && decide (n < 4))) then s
  else
    let s' := setF (PLL_OUT_TDIV_M1 p n) (bitsOf w 24 6) (setF (PLL_OUT_TMUL_M1 p n) (bitsOf w 16 6) (setF (PLL_OUT_PHASE_FINE p n) (bitsOf w 8 6)
      (setF (PLL_OUT_OEN p n) (bitsOf w 7 1) (setF (PLL_OUT_DIV_M1 p n) (bitsOf w 0 7) s))))
    if isSet (PLL_CTRL_EN p) s ∧ s'.regs ≠ s.regs then pllReject p s else s'

end Sys2Proof.Machine
end

