-- ==== Sys2Proof/Machine/FlashOps.lean ====
section
/-! DEFINITION. What every user of the flash shares: guard levels (R366, R367, R369), reads (R354, R361), the marks of
Playmaker fetches (R362), operations and their interruption (R358, R363 to R365), the Scorebook's fresh ring (R425). -/

namespace Sys2Proof.Machine

/-- The timer of the 1 ms between the second key and FL_CMD (R356). -/
def tmUnlock : Nat := 15

/-- The four-byte check of a guard copy covers LEVEL, PENDING and SEQ (R367). -/
def guardCrc (level pend seq : Nat) : Nat := crc32c (leBytes 1 level ++ leBytes 1 pend ++ leBytes 4 seq)

/-- A guard copy is valid. -/
def guardOk (g : GuardCopy) : Bool := decide (g.crc = guardCrc g.level g.pending g.seq)

/-- The copy that stands: the valid one with the higher SEQ (R367). -/
def guardBest : List GuardCopy → Option GuardCopy
  | [] => none
  | g :: l =>
    match guardBest l with
    | none => if guardOk g then some g else none
    | some h => if guardOk g && decide (h.seq ≤ g.seq) then some g else some h

/-- The guard level in force (R366, R367). -/
def guardLevel (s : State) : Nat :=
  if s.flash.guard2 then 2
  else match guardBest s.flash.guard with
    | some g => min g.level 2
    | none => 1

/-- PENDING of the copy that stands. -/
def guardPending (s : State) : Bool :=
  match guardBest s.flash.guard with
  | some g => decide (g.pending = 1)
  | none => false

/-- The guard record changes (R367): the older copy is written with SEQ + 1; both copies where neither is valid. -/
def guardWrite (level pend : Nat) (s : State) : State :=
  let put (l : List GuardCopy) : State := { s with flash := { s.flash with guard := l } }
  match guardBest s.flash.guard with
  | none => put [⟨level, pend, 1, guardCrc level pend 1⟩, ⟨level, pend, 0, guardCrc level pend 0⟩]
  | some g =>
    let n := (g.seq + 1) % 2 ^ 32
    put [⟨level, pend, n, guardCrc level pend n⟩, g]

/-- The user area (R352). -/
def flUser (a n : Nat) : Bool := decide (0xFF40000 ≤ a) && decide (a + n ≤ 0x10000000)

/-- The row of R352 that holds an address. -/
def flArea (a : Nat) : Nat :=
  if a < 0x4000000 then 0 else if a < 0x8000000 then 1 else if a < 0xC000000 then 2 else if a < 0xC400000 then 3
  else if a < 0xC800000 then 4 else if a < 0xD000000 then 5 else if a < 0xD100000 then 6
  else if a < 0xFF40000 then 7 else 8

/-- A sector that a mass erase takes: every one but FW0, FW1 and the counter area (R368). -/
def flMassSector (b : Nat) : Bool := decide (b < 3072) || (decide (3200 ≤ b) && decide (b < 3328)) ||
  (decide (3344 ≤ b) && decide (b < 4096))

/-- A page holds no defined contents: an operation on it was interrupted (R363), or a mass erase is
unfinished (R368). -/
def flPageVague (p : Nat) (s : State) : Bool :=
  decide (tabGet 0 s.flash.page p = 2) || (guardPending s && flMassSector (p / 256))

/-- Free bytes, for what the spec leaves undefined. -/
def freeBytes : Nat → State → List (BitVec 8) × State
  | 0, s => ([], s)
  | n + 1, s =>
    let x := freeBytes n (useFree s)
    (BitVec.ofNat 8 (freeNat s) :: x.1, x.2)

/-- What a flash read returns: the bytes, and for an uncorrectable read the offsets `[lo, hi)` it covers. -/
structure FlRead where
  data : List (BitVec 8)
  bad : Option (Nat × Nat)
  deriving DecidableEq, Repr

/-- A word was corrected (R354). -/
def flCorrected (s : State) : State := oncePerSecond 0x0804 (sbEvent 0x0804 []) (incC (ctFL 0) s)

/-- A read was uncorrectable (R354). -/
def flUncorrected (a : Nat) (page : Bool) (s : State) : State :=
  let s := incC (ctFL 1) s
  let s := if isSet FL_UE_LOG_VALID s then s
    else setF FL_UE_LOG_VALID 1 (setB FL_UE_LOG_PAGE_CRC page (setF FL_UE_LOG_ADDR (a / 8) s))
  setF FL_STATUS_UE_EV 1 (sbEvent 0x0805 [] s)

/-- Read `n` bytes of the array (R354): a read that covers an entire page checks the CRC of that page. A page without defined contents reads as anything: a free value says which of
uncorrectable, corrected or good this read is, and its bytes are free values (R363). -/
def flRead (a n : Nat) (e : FlashErr) (s : State) : FlRead × State :=
  let p0 := a / 256
  let np := (a + n - 1) / 256 + 1 - p0
  let off := min e.off.toNat (n - 1)
  let w := (a + off) / 8 * 8
  let p := (a + off) / 256 * 256
  let whole := decide (a ≤ p) && decide (p + 256 ≤ a + n)
  if (natsFrom p0 np).any (fun p => flPageVague p s) then
    let k := freeNat s % 3
    let x := freeBytes n (useFree s)
    if k = 0 then (⟨x.1, some (0, n)⟩, flUncorrected a false x.2)
    else (⟨x.1, none⟩, if k = 1 then flCorrected x.2 else x.2)
  else
    let d := flBytes a n s
    if flPage s (a + off) = 0 then (⟨d, none⟩, s)
    else if e.kind.val = 1 then (⟨d, none⟩, flCorrected s)
    else if e.kind.val = 2 then (⟨d, some (w - a, min n (w + 8 - a))⟩, flUncorrected (a + off) false s)
    else if e.kind.val = 3 ∧ whole = true then
      (⟨d, some (p - a, p + 256 - a)⟩, flUncorrected p true s)
    else (⟨d, none⟩, s)

/-- The mark of FL_XIP that stands for a core's fetches from a bank blocks an operation on it (R362). -/
def flXipBlocks (b : Nat) (s : State) : Bool :=
  !isSet FL_CTRL_STALL_OK s && (natsFrom 0 4).any (fun n => bitOf (getF FL_XIP_MARK s) (2 * n + b))

/-- A SAME_BANK refusal is counted and noted (R362). -/
def flSameBank (s : State) : State := oncePerSecond 0x080B (sbEvent 0x080B []) (incC (ctFL 3) s)

/-- ERR of FL_STATUS. -/
def flErr (e : Nat) (s : State) : State := setF FL_STATUS_ERR e s

/-- An operation ends without failure. -/
def flDone (s : State) : State := setF FL_STATUS_DONE 1 (flErr 0 s)

/-- A sector has been erased, with the note of its wear (R360). -/
def flErased (a : Nat) (s : State) : State := sbWear a (flEraseSector a s)

/-- FL_BUF as a page. -/
def flBuf (s : State) : List (BitVec 8) := ((natsFrom 0 64).map (fun i => leBytes 4 (getF (FL_BUF_DATA i) s))).flatten

/-- Write a page into FL_BUF. -/
def flBufSet (d : List (BitVec 8)) (s : State) : State :=
  forEach (fun i s => setF (FL_BUF_DATA i) (fieldAt d (4 * i) 4) s) (natsFrom 0 64) s

/-- A read code of R357 runs: BLANK_CHECK, READ_PAGE, WEAR. An uncorrectable page leaves FL_BUF with free values. -/
def flReadOp (code a : Nat) (e : FlashErr) (s : State) : State :=
  if code = 3 then flDone (setB FL_STATUS_BLANK (flSectorBlank a s) s)
  else if code = 4 then
    let r := flRead a 256 e s
    match r.1.bad with
    | none => flDone (flBufSet r.1.data r.2)
    | some _ =>
      let x := freeBytes 256 r.2
      flDone (flBufSet x.1 x.2)
  else flDone (setF (FL_BUF_DATA 0) (tabGet 0 s.flash.erases (a / 65536)) s)

/-- No error on a read. -/
def flGood : FlashErr := ⟨0, 0⟩

/-- Start an operation, or make it wait for a Referee operation on its bank (R358). -/
def flBegin (o : FlashOp) (e : FlashErr) (s : State) : State :=
  if flBusy (flBank o.addr) s then { s with flash := { s.flash with waiting := s.flash.waiting ++ [o] } }
  else if 3 ≤ o.code then flReadOp o.code o.addr e s
  else flStart o s

/-- A bank is free: what waits for it starts, in order; read codes end at once (R358). At most `n` of them. -/
def flNext (b : Nat) : Nat → State → State
  | 0, s => s
  | n + 1, s =>
    if flBusy b s then s
    else
      match s.flash.waiting.find? (fun o => decide (flBank o.addr = b)) with
      | none => s
      | some o => flNext b n (flBegin o flGood { s with flash := { s.flash with waiting := s.flash.waiting.erase o } })

/-- The operation on a bank is taken off it. -/
def flTake (b : Nat) (s : State) : State := { s with flash := { s.flash with ops := tabDel s.flash.ops b } }

/-- A bank has become free: the Scorebook programs what is due first (R418, R422), then what waits starts. -/
def flFreed (b : Nat) (s : State) : State :=
  let s := if b = 1 then sbFlush false s else s
  let s := if b = 1 ∧ s.sb.commitDue = true ∧ sbReady s = true then sbCounter s else s
  flNext b (s.flash.waiting.length + 1) s

/-- An operation in progress is cut short (R363 to R365): its unit is undefined, and it is latched. -/
def flCut (o : FlashOp) (s : State) : State :=
  let s := if o.code = 1 then flSpoilPage o.addr s else flSpoilSector o.addr s
  { s with flash := { s.flash with latched := s.flash.latched ++ [(flBank o.addr, o.code, o.addr)] } }

/-- A reset interrupts both banks (R363, R365). Where VBATT was below 1.20 V during it, nothing is latched. -/
def flInterrupt (vbattLost : Bool) (s : State) : State :=
  let s := forEach (fun p => flCut p.2) s.flash.ops s
  { s with flash := { s.flash with
      ops := [], waiting := [], unlock := 0, unlockBy := 0, wrongKeys := 0, massStep := 0, suspended := []
      guardChanged := false, latched := if vbattLost then [] else s.flash.latched } }

/-- PGOOD_IN falls (R364): an erase is abandoned at once, a program in progress completes. -/
def flPowerFall (s : State) : State :=
  let one (p : Nat × FlashOp) (s : State) : State :=
    if p.2.code = 1 then flProgram p.2.addr p.2.data s else flCut p.2 s
  let s := forEach one s.flash.ops s
  { s with flash := { s.flash with ops := [], waiting := [] } }

/-- A read of a busy bank may suspend its operation: no more than once in each 500 µs (R361). -/
def flSuspendOk (b : Nat) (s : State) : Bool :=
  match tabFind s.flash.suspended b with
  | none => true
  | some t => decide (t + 500 ≤ s.time.us)

/-- A read suspends the operation of its bank, if one runs. -/
def flSuspend (b : Nat) (s : State) : State :=
  if flBusy b s then { s with flash := { s.flash with suspended := tabPut s.flash.suspended b s.time.us } } else s

/-- The owner of the operation on a bank: 0 the Referee's, and where none runs. -/
def flOwner (b : Nat) (s : State) : Nat :=
  match tabFind s.flash.ops b with
  | some o => if o.owner = 3 then 0 else o.owner
  | none => 0

/-- The guard level lets a node read an address through the flash window (R369). -/
def flWindowAllows (node a n : Nat) (s : State) : Bool :=
  decide (guardLevel s = 0) || decide (node = 85) || decide (node = 88) ||
    (decide (89 ≤ node) && decide (node ≤ 92) && flUser a n)

/-- A read of the flash window (R354, R361, R369): its status, its bytes, the beats sent as poisoned flits; none where it
waits for a suspension. -/
def flWindow (node a n : Nat) (e : FlashErr) (s : State) : Option ((Nat × List (BitVec 8) × List Nat) × State) :=
  let b := flBank a
  let inside := decide (node = 85) || decide (node = 88)
  if !flWindowAllows node a n s then some ((nsNoTarget, [], []), s)
  else if flBusy b s && decide (flOwner b s ≠ 0) && !inside then some ((nsTargetError, [], []), incC (ctFL 2) s)
  else if flBusy b s && !flSuspendOk b s then none
  else
    let r := flRead a n e (flSuspend b s)
    let bad := match r.1.bad with
      | none => []
      | some (lo, hi) => natsFrom (lo / 32) ((hi + 31) / 32 - lo / 32)
    some ((nsOk, r.1.data, bad), r.2)

/-- A fresh Scorebook ring (R416, R425): its first header is written, one sector ahead is erased, index 0 comes next. -/
def sbFresh (s : State) : State :=
  let s := flProgram (sbAddr 0 0) (sbHeader 0 0) s
  { s with sb := { s.sb with
      waiting := [], tallies := [], known := [], sector := 0, page := 1, sseq := 0, next := 0, oldest := 0
      firsts := [(0, 0)], torn := [], fails := 0, dropped := 0, live := true } }

/-- Every sector of a mass erase is erased (step 3 of R368): each count rises by 1. -/
def flMassErase (s : State) : State :=
  let sectors := (natsFrom 0 4096).filter flMassSector
  let mem := tabCut 0xD100000 0x10000000 (tabCut 0xC800000 0xD000000 (tabCut 0 0xC000000 s.flash.mem))
  let page := tabCut 0xD1000 0x100000 (tabCut 0xC8000 0xD0000 (tabCut 0 0xC0000 s.flash.page))
  let s : State := { s with flash := { s.flash with
      mem := mem, page := page
      erases := sectors.foldl (fun t b => tabUpd 0 t b (· + 1)) s.flash.erases } }
  whenS (sectors.any (fun b => decide (tabGet 0 s.flash.erases b = 100000))) (setF FL_STATUS_WEAR 1)
    (addC (ctFL 5) sectors.length s)

/-- Steps 2 and 3 of R368: the VBATT key is cleared, and both banks are busy with the erase. -/
def massResume (s : State) : State :=
  { s with
      boot := { s.boot with vbattKey := none }
      flash := { s.flash with
        massStep := 3
        ops := [(0, ⟨0, 2, 0, [], [], 0, 0⟩), (1, ⟨0, 2, 0x8000000, [], [], 0, 0⟩)] } }

/-- A mass erase begins (step 1 of R368): the record with PENDING, event 0x0807. -/
def massBegin (s : State) : State := massResume (sbEvent 0x0807 [] (guardWrite 1 1 s))

/-- A mass erase ends (steps 3 and 4 of R368): the sectors are erased, the record says level 0, and event 0x0808 is the
first record of the new Scorebook. -/
def massEnd (s : State) : State :=
  let s := flMassErase { s with flash := { s.flash with ops := [], massStep := 0 } }
  sbEvent 0x0808 [] (sbFresh (guardWrite 0 0 s))

/-- Events latched before this boot are written with LATE set (step 6 of R424): the reset cause (R83), then the flash operations
that were interrupted (R365). -/
def sbLatched (s : State) : State :=
  let late (code : Nat) (vs : List (Nat × Nat)) (s : State) : State :=
    let r := recNow code vs s
    sbBuffer { r with flags := r.flags + 2 } s
  let ops := s.flash.latched
  let s := late 0x0B01 [(2, s.boot.causes)] { s with flash := { s.flash with latched := [] } }
  sbFlush false (forEach (fun (x : Nat × Nat × Nat) s => late 0x0801 [(1, x.1), (1, x.2.1), (4, x.2.2)] s) ops s)

/-- FL_STATUS as it reads. -/
def flStatusWord (s : State) : Nat :=
  natOfBool (flBusy 0 s) + 2 * natOfBool (flBusy 1 s) + 4 * natOfBool (flOwnBusy s) +
    8 * natOfBool ((natsFrom 0 2).any (fun b => flBusy b s && decide (tabFind s.flash.suspended b = some s.time.us))) +
    16 * getF FL_STATUS_BLANK s + 2 ^ 8 * getF FL_STATUS_ERR s + 2 ^ 16 * getF FL_STATUS_DONE s +
    2 ^ 17 * getF FL_STATUS_KEY_ERR s + 2 ^ 18 * getF FL_STATUS_LOCKOUT s + 2 ^ 19 * getF FL_STATUS_WEAR s +
    2 ^ 20 * getF FL_STATUS_UE_EV s

/-- FL_UE_LOG as it reads. -/
def flUeWord (s : State) : Nat :=
  8 * getF FL_UE_LOG_ADDR s + 2 ^ 28 * getF FL_UE_LOG_PAGE_CRC s + 2 ^ 31 * getF FL_UE_LOG_VALID s

/-- FL_GUARD as it reads. -/
def flGuardWord (s : State) : Nat :=
  guardLevel s + 4 * natOfBool (guardPending s) + 8 * natOfBool s.flash.guard2

end Sys2Proof.Machine
end

