-- ==== Sys2Proof/Machine/WhistleCore.lean ====
section
/-! DEFINITION. The Whistle's registers as they read and as refused writes leave them (R374, R376, R383, R386). The levels,
claim and completion are in Machine/Sources.lean. -/

namespace Sys2Proof.Machine

/-- A write to the Whistle is refused (R8, R386): CFG_REJECT, event 0x0904; source 2 follows the bit. -/
def whReject (s : State) : State := sbEvent 0x0904 [] (setF WH_CTRL_CFG_REJECT 1 s)

/-- WH_TSTATUS of a target as it reads. -/
def whTStatusWord (t : Nat) (s : State) : Nat :=
  let l := whStack t s
  let top := match l with | [] => (0, 0) | e :: _ => e
  l.length + 2 ^ 8 * top.2 + 2 ^ 16 * top.1 + 2 ^ 25 * natOfBool (whReq t s) +
    2 ^ 28 * getF (WH_TSTATUS_STACK_FAULT t) s + 2 ^ 29 * getF (WH_TSTATUS_STACK_FULL t) s +
    2 ^ 30 * getF (WH_TSTATUS_PARITY t) s

/-- WH_STACK e of a target as it reads: entry 0 is the oldest. -/
def whStackWord (t e : Nat) (s : State) : Nat :=
  match (whStack t s).reverse[e]? with
  | none => 0
  | some x => x.1 + 2 ^ 16 * x.2 + 2 ^ 31

/-- A word of a bitmap over sources. -/
def whBits (p : Nat → Bool) (w : Nat) : Nat :=
  (natsFrom 0 32).foldl (fun n b => if p (32 * w + b) then n + 2 ^ b else n) 0

/-- A node may claim and complete for a target (R383). -/
def whNodeMay (t node : Nat) : Bool :=
  decide (node = 88) || (decide (1 ≤ t) && decide (t ≤ 4) && decide (node = 88 + t)) ||
    (decide (t = 5) && decide (node = 87))

/-- WH_PRIO of a source is written (R374): sources 0 and 511 ignore it. -/
def whSetPrio (id v : Nat) (s : State) : State := if id = 0 ∨ 511 ≤ id then s else setF (WH_PRIO_PRIO id) v s

/-- Enable bits of a word of a target are set and cleared; refused while the target is held (R374, R376). -/
def whSetEn (t w set clr : Nat) (s : State) : State :=
  if whHeld t s then whReject s
  else setF (WH_EN_EN t w) (bitsClear (getF (WH_EN_EN t w) s ||| set) clr) s

/-- The doorbell sources of word 15: 496 to 510 (R373). -/
def whDoorbells (w v : Nat) : Nat := if w = 15 then v &&& 0x7FFF0000 else 0

/-- Latches are set, and cleared, through the aliases (R373). -/
def whPendSet (w v : Nat) (s : State) : State :=
  setF (WH_LATCH_LATCH w) (getF (WH_LATCH_LATCH w) s ||| whDoorbells w v) s
def whPendClr (w v : Nat) (s : State) : State :=
  setF (WH_LATCH_LATCH w) (bitsClear (getF (WH_LATCH_LATCH w) s) (whDoorbells w v)) s

/-- The word a claim returns. -/
def whClaimWord (x : Nat × Nat) : Nat := x.1 + 2 ^ 16 * x.2

end Sys2Proof.Machine
end

