-- ==== Sys2Proof/Machine/PmCore.lean ====
section
/-! DEFINITION. The Playmakers' cores as every row reaches them: trace packets (R405 to R408), states, reset and start (R391
to R395), run control (R396 to R399), break and watch units (R400 to R404). -/

namespace Sys2Proof.Machine

/-- The counters behind PM_CNT_IDX: 0 RAM_CE, 1 RAM_UE, 2 WDOG_RESETS, 3 LS_FAULTS. -/
def ctPm (n i : Nat) : Nat := ctrKey (0x3F00E00020 + n * 0x100) i

/-- The watchdog timer of core n (R393). -/
def tmWdog (n : Nat) : Nat := 0x4000 + n

/-- PM_STATUS.STATE of core n (R391). -/
def pmState (n : Nat) (s : State) : Nat := getF (PM_STATUS_STATE n) s

/-- The cores that act together: n, and n + 1 where they are a pair (R394). -/
def pmGroup (n : Nat) (s : State) : List Nat := if n % 2 = 0 ∧ isSet (PM_STATUS_PAIRED n) s = true then [n, n + 1] else [n]

/-- The second core of a pair (R394). -/
def pmSecond (n : Nat) (s : State) : Bool := decide (n % 2 = 1) && isSet (PM_STATUS_PAIRED n) s

/-- The state of a core, or of the pair it leads. -/
def pmSetState (n st : Nat) (s : State) : State := forEach (fun k => setF (PM_STATUS_STATE k) st) (pmGroup n s) s

/-- PC of core n as run control knows it. -/
def corePc (n : Nat) (s : State) : Nat := tabGet 0 (coreOf n s).regs 32

/-! ### Trace -/

/-- A stamp of a trace packet: turn, slot, F and TQ. -/
structure TStamp where
  turn : Nat
  slot : Nat
  fineTq : Nat
  deriving DecidableEq, Repr

/-- Now. -/
def tNow (s : State) : TStamp := ⟨s.clk.turn, s.clk.slot, fineTq s⟩

/-- Trace is written: enabled, the gate open, not full (R408). -/
def traceOn (n : Nat) (s : State) : Bool := isSet (TR_CTRL_EN n) s && isSet (TR_STATUS_GATE n) s && !isSet (TR_STATUS_FULL n) s

/-- Write bytes into the trace RAM (R408). -/
def traceBytes (n : Nat) : List (BitVec 8) → State → State
  | [], s => s
  | b :: l, s =>
    if isSet (TR_STATUS_FULL n) s then s
    else
      let w := getF (TR_STATUS_WPTR n) s
      let s := setF (TR_STATUS_WPTR n) (w + 1) { s with pm := { s.pm with trace := tabSet 0 s.pm.trace (n * 65536 + w) b } }
      let s := if w = 65535 then
          (if isSet (TR_CTRL_WRAP n) s then setF (TR_STATUS_WRAPPED n) 1 s else setF (TR_STATUS_FULL n) 1 s)
        else s
      traceBytes n l s

/-- The RESYNC packet (R405). -/
def resyncPkt (n pc : Nat) (t : TStamp) (s : State) : List (BitVec 8) :=
  [1] ++ leBytes 5 pc ++ leBytes 4 (coreOf n s).ctxid ++ leBytes 6 t.turn ++ leBytes 2 t.slot ++ leBytes 1 t.fineTq

/-- What precedes a packet: OVERFLOW and RESYNC where they are owed; TIME in a new slot (R406, R408). -/
def traceLead (n pc : Nat) (t : TStamp) (s : State) : State :=
  let c := coreOf n s
  let s := match c.lost with
    | none => s
    | some k => traceBytes n ([9] ++ leBytes 2 k) s
  let s :=
    if c.resync || c.lost.isSome then traceBytes n (resyncPkt n pc t s) s
    else if c.tSlot = t.slot ∧ c.tTurn = t.turn then s
    else traceBytes n ([5] ++ leBytes 2 t.slot ++ leBytes 1 t.fineTq) s
  coreUpd n (fun c => { c with resync := false, lost := none, tSlot := t.slot, tTurn := t.turn }) s

/-- The ATOMs for `k` instructions (R405), at most `fuel` packets. -/
def atoms : Nat → Nat → List (BitVec 8)
  | 0, _ => []
  | f + 1, k => if k = 0 then [] else if 16 ≤ k then 0x1F :: atoms f (k - 16) else [BitVec.ofNat 8 (0x0F + k)]

/-- Write a packet, after the ATOMs of what has been retired since the last one (R406). -/
def tracePkt (n pc : Nat) (t : TStamp) (p : List (BitVec 8)) (s : State) : State :=
  if traceOn n s then
    let s := traceLead n pc t s
    let k := (coreOf n s).retired
    traceBytes n (atoms (k / 16 + 1) k ++ p) (coreUpd n (fun c => { c with retired := 0 }) s)
  else coreUpd n (fun c => { c with retired := 0 }) s

/-- Write the ATOMs alone. -/
def traceAtoms (n pc : Nat) (t : TStamp) (s : State) : State := if (coreOf n s).retired = 0 then s else tracePkt n pc t [] s

/-- RESYNC is written now (R407). -/
def traceResync (n pc : Nat) (s : State) : State :=
  if traceOn n s then traceLead n pc (tNow s) (coreUpd n (fun c => { c with resync := true }) s)
  else coreUpd n (fun c => { c with resync := true }) s

/-- What a program has done reaches the trace (R406). A full ATOM is written at once. -/
def traceItems (n pc : Nat) : List CoreItem → TStamp → State → TStamp × State
  | [], t, s => (t, s)
  | i :: l, t, s =>
    match i with
    | .retired k =>
      let s := coreUpd n (fun c => { c with retired := c.retired + k.toNat }) s
      traceItems n pc l t (if 16 ≤ (coreOf n s).retired then traceAtoms n pc t s else s)
    | .branch a => traceItems n pc l t (tracePkt n pc t ([2] ++ leBytes 5 a.toNat) s)
    | .exception c h => traceItems n pc l t (tracePkt n pc t ([3] ++ leBytes 1 c.toNat ++ leBytes 5 h.toNat) s)
    | .context v =>
      traceItems n pc l t (tracePkt n pc t ([4] ++ leBytes 4 v.toNat) (coreUpd n (fun c => { c with ctxid := v.toNat }) s))
    | .at_ a b c => traceItems n pc l ⟨a.toNat, b.toNat, c.toNat⟩ s

/-- A program ran up to now: its packets are written, and a first breakpoint after RESUME is past (R398). -/
def coreRan (n : Nat) (x : CoreIn) (s : State) : State :=
  let r := traceItems n x.pc.toNat x.items (tNow s) s
  if x.items = [] then r.2 else coreUpd n (fun c => { c with skipBp := false }) r.2

/-- Run control learns the registers of a core that halts (R397). -/
def coreKeep (n : Nat) (x : CoreIn) (s : State) : State :=
  let gr := (natsFrom 0 32).foldl (fun t i => tabSet 0 t i ((x.regs.getD i 0).toNat)) []
  coreUpd n (fun c => { c with regs := (tabSet 0 (tabSet 0 gr 32 x.pc.toNat) 33 x.status.toNat) }) s

/-- A core of which nothing is known: every register is a free value (log entry 4). -/
def coreFree (s : State) : CoreIn × State :=
  let f (i : Nat) : Nat := Config.freeValue (s.freeIdx + i)
  (⟨[], BitVec.ofNat 40 (f 32), (natsFrom 0 32).map (fun i => BitVec.ofNat 64 (f i)), BitVec.ofNat 64 (f 33)⟩,
    { s with freeIdx := s.freeIdx + 34 })

/-! ### Timers -/

/-- MTIME runs: not while the core is HALTED and TMR_FOH = 1 (R397). -/
def mtimeRuns (n : Nat) (s : State) : Bool := !(decide (pmState n s = 3) && isSet (PM_CTRL_TMR_FOH n) s)

/-- MTIME of core n: 100 counts in a microsecond (R389). -/
def mtimeNow (n : Nat) (s : State) : Nat :=
  let c := coreOf n s
  (if mtimeRuns n s then c.mtime + 100 * (s.time.us - c.mtimeUs) else c.mtime) % 2 ^ 64

/-- MTIME is brought up to date, before something that stops or starts it. -/
def mtimeSettle (n : Nat) (s : State) : State :=
  let m := mtimeNow n s
  coreUpd n (fun c => { c with mtime := m, mtimeUs := s.time.us }) s

/-- The watchdog counts (R393). -/
def wdogCounts (n : Nat) (s : State) : Bool :=
  isSet (PM_WDOG_EN n) s && (decide (pmState n s = 1) || decide (pmState n s = 2) ||
    (decide (pmState n s = 3) && !isSet (PM_CTRL_WDOG_FOH n) s))

/-- The watchdog's timer follows (R393): it starts from where it stopped. -/
def wdogFollow (n : Nat) (s : State) : State :=
  let c := coreOf n s
  let full := getF (PM_WDOG_TIMEOUT_MS n) s * 1000
  if wdogCounts n s then
    if timerOn (tmWdog n) s then s
    else
      let ran := c.stoppedFor.getD 0
      startTimer (tmWdog n) (full - ran)
        (coreUpd n (fun c => { c with kickUs := s.time.us - ran, stoppedFor := none }) s)
  else if timerOn (tmWdog n) s then
    stopTimer (tmWdog n) (coreUpd n (fun c => { c with stoppedFor := some (s.time.us - c.kickUs) }) s)
  else s

/-- The watchdog starts again from its full value. -/
def wdogKick (n : Nat) (s : State) : State :=
  wdogFollow n (stopTimer (tmWdog n) (coreUpd n (fun c => { c with stoppedFor := none }) s))

/-- A change that stops or starts a core's timers. -/
def coreMove (n : Nat) (f : State → State) (s : State) : State :=
  let s := mtimeSettle n s
  wdogFollow n (f s)

/-! ### States -/

/-- One core is reset (R391): its private registers, its marks and its Whistle stack with it (R362, R380), and its mailbox
(R153). The trace RAM stays (R407). -/
def coreReset (n : Nat) (s : State) : State :=
  let k := (coreOf n s).mcmd
  let s := stopTimer (tmWdog n)
    { s with pm := { s.pm with cores := tabSet coreInit s.pm.cores n { coreInit with mtimeUs := s.time.us, mcmd := k } } }
  let s := setF (PM_CTRL_RUN n) 0 (setF (PM_STATUS_STATE n) 0 s)
  let s := setF (DBG_STATUS_UNIT n) 0 (setF (DBG_STATUS_CAUSE n) 0 (setF (DBG_STATUS_HALTED n) 0 s))
  let s := setF FL_XIP_MARK (bitsClear (getF FL_XIP_MARK s) (3 * 4 ^ n)) s
  mailboxReset (9 + n) (whFlush (n + 1) s)

/-- No pair is in FAULT: the cause of alarm 0x0D is gone. -/
def lsFaultFollow (s : State) : State :=
  if pmState 0 s = 4 ∨ pmState 2 s = 4 then s else alarmGone 0x0D s

/-- A core, or the pair it leads, is reset. -/
def pmReset (n : Nat) (s : State) : State := lsFaultFollow (forEach coreReset (pmGroup n s) s)

/-- Every core is reset: DEVICE_STATE enters HOLD or COLD (R391). -/
def pmResetAll (s : State) : State :=
  lsFaultFollow (forEach (fun n s => if pmState n s = 0 then s else coreReset n s) (natsFrom 0 4) s)

/-- The PC at which a core starts. -/
def pmBoot (n : Nat) (s : State) : Nat := getF (PM_BOOT_LO_BOOT n) s * 4 + getF (PM_BOOT_HI_BOOT n) s * 2 ^ 32

/-- The DEVICE_STATEs in which a core may run (R391). -/
def pmMayRun (s : State) : Bool :=
  match s.dev.state with
  | .staged => true
  | .live => true
  | .quiesce => true
  | .safe => true
  | _ => false

/-- A core halts (R396): its state and cause, event 0x0A06 for the first halt after a resume, the HALT packet; MTIME and
the watchdog as their controls say (R399). -/
def pmHalted (n cause unit : Nat) (x : CoreIn) (s : State) : State :=
  let s := coreKeep n x (coreRan n x s)
  let s := coreMove n (pmSetState n 3) s
  let s := setF (DBG_STATUS_UNIT n) unit (setF (DBG_STATUS_CAUSE n) cause (setF (DBG_STATUS_HALTED n) 1 s))
  let s := if (coreOf n s).halted1 then s else oncePerSecond (0x0A060000 + n) (sbEvent 0x0A06 []) s
  let s := coreUpd n (fun c => { c with halted1 := true }) s
  tracePkt n x.pc.toNat (tNow s) ([7] ++ leBytes 1 cause ++ leBytes 5 x.pc.toNat) s

/-- A core, or the pair it leads, starts from RESET (R391, R396): RUN, or HALTED before its first instruction. -/
def pmStart (n : Nat) (s : State) : State :=
  let s := forEach (fun k => setF (PM_CTRL_RUN k) 1) (pmGroup n s) s
  let pc := pmBoot n s
  if isSet (PM_CTRL_HALT_ON_RESET n) s then
    pmHalted n 6 0 ⟨[], BitVec.ofNat 40 pc, [], 0⟩ s
  else coreMove n (pmSetState n 1) (coreUpd n (fun c => { c with regs := tabSet 0 c.regs 32 pc }) s)

/-- A dozing core wakes (R392, R407). -/
def pmWake (n pc : Nat) (s : State) : State := traceResync n pc (coreMove n (pmSetState n 1) s)

/-- A halt request (R396): a core in RESET or FAULT ignores it, one in DOZE wakes first. -/
def pmHalt (n cause unit : Nat) (x : CoreIn) (s : State) : State :=
  if pmState n s = 1 then pmHalted n cause unit x s
  else if pmState n s = 2 then pmHalted n cause unit x (pmWake n x.pc.toNat s)
  else s

/-- RESUME (R398): RESYNC is written, and the first breakpoint is not taken. -/
def pmResume (n : Nat) (s : State) : State :=
  if pmState n s = 3 then
    let s := coreMove n (pmSetState n 1) s
    let s := setF (DBG_STATUS_HALTED n) 0 s
    traceResync n (corePc n s) (coreUpd n (fun c => { c with halted1 := false, skipBp := true }) s)
  else s

/-- A debug register access or a step that a core not HALTED turns away (R397, R398). -/
def pmAccErr (n : Nat) (s : State) : State := setF (DBG_STATUS_ACC_ERR n) 1 s

/-- A write to a Playmaker's registers is refused: CFG_REJECT, event 0x0A09, source 351. -/
def pmReject (n : Nat) (s : State) : State := sbEvent 0x0A09 [] (whRaise 351 (setF (PM_STATUS_CFG_REJECT n) 1 s))

/-- A write to the debug block is refused. -/
def dbgReject (s : State) : State := sbEvent 0x0A09 [] (whRaise 351 (setF DBG_GLOBAL_CFG_REJECT 1 s))

/-- Writing PM_CTRL.RUN (R391): RUN = 0 resets a core that is not in RESET already. -/
def pmRun (n : Nat) (run : Bool) (s : State) : State :=
  if pmSecond n s then pmReject n s
  else if !run then (if pmState n s = 0 then setF (PM_CTRL_RUN n) 0 s else pmReset n s)
  else if pmState n s ≠ 0 then s
  else if pmMayRun s then pmStart n s
  else pmReject n s

/-- The pairing of an even core and its next changes (R394): event 0x0A0A; the second's mailbox is held in reset and its
trace is off. -/
def pmPair (n : Nat) (v : Bool) (s : State) : State :=
  if v = isSet (PM_CTRL_LOCKSTEP n) s then s
  else
    let s := setB (PM_CTRL_LOCKSTEP n) v s
    let s := setB (PM_STATUS_PAIRED (n + 1)) v (setB (PM_STATUS_PAIRED n) v s)
    let s := sbEvent 0x0A0A [] s
    if v then setF (TR_STATUS_GATE (n + 1)) 0 (setF (TR_CTRL_EN (n + 1)) 0 (mailboxReset (10 + n) s)) else s

/-- Writing PM_CTRL.LOCKSTEP (R394). -/
def pmLockstep (n : Nat) (v : Bool) (s : State) : State :=
  if v = isSet (PM_CTRL_LOCKSTEP n) s then s
  else if n % 2 = 1 ∨ pmState n s ≠ 0 ∨ pmState (n + 1) s ≠ 0 then pmReject n s
  else pmPair n v s

/-- MB(9 + k) is held in reset: the mailbox of a pair's second core (R394). -/
def boxHeld (m : Nat) (s : State) : Bool := decide (9 ≤ m) && decide (m ≤ 12) && pmSecond (m - 9) s

/-- The whole PM_CTRL word is written: LOCKSTEP and HALT_ON_RESET before RUN acts. -/
def pmCtrlWrite (n v : Nat) (s : State) : State :=
  let s := pmLockstep n (bitOf v 1) s
  let s := coreMove n (fun s => setB (PM_CTRL_WDOG_FOH n) (bitOf v 3) (setB (PM_CTRL_TMR_FOH n) (bitOf v 2) s)) s
  pmRun n (bitOf v 0) (setB (PM_CTRL_HALT_ON_RESET n) (bitOf v 4) s)

/-- PM_WDOG is written: TIMEOUT_MS = 0 is refused; the new time counts from the last kick. -/
def pmWdogWrite (n v : Nat) (s : State) : State :=
  if v / 65536 % 65536 = 0 then pmReject n s
  else
    let s := setB (PM_WDOG_RESTART n) (bitOf v 1) s
    let on := timerOn (tmWdog n) s
    let s := setF (PM_WDOG_TIMEOUT_MS n) (v / 65536) s
    let s := setB (PM_WDOG_EN n) (bitOf v 0) s
    let s := if on && wdogCounts n s then
        let ran := s.time.us - (coreOf n s).kickUs
        startTimer (tmWdog n) (v / 65536 % 65536 * 1000 - ran) s
      else s
    let s := wdogFollow n s
    if bitOf v 0 then s else coreUpd n (fun c => { c with stoppedFor := none }) s

/-- The interrupt inputs of core n (R390): EXT, TIMER, BEAT. -/
def coreInputs (n : Nat) (s : State) : Nat :=
  natOfBool (whReq (n + 1) s) + 2 * natOfBool (decide ((coreOf n s).mtimecmp ≤ mtimeNow n s)) +
    4 * natOfBool (coreOf n s).beat

/-! ### Units and the sequencer -/

/-- Match address of a break unit, and of a watch unit. -/
def bpAddr (n k : Nat) (s : State) : Nat := getF (BP_ADDR_LO_ADDR n k) s * 4 + getF (BP_ADDR_HI_ADDR n k) s * 2 ^ 32
def wpAddr (n k : Nat) (s : State) : Nat := getF (WP_ADDR_LO_ADDR n k) s + getF (WP_ADDR_HI_ADDR n k) s * 2 ^ 32
def wpData (n k : Nat) (s : State) : Nat := getF (WP_DATA_LO_DATA n k) s + getF (WP_DATA_HI_DATA n k) s * 2 ^ 32
def wpMask (n k : Nat) (s : State) : Nat := getF (WP_MASK_LO_MASK n k) s + getF (WP_MASK_HI_MASK n k) s * 2 ^ 32

/-- Break unit k matches an instruction at an address (R400, R402). -/
def bpMatches (n k a : Nat) (s : State) : Bool :=
  let bound := decide (k % 2 = 1) && isSet (BP_CTRL_RANGE n (k - 1)) s
  let range := decide (k % 2 = 0) && isSet (BP_CTRL_RANGE n k) s
  isSet (BP_CTRL_EN n k) s && !bound &&
    (if range then decide (bpAddr n k s ≤ a) && decide (a ≤ bpAddr n (k + 1) s) else decide (a = bpAddr n k s)) &&
    (!isSet (BP_CTRL_CTX_EN n k) s || decide ((coreOf n s).ctxid = getF (BP_CTX_CTX n k) s))

/-- Watch unit k matches a data access (R401, R402). -/
def wpMatches (n k : Nat) (d : CoreData) (s : State) : Bool :=
  let a := wpAddr n k s
  let size := 2 ^ getF (WP_CTRL_SIZE n k) s
  let lo := d.addr.toNat
  let len := 2 ^ d.size.val
  let m := wpMask n k s % 2 ^ (8 * len)
  isSet (WP_CTRL_EN n k) s && decide (lo < a + size) && decide (a < lo + len) &&
    bitOf (getF (WP_CTRL_ACCESS n k) s) (if d.write then 1 else 0) &&
    (!isSet (WP_CTRL_DATA_EN n k) s || (decide (lo = a) && decide (len = size) &&
      decide (d.data.toNat &&& m = wpData n k s &&& m))) &&
    (!isSet (WP_CTRL_CTX_EN n k) s || decide ((coreOf n s).ctxid = getF (WP_CTX_CTX n k) s))

/-- The trace gate opens or closes (R403). -/
def traceGate (n : Nat) (open_ : Bool) (s : State) : State :=
  let was := isSet (TR_STATUS_GATE n) s
  let s := setB (TR_STATUS_GATE n) open_ s
  if open_ && !was then coreUpd n (fun c => { c with resync := true, retired := 0 }) s else s

/-- The actions of R403 other than the halt; `unit` is 12 for the sequencer. -/
def unitAct (n unit act pc : Nat) (s : State) : State :=
  if act = 2 then traceGate n true s
  else if act = 3 then traceGate n false s
  else if act = 4 then tracePkt n pc (tNow s) ([8] ++ leBytes 1 unit ++ leBytes 5 pc) s
  else if act = 5 then whRaise 350 s
  else s

/-- The sequencer takes the events of one cycle (R404): whether its action is performed. -/
def seqTake (n events : Nat) (s : State) : Bool × State :=
  let st := getF (SEQ_CTRL_STATE n) s
  if !isSet (SEQ_CTRL_EN n) s then (false, s)
  else if st = 0 then
    (false, if events &&& getF (SEQ_SEL0_ARM n) s = 0 then s else setF (SEQ_CTRL_CNT n) 0 (setF (SEQ_CTRL_STATE n) 1 s))
  else if st = 1 then
    if events &&& getF (SEQ_SEL1_RST n) s ≠ 0 then (false, setF (SEQ_CTRL_STATE n) 0 s)
    else
      let k := getF (SEQ_CTRL_CNT n) s + popCount (events &&& getF (SEQ_SEL0_TRIG n) s) 12
      if getF (SEQ_CTRL_COUNT n) s + 1 ≤ k then
        (true, setF (SEQ_CTRL_STATE n) (if isSet (SEQ_CTRL_ONCE n) s then 2 else 0) (setF (SEQ_CTRL_CNT n) k s))
      else (false, setF (SEQ_CTRL_CNT n) k s)
  else (false, s)

/-- ACTION of an event number. -/
def unitAction (n u : Nat) (s : State) : Nat :=
  if u < 8 then getF (BP_CTRL_ACTION n u) s else getF (WP_CTRL_ACTION n (u - 8)) s

/-- The units that matched in one cycle act, and the sequencer takes their events (R403, R404); `cause` is 2 or 3. -/
def unitsFire (n : Nat) (us : List Nat) (cause : Nat) (x : CoreIn) (s : State) : State :=
  let pc := x.pc.toNat
  let halt := us.filter (fun u => decide (unitAction n u s = 1))
  let s := forEach (fun u s => unitAct n u (unitAction n u s) pc s) us s
  let r := seqTake n (us.foldl (fun m u => m + 2 ^ u) 0) s
  let act := getF (SEQ_CTRL_ACTION n) r.2
  let s := if r.1 then unitAct n 12 act pc r.2 else r.2
  match halt with
  | u :: _ => pmHalt n cause u x s
  | [] => if r.1 && decide (act = 1) then pmHalt n 4 12 x s else s

/-- The watch units that match an access. -/
def wpHits (n : Nat) (d : CoreData) (s : State) : List Nat := ((natsFrom 0 4).filter (fun k => wpMatches n k d s)).map (· + 8)

/-- The address [39:2] of a unit register's word index from D + 0x40 on, and of which unit: the unit's EN field. -/
def unitEn (n i : Nat) : Fld :=
  if i < 32 then BP_CTRL_EN n (i / 4) else if i < 64 then WP_CTRL_EN n ((i - 32) / 8) else SEQ_CTRL_EN n

/-- A word of the units is an encoding that a write refuses (R400, R401, R403). -/
def unitBad (i v : Nat) : Bool :=
  if i < 32 then decide (i % 4 = 3) && ((decide (i / 4 % 2 = 1) && bitOf v 1) || decide (6 ≤ bitsOf v 3 3))
  else if i < 64 then decide (i % 8 = 7) && (decide (bitsOf v 1 2 = 0) || decide (6 ≤ bitsOf v 7 3))
  else decide (i = 64) && decide (6 ≤ bitsOf v 2 3)

/-- The word of a unit register that carries its EN. -/
def unitCtl (i : Nat) : Bool :=
  if i < 32 then decide (i % 4 = 3) else if i < 64 then decide (i % 8 = 7) else decide (i = 64)

/-- The address of unit word i of core n. -/
def unitWordAt (n i : Nat) : Nat := 0x3F00B81040 + n * 0x400 + 4 * i

/-- A write to a unit register (R403, R8): refused on the second core of a pair, for a refused encoding, and for anything but EN
while EN = 1. Writing 1 to SEQ_CTRL.EN sets IDLE. -/
def unitWrite (n i v : Nat) (s : State) : State :=
  let a := unitWordAt n i
  let was := regWord a s
  let en := isSet (unitEn n i) s
  if pmSecond n s || unitBad i v then dbgReject s
  else
    let m := if unitCtl i then bitsClear (regMask a) 1 else regMask a
    let same := decide (v &&& m = was &&& m)
    let s := if en && !same then (if unitCtl i then setB (unitEn n i) (bitOf v 0) (dbgReject s) else dbgReject s)
      else regPoke a v s
    if i = 64 ∧ bitOf v 0 = true then setF (SEQ_CTRL_CNT n) 0 (setF (SEQ_CTRL_STATE n) 0 s) else s

/-! ### The beat compare -/

/-- The entry time of the beat compare (R389): turn and slot. -/
def beatAt (n : Nat) (s : State) : Nat × Nat :=
  let c := coreOf n s
  (c.beatLo + c.beatHi % 65536 * 2 ^ 32, c.beatHi / 65536)

/-- The entry time is at least one slot ahead of the present (R390, R36). -/
def beatAhead (n : Nat) (s : State) : Bool :=
  let e := beatAt n s
  let d := turnDiff e.1 s.clk.turn
  (decide (0 < d) && decide (d < 2 ^ 47)) || (decide (d = 0) && decide (s.clk.slot < e.2))

/-- The beat compare is armed (R390). -/
def beatArm (n : Nat) (s : State) : State :=
  let late := !beatAhead n s
  coreUpd n (fun c => { c with beatArm := true, lateArm := late }) s

end Sys2Proof.Machine
end

