-- ==== Sys2Proof/Machine/Scorebook.lean ====
section
/-! DEFINITION. The Scorebook's rows: its commands, its page timer, its tallies, the operating-time commit (R414 to R426). -/

namespace Sys2Proof.Machine

/-- The timer of the operating-time commit (R422). -/
def tmCommit : Nat := 8

/-- The 32-byte slots of a page. -/
def pageSlots : Nat → List (BitVec 8) → List (List (BitVec 8))
  | 0, _ => []
  | n + 1, b => b.take 32 :: pageSlots n (b.drop 32)

/-- The records of a Scorebook sector, in order: torn and failed pages are passed over, padding is no record (R414, R418,
R424). -/
def sbSector (k : Nat) (s : State) : List (List (BitVec 8)) :=
  ((natsFrom 1 255).map (fun p =>
    if s.sb.torn.contains (k * 256 + p) || decide (flPage s (sbAddr k p) ≠ 1) then []
    else (pageSlots 8 (flBytes (sbAddr k p) 256 s)).filter (fun r => !r.all (fun b => decide (b = 0xFF))))).flatten

/-- The sector that holds a record's index: the one whose first index lies nearest before it (R416, R417). -/
def sbSectorOf (i : Nat) (s : State) : Option (Nat × Nat) :=
  s.sb.firsts.foldl (fun best e =>
    let d := (i + 2 ^ 32 - e.2) % 2 ^ 32
    match best with
    | none => if d < 2 ^ 31 then some e else none
    | some b => if d < (i + 2 ^ 32 - b.2) % 2 ^ 32 then some e else best) none

/-- The index of the oldest record that waits in SRAM. -/
def sbFirstWaiting (s : State) : Nat := (s.sb.next + 2 ^ 32 - s.sb.waiting.length) % 2 ^ 32

/-- The bytes of a record, programmed or waiting. -/
def sbRecord (i : Nat) (s : State) : Option (List (BitVec 8)) :=
  let w := (i + 2 ^ 32 - sbFirstWaiting s) % 2 ^ 32
  if w < s.sb.waiting.length then (s.sb.waiting[w]?).map recBytes
  else
    match sbSectorOf i s with
    | none => none
    | some (k, f) => (sbSector k s)[(i + 2 ^ 32 - f) % 2 ^ 32]?

/-- RECORD_STATUS. -/
def sheetRecordStatus : Sheet := plainSheet 0x0901 (fun r _ => argsLen 0 (fun _ => true) r) [] (fun _ s =>
  (replyOk (leBytes 4 s.sb.oldest ++ leBytes 4 s.sb.next ++ leBytes 4 (opsec s) ++ leBytes 4 s.sb.pcycle ++
    leBytes 4 (regWord SB_STATUS_LOST.addr s) ++ leBytes 1 s.sb.tallies.length ++ leBytes 3 0), s))

def execRecordStatus (mb : Fin 14) (s : State) : Host.Outcome State Fault Refusal := fin (runSheet sheetRecordStatus mb.val s)

/-- RECORD_READ: from FIRST, or from OLDEST if FIRST has left the ring; `bad` is an uncorrectable flash read. -/
def sheetRecordRead (bad : Bool) : Sheet :=
  plainSheet 0x0902 (fun r _ => argsLen 8 (fun r => decide (1 ≤ arg r 4 1) && decide (arg r 4 1 ≤ 100) &&
      decide (arg r 5 3 = 0)) r) [] (fun r s =>
    let held := (s.sb.next + 2 ^ 32 - s.sb.oldest) % 2 ^ 32
    let off := (arg r 0 4 + 2 ^ 32 - s.sb.oldest) % 2 ^ 32
    let first := if off ≤ held then arg r 0 4 else s.sb.oldest
    let n := min (arg r 4 1) ((s.sb.next + 2 ^ 32 - first) % 2 ^ 32)
    let recs := (natsFrom 0 n).filterMap (fun k => sbRecord ((first + k) % 2 ^ 32) s)
    if bad then (replySt stHwFault, flUncorrected (sbAddr s.sb.sector 0) false s)
    else (replyOk (leBytes 4 first ++ leBytes 1 recs.length ++ leBytes 3 0 ++ recs.flatten), s))

def execRecordRead (mb : Fin 14) (bad : Bool) (s : State) : Host.Outcome State Fault Refusal :=
  fin (runSheet (sheetRecordRead bad) mb.val s)

/-- The index that an occurrence written now will be found under: the record it is folded into, or the next one. -/
def sbIndexFor (code arg : Nat) (s : State) : Nat :=
  match s.sb.waiting.findIdx? (recSame code arg) with
  | some k => (sbFirstWaiting s + k) % 2 ^ 32
  | none =>
    match s.sb.known.find? (fun k => decide (k.2.1 = code) && decide (k.2.2 = arg % 65536)) with
    | some k => k.1
    | none => s.sb.next

/-- RECORD_MARK: event 0x0010 with the caller's six bytes. -/
def sheetRecordMark : Sheet := plainSheet 0x0903 (fun r _ => argsLen 6 (fun _ => true) r) [6] (fun r s =>
  let i := sbIndexFor 0x0010 (arg r 0 6) s
  (replyOk (leBytes 4 i), sbEvent 0x0010 [(6, arg r 0 6)] s))

def execRecordMark (mb : Fin 14) (s : State) : Host.Outcome State Fault Refusal := fin (runSheet sheetRecordMark mb.val s)

/-- RECORD_WATCH. -/
def sheetRecordWatch : Sheet := plainSheet 0x0904 (fun r _ => argsLen 4 (fun _ => true) r) [6] (fun r s =>
  (replyOk [], setF SB_WATCH_HI (arg r 2 2) (setF SB_WATCH_LO (arg r 0 2) s)))

def execRecordWatch (mb : Fin 14) (s : State) : Host.Outcome State Fault Refusal := fin (runSheet sheetRecordWatch mb.val s)

/-- 500 ms after the oldest waiting record, a page is programmed (R418); `fails` is a program that fails. -/
def execScorebookPageTimer (fails : Bool) (s : State) : Host.Outcome State Fault Refusal :=
  if timerOn tmSbPage s then
    let s := expire tmSbPage s
    if sbReady s then
      let s := if 256 ≤ s.sb.page then sbOpen s else s
      fin (sbFlush false (if sbReady s then sbProgram fails s else s))
    else fin (sbTimer s)
  else .next s

/-- The tally that closes first. -/
def tallyNext (s : State) : Option Tally :=
  s.sb.tallies.foldl (fun best t =>
    match best with
    | none => some t
    | some b => if t.closeUs < b.closeUs then some t else best) none

/-- A tally slot closes after REPEAT_S (R420). -/
def execTallyClose (s : State) : Host.Outcome State Fault Refusal :=
  match tallyNext s with
  | none => .next s
  | some t =>
    let s : State := { s with
      time := { s.time with us := max s.time.us t.closeUs }
      sb := { s.sb with tallies := s.sb.tallies.erase t } }
    fin (sbFlush false (sbClose t s))

/-- Every 360 s of operation the Referee commits (R422). -/
def execOperatingTimeCommit (s : State) : Host.Outcome State Fault Refusal :=
  if timerOn tmCommit s then fin (sbCommit (startTimer tmCommit 360000000 (expire tmCommit s))) else .next s

end Sys2Proof.Machine
end

