-- ==== Sys2Proof/Machine/LineJudgeCore.lean ====
section
/-! DEFINITION. The Line Judge's registers and rules as several rows use them (R428 to R446). -/

namespace Sys2Proof.Machine

/-- A write to the Line Judge is refused: CFG_REJECT and source 11. -/
def ljReject (s : State) : State := whRaise 11 (setF LJ_STATUS_CFG_REJECT 1 s)

/-- The level of FAULT_N (R441): low while this device drives it, between t0 and the release of the internal reset (R79), unless R80 to R82 override, or while another card does. -/
def faultLine (s : State) : Bool :=
  !(((isSet LJ_STATUS_FAULT_OUT s || decide (s.boot.power = 1)) && decide (s.boot.power ≠ 0) && !s.boot.removal) ||
    s.lj.othersLow)

/-- LJ_STATUS as it reads. -/
def ljStatusWord (s : State) : Nat :=
  getF LJ_STATUS_GUARANTEE s + 2 * natOfBool (decide (s.dev.state = .safe)) + 4 * getF LJ_STATUS_FAULT_OUT s +
    8 * natOfBool (faultLine s) + 16 * getF LJ_STATUS_SELFTEST_FAIL s + 32 * getF LJ_STATUS_TEMP_WARN s +
    2 ^ 16 * getF LJ_STATUS_CFG_REJECT s

/-- Latches are cleared (R440): not those whose cause is present. FAULT_N follows. -/
def ljClear (mask : Nat) (s : State) : State :=
  let m := bitsClear mask (getF LJ_ALARM_ACT_ALARM s)
  let s := setF LJ_ALARM_LATCH_ALARM (bitsClear (getF LJ_ALARM_LATCH_ALARM s) m) s
  faultFollow { s with lj := { s.lj with
    takenFault := bitsClear s.lj.takenFault m, takenSafe := bitsClear s.lj.takenSafe m } }

/-- What blocks SAFE_EXIT (R444): bit 0 a SAFE latch, 1 a cause present, 2 SELFTEST_FAIL, 3 a fence. -/
def safeBlocks (s : State) : Nat :=
  let act := getF LJ_ALARM_ACT_ALARM s
  let fence := (natsFrom 0 80).any (fun r => isSet (RGN_STATUS_FENCED r) s &&
    (isSet (RGN_STATUS_REPAIR_PENDING r) s || isSet (RGN_STATUS_REPAIR_FAILED r) s))
  natOfBool (decide (s.lj.takenSafe ≠ 0)) +
    2 * natOfBool ((natsFrom 1 22).any (fun c => decide (alarmMinimum c = 2) && bitOf act (c - 1))) +
    4 * natOfBool (isSet LJ_STATUS_SELFTEST_FAIL s) + 8 * natOfBool fence

/-- The policy of an alarm is written (R440): below the minimum, or 3, is refused. -/
def policySet (c p : Nat) (s : State) : State :=
  if p = getF (policyFld c) s then s
  else if 3 ≤ p ∨ p < alarmMinimum c then ljReject s
  else setF (policyFld c) p s

/-- The reset values of LJ_TLIM: grade X, and grade E. -/
def tlimReset : Nat × Nat × Nat := (LJ_TLIM_WARN.rst, LJ_TLIM_LIMIT.rst, LJ_TLIM_CRIT.rst)

/-- R446. -/
def tlimOk (w l c : Nat) : Bool :=
  let r := tlimReset
  decide (w < l) && decide (l < c) && decide (w ≤ r.1) && decide (l ≤ r.2.1) && decide (c ≤ r.2.2)

/-- LJ_TLIM takes three thresholds. -/
def tlimPut (w l c : Nat) (s : State) : State := setF LJ_TLIM_CRIT c (setF LJ_TLIM_LIMIT l (setF LJ_TLIM_WARN w s))

/-- TEMP of a sensor, as a 16-bit two's complement number in 0.25 °C. -/
def temp16 (k : Nat) (s : State) : Nat := unsignedOf (signedOf (getF (LJ_TEMP_TEMP k) s) 12) 16

/-- The hottest sensor; the lowest of equals. -/
def hottest (s : State) : Nat :=
  (natsFrom 1 15).foldl (fun b k =>
    if signedOf (getF (LJ_TEMP_TEMP b) s) 12 < signedOf (getF (LJ_TEMP_TEMP k) s) 12 then k else b) 0

/-- The two-reading rule of R437 for one threshold in °C: the new state, and whether a crossing begins. Bit 0 crossed, bit 1 the
last reading lay above, bit 2 it lay 3 °C or more below. -/
def tempRule (st : Nat) (quarter : Int) (thr : Nat) : Nat × Bool :=
  let above := decide ((4 * thr : Int) < quarter)
  let below := decide (quarter ≤ (4 * thr : Int) - 12)
  let was := bitOf st 0
  let now := if was then !(below && bitOf st 2) else above && bitOf st 1
  (natOfBool now + 2 * natOfBool above + 4 * natOfBool below, now && !was)

/-- The threshold state of a sensor. -/
def tempState (k i : Nat) (s : State) : Nat := tabGet 0 s.lj.temp (k * 3 + i)

/-- Some sensor is beyond a threshold. -/
def tempAny (i : Nat) (s : State) : Bool := (natsFrom 0 16).any (fun k => bitOf (tempState k i s) 0)

/-- One sensor's reading (R437): TEMP, MAX, and its three thresholds in order. -/
def tempRead (k v : Nat) (s : State) : State :=
  let q := signedOf v 12
  let s := setF (LJ_TEMP_TEMP k) v s
  let s := if signedOf (getF (LJ_TEMP_MAX k) s) 12 < q then setF (LJ_TEMP_MAX k) v s else s
  let one (i : Nat) (s : State) : State :=
    let thr := if i = 0 then getF LJ_TLIM_WARN s else if i = 1 then getF LJ_TLIM_LIMIT s else getF LJ_TLIM_CRIT s
    let r := tempRule (tempState k i s) q thr
    let s : State := { s with lj := { s.lj with temp := tabSet 0 s.lj.temp (k * 3 + i) r.1 } }
    if r.2 && decide (1 ≤ i) then sbEvent 0x0C06 [] (alarm (if i = 1 then 0x10 else 0x11) k true s) else s
  forEach one (natsFrom 0 3) s

/-- Every sensor has been read: TEMP_WARN, and the causes of alarms 0x10 and 0x11 that are gone. -/
def tempFollow (s : State) : State :=
  let s := setB LJ_STATUS_TEMP_WARN (tempAny 0 s) s
  let s := if tempAny 1 s then s else alarmGone 0x10 s
  if tempAny 2 s then s else alarmGone 0x11 s

/-- Nominal voltage of a VCCIO code in mV (R120). -/
def vccioMv (code : Nat) : Nat := listGet 0 [0, 1200, 1350, 1500, 1800, 2500, 3300] code

/-- The operating range of a rail in 0.1 mV, and its bad threshold in mV (R69, R438). -/
def railRange (m : Nat) (s : State) : (Nat × Nat) × Nat :=
  if m = 0 then ((7760, 8240), 730)
  else if m = 1 ∨ m = 4 then ((17100, 18900), 1580)
  else if m = 2 then ((8730, 9270), 820)
  else if m = 3 then ((11640, 12360), 1090)
  else if m < 9 then ((10670, 11330), 970)
  else
    let v := vccioMv (fieldAt s.boot.header (100 + (m - 9)) 1)
    let range := if v = 0 then (17100, 18900) else (v * 10 - v / 2, v * 10 + v / 2)
    (range, if m < 19 then 1050 else 1580)

/-- One rail's sample (R438): MV, MIN_MV, and the rule of two samples outside and 100 inside. VBATT is reported only. -/
def railRead (m mv : Nat) (s : State) : State :=
  let s := setF (LJ_RAIL_MV m) mv s
  let s := if mv < getF (LJ_RAIL_MIN_MV m) s then setF (LJ_RAIL_MIN_MV m) mv s else s
  if 23 ≤ m then (if 1200 ≤ mv then { s with boot := { s.boot with vbattLow := false } } else s)
  else
    let r := railRange m s
    let inside := decide (r.1.1 ≤ 10 * mv) && decide (10 * mv ≤ r.1.2)
    let st := tabGet 0 s.lj.rail m
    let put (v : Nat) (s : State) : State := { s with lj := { s.lj with rail := tabSet 0 s.lj.rail m v } }
    if mv < r.2 then s
    else if st < 2 then
      if inside then put 0 s
      else if st = 0 then put 1 s
      else sbEvent 0x0C07 [] (alarm 0x12 m true (put 2 s))
    else if inside then put (if st = 101 then 0 else st + 1) s
    else put 2 s

/-- The cause of alarm 0x12 is gone once no rail is in excursion. -/
def railFollow (s : State) : State := if s.lj.rail.any (fun p => decide (2 ≤ p.2)) then s else alarmGone 0x12 s

end Sys2Proof.Machine
end

