-- ==== Sys2Proof/Machine/LineJudge.lean ====
section
/-! DEFINITION. The Line Judge's rows: the SAFETY commands, alarms, gauges, the self-test (R427 to R446). -/

namespace Sys2Proof.Machine

/-- SAFETY_STATUS. -/
def sheetSafetyStatus : Sheet := plainSheet 0x0B01 (fun r _ => argsLen 0 (fun _ => true) r) [] (fun _ s =>
  (replyOk (leBytes 4 (ljStatusWord s) ++ leBytes 4 (condNow s) ++ leBytes 4 (getF LJ_ALARM_ACT_ALARM s) ++
    leBytes 4 (getF LJ_ALARM_LATCH_ALARM s) ++ leBytes 4 (regWord LJ_REFEREE_RESTARTS.addr s) ++ leBytes 1 (hottest s) ++
    leBytes 1 0 ++ leBytes 2 (temp16 (hottest s) s)), s))

def execSafetyStatus (mb : Fin 14) (s : State) : Host.Outcome State Fault Refusal := fin (runSheet sheetSafetyStatus mb.val s)

/-- SAFETY_CLEAR. -/
def sheetSafetyClear : Sheet :=
  plainSheet 0x0B02 (fun r _ => argsLen 4 (fun r => decide (arg r 0 4 < 2 ^ 22)) r) [] (fun r s =>
    let s := ljClear (arg r 0 4) s
    (replyOk (leBytes 4 (getF LJ_ALARM_LATCH_ALARM s)), s))

def execSafetyClear (mb : Fin 14) (s : State) : Host.Outcome State Fault Refusal := fin (runSheet sheetSafetyClear mb.val s)

/-- SAFE_ENTER: alarm 0x16 with the caller's reason as its subject. -/
def sheetSafeEnter : Sheet := plainSheet 0x0B03 (fun r _ => argsLen 2 (fun _ => true) r) [] (fun r s =>
  (replyOk [], alarm 0x16 (arg r 0 2) false s))

def execSafeEnter (mb : Fin 14) (s : State) : Host.Outcome State Fault Refusal := finG (runSheet sheetSafeEnter mb.val s)

/-- SAFE_EXIT (R444). -/
def sheetSafeExit : Sheet := plainSheet 0x0B04 (fun r _ => argsLen 0 (fun _ => true) r) [] (fun _ s =>
  let b := safeBlocks s
  if s.dev.state = .safe ∧ b = 0 then (replyOk (leBytes 4 b), enterStaged 1 (sbEvent 0x0C03 [] s))
  else (⟨stWrongState, leBytes 4 b, none⟩, s))

def execSafeExit (mb : Fin 14) (s : State) : Host.Outcome State Fault Refusal := fin (runSheet sheetSafeExit mb.val s)

/-- SAFETY_POLICY: a lowering is for MB8 and MB13 alone. -/
def sheetSafetyPolicy : Sheet :=
  { plainSheet 0x0B05 (fun r _ => argsLen 2 (fun r => decide (1 ≤ arg r 0 1) && decide (arg r 0 1 ≤ 0x16) &&
      decide (arg r 1 1 ≤ 2) && decide (alarmMinimum (arg r 0 1) ≤ arg r 1 1)) r) [] (fun r s =>
      let s := policySet (arg r 0 1) (arg r 1 1) s
      (replyOk (leBytes 1 (getF (policyFld (arg r 0 1)) s)), s)) with
    permit := fun r s => decide (getF (policyFld (arg r 0 1)) s ≤ arg r 1 1) || decide (r.mb = 8) || decide (r.mb = 13) }

def execSafetyPolicy (mb : Fin 14) (s : State) : Host.Outcome State Fault Refusal := fin (runSheet sheetSafetyPolicy mb.val s)

/-- GAUGE_READ. -/
def sheetGaugeRead : Sheet := plainSheet 0x0B06 (fun r _ => argsLen 0 (fun _ => true) r) [] (fun _ s =>
  (replyOk (((natsFrom 0 16).map (fun k => leBytes 2 (temp16 k s))).flatten ++
    ((natsFrom 0 24).map (fun m => leBytes 2 (getF (LJ_RAIL_MV m) s))).flatten ++
    leBytes 4 (regWord LJ_TLIM_WARN.addr s)), s))

def execGaugeRead (mb : Fin 14) (s : State) : Host.Outcome State Fault Refusal := fin (runSheet sheetGaugeRead mb.val s)

/-- GAUGE_LIMITS (R446). -/
def sheetGaugeLimits : Sheet :=
  { plainSheet 0x0B07 (fun r _ => argsLen 4 (fun r => tlimOk (arg r 0 1) (arg r 1 1) (arg r 2 1) && decide (arg r 3 1 = 0)) r) []
      (fun r s => (replyOk [], tlimPut (arg r 0 1) (arg r 1 1) (arg r 2 1) s)) with
    permit := fun r _ => decide (r.mb = 8) || decide (r.mb = 13) }

def execGaugeLimits (mb : Fin 14) (s : State) : Host.Outcome State Fault Refusal := fin (runSheet sheetGaugeLimits mb.val s)

/-- A write of LJ_POLICY0 or LJ_POLICY1 (R440): each field is taken or refused by itself. -/
def ljPolicyWrite (reg v : Nat) (s : State) : State :=
  if reg = 0 then forEach (fun c => policySet c (bitsOf v (2 * (c - 1)) 2)) (natsFrom 1 16) s
  else forEach (fun c => policySet c (bitsOf v (2 * (c - 17)) 2)) (natsFrom 17 6) s

def execLjPolicyWrite (reg : Fin 2) (value : BitVec 32) (s : State) : Host.Outcome State Fault Refusal :=
  fin (ljPolicyWrite reg.val value.toNat s)

/-- A write of LJ_TLIM (R446). -/
def ljTlimWrite (v : Nat) (s : State) : State :=
  if tlimOk (bitsOf v 0 8) (bitsOf v 8 8) (bitsOf v 16 8) then tlimPut (bitsOf v 0 8) (bitsOf v 8 8) (bitsOf v 16 8) s
  else ljReject s

def execLjTlimWrite (value : BitVec 32) (s : State) : Host.Outcome State Fault Refusal := fin (ljTlimWrite value.toNat s)

/-- An alarm is raised on its source path (R440); `present` is a cause that lasts. -/
def execAlarmRaise (code : Fin 22) (subject : BitVec 16) (present : Bool) (s : State) : Host.Outcome State Fault Refusal :=
  finG (alarm (code.val + 1) subject.toNat present s)

/-- Every 1 ms the sixteen sensors are read, in order (R437): signed, in 0.25 °C. -/
def execTemperatureRead (temps : List (BitVec 12)) (s : State) : Host.Outcome State Fault Refusal :=
  let x := (natsFrom 0 16).zip temps
  finG (tempFollow (forEach (fun (p : Nat × BitVec 12) => tempRead p.1 p.2.toNat) x s))

/-- Every 10 µs the rails are sampled, in index order (R438): in mV. -/
def execRailSample (mv : List (BitVec 16)) (s : State) : Host.Outcome State Fault Refusal :=
  let x := (natsFrom 0 24).zip mv
  finG (railFollow (forEach (fun (p : Nat × BitVec 16) => railRead p.1 p.2.toNat) x s))

/-- Every 1 ms the Line Judge tests itself (R436): a failure sets SELFTEST_FAIL, drives FAULT_N low and raises alarm 0x15.
With it come the level that other cards give FAULT_N, and that the comparators of Playmaker pairs were exercised (R432). -/
def execLineJudgeSelftest (x : SelfTestIn) (s : State) : Host.Outcome State Fault Refusal :=
  let s : State := { s with lj := { s.lj with othersLow := x.othersLow } }
  let s := if x.exercised then boundMet 5 s else s
  if x.ok || isSet LJ_STATUS_SELFTEST_FAIL s then finG s
  else finG (alarm 0x15 0 true (faultFollow (setF LJ_STATUS_SELFTEST_FAIL 1 s)))

/-- A mechanism misses its bound (R432): alarm 0x14, event 0x0C0B with the mechanism's code and the subject, and GUARANTEE
cleared until the next on-time completion. -/
def execDetectionBoundMiss (mech : Fin 5) (subject : BitVec 16) (s : State) : Host.Outcome State Fault Refusal :=
  let c := mech.val + 1
  let s := sbEvent 0x0C0B [(1, c), (2, subject.toNat)] (alarm 0x14 subject.toNat false s)
  finG { s with lj := { s.lj with missed := withBit s.lj.missed c } }

end Sys2Proof.Machine
end

