-- ==== Sys2Proof/Machine/Playmaker.lean ====
section
/-! DEFINITION. The Playmakers, run control, trace and boundary scan: the rows that need no access to a core's memory (R389 to
R410). Those that do are in Machine/CoreMem.lean. -/

namespace Sys2Proof.Machine

/-! ### DEBUG commands -/

/-- DBG_STATUS as it reads: the second core of a pair shows 0 (R394). -/
def dbgStatusWord (n : Nat) (s : State) : Nat := if pmSecond n s then 0 else regWord (DBG_STATUS_HALTED n).addr s

/-- PM_STATUS, command 0x0C01: PC is 0 unless the core is HALTED. -/
def sheetPmStatus : Sheet := plainSheet 0x0C01 (fun r _ => argsLen 1 (fun r => decide (arg r 0 1 < 4)) r) [] (fun r s =>
  let n := arg r 0 1
  (replyOk (leBytes 4 (regWord (PM_CTRL_RUN n).addr s) ++ leBytes 4 (regWord (PM_STATUS_STATE n).addr s) ++
    leBytes 4 (dbgStatusWord n s) ++ leBytes 8 (if pmState n s = 3 then corePc n s else 0) ++
    ((natsFrom 0 4).map (fun i => ctrBytes (ctPm n i) s)).flatten), s))

def execPmStatusQuery (mb : Fin 14) (s : State) : Host.Outcome State Fault Refusal := fin (runSheet sheetPmStatus mb.val s)

/-- An address that a core may fetch from (R388), at the present guard level (R369). -/
def pmFetchable (n a : Nat) (s : State) : Bool :=
  decide (a < 0x2000000000) || (decide (0xFFFE000000 ≤ a) && decide (a < 0xFFFE400000)) ||
    (decide (0xFFFFF00000 ≤ a) && decide (a < 0xFFFFF40000)) ||
    (decide (0x3E00000000 ≤ a) && decide (a < 0x3E10000000) && flWindowAllows (89 + n) (a - 0x3E00000000) 4 s)

/-- A core is in RESET or FAULT. -/
def pmIdle (n : Nat) (s : State) : Bool := decide (pmState n s = 0) || decide (pmState n s = 4)

/-- PM_START: the core, or the pair, is reset and then started. -/
def sheetPmStart : Sheet :=
  { plainSheet 0x0C02 (fun r s => argsLen 12 (fun r =>
      let n := arg r 0 1
      decide (n < 4) && decide (arg r 1 1 ≤ 3) && decide (arg r 2 2 = 0) && !(decide (n % 2 = 1) && bitOf (arg r 1 1) 0) &&
        decide (arg r 4 8 % 4 = 0) && pmFetchable n (arg r 4 8) s) r) [6]
      (fun r s =>
        let n := arg r 0 1
        let ls := bitOf (arg r 1 1) 0
        let s := pmReset n s
        let s := if n % 2 = 0 then pmPair n ls (if ls then pmReset (n + 1) s else s) else s
        let s := setB (PM_CTRL_HALT_ON_RESET n) (bitOf (arg r 1 1) 1) s
        let s := setF (PM_BOOT_HI_BOOT n) (arg r 4 8 / 2 ^ 32) (setF (PM_BOOT_LO_BOOT n) (arg r 4 8 / 4) s)
        (replyOk [], pmStart n s)) with
    state := fun r s =>
      let n := arg r 0 1
      let partner := if bitOf (arg r 1 1) 0 || (decide (n % 2 = 0) && isSet (PM_STATUS_PAIRED n) s) then pmIdle (n + 1) s
        else true
      if pmMayRun s && pmIdle n s && partner && !pmSecond n s then none else some stWrongState }

def execPmStart (mb : Fin 14) (s : State) : Host.Outcome State Fault Refusal := finG (runSheet sheetPmStart mb.val s)

/-- PM_RESET. -/
def sheetPmReset : Sheet :=
  { plainSheet 0x0C03 (fun r _ => argsLen 1 (fun r => decide (arg r 0 1 < 4)) r) [6]
      (fun r s => (replyOk [], pmReset (arg r 0 1) s)) with
    state := fun r s => if pmSecond (arg r 0 1) s then some stWrongState else none }

def execPmReset (mb : Fin 14) (s : State) : Host.Outcome State Fault Refusal := finG (runSheet sheetPmReset mb.val s)

/-- A core HALTED executes one instruction (R398); a watch it meets halts it with its own cause. -/
def pmStep (n : Nat) (d : Option CoreData) (x : CoreIn) (s : State) : State :=
  let s := coreMove n (pmSetState n 1) s
  let s := coreRan n x s
  let x0 : CoreIn := { x with items := [] }
  let s := match d with
    | none => s
    | some d => unitsFire n (wpHits n d s) 3 x0 s
  let s := if pmState n s = 3 then s else pmHalted n 5 0 x0 s
  coreUpd n (fun c => { c with resync := true, skipBp := false }) s

/-- DEBUG_RUN; `halts` is whether the core halts within 1 ms (R396). -/
def sheetDebugRun (halts : Bool) (x : CoreIn) : Sheet :=
  { plainSheet 0x0C05 (fun r _ => argsLen 2 (fun r => decide (arg r 0 1 < 4) && decide (arg r 1 1 ≤ 2)) r) [6]
      (fun r s =>
        let n := arg r 0 1
        let a := arg r 1 1
        let reply (s : State) : Reply × State := (replyOk (leBytes 4 (dbgStatusWord n s)), s)
        if a = 0 then (if halts || decide (pmState n s = 3) then reply (pmHalt n 1 0 x s) else (replySt stTimeout, s))
        else if a = 1 then reply (pmResume n s)
        else reply (pmStep n none x s)) with
    state := fun r s =>
      let n := arg r 0 1
      let ok := if arg r 1 1 = 0 then !pmIdle n s else decide (pmState n s = 3)
      if ok && !pmSecond n s then none else some stWrongState }

def execDebugRun (mb : Fin 14) (halts : Bool) (x : CoreIn) (s : State) : Host.Outcome State Fault Refusal :=
  fin (runSheet (sheetDebugRun halts x) mb.val s)

/-- DEBUG_UNITS_SET: every EN is cleared, the values are written, the ENs last. -/
def sheetDebugUnitsSet : Sheet :=
  let word (r : Req) (i : Nat) : Nat := arg r (4 + 4 * i) 4
  { plainSheet 0x0C07 (fun r _ => argsLen 272 (fun r => decide (arg r 0 1 < 4) && decide (arg r 1 3 = 0) &&
      !(natsFrom 0 67).any (fun i => unitBad i (word r i))) r) [6]
      (fun r s =>
        let n := arg r 0 1
        let s := forEach (fun i => setF (unitEn n i) 0) ((natsFrom 0 67).filter unitCtl) s
        let s := forEach (fun i => unitWrite n i (if unitCtl i then bitsClear (word r i) 1 else word r i)) (natsFrom 0 67) s
        (replyOk [], forEach (fun i => unitWrite n i (word r i)) ((natsFrom 0 67).filter unitCtl) s)) with
    state := fun r s => if pmSecond (arg r 0 1) s then some stWrongState else none }

def execDebugUnitsSet (mb : Fin 14) (s : State) : Host.Outcome State Fault Refusal := fin (runSheet sheetDebugUnitsSet mb.val s)

/-- RESTART (R407, R408): the trace RAM is cleared, WPTR = 0, and the next packet is RESYNC. -/
def traceRestart (n : Nat) (s : State) : State :=
  let s : State := { s with pm := { s.pm with trace := tabCut (n * 65536) (n * 65536 + 65536) s.pm.trace } }
  let s := setF (TR_STATUS_FULL n) 0 (setF (TR_STATUS_WPTR n) 0 s)
  let s := setF (TR_STATUS_OVF n) 0 (setF (TR_STATUS_WRAPPED n) 0 s)
  coreUpd n (fun c => { c with resync := true, retired := 0, lost := none }) s

/-- A write of TR_CTRL (R406, R408): refused on the second core of a pair. -/
def trCtrlWrite (n v : Nat) (s : State) : State :=
  if pmSecond n s then dbgReject s
  else
    let was := isSet (TR_CTRL_EN n) s
    let s := setB (TR_CTRL_GATE_INIT n) (bitOf v 2) (setB (TR_CTRL_WRAP n) (bitOf v 1) (setB (TR_CTRL_EN n) (bitOf v 0) s))
    let s := if bitOf v 0 && !was then
        coreUpd n (fun c => { c with resync := true, retired := 0 }) (setB (TR_STATUS_GATE n) (bitOf v 2) s)
      else if bitOf v 0 then s
      else setF (TR_STATUS_GATE n) 0 s
    if bitOf v 3 then traceRestart n s else s

/-- TR_STATUS as it reads. -/
def trStatusWord (n : Nat) (s : State) : Nat := if pmSecond n s then 0 else regWord (TR_STATUS_WPTR n).addr s

/-- TRACE_ACCESS. -/
def sheetTraceAccess : Sheet :=
  { plainSheet 0x0C08 (fun r _ => argsLen 10 (fun r => decide (arg r 0 1 < 4) && decide (arg r 1 1 ≤ 2) && decide (arg r 2 2 = 0) &&
      (decide (arg r 1 1 ≠ 0) || (decide (arg r 4 4 < 65536) && decide (1 ≤ arg r 8 2) && decide (arg r 8 2 ≤ 3804)))) r) []
      (fun r s =>
        let n := arg r 0 1
        let o := arg r 4 4
        let s := if arg r 1 1 = 1 then (if pmSecond n s then dbgReject s else traceRestart n s)
          else if arg r 1 1 = 2 then trCtrlWrite n o s else s
        let d := if arg r 1 1 = 0 then
            (natsFrom 0 (arg r 8 2)).map (fun i =>
              if pmSecond n s then 0 else tabGet 0 s.pm.trace (n * 65536 + (o + i) % 65536))
          else []
        (replyOk (leBytes 4 (trStatusWord n s) ++ d), s)) with
    groups := fun r => if arg r 1 1 = 0 then [] else [6] }

def execTraceAccess (mb : Fin 14) (s : State) : Host.Outcome State Fault Refusal := fin (runSheet sheetTraceAccess mb.val s)

/-! ### Cores -/

/-- Writing PM_CTRL.RUN (R391). -/
def execPmRunWrite (core : Fin 4) (run : Bool) (s : State) : Host.Outcome State Fault Refusal := finG (pmRun core.val run s)

/-- BEAT_ARM (R389, R390). -/
def execBeatArm (core : Fin 4) (s : State) : Host.Outcome State Fault Refusal := fin (beatArm core.val s)

/-- An armed beat compare is checked at a slot boundary (R390). -/
def execBeatCompareFire (core : Fin 4) (s : State) : Host.Outcome State Fault Refusal :=
  let n := core.val
  let c := coreOf n s
  if c.beatArm && decide (s.clk.fine = 0) && isSet GC_CTRL_RUN s && !beatAhead n s then
    let late := c.lateArm || decide (beatAt n s ≠ (s.clk.turn, s.clk.slot))
    fin (coreUpd n (fun c => { c with beat := true, beatArm := false, lateArm := false, late := c.late || late }) s)
  else .next s

/-- ICINV: fetches after the write miss (R389). -/
def execIcinv (core : Fin 4) (s : State) : Host.Outcome State Fault Refusal :=
  fin (coreUpd core.val (fun c => { c with icache := [] }) s)

/-- A write of WDOG_KICK: only 0x5A5A restarts the watchdog (R389). -/
def execWdogKick (core : Fin 4) (value : BitVec 32) (s : State) : Host.Outcome State Fault Refusal :=
  fin (if value = 0x5A5A then wdogKick core.val s else s)

/-- The watchdog expires (R393). -/
def execWatchdogExpiry (core : Fin 4) (s : State) : Host.Outcome State Fault Refusal :=
  let n := core.val
  if timerOn (tmWdog n) s then
    let again := isSet (PM_WDOG_RESTART n) s
    let s := pmReset n (expire (tmWdog n) s)
    let s := whRaise 348 (sbEvent 0x0A01 [] (incC (ctPm n 2) (setF (PM_STATUS_WDOG_EV n) 1 s)))
    finG (if again && pmMayRun s then pmStart n s else s)
  else .next s

/-- The wait instruction of a running core (R392, R407); `mask` has a bit for each interrupt input that is unmasked: EXT, TIMER,
BEAT. -/
def execWaitInstruction (core : Fin 4) (mask : BitVec 3) (x : CoreIn) (s : State) : Host.Outcome State Fault Refusal :=
  let n := core.val
  if pmState n s = 1 ∧ pmSecond n s = false then
    let s := coreRan n x s
    if coreInputs n s &&& mask.toNat ≠ 0 then fin s
    else
      let c := calNow s
      let t := tNow s
      let p := [6] ++ leBytes 6 t.turn ++ leBytes 2 t.slot ++ leBytes 1 t.fineTq ++ leBytes 2 c.year ++ leBytes 1 c.month ++
        leBytes 1 c.day ++ leBytes 1 c.hour ++ leBytes 1 c.minute ++ leBytes 1 c.second
      let s := tracePkt n x.pc.toNat t p s
      fin (coreMove n (pmSetState n 2) (coreUpd n (fun c => { c with mask := mask.toNat }) s))
  else .next s

/-- A dozing core wakes on an unmasked input (R392). -/
def execDozeWake (core : Fin 4) (pc : BitVec 40) (s : State) : Host.Outcome State Fault Refusal :=
  let n := core.val
  if pmState n s = 2 ∧ pmSecond n s = false ∧ coreInputs n s &&& (coreOf n s).mask ≠ 0 then fin (pmWake n pc.toNat s)
  else .next s

/-- A fault of a running pair (R395): both cores are reset and enter FAULT; `exercise` is a missed exercise. -/
def execLockstepFault (pair : Fin 2) (exercise : Bool) (s : State) : Host.Outcome State Fault Refusal :=
  let n := 2 * pair.val
  if pairRuns n s then
    let s := forEach coreReset [n, n + 1] s
    let s := setF (PM_STATUS_STATE (n + 1)) 4 (setF (PM_STATUS_STATE n) 4 s)
    let s := incC (ctPm n 3) (setF (PM_STATUS_LS_FAULT n) 1 s)
    let s := whRaise 349 (sbEvent (if exercise then 0x0A03 else 0x0A02) [] s)
    finG (alarm 0x0D n true s)
  else .next s

/-! ### Run control -/

/-- DBG_CTRL.HALT_REQ (R396). -/
def execHaltReq (core : Fin 4) (x : CoreIn) (s : State) : Host.Outcome State Fault Refusal :=
  fin (if pmSecond core.val s then dbgReject s else pmHalt core.val 1 0 x s)

/-- DBG_CTRL.RESUME (R398). -/
def execResume (core : Fin 4) (s : State) : Host.Outcome State Fault Refusal :=
  fin (if pmSecond core.val s then dbgReject s else pmResume core.val s)

/-- DBG_CTRL.STEP (R398); `d` is the data access of the instruction. -/
def execStep (core : Fin 4) (d : Option CoreData) (x : CoreIn) (s : State) : Host.Outcome State Fault Refusal :=
  let n := core.val
  fin (if pmSecond n s then dbgReject s else if pmState n s = 3 then pmStep n d x s else pmAccErr n s)

/-- A register of a halted core goes into DBG_REGDATA (R397). -/
def regRd (n i : Nat) (s : State) : State :=
  let s := setF (DBG_REGSEL_INDEX n) i s
  if pmState n s = 3 then
    let v := if i < 34 then tabGet 0 (coreOf n s).regs i else 0
    setF (DBG_REGDATA_HI_DATA n) (v / 2 ^ 32) (setF (DBG_REGDATA_LO_DATA n) v s)
  else pmAccErr n s

def execRegRd (core : Fin 4) (index : BitVec 6) (s : State) : Host.Outcome State Fault Refusal :=
  fin (if pmSecond core.val s then dbgReject s else regRd core.val index.toNat s)

/-- DBG_REGDATA goes into a register of a halted core (R397); the PC has 40 bits. -/
def regWr (n i : Nat) (s : State) : State :=
  let s := setF (DBG_REGSEL_INDEX n) i s
  if pmState n s = 3 then
    let v := getF (DBG_REGDATA_LO_DATA n) s + getF (DBG_REGDATA_HI_DATA n) s * 2 ^ 32
    if i < 34 then coreUpd n (fun c => { c with regs := tabSet 0 c.regs i (if i = 32 then v % 2 ^ 40 else v) }) s else s
  else pmAccErr n s

def execRegWr (core : Fin 4) (index : BitVec 6) (s : State) : Host.Outcome State Fault Refusal :=
  fin (if pmSecond core.val s then dbgReject s else regWr core.val index.toNat s)

/-- The instruction at `x.pc` is about to execute and break units match it (R400, R402, R403); the first one after RESUME or
STEP is not taken (R398). -/
def execBreakpointMatch (core : Fin 4) (x : CoreIn) (s : State) : Host.Outcome State Fault Refusal :=
  let n := core.val
  let us := (natsFrom 0 8).filter (fun k => bpMatches n k x.pc.toNat s)
  if pmState n s ≠ 1 ∨ pmSecond n s = true ∨ us = [] then .next s
  else if (coreOf n s).skipBp && decide (x.items = []) then .next s
  else fin (unitsFire n us 2 { x with items := [] } (coreRan n x s))

/-- A data access of a running core that watch units match (R401 to R403). -/
def execWatchMatch (core : Fin 4) (d : CoreData) (x : CoreIn) (s : State) : Host.Outcome State Fault Refusal :=
  let n := core.val
  let us := wpHits n d s
  if pmState n s ≠ 1 ∨ pmSecond n s = true ∨ us = [] then .next s
  else fin (unitsFire n us 3 { x with items := [] } (coreRan n x s))

/-- TR_CTRL.RESTART (R407). -/
def execTraceRestart (core : Fin 4) (s : State) : Host.Outcome State Fault Refusal :=
  fin (if pmSecond core.val s then dbgReject s else traceRestart core.val s)

/-- The trace FIFO fills and packets of `lost` bytes are dropped (R408). -/
def execTraceOverflow (core : Fin 4) (lost : BitVec 16) (s : State) : Host.Outcome State Fault Refusal :=
  let n := core.val
  if traceOn n s then
    let s := coreUpd n (fun c => { c with lost := some (min (c.lost.getD 0 + lost.toNat) 65535) }) s
    fin (oncePerSecond (0x0A070000 + n) (sbEvent 0x0A07 []) (setF (TR_STATUS_OVF n) 1 s))
  else .next s

/-- An access by a core finds an error in local or shared RAM (R388); `double` is uncorrectable, and faults in the core. -/
def execRamEccError (core : Fin 4) (double : Bool) (s : State) : Host.Outcome State Fault Refusal :=
  let n := core.val
  if double then
    fin (whRaise 349 (sbEvent 0x0A05 [] (setF (PM_STATUS_RAM_UE n) 1 (incC (ctPm n 1) s))))
  else fin (oncePerSecond 0x0A04 (sbEvent 0x0A04 []) (incC (ctPm n 0) s))

/-! ### JTAG -/

/-- Outputs are on as the boundary-scan instructions see it: DEVICE_STATE is LIVE or QUIESCE (R410). -/
def scanBarred (s : State) : Bool :=
  match s.dev.state with
  | .live => true
  | .quiesce => true
  | _ => false

/-- An instruction is selected (R409, R410): one that takes the pins writes event 0x0A08; any other returns them. -/
def tapSelect (ir : Nat) (takes : Bool) (s : State) : State :=
  let t := takes && !scanBarred s
  let new := t && !(decide (s.pm.ir = ir) && s.pm.pinsTaken)
  let s := if new then sbEvent 0x0A08 [] s else s
  { s with pm := { s.pm with ir := ir, pinsTaken := t } }

/-- A scan of the boundary register (R410): the captured cells leave on TDO, what was shifted in stays in the register. -/
def tapBoundary (ir : Nat) (takes : Bool) (pins dr : BitVec 2136) (s : State) : State :=
  let s := tapSelect ir takes s
  emit (.tdo pins.toNat 2136) { s with pm := { s.pm with boundary := dr.toNat } }

/-- A scan of the bypass register: it captures 0. -/
def tapBypass (ir : Nat) (takes : Bool) (s : State) : State := emit (.tdo 0 1) (tapSelect ir takes s)

def execExtest (pins dr : BitVec 2136) (s : State) : Host.Outcome State Fault Refusal := fin (tapBoundary 0x00 true pins dr s)

def execSamplePreload (pins dr : BitVec 2136) (s : State) : Host.Outcome State Fault Refusal :=
  fin (tapBoundary 0x01 false pins dr s)

/-- IDCODE (R409). -/
def execIdcode (s : State) : Host.Outcome State Fault Refusal := fin (emit (.tdo 0x2A2601E3 32) (tapSelect 0x02 false s))

def execHighz (s : State) : Host.Outcome State Fault Refusal := fin (tapBypass 0x03 true s)

def execClamp (s : State) : Host.Outcome State Fault Refusal := fin (tapBypass 0x04 true s)

def execExtestPulse (pins dr : BitVec 2136) (s : State) : Host.Outcome State Fault Refusal :=
  fin (tapBoundary 0x05 true pins dr s)

def execExtestTrain (pins dr : BitVec 2136) (s : State) : Host.Outcome State Fault Refusal :=
  fin (tapBoundary 0x06 true pins dr s)

def execBypass (s : State) : Host.Outcome State Fault Refusal := fin (tapBypass 0xFF false s)

/-- TRST_N low (R409, R153): the TAP is reset and selects IDCODE, and MB13 is reset. -/
def execTrstN (s : State) : Host.Outcome State Fault Refusal := fin (mailboxReset 13 (tapSelect 0x02 false s))

end Sys2Proof.Machine
end

