-- ==== Sys2Proof/Machine/Modules.lean ====
section
/-! DEFINITION. Module identity: the polls, the checks against the port plan, and the MODULE commands (R100 to R112). -/

namespace Sys2Proof.Machine

/-- The poll timer (R102). -/
def tmPoll : Nat := 9

/-- A site exists (R100): its bus is enabled and serves it. -/
def siteExists (k : Nat) (s : State) : Bool :=
  let n := k / 8
  isSet (MID_BUS_EN n) s &&
    (if isSet (MID_BUS_SWITCH n) s then bitOf (getF (MID_BUS_SEG_MASK n) s) (k % 8) else decide (k % 8 = 0))

/-- The class of an SFF-8024 identifier (R103): 1 SFF-8636, 2 CMIS, 3 OTHER. -/
def optClass (b : BitVec 8) : Nat :=
  if [0x0C, 0x0D, 0x11].contains b.toNat then 1 else if [0x18, 0x19, 0x1E].contains b.toNat then 2 else 3

/-- The lanes that a module record's map names (R105). -/
def imrLanes (b : List (BitVec 8)) : List Nat := (natsFrom 0 (fieldAt b 12 1)).map (fun i => fieldAt b (96 + 4 * i) 1)

/-- Elements of a list are distinct. -/
def distinct : List Nat → Bool
  | [] => true
  | a :: l => !l.contains a && distinct l

/-- A valid module record (R106, R107). -/
def imrValid (b : List (BitVec 8)) : Bool :=
  let ty := fieldAt b 6 2
  let l := imrLanes b
  decide (fieldAt b 0 4 = 0x31524D49) && decide (fieldAt b 4 1 = 1) && decide (fieldAt b 252 4 = crc32c (b.take 252)) &&
    ((decide (1 ≤ ty) && decide (ty ≤ 4)) || (decide (0x8000 ≤ ty) && decide (ty ≤ 0xFFFE))) && decide (fieldAt b 12 1 ≤ 16) &&
    l.all (fun x => decide (x < 128)) && distinct l &&
    (decide (fieldAt b 80 4 = 0) || calOk ⟨fieldAt b 80 2, fieldAt b 82 1, fieldAt b 83 1, 0, 0, 0⟩)

/-- The plan entry of a site (R108). -/
def planOfSite (k : Nat) (s : State) : Option PlanEntry := s.sites.plan.find? (fun e => decide (e.site = k))

/-- The stored module record of a site, if one answered. -/
def siteImr (k : Nat) (s : State) : Option (List (BitVec 8)) := tabFind s.sites.imr k

/-- The state that a present site's check gives (R109). -/
def siteVerdict (k : Nat) (s : State) : Nat :=
  match planOfSite k s with
  | none => 6
  | some e =>
    let rec1 := match siteImr k s with | some b => if imrValid b then some b else none | none => none
    let needImr := bitOf e.mode 0
    if needImr && rec1.isNone then 4
    else
      let b := rec1.getD []
      let l := imrLanes b
      let imrOk := (decide (e.type = 0xFFFF) || decide (fieldAt b 6 2 = e.type)) && decide (e.minRev ≤ fieldAt b 10 1) &&
        decide (l.length = e.count) && (natsFrom e.first e.count).all (fun x => l.contains x)
      let optOk := isSet (MID_SITE_OPT_PRESENT k) s &&
        (decide (e.optClass = 0) || decide (getF (MID_SITE_OPT_CLASS k) s = e.optClass))
      if (needImr && !imrOk) || (bitOf e.mode 1 && !optOk) then 3 else 2

/-- The transmit-disable register of a module: SFF-8636 byte 86; CMIS page 10h, byte 130 (PRESUMED). -/
def txReg (cls : Nat) : Nat := if cls = 1 then 86 else 0x1000 + 130

/-- The transmit channels of a module. -/
def txAll (cls : Nat) : Nat := if cls = 1 then 0x0F else 0xFF

/-- The module's transmit channels follow (R104): all disabled unless the site is MATCH or ACCEPTED, else as commanded. -/
def siteTx (k : Nat) (s : State) : State :=
  let cls := getF (MID_SITE_OPT_CLASS k) s
  let off := !siteOk k s
  let s := setB (MID_SITE_TX_DIS k) off s
  if isSet (MID_SITE_OPT_PRESENT k) s && (decide (cls = 1) || decide (cls = 2)) then
    let m := if off then txAll cls else tabGet 0 s.sites.txMask k &&& txAll cls
    emit (.moduleWrite (k / 8) 0x50 (txReg cls) [BitVec.ofNat 8 m]) s
  else s

/-- A site's state changes (R110, R112): its event, its source, the notice, the module's transmitters, the ports of its
lanes. -/
def siteState (k st : Nat) (s : State) : State :=
  let old := getF (MID_SITE_STATE k) s
  if old = st then s
  else
    let s := setF (MID_SITE_STATE k) st s
    let s :=
      if st = 1 ∧ old = 0 then sbEvent 0x0B10 [(1, k)] s
      else if st = 0 then sbEvent 0x0B11 [(1, k)] s
      else if st = 3 then sbEvent 0x0B13 [(1, k)] s
      else if st = 4 then sbEvent 0x0B14 [(1, k)] s
      else s
    let s := notice 0x0008 0xFF (leBytes 1 k ++ leBytes 1 st) (whRaise (12 + k / 8) s)
    portsFollow (siteTx k s)

/-- The enabled ports that hold a lane of a site. -/
def portsOfSite (k : Nat) (s : State) : List Nat :=
  (enabledPorts s).filter (fun p => (portLanes p s).any (fun L =>
    match planOfLane L s with
    | some e => decide (e.site = k)
    | none => false))

/-- A change (R111): event 0x0B12, CHANGED, source 12 + n; ACCEPTED is cleared; ports of the site in an outage take their
HOLD_MS as expired (R323). -/
def siteChange (k : Nat) (s : State) : State :=
  let s := whRaise (12 + k / 8) (sbEvent 0x0B12 [(1, k)] (setF (MID_SITE_ACCEPTED k) 0 (setF (MID_SITE_CHANGED k) 1 s)))
  forEach portHoldEnd (portsOfSite k s) s

/-- What a site answers is stored: presence, class, temperature, record and serial number (R102, R103). -/
def siteStore (k : Nat) (x : SiteIn) (s : State) : State :=
  let cls := match x.optical with | some b => optClass b | none => 0
  let s := setB (MID_SITE_IMR_PRESENT k) x.imr.isSome (setB (MID_SITE_OPT_PRESENT k) x.optical.isSome s)
  let s := setF (MID_SITE_OPT_CLASS k) cls s
  let s : State := { s with sites := { s.sites with
    imr := (match x.imr with
      | some b => tabPut s.sites.imr k (padTo 256 b)
      | none => tabDel s.sites.imr k)
    optSerial := (if cls = 1 ∨ cls = 2 then tabPut s.sites.optSerial k (padTo 16 x.serial) else tabDel s.sites.optSerial k) } }
  if cls = 1 ∨ cls = 2 then
    let s := setF (MID_SITE_TEMP k) (unsignedOf (signedOf x.temp.toNat 16 / 256) 8) s
    if signedOf x.high.toNat 16 < signedOf x.temp.toNat 16 then
      sbEvent 0x0B18 [(1, k)] (setF (MID_SITE_TEMP_ALARM k) 1 s)
    else s
  else setF (MID_SITE_TEMP k) 0x80 s

/-- Nothing of a site is known any more. -/
def siteForget (k : Nat) (s : State) : State :=
  let s := setF (MID_SITE_TEMP k) 0x80 (setF (MID_SITE_OPT_CLASS k) 0 s)
  let s := setF (MID_SITE_IMR_PRESENT k) 0 (setF (MID_SITE_OPT_PRESENT k) 0 s)
  { s with sites := { s.sites with imr := tabDel s.sites.imr k, optSerial := tabDel s.sites.optSerial k } }

/-- A serial number differs from the stored one (R102). -/
def siteDiffers (k : Nat) (x : SiteIn) (s : State) : Bool :=
  let imr := match siteImr k s, x.imr with
    | some a, some b => decide ((a.drop 16).take 32 ≠ ((padTo 256 b).drop 16).take 32)
    | none, none => false
    | _, _ => true
  let opt := match tabFind s.sites.optSerial k with
    | some a => decide (a ≠ padTo 16 x.serial) || x.optical.isNone
    | none => match x.optical with
      | some b => decide (optClass b ≠ 3)
      | none => false
  imr || opt

/-- One site as an access finds it; `prsLow` is MODPRSn_N in use and low; `full` asks for the check even without a change. -/
def siteSee (k : Nat) (x : Option SiteIn) (prsUse prsHigh full : Bool) (s : State) : State :=
  let st := getF (MID_SITE_STATE k) s
  let answers (y : SiteIn) : Bool := y.optical.isSome || y.imr.isSome
  let gone (s : State) : State :=
    if st = 0 then s else siteState k 0 (siteForget k (siteChange k s))
  if prsUse && prsHigh then gone s
  else
    match x with
    | none => if prsUse then siteState k 5 (siteForget k s) else gone s
    | some y =>
      if y.timeout then siteState k 5 (siteForget k s)
      else if !answers y then (if prsUse then siteState k 5 (siteForget k s) else gone s)
      else
        let pulsed := s.sites.pulsed.contains (k / 8) && decide (k % 8 = 0)
        if st = 0 then
          let s := siteStore k y (siteState k 1 s)
          siteState k (siteVerdict k s) s
        else if st ≠ 5 && (siteDiffers k y s || pulsed) then
          let s := siteStore k y (siteState k 1 (siteChange k s))
          siteState k (siteVerdict k s) s
        else
          let s := siteStore k y s
          if st = 7 then s
          else if full || decide (st = 1) || decide (st = 5) then siteState k (siteVerdict k s) s else s

/-- A bus whose SDA stays low (R101): BUS_STUCK, event 0x0B15, source 12 + n, every site of it UNREADABLE. -/
def busStuck (n : Nat) (s : State) : State :=
  let s := whRaise (12 + n) (sbEvent 0x0B15 [] (setF (MID_BUS_BUS_STUCK n) 1 s))
  forEach (fun k => siteState k 5) ((natsFrom (8 * n) 8).filter (fun k => siteExists k s)) s

/-- A poll of every site of every enabled bus, in site order (R102). -/
def poll (x : PollIn) (s : State) : State :=
  let bus (n : Nat) (s : State) : State :=
    if !isSet (MID_BUS_EN n) s then s
    else if bitOf x.stuck.toNat n then busStuck n s
    else
      let use := isSet (MID_BUS_PRS_USE n) s && !isSet (MID_BUS_SWITCH n) s
      forEach (fun k s => if siteExists k s then
          siteSee k ((x.sites.find? (fun p => decide (p.1.val = k))).map (·.2)) use (bitOf x.prs.toNat n) false s
        else s) (natsFrom (8 * n) 8) s
  let s := forEach bus (natsFrom 0 4) s
  { s with sites := { s.sites with pulsed := [] } }

/-- Every POLL_MS (R102). -/
def execModulePoll (x : PollIn) (s : State) : Host.Outcome State Fault Refusal :=
  if timerOn tmPoll s then
    let s := startFirm tmPoll (getF MID_CTRL_POLL_MS s * 1000) (expire tmPoll s)
    fin (if isSet MID_CTRL_POLL_EN s then poll x s else s)
  else .next s

/-- A MODPRSn_N high pulse of 1 ms or longer (R102). -/
def execModprsPulse (bus : Fin 4) (s : State) : Host.Outcome State Fault Refusal :=
  let s := setF (MID_BUS_PRS_LATCH bus.val) 1 s
  fin { s with sites := { s.sites with pulsed := bus.val :: s.sites.pulsed.filter (fun b => decide (b ≠ bus.val)) } }

/-- MODULE_LIST. -/
def sheetModuleList : Sheet := plainSheet 0x0A01 (fun r _ => argsLen 0 (fun _ => true) r) [] (fun _ s =>
  let one (k : Nat) : List (BitVec 8) :=
    let ty := match siteImr k s with | some b => if imrValid b then fieldAt b 6 2 else 0 | none => 0
    leBytes 1 (getF (MID_SITE_STATE k) s) ++ leBytes 1 (getF (MID_SITE_OPT_PRESENT k) s + 2 * getF (MID_SITE_IMR_PRESENT k) s +
      4 * getF (MID_SITE_ACCEPTED k) s + 8 * getF (MID_SITE_TX_DIS k) s + 16 * getF (MID_SITE_OPT_CLASS k) s) ++ leBytes 2 ty
  (replyOk ((natsFrom 0 32).map one).flatten, s))

def execModuleList (mb : Fin 14) (s : State) : Host.Outcome State Fault Refusal := fin (runSheet sheetModuleList mb.val s)

/-- A site's transfers time out, or its bus is stuck. -/
def siteFails (x : Option SiteIn) : Bool := match x with | some y => y.timeout | none => false

/-- MODULE_READ: the bytes are the module's; the page is selected before and page 00h restored after (R104). -/
def sheetModuleRead (data : Option (List (BitVec 8))) (stuck : Bool) : Sheet :=
  plainSheet 0x0A02 (fun r s => argsLen 8 (fun r => decide (arg r 0 1 < 32) && siteExists (arg r 0 1) s && decide (arg r 1 1 ≤ 1) &&
      decide (1 ≤ arg r 5 1) && decide (arg r 5 1 ≤ 128) && decide (arg r 4 1 + arg r 5 1 ≤ 256) && decide (arg r 6 2 = 0) &&
      (decide (arg r 1 1 = 1) || decide (arg r 2 2 = 0))) r) [] (fun r s =>
    let k := arg r 0 1
    let n := k / 8
    let sel (bank page : Nat) (s : State) : State :=
      if arg r 1 1 = 0 then s
      else
        let s := if getF (MID_SITE_OPT_CLASS k) s = 2 then emit (.moduleWrite n 0x50 126 (leBytes 1 bank)) s else s
        emit (.moduleWrite n 0x50 127 (leBytes 1 page)) s
    if stuck then (replySt stHwFault, busStuck n s)
    else
      match data with
      | none => (replySt stTimeout, s)
      | some d => (replyOk (padTo (arg r 5 1) d), sel 0 0 (sel (arg r 2 1) (arg r 3 1) s)))

def execModuleRead (mb : Fin 14) (data : Option (List (BitVec 8))) (stuck : Bool) (s : State) :
    Host.Outcome State Fault Refusal := fin (runSheet (sheetModuleRead data stuck) mb.val s)

/-- MODULE_RECHECK. -/
def sheetModuleRecheck (x : PollIn) : Sheet :=
  plainSheet 0x0A03 (fun r s => argsLen 1 (fun r => decide (arg r 0 1 = 0xFF) ||
      (decide (arg r 0 1 < 32) && siteExists (arg r 0 1) s)) r) [2] (fun r s =>
    let k := arg r 0 1
    let find (j : Nat) : Option SiteIn := (x.sites.find? (fun p => decide (p.1.val = j))).map (·.2)
    let see (j : Nat) (s : State) : State :=
      siteSee j (find j) (isSet (MID_BUS_PRS_USE (j / 8)) s && !isSet (MID_BUS_SWITCH (j / 8)) s) (bitOf x.prs.toNat (j / 8)) true s
    if k = 0xFF then
      (replyOk [0xFF], forEach (fun j s => if siteExists j s then see j s else s) (natsFrom 0 32) s)
    else
      let s := see k s
      if siteFails (find k) then (replySt stTimeout, s) else (replyOk (leBytes 1 (getF (MID_SITE_STATE k) s)), s))

def execModuleRecheck (mb : Fin 14) (x : PollIn) (s : State) : Host.Outcome State Fault Refusal :=
  fin (runSheet (sheetModuleRecheck x) mb.val s)

/-- MODULE_ACCEPT (R109, R112). -/
def sheetModuleAccept : Sheet :=
  { plainSheet 0x0A04 (fun r _ => argsLen 1 (fun r => decide (arg r 0 1 < 32)) r) [2] (fun r s =>
      let k := arg r 0 1
      (replyOk [], siteState k 7 (sbEvent 0x0B16 [(1, k)] (setF (MID_SITE_ACCEPTED k) 1 s)))) with
    state := fun r s =>
      if getF (MID_SITE_STATE (arg r 0 1)) s = 3 ∨ getF (MID_SITE_STATE (arg r 0 1)) s = 4 then none else some stWrongState }

def execModuleAccept (mb : Fin 14) (s : State) : Host.Outcome State Fault Refusal := fin (runSheet sheetModuleAccept mb.val s)

/-- MODULE_TX_DISABLE; `answers` is whether the module takes the write. -/
def sheetModuleTxDisable (answers : Bool) : Sheet :=
  let all (r : Req) (s : State) : Nat := txAll (getF (MID_SITE_OPT_CLASS (arg r 0 1)) s)
  { plainSheet 0x0A05 (fun r s => argsLen 2 (fun r => decide (arg r 0 1 < 32) && siteExists (arg r 0 1) s) r) [2] (fun r s =>
      let k := arg r 0 1
      if !answers then (replySt stTimeout, s)
      else (replyOk [], siteTx k { s with sites := { s.sites with txMask := tabSet 0 s.sites.txMask k (arg r 1 1) } })) with
    state := fun r s =>
      if siteOk (arg r 0 1) s || decide (arg r 1 1 &&& all r s = all r s) then none else some stWrongState }

def execModuleTxDisable (mb : Fin 14) (answers : Bool) (s : State) : Host.Outcome State Fault Refusal :=
  fin (runSheet (sheetModuleTxDisable answers) mb.val s)

/-- MODULE_IMR_WRITE: pages of 8 bytes; `acked` is an acknowledge within 10 ms, `same` an equal read-back; then the re-check. -/
def sheetModuleImrWrite (acked same : Bool) (x : SiteIn) : Sheet :=
  { plainSheet 0x0A06 (fun r s =>
      let n := arg r 2 1
      if r.len = 4 + n ∧ arg r 0 1 < 32 ∧ siteExists (arg r 0 1) s ∧ arg r 1 1 % 8 = 0 ∧ n % 8 = 0 ∧ 8 ≤ n ∧ n ≤ 128 ∧
        arg r 1 1 + n ≤ 256 ∧ arg r 3 1 = 0 then none else some stBadArg) [2]
      (fun r s =>
        let k := arg r 0 1
        let put (i : Nat) (s : State) : State :=
          emit (.moduleWrite (k / 8) 0x52 (arg r 1 1 + 8 * i) ((r.payload.drop (4 + 8 * i)).take 8)) s
        let s := sbEvent 0x0B17 [(1, k)] (forEach put (natsFrom 0 (arg r 2 1 / 8)) s)
        let use := isSet (MID_BUS_PRS_USE (k / 8)) s && !isSet (MID_BUS_SWITCH (k / 8)) s
        let s := siteSee k (some x) use false true s
        if !acked then (replySt stTimeout, s)
        else if !same then (replySt stHwFault, s)
        else (replyOk (leBytes 1 (getF (MID_SITE_STATE k) s)), s)) with
    state := fun r s =>
      let out := match s.dev.state with | .live => true | .quiesce => true | _ => false
      if siteOk (arg r 0 1) s && out then some stWrongState else none }

def execModuleImrWrite (mb : Fin 14) (acked same : Bool) (x : SiteIn) (s : State) : Host.Outcome State Fault Refusal :=
  fin (runSheet (sheetModuleImrWrite acked same x) mb.val s)

/-- A write to the module identity block is refused; its source is 12, of bus 0 (log entry 8). -/
def midReject (s : State) : State := whRaise 12 s

end Sys2Proof.Machine
end

