-- ==== Sys2Proof/Machine/DeviceCmd.lean ====
section
/-! DEFINITION. The DEVICE commands of spec/05 (R170 to R172), claims (R154 to R157) and the rows that follow from them. -/

namespace Sys2Proof.Machine

/-- The timer of DEVICE_RESET's DELAY_MS. -/
def tmReset : Nat := 10

/-- The PCIe vendor, subsystem vendor and subsystem IDs; 0 while they are not fixed (R127). -/
def pcieIds (s : State) : Nat × Nat × Nat := s.boot.ids.getD (0, 0, 0)

/-- DEVICE_INFO. -/
def sheetDeviceInfo : Sheet := plainSheet 0x0101 (fun r _ => argsLen 0 (fun _ => true) r) [] (fun _ s =>
  let ids := pcieIds s
  (replyOk (leBytes 1 Config.partCode ++ leBytes 1 0x42 ++ leBytes 2 0 ++ leBytes 4 0x2A2601E3 ++ leBytes 4 s.boot.fw ++
    leBytes 4 Config.fwBuild ++ leBytes 1 (guardLevel s) ++ leBytes 1 (getF BOOT_STATUS_FW_SLOT s) ++ leBytes 2 0 ++
    leBytes 8 Config.dieId ++ leBytes 2 ids.1 ++ leBytes 2 0x2600 ++ leBytes 2 ids.2.1 ++ leBytes 2 ids.2.2 ++
    leBytes 4 (opsec s) ++ leBytes 4 s.sb.pcycle), s))

def execDeviceInfo (mb : Fin 14) (s : State) : Host.Outcome State Fault Refusal := fin (runSheet sheetDeviceInfo mb.val s)

/-- One byte of OWNER: the mailbox that holds a group, 0xFF where it is free. -/
def ownerByte (g : Nat) (s : State) : Nat := if ownerOf g s = 0xF then 0xFF else ownerOf g s

/-- DEVICE_STATUS. -/
def sheetDeviceStatus : Sheet := plainSheet 0x0102 (fun r _ => argsLen 0 (fun _ => true) r) [] (fun _ s =>
  (replyOk (leBytes 1 (devCode s.dev.state) ++ leBytes 1 (devCode s.dev.prev) ++ leBytes 1 s.dev.cause ++
    leBytes 1 s.dev.atTq ++ leBytes 6 s.dev.atTurn ++ leBytes 2 s.dev.atSlot ++ leBytes 1 s.dev.atFine ++
    leBytes 1 (getF (MB_EXPERT_GRANTED 0) s + 2 * getF (MB_EXPERT_WRITE 0) s) ++ leBytes 2 0 ++
    ((natsFrom 0 7).map (fun g => leBytes 1 (ownerByte g s))).flatten ++ leBytes 1 0), s))

def execDeviceStatus (mb : Fin 14) (s : State) : Host.Outcome State Fault Refusal :=
  fin (runSheet sheetDeviceStatus mb.val s)

/-! ### Outputs -/

/-- Step 6 of OUTPUTS_ON: MODE, the reserved byte, and for MODE 1 how far TURN lies ahead. -/
def onArgs (r : Req) (s : State) : Option Nat :=
  let d := turnDiff (arg r 2 6) s.clk.turn
  argsLen 8 (fun r => decide (arg r 0 1 ≤ 1) && decide (arg r 1 1 = 0) &&
    (decide (arg r 0 1 = 0) || (decide (2 ≤ d) && decide (d < 2 ^ 24)))) r

/-- OUTPUTS_ON (R172): MODE 0 holds the sequencer until the next turn boundary; MODE 1 waits for its turn. -/
def sheetOutputsOn : Sheet :=
  { plainSheet 0x0103 onArgs [5] (fun r s =>
      if s.dev.onAt.isSome then (replySt stBusy, s)
      else if arg r 0 1 = 0 then (replySt stWait, { s with dev := { s.dev with onNext := some r.mb } })
      else (replyAccepted [] [], { s with dev := { s.dev with onAt := some (arg r 2 6) } })) with
    state := fun _ s => if s.dev.state = .staged then none else some stWrongState }

def execOutputsOn (mb : Fin 14) (s : State) : Host.Outcome State Fault Refusal := fin (runSheet sheetOutputsOn mb.val s)

/-- OUTPUTS_ON_AT_TURN (R172): a pending MODE 1 request at its turn boundary. -/
def execOutputsOnAtTurn (s : State) : Host.Outcome State Fault Refusal := fin (if onAtDue s then enterLive 1 s else s)

/-- OUTPUTS_OFF (R14): from LIVE or QUIESCE to STAGED, any drain abandoned; a pending OUTPUTS_ON is cancelled. -/
def sheetOutputsOff : Sheet := plainSheet 0x0104 (fun r _ => argsLen 0 (fun _ => true) r) [] (fun _ s =>
  let s := cancelOn s
  (replyOk [], match s.dev.state with
    | .live => enterStaged 1 s
    | .quiesce => endDrain stOk (enterStaged 1 s)
    | _ => s))

def execOutputsOff (mb : Fin 14) (s : State) : Host.Outcome State Fault Refusal := fin (runSheet sheetOutputsOff mb.val s)

/-- DRAIN_MS; 0 means 100. -/
def drainMs (r : Req) : Nat := if arg r 0 2 = 0 then 100 else arg r 0 2

/-- QUIESCE (R326): from LIVE draining starts; in STAGED a pending OUTPUTS_ON is cancelled. -/
def sheetQuiesce : Sheet :=
  { plainSheet 0x0105 (fun r _ => argsLen 2 (fun r => decide (arg r 0 2 ≤ 10000)) r) [] (fun r s =>
      if s.dev.state = .staged then (replyOk [], cancelOn s)
      else (replyAccepted [] [], startFirm tmDrain (drainMs r * 1000) (setDevState .quiesce 1 s))) with
    state := fun _ s => if s.dev.state = .staged ∨ s.dev.state = .live then none else some stWrongState }

def execQuiesce (mb : Fin 14) (s : State) : Host.Outcome State Fault Refusal := fin (runSheet sheetQuiesce mb.val s)

/-- A slot boundary of the running clock. -/
def atSlotBoundary (s : State) : Bool := decide (s.clk.fine = 0) && isSet GC_CTRL_RUN s

/-- Every enabled port is drained (R326). -/
def allDrained (s : State) : Bool := (enabledPorts s).all (fun p => portDrained p s)

/-- DRAIN_COMPLETE (R326): at a slot boundary, every enabled port drained. -/
def execDrainComplete (s : State) : Host.Outcome State Fault Refusal :=
  fin (if s.dev.state = .quiesce ∧ atSlotBoundary s = true ∧ allDrained s = true then endDrain stOk (enterStaged 4 s) else s)

/-- QUIESCE_DRAIN_TIMEOUT (R14): outputs are forced off. -/
def execQuiesceDrainTimeout (s : State) : Host.Outcome State Fault Refusal :=
  fin (if s.dev.state = .quiesce ∧ timerOn tmDrain s = true then endDrain stTimeout (enterStaged 6 (expire tmDrain s)) else s)

/-- DEVICE_RESET (R83): answered OK; the reset follows DELAY_MS later, the earliest asked for. -/
def sheetDeviceReset : Sheet :=
  { plainSheet 0x0106 (fun r _ => argsLen 2 (fun r => decide (10 ≤ arg r 0 2) && decide (arg r 0 2 ≤ 1000)) r) []
      (fun r s =>
        let due := s.time.us + arg r 0 2 * 1000
        (replyOk [], match tabFind s.time.deadlines tmReset with
          | some t => { s with time := { s.time with deadlines := tabPut s.time.deadlines tmReset (min t due) } }
          | none => startTimer tmReset (arg r 0 2 * 1000) { s with dev := { s.dev with resetDue := true } })) with
    state := fun _ s => if s.dev.state = .live ∨ s.dev.state = .quiesce then some stWrongState else none
    groups := fun r => if r.mb = 8 ∨ r.mb = 13 then [] else natsFrom 0 7 }

def execDeviceReset (mb : Fin 14) (s : State) : Host.Outcome State Fault Refusal := fin (runSheet sheetDeviceReset mb.val s)

/-! ### Claims -/

/-- The groups of a mask, by number. -/
def groupsOf (m : Nat) : List Nat := (natsFrom 0 7).filter (fun g => bitOf m g)

/-- A mask of groups. -/
def groupMask (l : List Nat) : Nat := l.foldl (fun n g => n ||| 2 ^ g) 0

/-- A group goes to a mailbox, with its lease; 0 is none. -/
def claimTake (m lease g : Nat) (s : State) : State :=
  let s := setF (ownerFld g) m s
  if lease = 0 then stopTimer (tmLease g) s else startFirm (tmLease g) (lease * 1000) s

/-- Every mailbox that loses groups of a forced claim is told (R157). -/
def claimForced (m : Nat) (gs : List Nat) (s : State) : State :=
  forEach (fun k s0 =>
    let lost := gs.filter (fun g => decide (ownerOf g s = k))
    if k = m ∨ lost = [] then s0 else claimLost k (groupMask lost) m s0) (natsFrom 0 14) s

/-- CLAIM (R155). -/
def sheetClaim : Sheet :=
  { plainSheet 0x0107 (fun r _ => argsLen 4 (fun r => decide (1 ≤ arg r 0 1) && decide (arg r 0 1 < 128) &&
      decide (arg r 1 1 ≤ 1) && (decide (arg r 2 2 = 0) || decide (100 ≤ arg r 2 2))) r) [] (fun r s =>
      let gs := groupsOf (arg r 0 1)
      if arg r 1 1 = 0 ∧ gs.any (fun g => groupTaken r.mb g s) = true then (⟨stOwned, ownedPayload r.mb gs s, none⟩, s)
      else
        let s := forEach (claimTake r.mb (arg r 2 2)) gs (claimForced r.mb gs s)
        (replyOk (leBytes 1 (groupsHeld r.mb s)), s)) with
    permit := fun r _ => decide (arg r 1 1 = 0) || decide (r.mb = 8) || decide (r.mb = 13) }

def execClaim (mb : Fin 14) (s : State) : Host.Outcome State Fault Refusal := fin (runSheet sheetClaim mb.val s)

/-- RELEASE (R157): groups not held are ignored. -/
def sheetRelease : Sheet := plainSheet 0x0108 (fun r _ => argsLen 1 (fun _ => true) r) [] (fun r s =>
  let s := forEach (fun g s => if ownerOf g s = r.mb then claimDrop g s else s) (groupsOf (arg r 0 1)) s
  (replyOk (leBytes 1 (groupsHeld r.mb s)), s))

def execRelease (mb : Fin 14) (s : State) : Host.Outcome State Fault Refusal := fin (runSheet sheetRelease mb.val s)

/-- The groups whose lease ends with that of group g: the same owner, the same moment. -/
def leaseMates (g : Nat) (s : State) : List Nat :=
  (natsFrom 0 7).filter (fun h => decide (ownerOf h s = ownerOf g s) && timerOn (tmLease h) s &&
    decide (tabGet 0 s.time.deadlines (tmLease h) = tabGet 0 s.time.deadlines (tmLease g)))

/-- A lease ends (R157): CLAIM_LOST with 0xFF, event 0x0111. While a command of the owner runs it does not end. -/
def leaseEnd (g : Nat) (s : State) : State :=
  let m := ownerOf g s
  if timerOn (tmLease g) s && decide (s.dev.onNext ≠ some m) then
    let gs := leaseMates g s
    claimLost m (groupMask gs) 0xFF (forEach claimDrop gs (expire (tmLease g) s))
  else s

def execClaimLeaseExpiry (group : Fin 7) (s : State) : Host.Outcome State Fault Refusal := fin (leaseEnd group.val s)

/-! ### The BAR2 grant, notices, ECHO -/

/-- EXPERT_GRANT (R163): MB8 and MB13 alone; event 0x0112. -/
def sheetExpertGrant : Sheet :=
  { plainSheet 0x0109 (fun r _ => argsLen 4 (fun r => decide (1 ≤ arg r 0 1) && decide (arg r 0 1 ≤ 2) &&
      decide (arg r 1 1 < 32) && decide (arg r 2 2 = 0)) r) [6] (fun r s =>
      let s := setF (MB_EXPERT_SCOPE 0) (arg r 1 1) (setF (MB_EXPERT_WRITE 0) (arg r 0 1 - 1) (setF (MB_EXPERT_GRANTED 0) 1 s))
      (replyOk [], sbEvent 0x0112 [] { s with mail := { s.mail with grantor := r.mb } })) with
    permit := fun r _ => decide (r.mb = 8) || decide (r.mb = 13) }

def execExpertGrant (mb : Fin 14) (s : State) : Host.Outcome State Fault Refusal := fin (runSheet sheetExpertGrant mb.val s)

/-- EXPERT_REVOKE (R165). -/
def sheetExpertRevoke : Sheet :=
  plainSheet 0x010A (fun r _ => argsLen 0 (fun _ => true) r) [] (fun _ s => (replyOk [], grantEnd s))

def execExpertRevoke (mb : Fin 14) (s : State) : Host.Outcome State Fault Refusal := fin (runSheet sheetExpertRevoke mb.val s)

/-- NOTICE_MASK takes a value: bits of codes that are not maskable read 1 (R162). -/
def maskPut (m v : Nat) (s : State) : State := setF (NOTICE_MASK_MASK (ringBox (boxRing m))) (v % 512 ||| noticeFixed) s

/-- NOTICE_MASK (R162). -/
def sheetNoticeMask : Sheet := plainSheet 0x010B (fun r _ => argsLen 4 (fun _ => true) r) [] (fun r s =>
  let s := maskPut r.mb (arg r 0 4) s
  (replyOk (leBytes 4 (getF (NOTICE_MASK_MASK (ringBox (boxRing r.mb))) s)), s))

def execNoticeMask (mb : Fin 14) (s : State) : Host.Outcome State Fault Refusal := fin (runSheet sheetNoticeMask mb.val s)

/-- ECHO. -/
def sheetEcho : Sheet :=
  plainSheet 0x010C (fun r _ => if r.len ≤ 3808 then none else some stBadArg) [] (fun r s => (replyOk r.payload, s))

def execEcho (mb : Fin 14) (s : State) : Host.Outcome State Fault Refusal := fin (runSheet sheetEcho mb.val s)

end Sys2Proof.Machine
end

