-- ==== Sys2Proof/Machine/MailRows.lean ====
section
/-! DEFINITION. The mailbox block's own rows: rings, the sequencer, NOTICE_CONS, the MSI-X interval (R143 to R147, R161, R162);
and a master's access to its mailbox window and its notice ring (R136, R138, R143). -/

namespace Sys2Proof.Machine

/-- The OPCODE bytes in a request buffer, as the sequencer reads them at ring time (R145). -/
def ringOpcode (m : Nat) (s : State) : Nat := fieldAt (reqBytes m 2 s) 0 2

/-- An opcode is of SAFETY class (R145). -/
def safetyClass (op : Nat) : Bool := decide (op = 0x0104) || decide (op = 0x0105) || decide (op / 256 = 0x0B)

/-- The order of mailboxes that ring in one cycle (R144). -/
def ringOrder : List Nat := [8, 0, 1, 2, 3, 4, 5, 6, 7, 13, 9, 10, 11, 12]

/-- A ring is accepted (R143): BUSY, and RSP_READY is cleared; otherwise DB_REJECT. -/
def ringOne (m : Nat) (s : State) : State :=
  if isSet (MB_STATUS_BUSY m) s then setF (MB_STATUS_DB_REJECT m) 1 s
  else setF (MB_STATUS_RSP_READY m) 0 (setF (MB_STATUS_BUSY m) 1 s)

/-- Doorbells that arrive in one cycle (R143 to R146): SAFETY class first, then the order of R144; an OUTPUTS_ON beside an
OUTPUTS_OFF or a QUIESCE is lost. -/
def ringAll (ms : List Nat) (s : State) : State :=
  let rung := ringOrder.filter (fun m => ms.contains m)
  let taken := rung.filter (fun m => !isSet (MB_STATUS_BUSY m) s)
  let off := taken.any (fun m => decide (ringOpcode m s = 0x0104) || decide (ringOpcode m s = 0x0105))
  let order := taken.filter (fun m => safetyClass (ringOpcode m s)) ++
    taken.filter (fun m => !safetyClass (ringOpcode m s))
  let new := order.map (fun m => (⟨m, off && decide (ringOpcode m s = 0x0103)⟩ : Seq))
  let s := forEach ringOne rung s
  { s with mail := { s.mail with queue := s.mail.queue ++ new } }

/-- MB_DOORBELL_RING: every mailbox of the list rings in the same cycle. -/
def execMbDoorbellRing (mbs : List (Fin 14)) (s : State) : Host.Outcome State Fault Refusal :=
  fin (ringAll (mbs.map (·.val)) s)

/-- A write to NOTICE_CONS of mailbox m (R161): ignored with CONS_BAD where it would pass PROD or fall behind PROD less the
ring's size; otherwise space returns, and OVERFLOW is written where notices were dropped. -/
def consWrite (m v : Nat) (s : State) : State :=
  let r := boxRing m
  if ringSize r < (getF (NOTICE_PROD_PROD (ringBox r)) s + 2 ^ 32 - v % 2 ^ 32) % 2 ^ 32 then setF (MB_STATUS_CONS_BAD m) 1 s
  else ringOverflow r (setF (NOTICE_CONS_CONS (ringBox r)) v s)

def execNoticeConsWrite (mb : Fin 14) (value : BitVec 32) (s : State) : Host.Outcome State Fault Refusal :=
  fin (consWrite mb.val value.toNat s)

/-- NOTICE_MSI_INTERVAL_END (R162): a notice written within the interval is signalled at its end. -/
def msiEnd (s : State) : State :=
  if timerOn tmMsi8 s then
    let s := expire tmMsi8 s
    if s.mail.msiOwed then msix 8 (startTimer tmMsi8 10 { s with mail := { s.mail with msiOwed := false } }) else s
  else s

def execNoticeMsiIntervalEnd (s : State) : Host.Outcome State Fault Refusal := fin (msiEnd s)

/-! ### A master's view of its window (R136) -/

/-- The mailbox whose registers stand at an offset of mailbox m's window: the host mailboxes share the notice and expert
registers of MB0. -/
def winBox (m off : Nat) : Nat := if m < 8 ∧ 0x1F90 ≤ off then 0 else m

/-- A register word of a mailbox window. MB_EXPERT and EXPERT_VIOL of MB8 to MB13 are reserved. -/
def winReg (m off : Nat) (s : State) : Nat :=
  if off < 0x1F80 ∨ (8 ≤ m ∧ 0x1FA0 ≤ off) then 0
  else regWord (0x3F00C00000 + winBox m off * 0x2000 + off) s

/-- A write of a whole register of a mailbox window (R136, R143, R161, R164). -/
def winRegWrite (m off v : Nat) (s : State) : State :=
  if off = 0x1F80 then (if bitOf v 0 then ringAll [m] s else s)
  else if off = 0x1F84 then
    forEach (fun (f : Fld) s => if bitOf v f.lo then setF f 0 s else s)
      [MB_STATUS_DB_REJECT m, MB_STATUS_WR_WHILE_BUSY m, MB_STATUS_RESET_SEEN m, MB_STATUS_CONS_BAD m] s
  else if off = 0x1F88 then setF (MB_CTRL_NOTICE_IRQ_EN m) (v / 2) (setF (MB_CTRL_RSP_IRQ_EN m) v s)
  else if off = 0x1F94 then consWrite m v s
  else if off = 0x1F9C then maskPut m v s
  else if off = 0x1FA0 ∧ m < 8 then setF (MB_EXPERT_WIN_BASE 0) v s
  else if off = 0x1FA4 ∧ m < 8 then (if bitOf v 31 then setF (EXPERT_VIOL_OVF 0) 0 s else s)
  else s

/-- A byte of the request buffer is written (R143): ignored with WR_WHILE_BUSY while the buffer is locked. -/
def reqPut (m off : Nat) (b : BitVec 8) (s : State) : State :=
  if isSet (MB_STATUS_BUSY m) s then setF (MB_STATUS_WR_WHILE_BUSY m) 1 s
  else boxSet m { boxOf m s with req := tabSet 0 (boxOf m s).req off b } s

/-- A byte of a mailbox window's buffers. -/
def winByte (m off : Nat) (s : State) : BitVec 8 :=
  if off < 0x1080 then tabGet 0 (boxOf m s).req off
  else if off < 0x1F80 then listGet 0 (boxOf m s).rsp (off - 0x1080)
  else BitVec.ofNat 8 (winReg m (off / 4 * 4) s / 2 ^ (8 * (off % 4)))

/-- A byte of notice ring r; entries that nothing has written read 0 (log entry 23). -/
def ringByte (r off : Nat) (s : State) : BitVec 8 :=
  if off / 32 < ringSize r then listGet 0 (tabGet [] s.mail.rings (r * 4096 + off / 32)) (off % 32) else 0

/-- A 4-byte read of a mailbox window. -/
def winRead (m off : Nat) (s : State) : Nat :=
  leNat [winByte m off s, winByte m (off + 1) s, winByte m (off + 2) s, winByte m (off + 3) s]

/-- A 4-byte write of a mailbox window: the response buffer ignores it. -/
def winWrite (m off v : Nat) (s : State) : State :=
  if off < 0x1080 then
    forEach (fun k => reqPut m (off + k) (BitVec.ofNat 8 (v / 2 ^ (8 * k)))) (natsFrom 0 4) s
  else if off < 0x1F80 then s
  else winRegWrite m off v s

/-- A 4-byte read of a notice ring. -/
def ringRead (r off : Nat) (s : State) : Nat :=
  leNat [ringByte r off s, ringByte r (off + 1) s, ringByte r (off + 2) s, ringByte r (off + 3) s]

/-! ### The management I2C bus (R138) -/

/-- The bytes of a register word before the first that a transfer writes: those of the register as it stands, and 0 where they
would clear a bit (log entry 24). -/
def i2cBase (off : Nat) (s : State) : List (BitVec 8) :=
  if off / 4 * 4 = 0x1F84 then List.replicate (off % 4) 0
  else (natsFrom (off / 4 * 4) (off % 4)).map (fun k => winByte 8 k s)

/-- Data bytes of a write to MB8's window: buffer bytes take effect as they come, a register when its last byte is written.
`acc` holds the earlier bytes of the present word. -/
def i2cPut : List (BitVec 8) → Nat → List (BitVec 8) → State → State
  | [], _, _, s => s
  | b :: l, off, acc, s =>
    let w := if off % 4 = 0 then [b] else acc ++ [b]
    let s := if off < 0x1080 then reqPut 8 off b s
      else if 0x1F80 ≤ off ∧ off < 0x2000 ∧ off % 4 = 3 then winRegWrite 8 (off - 3) (leNat w) s
      else s
    i2cPut l ((off + 1) % 65536) w s

/-- The bytes a read returns: offsets of MB8's window and of ring 1; others read 0xFF. A register read latches its word when
its first byte is read. -/
def i2cGet (s : State) : Nat → Nat → List (BitVec 8)
  | _, 0 => []
  | off, n + 1 =>
    (if off < 0x2000 then winByte 8 off s
     else if off < 0x3000 then ringByte 1 (off - 0x2000) s
     else 0xFF) :: i2cGet s ((off + 1) % 65536) n

/-- The transfer addresses this device (R113, R138). -/
def i2cHere (addr : BitVec 7) (s : State) : Bool := decide (addr.toNat = getF MID_MGMT_TADDR s)

/-- MGMT_I2C_WRITE. -/
def execMgmtI2cWrite (addr : BitVec 7) (offset : BitVec 16) (bytes : List (BitVec 8)) (s : State) :
    Host.Outcome State Fault Refusal :=
  finG (if i2cHere addr s then i2cPut bytes offset.toNat (i2cBase offset.toNat s) s else s)

/-- MGMT_I2C_READ. -/
def execMgmtI2cRead (addr : BitVec 7) (offset : BitVec 16) (n : Nat) (s : State) : Host.Outcome State Fault Refusal :=
  fin (if i2cHere addr s then emit (.i2cData (i2cGet s offset.toNat n)) s else s)

end Sys2Proof.Machine
end

