-- ==== Sys2Proof/Machine/Images.lean ====
section
/-! DEFINITION. Slots as they are read and checked (R115 to R118, R126), keys, and the IMAGE commands but IMAGE_BOOT
(R117, R118, R121, R134). -/

namespace Sys2Proof.Machine

/-- A read of the flash by the Referee: its bytes, and whether all of it was good. An undefined page gives free values
(R363). -/
def slotRead (a n : Nat) (s : State) : (List (BitVec 8) × Bool) × State :=
  let r := flRead a n flGood s
  ((r.1.data, r.1.bad.isNone), r.2)

/-- The commit page and the header of a slot, and its commit state. -/
def slotHead (n : Nat) (s : State) : (Commit × List (BitVec 8) × List (BitVec 8)) × State :=
  let p := slotRead (commitAddr n) 256 s
  let h := slotRead (slotBase n) (slotHdrLen n) p.2
  let c := commitOf n p.1.1 h.1.1
  ((if p.1.2 && (h.1.2 || decide (c = .empty)) then c else .bad, p.1.1, h.1.1), h.2)

/-- The stored body behind a header. -/
def slotBody (n : Nat) (h : List (BitVec 8)) (s : State) : (List (BitVec 8) × Bool) × State :=
  slotRead (slotBase n + slotHdrLen n) (fieldAt h (bodyLenAt n) 4) s

/-- Checks 3 to 10 of R126 on what a slot holds: 0 where all pass. A body that does not read is DIGEST_BAD. -/
def slotCheck (n : Nat) (hdrOk : Bool) (a : HdrAt) (h : List (BitVec 8)) (readBad : Bool) (s : State) : Nat × State :=
  if !hdrOk then (3, s)
  else
    let b := slotBody n h s
    let c := checkImage a h b.1.1 b.2
    ((if (!b.1.2 || readBad) && (decide (c = 0) || decide (7 ≤ c)) then 7 else c), b.2)

/-- A firmware package carries Iluphor's signature and its body is no longer than R115 allows. -/
def firmwareOk (n : Nat) (h : List (BitVec 8)) (s : State) : Bool × State :=
  let b := slotBody n h s
  (b.1.2 && decide (fieldAt h 40 4 ≤ 917504) && Config.firmwareSigned (h ++ b.1.1), b.2)

/-- KEY_STATUS as it reads (R121). -/
def keyStatusWord (s : State) : Nat :=
  natOfBool (decide (tabGet 0 s.boot.fuses 0 ≠ 0)) + 2 * natOfBool s.boot.vbattKey.isSome +
    4 * natOfBool s.boot.requireEnc + 8 * natOfBool s.boot.efuseOnly +
    (natsFrom 0 4).foldl (fun n k => n + 2 ^ (4 + k) * natOfBool (decide (tabGet 0 s.boot.fuses (k + 1) ≠ 0))) 0 +
    256 * (s.boot.revoke % 16)

/-- UNANCHORED follows the key hashes (R121). -/
def anchorFollow (s : State) : State := setB BOOT_STATUS_UNANCHORED (unanchored s) s

/-! ### The commands -/

/-- IMAGE_STATUS. -/
def sheetImageStatus : Sheet := plainSheet 0x0201 (fun r _ => argsLen 0 (fun _ => true) r) [] (fun _ s =>
  (replyOk (leBytes 4 (regWord BOOT_STATUS_SLOT.addr s) ++ leBytes 4 (regWord BOOT_REASON_GOLDEN.addr s) ++
    leBytes 4 (getF IMG_VERSION_VERSION s) ++ leBytes 4 (keyStatusWord s) ++
    leBytes 4 (getF HUDDLE_TURN0_TURN_LO s) ++ leBytes 2 (getF HUDDLE_TURN1_TURN_HI s) ++ leBytes 2 0), s))

def execImageStatus (mb : Fin 14) (s : State) : Host.Outcome State Fault Refusal := fin (runSheet sheetImageStatus mb.val s)

/-- The code of a commit state in IMAGE_SLOT_INFO. -/
def commitCode : Commit → Nat
  | .valid => 0
  | .empty => 1
  | .bad => 2

/-- IMAGE_SLOT_INFO. -/
def sheetImageSlotInfo : Sheet :=
  plainSheet 0x0202 (fun r _ => argsLen 1 (fun r => decide (arg r 0 1 ≤ 4)) r) [] (fun r s =>
    let x := slotHead (arg r 0 1) s
    (replyOk (leBytes 1 (commitCode x.1.1) ++ leBytes 3 0 ++ leBytes 4 (fieldAt x.1.2.1 4 4) ++ x.1.2.2.take 256), x.2))

def execImageSlotInfo (mb : Fin 14) (s : State) : Host.Outcome State Fault Refusal :=
  fin (runSheet sheetImageSlotInfo mb.val s)

/-- The guard level lets a mailbox write a slot (R369). -/
def slotMayWrite (m n : Nat) (s : State) : Bool :=
  match guardLevel s with
  | 0 => true
  | 1 => decide (n = 1) || decide (n = 2) || decide (64 ≤ n) || decide (m = 8) || decide (m = 13)
  | _ => if n = 1 ∨ n = 2 ∨ 64 ≤ n then decide (m ≤ 8) else decide (m = 8)

/-- The bank of the running image, if one runs. -/
def imageBank (s : State) : Option Nat :=
  if getF BOOT_STATUS_SLOT s = 7 then none else some (flBank (slotBase (getF BOOT_STATUS_SLOT s)))

/-- The firmware runs from slot n: it came from there. -/
def runningFw (n : Nat) (s : State) : Bool := decide (s.boot.fw ≠ 0) && decide (n = 3 + getF BOOT_STATUS_FW_SLOT s)

/-- LIVE or QUIESCE. -/
def runsLive (s : State) : Bool :=
  match s.dev.state with
  | .live => true
  | .quiesce => true
  | _ => false

/-- The sectors that a begin command erases: that of the commit page, then those that cover LENGTH (R118). -/
def beginSectors (n len : Nat) : List Nat :=
  commitAddr n / 65536 * 65536 :: (natsFrom 0 ((len + 65535) / 65536)).map (fun i => slotBase n + i * 65536)

/-- A begin command starts: the slot is closed, planes lose it as their source (R215), and the erases follow one another. -/
def beginStart (n len job : Nat) (s : State) : State :=
  let s := sourceLost n { s with boot := { s.boot with open_ := tabDel s.boot.open_ n } }
  match beginSectors n len with
  | [] => s
  | a :: l => flBegin ⟨3, 2, a, [], l, 0, job⟩ flGood s

/-- IMAGE_WRITE_BEGIN. -/
def sheetImageWriteBegin : Sheet :=
  { plainSheet 0x0203 (fun r _ => argsLen 8 (fun r => decide (arg r 0 1 ≤ 4) && decide (arg r 1 3 = 0) &&
      decide (arg r 4 4 ≤ slotSize (arg r 0 1) - 256)) r) [1] (fun r s =>
      let n := arg r 0 1
      if s.boot.removal then (replySt stHwFault, s)
      else (replyAccepted [n, 0, arg r 4 4] [], beginStart n (arg r 4 4) (0x0203 + 65536 * n) s)) with
    permit := fun r s => slotMayWrite r.mb (arg r 0 1) s
    state := fun r s =>
      let n := arg r 0 1
      if s.dev.state = .verify ∨ s.dev.state = .load ∨ runningFw n s = true ∨
          (runsLive s = true ∧ imageBank s = some (flBank (slotBase n))) then some stWrongState
      else none }

def execImageWriteBegin (mb : Fin 14) (s : State) : Host.Outcome State Fault Refusal :=
  fin (runSheet sheetImageWriteBegin mb.val s)

/-- Pages of a slot are programmed in ascending order; `fail` is the page whose verify fails. A page that is not erased
fails too. -/
def slotPages (fail : Option (Fin 16)) : Nat → Nat → Nat → List (BitVec 8) → State → Reply × State
  | 0, _, _, _, s => (replyOk [], s)
  | n + 1, i, a, d, s =>
    if flPage s a ≠ 0 then (replySt stHwFault, s)
    else if fail.map Fin.val = some i then (replySt stHwFault, sbEvent 0x0802 [] (flSpoilPage a s))
    else slotPages fail n (i + 1) (a + 256) (d.drop 256) (flProgram a (d.take 256) s)

/-- LENGTH and OFFSET of a data command of `len` payload bytes whose data begin at byte 12, against an open LENGTH. -/
def dataArgs (len off n : Nat) (open_ : Option Nat) : Bool :=
  decide (256 ≤ n) && decide (n ≤ 4096) && decide (n % 256 = 0) && decide (off % 256 = 0) && decide (len = 12 + n) &&
    (match open_ with
     | some l => decide (off + n ≤ roundUp l 256)
     | none => true)

/-- IMAGE_WRITE_DATA. -/
def sheetImageWriteData (fail : Option (Fin 16)) : Sheet :=
  { plainSheet 0x0204 (fun r s =>
      if arg r 0 1 ≤ 4 ∧ arg r 1 3 = 0 ∧ dataArgs r.len (arg r 4 4) (arg r 8 4) (tabFind s.boot.open_ (arg r 0 1)) = true
      then none else some stBadArg) [1] (fun r s =>
      if s.boot.removal then (replySt stHwFault, s)
      else slotPages fail (arg r 8 4 / 256) 0 (slotBase (arg r 0 1) + arg r 4 4) (r.payload.drop 12) s) with
    state := fun r s => if (tabFind s.boot.open_ (arg r 0 1)).isSome then none else some stWrongState }

def execImageWriteData (mb : Fin 14) (fail : Option (Fin 16)) (s : State) : Host.Outcome State Fault Refusal :=
  fin (runSheet (sheetImageWriteData fail) mb.val s)

/-- The SEQ that a commit of slot n takes (R134): as given; for 0 one more than the other user slot's, or 1; none where that
would be 0xFFFF_FFFF. -/
def commitSeqFor (n seq : Nat) (s : State) : Option Nat × State :=
  if seq ≠ 0 then (some seq, s)
  else if n = 1 ∨ n = 2 then
    let x := slotHead (3 - n) s
    let q := fieldAt x.1.2.1 4 4
    if x.1.1 = .valid then (if q = 0xFFFFFFFE then none else some (q + 1), x.2) else (some 1, x.2)
  else (some 1, s)

/-- IMAGE_COMMIT: the checks follow; the begin command is no longer open. -/
def sheetImageCommit : Sheet :=
  { plainSheet 0x0205 (fun r _ => argsLen 8 (fun r => decide (arg r 0 1 ≤ 4) && decide (arg r 1 3 = 0) &&
      (decide (arg r 0 1 ≠ 1 ∧ arg r 0 1 ≠ 2) || decide (arg r 4 4 ≠ 0xFFFFFFFF))) r) [1] (fun r s =>
      let n := arg r 0 1
      match commitSeqFor n (arg r 4 4) s with
      | (none, s) => (replySt stBadArg, s)
      | (some q, s) => (replyAccepted [n, q] [], { s with boot := { s.boot with open_ := tabDel s.boot.open_ n } })) with
    state := fun r s => if (tabFind s.boot.open_ (arg r 0 1)).isSome then none else some stWrongState }

def execImageCommit (mb : Fin 14) (s : State) : Host.Outcome State Fault Refusal := fin (runSheet sheetImageCommit mb.val s)

/-- The status of a rejection (sheets of 0x0205 and 0x0702). -/
def reasonStatus (c : Nat) : Nat := if c = 0 then stOk else if c = 5 ∨ c = 6 ∨ c = 9 then stAuthFail else stBadArg

/-- A flash operation of this job runs or waits. -/
def jobBusy (job : Nat) (s : State) : Bool :=
  s.flash.ops.any (fun p => decide (p.2.job = job)) || s.flash.waiting.any (fun o => decide (o.job = job))

/-- An asynchronous command ends here, with a reason in the notice. -/
def asyncDone (a : Async) (st detail : Nat) (s : State) : State :=
  complete a st detail [] { s with mail := { s.mail with running := s.mail.running.erase a } }

/-- The checks of an IMAGE_COMMIT have run (R118, R126): it is refused with the reason, or its record is programmed. -/
def commitRun (a : Async) (readBad : Bool) (s : State) : State :=
  let n := listGet 0 a.args 0
  let job := 0x0205 + 65536 * n
  if jobBusy job s then s
  else
    let h := slotRead (slotBase n) 4096 s
    let x : Nat × State :=
      if n < 3 then slotCheck n (h.1.2 && deviceHdrOk n h.1.1) hdrDevice h.1.1 readBad h.2
      else
        let f := firmwareOk n h.1.1 h.2
        (if f.1 && h.1.2 && !readBad then 0 else 6, f.2)
    if x.1 ≠ 0 then asyncDone a (reasonStatus x.1) x.1 x.2
    else if x.2.boot.removal then asyncDone a stHwFault 0 x.2
    else flBegin ⟨3, 1, commitAddr n, commitBytes n (listGet 0 a.args 1) h.1.1, [], 0, job⟩ flGood x.2

/-- IMAGE_KEY_LOAD (R121): event 0x010B. -/
def sheetImageKeyLoad : Sheet :=
  { plainSheet 0x0207 (fun r _ => argsLen 32 (fun _ => true) r) [1] (fun r s =>
      (replyOk ((Config.aesBlock r.payload (List.replicate 16 0)).take 3),
        sbEvent 0x010B [] { s with boot := { s.boot with vbattKey := some r.payload } })) with
    permit := fun r s => (decide (r.mb = 8) || decide (r.mb = 13)) && !s.boot.efuseOnly }

def execImageKeyLoad (mb : Fin 14) (s : State) : Host.Outcome State Fault Refusal :=
  fin (runSheet sheetImageKeyLoad mb.val s)

/-- IMAGE_KEY_CLEAR: event 0x010B. -/
def sheetImageKeyClear : Sheet :=
  { plainSheet 0x0208 (fun r _ => argsLen 0 (fun _ => true) r) [1] (fun _ s =>
      (replyOk [], sbEvent 0x010B [] { s with boot := { s.boot with vbattKey := none } })) with
    permit := fun r _ => decide (r.mb = 8) || decide (r.mb = 13) }

def execImageKeyClear (mb : Fin 14) (s : State) : Host.Outcome State Fault Refusal :=
  fin (runSheet sheetImageKeyClear mb.val s)

/-- The fuse key of a FIELD of IMAGE_EFUSE_PROGRAM that is not a single bit, and its width in bytes. -/
def fuseAt (field : Nat) : Nat × Nat :=
  if field = 0 then (0, 32) else if field ≤ 4 then (field, 48) else (field - 3, 2)

/-- A field or bit of the key store is programmed (R121). -/
def fuseSet (field index : Nat) (s : State) : Bool :=
  if field = 5 then bitOf s.boot.revoke index
  else if field = 6 then s.boot.requireEnc
  else if field = 7 then s.boot.efuseOnly
  else decide (tabGet 0 s.boot.fuses (fuseAt field).1 ≠ 0)

/-- Program a field or bit of the key store with a value. -/
def fusePut (field index v : Nat) (s : State) : State :=
  if field = 5 then { s with boot := { s.boot with revoke := if bitOf v 0 then withBit s.boot.revoke index else s.boot.revoke } }
  else if field = 6 then { s with boot := { s.boot with requireEnc := bitOf v 0 } }
  else if field = 7 then { s with boot := { s.boot with efuseOnly := bitOf v 0 } }
  else { s with boot := { s.boot with
    fuses := tabSet 0 s.boot.fuses (fuseAt field).1 (v % 256 ^ (fuseAt field).2) } }

/-- IMAGE_EFUSE_PROGRAM (R121): event 0x010C. Where the verify fails, what the fuses then hold is a free value. -/
def sheetImageEfuseProgram (ok : Bool) : Sheet :=
  { plainSheet 0x0209 (fun r _ => argsLen 52 (fun r => decide (arg r 0 1 ≤ 10) && decide (arg r 2 2 = 0) &&
      (decide (arg r 0 1 ≠ 5) || decide (arg r 1 1 < 4))) r) [1] (fun r s =>
      let v := if ok then arg r 4 48 else freeNat s
      let s := sbEvent 0x010C [] (anchorFollow (fusePut (arg r 0 1) (arg r 1 1) v (if ok then s else useFree s)))
      (if ok then replyOk [] else replySt stHwFault, s)) with
    permit := fun r s => (decide (r.mb = 8) || decide (r.mb = 13)) && !fuseSet (arg r 0 1) (arg r 1 1) s }

def execImageEfuseProgram (mb : Fin 14) (ok : Bool) (s : State) : Host.Outcome State Fault Refusal :=
  fin (runSheet (sheetImageEfuseProgram ok) mb.val s)

end Sys2Proof.Machine
end

