-- ==== Sys2Proof/Machine/Fabric.lean ====
section
/-! DEFINITION. The fabric's rows and commands (R181 to R191, R201 to R212). -/

namespace Sys2Proof.Machine

/-! ### Commands -/

/-- FABRIC_PORT_STATUS. -/
def sheetFabricPortStatus : Sheet := plainSheet 0x0740 (fun r _ => argsLen 1 (fun r => decide (arg r 0 1 < 80)) r) [] (fun r s =>
  let g := arg r 0 1
  (replyOk (leBytes 1 (fpState g s) ++ leBytes 1 (fpCause g s) ++ leBytes 1 (fpOutstanding g s) ++
    leBytes 1 (getF (POWER_ON g) s) ++ ctrBytes (ctFP g 0) s ++ ctrBytes (ctFP g 1) s ++
    leBytes 4 (getF (FP_STATUS_TGT_TIMEOUT_EV g) s + 2 * getF (FP_STATUS_PROTO_ERR g) s + 4 * getF (FP_STATUS_CFG_REJECT g) s +
      8 * getF (FP_STATUS_DR_UE g) s + 16 * getF (FP_STATUS_TR_UE g) s)), s))

def execFabricPortStatus (mb : Fin 14) (s : State) : Host.Outcome State Fault Refusal :=
  fin (runSheet sheetFabricPortStatus mb.val s)

/-- Isolation by FABRIC_PORT_ISOLATE or FP_CTRL.RELEASE ends, where it may (R207). -/
def portRelease (r : Nat) (s : State) : State :=
  if fpCause r s = fcNone then s else if releaseRefused r s = true then fpReject r s else fabRelease r s

/-- FABRIC_PORT_ISOLATE (R201, R207). -/
def sheetFabricPortIsolate : Sheet :=
  { plainSheet 0x0741 (fun r _ => argsLen 2 (fun r => decide (arg r 0 1 < 80) && decide (arg r 1 1 ≤ 1)) r) [1] (fun r s =>
      let g := arg r 0 1
      let s := if arg r 1 1 = 0 then fabIsolate g fcCommand s else portRelease g s
      (replyOk (leBytes 1 (fpState g s)), s)) with
    state := fun r s =>
      if (if arg r 1 1 = 0 then decide (fpCause (arg r 0 1) s = fcAsleep) else releaseRefused (arg r 0 1) s) then some stWrongState
      else none }

def execFabricPortIsolate (mb : Fin 14) (s : State) : Host.Outcome State Fault Refusal :=
  fin (runSheet sheetFabricPortIsolate mb.val s)

/-- FABRIC_MEM_ERRORS (R184, R191). -/
def sheetFabricMemErrors : Sheet :=
  { plainSheet 0x0742 (fun r _ => argsLen 2 (fun r => decide (arg r 0 1 < 80) && decide (arg r 1 1 ≤ 1)) r) [] (fun r s =>
      let g := arg r 0 1
      let p := ((natsFrom 2 4).map (fun i => ctrBytes (ctFP g i) s)).flatten ++
        leBytes 4 (regWord (DR_UE_LOG_WORD g).addr s) ++ leBytes 4 (regWord (TR_UE_LOG_WORD g).addr s) ++
        leBytes 1 (getF (MEM_CTRL_DR_PASS g) s) ++ leBytes 1 (getF (MEM_CTRL_TR_PASS g) s) ++ leBytes 2 0
      (replyOk p, if arg r 1 1 = 0 then s else
        forEach (fun f s => setF f 0 s) [DR_UE_LOG_WORD g, DR_UE_LOG_BLOCK g, DR_UE_LOG_BYTES g, DR_UE_LOG_VALID g,
          TR_UE_LOG_WORD g, TR_UE_LOG_BLOCK g, TR_UE_LOG_VALID g, FP_STATUS_DR_UE g, FP_STATUS_TR_UE g] s)) with
    groups := fun r => if arg r 1 1 = 0 then [] else [1] }

def execFabricMemErrors (mb : Fin 14) (s : State) : Host.Outcome State Fault Refusal :=
  fin (runSheet sheetFabricMemErrors mb.val s)

/-- A load of a region ends because the region loses power. -/
def loadOff (r : Nat) (s : State) : State :=
  match s.cfg.load with
  | some l => if l.region = r then loadCut l s else s
  | none => s

/-- A region loses power (R209): both planes, all RAM contents and what its logic drives. -/
def regionOff (r : Nat) (s : State) : State :=
  let s := setF (RGN_STATUS_SHADOW_STATE r) shBlank (planeClear 1 r (planeClear 0 r (loadOff r s)))
  let s := deepLose r (tileLoad r s)
  let s : State := { s with fab := { s.fab with
    fresh := s.fab.fresh.filter (· ≠ r), off := r :: s.fab.off
    irq := tabDel s.fab.irq r, throttle := s.fab.throttle.filter (· ≠ r), shownThrottle := s.fab.shownThrottle.filter (· ≠ r) } }
  sbEvent 0x0335 [] (fpSet r fpAsleep fcAsleep (setF (POWER_ON r) 0 s))

/-- FABRIC_REGION_POWER (R209). -/
def sheetFabricRegionPower : Sheet :=
  { plainSheet 0x0743 (fun r _ => argsLen 2 (fun r => decide (arg r 0 1 < 80) && decide (arg r 1 1 ≤ 1)) r) [1] (fun r s =>
      let g := arg r 0 1
      (replyOk [], if arg r 1 1 = 0 then regionOff g s
        else { s with fab := { s.fab with waking := g :: s.fab.waking } })) with
    state := fun r s =>
      let g := arg r 0 1
      let ok := if arg r 1 1 = 0 then decide (fpState g s = fpIsolated) && decide (fpCause g s = fcCommand)
        else s.fab.off.contains g && !s.fab.waking.contains g
      if ok then none else some stWrongState }

def execFabricRegionPower (mb : Fin 14) (s : State) : Host.Outcome State Fault Refusal :=
  fin (runSheet sheetFabricRegionPower mb.val s)

/-- REGION_POWER_ON_COMPLETE (R209): blank, ISOLATED with cause COMMAND. -/
def regionOn (r : Nat) (s : State) : State :=
  if s.fab.waking.contains r then
    let s : State := { s with fab := { s.fab with
      off := s.fab.off.filter (· ≠ r), waking := s.fab.waking.filter (· ≠ r) } }
    sbEvent 0x0335 [] (fpSet r fpIsolated fcCommand (setF (POWER_ON r) 1 s))
  else s

def execRegionPowerOnComplete (region : Fin 80) (s : State) : Host.Outcome State Fault Refusal := fin (regionOn region.val s)

/-! ### FP_CTRL and the user lines -/

def execFpIsolate (region : Fin 80) (s : State) : Host.Outcome State Fault Refusal := fin (fabIsolate region.val fcCommand s)

def execFpRelease (region : Fin 80) (s : State) : Host.Outcome State Fault Refusal := fin (portRelease region.val s)

/-- A write of FAB_USER_LINE u is held (R212): as the last value its two fields were given. -/
def userLineWrite (u v : Nat) (s : State) : State :=
  setF FAB_USER_COMMIT_HELD 1 { s with fab := { s.fab with lineHeld := tabPut s.fab.lineHeld u (v % 128 + 256 * (v / 256 % 8)) } }

/-- FAB_USER_COMMIT (R7, R212): what is held waits for the turn boundary; with nothing held there is no effect. -/
def userCommit (s : State) : State :=
  if s.fab.lineHeld = [] then s
  else setF FAB_USER_COMMIT_ARMED 1 (setF FAB_USER_COMMIT_HELD 0 { s with fab := { s.fab with
    lineArmed := s.fab.lineHeld.foldl (fun t p => tabPut t p.1 p.2) s.fab.lineArmed, lineHeld := [] } })

def execFabUserCommit (s : State) : Host.Outcome State Fault Refusal := fin (userCommit s)

/-! ### Initiator requests -/

/-- A request answered by the port itself (R204). -/
def fpOwnError (r tag st : Nat) (s : State) : State :=
  emit (.fabric r 0 tag st []) (setF (FP_STATUS_PROTO_ERR r) 1 (incC (ctFP r 0) s))

/-- The CSR blocks that a fabric port may reach (R204): Game Clock, Whistle, Dugout, NoC, lanes. -/
def fpCsrBlock (a : Nat) : Bool := [1, 3, 4, 5, 7].contains ((a - 0x3F00000000) / 0x100000)

/-- The beats of a write in packets (R245): a middle beat with a byte enable clear begins a new packet. -/
def splitBeats : List (List (BitVec 8) × Nat) → List (List (BitVec 8) × Nat) → List (List (List (BitVec 8) × Nat))
  | cur, [] => [cur]
  | cur, x :: rest =>
    if rest ≠ [] ∧ x.2 ≠ 0xFFFFFFFF then cur :: splitBeats [x] rest else splitBeats (cur ++ [x]) rest

/-- The packets of a write: one for each part, at its own address. -/
def writeParts (k : Pkt) : Nat → List (List (List (BitVec 8) × Nat)) → List Pkt
  | _, [] => []
  | a, p :: l =>
    { k with
      addr := a, len := p.length - 1, data := (p.map (·.1)).flatten
      beFirst := match p with | x :: _ => x.2 | [] => 0
      beLast := match p.reverse with | x :: _ => x.2 | [] => 0 } :: writeParts k (a + 32 * p.length) l

/-- FABRIC_INITIATOR_REQUEST (R202 to R204): taken only in READY and while the tag is free; otherwise it waits. -/
def fabRequest (r : Nat) (q : FabReq) (s : State) : State :=
  let a := q.addr.toNat
  let n := q.len.val
  let tag := q.tag.val
  let node := nodeOf a
  let csr := decide (node = some 109)
  if fpState r s ≠ fpReady ∨ (tabFind s.fab.tags (64 * r + tag)).isSome = true then s
  else if csr = false ∧ (a % 32 ≠ 0 ∨ 4096 < a % 4096 + 32 * (n + 1)) then fpOwnError r tag nsTargetError s
  else
    match node with
    | none => fpOwnError r tag nsNoTarget s
    | some d =>
      if d = 86 ∨ (csr = true ∧ (isSet (FP_CTRL_CSR_EN r) s = false ∨ fpCsrBlock a = false)) then
        fpOwnError r tag nsNoTarget s
      else
        let k : Pkt := { pktZero with
          dest := d, src := r, op := if csr then (if q.write then opCsrWr else opCsrRd) else if q.write then opWr else opRd
          tag := tag, len := n, addr := a, era := fpEra r s }
        let beats := (natsFrom 0 (n + 1)).map (fun i => (padTo 32 (beatOf q.data i), (listGet 0 q.be i).toNat))
        let ks := if q.write then (match beats with | x :: l => writeParts k a (splitBeats [x] l) | [] => []) else [k]
        let s : State := { s with fab := { s.fab with
          tags := tabPut s.fab.tags (64 * r + tag) ⟨k.op, ks.length, 0, s.time.us⟩ } }
        forEach inject ks s

def execFabricInitiatorRequest (region : Fin 80) (q : FabReq) (s : State) : Host.Outcome State Fault Refusal :=
  fin (fabRequest region.val q s)

/-- A response reaches a fabric port (R203, R207, R255): delivered beat by beat, or for a write once its last part is in; one
for a request made before an isolation, or for a tag not in use, is discarded. -/
def fabRespond (r : Nat) (k : Pkt) (s : State) : State :=
  if k.era ≠ fpEra r s then
    (if fpState r s = fpIsolated ∨ fpState r s = fpAsleep then incC (ctFP r 1) s else s)
  else
    match tabFind s.fab.tags (64 * r + k.tag) with
    | none => s
    | some t =>
      let free (s : State) : State := { s with fab := { s.fab with tags := tabDel s.fab.tags (64 * r + k.tag) } }
      if t.op = opRd ∨ t.op = opCsrRd then
        free (forEach (fun i s => emit (.fabric r 0 k.tag (if k.bad.contains i then nsPoisoned else k.status)
          (beatOf k.data i)) s) (natsFrom 0 (k.len + 1)) s)
      else
        let w := statusWorse t.worst k.status
        if t.parts ≤ 1 then free (emit (.fabric r 0 k.tag w []) s)
        else { s with fab := { s.fab with tags := tabPut s.fab.tags (64 * r + k.tag) { t with parts := t.parts - 1, worst := w } } }

/-! ### Target requests -/

/-- A request reaches a fabric port's window (R202, R205, R207): under FENCE or COMMAND it is answered TARGET_ERROR at once. -/
def fabTarget (r : Nat) (k : Pkt) (s : State) : State :=
  if fpState r s = fpIsolated ∧ (fpCause r s = fcFence ∨ fpCause r s = fcCommand) then refusePkt k nsTargetError s
  else fpSetTargets r (fpTargets r s ++ [⟨k, none, false⟩]) s

/-- FABRIC_TARGET_REQUEST: a READY port presents its oldest request to the fabric. -/
def fabPresent (r : Nat) (s : State) : State :=
  let l := fpTargets r s
  match l.findIdx? (fun t => !t.shown.isSome) with
  | none => s
  | some i =>
    if fpState r s ≠ fpReady then s
    else
      match l[i]? with
      | none => s
      | some t =>
        emit (.fabric r 1 t.pkt.tag t.pkt.op (leBytes 4 (t.pkt.addr % 2 ^ 28) ++ leBytes 1 t.pkt.len ++ t.pkt.data))
          (fpSetTargets r (listSet l i { t with shown := some s.time.us }) s)

def execFabricTargetRequest (region : Fin 80) (s : State) : Host.Outcome State Fault Refusal := fin (fabPresent region.val s)

/-- FABRIC_TARGET_RESPONSE (R205): forwarded on the NoC, or discarded where the port has already answered. -/
def fabAnswer (r i st : Nat) (data : List (BitVec 8)) (s : State) : State :=
  let l := fpTargets r s
  match l[i]? with
  | none => s
  | some t =>
    if t.shown.isSome then
      let s := fpSetTargets r (listDrop l i) s
      if t.dead then s
      else inject (respondPkt t.pkt (if t.pkt.op = opRd then opRdRsp else opWrRsp) st
        (if t.pkt.op = opRd then padTo (32 * (t.pkt.len + 1)) data else []) []) s
    else s

def execFabricTargetResponse (region : Fin 80) (i : Fin 64) (status : Fin 4) (data : List (BitVec 8)) (s : State) :
    Host.Outcome State Fault Refusal := fin (fabAnswer region.val i.val status.val data s)

/-- A target request runs out of time (R205): the port answers TARGET_ERROR, counted, with event 0x0334. -/
def tgtTimeout (r i : Nat) (s : State) : State :=
  let l := fpTargets r s
  match l[i]? with
  | none => s
  | some t =>
    let s := tgtError t s
    let s := fpSetTargets r (if t.shown.isSome then listSet l i { t with dead := true } else listDrop l i) s
    oncePerSecond (0x03340000 + r) (sbEvent 0x0334 []) (setF (FP_STATUS_TGT_TIMEOUT_EV r) 1 (incC (ctFP r 0) s))

/-- A request for which the timeout runs: presented and not answered, or at a port that is DOWN or ASLEEP. -/
def tgtRuns (r : Nat) (s : State) (t : TReq) : Bool :=
  !t.dead && (t.shown.isSome || decide (fpState r s = fpDown) || decide (fpState r s = fpAsleep))

/-- FP_TARGET_TIMEOUT: the oldest request for which the timeout runs; with `noClock` the port clock shows no edge for 1 µs, and
it is answered in the same way. -/
def fpTimeout (r : Nat) (noClock : Bool) (s : State) : State :=
  match (fpTargets r s).findIdx? (tgtRuns r s) with
  | none => s
  | some i =>
    let from_ := match (fpTargets r s)[i]? with
      | some t => t.shown.getD s.time.us
      | none => s.time.us
    let d := if noClock then 1 else getF (FP_CTRL_TGT_TIMEOUT r) s
    tgtTimeout r i { s with time := { s.time with us := max s.time.us (from_ + d) } }

def execFpTargetTimeout (region : Fin 80) (noClock : Bool) (s : State) : Host.Outcome State Fault Refusal :=
  fin (fpTimeout region.val noClock s)

/-! ### Tile RAM (R181 to R185) -/

/-- Width and depth of a shape. -/
def tileWidth (sh : Nat) : Nat := listGet 72 [1, 3, 6, 12, 24, 48, 72, 72] sh
def tileDepth (sh : Nat) : Nat := listGet 512 [36864, 12288, 6144, 3072, 1536, 768, 512, 512] sh

/-- The key of a row of 72 stored bits. -/
def tileKey (r b w : Nat) : Nat := (64 * r + b) * 512 + w

/-- A stored row; one that nothing has written since its region was loaded holds what the frames put there. -/
def tileRow (r b w : Nat) (s : State) : TWord :=
  match tabFind s.fab.tile (tileKey r b w) with
  | some x => x
  | none => .raw (Config.tileInit (tabGet 0 s.fab.tileGen r) (tileKey r b w) % 2 ^ 72)

/-- The 72 stored bits of a row. -/
def rowBits : TWord → Nat
  | .raw x => x
  | .ecc d f => (d ^^^ f % 2 ^ 64) + 2 ^ 64 * (Config.secded72 d % 256 ^^^ f / 2 ^ 64 % 256)

/-- Replace a row. -/
def tilePut (r b w : Nat) (x : TWord) (s : State) : State :=
  { s with fab := { s.fab with tile := tabPut s.fab.tile (tileKey r b w) x } }

/-- Stored bits flip. -/
def tileUpset (r b w m : Nat) (s : State) : State :=
  tilePut r b w (match tileRow r b w s with
    | .raw x => .raw (x ^^^ m)
    | .ecc d f => .ecc d (f ^^^ m)) s

/-- `n` stored bits from storage bit `lo` on. -/
def tileSpan (r b lo n : Nat) (s : State) : Nat :=
  (rowBits (tileRow r b (lo / 72) s) + 2 ^ 72 * rowBits (tileRow r b (lo / 72 + 1) s)) / 2 ^ (lo % 72) % 2 ^ n

/-- Overwrite the stored bits of a row that are in a mask. -/
def rowWrite (r b w m v : Nat) (s : State) : State :=
  if m = 0 then s else tilePut r b w (.raw (bitsClear (rowBits (tileRow r b w s)) m ||| (v &&& m))) s

/-- Overwrite the stored bits from `lo` on that are in a mask. -/
def tileSpanPut (r b lo m v : Nat) (s : State) : State :=
  let m := m * 2 ^ (lo % 72)
  let v := v * 2 ^ (lo % 72)
  rowWrite r b (lo / 72 + 1) (m / 2 ^ 72) (v / 2 ^ 72) (rowWrite r b (lo / 72) (m % 2 ^ 72) (v % 2 ^ 72) s)

/-- A mask of 12-bit groups. -/
def groupBits (g : Nat) : Nat := (natsFrom 0 6).foldl (fun m k => if bitOf g k then m + 0xFFF * 2 ^ (12 * k) else m) 0

/-- The bits a write of a port stores, within its word (R181). -/
def tileMask (p : TilePort) : Nat :=
  let w := tileWidth p.shape.val
  if p.shape.val < 4 then 2 ^ w - 1 else groupBits p.twe.toNat % 2 ^ w

/-- The ECC decode of a row (R184): data, TFIX, TBAD. Where more bits are in error than the code is for, or the row was not
written under it, what comes out is a free value. -/
def eccRead (x : TWord) (free : Nat) : TRead :=
  match x with
  | .ecc d f =>
    let n := popCount f 72
    if n = 0 then ⟨d, false, false⟩
    else if n = 1 then ⟨d, true, false⟩
    else if n = 2 ∨ free % 2 = 0 then ⟨d ^^^ f % 2 ^ 64, false, true⟩
    else ⟨free / 2 % 2 ^ 64, true, false⟩
  | .raw x =>
    let d := x % 2 ^ 64
    if Config.secded72 d % 256 = x / 2 ^ 64 % 256 then ⟨d, false, false⟩
    else if free % 2 = 0 then ⟨d, false, true⟩
    else ⟨free / 2 % 2 ^ 64, true, false⟩

/-- What a port reads of the array as it stands. -/
def tileRead (r b : Nat) (p : TilePort) (free : Nat) (s : State) : TRead :=
  let a := p.addr.toNat
  if tileDepth p.shape.val ≤ a then ⟨0, false, false⟩
  else if p.shape.val = 7 then eccRead (tileRow r b a s) free
  else ⟨tileSpan r b (a * tileWidth p.shape.val) (tileWidth p.shape.val) s, false, false⟩

/-- A port's write. -/
def tileWrite (r b : Nat) (p : TilePort) (s : State) : State :=
  let a := p.addr.toNat
  if !p.write || decide (tileDepth p.shape.val ≤ a) || s.fab.hold then s
  else if p.shape.val = 7 then tilePut r b a (.ecc (p.data.toNat % 2 ^ 64) 0) s
  else tileSpanPut r b (a * tileWidth p.shape.val) (tileMask p) p.data.toNat s

/-- The write of a port that may be idle. -/
def tileWriteOpt (r b : Nat) (p : Option TilePort) (s : State) : State :=
  match p with
  | none => s
  | some p => tileWrite r b p s

/-- A read that sets TFIX or TBAD is counted and logged (R184). -/
def tileNote (r b w : Nat) (x : TRead) (s : State) : State :=
  let s := whenS x.tfix (incC (ctFP r 4)) s
  if x.tbad then
    let s := if isSet (TR_UE_LOG_VALID r) s then s
      else setF (TR_UE_LOG_WORD r) w (setF (TR_UE_LOG_BLOCK r) b (setF (TR_UE_LOG_VALID r) 1 s))
    sbEvent 0x0331 [] (setF (FP_STATUS_TR_UE r) 1 (incC (ctFP r 5) s))
  else s

/-- Old and new bits mixed: those of `m` from `x`. -/
def bitMix (m x y : Nat) : Nat := (x &&& m) ||| bitsClear y m

/-- A mask that chooses between two ports (collisions of R185): whole in ECC mode, by 12-bit groups, or bit by bit. -/
def mixMask (whole groups : Bool) (free : Nat) : Nat :=
  if whole then (if free % 2 = 0 then 0 else 2 ^ 72 - 1) else if groups then groupBits (free % 64) else free % 2 ^ 72

/-- The rows a port touches. -/
def tileRows (p : Option TilePort) : List Nat :=
  match p with
  | none => []
  | some p =>
    if tileDepth p.shape.val ≤ p.addr.toNat then []
    else
      let lo := p.addr.toNat * tileWidth p.shape.val
      natsFrom (lo / 72) ((lo + tileWidth p.shape.val - 1) / 72 + 1 - lo / 72)

/-- A port is in ECC mode; it has a write enable for each 12-bit group. -/
def tileEcc (p : Option TilePort) : Bool := match p with | none => false | some p => decide (p.shape.val = 7)
def tileGroups (p : Option TilePort) : Bool := match p with | none => false | some p => decide (4 ≤ p.shape.val)

/-- Both ports' writes (collisions of R185): port B's value stands where both write; with edges of independent clocks close
together each unit holds one port's value, by a free value. -/
def tileWrites (r b : Nat) (x : TileIn) (free : Nat) (s : State) : State :=
  let ab := tileWriteOpt r b x.b (tileWriteOpt r b x.a s)
  if !x.near then ab
  else
    let ba := tileWriteOpt r b x.a (tileWriteOpt r b x.b s)
    let m := mixMask (tileEcc x.a || tileEcc x.b) (tileGroups x.a && tileGroups x.b) free
    forEach (fun w s =>
      let p := tileRow r b w ab
      let q := tileRow r b w ba
      if p = q then s
      else if m = 0 then tilePut r b w q s
      else if m = 2 ^ 72 - 1 then s
      else tilePut r b w (.raw (bitMix m (rowBits p) (rowBits q))) s) (tileRows x.a ++ tileRows x.b) ab

/-- What a port shows after the cycle (R182): its read, the old word, the word written, or what it last read. `other` is the
other port, whose write a read of overlapping bits may see in part when the clock edges are close. -/
def tileShow (r b port : Nat) (p other : Option TilePort) (near : Bool) (free : Nat) (s0 s : State) : State :=
  match p with
  | none => s
  | some p =>
    let a := p.addr.toNat
    let put (x : TRead) (s : State) : State :=
      { s with fab := { s.fab with trd := tabSet ⟨0, false, false⟩ s.fab.trd (2 * (64 * r + b) + port) x } }
    let old := tileRead r b p free s0
    let got (x : TRead) (s : State) : State := put x (if p.shape.val = 7 then tileNote r b a x s else s)
    if p.write then
      (if p.mode.val = 0 then got old s
       else if p.mode.val = 1 then
        put ⟨if tileDepth p.shape.val ≤ a then 0 else if p.shape.val = 7 then p.data.toNat % 2 ^ 64
          else p.data.toNat % 2 ^ tileWidth p.shape.val, false, false⟩ s
       else s)
    else if near then
      let new := tileRead r b p free (tileWriteOpt r b other s0)
      let m := mixMask (decide (p.shape.val = 7) || decide (p.shape.val < 4)) true (free / 2 ^ 80)
      got (if m = 0 then old else if m = 2 ^ 72 - 1 then new else ⟨bitMix m new.trd old.trd, false, false⟩) s
    else got old s

/-- TILE_RAM_ACCESS (R181, R182, R184). A region without power does nothing. -/
def tileAccess (r b : Nat) (x : TileIn) (s : State) : State :=
  if s.fab.off.contains r then s
  else
    let s0 := forEach (fun (u : Fin 512 × BitVec 72) => tileUpset r b u.1.val u.2.toNat) x.upsets s
    let f := freeNat s
    let s1 := useFree (tileWrites r b x (f / 2 ^ 160) s0)
    tileShow r b 1 x.b x.a x.near (f / 2 ^ 320) s0 (tileShow r b 0 x.a x.b x.near f s0 s1)

def execTileRamAccess (region : Fin 80) (block : Fin 64) (x : TileIn) (s : State) : Host.Outcome State Fault Refusal :=
  fin (tileAccess region.val block.val x s)

/-- The next word of a RAM scrub: `k` is 2 r for tile RAM, 2 r + 1 for deep RAM. -/
def ramPos (k : Nat) (s : State) : Nat := tabGet 0 s.fab.ramPos k
def ramNext (k n : Nat) (s : State) : State :=
  { s with fab := { s.fab with ramPos := tabSet 0 s.fab.ramPos k ((ramPos k s + 1) % n) } }

/-- The scrub's read of a word in one ECC-mode block (R185). -/
def tileScrub (r w : Nat) (u : Fin 64 × BitVec 72) (s : State) : State :=
  let b := u.1.val
  let s := if u.2 = 0 then s else tileUpset r b w u.2.toNat s
  let x := eccRead (tileRow r b w s) (freeNat s)
  let s := tileNote r b w x (useFree s)
  if x.tfix then tilePut r b w (.ecc x.trd 0) s else s

/-- TILE_RAM_SCRUB_READ (R185): the next word of every ECC-mode block; `blocks` names them, for the frames choose the mode,
with the stored bits that have flipped. -/
def execTileRamScrubRead (region : Fin 80) (blocks : List (Fin 64 × BitVec 72)) (s : State) : Host.Outcome State Fault Refusal :=
  let r := region.val
  if isSet (MEM_CTRL_TR_SCRUB_EN r) s && !s.fab.off.contains r then
    let w := ramPos (2 * r) s
    let s := forEach (tileScrub r w) blocks s
    fin (whenS (decide (w = 511)) (addF (MEM_CTRL_TR_PASS r) 1) (ramNext (2 * r) 512 s))
  else .next s

/-! ### Deep RAM (R186 to R191) -/

def deepKey (r b w : Nat) : Nat := (16 * r + b) * 32768 + w

/-- A stored word: zero with valid check bits after a load that wrote nothing, unknown once its region has lost power. -/
def deepWord (r b w : Nat) (s : State) : DWord :=
  match tabFind s.fab.deep (deepKey r b w) with
  | some x => x
  | none =>
    let g := tabGet 0 s.fab.deepGen r
    if g = 0 then ⟨0, 0⟩
    else ⟨Config.deepLost g (2 * deepKey r b w) % 2 ^ 64, Config.deepLost g (2 * deepKey r b w + 1) % 2 ^ 104⟩

def deepPut (r b w : Nat) (x : DWord) (s : State) : State :=
  { s with fab := { s.fab with deep := tabPut s.fab.deep (deepKey r b w) x } }

/-- Replace byte k of a word, with its codeword's flipped bits. -/
def deepByte (k data flips : Nat) (x : DWord) : DWord :=
  ⟨bitsClear x.data (0xFF * 2 ^ (8 * k)) + data % 256 * 2 ^ (8 * k),
   bitsClear x.flips (0x1FFF * 2 ^ (13 * k)) + flips % 0x2000 * 2 ^ (13 * k)⟩

/-- The outcome of one byte's codeword (R188): the byte, RSBE, RDBE; a free value where three or more bits are in error. -/
def deepDecode (x : DWord) (free k : Nat) : Nat × Bool × Bool :=
  let d := bitsOf x.data (8 * k) 8
  let f := bitsOf x.flips (13 * k) 13
  let n := popCount f 13
  let free := free / 2 ^ (9 * k)
  if n = 0 then (d, false, false)
  else if n = 1 then (d, true, false)
  else if n = 2 ∨ free % 2 = 0 then (d ^^^ f % 256, false, true)
  else (free / 2 % 256, true, false)

/-- A write (R187): every enabled byte with new check bits. -/
def deepWrite (r b w data be : Nat) (s : State) : State :=
  if be % 256 = 0 ∨ s.fab.hold = true ∨ s.fab.off.contains r = true then s
  else deepPut r b w ((natsFrom 0 8).foldl (fun x k => if bitOf be k then deepByte k (bitsOf data (8 * k) 8) 0 x else x)
    (deepWord r b w s)) s

def execDeepRamWrite (region : Fin 80) (block : Fin 16) (addr : BitVec 15) (data : BitVec 64) (be : BitVec 8) (s : State) :
    Host.Outcome State Fault Refusal := fin (deepWrite region.val block.val addr.toNat data.toNat be.toNat s)

/-- A mask of the bytes for which `p` holds. -/
def byteMask (p : Nat → Bool) : Nat := (natsFrom 0 8).foldl (fun m k => if p k then m + 2 ^ k else m) 0

/-- Errors found in a word are counted and logged (R191): event 0x0330 at most once per block in a scrub pass. -/
def deepNote (r b w rsbe rdbe : Nat) (s : State) : State :=
  let s := addC (ctFP r 3) (popCount rdbe 8) (addC (ctFP r 2) (popCount rsbe 8) s)
  if rdbe = 0 then s
  else
    let s := setF (FP_STATUS_DR_UE r) 1 s
    let s := if isSet (DR_UE_LOG_VALID r) s then s
      else setF (DR_UE_LOG_WORD r) w (setF (DR_UE_LOG_BLOCK r) b (setF (DR_UE_LOG_BYTES r) rdbe (setF (DR_UE_LOG_VALID r) 1 s)))
    if s.fab.deepNoted.contains (16 * r + b) then s
    else sbEvent 0x0330 [] { s with fab := { s.fab with deepNoted := (16 * r + b) :: s.fab.deepNoted } }

/-- Stored bits of a word flip. -/
def deepUpset (r b w m : Nat) (s : State) : State :=
  if m = 0 then s else deepPut r b w { deepWord r b w s with flips := (deepWord r b w s).flips ^^^ m } s

/-- DEEP_RAM_READ (R188). With a write close by, each byte returns its whole old or its whole new codeword. -/
def deepRead (r b : Nat) (x : DeepIn) (s : State) : State :=
  if s.fab.off.contains r then s
  else
    let w := x.addr.toNat
    let s := deepUpset r b w x.flips.toNat s
    let f := freeNat s
    let old := deepWord r b w s
    let s1 := match x.near with
      | none => s
      | some (d, be) => deepWrite r b w d.toNat be.toNat s
    let new := deepWord r b w s1
    let dec (k : Nat) : Nat × Bool × Bool := deepDecode (if bitOf f (100 + k) then new else old) f k
    let rsbe := byteMask (fun k => (dec k).2.1)
    let rdbe := byteMask (fun k => (dec k).2.2)
    emit (.fabric r 5 rsbe rdbe ((natsFrom 0 8).map (fun k => BitVec.ofNat 8 (dec k).1)))
      (deepNote r b w rsbe rdbe (useFree s1))

def execDeepRamRead (region : Fin 80) (block : Fin 16) (x : DeepIn) (s : State) : Host.Outcome State Fault Refusal :=
  fin (deepRead region.val block.val x s)

/-- The scrub's read of a word in one block (R190): bytes with a single-bit error are written back. -/
def deepScrub (r w : Nat) (u : Fin 16 × BitVec 104) (s : State) : State :=
  let b := u.1.val
  let s := deepUpset r b w u.2.toNat s
  let x := deepWord r b w s
  let f := freeNat s
  let rsbe := byteMask (fun k => (deepDecode x f k).2.1)
  let rdbe := byteMask (fun k => (deepDecode x f k).2.2)
  let s := deepNote r b w rsbe rdbe (useFree s)
  if rsbe = 0 then s
  else deepPut r b w ((natsFrom 0 8).foldl (fun y k => if bitOf rsbe k then deepByte k (deepDecode x f k).1 0 y else y) x) s

/-- DEEP_RAM_SCRUB_READ (R190): the next word of every block; `flips` gives the stored bits of it that have flipped. -/
def execDeepRamScrubRead (region : Fin 80) (flips : List (Fin 16 × BitVec 104)) (s : State) : Host.Outcome State Fault Refusal :=
  let r := region.val
  if isSet (MEM_CTRL_DR_SCRUB_EN r) s && !s.fab.off.contains r then
    let w := ramPos (2 * r + 1) s
    let s := forEach (fun (u : Fin 16 × BitVec 104) s => deepUpset r u.1.val w u.2.toNat s) flips s
    let s := forEach (fun b s => deepScrub r w (Fin.ofNat 16 b, 0) s) (natsFrom 0 16) s
    let s := ramNext (2 * r + 1) 32768 s
    finG (if w = 32767 then
      boundMet 3 (addF (MEM_CTRL_DR_PASS r) 1 { s with fab := { s.fab with
        deepNoted := s.fab.deepNoted.filter (fun k => decide (k / 16 ≠ r)) } })
      else s)
  else .next s

end Sys2Proof.Machine
end

