-- ==== Sys2Proof/Machine/DugoutCore.lean ====
section
/-! DEFINITION. Setting up queues and the spill pool (R277, R278, R290), what their registers read, the fabric's cell
interfaces (R280, R283, R285), the return of spilled chunks (R289) and queue faults (R295). -/

namespace Sys2Proof.Machine

/-! ### What the registers read -/

/-- QSTATE. -/
def qStateWord (q : Nat) (s : State) : Nat := dqDepth q s % 65536 + 65536 * (dqReleased q s % 65536)

/-- QFLAGS. -/
def qFlagsWord (q : Nat) (s : State) : Nat :=
  natOfBool (decide (dqDepth q s = 0)) + 2 * getF (QFLAGS_HIGH q) s + 4 * natOfBool (dqFull q s) + 8 * getF (QFLAGS_HELD q) s +
    16 * getF (QFLAGS_DISCARD q) s + 32 * getF (QFLAGS_FAULT q) s + 65536 * (dqSpilled q s % 65536)

/-- DQ_GRP_PEND0 or 1 (R287). -/
def grpPendWord (h : Nat) (s : State) : Nat :=
  (natsFrom 0 32).foldl (fun n g => if dqGroupHigh (32 * h + g) s then n + 2 ^ g else n) 0

/-- DQ_SPILL_USED. -/
def spillUsed (s : State) : Nat := s.dq.chunks.length

/-! ### Setting up a queue -/

/-- Addresses of a queue's registers. -/
def qAddr (q off : Nat) : Nat := 0x3F00410000 + q * 0x40 + off

/-- The STOPPED fields of QCFG and QDEPTH, as masks (R278). -/
def qcfgStopped : Nat := 0x7F031E
def qdepthStopped : Nat := 0xFFFF0000

/-- The queue is out of service and empty: its STOPPED fields may be written (R278). -/
def qIdle (q : Nat) (s : State) : Bool := !isSet (QCFG_EN q) s && decide (dqDepth q s = 0)

/-- Codes that no write may put into QCFG or QDEPTH. -/
def qCodesBad (cfg depth : Nat) : Bool :=
  decide (bitsOf cfg 6 2 = 3) || decide (bitsOf cfg 8 2 = 3) || decide (bitsOf cfg 28 4 = 0) || decide (bitsOf depth 0 16 = 0)

/-- A port that names queue q as its receive queue (R309). -/
def rxQueueOf (q : Nat) (s : State) : Bool :=
  (enabledPorts s).any (fun p => !isSet (RP_CTRL_RX_DST p) s && decide (getF (RP_CFG_RX_QUEUE p) s = q))

/-- The settings of a queue in service are refused (R278). -/
def qRefused (q cfg depth wm : Nat) (s : State) : Bool :=
  let hi := bitsOf wm 0 16
  let lo := bitsOf wm 16 16
  let max := bitsOf depth 0 16
  let res := bitsOf depth 16 16
  let timed := bitOf cfg 1
  let spill := bitOf cfg 4
  let pol := bitsOf cfg 6 2
  let cons := bitsOf cfg 8 2
  let others := reserveSum s - (if isSet (QCFG_EN q) s then getF (QDEPTH_RESERVE q) s else 0)
  (decide (hi ≠ 0) && decide (hi ≤ lo)) || decide (max < hi) ||
    decide (max < res) || decide (131072 < others + res) ||
    (spill && (decide (res < 8) || decide (spillChunks s = 0))) ||
    (timed && (decide (pol = 2) || bitOf cfg 3 || spill)) ||
    (decide (cons = 1) && !bitOf cfg 2) ||
    (decide (pol = 2) && rxQueueOf q s) ||
    (decide (cons = 0) && decide (80 ≤ bitsOf cfg 16 7))

/-- A refused write of a queue's set (R278). -/
def qReject (q : Nat) (s : State) : State := sbEvent 0x0501 [] (qevt q 7 s)

/-- Queue q's words: QCFG, QDEPTH, QWM. -/
def qWords (q : Nat) (s : State) : Nat × Nat × Nat := (regWord (qAddr q 0) s, regWord (qAddr q 4) s, regWord (qAddr q 8) s)

/-- The settings may stand: the codes are good, and for a queue in service, before or after, so is the whole (R278). -/
def qAllowed (q cfg depth wm : Nat) (s : State) : Bool :=
  !qCodesBad cfg depth && !((bitOf cfg 0 || isSet (QCFG_EN q) s) && qRefused q cfg depth wm s)

/-- QCFG is given a word; a queue that is enabled is no longer in fault (R295). -/
def qcfgPut (q v : Nat) (s : State) : State :=
  let was := isSet (QCFG_EN q) s
  whenS (!was && bitOf v 0) (setF (QFLAGS_FAULT q) 0) (regPoke (qAddr q 0) v s)

/-- A word as it may be written: where the queue is not idle, STOPPED fields keep their value, and the write counts as refused
if it would have changed one (R8). -/
def qKeep (q stopped was v : Nat) (s : State) : Nat × Bool :=
  if qIdle q s ∨ v &&& stopped = was &&& stopped then (v, false)
  else (bitsClear v stopped ||| (was &&& stopped), true)

/-- A register write of QCFG. -/
def qcfgWrite (q v : Nat) (s : State) : State :=
  let w := qWords q s
  let k := qKeep q qcfgStopped w.1 v s
  let s' := if k.2 then qReject q s else s
  if qAllowed q k.1 w.2.1 w.2.2 s then qcfgPut q k.1 s' else if k.2 then s' else qReject q s

/-- A register write of QDEPTH. -/
def qdepthWrite (q v : Nat) (s : State) : State :=
  let w := qWords q s
  let k := qKeep q qdepthStopped w.2.1 v s
  let s' := if k.2 then qReject q s else s
  if qAllowed q w.1 k.1 w.2.2 s then regPoke (qAddr q 4) k.1 s' else if k.2 then s' else qReject q s

/-- A register write of QWM. -/
def qwmWrite (q v : Nat) (s : State) : State :=
  let w := qWords q s
  if qAllowed q w.1 w.2.1 v s then regPoke (qAddr q 8) v s else qReject q s

/-- A register write of QCMD: a flush wins over a release (R288). -/
def qcmdFlush (q : Nat) (s : State) : State := sbEvent 0x0509 [] (dqFlush q s)

/-- A DQ_FIF write (spec/09). -/
def fifWrite (r v : Nat) (s : State) : State :=
  let line := bitsOf v 8 5
  let stop := isSet (DQ_FIF_EN r) s && decide (line ≠ getF (DQ_FIF_CLK_LINE r) s)
  let s := setB (DQ_FIF_EN r) (bitOf v 0) s
  if stop || decide (24 ≤ line) then setF DQ_STATUS_CFG_REJECT 1 s else setF (DQ_FIF_CLK_LINE r) line s

/-- The counters of a queue and their OVF are cleared (R294). -/
def dqCntClear (q : Nat) (s : State) : State := forEach (fun i s => clrC (ctDQ q i) s) (natsFrom 0 8) s

/-! ### The spill pool -/

/-- An area lies in populated DRAM. -/
def areaPopulated (a n : Nat) (s : State) : Bool :=
  decide (n = 0) || (decide (a + n ≤ 4 * 2 ^ 35) && (natsFrom 0 4).all (fun c =>
    let lo := c * 2 ^ 35
    decide (a + n ≤ lo) || decide (lo + 2 ^ 35 ≤ a) || decide (a + n ≤ lo + drSize c s)))

/-- A setting of the pool is refused (R290). -/
def spillBad (data meta_ chunks : Nat) (s : State) : Bool :=
  let nd := 256 * chunks
  let nm := 64 * chunks
  decide (data % 4096 ≠ 0) || decide (meta_ % 4096 ≠ 0) || decide (2 ^ 40 ≤ data) || decide (2 ^ 40 ≤ meta_) ||
    !areaPopulated data nd s || !areaPopulated meta_ nm s ||
    (decide (chunks ≠ 0) && decide (data < meta_ + nm) && decide (meta_ < data + nd))

/-- Some queue has SPILL_EN = 1 (R290). -/
def spillInUse (s : State) : Bool := qcfgQueues 4 s ≠ []

/-- The pool is set. -/
def spillSet (data meta_ chunks : Nat) (s : State) : State :=
  setF DQ_SPILL_CTRL_CHUNKS chunks (setF DQ_SPILL_META_HI_BASE (meta_ / 2 ^ 32) (setF DQ_SPILL_META_LO_BASE (meta_ / 4096)
    (setF DQ_SPILL_DATA_HI_BASE (data / 2 ^ 32) (setF DQ_SPILL_DATA_LO_BASE (data / 4096) s))))

/-- A register write of one word of the pool's setting: refused while a queue spills and the word would change, and where the
whole setting may not stand. -/
def spillWrite1 (a v : Nat) (s : State) : State :=
  let s1 := regPoke a v s
  if (spillInUse s && decide (regWord a s1 ≠ regWord a s)) ||
      spillBad (spillData s1) (spillMeta s1) (spillChunks s1) s then setF DQ_STATUS_CFG_REJECT 1 s
  else s1

/-! ### The fabric's cell interfaces -/

/-- A region's cell interface takes inputs (R280, R285). -/
def fifServes (r : Nat) (s : State) : Bool :=
  isSet (DQ_FIF_EN r) s && decide (fpState r s ≠ fpIsolated) && decide (fpState r s ≠ fpAsleep) && !s.fab.hold

/-- The response of a pop that found nothing, as it waits to be delivered. -/
def noCell (q : Nat) : Cell :=
  { data := [], sop := false, eop := false, poison := false, turn := 0, slot := 0, fineTq := 0, place := q }

/-- A response joins those on their way to a region. -/
def popHold (r : Nat) (c : Cell) (s : State) : State :=
  { s with fab := { s.fab with heldPops := tabUpd [] s.fab.heldPops r (· ++ [c]) } }

/-- What reading a cell of the store meets (R276): 0 nothing, 1 a single-bit error, corrected and counted, 2 an uncorrectable
word. -/
def storeRead (word : Nat) (c : Cell) (s : State) : Cell × State :=
  if word = 1 then (c, oncePerSecond rlStoreCe (sbEvent 0x0507 []) (bumpF DQ_STATUS_STORE_CE s))
  else if word = 2 then ({ c with poison := true }, s)
  else (c, s)

/-- A region is the consumer of a queue (R281). -/
def fabConsumes (r q : Nat) (s : State) : Bool :=
  decide (getF (QCFG_CONSUMER q) s = 0) && decide (getF (QCFG_CONS_ID q) s = r)

/-- A pop request of a region is taken (R280, R281): at most 8 are outstanding, and a pop whose head cell is still being
fetched waits. The depth events are judged at the end of the core cycle. -/
def fabTake (r q word : Nat) (s : State) : State :=
  if 8 ≤ (tabGet [] s.fab.heldPops r).length then s
  else if fabConsumes r q s = false then popHold r (noCell q) (setF DQ_STATUS_PROTO_ERR 1 s)
  else
    match dqTake q s with
    | (.got c, s) =>
      let x := storeRead word c s
      popHold r { x.1 with place := q } x.2
    | (.empty, s) => popHold r (noCell q) s
    | (.wait, s) => s

/-- A pop request of a region, with no push of that queue in the same core cycle. -/
def fabPop (r q word : Nat) (s : State) : State := dqDepthEvents q (dqDepth q s) (fabTake r q word s)

/-- A push and a pop of one queue in one core cycle (R283): into an empty queue the push lands and the pop returns empty, or with
CUT_THROUGH the pushed cell; otherwise the pop is served first, and where it took a cell, DEPTH_MAX holds no push back. The depth
events are those of the whole cycle. -/
def pushPop (q : Nat) (c : Cell) (r : Nat) (s : State) : State :=
  let ok := fabConsumes r q s && decide ((tabGet [] s.fab.heldPops r).length < 8)
  let takes := isSet (QCFG_EN q) s && (!isSet (QFLAGS_DISCARD q) s || c.sop)
  let d := dqDepth q s
  if ok && takes && isSet (QCFG_CUT_THROUGH q) s && decide (d = 0) then
    popHold r { c with place := q } (incC (ctDQ q 0) (setF (QFLAGS_DISCARD q) 0 s))
  else
    let s := fabTake r q 0 s
    if dqDepth q s < d then dqDepthEvents q d (dqPushAt q d false c s).2
    else (dqPush q c s).2

/-! ### Spilled chunks come back -/

/-- A cell from its 16-byte descriptor and its 64 data bytes (R275). -/
def cellFrom (d data : List (BitVec 8)) (bad : Bool) : Cell :=
  let b := fieldAt d 0 1
  { data := data.take (b % 64 + 1), sop := bitOf b 6, eop := bitOf b 7, poison := bitOf (fieldAt d 1 1) 1 || bad
    turn := fieldAt d 4 6, slot := fieldAt d 10 2, fineTq := fieldAt d 12 1, place := 0 }

/-- Read the last `n` cells of chunk k from the pool: cells and whether any was uncorrectable. -/
def chunkRead (k : Nat) : List Nat → State → (List Cell × Bool) × State
  | [], s => (([], false), s)
  | i :: l, s =>
    let d := drRead (spillMeta s + 64 * k + 16 * i) 16 s
    let x := drRead (spillData s + 256 * k + 64 * i) 64 d.2
    let bad := !d.1.2 || !x.1.2
    let r := chunkRead k l x.2
    ((cellFrom d.1.1 x.1.1 bad :: r.1.1, bad || r.1.2), r.2)

/-- The first chunk of a queue that lies in DRAM, and how many of its cells the queue still holds. -/
def chunkFirst (l : List Cell) : Option (Nat × Nat) :=
  match l.find? (fun c => decide (2 ≤ c.place)) with
  | none => none
  | some c => some (c.place - 2, (l.filter (fun x => decide (x.place = c.place))).length)

/-- The chunk after the on-chip head arrives, where the queue's reserve has room for it (R289): its cells are on chip, in order,
its place in the pool is free. -/
def chunkFetched (q : Nat) (s : State) : State :=
  let l := dqCells q s
  match chunkFirst l with
  | none => s
  | some (k, n) =>
    if getF (QDEPTH_RESERVE q) s < cellsOnChip l + n ∨ drUp (drChannel (spillData s + 256 * k)) s = false ∨
        drUp (drChannel (spillMeta s + 64 * k)) s = false then s
    else
      let r := chunkRead k (natsFrom (4 - n) n) s
      let s := whenS r.1.2 (oncePerSecond (rlPoison q) (sbEvent 0x0506 [])) r.2
      let pre := l.takeWhile (fun c => decide (c.place ≠ k + 2))
      let post := l.filter (fun c => decide (c.place ≠ k + 2))
      let s := dqSetCells q (pre ++ r.1.1 ++ post.drop pre.length) s
      { s with dq := { s.dq with chunks := s.dq.chunks.filter (· ≠ k) } }

/-! ### Faults -/

/-- An uncorrectable error in the state of queue q (R295). -/
def queueFault (q : Nat) (s : State) : State :=
  let s := setF (QFLAGS_FAULT q) 1 (setF (QCFG_EN q) 0 (dqFlush q s))
  alarm 0x0B q false (sbEvent 0x0508 [] (qevt q 8 s))

end Sys2Proof.Machine
end

