-- ==== Sys2Proof/Machine/Dugout.lean ====
section
/-! DEFINITION. The Dugout's rows and commands (spec/09). -/

namespace Sys2Proof.Machine

/-- A queue number in a request. -/
def argQueue (r : Req) : Nat := arg r 0 2

/-- QUEUE_CONFIGURE (R278). -/
def sheetQueueConfigure : Sheet :=
  { plainSheet 0x0501 (fun r s => argsLen 24 (fun r => decide (argQueue r < 4096) && decide (arg r 2 2 = 0) &&
        qAllowed (argQueue r) (arg r 4 4) (arg r 8 4) (arg r 12 4) s) r) [3] (fun r s =>
      let q := argQueue r
      let s := regPoke (qAddr q 0x1C) (arg r 20 4) (regPoke (qAddr q 0xC) (arg r 16 4) (regPoke (qAddr q 8) (arg r 12 4)
        (regPoke (qAddr q 4) (arg r 8 4) s)))
      (replyOk [], qcfgPut q (arg r 4 4) s)) with
    state := fun r s =>
      let w := qWords (argQueue r) s
      if (qKeep (argQueue r) qcfgStopped w.1 (arg r 4 4) s).2 || (qKeep (argQueue r) qdepthStopped w.2.1 (arg r 8 4) s).2 then
        some stWrongState
      else none }

def execQueueConfigure (mb : Fin 14) (s : State) : Host.Outcome State Fault Refusal := fin (runSheet sheetQueueConfigure mb.val s)

/-- QUEUE_STATUS (R286, R294). -/
def sheetQueueStatus : Sheet :=
  { plainSheet 0x0502 (fun r _ => argsLen 4 (fun r => decide (argQueue r < 4096) && decide (arg r 2 1 < 4) &&
        decide (arg r 3 1 = 0)) r) [] (fun r s =>
      let q := argQueue r
      let p := leBytes 4 (qStateWord q s) ++ leBytes 4 (qFlagsWord q s) ++ leBytes 4 (regWord (qAddr q 0x18) s) ++
        ((natsFrom 0 8).map (fun i => ctrBytes (ctDQ q i) s)).flatten
      let s := whenS (bitOf (arg r 2 1) 0) (fun s => forEach (fun b s => setF ⟨qAddr q 0x18, b, 1, 0⟩ 0 s) (natsFrom 0 9) s) s
      (replyOk p, whenS (bitOf (arg r 2 1) 1) (dqCntClear q) s)) with
    groups := fun r => if arg r 2 1 = 0 then [] else [3] }

def execQueueStatus (mb : Fin 14) (s : State) : Host.Outcome State Fault Refusal := fin (runSheet sheetQueueStatus mb.val s)

/-- QUEUE_FLUSH. -/
def sheetQueueFlush : Sheet := plainSheet 0x0503 (fun r _ => argsLen 4 (fun r =>
    decide (argQueue r < 4096) && decide (1 ≤ arg r 2 2) && decide (argQueue r + arg r 2 2 ≤ 4096)) r) [3] (fun r s =>
  let qs := natsFrom (argQueue r) (arg r 2 2)
  (replyOk (leBytes 4 (qs.foldl (fun n q => n + dqDepth q s) 0)), forEach qcmdFlush qs s))

def execQueueFlush (mb : Fin 14) (s : State) : Host.Outcome State Fault Refusal := fin (runSheet sheetQueueFlush mb.val s)

/-- QUEUE_RELEASE (R288). -/
def sheetQueueRelease : Sheet :=
  { plainSheet 0x0504 (fun r _ => argsLen 2 (fun r => decide (argQueue r < 4096)) r) [3] (fun r s =>
      let s := dqRelease (argQueue r) s
      (replyOk (leBytes 2 (dqReleased (argQueue r) s)), s)) with
    state := fun r s =>
      if dqTimed (argQueue r) s && isSet (QCFG_EN (argQueue r)) s then none else some stWrongState }

def execQueueRelease (mb : Fin 14) (s : State) : Host.Outcome State Fault Refusal := fin (runSheet sheetQueueRelease mb.val s)

/-- DUGOUT_STATUS (R279). -/
def sheetDugoutStatus : Sheet := plainSheet 0x0505 (fun r _ => argsLen 0 (fun _ => true) r) [] (fun _ s =>
  (replyOk (leBytes 4 (regWord 0x3F00400000 s) ++ leBytes 4 (storeFree s) ++ leBytes 4 (spillUsed s) ++
    leBytes 4 (grpPendWord 0 s) ++ leBytes 4 (grpPendWord 1 s)), s))

def execDugoutStatus (mb : Fin 14) (s : State) : Host.Outcome State Fault Refusal := fin (runSheet sheetDugoutStatus mb.val s)

/-- DUGOUT_SPILL_SET (R290). -/
def sheetDugoutSpillSet : Sheet :=
  { plainSheet 0x0506 (fun r s => argsLen 20 (fun r => decide (arg r 16 4 < 2 ^ 20) &&
        !spillBad (arg r 0 8) (arg r 8 8) (arg r 16 4) s) r) [3] (fun r s =>
      (replyOk [], spillSet (arg r 0 8) (arg r 8 8) (arg r 16 4) s)) with
    state := fun _ s => if spillInUse s then some stWrongState else none }

def execDugoutSpillSet (mb : Fin 14) (s : State) : Host.Outcome State Fault Refusal := fin (runSheet sheetDugoutSpillSet mb.val s)

/-! ### Register commands -/

def execQcmdFlush (q : Fin 4096) (s : State) : Host.Outcome State Fault Refusal := fin (qcmdFlush q.val s)

def execQcmdRelease (q : Fin 4096) (s : State) : Host.Outcome State Fault Refusal := fin (dqRelease q.val s)

/-- A write of DQ_CNT_SEL with CLR = 1. -/
def execDqCntClr (q : Fin 4096) (idx : Fin 8) (s : State) : Host.Outcome State Fault Refusal :=
  fin (dqCntClear q.val (setF DQ_CNT_SEL_IDX idx.val (setF DQ_CNT_SEL_Q q.val s)))

/-! ### Cells -/

/-- CELL_PUSH at a region's interface, with a pop request of the same queue by a region in the same core cycle if there is one
(R280, R281, R283). -/
def cellPush (r : Nat) (c : CellIn) (pop : Option (Fin 80)) (s : State) : State :=
  if fifServes r s then
    let x := cellNow (padTo (c.lenM1.val + 1) (leBytes 64 c.data.toNat)) c.sop c.eop false s
    match pop with
    | none => (dqPush c.queue.val x s).2
    | some g => if fifServes g.val s then popsDeliver g.val (pushPop c.queue.val x g.val s) else (dqPush c.queue.val x s).2
  else s

def execCellPush (region : Fin 80) (c : CellIn) (pop : Option (Fin 80)) (s : State) : Host.Outcome State Fault Refusal :=
  fin (cellPush region.val c pop s)

/-- CELL_POP at a region's interface: a request that is taken, and, where they are due, the responses on their way (R280, R285). -/
def cellPop (r : Nat) (q : Option (Fin 4096)) (word : Fin 3) (due : Bool) (s : State) : State :=
  if fifServes r s then
    let s := match q with
      | some q => fabPop r q.val word.val s
      | none => s
    if due then popsDeliver r s else s
  else s

def execCellPop (region : Fin 80) (q : Option (Fin 4096)) (word : Fin 3) (due : Bool) (s : State) :
    Host.Outcome State Fault Refusal := fin (cellPop region.val q word due s)

def execSpillChunkFetchComplete (q : Fin 4096) (s : State) : Host.Outcome State Fault Refusal := fin (chunkFetched q.val s)

def execQueueFault (q : Fin 4096) (s : State) : Host.Outcome State Fault Refusal := finG (queueFault q.val s)

end Sys2Proof.Machine
end

