-- ==== Sys2Proof/Machine/TimedChan.lean ====
section
/-! DEFINITION. The TIMED channel (R262 to R267): reservations and their admission, sending, arriving and presenting. -/

namespace Sys2Proof.Machine

/-- A write to the NoC's registers is refused (R8): CFG_REJECT, and source 72. -/
def nocReject (s : State) : State := whRaise 72 (setF NOC_STATUS_CFG_REJECT 1 s)

/-- The router of a region's fabric port (R242). -/
def regionRouter (r : Nat) : Nat := (nodeAttach r).1

/-- The enabled reservations. -/
def tresOn (s : State) : List Nat := (natsFrom 0 32).filter (fun n => isSet (TRES_CFG1_EN n) s)

/-- The mesh links of a reservation's path. -/
def tresLinks (n : Nat) (s : State) : List (Nat × Nat) :=
  pathLinks (regionRouter (getF (TRES_CFG0_SRC n) s)) (regionRouter (getF (TRES_CFG0_DEST n) s))

/-- P_l: the sum of QUOTA over the reservations `on` whose path uses the link (R262). -/
def linkLoad (on : List Nat) (l : Nat × Nat) (s : State) : Nat :=
  on.foldl (fun n r => if (tresLinks r s).contains l then n + getF (TRES_CFG0_QUOTA r) s else n) 0

/-- The path bound B of a reservation (R263). -/
def pathBound (on : List Nat) (n : Nat) (s : State) : Nat :=
  (tresLinks n s).foldl (fun b l => b + 3 + 4 * linkLoad on l s) 24

/-- MIN_DELAY of a reservation (R262): 1 + ⌈B × f_slot / 1.2 GHz⌉. -/
def minDelay (on : List Nat) (n : Nat) (s : State) : Nat :=
  let f := slotFreq s
  1 + (pathBound on n s * f.1 + 1200000 * f.2 - 1) / (1200000 * f.2)

/-- The budget of a mesh link in packets per slot (R262). -/
def linkBudget (s : State) : Nat := 300000 * (slotFreq s).2 / (slotFreq s).1

/-- The packets that a destination must be able to hold (R262). -/
def destLoad (on : List Nat) (d : Nat) (s : State) : Nat :=
  on.foldl (fun n r => if getF (TRES_CFG0_DEST r) s = d then
    n + getF (TRES_CFG0_QUOTA r) s * (getF (TRES_CFG0_DELAY r) s + 1) else n) 0

/-- The enabled reservations `on` fit together (R262). -/
def tresFits (on : List Nat) (s : State) : Bool :=
  on.all (fun n => (tresLinks n s).all (fun l => decide (linkLoad on l s ≤ linkBudget s)) &&
    decide (minDelay on n s ≤ getF (TRES_CFG0_DELAY n) s) && decide (destLoad on (getF (TRES_CFG0_DEST n) s) s ≤ 64))

/-- The reservations that would be enabled with n. -/
def tresWith (n : Nat) (s : State) : List Nat := (natsFrom 0 32).filter (fun r => decide (r = n) || isSet (TRES_CFG1_EN r) s)

/-- The fields of a reservation are in their ranges (R262). -/
def tresRange (src dest quota delay duration : Nat) : Bool :=
  decide (src < 80) && decide (dest < 80) && decide (src ≠ dest) && decide (1 ≤ quota) && decide (quota ≤ 8) &&
    decide (1 ≤ delay) && decide (delay < 256) && decide (1 ≤ duration) && decide (duration < 65536)

/-- The reservation's own fields as they stand are in their ranges. -/
def tresOwnRange (n : Nat) (s : State) : Bool :=
  tresRange (getF (TRES_CFG0_SRC n) s) (getF (TRES_CFG0_DEST n) s) (getF (TRES_CFG0_QUOTA n) s) (getF (TRES_CFG0_DELAY n) s)
    (getF (TRES_CFG1_DURATION n) s)

/-- MIN_DELAY is reported, 0xFF if above 255. -/
def tresReport (n : Nat) (s : State) : State := setF (TRES_STATUS_MIN_DELAY n) (min 255 (minDelay (tresWith n s) n s)) s

/-- The open window of a reservation closes. -/
def tresClose (n : Nat) (s : State) : State := { s with noc := { s.noc with windows := tabDel s.noc.windows n } }

/-- TRES_CFG1.EN is written (R262): an enable that does not fit is refused with CFG_REJECT and event 0x040B; a disable closes an
open window. -/
def tresEnable (n : Nat) (en : Bool) (s : State) : State :=
  if en then
    let s := tresReport n s
    if tresOwnRange n s && tresFits (tresWith n s) s then setF (TRES_CFG1_EN n) 1 s else sbEvent 0x040B [] (nocReject s)
  else tresClose n (setF (TRES_CFG1_EN n) 0 s)

/-- A register write of TRES_CFG0: its fields may be written only while EN = 0, and only with values in range. -/
def tresCfg0Write (n v : Nat) (s : State) : State :=
  let s1 := regPoke (TRES_CFG0_SRC n).addr v s
  if regWord (TRES_CFG0_SRC n).addr s1 = regWord (TRES_CFG0_SRC n).addr s then s
  else if isSet (TRES_CFG1_EN n) s ∨ 80 ≤ bitsOf v 0 7 ∨ 80 ≤ bitsOf v 8 7 ∨ bitsOf v 16 4 = 0 ∨ 8 < bitsOf v 16 4 ∨ bitsOf v 24 8 = 0 then
    nocReject s
  else s1

/-- A register write of TRES_CFG1: DURATION and HOLD_KEEP only while EN = 0, then EN. -/
def tresCfg1Write (n v : Nat) (s : State) : State :=
  let same := decide (bitsOf v 0 16 = getF (TRES_CFG1_DURATION n) s) && decide (bitsOf v 16 1 = getF (TRES_CFG1_HOLD_KEEP n) s)
  let s :=
    if same then s
    else if isSet (TRES_CFG1_EN n) s ∨ bitsOf v 0 16 = 0 then nocReject s
    else setF (TRES_CFG1_HOLD_KEEP n) (bitsOf v 16 1) (setF (TRES_CFG1_DURATION n) (bitsOf v 0 16) s)
  if bitOf v 31 = isSet (TRES_CFG1_EN n) s then s else tresEnable n (bitOf v 31) s

/-- TRES_STATUS as a word. -/
def tresStatusWord (n : Nat) (s : State) : Nat :=
  let w := tabGet 0 s.noc.windows n
  natOfBool (decide (w ≠ 0)) + 256 * getF (TRES_STATUS_MIN_DELAY n) s + 65536 * (w % 65536)

/-- TIMED_RES_SET's fields in the registers, EN as asked. -/
def tresPut (r : Req) (s : State) : State :=
  let n := arg r 0 1
  setF (TRES_CFG1_EN n) (arg r 8 1) (setF (TRES_CFG1_HOLD_KEEP n) (arg r 5 1) (setF (TRES_CFG1_DURATION n) (arg r 6 2)
    (setF (TRES_CFG0_DELAY n) (arg r 4 1) (setF (TRES_CFG0_QUOTA n) (arg r 3 1) (setF (TRES_CFG0_DEST n) (arg r 2 1)
      (setF (TRES_CFG0_SRC n) (arg r 1 1) s))))))

/-- 0x0330 TIMED_RES_SET (R262). Group CLOCK is 0. -/
def sheetTimedResSet : Sheet :=
  { plainSheet 0x0330 (fun r s => argsLen 12 (fun r =>
        decide (arg r 0 1 < 32) && tresRange (arg r 1 1) (arg r 2 1) (arg r 3 1) (arg r 4 1) (arg r 6 2) &&
        decide (arg r 5 1 ≤ 1) && decide (arg r 8 1 ≤ 1) && decide (arg r 9 3 = 0) &&
        (decide (arg r 8 1 = 0) || tresFits (tresWith (arg r 0 1) s) (tresPut r s))) r) [0] (fun r s =>
      let s := tresReport (arg r 0 1) (tresPut r s)
      (replyOk (leBytes 2 (minDelay (tresWith (arg r 0 1) s) (arg r 0 1) s)), s)) with
    state := fun r s => if tabGet 0 s.noc.windows (arg r 0 1) = 0 then none else some stWrongState }

def execTimedResSet (mb : Fin 14) (s : State) : Host.Outcome State Fault Refusal := fin (runSheet sheetTimedResSet mb.val s)

/-- 0x0331 TIMED_RES_STATUS. -/
def sheetTimedResStatus : Sheet := plainSheet 0x0331 (fun r _ => argsLen 1 (fun r => decide (arg r 0 1 < 32)) r) [] (fun r s =>
  let n := arg r 0 1
  (replyOk (leBytes 4 (regWord (TRES_CFG0_SRC n).addr s) ++ leBytes 4 (regWord (TRES_CFG1_DURATION n).addr s) ++
    leBytes 4 (tresStatusWord n s)), s))

def execTimedResStatus (mb : Fin 14) (s : State) : Host.Outcome State Fault Refusal := fin (runSheet sheetTimedResStatus mb.val s)

def execTresEnableWrite (res : Fin 32) (en : Bool) (s : State) : Host.Outcome State Fault Refusal :=
  fin (if en && isSet (TRES_CFG1_EN res.val) s then s else tresEnable res.val en s)

/-- A TIMED packet is sent (R264): it carries the stamp of the slot in which it was accepted. -/
def timedSend (r n dest : Nat) (data : BitVec 256) (s : State) : State :=
  let k : Pkt := { pktZero with
    dest := dest, src := r, op := opTimed, turn := s.clk.turn, slot := s.clk.slot, res := n, data := leBytes 32 data.toNat
    wgt := getF (NOC_QOS_WGT r) s, ecc := isSet NOC_CTRL_ECC_EN s, era := getF (TRES_CFG0_DELAY n) s }
  probesSee k { s with noc := { s.noc with
    flying := s.noc.flying ++ [k], used := tabUpd 0 s.noc.used n (· + 1) } }

/-- A source port accepts a TIMED packet (R264): taken while the port is READY, and sent, or dropped as bad or excess. -/
def timedAccept (r n dest : Nat) (data : BitVec 256) (s : State) : State :=
  if fpState r s ≠ fpReady then s
  else if isSet (TRES_CFG1_EN n) s = false ∨ getF (TRES_CFG0_SRC n) s ≠ r ∨ getF (TRES_CFG0_DEST n) s ≠ dest then incC (ctNoc 7) s
  else if tabGet 0 s.noc.windows n = 0 ∨ getF (TRES_CFG0_QUOTA n) s ≤ tabGet 0 s.noc.used n then
    oncePerSecond (0x040E0000 + r) (sbEvent 0x040E []) (whRaise 70 (incC (ctNoc 6) s))
  else timedSend r n dest data s

def execTimedPacketSend (region : Fin 80) (res : Fin 32) (dest : BitVec 7) (data : BitVec 256) (s : State) :
    Host.Outcome State Fault Refusal := fin (timedAccept region.val res.val dest.toNat data s)

/-- A TIMED packet is late (R266). -/
def timedLate (s : State) : State := sbEvent 0x0409 [] (whRaise 69 (incC (ctNoc 8) s))

/-- The single data flit of a TIMED packet as its destination decodes it (R251); where it is uncorrectable the spec names no
answer, and the packet keeps its place with data that is a free value. -/
def timedDecode (k : Pkt) (flips : BitVec 266) (s : State) : Pkt × State :=
  let n := popCount flips.toNat 266
  if k.ecc = false then ({ k with data := leBytes 32 (leNat k.data ^^^ flips.toNat % 2 ^ 256) }, s)
  else if n = 0 then (k, s)
  else if n = 1 then (k, oncePerSecond (0x04010000 + k.dest) (sbEvent 0x0401 []) (incC (ctNoc 0) s))
  else ({ k with data := leBytes 32 (freeNat s) }, useFree s)

/-- The oldest TIMED packet under way on a reservation reaches its destination port (R266). -/
def timedArrive (n : Nat) (flips : BitVec 266) (s : State) : State :=
  match s.noc.flying.find? (fun k => decide (k.res = n)) with
  | none => s
  | some k =>
    let s : State := { s with noc := { s.noc with flying := s.noc.flying.erase k } }
    if fpState k.dest s = fpIsolated ∨ fpState k.dest s = fpAsleep then incC (ctNoc 10) s
    else if 0 ≤ timedPast k s ∨ 64 ≤ (s.noc.held.filter (fun x => decide (x.dest = k.dest))).length then timedLate s
    else
      let x := timedDecode k flips s
      { x.2 with noc := { x.2.noc with held := x.2.noc.held ++ [x.1] } }

def execTimedPacketArrive (res : Fin 32) (flips : BitVec 266) (s : State) : Host.Outcome State Fault Refusal :=
  fin (timedArrive res.val flips s)

/-- The first packet presented to a region is accepted by its logic. -/
def timedTake (r : Nat) (s : State) : State :=
  match s.noc.shown.find? (fun k => decide (k.dest = r)) with
  | none => s
  | some k => emit (.fabric r 2 k.src 0 (leBytes 6 k.turn ++ leBytes 2 k.slot ++ k.data))
      { s with noc := { s.noc with shown := s.noc.shown.erase k } }

/-- TIMED_PRESENT: packets whose slot has come are presented, and the region's logic accepts `n` of those presented to it. -/
def execTimedPresent (region : Fin 80) (n : Fin 65) (s : State) : Host.Outcome State Fault Refusal :=
  fin (forEach (fun _ s => timedTake region.val s) (natsFrom 0 n.val) (timedDue s))

def execTimedWindowClose (s : State) : Host.Outcome State Fault Refusal := fin (timedCloses s)

end Sys2Proof.Machine
end

