-- ==== Sys2Proof/Machine/Links.lean ====
section
/-! DEFINITION. Links, credits, replay and audit (R244, R247 to R250), and the NoC, probe and trace commands (R259, R271 to
R273). -/

namespace Sys2Proof.Machine

/-- A link after reset (R247). -/
def linkInit : Link :=
  { credits := [8, 8, 8, 8], queued := [0, 0, 0, 0], kept := [], sendL := 0, wantL := 0, naked := false, since := none
    failed := false, returns := [] }

/-- The key of an output: router and port (0 N, 1 E, 2 S, 3 W, 4 to 7 local 0 to 3). -/
def linkKey (n p : Nat) : Nat := n * 8 + p

/-- The link at an output. -/
def linkOf (n p : Nat) (s : State) : Link := tabGet linkInit s.noc.links (linkKey n p)

/-- Replace it. -/
def linkSet (n p : Nat) (x : Link) (s : State) : State :=
  { s with noc := { s.noc with links := tabSet linkInit s.noc.links (linkKey n p) x } }

/-- The output leads somewhere: to a neighbour in the mesh of 8 by 6, or to an endpoint (R242). -/
def linkThere (n p : Nat) : Bool :=
  match p with
  | 0 => decide (n / 8 < 5)
  | 1 => decide (n % 8 < 7)
  | 2 => decide (0 < n / 8)
  | 3 => decide (0 < n % 8)
  | _ => (natsFrom 0 110).any (fun d => decide (nodeAttach d = (n, p)))

/-- The first NAK or resend that is not yet made good (R249). -/
def linkTrouble (x : Link) (s : State) : Link := { x with since := some (x.since.getD s.time.us) }

/-- Rate-limit key of event 0x0403 of a link. -/
def rlReplay (n p : Nat) : Nat := 0x04030000 + linkKey n p

/-- Some link has failed (NOC_STATUS.LINK_FAIL). -/
def anyLinkFailed (s : State) : Bool := s.noc.links.any (fun p => p.2.failed)

/-- A flit that had been in trouble is delivered: a successful replay (R249). The cause of alarm 0x0C is present while a link has
failed. -/
def linkDelivered (n p : Nat) (s : State) : State :=
  let x := linkOf n p s
  if x.since.isSome then
    let s := incC (ctNoc 2) (linkSet n p { x with since := none, failed := false } s)
    oncePerSecond (rlReplay n p) (sbEvent 0x0403 []) (whenS (x.failed && !anyLinkFailed s) (alarmGone 0x0C) s)
  else s

/-- The receiver's side of a flit (R248): a good flit in sequence is queued and acknowledged, a bad one is refused and every later
one discarded until it arrives again, one already accepted is acknowledged again and discarded. -/
def linkReceive (n p l vc : Nat) (good : Bool) (s : State) : State :=
  let x := linkOf n p s
  if good = false then
    if x.naked then s
    else linkSet n p (linkTrouble { x with naked := true, returns := x.returns ++ [(x.wantL, true)] } s) s
  else if l = x.wantL then
    linkDelivered n p (linkSet n p { x with
      naked := false, wantL := (l + 1) % 16, queued := listSet x.queued vc (listGet 0 x.queued vc + 1)
      returns := x.returns ++ [(l, false)] } s)
  else if (x.wantL + 16 - l) % 16 ≤ 8 then linkSet n p { x with returns := x.returns ++ [(l, false)] } s
  else s

/-- A flit on a link: a new one of a VC, which needs a credit and a place in the replay buffer (R247, R248), or entry i of the
replay buffer sent again. -/
def linkFlit (n p : Nat) (f : FlitIn) (s : State) : State :=
  let x := linkOf n p s
  if linkThere n p = false then s
  else
    match f with
    | .fresh vc good =>
      if listGet 0 x.credits vc.val = 0 ∨ 8 ≤ x.kept.length then s
      else
        linkReceive n p x.sendL vc.val good (linkSet n p { x with
          credits := listSet x.credits vc.val (listGet 0 x.credits vc.val - 1), kept := x.kept ++ [(x.sendL, vc.val)]
          sendL := (x.sendL + 1) % 16 } s)
    | .again i good =>
      match x.kept[i.val]? with
      | none => s
      | some e => linkReceive n p e.1 e.2 good (linkSet n p (linkTrouble x s) s)

def execLinkFlitReceive (router : Fin 48) (port : Fin 8) (f : FlitIn) (s : State) : Host.Outcome State Fault Refusal :=
  fin (linkFlit router.val port.val f s)

/-- The next return reaches the sender (R248): an ACK frees entries up to and including its LSEQ, a NAK begins a resend; one whose
parity is bad is lost. -/
def linkReturn (n p : Nat) (good : Bool) (s : State) : State :=
  let x := linkOf n p s
  match x.returns with
  | [] => s
  | r :: l =>
    let x := { x with returns := l }
    if good = false then linkSet n p x s
    else if r.2 then linkSet n p (linkTrouble x s) s
    else
      match x.kept.findIdx? (fun e => decide (e.1 = r.1)) with
      | some i => linkSet n p { x with kept := x.kept.drop (i + 1) } s
      | none => linkSet n p x s

def execLinkAckNak (router : Fin 48) (port : Fin 8) (good : Bool) (s : State) : Host.Outcome State Fault Refusal :=
  fin (linkReturn router.val port.val good s)

/-- A flit of a VC leaves the receiver's queue and its credit returns (R247); one with bad parity is discarded. -/
def creditReturn (n p vc : Nat) (good : Bool) (s : State) : State :=
  let x := linkOf n p s
  if listGet 0 x.queued vc = 0 then s
  else
    let x := { x with queued := listSet x.queued vc (listGet 0 x.queued vc - 1) }
    linkSet n p (if good then { x with credits := listSet x.credits vc (listGet 0 x.credits vc + 1) } else x) s

def execCreditReturn (router : Fin 48) (port : Fin 8) (vc : Fin 4) (good : Bool) (s : State) : Host.Outcome State Fault Refusal :=
  fin (creditReturn router.val port.val vc.val good s)

/-- REPLAY_TIMEOUT: the oldest entry is to be resent, with all after it (R248). -/
def replayTimeout (n p : Nat) (s : State) : State :=
  let x := linkOf n p s
  if x.kept = [] then s else linkSet n p (linkTrouble x s) s

def execReplayTimeout (router : Fin 48) (port : Fin 8) (s : State) : Host.Outcome State Fault Refusal :=
  fin (replayTimeout router.val port.val s)

/-- LINK_FAIL (R249): 1 µs after the first NAK or resend. -/
def linkFail (n p : Nat) (s : State) : State :=
  let x := linkOf n p s
  match x.since with
  | none => s
  | some t =>
    if x.failed then s
    else
      let s : State := { s with time := { s.time with us := max s.time.us (t + 1) } }
      let s := linkSet n p { x with failed := true } s
      let s := setF LINK_FAIL_LOG_VALID 1 (setF LINK_FAIL_LOG_PORT p (setF LINK_FAIL_LOG_ROUTER n s))
      alarm 0x0C (linkKey n p) true (whRaise 64 (sbEvent 0x0404 [] s))

def execLinkFail (router : Fin 48) (port : Fin 8) (s : State) : Host.Outcome State Fault Refusal :=
  finG (linkFail router.val port.val s)

/-- Flits of a VC that are sent and not yet accepted by the receiver. -/
def linkTransit (x : Link) (vc : Nat) : Nat :=
  (x.kept.filter (fun e => decide (e.2 = vc) && decide ((e.1 + 16 - x.wantL) % 16 < 8))).length

/-- CREDIT_AUDIT (R250): once no flit of the VC is under way, the count and the queue must make 8. `upset` is what an upset has
left in the credit counter, with its parity bad, which starts the audit whatever AUDIT_EN. -/
def creditAudit (n p vc : Nat) (upset : Option (Fin 16)) (s : State) : State :=
  let x := linkOf n p s
  if linkThere n p = false ∨ linkTransit x vc ≠ 0 ∨ (upset = none ∧ isSet NOC_CTRL_AUDIT_EN s = false) then s
  else
    let s := boundMet 1 s
    let right := 8 - listGet 0 x.queued vc
    let count := match upset with | some v => v.val | none => listGet 0 x.credits vc
    let fixed := linkSet n p { x with credits := listSet x.credits vc right } s
    if upset.isSome ∨ right < count then whRaise 67 (sbEvent 0x0406 [] (setF NOC_STATUS_CREDIT_PARITY 1 fixed))
    else if count < right then
      whRaise 66 (sbEvent 0x0405 [] (setF NOC_STATUS_CREDIT_FIX 1 (addC (ctNoc 3) (right - count) fixed)))
    else s

def execCreditAudit (router : Fin 48) (port : Fin 8) (vc : Fin 4) (upset : Option (Fin 16)) (s : State) :
    Host.Outcome State Fault Refusal := finG (creditAudit router.val port.val vc.val upset s)

/-! ### Commands. Group DEBUG is 6. -/

/-- NOC_STATUS as a word. -/
def nocStatusWord (s : State) : Nat := regWord 0x3F00500004 s ||| natOfBool (anyLinkFailed s)

/-- 0x0C20 NOC_STATUS. -/
def sheetNocStatus : Sheet :=
  { plainSheet 0x0C20 (fun r _ => argsLen 1 (fun r => decide (arg r 0 1 ≤ 1)) r) [] (fun r s =>
      let p := leBytes 4 (nocStatusWord s) ++ leBytes 4 (regWord 0x3F00500008 s) ++
        ((natsFrom 0 11).map (fun i => ctrBytes (ctNoc i) s)).flatten
      (replyOk p, if arg r 0 1 = 0 then s else
        forEach (fun f s => setF f 0 s) [NOC_STATUS_CFG_REJECT, NOC_STATUS_CREDIT_FIX, NOC_STATUS_CREDIT_PARITY,
          NOC_STATUS_MISROUTE, NOC_STATUS_PAYLOAD_UE] s)) with
    groups := fun r => if arg r 0 1 = 0 then [] else [6] }

def execNocStatus (mb : Fin 14) (s : State) : Host.Outcome State Fault Refusal := fin (runSheet sheetNocStatus mb.val s)

/-- 0x0C21 NOC_QOS_SET (R259, R260). -/
def sheetNocQosSet : Sheet := plainSheet 0x0C21 (fun r _ => argsLen 2 (fun r =>
    decide (arg r 0 1 < 128) && decide (1 ≤ arg r 1 1) && decide (arg r 1 1 ≤ 15)) r) [6] (fun r s =>
  (replyOk [], setF (NOC_QOS_WGT (arg r 0 1)) (arg r 1 1) s))

def execNocQosSet (mb : Fin 14) (s : State) : Host.Outcome State Fault Refusal := fin (runSheet sheetNocQosSet mb.val s)

/-- Codes that PROBE_CFG refuses. -/
def probeBad (cfg : Nat) : Bool := decide (bitsOf cfg 2 2 = 3) || decide (48 ≤ bitsOf cfg 8 6)

/-- The address of a probe's registers. -/
def probeAddr (p off : Nat) : Nat := 0x3F00580000 + p * 0x20 + off

/-- 0x0C22 PROBE_SET (R271). -/
def sheetProbeSet : Sheet := plainSheet 0x0C22 (fun r _ => argsLen 20 (fun r =>
    decide (arg r 0 1 < 32) && decide (arg r 1 3 = 0) && !probeBad (arg r 4 4)) r) [6] (fun r s =>
  let p := arg r 0 1
  (replyOk [], regPoke (probeAddr p 0) (arg r 4 4) (regPoke (probeAddr p 12) (arg r 16 4) (regPoke (probeAddr p 8) (arg r 12 4)
    (regPoke (probeAddr p 4) (arg r 8 4) s)))))

def execProbeSet (mb : Fin 14) (s : State) : Host.Outcome State Fault Refusal := fin (runSheet sheetProbeSet mb.val s)

/-- PROBE_CFG as a word: ASLEEP is what the fabric port shows (R274). -/
def probeCfgWord (p : Nat) (s : State) : Nat := regWord (probeAddr p 0) s ||| (if probeAsleep p s then 64 else 0)

/-- 0x0C23 PROBE_READ. -/
def sheetProbeRead : Sheet := plainSheet 0x0C23 (fun r _ => argsLen 1 (fun r => decide (arg r 0 1 < 32)) r) [] (fun r s =>
  let p := arg r 0 1
  (replyOk (leBytes 4 (probeCfgWord p s) ++ ctrBytes (ctProbe p) s ++
    leBytes 1 (natOfBool (getC (ctProbe p) s).ovf + 2 * natOfBool (probeAsleep p s)) ++ leBytes 1 0), s))

def execProbeRead (mb : Fin 14) (s : State) : Host.Outcome State Fault Refusal := fin (runSheet sheetProbeRead mb.val s)

/-- The 32 bytes of slot i of the trace RAM; a slot that nothing has written reads 0. -/
def traceSlot (i : Nat) (s : State) : List (BitVec 8) := padTo 32 (tabGet [] s.noc.trace i)

/-- 0x0C24 PROBE_TRACE_READ (R273). -/
def sheetProbeTraceRead : Sheet := plainSheet 0x0C24 (fun r _ => argsLen 4 (fun r =>
    decide (arg r 0 2 < 2048) && decide (1 ≤ arg r 2 1) && decide (arg r 2 1 ≤ 64) && decide (arg r 3 1 = 0)) r) [] (fun r s =>
  (replyOk (leBytes 2 (getF PTRACE_STATUS_WPTR s) ++ leBytes 1 (getF PTRACE_STATUS_WRAPPED s) ++ leBytes 1 0 ++
    ((natsFrom (arg r 0 2) (arg r 2 1)).map (fun i => traceSlot (i % 2048) s)).flatten), s))

def execProbeTraceRead (mb : Fin 14) (s : State) : Host.Outcome State Fault Refusal := fin (runSheet sheetProbeTraceRead mb.val s)

/-- PTRACE_RESTART (R273). -/
def ptraceRestart (s : State) : State := setF PTRACE_STATUS_WRAPPED 0 (setF PTRACE_STATUS_FULL 0 (setF PTRACE_STATUS_WPTR 0 s))

def execPtraceRestart (s : State) : Host.Outcome State Fault Refusal := fin (ptraceRestart s)

end Sys2Proof.Machine
end

