-- ==== Sys2Proof/Machine/Passers.lean ====
section
/-! DEFINITION. The Passers (R268 to R270): descriptors, bursts, completion, halt and abort. One descriptor is in hand at a time
(log entry 32). -/

namespace Sys2Proof.Machine

/-- A Passer with nothing in hand. -/
def passInit : Pass :=
  { desc := none, started := false, late := false, off := 0, ops := [], worst := 0, badDesc := false, aborting := false
    copy := false, index := 0 }

/-- Passer n's work. -/
def passOf (n : Nat) (s : State) : Pass := tabGet passInit s.noc.passes n

/-- Change it; INFLIGHT follows the operations. -/
def passUpd (n : Nat) (f : Pass → Pass) (s : State) : State :=
  let x := f (passOf n s)
  setF (PASS_STATUS_INFLIGHT n) x.ops.length { s with noc := { s.noc with passes := tabSet passInit s.noc.passes n x } }

/-- The NoC node of a Passer. -/
def passNode (n : Nat) : Nat := 93 + n

/-- Entries of the descriptor ring, and the address of one. -/
def passRing (n : Nat) (s : State) : Nat := 2 ^ getF (PASS_CTRL_RING_LOG2 n) s
def passAt (n i : Nat) (s : State) : Nat :=
  (getF (PASS_RING_LO_BASE n) s * 32 + getF (PASS_RING_HI_BASE n) s * 2 ^ 32 + 32 * i) % 2 ^ 40

/-- The fields of a descriptor (R268). -/
def descSrc (d : List (BitVec 8)) : Nat := fieldAt d 0 5
def descDst (d : List (BitVec 8)) : Nat := fieldAt d 8 5
def descLen (d : List (BitVec 8)) : Nat := fieldAt d 16 3
def descFlag (d : List (BitVec 8)) (i : Nat) : Bool := bitOf (fieldAt d 20 1) i

/-- A descriptor that the Passer does not run (R270): a nonzero reserved byte, or LEN 0. -/
def descBad (d : List (BitVec 8)) : Bool :=
  decide (fieldAt d 19 1 ≠ 0) || decide (16 ≤ fieldAt d 20 1) || decide (fieldAt d 21 1 ≠ 0) || decide (descLen d = 0)

/-- Nothing new is issued (R270): EN = 0, aborting, an error, or frozen while a core is halted. -/
def passStopped (n : Nat) (s : State) : Bool :=
  let x := passOf n s
  !isSet (PASS_CTRL_EN n) s || x.aborting || decide (x.worst ≠ 0) || x.badDesc || decide (getF (PASS_STATUS_STATE n) s = 3) ||
    (isSet (PASS_CTRL_FREEZE_ON_HALT n) s && haltAny s)

/-- An operation ends with a status. -/
def passFail (n st : Nat) (s : State) : State := passUpd n (fun x => { x with worst := statusWorse x.worst st }) s

/-- The first free tag of a Passer. -/
def passTag (x : Pass) : Nat := ((natsFrom 0 32).find? (fun t => x.ops.all (fun o => decide (o.tag ≠ t)))).getD 0

/-- Send a packet as an operation; an address that no node serves fails at once (R243). -/
def passSend (n : Nat) (o : POp) (k : Pkt) (s : State) : State :=
  match nodeOf k.addr with
  | none => passFail n nsNoTarget s
  | some d =>
    inject { k with dest := d, src := passNode n, tag := o.tag } (passUpd n (fun x => { x with ops := x.ops ++ [o] }) s)

/-- A write of `bytes` at any address within one burst (R244): whole beats with byte enables at the edges. -/
def writePkt (a : Nat) (bytes : List (BitVec 8)) : Pkt :=
  let lo := a % 32
  let beats := (lo + bytes.length + 31) / 32
  let hi := (lo + bytes.length - 1) % 32 + 1
  let first := if beats = 1 then (2 ^ bytes.length - 1) * 2 ^ lo else (2 ^ (32 - lo) - 1) * 2 ^ lo
  { pktZero with
    op := opWr, len := beats - 1, addr := a / 32 * 32, beFirst := first, beLast := if beats = 1 then first else 2 ^ hi - 1
    data := padTo (32 * beats) (List.replicate lo 0 ++ bytes) }

/-- A read of `n` bytes at any address within one burst. -/
def readPkt (a n : Nat) : Pkt :=
  { pktZero with op := opRd, len := (a % 32 + n + 31) / 32 - 1, addr := a / 32 * 32 }

/-- The length of the next piece of a copy: both bursts have at most 16 beats and stay within 4 KiB (R246, R269). -/
def pieceLen (a b left : Nat) (fill : Bool) : Nat :=
  let w := min (512 - b % 32) (4096 - b % 4096)
  let r := if fill then 512 else min (512 - a % 32) (4096 - a % 4096)
  min left (min w r)

/-- The bytes of a fill: the 64-bit pattern over and over, from the copy's first byte on. -/
def fillBytes (d : List (BitVec 8)) (off n : Nat) : List (BitVec 8) :=
  (natsFrom off n).map (fun i => listGet 0 d (i % 8))

/-- Issue the next operation of the descriptor in hand, up to `fuel` of them (R269). -/
def passIssue (n : Nat) : Nat → State → State
  | 0, s => s
  | fuel + 1, s =>
    let x := passOf n s
    match x.desc with
    | none => s
    | some d =>
      if x.started = false ∨ passStopped n s = true ∨ 32 ≤ x.ops.length ∨ descLen d ≤ x.off then s
      else
        let fill := descFlag d 1
        let a := (descSrc d + x.off) % 2 ^ 40
        let b := (descDst d + x.off) % 2 ^ 40
        let m := pieceLen a b (descLen d - x.off) fill
        let o : POp := ⟨passTag x, x.off, m, fill, s.time.us⟩
        let k := if fill then writePkt b (fillBytes d x.off m) else readPkt a m
        passIssue n fuel (passSend n o k (passUpd n (fun x => { x with off := x.off + m }) s))

/-- The descriptor in hand starts. -/
def passStart (n : Nat) (late : Bool) (s : State) : State :=
  passIssue n 33 (setF (PASS_STATUS_STATE n) 1 (passUpd n (fun x => { x with started := true, late := late }) s))

/-- The time at which a descriptor with WAIT_SLOT starts: whether it has passed, and whether it has come. -/
def descPast (d : List (BitVec 8)) (s : State) : Bool :=
  let t := turnDiff s.clk.turn (fieldAt d 24 6)
  decide (t < 2 ^ 47) && (decide (0 < t) || decide (fieldAt d 30 2 < s.clk.slot))
def descDue (d : List (BitVec 8)) (s : State) : Bool :=
  descPast d s || (decide (fieldAt d 24 6 = s.clk.turn) && decide (fieldAt d 30 2 = s.clk.slot))

/-- A descriptor arrives (R269, R270): it halts the Passer, waits for its slot, or starts. -/
def passDescriptor (n : Nat) (d : List (BitVec 8)) (s : State) : State :=
  let s := passUpd n (fun x => { x with desc := some d, started := false, late := false, off := 0, badDesc := descBad d }) s
  if descBad d then s
  else if descFlag d 2 && !descDue d s then setF (PASS_STATUS_STATE n) 2 s
  else passStart n (descFlag d 2 && descPast d s) s

/-- The running PASSER_COPY of Passer n. -/
def copyOf (n : Nat) (s : State) : Option Async :=
  s.mail.running.find? (fun a => decide (a.opcode = 0x0620) && decide (a.args = [n]))

/-- PASSER_COPY ends (R150): DETAIL is RESULT. -/
def copyEnd (n st result : Nat) (s : State) : State :=
  match copyOf n s with
  | none => s
  | some a => complete a st result [] { s with mail := { s.mail with running := s.mail.running.erase a } }

/-- The work of a Passer that has been stopped is over once nothing is in flight: after ABORT with ABORTED set, after EN = 0
without. The descriptor in hand is dropped and CONS stays. -/
def passDrained (n : Nat) (s : State) : State :=
  let x := passOf n s
  if x.ops ≠ [] then s
  else if x.aborting then
    let s := whenS x.copy (copyEnd n stHwFault x.worst) s
    setF (PASS_STATUS_ABORTED n) 1 (setF (PASS_CTRL_EN n) 0 (setF (PASS_STATUS_STATE n) 0 (passUpd n (fun _ => passInit) s)))
  else if isSet (PASS_CTRL_EN n) s = false ∧ x.desc.isSome then
    passUpd n (fun _ => passInit) (whenS x.copy (copyEnd n stHwFault x.worst) s)
  else s

/-- PASS_CTRL.EN is written: 1 starts, or resumes at CONS after a halt; 0 stops issuing. -/
def passEnable (n : Nat) (en : Bool) (s : State) : State :=
  let was := isSet (PASS_CTRL_EN n) s
  if en = was then s
  else if en then setF (PASS_STATUS_STATE n) 0 (setF (PASS_STATUS_ERR n) 0 (setF (PASS_CTRL_EN n) 1 s))
  else
    let s := setF (PASS_CTRL_EN n) 0 s
    passDrained n (if getF (PASS_STATUS_STATE n) s = 3 then s else setF (PASS_STATUS_STATE n) 0 s)

def execPassEnable (n : Fin 16) (en : Bool) (s : State) : Host.Outcome State Fault Refusal := fin (passEnable n.val en s)

/-- PROD, modulo the ring size. -/
def passProd (n v : Nat) (s : State) : State := setF (PASS_IDX_PROD n) (v % passRing n s) s

def execPassProdWrite (n : Fin 16) (prod : BitVec 12) (s : State) : Host.Outcome State Fault Refusal :=
  fin (passProd n.val prod.toNat s)

/-- PASS_CTRL.ABORT (R270). -/
def passAbort (n : Nat) (s : State) : State := passDrained n (passUpd n (fun x => { x with aborting := true }) s)

def execPassAbort (n : Fin 16) (s : State) : Host.Outcome State Fault Refusal := fin (passAbort n.val s)

/-- A register write of PASS_CTRL: RING_LOG2 only while EN = 0 and only 4 to 12; ABORT after the rest. -/
def passCtrlWrite (n v : Nat) (s : State) : State :=
  let k := bitsOf v 8 4
  let s :=
    if k = getF (PASS_CTRL_RING_LOG2 n) s then s
    else if isSet (PASS_CTRL_EN n) s ∨ k < 4 ∨ 12 < k then nocReject s
    else setF (PASS_CTRL_RING_LOG2 n) k s
  let s := setB (PASS_CTRL_FREEZE_ON_HALT n) (bitOf v 3) (setB (PASS_CTRL_IRQ_EN n) (bitOf v 2) s)
  let s := passEnable n (bitOf v 0) s
  if bitOf v 1 then passAbort n s else s

/-- A register write of PASS_RING_LO or HI: only while EN = 0. -/
def passRingWrite (n a v : Nat) (s : State) : State :=
  let s1 := regPoke a v s
  if isSet (PASS_CTRL_EN n) s ∧ regWord a s1 ≠ regWord a s then nocReject s else s1

/-- PASSER_DESCRIPTOR_FETCH (R269): with nothing in hand, the Passer reads descriptor CONS; with a descriptor started and held up
by a freeze that has ended, it goes on. -/
def passFetch (n : Nat) (s : State) : State :=
  let x := passOf n s
  if passStopped n s then s
  else if x.desc.isSome then passIssue n 33 s
  else if x.ops ≠ [] ∨ getF (PASS_IDX_PROD n) s = getF (PASS_IDX_CONS n) s then s
  else
    let i := getF (PASS_IDX_CONS n) s
    passSend n ⟨0, 0, 0, false, s.time.us⟩ (readPkt (passAt n i s) 32)
      (setF (PASS_STATUS_STATE n) 1 (passUpd n (fun x => { x with index := i }) s))

def execPasserDescriptorFetch (n : Fin 16) (s : State) : Host.Outcome State Fault Refusal := fin (passFetch n.val s)

/-- PASSER_WAIT_SLOT_START (R269): the slot of a waiting descriptor has come, or has passed while a halt froze the Passer. -/
def passSlot (n : Nat) (s : State) : State :=
  match (passOf n s).desc with
  | none => s
  | some d => if getF (PASS_STATUS_STATE n) s = 2 ∧ passStopped n s = false ∧ descDue d s = true then passStart n (descPast d s) s else s

def execPasserWaitSlotStart (n : Fin 16) (s : State) : Host.Outcome State Fault Refusal := fin (passSlot n.val s)

/-- RESULT is written into the descriptor (R268): bytes 22 and 23. -/
def passResult (n st : Nat) (s : State) : State :=
  let x := passOf n s
  let v := st + (if x.late then 2 ^ 14 else 0) + 2 ^ 15
  passSend n ⟨passTag x, 1, 0, true, s.time.us⟩ (writePkt (passAt n x.index s + 22) (leBytes 2 v)) s

/-- RESULT of the descriptor in hand. -/
def resultOf (x : Pass) : Nat := x.worst + (if x.late then 2 ^ 14 else 0) + 2 ^ 15

/-- PASSER_DESCRIPTOR_COMPLETE (R269): every WR_RSP of the descriptor is in. -/
def passComplete (n : Nat) (s : State) : State :=
  let x := passOf n s
  match x.desc with
  | none => s
  | some d =>
    if x.started = false ∨ x.ops ≠ [] ∨ x.off < descLen d ∨ x.worst ≠ 0 ∨ x.aborting = true then s
    else if x.copy then
      setF (PASS_CTRL_EN n) 0 (setF (PASS_STATUS_STATE n) 0 (passUpd n (fun _ => passInit) (copyEnd n stOk (resultOf x) s)))
    else
      let s := passResult n 0 s
      let s := passUpd n (fun x => { x with desc := none, started := false, late := false, off := 0 }) s
      let s := setF (PASS_STATUS_STATE n) 0 (setF (PASS_IDX_CONS n) ((x.index + 1) % passRing n s) s)
      whenS (descFlag d 0) (setF (PASS_STATUS_COMPLETE n) 1) s

def execPasserDescriptorComplete (n : Fin 16) (s : State) : Host.Outcome State Fault Refusal := fin (passComplete n.val s)

/-- PASSER_HALT (R270): an error response or a bad descriptor, once nothing is in flight. -/
def passHalt (n : Nat) (s : State) : State :=
  let x := passOf n s
  if x.ops ≠ [] ∨ x.aborting = true ∨ (x.worst = 0 ∧ x.badDesc = false) ∨ getF (PASS_STATUS_STATE n) s = 3 then s
  else
    let s := whenS (x.desc.isSome && !x.copy) (passResult n x.worst) s
    let s := setF (PASS_STATUS_ERR_INDEX n) x.index (setF (PASS_STATUS_ERR n) x.worst (setF (PASS_STATUS_STATE n) 3 s))
    let s := sbEvent 0x040C [] (whRaise (112 + n) s)
    let s := whenS x.copy (fun s => setF (PASS_CTRL_EN n) 0 (copyEnd n stHwFault (resultOf x) s)) s
    passUpd n (fun y => { passInit with ops := y.ops, index := x.index }) s

def execPasserHalt (n : Fin 16) (s : State) : Host.Outcome State Fault Refusal := fin (passHalt n.val s)

/-- A response reaches a Passer for an operation in flight (R252, R269, R270). `bad` lists the beats that are poisoned or could
not be decoded: nothing of them is written onward. -/
def passRespond (n : Nat) (k : Pkt) (s : State) : State :=
  match (passOf n s).ops.find? (fun o => decide (o.tag = k.tag)) with
  | none => s
  | some o =>
    let st := if k.bad = [] then k.status else statusWorse k.status nsPoisoned
    let s := passUpd n (fun x => { x with ops := x.ops.erase o }) s
    if st ≠ 0 then passDrained n (passFail n st s)
    else if o.n = 0 ∧ o.off = 0 then
      if isSet (PASS_CTRL_EN n) s ∧ (passOf n s).aborting = false then passDescriptor n k.data s else passDrained n s
    else if o.n = 0 ∨ o.writing = true then passDrained n (passIssue n 33 s)
    else
      match (passOf n s).desc with
      | none => s
      | some d =>
        let a := (descSrc d + o.off) % 2 ^ 40
        let b := (descDst d + o.off) % 2 ^ 40
        passSend n { o with writing := true, at_ := s.time.us } (writePkt b ((k.data.drop (a % 32)).take o.n)) s

/-- An operation has had no response for RSP_TIMEOUT (R255). -/
def passTimeout (n tag : Nat) (s : State) : State :=
  passRespond n { pktZero with tag := tag, status := nsTargetError } s

/-- 0x0620 PASSER_COPY (R269). Group DRAM is 4. -/
def sheetPasserCopy : Sheet :=
  plainSheet 0x0620 (fun r _ => argsLen 24 (fun r => decide (arg r 0 1 < 16) && decide (arg r 1 1 ≤ 1) && decide (arg r 2 2 = 0) &&
      (decide (arg r 1 1 = 1) || decide (arg r 4 8 < 2 ^ 40)) && decide (arg r 12 8 < 2 ^ 40) && decide (1 ≤ arg r 20 4) &&
      decide (arg r 20 4 < 2 ^ 24)) r) [4] (fun r s =>
    let n := arg r 0 1
    if isSet (PASS_CTRL_EN n) s then (replySt stBusy, s)
    else
      let d := leBytes 8 (arg r 4 8) ++ leBytes 8 (arg r 12 8) ++ leBytes 4 (arg r 20 4) ++ leBytes 1 (2 * arg r 1 1) ++ leBytes 11 0
      let s := setF (PASS_STATUS_ERR n) 0 (setF (PASS_STATUS_STATE n) 0 (setF (PASS_CTRL_EN n) 1
        (passUpd n (fun _ => { passInit with copy := true, index := getF (PASS_IDX_CONS n) s }) s)))
      (replyAccepted [n] [], passDescriptor n d s))

def execPasserCopy (mb : Fin 14) (s : State) : Host.Outcome State Fault Refusal := fin (runSheet sheetPasserCopy mb.val s)

/-- PASS_STATUS as a word. -/
def passStatusWord (n : Nat) (s : State) : Nat := regWord (PASS_STATUS_STATE n).addr s

/-- 0x0621 PASSER_STATUS. -/
def sheetPasserStatus : Sheet := plainSheet 0x0621 (fun r _ => argsLen 1 (fun r => decide (arg r 0 1 < 16)) r) [] (fun r s =>
  let n := arg r 0 1
  (replyOk (leBytes 4 (regWord (PASS_CTRL_EN n).addr s) ++ leBytes 4 (regWord (PASS_IDX_PROD n).addr s) ++
    leBytes 4 (passStatusWord n s)), s))

def execPasserStatus (mb : Fin 14) (s : State) : Host.Outcome State Fault Refusal := fin (runSheet sheetPasserStatus mb.val s)

end Sys2Proof.Machine
end

