-- ==== Sys2Proof/Machine/ReconfigCore.lean ====
section
/-! DEFINITION. Region loads from their sources, readback, verification, the scrubber's passes and repairs (R216 to R240). -/

namespace Sys2Proof.Machine

/-! ### What the registers read -/

/-- RGN_STATUS: the sources, slots and ENC of the planes in their roles (R213 to R215). -/
def rgnStatusWord (r : Nat) (s : State) : Nat :=
  let a := planeOf (planeIn r 0 s) r s
  let h := planeOf (planeIn r 1 s) r s
  getF (RGN_STATUS_ACTIVE_PLANE r) s + 4 * getF (RGN_STATUS_SHADOW_STATE r) s + 16 * (a.src % 8) + 256 * (h.src % 8) +
    2 ^ 12 * getF (RGN_STATUS_FENCED r) s + 2 ^ 13 * getF (RGN_STATUS_REPAIR_PENDING r) s +
    2 ^ 14 * getF (RGN_STATUS_REPAIR_FAILED r) s + 2 ^ 16 * (a.slot % 64) + 2 ^ 24 * (h.slot % 64) +
    2 ^ 30 * natOfBool a.enc + 2 ^ 31 * natOfBool h.enc

/-- A refused write of the configuration controller's global registers (R8). -/
def cfgReject (s : State) : State := setF CFG_STATUS_CFG_REJECT 1 s

/-! ### Loads -/

/-- The image a load reads: header, body, whether every read was good. -/
def loadBytes (l : Load) (s : State) : (List (BitVec 8) × List (BitVec 8) × Bool) × State :=
  if l.src = 2 then
    let n := 64 + l.slot
    let h := slotRead (slotBase n) 1024 s
    let b := slotBody n h.1.1 h.2
    ((h.1.1, b.1.1, h.1.2 && b.1.2), b.2)
  else if l.src = 3 then
    let r := drRead l.addr l.len s
    ((r.1.1.take 1024, (r.1.1.drop 1024).take (fieldAt r.1.1 48 4), r.1.2), r.2)
  else ((l.data.take 1024, (l.data.drop 1024).take (fieldAt l.data 48 4), true), s)

/-- A load through the ICP has all its words (R226). -/
def loadFed (l : Load) : Bool :=
  decide (l.src ≠ 4) || (decide (1024 ≤ l.data.length) && decide (1024 + fieldAt l.data 48 4 ≤ l.data.length))

/-- REGION_LOAD_COMPLETE (R222): the steps have run. `readBad` says that a read of the source failed, `agree` that every written
frame read back as written. -/
def loadRun (readBad agree : Bool) (s : State) : State :=
  match s.cfg.load with
  | none => s
  | some l =>
    if loadFed l then
      let x := loadBytes l s
      match regionCheck l x.1.1 x.1.2.1 (x.1.2.2 && !readBad) s with
      | .inl c => loadReject l c x.2
      | .inr (fs, p) => if agree then loadDone l fs p x.2 else loadReject l 14 x.2
    else s

/-- A flash operation works on a slot. -/
def slotErasing (n : Nat) (s : State) : Bool :=
  let inside (a : Nat) : Bool := decide (slotBase n ≤ a) && decide (a < slotBase n + slotSize n)
  s.flash.ops.any (fun p => inside p.2.addr) || s.flash.waiting.any (fun o => inside o.addr)

/-! ### Readback -/

/-- A reader may have a frame of a plane (R232). -/
def readbackOk (r role : Nat) (s : State) : Bool :=
  decide (guardLevel s = 0) && isSet CFG_CTRL_READBACK_EN s && !(planeOf (planeIn r role s) r s).enc

/-- A readback is refused (R232). -/
def readbackDenied (s : State) : State := sbEvent 0x030D [] (setF CFG_STATUS_RB_DENIED 1 s)

/-- A frame as its reader gets it: corrected, with a fresh CRC-32. What the decoder makes of an uncorrectable frame is a free
value. -/
def frameOut (r role f : Nat) (s : State) : List (BitVec 8) × State :=
  let p := planeIn r role s
  match frameFind (tabGet 0 s.cfg.flips (frameKey p r f)) (freeNat s) with
  | .uncorrectable _ =>
    let d := leBytes 512 (freeNat s)
    (d ++ leBytes 4 (crc32 d), useFree s)
  | _ =>
    let d := frameBytes p r f s
    (d ++ leBytes 4 (crc32 d), s)

/-- The frames of a plane with flipped bits, in order. -/
def framesHit (p r : Nat) (s : State) : List Nat :=
  (s.cfg.flips.filter (fun x => decide (frameKey p r 0 ≤ x.1) && decide (x.1 < frameKey p (r + 1) 0))).map
    (fun x => x.1 - frameKey p r 0)

/-- Every frame of a plane is checked as the scrubber checks it: corrected and uncorrectable frames. -/
def planeVerify (p r : Nat) (s : State) : (Nat × Nat) × State :=
  (framesHit p r s).foldl (fun (x : (Nat × Nat) × State) f =>
    match frameScrub p r f x.2 with
    | (.corrected, s) => ((x.1.1 + 1, x.1.2), s)
    | (.uncorrectable _, s) => ((x.1.1, x.1.2 + 1), s)
    | (.clean, s) => (x.1, s)) ((0, 0), s)

/-! ### The scrubber's passes -/

/-- A frame of this region is read by a pass (R231, R234): none while its swap window is open, and no shadow that is LOADING. -/
def scrubReads (role r : Nat) (s : State) : Bool :=
  (tabFind s.fab.window r).isNone && (decide (role = 0) || decide (shadowState r s ≠ shLoading))

/-- The next frame a pass reads, from position `pos` on; 184,320 at its end. -/
def scrubSeek (role : Nat) (s : State) : Nat → Nat → Nat
  | 0, pos => pos
  | n + 1, pos =>
    if 184320 ≤ pos then 184320
    else if scrubReads role (pos / 2304) s then pos
    else scrubSeek role s n ((pos / 2304 + 1) * 2304)

/-- A pass starts at region 0 frame 0 (R239, R240). -/
def passBegin (role : Nat) (s : State) : State :=
  if role = 0 then
    startTimer tmScrub 3000 { s with cfg := { s.cfg with activePos := 0, activeFrom := s.time.us } }
  else { s with cfg := { s.cfg with shadowPos := 0, shadowFrom := s.time.us } }

/-- A pass is over: its duration and count are kept, the test frame is judged, and the next begins (R234, R239). -/
def passEnd (role : Nat) (selfOk : Bool) (s : State) : State :=
  let s :=
    if role = 0 then addF SCRUB_PASSES_ACTIVE 1 (setF SCRUB_STATUS_LAST_ACTIVE_US (min 4095 (s.time.us - s.cfg.activeFrom)) s)
    else addF SCRUB_PASSES_SHADOW 1
      (setF SCRUB_STATUS_LAST_SHADOW_100US (min 255 ((s.time.us - s.cfg.shadowFrom) / 100)) s)
  let s := passBegin role s
  if isSet SCRUB_CTRL_SELFTEST_EN s && !selfOk then scrubFault s else s

/-- A frame that waits for its repair in a shadow is not read (R214). -/
def repairWaits (p r f : Nat) (s : State) : Bool :=
  s.cfg.repairs.any (fun x => decide (x.plane = p) && decide (x.region = r) && decide (x.frame = f))

/-- Bits of the frame have flipped, and the scrubber reads it. -/
def scrubOne (role r f mask : Nat) (s : State) : State :=
  let p := planeIn r role s
  let s := frameUpset p r f mask s
  if role = 1 ∧ repairWaits p r f s = true then s else (frameScrub p r f s).2

/-- SCRUB_FRAME_READ (R231, R234, R235): the next frame of the active pass, or with shadow bandwidth the next frame of a new active
plane, or of the shadow pass. `mask` are the stored bits that have flipped; `selfOk` is what the test frame says at the end of
the pass. -/
def scrubRead (role mask : Nat) (selfOk : Bool) (s : State) : State :=
  let en := if role = 0 then isSet SCRUB_CTRL_ACTIVE_EN s else isSet SCRUB_CTRL_SHADOW_EN s
  if !en then s
  else
    match (if role = 1 then s.cfg.priority else []) with
    | (r, f) :: l =>
      let s := { s with cfg := { s.cfg with priority := if f + 1 < 2304 then (r, f + 1) :: l else l } }
      if scrubReads 0 r s then scrubOne 0 r f mask s else s
    | [] =>
      let pos := scrubSeek role s 81 (if role = 0 then s.cfg.activePos else s.cfg.shadowPos)
      if 184320 ≤ pos then passEnd role selfOk s
      else
        let s := scrubOne role (pos / 2304) (pos % 2304) mask s
        let s : State := { s with cfg :=
          if role = 0 then { s.cfg with activePos := pos + 1 } else { s.cfg with shadowPos := pos + 1 } }
        if 184320 ≤ pos + 1 then passEnd role selfOk s else s

/-- SCRUB_CTRL takes new values (R240): each change writes event 0x030C; a pass that is cleared stops, one that is set again
starts anew; LAPSED holds while a pass or the test frame is off; repairs that were deferred begin. -/
def scrubCtrl (v : Nat) (s : State) : State :=
  let old := regWord 0x3F00840000 s % 16
  let new := v % 16
  let n := popCount (old ^^^ new) 4
  let s := forEach (fun _ s => sbEvent 0x030C [] s) (natsFrom 0 n) (regPoke 0x3F00840000 new s)
  let s := if bitOf (old ^^^ new) 0 then (if bitOf new 0 then passBegin 0 s else stopTimer tmScrub s) else s
  let s := if bitOf (old ^^^ new) 1 && bitOf new 1 then passBegin 1 s else s
  let s := if bitOf (old ^^^ new) 2 && bitOf new 2 then
      { s with cfg := { s.cfg with repairs := s.cfg.repairs.map (fun x => { x with started := true }) } }
    else s
  setB SCRUB_STATUS_LAPSED (decide (new &&& 0xB ≠ 0xB)) s

/-! ### Repairs -/

/-- The image behind a plane with a repair source: its slot and its header's layout. -/
def repairSlot (x : Plane) (s : State) : Option (Nat × HdrAt) :=
  if x.src = 1 then some (getF BOOT_STATUS_SLOT s, hdrDevice)
  else if x.src = 2 then some (64 + x.slot, hdrRegion)
  else none

/-- Frame `k` as the records of an image write it: zero where none does; none where a record is bad (R237). -/
def recordFrame (k : Nat) (rs : List BRec) : Option (List (BitVec 8)) :=
  rs.foldl (fun acc rec =>
    match acc with
    | none => none
    | some d =>
      if rec.type ≠ 2 ∧ rec.type ≠ 3 then some d
      else
        match framesOf rec with
        | .inl _ => none
        | .inr fs =>
          match fs.find? (fun y => decide (y.1 = k)) with
          | some y => some y.2
          | none => some d) (some (List.replicate 512 0))

/-- What a repair finds in flash (R237): the frame; none where there is no source, or where a read, a tag or a CRC fails. An
operation on the bank is suspended for the read (R361). -/
def repairFrame (p r f : Nat) (readBad : Bool) (s : State) : Option (List (BitVec 8)) × State :=
  let x := planeOf p r s
  match repairSlot x s with
  | none => (none, s)
  | some (n, a) =>
    let b := flBank (slotBase n)
    let s := if flBusy b s && flSuspendOk b s then flSuspend b s else s
    let h := slotRead (slotBase n) a.len s
    let d := slotBody n h.1.1 h.2
    let good := h.1.2 && d.1.2 && !readBad
    let y := match (if good then plainBody a h.1.1 d.1.1 s else none) with
      | none => none
      | some plain =>
        match recordsOf (plain.length / 8 + 1) plain with
        | none => none
        | some rs => recordFrame (if x.src = 1 then 2304 * r + f else f) rs
    (y, d.2)

/-- The repair in hand ends (R237, R238). -/
def repairEnd (x : Repair) (frame : Option (List (BitVec 8))) (s : State) : State :=
  let s := repairFollow x.region { s with cfg := { s.cfg with repairs := s.cfg.repairs.erase x } }
  let active := decide (x.plane = planeIn x.region 0 s)
  let more := s.cfg.repairs.any (fun y => decide (y.region = x.region) && decide (y.plane = x.plane))
  match frame with
  | some d =>
    let s := incC (ctScrub 2) (sbEvent 0x0309 [] (frameWrite x.plane x.region x.frame d s))
    if active then
      if x.auto && repairDone x.region s then
        { s with cfg := { s.cfg with autoRelease := (s.cfg.autoRelease.filter (fun r => decide (r % 128 ≠ x.region))) ++ [x.region] } }
      else s
    else if shadowState x.region s = shRepairing ∧ more = false then setF (RGN_STATUS_SHADOW_STATE x.region) shReady s
    else s
  | none =>
    let s := alarm 0x09 x.region true (setF (RGN_STATUS_REPAIR_FAILED x.region) 1 (sbEvent 0x030A [] s))
    if active then s else setF (RGN_STATUS_SHADOW_STATE x.region) shBlank (planeClear x.plane x.region s)

/-- REPAIR_COMPLETE: the oldest repair, which fails where REPAIR_EN = 0 has held it back for 8 ms (R237). -/
def repairRun (readBad : Bool) (s : State) : State :=
  match s.cfg.repairs with
  | [] => s
  | x :: _ =>
    if x.started ∨ isSet SCRUB_CTRL_REPAIR_EN s then
      let y := repairFrame x.plane x.region x.frame readBad s
      boundMet 4 (repairEnd x y.1 y.2)
    else repairEnd x none { s with time := { s.time with us := max s.time.us (x.us + 8000) } }

end Sys2Proof.Machine
end

