-- ==== Sys2Proof/Machine/Reconfig.lean ====
section
/-! DEFINITION. The rows and commands of reconfiguration and scrubbing (spec/07). Group IMAGE is 1, CLOCK 0. -/

namespace Sys2Proof.Machine

/-- The region of a request. -/
def argRegion (r : Req) : Nat := arg r 0 1

/-- 0x0701 REGION_STATUS. -/
def sheetRegionStatus : Sheet := plainSheet 0x0701 (fun r _ => argsLen 1 (fun r => decide (argRegion r < 80)) r) [] (fun r s =>
  let g := argRegion r
  (replyOk (leBytes 4 (rgnStatusWord g s) ++ leBytes 1 (getF (RGN_CFG_FENCE_POLICY g) s) ++
    leBytes 1 (getF (RGN_SWAPS_LAST_REASON g) s) ++ leBytes 2 (getF (RGN_SWAPS_SWAPS g) s) ++
    leBytes 4 (planeOf (planeIn g 0 s) g s).version ++ leBytes 4 (planeOf (planeIn g 1 s) g s).version ++
    ctrBytes (ctRgn g 0) s ++ ctrBytes (ctRgn g 1) s), s))

def execRegionStatus (mb : Fin 14) (s : State) : Host.Outcome State Fault Refusal := fin (runSheet sheetRegionStatus mb.val s)

/-- 0x0702 REGION_LOAD (R221, R223). -/
def sheetRegionLoad : Sheet :=
  { plainSheet 0x0702 (fun r _ => argsLen 16 (fun r => decide (argRegion r < 80) && decide (arg r 1 1 ≤ 1) &&
        decide (arg r 2 1 ≤ 1) &&
        (if arg r 2 1 = 0 then decide (arg r 3 1 ≤ 36)
         else decide (arg r 4 8 % 256 = 0) && decide (arg r 4 8 + arg r 12 4 ≤ 4 * 2 ^ 35))) r) [1] (fun r s =>
      let slot := decide (arg r 2 1 = 0)
      if s.cfg.load.isSome ∨ (slot = true ∧ slotErasing (64 + arg r 3 1) s = true) then (replySt stBusy, s)
      else
        let s := if slot then (slotHead (64 + arg r 3 1) s).2 else s
        let l : Load := ⟨argRegion r, decide (arg r 1 1 = 1), if slot then 2 else 3, if slot then arg r 3 1 else 0x3F,
          arg r 4 8, arg r 12 4, []⟩
        (replyAccepted [argRegion r] [], loadStart l s)) with
    state := fun r s =>
      if loadsPermitted s = false ∨ (arg r 1 1 = 1 ∧ activeLoadable (argRegion r) s = false) ∨
          (arg r 2 1 = 0 ∧ (slotHead (64 + arg r 3 1) s).1.1 ≠ .valid) then some stWrongState
      else none }

def execRegionLoad (mb : Fin 14) (s : State) : Host.Outcome State Fault Refusal := fin (runSheet sheetRegionLoad mb.val s)

def execRegionLoadComplete (readBad agree : Bool) (s : State) : Host.Outcome State Fault Refusal :=
  fin (loadRun readBad agree s)

/-- 0x0703 REGION_CLEAR (R214). -/
def sheetRegionClear : Sheet := plainSheet 0x0703 (fun r _ => argsLen 1 (fun r => decide (argRegion r < 80)) r) [1] (fun r s =>
  (replyOk [], shadowClear (argRegion r) s))

def execRegionClear (mb : Fin 14) (s : State) : Host.Outcome State Fault Refusal := fin (runSheet sheetRegionClear mb.val s)

/-- A one-shot REGION_SWAP entry for a region (R35, R226). -/
def swapEntry (r turn slot : Nat) (lockedOnly : Bool) : PbEntry :=
  { turn := turn, slot := slot, fine := 0, action := 5, en := true, lockedOnly := lockedOnly, suppressHalt := false
    status := 0, period := 0, arg := r }

/-- The entry is written, after the resolution of the present slot's entries (R39), and its drain begins if it is near (R227). -/
def swapArm (i : Nat) (e : PbEntry) (s : State) : State := drainsBegin (pbPut i e (pbResolveAll s))

/-- 0x0704 REGION_SWAP_AT. -/
def sheetRegionSwapAt : Sheet :=
  { plainSheet 0x0704 (fun r s => argsLen 12 (fun r => decide (argRegion r < 80) && decide (arg r 1 1 ≤ 1) &&
        decide (arg r 2 2 < 4096) &&
        decide (pbCheck (swapEntry (argRegion r) (arg r 4 6) (arg r 10 2) (decide (arg r 1 1 = 1))) s = 0)) r) [1, 0] (fun r s =>
      (replyOk [], swapArm (arg r 2 2) (swapEntry (argRegion r) (arg r 4 6) (arg r 10 2) (decide (arg r 1 1 = 1))) s)) with
    state := fun r s => if shadowState (argRegion r) s = shBlank then some stWrongState else none }

def execRegionSwapAt (mb : Fin 14) (s : State) : Host.Outcome State Fault Refusal := fin (runSheet sheetRegionSwapAt mb.val s)

/-- A load reads the store slot. -/
def storeLoading (k : Nat) (s : State) : Bool :=
  match s.cfg.load with
  | some l => decide (l.src = 2) && decide (l.slot = k)
  | none => false

/-- The store slot is the repair source of a plane. -/
def storeRepairs (k : Nat) (s : State) : Bool := s.cfg.planes.any (fun p => decide (p.2.src = 2) && decide (p.2.slot = k))

/-- 0x0705 REGION_STORE_WRITE (R118, R220): begin, data or commit. -/
def sheetRegionStoreWrite (fail : Option (Fin 16)) : Sheet :=
  { plainSheet 0x0705 (fun r s =>
      let n := 64 + arg r 1 1
      let ok := decide (arg r 0 1 ≤ 2) && decide (arg r 1 1 ≤ 36) && decide (arg r 2 2 = 0) &&
        (if arg r 0 1 = 1 then dataArgs r.len (arg r 4 4) (arg r 8 4) (tabFind s.boot.open_ n)
         else decide (r.len = 12) && (decide (arg r 0 1 = 2) || decide (arg r 8 4 ≤ slotSize n - 256)))
      if ok then none else some stBadArg) [1] (fun r s =>
      let n := 64 + arg r 1 1
      if storeLoading (arg r 1 1) s then (replySt stBusy, s)
      else if s.boot.removal then (replySt stHwFault, s)
      else if arg r 0 1 = 0 then
        (replyAccepted [n, 0, arg r 8 4] [], beginStart n (arg r 8 4) (0x0705 + 65536 * n) s)
      else if arg r 0 1 = 1 then slotPages fail (arg r 8 4 / 256) 0 (slotBase n + arg r 4 4) (r.payload.drop 12) s
      else (replyAccepted [n, 2] [], { s with boot := { s.boot with open_ := tabDel s.boot.open_ n } })) with
    permit := fun r s => slotMayWrite r.mb (64 + arg r 1 1) s
    state := fun r s =>
      if (arg r 0 1 ≠ 0 ∧ (tabFind s.boot.open_ (64 + arg r 1 1)).isNone = true) ∨
          (runsLive s = true ∧ storeRepairs (arg r 1 1) s = true) then some stWrongState
      else none }

def execRegionStoreWrite (mb : Fin 14) (fail : Option (Fin 16)) (s : State) : Host.Outcome State Fault Refusal :=
  fin (runSheet (sheetRegionStoreWrite fail) mb.val s)

/-- The checks of a store slot's commit have run (R118, R219): it is refused with the reason, or its record is programmed. The
target of a later load is not known yet, and is not checked. -/
def storeCommitRun (a : Async) (readBad : Bool) (s : State) : State :=
  let n := listGet 0 a.args 0
  let job := 0x0705 + 65536 * n
  if jobBusy job s then s
  else
    let h := slotRead (slotBase n) 1024 s
    let x := slotCheck n (h.1.2 && regionHdrForm h.1.1 && decide (fieldAt h.1.1 48 4 ≤ slotSize n - 1280)) hdrRegion h.1.1 readBad h.2
    if x.1 ≠ 0 then asyncDone a (reasonStatus x.1) x.1 x.2
    else if x.2.boot.removal then asyncDone a stHwFault 0 x.2
    else flBegin ⟨3, 1, commitAddr n, commitBytes n 1 h.1.1, [], 0, job⟩ flGood x.2

/-- 0x0706 REGION_READBACK (R232). -/
def sheetRegionReadback : Sheet :=
  { plainSheet 0x0706 (fun r _ => argsLen 4 (fun r => decide (argRegion r < 80) && decide (arg r 1 1 ≤ 1) &&
        decide (arg r 2 2 < 2304)) r) [] (fun r s =>
      if readbackOk (argRegion r) (arg r 1 1) s then
        let x := frameOut (argRegion r) (arg r 1 1) (arg r 2 2) s
        (replyOk x.1, x.2)
      else (replySt stDenied, readbackDenied s)) with
    state := fun r s =>
      if readbackOk (argRegion r) (arg r 1 1) s = true ∧ arg r 1 1 = 1 ∧ shadowState (argRegion r) s = shLoading then some stWrongState
      else none }

def execRegionReadback (mb : Fin 14) (s : State) : Host.Outcome State Fault Refusal := fin (runSheet sheetRegionReadback mb.val s)

/-- 0x0707 REGION_VERIFY. -/
def sheetRegionVerify : Sheet :=
  { plainSheet 0x0707 (fun r _ => argsLen 2 (fun r => decide (argRegion r < 80) && decide (arg r 1 1 ≤ 1)) r) [] (fun r s =>
      let x := planeVerify (planeIn (argRegion r) (arg r 1 1) s) (argRegion r) s
      (replyOk (leBytes 2 2304 ++ leBytes 2 x.1.1 ++ leBytes 2 x.1.2 ++ leBytes 2 0), x.2)) with
    state := fun r s => if arg r 1 1 = 1 ∧ shadowState (argRegion r) s = shLoading then some stWrongState else none }

def execRegionVerify (mb : Fin 14) (s : State) : Host.Outcome State Fault Refusal := fin (runSheet sheetRegionVerify mb.val s)

/-- 0x0708 REGION_FENCE_POLICY (R238). -/
def sheetRegionFencePolicy : Sheet := plainSheet 0x0708 (fun r _ => argsLen 2 (fun r =>
    (decide (argRegion r < 80) || decide (argRegion r = 0xFF)) && decide (arg r 1 1 ≤ 2)) r) [1] (fun r s =>
  (replyOk [], forEach (fun g s => setF (RGN_CFG_FENCE_POLICY g) (arg r 1 1) s)
    (if argRegion r = 0xFF then natsFrom 0 80 else [argRegion r]) s))

def execRegionFencePolicy (mb : Fin 14) (s : State) : Host.Outcome State Fault Refusal :=
  fin (runSheet sheetRegionFencePolicy mb.val s)

/-- 0x0710 SCRUB_STATUS. -/
def sheetScrubStatus : Sheet := plainSheet 0x0710 (fun r _ => argsLen 0 (fun _ => true) r) [] (fun _ s =>
  (replyOk (((natsFrom 0 4).map (fun i => leBytes 4 (regWord (0x3F00840000 + 4 * i) s))).flatten ++
    ((natsFrom 0 3).map (fun i => ctrBytes (ctScrub i) s)).flatten ++ leBytes 2 0), s))

def execScrubStatus (mb : Fin 14) (s : State) : Host.Outcome State Fault Refusal := fin (runSheet sheetScrubStatus mb.val s)

/-- The scrubber's log becomes empty. -/
def ueLogClear (s : State) : State :=
  forEach (fun f s => setF f 0 s) [SCRUB_UE_LOG_FRAME, SCRUB_UE_LOG_REGION, SCRUB_UE_LOG_ROLE, SCRUB_UE_LOG_KIND, SCRUB_UE_LOG_VALID] s

/-- 0x0711 SCRUB_CONFIGURE (R240). -/
def sheetScrubConfigure : Sheet := plainSheet 0x0711 (fun r _ => argsLen 2 (fun r =>
    decide (arg r 0 1 < 16) && decide (arg r 1 1 ≤ 1)) r) [1] (fun r s =>
  let s := scrubCtrl (arg r 0 1) s
  (replyOk [], if arg r 1 1 = 1 then ueLogClear s else s))

def execScrubConfigure (mb : Fin 14) (s : State) : Host.Outcome State Fault Refusal := finG (runSheet sheetScrubConfigure mb.val s)

def execScrubCtrlWrite (value : BitVec 32) (s : State) : Host.Outcome State Fault Refusal := finG (scrubCtrl value.toNat s)

/-! ### The ICP (R225, R226) -/

/-- The ICP takes a command word: it is enabled in a region that is neither isolated nor in a swap window, and runs no command. -/
def icpTakes (s : State) : Bool :=
  let r := getF ICP_CTRL_REGION s
  isSet ICP_CTRL_EN s && decide (r < 80) && decide (fpState r s ≠ fpIsolated) && decide (fpState r s ≠ fpAsleep) &&
    (tabFind s.fab.window r).isNone && !s.fab.hold && !isSet ICP_STATUS_BUSY s

/-- A command word is taken: OP shows it. -/
def icpOp (op : Nat) (s : State) : State := setF ICP_STATUS_OP op s

/-- BAD_ARG or BAD_OP is answered (R226). -/
def icpBad (op region code : Nat) (s : State) : State := icpAnswer op region code 0 (setF ICP_STATUS_BAD_WORD 1 s)

/-- Run an ICP command with a region in range. -/
def icpRun (op : Nat) (region : BitVec 7) (f : Nat → State → State) (s : State) : State :=
  if icpTakes s then
    let s := icpOp op s
    if region.toNat < 80 then f region.toNat s else icpBad op region.toNat 3 s
  else s

def execIcpNop (s : State) : Host.Outcome State Fault Refusal := fin (if icpTakes s then icpOp 0 s else s)

/-- LOAD: the words that follow are the region image. It waits while another load runs. -/
def icpLoad (active : Bool) (words : List (BitVec 32)) (r : Nat) (s : State) : State :=
  if loadsPermitted s = false ∨ (active = true ∧ activeLoadable r s = false) then icpAnswer 1 r 6 0 s
  else loadStart ⟨r, active, 4, 0x3F, 0, 0, (words.map (fun w => leBytes 4 w.toNat)).flatten⟩ (setF ICP_STATUS_BUSY 1 s)

def execIcpLoad (region : BitVec 7) (active : Bool) (words : List (BitVec 32)) (s : State) : Host.Outcome State Fault Refusal :=
  fin (if s.cfg.load.isSome then s else icpRun 1 region (icpLoad active words) s)

def execIcpClear (region : BitVec 7) (s : State) : Host.Outcome State Fault Refusal :=
  fin (icpRun 2 region (fun r s => icpAnswer 2 r 0 0 (shadowClear r s)) s)

/-- SWAP_AT: an entry that R36 refuses is BAD_ARG. -/
def icpSwap (index : Nat) (lockedOnly : Bool) (turn slot r : Nat) (s : State) : State :=
  let e := swapEntry r turn slot lockedOnly
  if pbCheck e s = 0 then icpAnswer 3 r 0 0 (swapArm index e s) else icpBad 3 r 3 s

def execIcpSwapAt (region : BitVec 7) (index : Fin 4096) (lockedOnly : Bool) (turn : BitVec 48) (slot : BitVec 16) (s : State) :
    Host.Outcome State Fault Refusal := fin (icpRun 3 region (icpSwap index.val lockedOnly turn.toNat slot.toNat) s)

/-- READBACK: one word, then 128 data words and the CRC-32. -/
def icpReadback (frame : Nat) (role r : Nat) (s : State) : State :=
  if 2304 ≤ frame then icpBad 4 r 3 s
  else if !readbackOk r role s then icpAnswer 4 r 4 0 (readbackDenied s)
  else if role = 1 ∧ shadowState r s = shLoading then icpAnswer 4 r 6 0 s
  else
    let x := frameOut r role frame s
    forEach (fun i s => emit (.icp (fieldAt x.1 (4 * i) 4)) s) (natsFrom 0 129) (icpAnswer 4 r 0 0 x.2)

def execIcpReadback (region : BitVec 7) (frame : Fin 4096) (shadow : Bool) (s : State) : Host.Outcome State Fault Refusal :=
  fin (icpRun 4 region (icpReadback frame.val (natOfBool shadow)) s)

def execIcpStatus (region : BitVec 7) (s : State) : Host.Outcome State Fault Refusal :=
  fin (icpRun 5 region (fun r s => icpAnswer 5 r 0 (rgnStatusWord r s) s) s)

/-- A word with an unknown OP, 6 to 15. -/
def execIcpBadOp (op : Fin 10) (region : BitVec 7) (s : State) : Host.Outcome State Fault Refusal :=
  fin (if icpTakes s then icpBad (op.val + 6) region.toNat 2 (icpOp (op.val + 6) s) else s)

/-- ICP_ABORT: ends an ICP load and clears its plane (R225). -/
def icpAbort (s : State) : State :=
  let r := getF ICP_CTRL_REGION s
  match s.cfg.load with
  | none => s
  | some l =>
    if l.src = 4 ∧ isSet ICP_CTRL_EN s = true ∧ r < 80 ∧ fpState r s ≠ fpIsolated ∧ fpState r s ≠ fpAsleep then
      let s := setF ICP_STATUS_ABORTED 1 (planeClear (planeIn l.region (if l.active then 0 else 1) s) l.region s)
      loadCut l (if l.active then s else setF (RGN_STATUS_SHADOW_STATE l.region) shBlank s)
    else s

def execIcpAbort (s : State) : Host.Outcome State Fault Refusal := fin (icpAbort s)

/-! ### Swaps, the scrubber, repairs -/

def execSwapDrainStart (idx : Fin 4096) (s : State) : Host.Outcome State Fault Refusal :=
  fin (if isSet GC_CTRL_RUN s then drainBegin idx.val s else s)

def execSwapWindowEnd (s : State) : Host.Outcome State Fault Refusal := fin (swapEnds s)

def execScrubFrameRead (role : Fin 2) (mask : BitVec 4640) (selfOk : Bool) (s : State) : Host.Outcome State Fault Refusal :=
  finG (scrubRead role.val mask.toNat selfOk s)

def execRepairComplete (readBad : Bool) (s : State) : Host.Outcome State Fault Refusal := finG (repairRun readBad s)

def execFenceAutoRelease (s : State) : Host.Outcome State Fault Refusal := fin (autoReleases s)

/-- The RCO timer of the active pass expires (R239). -/
def execScrubPassTimeout (s : State) : Host.Outcome State Fault Refusal :=
  finG (if timerOn tmScrub s then scrubFault (expire tmScrub s) else s)

def execScrubberParityError (s : State) : Host.Outcome State Fault Refusal := finG (scrubFault s)

end Sys2Proof.Machine
end

