-- ==== Sys2Proof/Machine/CsrRead.lean ====
section
/-! DEFINITION. A 4-byte read of the register map (R3, R4, R9 to R11, R44, R211): what a register's word is, and what reading it
does. Registers that only show other state are put together here; every other register reads as its fields hold it. -/

namespace Sys2Proof.Machine

/-! ### The 48-bit counters (R211) -/

/-- The registers that select a counter; the selected counter's LO stands 4 above, its HI 8 above. -/
def ctrSelectors : List Nat :=
  [GC_CNT_IDX_IDX.addr, NOC_CNT_IDX_IDX.addr, FL_CNT_IDX_IDX.addr, (LANE_CNT_IDX_IDX 0).addr, (RP_CNT_IDX_IDX 0).addr,
    (DRC_CNT_IDX_IDX 0).addr, (PM_CNT_IDX_IDX 0).addr]

/-- The counters that have registers of their own: LO, and HI 4 above it. -/
def ctrPairs : List (Nat × List (Nat × Nat)) :=
  [(0x3F00820010, [(80, 0x100), (6, 8)]), (0x3F00580010, [(32, 0x20)]), (0x3F00580808, []), (0x3F00810010, [(80, 0x20), (2, 8)]),
    (0x3F00840010, [(3, 8)])]

/-- The counter whose LO register stands at an address. -/
def ctrAt (a : Nat) (s : State) : Option Nat :=
  if a = 0x3F00400034 then some (ctDQ (getF DQ_CNT_SEL_Q s) (getF DQ_CNT_SEL_IDX s))
  else if ctrPairs.any (fun p => decide (p.1 ≤ a) && dimsMatch p.2 (a - p.1)) then some (ctrKey a 0)
  else match regFind (a - 4) with
    | some r => if ctrSelectors.contains r.base then some (ctrKey (a - 4) (regWord (a - 4) s)) else none
    | none => none

/-- A counter's LO is read: HI is latched from the same moment (R44, R211). -/
def ctrReadLo (a k : Nat) (s : State) : Nat × State :=
  let v := (getC k s).val
  (v % 2 ^ 32, { s with latch := tabSet 0 s.latch (a + 4) (v / 2 ^ 32) })

/-- A counter's HI: as latched, with OVF as it is. -/
def ctrReadHi (a k : Nat) (s : State) : Nat := tabGet 0 s.latch a + 2 ^ 31 * natOfBool (getC k s).ovf

/-! ### The capability directory (R167 to R169) -/

/-- The bases of capabilities 1 to 0x14. -/
def capBases : List Nat :=
  [0x3F00100000, 0x3F00200000, 0x3F00300000, 0x3F00400000, 0x3F00500000, 0x3F00580000, 0x3F00600000, 0x3F00700000,
    0x3F00704000, 0x3F00800000, 0x3F00840000, 0x3F00900000, 0x3F00A00000, 0x3F00B00000, 0x3F00C00000, 0x3F00D00000,
    0x3F00E00000, 0x3F005C0000, 0x3F00100200, 0x3F00F00000]

/-- A word of the directory. GUARDED marks the configuration block and the scrubber from guard level 1 up (R164, R369). -/
def capWord (off : Nat) (s : State) : Nat :=
  let i := off / 16
  let b := listGet 0 capBases i
  let guarded := decide (1 ≤ guardLevel s) && (decide (i = 9) || decide (i = 10))
  if 20 ≤ i then 0
  else if off % 16 / 4 = 0 then i + 1 + 2 ^ 16 + 2 ^ 25 * natOfBool guarded
  else if off % 16 / 4 = 1 then (if i = 19 then 0 else 16 * (i + 1))
  else if off % 16 / 4 = 2 then b % 2 ^ 32
  else b / 2 ^ 32

/-! ### Mailboxes (R136, R143) -/

/-- The node bound to mailbox m may use its window: PCIe (BAR0) for MB0 to MB7, the Playmakers for MB9 to MB12. -/
def boxBound (m node : Nat) (bar2 : Bool) : Bool :=
  (decide (m < 8) && decide (node = 87) && !bar2) || (decide (9 ≤ m) && decide (m ≤ 12) && decide (node = 80 + m))

/-- The node bound to notice ring r may use it. -/
def ringBound (r node : Nat) (bar2 : Bool) : Bool :=
  (decide (r = 0) && decide (node = 87) && !bar2) || (decide (2 ≤ r) && decide (r ≤ 5) && decide (node = 87 + r))

/-- A read in the mailbox block; none is TARGET_ERROR: the window is not the requester's. -/
def mailRead (bar2 : Bool) (node off : Nat) (s : State) : Option Nat :=
  if off < 0x1C000 then
    (if boxBound (off / 0x2000) node bar2 then some (winRead (off / 0x2000) (off % 0x2000) s) else none)
  else if off = 0x30000 then some (regWord CLAIM_OWNER_OWNER0.addr s)
  else if 0x40000 ≤ off ∧ off < 0xB0000 then
    (if ringBound ((off - 0x40000) / 0x10000) node bar2 then some (ringRead ((off - 0x40000) / 0x10000) (off % 0x10000) s) else none)
  else some 0

/-! ### The beat network's regional beat line (R198) -/

/-- The output of a timing PLL that drives a source code of a regional line: TPLL2 and TPLL3 by way of a global line. -/
def beatSource (r : Nat) (s : State) : Option (Nat × Nat) :=
  let c := getF (RCLK_SEL_SRC r (getF (BEAT_CTRL_BEAT_LINE r) s)) s
  if c < 32 then
    let g := getF (GCLK_SEL_SRC c) s
    if 120 ≤ g ∧ g < 128 then some (2 + (g - 120) / 4, (g - 120) % 4) else none
  else none

/-- BEAT_DET (R198): every edge of the line falls at least 0.2 ns of phase from those of the slot clock. With multiplier M
and divisor D of the output and its phase step, the distances in 1/(64 M) of a slot are those of `x`. -/
def beatDet (r : Nat) (s : State) : Bool :=
  match beatSource r s with
  | none => false
  | some (p, n) =>
    let m := getF (PLL_OUT_TMUL_M1 p n) s + 1
    let d := getF (PLL_OUT_TDIV_M1 p n) s + 1
    let f := slotFreq s
    (natsFrom 0 m).all (fun k =>
      let x := (getF (PLL_OUT_PHASE_FINE p n) s * m + 64 * k * d) % (64 * m)
      decide (200 * f.1 * 64 * m < min x (64 * m - x) * 10 ^ 9 * f.2))

/-! ### Registers by block -/

/-- The index of a register in its row's first array. -/
def rowI (r : RegRow) (a : Nat) : Nat := match r.dims with | (_, st) :: _ => (a - r.base) / st | [] => 0

/-- The index of a register in its row's second array. -/
def rowJ (r : RegRow) (a : Nat) : Nat :=
  match r.dims with | (_, st) :: (_, st2) :: _ => (a - r.base) % st / st2 | _ => 0

/-- The number of a lane or port, 4 q + k. -/
def rowL (r : RegRow) (a : Nat) : Nat := 4 * rowI r a + rowJ r a

/-- The time and the calendar (R44). -/
def readClock (b a : Nat) (s : State) : Nat × State :=
  if b = GC_NOW0_FINE.addr then
    let one := tabSet 0 s.latch GC_NOW1_TURN_LO.addr (s.clk.turn % 2 ^ 32)
    let two := tabSet 0 one GC_NOW2_TURN_HI.addr (s.clk.turn / 2 ^ 32 % 2 ^ 16 + 2 ^ 16 * getF GC_STATUS_TQ s)
    (s.clk.fine % 64 + 2 ^ 16 * s.clk.slot, { s with latch := two })
  else if b = GC_NOW1_TURN_LO.addr ∨ b = GC_NOW2_TURN_HI.addr then (tabGet 0 s.latch a, s)
  else if b = CAL_NOW0_SEC.addr then
    (regWord a s, { s with latch := tabSet 0 s.latch (a + 4) (bitsClear (regWord (a + 4) s) (2 ^ 30)) })
  else if b = CAL_NOW1_MONTH.addr then
    (tabGet (bitsClear (regWord a s) (2 ^ 30)) s.latch a + 2 ^ 30 * getF CAL_NOW1_BAD_DATE s, s)
  else (regWord a s, s)

/-- The Whistle (R373 to R380): WH_CLAIM claims. none is TARGET_ERROR. -/
def readWhistle (r : RegRow) (node a : Nat) (s : State) : Option Nat × State :=
  let b := r.base
  if b = (WH_PEND_PEND 0).addr ∨ b = (WH_PEND_SET_SET 0).addr ∨ b = (WH_PEND_CLR_CLR 0).addr then
    (some (whBits (fun id => whPending id s) (rowI r a)), s)
  else if b = (WH_INSERVICE_INSERVICE 0).addr then (some (whBits (fun id => whInService id s) (rowI r a)), s)
  else if b = (WH_EN_EN 0 0).addr ∨ b = (WH_EN_SET_SET 0 0).addr ∨ b = (WH_EN_CLR_CLR 0 0).addr then
    (some (getF (WH_EN_EN (rowI r a) (rowJ r a)) s), s)
  else if b = (WH_CLAIM_ID 0).addr then
    (if whNodeMay (rowI r a) node then let x := whClaim (rowI r a) s; (some (whClaimWord x.1), x.2) else (none, s))
  else if b = (WH_TSTATUS_DEPTH 0).addr then (some (whTStatusWord (rowI r a) s), s)
  else if b = (WH_STACK_ID 0 0).addr then (some (whStackWord (rowI r a) (rowJ r a) s), s)
  else (some (regWord a s), s)

/-- The Dugout (spec/09). -/
def readDugout (r : RegRow) (a : Nat) (s : State) : Nat :=
  let b := r.base
  if b = DQ_FREE_FREE_CELLS.addr then storeFree s
  else if b = DQ_SPILL_USED_USED.addr then spillUsed s
  else if b = (DQ_GRP_PEND_PEND 0).addr then grpPendWord (rowI r a) s
  else if b = (QSTATE_DEPTH 0).addr then qStateWord (rowI r a) s
  else if b = (QFLAGS_EMPTY 0).addr then qFlagsWord (rowI r a) s
  else regWord a s

/-- The network, probes and Passers (spec/08). -/
def readNoc (r : RegRow) (a : Nat) (s : State) : Nat :=
  let b := r.base
  if b = NOC_STATUS_LINK_FAIL.addr then nocStatusWord s
  else if b = (TRES_STATUS_OPEN 0).addr then tresStatusWord (rowI r a) s
  else if b = (PROBE_CFG_EN 0).addr then probeCfgWord (rowI r a) s
  else if b = (PASS_STATUS_STATE 0).addr then passStatusWord (rowI r a) s
  else regWord a s

/-- Lanes and ports (spec/10). -/
def readLane (r : RegRow) (a : Nat) (s : State) : Nat :=
  let b := r.base
  let L := rowL r a
  if b = (LANE_CTRL_TX_EN 0).addr then laneCtrlWord L s
  else if b = (LANE_STATUS_SIG 0).addr then laneStatusWord L s
  else if b = (LANE_PHASE_VALID 0).addr then lanePhaseWord L s
  else if b = (RP_CTRL_EN 0).addr then rpCtrlWord L s
  else if b = (RP_STATUS_STATE 0).addr then rpStatusWord L s
  else regWord a s

/-- The fabric and the configuration controller (spec/06, spec/07), and KEY_STATUS. -/
def readFabric (r : RegRow) (a : Nat) (s : State) : Nat :=
  let b := r.base
  let i := rowI r a
  if b = (FP_STATUS_STATE 0).addr then
    bitsClear (regWord a s) 0x7F7F + fpState i s + 16 * fpCause i s + 256 * (fpOutstanding i s % 128)
  else if b = (BEAT_CTRL_THR_EN 0).addr then bitsClear (regWord a s) 0x10000 + 0x10000 * natOfBool (beatDet i s)
  else if b = (RGN_STATUS_ACTIVE_PLANE 0).addr then rgnStatusWord i s
  else if b = KEY_STATUS_EFUSE_KEY.addr then keyStatusWord s
  else regWord a s

/-- The flash (R356, R366): a read of FL_GUARD takes source 341's cause away. -/
def readFlash (b a : Nat) (s : State) : Nat × State :=
  if b = FL_STATUS_BUSY_A.addr then (flStatusWord s, s)
  else if b = FL_UE_LOG_ADDR.addr then (flUeWord s, s)
  else if b = FL_GUARD_LEVEL.addr then (flGuardWord s, { s with flash := { s.flash with guardChanged := false } })
  else (regWord a s, s)

/-- The Scorebook (R413, R421). -/
def readBook (b a : Nat) (s : State) : Nat :=
  if b = SB_OPSEC_VALUE.addr then opsec s
  else if b = SB_PCYCLE_VALUE.addr then s.sb.pcycle
  else if b = SB_HEAD_VALUE.addr then s.sb.next
  else if b = SB_OLDEST_VALUE.addr then s.sb.oldest
  else regWord a s

/-- The debug block (spec/14): the registers of the second core of a pair read 0. -/
def readDebug (r : RegRow) (a : Nat) (s : State) : Nat :=
  let b := r.base
  if b = DBG_GLOBAL_HALT_ANY.addr then
    natOfBool (haltAny s) + (natsFrom 0 4).foldl (fun n k => n + 2 ^ (4 + k) * natOfBool (decide (pmState k s = 3))) 0 +
      2 ^ 16 * getF DBG_GLOBAL_CFG_REJECT s
  else if pmSecond (rowI r a) s then 0
  else if b = (DBG_STATUS_HALTED 0).addr then dbgStatusWord (rowI r a) s
  else if b = (TR_STATUS_WPTR 0).addr then trStatusWord (rowI r a) s
  else regWord a s

/-- The Line Judge (spec/16). -/
def readJudge (b a : Nat) (s : State) : Nat :=
  if b = LJ_STATUS_GUARANTEE.addr then ljStatusWord s
  else if b = LJ_COND_COND.addr then condNow s
  else regWord a s

/-- A register that the map lists is read. -/
def readReg (r : RegRow) (node a : Nat) (s : State) : Option Nat × State :=
  let blk := a / 2 ^ 20 % 16
  if blk = 1 then let x := readClock r.base a s; (some x.1, x.2)
  else if blk = 3 then readWhistle r node a s
  else if blk = 4 then (some (readDugout r a s), s)
  else if blk = 5 then (some (readNoc r a s), s)
  else if blk = 6 then (some (if r.base = (DRC_STATUS_STATE 0).addr then drStatusWord (rowI r a) s else regWord a s), s)
  else if blk = 7 then (some (readLane r a s), s)
  else if blk = 8 then (some (readFabric r a s), s)
  else if blk = 9 then let x := readFlash r.base a s; (some x.1, x.2)
  else if blk = 10 then (some (readBook r.base a s), s)
  else if blk = 11 then (some (readDebug r a s), s)
  else if blk = 15 then (some (readJudge r.base a s), s)
  else (some (regWord a s), s)

/-- Four bytes of a memory by key. -/
def memWord (d : BitVec 8) (m : Mem) (k : Nat) : Nat := leNat (memBytes d m k 4)

/-- A 4-byte read of the CSR space by a node, at an address that is a multiple of 4 below 0x3F_0100_0000; none is TARGET_ERROR.
An address inside a block where no register stands reads 0 (log entry 50). -/
def csrRead (bar2 : Bool) (node a : Nat) (s : State) : Option Nat × State :=
  let blk := a / 2 ^ 20 % 16
  let off := a % 2 ^ 20
  if blk = 0 then (some (if off < 4096 then capWord off s else 0), s)
  else if blk = 12 then (mailRead bar2 node off s, s)
  else if blk = 5 ∧ 0x90000 ≤ off ∧ off < 0xA0000 then
    (some (fieldAt (traceSlot ((off - 0x90000) / 32) s) (off % 32) 4), s)
  else if blk = 11 ∧ off < 0x40000 then
    (some (if pmSecond (off / 65536) s then 0 else memWord 0 s.pm.trace off), s)
  else match ctrAt a s, ctrAt (a - 4) s with
    | some k, _ => let x := ctrReadLo a k s; (some x.1, x.2)
    | none, some k => (some (ctrReadHi a k s), s)
    | none, none => match regFind a with
      | some r => readReg r node a s
      | none => (some 0, s)

/-- A read of 4 or 8 bytes: the low word first (R10). -/
def csrReadN (bar2 : Bool) (node a : Nat) (eight : Bool) (s : State) : Option Nat × State :=
  let x := csrRead bar2 node a s
  if eight then
    let y := csrRead bar2 node (a + 4) x.2
    match x.1, y.1 with
    | some v, some w => (some (v + 2 ^ 32 * w), y.2)
    | _, _ => (none, y.2)
  else x

end Sys2Proof.Machine
end

