-- ==== Sys2Proof/Machine/Flash.lean ====
section
/-! DEFINITION. The flash: the unlock and the FL_CMD codes, operations and the read window, guard levels, and the FLASH
commands (R352 to R369). -/

namespace Sys2Proof.Machine

/-! ### FLASH commands -/

/-- FLASH_STATUS: the level, PENDING, the registers and the six counters. -/
def sheetFlashStatus : Sheet := plainSheet 0x0801 (fun r _ => argsLen 0 (fun _ => true) r) [] (fun _ s =>
  (replyOk (leBytes 1 (guardLevel s) ++ leBytes 1 (natOfBool (guardPending s)) ++ leBytes 2 0 ++
    leBytes 4 (flStatusWord s) ++ leBytes 4 (getF FL_XIP_MARK s) ++ leBytes 4 (flUeWord s) ++
    ((natsFrom 0 6).map (fun i => ctrBytes (ctFL i) s)).flatten), s))

def execFlashStatus (mb : Fin 14) (s : State) : Host.Outcome State Fault Refusal :=
  fin (runSheet sheetFlashStatus mb.val s)

/-- A mailbox of a Playmaker: MB9 to MB12. -/
def boxOfCore (m : Nat) : Bool := decide (9 ≤ m) && decide (m ≤ 12)

/-- FLASH_READ (R369): the Referee reads for the caller. -/
def sheetFlashRead (e : FlashErr) : Sheet :=
  { plainSheet 0x0802 (fun r _ => argsLen 6 (fun r => decide (1 ≤ arg r 4 2) && decide (arg r 4 2 ≤ 2048) &&
      decide (arg r 0 4 + arg r 4 2 ≤ 0x10000000)) r) []
      (fun r s =>
        let a := arg r 0 4
        let x := flRead a (arg r 4 2) e (flSuspend (flBank a) s)
        match x.1.bad with
        | none => (replyOk x.1.data, x.2)
        | some _ => (replySt stHwFault, x.2)) with
    permit := fun r s => decide (guardLevel s = 0) || (boxOfCore r.mb && flUser (arg r 0 4) (arg r 4 2)) }

def execFlashRead (mb : Fin 14) (e : FlashErr) (s : State) : Host.Outcome State Fault Refusal :=
  fin (runSheet (sheetFlashRead e) mb.val s)

/-- The guard level lets a mailbox program and erase (R369). -/
def flMayWrite (m : Nat) (s : State) : Bool := decide (guardLevel s = 0) || decide (m = 8) || boxOfCore m

/-- Program pages in ascending order (sheet of 0x0803); `fail` is the page whose internal verify fails. -/
def flPages (fail : Option (Fin 16)) : Nat → Nat → Nat → List (BitVec 8) → State → Reply × State
  | 0, _, _, _, s => (replyOk [], flDone s)
  | n + 1, i, a, d, s =>
    let s := flBufSet (d.take 256) (setF FL_ADDR_ADDR a s)
    if flPage s a ≠ 0 then (replySt stWrongState, flErr 5 s)
    else if fail.map Fin.val = some i then
      (replySt stHwFault, sbEvent 0x0802 [] (flErr 6 (flSpoilPage a s)))
    else flPages fail n (i + 1) (a + 256) (d.drop 256) (flProgram a (d.take 256) s)

def sheetFlashProgram (fail : Option (Fin 16)) : Sheet :=
  { plainSheet 0x0803 (fun r _ =>
      let n := arg r 4 4
      if 256 ≤ n ∧ n ≤ 4096 ∧ n % 256 = 0 ∧ r.len = 8 + n ∧ arg r 0 4 % 256 = 0 ∧ arg r 0 4 + n ≤ 0x10000000 then none
      else some stBadArg) [1]
      (fun r s =>
        let a := arg r 0 4
        if flOwnBusy s then (replySt stBusy, s)
        else if flXipBlocks (flBank a) s then (replySt stSameBank, flSameBank s)
        else if s.boot.removal then (replySt stHwFault, flErr 10 s)
        else flPages fail (arg r 4 4 / 256) 0 a (r.payload.drop 8) s) with
    permit := fun r s => flMayWrite r.mb s && flUser (arg r 0 4) (arg r 4 4) }

def execFlashProgram (mb : Fin 14) (fail : Option (Fin 16)) (s : State) : Host.Outcome State Fault Refusal :=
  fin (runSheet (sheetFlashProgram fail) mb.val s)

/-- FLASH_ERASE: the sectors follow one another; SAME_BANK is looked for before each. -/
def sheetFlashErase : Sheet :=
  { plainSheet 0x0804 (fun r _ => argsLen 5 (fun r => decide (arg r 0 4 % 65536 = 0) && decide (1 ≤ arg r 4 1) &&
      decide (arg r 4 1 ≤ 12) && decide (arg r 0 4 + arg r 4 1 * 65536 ≤ 0x10000000)) r) [1]
      (fun r s =>
        let a := arg r 0 4
        if flOwnBusy s then (replySt stBusy, s)
        else if flXipBlocks (flBank a) s then (replySt stSameBank, flSameBank s)
        else if s.boot.removal then (replySt stHwFault, flErr 10 s)
        else
          let rest := (natsFrom 1 (arg r 4 1 - 1)).map (fun i => a + i * 65536)
          (replyAccepted [] [], flBegin ⟨2, 2, a, [], rest, 0, 0x0804⟩ flGood (flErr 0 (setF FL_ADDR_ADDR a s)))) with
    permit := fun r s => flMayWrite r.mb s && flUser (arg r 0 4) (arg r 4 1 * 65536) }

def execFlashErase (mb : Fin 14) (s : State) : Host.Outcome State Fault Refusal :=
  fin (runSheet sheetFlashErase mb.val s)

def sheetFlashSectorInfo : Sheet :=
  plainSheet 0x0805 (fun r _ => argsLen 4 (fun r => decide (arg r 0 4 % 65536 = 0) && decide (arg r 0 4 < 0x10000000)) r) []
    (fun r s =>
      let a := arg r 0 4
      let n := tabGet 0 s.flash.erases (a / 65536)
      if flOwnBusy s then (replySt stBusy, s)
      else (replyOk (leBytes 4 n ++ leBytes 1 (natOfBool (flSectorBlank a s)) ++ leBytes 1 (flArea a) ++
        leBytes 1 (natOfBool (decide (100000 ≤ n))) ++ leBytes 1 0), s))

def execFlashSectorInfo (mb : Fin 14) (s : State) : Host.Outcome State Fault Refusal :=
  fin (runSheet sheetFlashSectorInfo mb.val s)

/-- FLASH_GUARD_SET (R368). -/
def sheetFlashGuardSet : Sheet :=
  { plainSheet 0x0806 (fun r _ => argsLen 4 (fun r => decide (arg r 0 1 ≤ 2) && decide (arg r 1 1 = 0) &&
      (decide (arg r 0 1 = 1) || decide (arg r 2 2 = if arg r 0 1 = 2 then 0x4C32 else 0x4D45))) r) [1]
      (fun r s =>
        let l := arg r 0 1
        let g := guardLevel s
        if l = g then (replyOk [], s)
        else if l < g then (replyAccepted [l] [], massBegin s)
        else (replyAccepted [l] [], s)) with
    permit := fun r s => (decide (r.mb = 8) || decide (r.mb = 13)) && !(decide (guardLevel s = 2) && decide (arg r 0 1 < 2))
    state := fun _ s =>
      let out := match s.dev.state with | .live => true | .quiesce => true | _ => false
      if out || !s.flash.ops.isEmpty || !s.flash.waiting.isEmpty || (asyncOf 0x0806 s).isSome || s.boot.removal then
        some stWrongState
      else none }

def execFlashGuardSet (mb : Fin 14) (s : State) : Host.Outcome State Fault Refusal :=
  fin (runSheet sheetFlashGuardSet mb.val s)

/-- A mass erase whose command no longer runs ends: one that start-up resumed leads to HOLD (R14, R368), with the latched
events in the new Scorebook. -/
def massAlone (ok : Bool) (s : State) : State :=
  let s := if ok then massEnd s else { s with flash := { s.flash with massStep := 0, ops := [] } }
  let s : State := { s with flash := { s.flash with guardChanged := true } }
  if s.boot.stage = 8 then enterHold 0 (sbLatched s) else s

/-- The raise or the mass erase that FLASH_GUARD_SET began ends (R368); `ok` is false where the record could not be
written, and the previous level stays. -/
def execGuardChangeComplete (ok : Bool) (s : State) : Host.Outcome State Fault Refusal :=
  match asyncOf 0x0806 s with
  | none => fin (if s.flash.massStep = 0 then s else massAlone ok s)
  | some a =>
    if !ok then
      fin (asyncEnd 0x0806 stHwFault 0 [] { s with flash := { s.flash with
        massStep := 0, ops := if s.flash.massStep = 0 then s.flash.ops else [] } })
    else
      let l := listGet 0 a.args 0
      let s :=
        if l = 0 then massEnd s
        else
          let s : State := if l = 2 then { s with flash := { s.flash with guard2 := true } } else s
          sbEvent 0x0806 [] (guardWrite l 0 s)
      fin (asyncEnd 0x0806 stOk 0 [] { s with flash := { s.flash with guardChanged := true } })

/-! ### The FL_ registers -/

/-- A wrong key, or a key out of order (R356): KEY_ERR; the sixteenth in a row sets LOCKOUT. -/
def flKeyBad (s : State) : State :=
  let n := s.flash.wrongKeys + 1
  let s := setF FL_STATUS_KEY_ERR 1 (stopTimer tmUnlock { s with flash := { s.flash with unlock := 0, wrongKeys := n } })
  if n = 16 then sbEvent 0x0809 [] (setF FL_STATUS_LOCKOUT 1 s) else s

/-- A write of FL_UNLOCK by a node (R356); bits 31:16 must be 0 in a key write. -/
def flUnlock (node key : Nat) (s : State) : State :=
  if isSet FL_STATUS_LOCKOUT s then s
  else if s.flash.unlock = 0 ∧ key = 0x1F26 then
    { s with flash := { s.flash with unlock := 1, unlockBy := node, wrongKeys := 0 } }
  else if s.flash.unlock = 1 ∧ key = 0xE5D9 ∧ s.flash.unlockBy = node then
    startTimer tmUnlock 1000 { s with flash := { s.flash with unlock := 2, wrongKeys := 0 } }
  else flKeyBad s

/-- Any other write to the flash block between the two keys ends the sequence (R356). -/
def flTouched (s : State) : State :=
  if s.flash.unlock = 1 then { s with flash := { s.flash with unlock := 0 } } else s

def execFlUnlock (node : BitVec 7) (value : BitVec 32) (s : State) : Host.Outcome State Fault Refusal :=
  fin (flUnlock node.toNat value.toNat s)

/-- 1 ms passes without FL_CMD (R356). -/
def execUnlockTimeout (s : State) : Host.Outcome State Fault Refusal :=
  if timerOn tmUnlock s then
    let s := expire tmUnlock s
    fin { s with flash := { s.flash with unlock := 0 } }
  else .next s

/-- The reason why an FL_CMD of this code by this node is refused, 0 where it may start (R356 to R358, R364, R369). -/
def flRefusal (node code : Nat) (s : State) : Nat :=
  let a := getF FL_ADDR_ADDR s
  let write := decide (code = 1) || decide (code = 2)
  let size := if code = 1 ∨ code = 4 then 256 else 65536
  if flOwnBusy s then 8
  else if code = 0 ∨ 5 < code then 1
  else if a % size ≠ 0 then 2
  else if guardLevel s ≠ 0 ∧ (node < 88 ∨ 92 < node) then 3
  else if write && !flUser a size then 3
  else if write && flXipBlocks (flBank a) s then 4
  else if code = 1 ∧ flPage s a ≠ 0 then 5
  else if s.boot.removal then 10
  else 0

/-- A write of FL_CMD by a node: the unlock is spent, then the code is refused or begins (R356 to R358). -/
def flCmd (node code : Nat) (e : FlashErr) (s : State) : State :=
  let open_ := decide (s.flash.unlock = 2) && decide (s.flash.unlockBy = node)
  let s := stopTimer tmUnlock { s with flash := { s.flash with unlock := 0 } }
  if !open_ then flErr 9 s
  else
    let r := flRefusal node code s
    if r = 4 then flSameBank (flErr 4 s)
    else if r ≠ 0 then flErr r s
    else
      let d := if code = 1 then flBuf s else []
      flBegin ⟨1, code, getF FL_ADDR_ADDR s, d, [], 0, 0⟩ e (flErr 0 s)

def execProgram (node : BitVec 7) (s : State) : Host.Outcome State Fault Refusal := fin (flCmd node.toNat 1 flGood s)

def execErase (node : BitVec 7) (s : State) : Host.Outcome State Fault Refusal := fin (flCmd node.toNat 2 flGood s)

def execBlankCheck (node : BitVec 7) (s : State) : Host.Outcome State Fault Refusal := fin (flCmd node.toNat 3 flGood s)

def execReadPage (node : BitVec 7) (e : FlashErr) (s : State) : Host.Outcome State Fault Refusal :=
  fin (flCmd node.toNat 4 e s)

def execWear (node : BitVec 7) (s : State) : Host.Outcome State Fault Refusal := fin (flCmd node.toNat 5 flGood s)

/-- An FL_CMD of an unknown code; one of a known code is another row's. -/
def execFlCmdBadOp (node : BitVec 7) (code : BitVec 8) (s : State) : Host.Outcome State Fault Refusal :=
  if code.toNat = 0 ∨ 5 < code.toNat then fin (flCmd node.toNat code.toNat flGood s) else .next s

/-- The oldest running command with an opcode and this first argument: jobs of several slots run side by side. -/
def jobFind (op k : Nat) (s : State) : Option Async :=
  s.mail.running.find? (fun a => decide (a.opcode = op) && decide (listGet 0 a.args 0 = k))

/-- The asynchronous command behind a flash operation ends: `job` is its opcode and, above it, its slot. A begin command
that has erased its sectors is open with its LENGTH; a commit record that has been programmed writes event 0x010D for an
image and opens nothing. -/
def jobEnd (job st n : Nat) (s : State) : State :=
  let op := job % 65536
  let k := job / 65536
  match jobFind op k s with
  | none => s
  | some a =>
    let begins := decide (op = 0x0203) || (decide (op = 0x0705) && decide (listGet 0 a.args 1 = 0))
    let s := if st = stOk ∧ begins = true then
        { s with boot := { s.boot with open_ := tabPut s.boot.open_ k (listGet 0 a.args 2) } }
      else if st = stOk ∧ op = 0x0205 then sbEvent 0x010D [] s
      else s
    complete a st (if op = 0x0804 then n else 0) [] { s with mail := { s.mail with running := s.mail.running.erase a } }

/-- The next sector of a chain begins, unless SAME_BANK refuses it; else the command ends. -/
def flChain (o : FlashOp) (ok : Bool) (s : State) : State :=
  let n := if ok then o.count + 1 else o.count
  let stop (st : Nat) (s : State) : State := if o.job = 0 then s else jobEnd o.job st n s
  if !ok then stop stHwFault s
  else
    match o.rest with
    | [] => stop stOk s
    | a :: l =>
      if o.owner = 2 && flXipBlocks (flBank a) s then stop stSameBank (flSameBank (flErr 4 s))
      else flStart { o with addr := a, rest := l, count := n } s

/-- A program or erase ends (R358, R360); `ok` is false where its internal verify fails. -/
def flComplete (o : FlashOp) (ok : Bool) (s : State) : State :=
  let own := decide (o.owner = 1) || decide (o.owner = 2)
  let s :=
    if ok then (if o.code = 1 then flProgram o.addr o.data s else flErased o.addr s)
    else if o.code = 1 then sbEvent 0x0802 [] (flSpoilPage o.addr s)
    else sbEvent 0x0803 [] (flSpoilSector o.addr s)
  let s := if own then setF FL_STATUS_DONE 1 (flErr (if ok then 0 else if o.code = 1 then 6 else 7) s) else s
  flChain o ok s

def execFlashOperationComplete (bank : Fin 2) (ok : Bool) (s : State) : Host.Outcome State Fault Refusal :=
  match tabFind s.flash.ops bank.val with
  | none => .next s
  | some o =>
    if s.flash.massStep ≠ 0 then .next s
    else fin (flFreed bank.val (flComplete o ok (flTake bank.val s)))

/-- A read through the flash window; the length is `beats + 1` beats of 32 bytes from the beat of the address on. -/
def execFlashWindowRead (node : BitVec 7) (addr : BitVec 28) (beats : Fin 16) (e : FlashErr) (s : State) :
    Host.Outcome State Fault Refusal :=
  let a := addr.toNat / 32 * 32
  match flWindow node.toNat a (min (32 * (beats.val + 1)) (0x10000000 - a)) e s with
  | none => .next s
  | some (r, s) => fin (emit (.packet node.toNat (if r.2.2 = [] then r.1 else nsPoisoned) r.2.1) s)

/-- A core fetches from flash (R362): the mark is set; on a bank with an FL_ or FLASH operation the fetch stalls and
nothing is returned; a Referee operation is suspended. With `hit`, the word is still in the instruction cache (R388), which a
write behind it does not change: no fetch reaches the flash. -/
def execPlaymakerFetch (core : Fin 4) (addr : BitVec 28) (hit : Bool) (e : FlashErr) (s : State) :
    Host.Outcome State Fault Refusal :=
  let n := core.val
  let a := addr.toNat / 4 * 4
  let b := flBank a
  let node := 89 + n
  match (if hit then tabFind (coreOf n s).icache a else none) with
  | some w => fin (emit (.packet node nsOk w) s)
  | none =>
    if !flWindowAllows node a 4 s then fin (emit (.packet node nsNoTarget []) s)
    else
      let s := setF FL_XIP_MARK (withBit (getF FL_XIP_MARK s) (2 * n + b)) s
      if flBusy b s && (decide (flOwner b s ≠ 0) || !flSuspendOk b s) then fin s
      else
        let r := flRead a 4 e (flSuspend b s)
        if r.1.bad.isSome then fin (emit (.packet node nsPoisoned []) r.2)
        else
          fin (emit (.packet node nsOk r.1.data)
            (coreUpd n (fun c => { c with icache := tabPut c.icache a r.1.data }) r.2))

end Sys2Proof.Machine
end

