-- ==== Sys2Proof/Machine/RallyCore.lean ====
section
/-! DEFINITION. Rally blocks and frames (R312 to R316), the Rally-A sender and receiver (R318 to R320, R324), the port
scheduler (R291) and the entry to UP (R321, R325). -/

namespace Sys2Proof.Machine

/-- The CRC-16 of R313 over bytes 0 to 5 of a block. -/
def blockCrc (b : List (BitVec 8)) : Nat := crc16Of 0x1021 (b.take 6) 0xFFFF

/-- A block whose bytes 0 to 5 are these, with its CRC-16 in bytes 6 and 7. -/
def blockSeal (b : List (BitVec 8)) : List (BitVec 8) := b ++ leBytes 2 (blockCrc b)

/-- A frame as its sender builds it and its receiver reads it (R312). -/
structure Frame where
  a : Bool
  kind : Nat
  sop : Bool
  eop : Bool
  poison : Bool
  stampS : Nat
  stampT : Nat
  ack : Option (List (BitVec 8))
  seq : Nat
  data : List (BitVec 8)
  deriving DecidableEq, Repr

/-- Padding bytes in the last payload block. -/
def framePad (n : Nat) : Nat := roundUp n 8 - n

/-- The bytes of a frame before its CRC: header, ACK block, payload with padding, trailer bytes 0 to 3. -/
def frameBody (f : Frame) : List (BitVec 8) :=
  let pad := framePad f.data.length
  let flags := natOfBool f.sop + 2 * natOfBool f.eop + 4 * pad + 32 * natOfBool f.poison + 64 * natOfBool f.ack.isSome
  leBytes 1 (if f.a then 0xA5 else 0xA1) ++ leBytes 1 f.kind ++ leBytes 1 ((f.data.length + 7) / 8) ++ leBytes 1 flags ++
    leBytes 2 f.stampS ++ leBytes 2 f.stampT ++ f.ack.getD [] ++ f.data ++ List.replicate pad 0 ++
    leBytes 1 (if f.a then 0xA6 else 0xA2) ++ leBytes 1 0 ++ leBytes 2 f.seq

/-- The bytes of a frame; `bad` inverts its CRC (R315). -/
def frameSeal (bad : Bool) (f : Frame) : List (BitVec 8) :=
  frameBody f ++ leBytes 4 (if bad then crc32c (frameBody f) ^^^ 0xFFFFFFFF else crc32c (frameBody f))

/-- What a receiver makes of a frame's bytes: its format is broken, its CRC fails, or it is good. -/
inductive Parsed where
  | broken
  | badCrc (f : Frame)
  | good (f : Frame)
  deriving DecidableEq, Repr

/-- The ACK block that a Rally-A header announces (R312). -/
def frameAck (b : List (BitVec 8)) : Option (List (BitVec 8)) :=
  if bitOf (fieldAt b 3 1) 6 then some ((b.drop 8).take 8) else none

/-- Read a frame (R312). -/
def frameParse (a : Bool) (b : List (BitVec 8)) : Parsed :=
  let n := fieldAt b 2 1
  let flags := fieldAt b 3 1
  let pad := bitsOf flags 2 3
  let k := if bitOf flags 6 then 16 else 8
  let t := b.drop (k + 8 * n)
  let f : Frame := ⟨a, fieldAt b 1 1, bitOf flags 0, bitOf flags 1, bitOf flags 5, fieldAt b 4 2, fieldAt b 6 2, frameAck b,
    fieldAt t 2 2, (b.drop k).take (8 * n - pad)⟩
  if fieldAt b 0 1 = (if a then 0xA5 else 0xA1) ∧ fieldAt b 1 1 ≤ 1 ∧ 1 ≤ n ∧ n ≤ 30 ∧ bitOf flags 7 = false ∧
      (bitOf flags 6 = true → a = true ∧ fieldAt b 8 1 = 0xAC) ∧ b.length = k + 8 * n + 8 ∧
      fieldAt t 0 1 = (if a then 0xA6 else 0xA2) ∧ fieldAt t 1 1 = 0 ∧ (a = true → fieldAt t 2 2 < 4096) then
    (if fieldAt t 4 4 = crc32c (b.take (k + 8 * n + 4)) then .good f else .badCrc f)
  else .broken

/-! The receive side into RX_QUEUE (R316). -/

/-- Push whole cells of the bytes in hand; a short rest waits for the packet's next frame, or ends it. -/
def rxCells (p : Nat) (eop poison : Bool) : Nat → State → State
  | 0, s => s
  | n + 1, s =>
    let x := portOf p s
    let len := x.rxBuf.length
    if 64 < len ∨ (len = 64 ∧ eop = false) then
      let s := rxCell p (x.rxBuf.take 64) false x.rxPoison s
      rxCells p eop poison n (portUpd p (fun x => { x with rxBuf := x.rxBuf.drop 64, rxPoison := poison }) s)
    else if eop then
      let s := rxCell p x.rxBuf true x.rxPoison s
      portUpd p (fun x => { x with rxBuf := [], rxPoison := false, inPkt := false }) s
    else s

/-- Payload of a frame goes to RX_QUEUE: SOP and EOP follow the frames, POISON the cells it lies in. -/
def rxPush (p : Nat) (f : Frame) (s : State) : State :=
  let s := if f.sop then portUpd p (fun x => { x with inPkt := true, rxBuf := [], rxPoison := false, rxSop := true }) s
    else portUpd p (fun x => { x with inPkt := true }) s
  let s := portUpd p (fun x => { x with rxBuf := x.rxBuf ++ f.data, rxPoison := x.rxPoison || f.poison }) s
  rxCells p f.eop f.poison 8 s

/-- Present a frame on RP_RX (R315): 0 SOP, 1 EOP, 2 POISON, 3 LOST, 4 BAD in the status; the header stamp and PAD in the
tag. -/
def rxPresent (p : Nat) (f : Frame) (lost bad : Bool) (s : State) : State :=
  emit (.fabric (p / 8) 4 (f.stampS + 65536 * f.stampT + 2 ^ 32 * framePad f.data.length)
    (natOfBool f.sop + 2 * natOfBool f.eop + 4 * natOfBool f.poison + 8 * natOfBool lost + 16 * natOfBool bad) f.data) s

/-- A frame in sequence, or after a gap of `g` frames, goes on (R316). -/
def rxDeliver (p : Nat) (f : Frame) (g : Nat) (s : State) : State :=
  if isSet (RP_CTRL_RX_DST p) s then rxPresent p f (decide (g ≠ 0)) false s
  else
    let s := if g ≠ 0 ∨ f.sop then rxAbort p s else s
    if !f.sop && !(portOf p s).inPkt then incC (ctRP p 4) s else rxPush p f s

/-- A good Rally-F frame (R316, R317): SEQ, gaps and adoption; a TIME frame on a timing lane is the Game Clock's, and on
another port counts as BAD_FRAME. -/
def rallyFGood (p : Nat) (f : Frame) (s : State) : State :=
  if f.kind = 1 ∧ portTiming p s = false then rxCut p (incC (ctRP p 5) s)
  else
    let s := incC (ctRP p 1) s
    let first := (portOf p s).adopt
    let g := if first then 0 else (f.seq + 65536 - getF (RP_SEQ_RX_EXP p) s) % 65536
    let s := if first then portUpd p (fun x => { x with adopt := false }) (incC (ctRP p 13) s) else s
    let s := if g = 0 then s else
      oncePerSecond (0x06070000 + p) (sbEvent 0x0607 []) (portEvent p (RP_STATUS_GAP p) (addC (ctRP p 3) g s))
    let s := setF (RP_SEQ_RX_EXP p) (f.seq + 1) s
    if f.kind = 1 then s else rxDeliver p f g s

/-- The port receives frames: enabled, of this kind, with its receive side up. -/
def rallyRx (p : Nat) (a : Bool) (s : State) : Bool :=
  isSet (RP_CTRL_EN p) s && isSet (RP_STATUS_RX_UP p) s && decide (isSet (RP_CTRL_RALLY_A p) s = a)

/-- A Rally-F frame arrives (R312, R315, R316). -/
def rallyFFrame (p : Nat) (b : List (BitVec 8)) (s : State) : State :=
  if !rallyRx p false s then s
  else
    match frameParse false b with
    | .broken => rxCut p (incC (ctRP p 5) s)
    | .badCrc f =>
      let s := incC (ctRP p 2) s
      if isSet (RP_CTRL_RX_DST p) s then rxPresent p f false true s else rxCut p s
    | .good f => rallyFGood p f s

/-! Rally-A (R318 to R320). -/

/-- N and U of a port's sender. -/
def raNext (p : Nat) (s : State) : Nat := getF (RP_SEQ_TX_NEXT p) s % 4096
def raOldest (p : Nat) (s : State) : Nat := (portOf p s).oldest

/-- The replay timer restarts while frames are unacknowledged, and stops otherwise (R319): RA_TIMER in 0.1 µs. -/
def raTimer (p : Nat) (s : State) : State :=
  if unacked p s = 0 then stopTimer (tmReplay p) s
  else startTimer (tmReplay p) ((getF (RP_CFG_RA_TIMER p) s + 9) / 10) s

/-- Frames before SEQ `e` are freed: U becomes `e` (R318, R324). -/
def raFree (p e : Nat) (s : State) : State :=
  let u := raOldest p s
  let n := (e + 4096 - u) % 4096
  raTimer p (portUpd p (fun x => { x with
    oldest := e, expiries := 0
    replay := x.replay.filter (fun f => decide (n ≤ (f.seq + 4096 - u) % 4096)) }) s)

/-- An ACK is applied (R318); any but a valid ACK_SEQ is ignored. -/
def raAck (p a : Nat) (s : State) : State :=
  let u := raOldest p s
  if (a + 4096 - u) % 4096 < unacked p s then raFree p ((a + 1) % 4096) s else s

/-- An ACK block as it arrives (R312, R313, R318): a bad CRC-16 counts in ACK_BAD. -/
def raAckBlock (p : Nat) (b : List (BitVec 8)) (s : State) : State :=
  if fieldAt b 6 2 = blockCrc b then raAck p (fieldAt b 2 2 % 4096) s else incC (ctRP p 9) s

/-- Resend every frame from U onward (R319, R324). -/
def raResend (p : Nat) (s : State) : State :=
  let fs := (portOf p s).replay
  let s := forEach (fun (f : Sent) s => emit (.frame p f.bytes) (incC (ctRP p 6) s)) fs s
  raTimer p s

/-- The ACK block that carries RX_EXP − 1 (R320). -/
def raAckBytes (p : Nat) (s : State) : List (BitVec 8) :=
  blockSeal (leBytes 1 0xAC ++ leBytes 1 0 ++ leBytes 2 ((getF (RP_SEQ_RX_EXP p) s + 4095) % 4096) ++ leBytes 2 0)

/-- Send a standalone ACK (R320). -/
def raAckSend (p : Nat) (s : State) : State :=
  emit (.frame p (raAckBytes p s)) (portUpd p (fun x => { x with ackDue := 0 }) s)

/-- An ACK is due (R320): standalone where no Rally-A frame starts within 0.5 µs, and at the eighth accepted frame. -/
def raAckDue (p : Nat) (alone : Bool) (s : State) : State :=
  let n := (portOf p s).ackDue + 1
  if alone ∨ 8 ≤ n then raAckSend p s else portUpd p (fun x => { x with ackDue := n }) s

/-- The frame fits whole in RX_QUEUE below DEPTH_MAX (R320). -/
def raFits (p : Nat) (f : Frame) (s : State) : Bool :=
  let q := getF (RP_CFG_RX_QUEUE p) s
  let n := (if f.sop then 0 else (portOf p s).rxBuf.length) + f.data.length
  let k := if f.eop then (n + 63) / 64 else n / 64
  decide (dqDepth q s + k ≤ getF (QDEPTH_DEPTH_MAX q) s)

/-- A good Rally-A frame (R320). -/
def rallyAGood (p : Nat) (f : Frame) (alone : Bool) (s : State) : State :=
  let e := getF (RP_SEQ_RX_EXP p) s % 4096
  let back := (e + 4096 - f.seq) % 4096
  if f.kind = 1 then incC (ctRP p 5) s
  else if f.seq = e then
    if raFits p f s then
      raAckDue p alone (setF (RP_SEQ_RX_EXP p) ((e + 1) % 4096) (rxPush p f (incC (ctRP p 1) s)))
    else incC (ctRP p 10) s
  else if 1 ≤ back ∧ back ≤ 256 then raAckDue p alone (incC (ctRP p 7) s)
  else incC (ctRP p 8) s

/-- A Rally-A frame arrives (R320): its ACK is used first, on its own CRC-16. -/
def rallyAFrame (p : Nat) (b : List (BitVec 8)) (alone : Bool) (s : State) : State :=
  if !rallyRx p true s then s
  else
    let s := match frameAck b with
      | some k => if fieldAt b 0 1 = 0xA5 ∧ fieldAt k 0 1 = 0xAC then raAckBlock p k s else s
      | none => s
    match frameParse true b with
    | .broken => incC (ctRP p 5) s
    | .badCrc _ => incC (ctRP p 2) s
    | .good f => rallyAGood p f alone s

/-! The port scheduler (R291) and the transmitter (R314, R315, R318). -/

/-- A queue that the port may take a cell from now. -/
def txTakes (q : Nat) (s : State) : Bool := !isSet (QFLAGS_HELD q) s && dqPoppable q s

/-- Deficit round robin: the next queue after `last` among `qs`, each visited with a quantum of WEIGHT cells, until one
has a credit (R291). -/
def drrNext (p : Nat) (qs : List Nat) : Nat → State → Option Nat × State
  | 0, s => (none, s)
  | n + 1, s =>
    let last := (portOf p s).lastQ
    match (qs.find? (fun q => decide (last < q))).orElse (fun _ => qs.head?) with
    | none => (none, s)
    | some q =>
      let d := tabGet 0 (portOf p s).deficit q + (getF (QCFG_WEIGHT q) s : Int)
      let s := portUpd p (fun x => { x with lastQ := q, deficit := tabSet 0 x.deficit q d }) s
      if 0 < d then (some q, s) else drrNext p qs n s

/-- The queue the port serves next (R291): the rest of a packet first; otherwise the highest PRIO that holds a poppable
cell, and within it deficit round robin. -/
def txChoose (p : Nat) (s : State) : Option Nat × State :=
  match (portOf p s).taking with
  | some q => (if txTakes q s then some q else none, s)
  | none =>
    let qs := (portQueues p s).filter (fun q => txTakes q s)
    let top := qs.foldl (fun m q => max m (getF (QCFG_PRIO q) s)) 0
    let c := qs.filter (fun q => decide (getF (QCFG_PRIO q) s = top))
    let last := (portOf p s).lastQ
    if c.contains last ∧ 0 < tabGet 0 (portOf p s).deficit last then (some last, s)
    else drrNext p c (c.length * 70000 + 1) s

/-- The port takes a cell of queue q into its frame in progress. -/
def txTake (p q : Nat) (s : State) : State :=
  match dqPop q s with
  | (.got c, s) =>
    let empty := decide (dqDepth q s = 0)
    portUpd p (fun x => { x with
      taking := if c.eop then none else some q
      bufFirst := if x.buf = [] then c.sop else x.bufFirst
      buf := x.buf ++ c.data, bufLast := c.eop, bufPoison := x.bufPoison || c.poison
      deficit := tabSet 0 x.deficit q (if empty then 0 else tabGet 0 x.deficit q - 1) }) s
  | (_, s) => s

/-- A drop took the rest of the packet that the port had begun (R282): its queue's head cell opens another packet. The port then
chooses again, and the frame in progress ends with what it holds, since a frame carries one packet's bytes (R314). -/
def txLostRest (p : Nat) (s : State) : Bool :=
  match (portOf p s).taking with
  | some q => (dqCells q s).head?.any (·.sop)
  | none => false

/-- Take cells until the frame is full or the packet ends (R314), or no cell can be taken now. `rest` says whether the last
cell taken is poisoned, for what it leaves to the next frame. -/
def txGather (p : Nat) : Nat → Bool → State → Bool × State
  | 0, r, s => (r, s)
  | n + 1, r, s =>
    let x := portOf p s
    if 240 ≤ x.buf.length ∨ (x.bufLast ∧ x.buf ≠ []) ∨ (txLostRest p s ∧ x.buf ≠ []) then (r, s)
    else
      match txChoose p (whenS (txLostRest p s) (portUpd p (fun x => { x with taking := none })) s) with
      | (none, s) => (r, s)
      | (some q, s) =>
        let c := (dqCells q s).headD ⟨[], false, false, false, 0, 0, 0, 0⟩
        txGather p n c.poison (txTake p q s)

/-- A frame leaves a port: Rally-F, or Rally-A with its ACK and its place in the replay memory (R312, R314, R318, R319). -/
def txSend (p : Nat) (data : List (BitVec 8)) (sop eop poison timed bad : Bool) (s : State) : State :=
  let a := isSet (RP_CTRL_RALLY_A p) s
  let n := if a then raNext p s else getF (RP_SEQ_TX_NEXT p) s
  let ack := if a ∧ (portOf p s).ackDue ≠ 0 then some (raAckBytes p s) else none
  let b := frameSeal bad ⟨a, 0, sop, eop, poison, s.clk.slot, s.clk.turn % 65536, ack, n, data⟩
  let s := setF (RP_SEQ_TX_NEXT p) (if a then (n + 1) % 4096 else n + 1) (incC (ctRP p 0) s)
  let s := emit (.frame p b) s
  if a then
    let first := decide (raOldest p s = n)
    let s := portUpd p (fun x => { x with ackDue := 0, replay := x.replay ++ [⟨n, b, timed⟩] }) s
    if first then raTimer p s else s
  else s

/-- The Dugout-fed transmitter sends the frame that is ready (R314). -/
def txDugout (p : Nat) (s : State) : State :=
  if isSet (RP_CTRL_RALLY_A p) s && decide (256 ≤ unacked p s) then s
  else
    let x0 := portOf p s
    let g := txGather p 240 x0.bufPoison s
    let s := g.2
    let x := portOf p s
    let ready := decide (240 ≤ x.buf.length) || ((x.bufLast || txLostRest p s) && decide (x.buf ≠ []))
    if !ready then s
    else
      let n := min 240 x.buf.length
      let eop := x.bufLast && decide (n = x.buf.length)
      let timed := dqTimed (x.taking.getD x.lastQ) s
      let s := txSend p (x.buf.take n) x.bufFirst eop x.bufPoison timed false s
      portUpd p (fun x => { x with
        buf := x.buf.drop n, bufFirst := false, bufLast := x.bufLast && !eop
        bufPoison := g.1 && decide (n < x.buf.length) }) s

/-- The fabric-fed transmitter (R315, R326): a drop of VALID inside the frame ends it with an inverted CRC and counts
TX_UNDERRUN. -/
def txFabric (p : Nat) (t : FabTx) (s : State) : State :=
  if s.dev.state = .quiesce ∨ t.blocks = [] then s
  else
    let bytes := ((t.blocks.take 30).map (fun b => leBytes 8 b.toNat)).flatten
    let data := if t.underrun then bytes else bytes.take (bytes.length - t.pad.val)
    whenS t.underrun (incC (ctRP p 11)) (txSend p data t.sop (t.eop && !t.underrun) false false t.underrun s)

/-! SYNC and the entry to UP (R321, R324, R325). -/

/-- The SYNC block a Rally-A port sends (R312, R321). -/
def syncBytes (p : Nat) (s : State) : List (BitVec 8) :=
  blockSeal (leBytes 1 0xB2 ++ leBytes 1 (natOfBool (portOf p s).synSeen + 2) ++ leBytes 2 (raNext p s) ++
    leBytes 2 (getF (RP_SEQ_RX_EXP p) s))

/-- The peer's RX_EXP resynchronises the sender (R324); held frames are resent only once the port is UP (R325). -/
def syncSender (p e : Nat) (s : State) : State :=
  let u := raOldest p s
  if (e + 4096 - u) % 4096 ≤ unacked p s then
    let s := raFree p e s
    if getF (RP_STATUS_STATE p) s = 4 then raResend p s else stopTimer (tmReplay p) s
  else
    let s := addC (ctRP p 3) (unacked p s) s
    let s := stopTimer (tmReplay p) (portUpd p (fun x => { x with oldest := e, replay := [], expiries := 0 }) s)
    sbEvent 0x0608 [] (setF (RP_SEQ_TX_NEXT p) e s)

/-- A peer's SYNC block (R321, R324): in SYNC the port answers with SEEN = 1. -/
def syncIn (p : Nat) (x : SyncIn) (s : State) : State :=
  if rallyRx p true s && x.crcOk && x.rallyA then
    let s := syncSender p (x.rxExp.toNat % 4096) s
    if getF (RP_STATUS_STATE p) s = 3 then
      let s := portUpd p (fun y => { y with synSeen := true, synGot := y.synGot || x.seen }) s
      let s := emit (.frame p (syncBytes p s)) s
      portFollow p (portUpd p (fun y => { y with synSent := true }) s)
    else s
  else s

/-- The port reaches UP (R321, R325): UP_EV, event 0x0605 with the outage in µs and LAT_SAME, PORT_LAT; the Dugout is told,
and then a Rally-A port resends what it holds. -/
def portUp (p : Nat) (s : State) : State :=
  let x := portOf p s
  let out := if x.downUs = 0 then 0 else min (s.time.us - x.downUs) 0xFFFFFFFF
  let same := (portLanes p s).all (fun L => isSet (LANE_STATUS_LAT_SAME L) s)
  let s := stopTimer (tmHold p) (portUpd p (fun x => { x with holding := false }) s)
  let s := portEvent p (RP_STATUS_UP_EV p) (setF (RP_STATUS_STATE p) 4 s)
  let s := setF (RP_LAT_PORT_LAT p) (getF (LANE_LAT_RX_LAT p) s +
    if portWidth p s = 1 then 0 else 66 * getF (RP_LAT_DESKEW p) s) s
  let s := dqPortUp p (sbEvent 0x0605 [(4, out), (1, natOfBool same)] s)
  if isSet (RP_CTRL_RALLY_A p) s then raResend p s else s

end Sys2Proof.Machine
end

