-- ==== Sys2Proof/Machine/Rally.lean ====
section
/-! DEFINITION. The events of Rally ports (R310, R311, R316 to R325). -/

namespace Sys2Proof.Machine

/-- A bonded, enabled port whose lanes are all LOCKED and which is not deskewed. -/
def deskewing (p : Nat) (s : State) : Bool :=
  isSet (RP_CTRL_EN p) s && decide (portWidth p s ≠ 1) && (portLanes p s).all (fun L => laneLocked L s) &&
    !(portOf p s).deskewed

/-- DESKEW_COMPLETE (R311): the port's receive side is up; a depth that differs from the first after REARM sets LAT_CHANGED
on the first lane. -/
def deskewDone (p depth : Nat) (s : State) : State :=
  if deskewing p s then
    let first := (portOf p s).deskewRef
    let s := portUpd p (fun x => { x with
      deskewed := true, deskewRef := some (first.getD depth), amTries := 0, amMissed := [] }) s
    let s := setF (RP_LAT_PORT_LAT p) (getF (LANE_LAT_RX_LAT p) s + 66 * depth) (setF (RP_LAT_DESKEW p) depth s)
    let s := if first.isSome ∧ first ≠ some depth then latChanged p s else s
    portFollow p s
  else s

def execDeskewComplete (port : Fin 128) (depth : Fin 33) (s : State) : Host.Outcome State Fault Refusal :=
  fin (deskewDone port.val depth.val s)

/-- DESKEW_FAIL (R311): not complete within 4 AM periods; deskew retries. -/
def deskewFail (p : Nat) (s : State) : State :=
  if deskewing p s then sbEvent 0x0609 [] (portEvent p (RP_STATUS_DESKEW_FAIL p) s) else s

def execDeskewFail (port : Fin 128) (s : State) : Host.Outcome State Fault Refusal := fin (deskewFail port.val s)

/-- ALIGNMENT_MARKER (R310, R311): removed; one out of line, or two missing in a row on a lane, loses the deskew. -/
def markerLane (p k : Nat) (m : MarkerIn) (s : State) : State :=
  if (portOf p s).deskewed ∧ k < portWidth p s then
    let lost (s : State) : State := portFollow p (portUpd p (fun x => { x with deskewed := false, amMissed := [] }) s)
    match m with
    | .inLine => portUpd p (fun x => { x with amMissed := tabSet 0 x.amMissed k 0 }) s
    | .outOfLine => lost s
    | .missing =>
      if tabGet 0 (portOf p s).amMissed k = 0 then portUpd p (fun x => { x with amMissed := tabSet 0 x.amMissed k 1 }) s
      else lost s
  else s

def execAlignmentMarker (port : Fin 128) (lane : Fin 4) (m : MarkerIn) (s : State) : Host.Outcome State Fault Refusal :=
  fin (markerLane port.val lane.val m s)

/-- RALLY_F_FRAME_RECEIVE (R316). -/
def execRallyFFrameReceive (port : Fin 128) (bytes : List (BitVec 8)) (s : State) : Host.Outcome State Fault Refusal :=
  fin (rallyFFrame port.val bytes s)

/-- RALLY_A_FRAME_RECEIVE (R320); `alone` says that no Rally-A frame starts within 0.5 µs of an accepted one. -/
def execRallyAFrameReceive (port : Fin 128) (bytes : List (BitVec 8)) (alone : Bool) (s : State) :
    Host.Outcome State Fault Refusal := fin (rallyAFrame port.val bytes alone s)

/-- ACK: a standalone ACK block arrives (R318). -/
def execAck (port : Fin 128) (block : BitVec 64) (s : State) : Host.Outcome State Fault Refusal :=
  fin (if rallyRx port.val true s && decide (block.toNat % 256 = 0xAC) then raAckBlock port.val (leBytes 8 block.toNat) s else s)

/-- RALLY_REPLAY_TIMER_EXPIRY (R319): every frame from U onward is resent, or at RA_RETRY the port goes down with cause 6. -/
def replayExpiry (p : Nat) (s : State) : State :=
  if timerOn (tmReplay p) s && decide (getF (RP_STATUS_STATE p) s = 4) then
    let s := expire (tmReplay p) s
    let n := (portOf p s).expiries + 1
    let s := portUpd p (fun x => { x with expiries := n }) s
    if getF (RP_CFG_RA_RETRY p) s ≤ n then portDown p 6 s else raResend p s
  else s

def execRallyReplayTimerExpiry (port : Fin 128) (s : State) : Host.Outcome State Fault Refusal := fin (replayExpiry port.val s)

/-- SYNC (R321, R324). -/
def execSync (port : Fin 128) (x : SyncIn) (s : State) : Host.Outcome State Fault Refusal := fin (syncIn port.val x s)

/-- RALLY_TX_FRAME (R314, R315): a port that is UP packs cells, or takes the blocks that the fabric offers, and sends the
frame. -/
def txFrame (p : Nat) (t : FabTx) (s : State) : State :=
  if getF (RP_STATUS_STATE p) s = 4 then
    (if isSet (RP_CTRL_TX_SRC p) s then txFabric p t s else txDugout p s)
  else s

def execRallyTxFrame (port : Fin 128) (t : FabTx) (s : State) : Host.Outcome State Fault Refusal := fin (txFrame port.val t s)

/-- PORT_UP (R321): nothing keeps the port from UP; an expiry of HOLD_MS that falls with it wins (collisions of R326). -/
def execPortUp (port : Fin 128) (s : State) : Host.Outcome State Fault Refusal :=
  fin (if portReady port.val s && decide (getF (RP_STATUS_STATE port.val) s ≠ 4) then portUp port.val s else s)

/-- PORT_DOWN (R322): a cause holds for a port that is UP. -/
def execPortDown (port : Fin 128) (s : State) : Host.Outcome State Fault Refusal :=
  fin (if isSet (RP_CTRL_EN port.val) s then portFollow port.val s else s)

/-- HOLD_MS_EXPIRY (R323). -/
def execHoldMsExpiry (port : Fin 128) (s : State) : Host.Outcome State Fault Refusal :=
  fin (if timerOn (tmHold port.val) s then portHoldEnd port.val (expire (tmHold port.val) s) else s)

end Sys2Proof.Machine
end

