-- ==== Sys2Proof/Machine/Whistle.lean ====
section
/-! DEFINITION. The Whistle's rows: its commands, claims, completions and faults (R370 to R386). -/

namespace Sys2Proof.Machine

/-- WHISTLE_STATUS. -/
def sheetWhistleStatus : Sheet := plainSheet 0x0C30 (fun r _ => argsLen 2 (fun r => decide (arg r 0 2 ≤ 511)) r) [] (fun r s =>
  let id := arg r 0 2
  let en := (natsFrom 0 6).foldl (fun n t => if whEnabled t id s then n + 2 ^ t else n) 0
  let fl := natOfBool (whPending id s) + 2 * natOfBool (whInService id s) + 4 * natOfBool (whLatched id s)
  (replyOk (leBytes 1 (whPrio id s) ++ leBytes 1 en ++ leBytes 1 fl ++ leBytes 1 0 ++
    ((natsFrom 0 6).map (fun t => leBytes 4 (whTStatusWord t s))).flatten), s))

def execWhistleStatus (mb : Fin 14) (s : State) : Host.Outcome State Fault Refusal :=
  fin (runSheet sheetWhistleStatus mb.val s)

/-- WHISTLE_SOURCE_SET. -/
def sheetWhistleSourceSet : Sheet :=
  let touched (r : Req) : Nat := arg r 5 1 ||| arg r 6 1
  { plainSheet 0x0C31 (fun r _ => argsLen 8 (fun r => decide (1 ≤ arg r 0 2) && decide (1 ≤ arg r 2 2) &&
      decide (arg r 0 2 + arg r 2 2 ≤ 511) && (decide (arg r 4 1 ≤ 31) || decide (arg r 4 1 = 0xFF)) &&
      decide (touched r ≤ 0x3F) && decide (arg r 5 1 &&& arg r 6 1 = 0) && decide (arg r 7 1 = 0)) r) [6]
      (fun r s =>
        let one (id : Nat) (s : State) : State :=
          let s := if arg r 4 1 = 0xFF then s else whSetPrio id (arg r 4 1) s
          forEach (fun t s =>
            whSetEn t (id / 32) (if bitOf (arg r 5 1) t then 2 ^ (id % 32) else 0)
              (if bitOf (arg r 6 1) t then 2 ^ (id % 32) else 0) s)
            ((natsFrom 0 6).filter (bitOf (touched r))) s
        (replyOk [], forEach one (natsFrom (arg r 0 2) (arg r 2 2)) s)) with
    permit := fun r _ => !bitOf (touched r) 0 && !(decide (arg r 0 2 ≤ 2) && decide (2 < arg r 0 2 + arg r 2 2))
    state := fun r s => if (natsFrom 0 6).any (fun t => bitOf (touched r) t && whHeld t s) then some stWrongState else none }

def execWhistleSourceSet (mb : Fin 14) (s : State) : Host.Outcome State Fault Refusal :=
  fin (runSheet sheetWhistleSourceSet mb.val s)

/-- WHISTLE_HOST_CLAIM: target 5, for the host (R382). -/
def sheetWhistleHostClaim : Sheet :=
  { plainSheet 0x0C32 (fun r _ => argsLen 0 (fun _ => true) r) [] (fun _ s =>
      let x := whClaim 5 s
      (replyOk (leBytes 2 x.1.1 ++ leBytes 1 x.1.2 ++ leBytes 1 (whStack 5 x.2).length), x.2)) with
    permit := fun r _ => decide (r.mb < 8) }

def execWhistleHostClaim (mb : Fin 14) (s : State) : Host.Outcome State Fault Refusal :=
  fin (runSheet sheetWhistleHostClaim mb.val s)

/-- WHISTLE_HOST_COMPLETE (R382). -/
def sheetWhistleHostComplete : Sheet :=
  { plainSheet 0x0C33 (fun r _ => argsLen 2 (fun r => decide (arg r 0 2 ≤ 511)) r) [] (fun r s =>
      let x := whComplete 5 (arg r 0 2) s
      (replyOk (leBytes 1 (whStack 5 x.2).length ++ leBytes 1 (natOfBool x.1)), x.2)) with
    permit := fun r _ => decide (r.mb < 8) }

def execWhistleHostComplete (mb : Fin 14) (s : State) : Host.Outcome State Fault Refusal :=
  fin (runSheet sheetWhistleHostComplete mb.val s)

/-- What a source change brings from a region's logic: FAB_IRQ and FAB_THROTTLE as it now drives them (R201). Every other
source is a bit of the state, and its change is part of the command that makes it. -/
def execWhistleSourceChange (ch : Option (Fin 80 × BitVec 8 × Bool)) (s : State) : Host.Outcome State Fault Refusal :=
  match ch with
  | none => fin s
  | some (r, irq, th) =>
    let l := s.fab.throttle.filter (fun x => decide (x ≠ r.val))
    fin { s with fab := { s.fab with
      irq := tabSet 0 s.fab.irq r.val irq.toNat, throttle := if th then r.val :: l else l } }

/-- A read of WH_CLAIM by a node (R378, R383). -/
def execWhClaim (node : BitVec 7) (t : Fin 6) (s : State) : Host.Outcome State Fault Refusal :=
  if !whNodeMay t.val node.toNat then fin (emit (.accessError nsTargetError) s)
  else
    let x := whClaim t.val s
    fin (emit (.readData (whClaimWord x.1)) x.2)

/-- A write of WH_COMPLETE by a node (R379, R383). -/
def execWhComplete (node : BitVec 7) (t : Fin 6) (id : BitVec 9) (s : State) : Host.Outcome State Fault Refusal :=
  if !whNodeMay t.val node.toNat then fin (emit (.accessError nsTargetError) s)
  else fin (emit .accessOk (whComplete t.val id.toNat s).2)

/-- WH_TSTATUS.FLUSH (R380). -/
def execWhFlush (t : Fin 6) (s : State) : Host.Outcome State Fault Refusal := fin (whFlush t.val s)

/-- A write of WH_PEND_SET (R373). -/
def execWhPendSet (w : Fin 16) (bits : BitVec 32) (s : State) : Host.Outcome State Fault Refusal :=
  fin (whPendSet w.val bits.toNat s)

/-- A write of WH_PEND_CLR (R373). -/
def execWhPendClr (w : Fin 16) (bits : BitVec 32) (s : State) : Host.Outcome State Fault Refusal :=
  fin (whPendClr w.val bits.toNat s)

/-- A parity error of the Whistle (R385): of a target, whose stack is emptied; or of source state, which a shadow copy
restores. -/
def execWhistleParityError (t : Option (Fin 6)) (s : State) : Host.Outcome State Fault Refusal :=
  match t with
  | some t => fin (alarm 0x0F t.val false (sbEvent 0x0903 [] (whFlush t.val (setF (WH_TSTATUS_PARITY t.val) 1 s))))
  | none => fin (alarm 0x0F 0xFF false (sbEvent 0x0903 [] (setF WH_CTRL_PARITY 1 s)))

end Sys2Proof.Machine
end

