-- ==== Sys2Proof/Machine/CsrWrite.lean ====
section
/-! DEFINITION. A 4-byte write of the register map (R3 to R8): what each register's write does. Most take their fields as the field
types say; a register that refuses values, or whose fields apply only while something is stopped, has a function of its own.
A refused value leaves the whole register; a refused STOPPED field leaves only itself (log entry 51). -/

namespace Sys2Proof.Machine

/-- Fields of a register take a word by their types (R3): RW takes it, W1C clears and W1S sets where it has ones. -/
def fieldTake (a v : Nat) (f : FSpec) (s : State) : State :=
  let x := bitsOf v f.lo f.w
  let g := fldAt a f
  match f.ty with
  | .rw => setF g x s
  | .w1c => setF g (bitsClear (getF g s) x) s
  | .w1s => setF g (getF g s ||| x) s
  | _ => s

/-- A write that only the field types decide. -/
def regTake (a v : Nat) (s : State) : State := forEach (fieldTake a v) (regFields a) s

/-- A word with the fields of `mask` as they are where `run` forbids their change, and whether one of them was to change. -/
def keepStopped (run : Bool) (mask a v : Nat) (s : State) : Nat × Bool :=
  if run && decide (regWord a s &&& mask ≠ v &&& mask) then (keepBits mask (regWord a s) v, true) else (v, false)

/-- A write whose fields of `mask` apply STOPPED (R5, R8). -/
def takeStopped (run : Bool) (mask a v : Nat) (reject : State → State) (s : State) : State :=
  let x := keepStopped run mask a v s
  regTake a x.1 (whenS x.2 reject s)

/-! ### Block 1: the Game Clock -/

/-- GC_CTRL: SRC_MODE 3 is refused; PRIMARY and INPUT apply STOPPED; RUN acts last. -/
def gcCtrlWrite (v : Nat) (s : State) : State :=
  if bitsOf v 1 2 = 3 then gcReject s
  else
    let x := keepStopped (isSet GC_CTRL_RUN s) 0x30 GC_CTRL_RUN.addr v s
    let s := whenS x.2 gcReject s
    let s := setB GC_CTRL_REVERTIVE (bitOf v 3) (setF GC_CTRL_SRC_MODE (bitsOf v 1 2) s)
    gcRunWrite (bitOf v 0) (setB GC_CTRL_INPUT (bitOf x.1 5) (setB GC_CTRL_PRIMARY (bitOf x.1 4) s))

def writeClock (b a v : Nat) (s : State) : State :=
  let run := isSet GC_CTRL_RUN s
  if b = GC_CTRL_RUN.addr then gcCtrlWrite v s
  else if b = GC_CFG_SLOTS_SLOTS_M1.addr ∨ b = GC_CFG_LANE_TLANE_A.addr then takeStopped run 0xFFFFFFFF a v gcReject s
  else if b = GC_CFG_REF_REF_KHZ.addr then
    (if decide (bitsOf v 0 18 < 10000) || decide (250000 < bitsOf v 0 18) || !slotFreqOk (bitsOf v 0 18) (bitsOf v 20 4) (bitsOf v 24 4)
      then gcReject s else takeStopped run 0xFFFFFFFF a v gcReject s)
  else if b = GC_CFG_MON_WARN_PPM.addr then (if bitsOf v 16 10 ≤ bitsOf v 0 10 then gcReject s else regTake a v s)
  else if b = PB_CMD_WRITE.addr then
    let s := whenS (bitOf v 0) pbCmdWrite s
    whenS (bitOf v 1) pbCmdRead s
  else if b = CAL_LOAD_LOAD.addr then whenS (bitOf v 0) calLoad s
  else regTake a v s

/-! ### Block 2: clocks -/

def writeClocking (r : RegRow) (a v : Nat) (s : State) : State :=
  let b := r.base
  let i := rowI r a
  if b = (GCLK_SEL_SRC 0).addr then gclkWrite i (v % 256) s
  else if b = (RCLK_SEL_SRC 0 0).addr then rclkWrite i (rowJ r a) (v % 64) s
  else if b = (PLL_CTRL_EN 0).addr then pllCtrlWrite i v s
  else if b = (PLL_DIV_M_INT 0).addr then pllDivWrite i v s
  else if b = (PLL_SSC_MODE 0).addr then pllSscWrite i v s
  else if b = (PLL_OUT_OEN 0 0).addr then pllOutWrite i (rowJ r a) v s
  else if b = (PLL_STATUS_LOL 0).addr then lolFollow (regTake a v s)
  else regTake a v s

/-! ### Block 3: the Whistle -/

/-- A write to the Whistle; false is TARGET_ERROR: a target's COMPLETE by another node. -/
def writeWhistle (r : RegRow) (node a v : Nat) (s : State) : Bool × State :=
  let b := r.base
  let i := rowI r a
  if b = (WH_PRIO_PRIO 0).addr then (true, whSetPrio i v s)
  else if b = (WH_PEND_SET_SET 0).addr then (true, whPendSet i v s)
  else if b = (WH_PEND_CLR_CLR 0).addr then (true, whPendClr i v s)
  else if b = (WH_EN_SET_SET 0 0).addr then (true, whSetEn i (rowJ r a) v 0 s)
  else if b = (WH_EN_CLR_CLR 0 0).addr then (true, whSetEn i (rowJ r a) 0 v s)
  else if b = (WH_THRESH_THRESH 0).addr then (true, if whHeld i s then whReject s else regTake a v s)
  else if b = (WH_COMPLETE_ID 0).addr then
    (if whNodeMay i node then (true, (whComplete i (v % 512) s).2) else (false, s))
  else if b = (WH_TSTATUS_DEPTH 0).addr then (true, whenS (bitOf v 31) (whFlush i) (regTake a v s))
  else (true, regTake a v s)

/-! ### Block 4: the Dugout -/

/-- DQ_CNT_SEL: the selection, then CLR (R294). -/
def cntSelWrite (v : Nat) (s : State) : State :=
  let s := setF DQ_CNT_SEL_IDX (bitsOf v 16 3) (setF DQ_CNT_SEL_Q (v % 4096) s)
  whenS (bitOf v 31) (dqCntClear (v % 4096)) s

def writeDugout (r : RegRow) (a v : Nat) (s : State) : State :=
  let b := r.base
  let i := rowI r a
  if DQ_SPILL_DATA_LO_BASE.addr ≤ b ∧ b ≤ DQ_SPILL_CTRL_CHUNKS.addr then spillWrite1 a v s
  else if b = DQ_CNT_SEL_Q.addr then cntSelWrite v s
  else if b = (DQ_FIF_EN 0).addr then fifWrite i v s
  else if b = (QCFG_EN 0).addr then qcfgWrite i v s
  else if b = (QDEPTH_DEPTH_MAX 0).addr then qdepthWrite i v s
  else if b = (QWM_HI_WM 0).addr then qwmWrite i v s
  else if b = (QCMD_FLUSH 0).addr then
    (if bitOf v 0 then qcmdFlush i s else if bitOf v 1 then dqRelease i s else s)
  else regTake a v s

/-! ### Block 5: the network, probes and Passers -/

def writeNoc (r : RegRow) (a v : Nat) (s : State) : State :=
  let b := r.base
  let i := rowI r a
  if b = NOC_CTRL_ECC_EN.addr then (if bitsOf v 16 16 = 0 then nocReject s else regTake a v s)
  else if b = LINK_FAIL_LOG_VALID.addr then
    (if bitOf v 31 then setF LINK_FAIL_LOG_VALID 0 (setF LINK_FAIL_LOG_PORT 0 (setF LINK_FAIL_LOG_ROUTER 0 s)) else s)
  else if b = (NOC_QOS_WGT 0).addr then (if v % 16 = 0 then nocReject s else regTake a v s)
  else if b = (TRES_CFG0_SRC 0).addr then tresCfg0Write i v s
  else if b = (TRES_CFG1_EN 0).addr then tresCfg1Write i v s
  else if b = (PROBE_CFG_EN 0).addr then (if probeBad v then nocReject s else regTake a v s)
  else if b = PTRACE_CTRL_WRAP.addr then whenS (bitOf v 1) ptraceRestart (regTake a v s)
  else if b = (PASS_CTRL_EN 0).addr then passCtrlWrite i v s
  else if b = (PASS_RING_LO_BASE 0).addr ∨ b = (PASS_RING_HI_BASE 0).addr then passRingWrite i a v s
  else if b = (PASS_IDX_PROD 0).addr then passProd i (v % 4096) s
  else regTake a v s

/-! ### Block 6: DRAM -/

def writeDram (r : RegRow) (a v : Nat) (s : State) : State :=
  let b := r.base
  let c := rowI r a
  if b = (DRC_CFG_EN 0).addr then drCfgWrite c v s
  else if b = (DRC_PATROL_EN 0).addr then
    (if bitsOf v 8 8 = 0 then drReject c s else patrolWrite c (bitOf v 0) (bitsOf v 8 8) s)
  else if b = (DRC_DEV_DEV_THRESH 0).addr then (if v % 65536 = 0 then drReject c s else regTake a v s)
  else if b = (DRC_QOS_DEFAULT_TARGET_10NS 0).addr then (if v % 4096 = 0 then drReject c s else regTake a v s)
  else if b = (DRC_CE_LOG1_VALID 0).addr ∨ b = (DRC_UE_LOG1_VALID 0).addr then
    (if bitOf v 31 then drLogEmpty (a - 4) s else s)
  else regTake a v s

/-! ### Block 7: quads, lanes, ports -/

/-- A quad's PLL takes new settings (R296, R297): it locks anew where it is enabled. -/
def quadTake (q a v : Nat) (s : State) : State :=
  let s1 := regPoke a v s
  if regWord a s1 = regWord a s then s
  else if quadInUse q s then quadReject q s
  else
    let on := isSet (QUAD_CTRL_EN q) s1
    let was := isSet (QUAD_CTRL_EN q) s
    if on && !quadOk q s1 then quadReject q s
    else
      let s := if was then quadEnable q false s else s
      let s := setB (QUAD_CTRL_EN q) false (regPoke a v s)
      if on then quadEnable q true s else s

def laneEsWrite (L v : Nat) (s : State) : State :=
  if !eyeOk (v % 128) (bitsOf v 8 8) (bitsOf v 16 6) then laneReject L s
  else whenS (bitOf v 31) (eyeStart L) (regTake (LANE_ES_CTRL_H L).addr v s)

def writeLane (r : RegRow) (a v : Nat) (s : State) : State :=
  let b := r.base
  let L := rowL r a
  if b = (QUAD_CTRL_EN 0).addr ∨ b = (QUAD_REF_REF_KHZ 0).addr then quadTake (rowI r a) a v s
  else if b = (LANE_CTRL_TX_EN 0).addr then laneCtrlWrite L v s
  else if b = (LANE_TXEQ_SWING 0).addr then txeqWrite L v s
  else if b = (LANE_RXEQ_CTLE 0).addr then rxeqWrite L v s
  else if b = (LANE_DFE0_TAP1 0).addr then dfeWrite L 0 v s
  else if b = (LANE_DFE1_TAP5 0).addr then dfeWrite L 1 v s
  else if b = (LANE_DFE2_TAP9 0).addr then dfeWrite L 2 v s
  else if b = (LANE_LATREF_REARM 0).addr then whenS (bitOf v 31) (laneRearm L) s
  else if b = (LANE_SLIP_SLIP 0).addr then whenS (bitOf v 0) (laneSlip L) s
  else if b = (LANE_ES_CTRL_H 0).addr then laneEsWrite L v s
  else if b = (RP_CTRL_EN 0).addr then rpCtrlWrite L v s
  else if b = (RP_CFG_RX_QUEUE 0).addr then rpCfgWrite L v s
  else regTake a v s

/-! ### Block 8: configuration, scrubber, fabric -/

/-- FP_CTRL (R202, R205 to R207): refused values; ENABLE, CSR_EN and CLK_LINE apply STOPPED; RELEASE, then ISOLATE, which wins. -/
def fpCtrlWrite (r v : Nat) (s : State) : State :=
  let st := fpState r s
  let run := decide (st ≠ fpDown) && decide (st ≠ fpIsolated) && decide (st ≠ fpAsleep)
  if 24 ≤ bitsOf v 8 5 ∨ bitsOf v 16 8 = 0 then fpReject r s
  else
    let s := takeStopped run 0x1F03 (FP_CTRL_ENABLE r).addr v (fpReject r) s
    let s := if fpState r s = fpDown then fpSet r (fpFree r s) fcNone s else s
    if bitOf v 24 then fabIsolate r fcCommand s else if bitOf v 25 then portRelease r s else s

/-- BEAT_CTRL (R198): BEAT_LINE is refused while BEAT_DET = 1 and while the port runs. -/
def beatWrite (r v : Nat) (s : State) : State :=
  let st := fpState r s
  let run := decide (st ≠ fpDown) && decide (st ≠ fpIsolated) && decide (st ≠ fpAsleep)
  takeStopped (run || beatDet r s) 0x1F00 (BEAT_CTRL_THR_EN r).addr v (fpReject r) s

/-- A region number that a field refuses. -/
def regionBad (g : Nat) : Bool := decide (80 ≤ g) && decide (g ≤ 126)

def writeFabric (r : RegRow) (a v : Nat) (s : State) : State :=
  let b := r.base
  let i := rowI r a
  if b = (FP_CTRL_ENABLE 0).addr then fpCtrlWrite i v s
  else if b = (BEAT_CTRL_THR_EN 0).addr then beatWrite i v s
  else if b = (FAB_USER_LINE_REGION 0).addr then (if regionBad (v % 128) then cfgReject s else userLineWrite i v s)
  else if b = FAB_USER_COMMIT_COMMIT.addr then whenS (bitOf v 0) userCommit s
  else if b = CFG_CTRL_DRAIN_LEAD.addr then (if v % 4096 = 0 then cfgReject s else regTake a v s)
  else if b = ICP_CTRL_EN.addr then
    (if regionBad (bitsOf v 8 7) ∨ 24 ≤ bitsOf v 16 5 then cfgReject s else regTake a v s)
  else if b = (RGN_CFG_FENCE_POLICY 0).addr then (if v % 4 = 3 then cfgReject s else regTake a v s)
  else if b = SCRUB_CTRL_ACTIVE_EN.addr then scrubCtrl v s
  else if b = SCRUB_UE_LOG_VALID.addr then whenS (bitOf v 31) ueLogClear s
  else regTake a v s

/-! ### Block 9: the flash -/

/-- A write to the flash block by a node: the unlock sequence sees every one (R356). FL_BUF and FL_ADDR are plain. -/
def writeFlash (b node a v : Nat) (s : State) : State :=
  if b = FL_UNLOCK_KEY.addr then flUnlock node v s
  else
    let s := flTouched s
    if b = FL_CMD_CODE.addr then flCmd node (v % 256) flGood s
    else if b = FL_UE_LOG_VALID.addr then
      (if bitOf v 31 then setF FL_UE_LOG_VALID 0 (setF FL_UE_LOG_PAGE_CRC 0 (setF FL_UE_LOG_ADDR 0 s)) else s)
    else regTake a v s

/-! ### Block 11: debug -/

/-- DBG_CTRL (R396 to R398): STEP_MASK, then RESUME or STEP, then HALT_REQ: RESUME and HALT_REQ together leave the core halted. -/
def dbgCtrlWrite (n v : Nat) (s : State) : State :=
  let s := setB (DBG_CTRL_STEP_MASK n) (bitOf v 3) s
  if bitOf v 0 then
    (if pmState n s = 3 then s else let x := coreFree s; pmHalt n 1 0 x.1 x.2)
  else if bitOf v 1 then pmResume n s
  else if bitOf v 2 then
    (if pmState n s = 3 then let x := coreFree s; pmStep n none x.1 x.2 else pmAccErr n s)
  else s

/-- DBG_REGSEL (R397). -/
def regSelWrite (n v : Nat) (s : State) : State :=
  let s := setF (DBG_REGSEL_INDEX n) (v % 64) s
  let s := whenS (bitOf v 8) (regRd n (v % 64)) s
  whenS (bitOf v 9) (regWr n (v % 64)) s

/-! ### Blocks 10 and 13 to 15 -/

/-- MID_BUS (R100): PRS_USE on a switched bus is refused. -/
def midBusWrite (n v : Nat) (s : State) : State :=
  if bitOf v 3 && bitOf v 2 then whRaise (12 + n) s else regTake (MID_BUS_EN n).addr v s

/-- LJ_COMPANION (R442): PIN applies STOPPED and must be a pin; EN needs a declared bank. -/
def companionWrite (i v : Nat) (s : State) : State :=
  let a := (LJ_COMPANION_PIN i).addr
  if 616 ≤ v % 1024 then ljReject s
  else
    let x := keepStopped (isSet (LJ_COMPANION_EN i) s) 0x3FF a v s
    if bitOf v 15 && decide (fieldAt s.boot.header (100 + pinBank (x.1 % 1024)) 1 = 0) then ljReject s
    else regTake a x.1 (whenS x.2 ljReject s)

def writeJudge (r : RegRow) (a v : Nat) (s : State) : State :=
  let b := r.base
  if b = LJ_ALARM_LATCH_ALARM.addr then ljClear v s
  else if b = LJ_POLICY0_POLICY_1.addr then ljPolicyWrite 0 v s
  else if b = LJ_POLICY1_POLICY_17.addr then ljPolicyWrite 1 v s
  else if b = LJ_TLIM_WARN.addr then ljTlimWrite v s
  else if b = (LJ_COMPANION_PIN 0).addr then companionWrite (rowI r a) v s
  else regTake a v s

def writeMid (r : RegRow) (a v : Nat) (s : State) : State :=
  let b := r.base
  let t := v % 128
  if b = MID_CTRL_POLL_EN.addr then (if bitsOf v 8 8 < 10 then midReject s else regTake a v s)
  else if b = (MID_BUS_EN 0).addr then midBusWrite (rowI r a) v s
  else if b = MID_MGMT_TADDR.addr then (if t < 8 ∨ 0x78 ≤ t then midReject s else regTake a v s)
  else regTake a v s

/-- PM_BOOT applies while the core is in RESET or FAULT (R386). -/
def pmBootWrite (n a v : Nat) (s : State) : State :=
  if pmState n s = 0 ∨ pmState n s = 4 then regTake a v s
  else if regWord a (regTake a v s) = regWord a s then s
  else pmReject n s

def writePm (r : RegRow) (a v : Nat) (s : State) : State :=
  let b := r.base
  let n := rowI r a
  if b = (PM_CTRL_RUN 0).addr then pmCtrlWrite n v s
  else if b = (PM_BOOT_LO_BOOT 0).addr ∨ b = (PM_BOOT_HI_BOOT 0).addr then pmBootWrite n a v s
  else if b = (PM_WDOG_EN 0).addr then pmWdogWrite n v s
  else regTake a v s

/-- The Scorebook's registers: REPEAT_S = 0 is refused. -/
def writeBook (b a v : Nat) (s : State) : State :=
  if b = SB_CTRL_REPEAT_S.addr then (if v % 256 = 0 then setF SB_STATUS_CFG_REJECT 1 s else regTake a v s)
  else regTake a v s

/-- A write in the mailbox block; false is TARGET_ERROR: the window is not the requester's, or the write came by
BAR2 (R136). -/
def mailWrite (bar2 : Bool) (node off v : Nat) (s : State) : Bool × State :=
  if bar2 then (false, s)
  else if off < 0x1C000 then
    (if boxBound (off / 0x2000) node bar2 then (true, winWrite (off / 0x2000) (off % 0x2000) v s) else (false, s))
  else if 0x40000 ≤ off ∧ off < 0xB0000 then (ringBound ((off - 0x40000) / 0x10000) node bar2, s)
  else (true, s)

end Sys2Proof.Machine
end

