-- ==== Sys2Proof/Machine/CsrSpace.lean ====
section
/-! DEFINITION. A Playmaker's view of memory and DBG_MCMD (R387, R389, R401, R413); the debug block's writes; and a 4-byte or 8-byte
write of the CSR space. -/

namespace Sys2Proof.Machine

/-! ### A core's view (R387) -/

/-- Where a core's address leads. -/
inductive ViewAt where
  | noc | shared | local_ | priv | none
  deriving DecidableEq, Repr

def viewAt (a : Nat) : ViewAt :=
  if a < 2 ^ 38 then .noc
  else if 0xFFFE000000 ≤ a ∧ a < 0xFFFE400000 then .shared
  else if 0xFFFFF00000 ≤ a ∧ a < 0xFFFFF40000 then .local_
  else if 0xFFFFFFF000 ≤ a ∧ a < 0xFFFFFFF100 then .priv
  else .none

/-- A 4-byte read of a private register (R389): MTIME_LO latches MTIME_HI. -/
def privRead (n off : Nat) (s : State) : Nat × State :=
  let c := coreOf n s
  if off = 0 then
    let t := mtimeNow n s % 2 ^ 64
    (t % 2 ^ 32, coreUpd n (fun c => { c with mtimeHi := t / 2 ^ 32 }) s)
  else if off = 4 then (c.mtimeHi, s)
  else if off = 8 then (c.mtimecmp % 2 ^ 32, s)
  else if off = 0xC then (c.mtimecmp / 2 ^ 32, s)
  else if off = 0x10 then (c.beatLo, s)
  else if off = 0x14 then (c.beatHi, s)
  else if off = 0x18 then (natOfBool c.beatArm, s)
  else if off = 0x1C then (c.ctxid, s)
  else if off = 0x24 then (natOfBool c.beat + 2 * natOfBool c.late, s)
  else (0, s)

/-- A 4-byte write of a private register (R389, R390, R393, R405). -/
def privWrite (n off v : Nat) (s : State) : State :=
  if off = 8 then coreUpd n (fun c => { c with mtimecmp := c.mtimecmp / 2 ^ 32 * 2 ^ 32 + v }) s
  else if off = 0xC then coreUpd n (fun c => { c with mtimecmp := c.mtimecmp % 2 ^ 32 + v * 2 ^ 32 }) s
  else if off = 0x10 then coreUpd n (fun c => { c with beatLo := v }) s
  else if off = 0x14 then coreUpd n (fun c => { c with beatHi := v }) s
  else if off = 0x18 then whenS (bitOf v 0) (beatArm n) s
  else if off = 0x1C then tracePkt n (corePc n s) (tNow s) ([4] ++ leBytes 4 v) (coreUpd n (fun c => { c with ctxid := v }) s)
  else if off = 0x20 then whenS (bitOf v 0) (coreUpd n (fun c => { c with icache := [] })) s
  else if off = 0x24 then
    coreUpd n (fun c => { c with beat := c.beat && !bitOf v 0, late := c.late && !bitOf v 1 }) s
  else if off = 0x28 ∧ v = 0x5A5A then wdogKick n s
  else s

/-- Bytes of local RAM of core n at an offset; a pair's writes reach both copies (R394). -/
def localRead (n off len : Nat) (s : State) : List (BitVec 8) := memBytes 0 s.pm.localRam (n * 2 ^ 18 + off) len
def localWrite (n off : Nat) (b : List (BitVec 8)) (s : State) : State :=
  forEach (fun k (s : State) => { s with pm := { s.pm with localRam := memWrite 0 s.pm.localRam (k * 2 ^ 18 + off) b } }) (pmGroup n s) s

/-- Bytes of the shared RAM. -/
def sharedRead (off len : Nat) (s : State) : List (BitVec 8) := memBytes 0 s.pm.sharedRam off len
def sharedWrite (off : Nat) (b : List (BitVec 8)) (s : State) : State :=
  { s with pm := { s.pm with sharedRam := memWrite 0 s.pm.sharedRam off b } }

/-- The watch units see a data access by core n, or one made for it (R401). -/
def watchSee (n : Nat) (d : CoreData) (s : State) : State :=
  match wpHits n d s with
  | [] => s
  | us => let x := coreFree s; unitsFire n us 3 x.1 x.2

/-- A debug access of 4 bytes, as the watch units see it. -/
def dataAt (a : Nat) (write : Bool) (v : Nat) : CoreData := ⟨BitVec.ofNat 40 a, 2, write, BitVec.ofNat 64 v⟩

/-! ### Requests that an initiator puts on the network for one 4- or 8-byte access -/

/-- A packet for `len` bytes at an address: CSR_RD or CSR_WR for CSR space (R246), RD or WR of one beat elsewhere. -/
def accessPkt (src tag a len : Nat) (write : Bool) (v : Nat) : Pkt :=
  let be := (2 ^ len - 1) * 2 ^ (a % 32)
  let k := if nodeOf a = some 109 then
      { pktZero with
        op := if write then opCsrWr else opCsrRd, addr := a, beFirst := be, beLast := be
        data := if write then padTo 32 (List.replicate (a % 32) 0 ++ leBytes len v) else [] }
    else if write then writePkt a (leBytes len v) else readPkt a len
  { k with dest := (nodeOf a).getD 0, src := src, tag := tag }

/-- Put a request on the network and hold its tag (R254). -/
def accessSend (k : Pkt) (s : State) : State :=
  inject k { s with noc := { s.noc with tags := tabPut s.noc.tags (64 * k.src + k.tag) ⟨k.op, 1, 0, s.time.us⟩ } }

/-- The tag of DBG_MCMD at a Playmaker's node. -/
def mcmdTag : Nat := 63

/-! ### DBG_MCMD (R401, R413) -/

/-- DBG_MCMD of core n ends: ERR, and the datum of a read. -/
def mcmdDone (n err : Nat) (data : Option Nat) (s : State) : State :=
  let s := setF (DBG_MCMD_ERR n) err (setF (DBG_MCMD_DONE n) 1 (coreUpd n (fun c => { c with mcmd := none }) s))
  match data with
  | some v => setF (DBG_MDATA_DATA n) v s
  | none => s

/-- The address that DBG_MADDR holds, aligned to 4 bytes (log entry 52). -/
def mcmdAddr (n : Nat) (s : State) : Nat :=
  (getF (DBG_MADDR_LO_ADDR n) s + 2 ^ 32 * getF (DBG_MADDR_HI_ADDR n) s) / 4 * 4

/-- The guard level refuses an access (R413). -/
def mcmdBarred (a : Nat) (jtag : Bool) (s : State) : Bool :=
  (decide (1 ≤ guardLevel s) && decide (nodeOf a = some 86)) ||
    (jtag && decide (guardLevel s = 1) && decide (viewAt a ≠ .shared) && decide (viewAt a ≠ .local_))

/-- A DBG_MCMD access of core n begins; what stands in the core's own view is done at once. It is ignored while one is under
way. -/
def mcmd (n : Nat) (write jtag : Bool) (s : State) : State :=
  let a := mcmdAddr n s
  let v := getF (DBG_MDATA_DATA n) s
  if (coreOf n s).mcmd.isSome then s
  else if mcmdBarred a jtag s then mcmdDone n 5 none s
  else
    match viewAt a with
    | .none => mcmdDone n 1 none s
    | .noc =>
      match nodeOf a with
      | none => mcmdDone n 2 none s
      | some _ =>
        let s := setF (DBG_MCMD_DONE n) 0 (coreUpd n (fun c => { c with mcmd := some write }) s)
        accessSend (accessPkt (89 + n) mcmdTag a 4 write v) s
    | .shared =>
      if write then mcmdDone n 0 none (watchSee n (dataAt a true v) (sharedWrite (a - 0xFFFE000000) (leBytes 4 v) s))
      else
        let w := leNat (sharedRead (a - 0xFFFE000000) 4 s)
        mcmdDone n 0 (some w) (watchSee n (dataAt a false w) s)
    | .local_ =>
      if write then mcmdDone n 0 none (watchSee n (dataAt a true v) (localWrite n (a - 0xFFFFF00000) (leBytes 4 v) s))
      else
        let w := leNat (localRead n (a - 0xFFFFF00000) 4 s)
        mcmdDone n 0 (some w) (watchSee n (dataAt a false w) s)
    | .priv =>
      if write then mcmdDone n 0 none (watchSee n (dataAt a true v) (privWrite n (a - 0xFFFFFFF000) v s))
      else
        let r := privRead n (a - 0xFFFFFFF000) s
        mcmdDone n 0 (some r.1) (watchSee n (dataAt a false r.1) r.2)

/-- DBG_MCMD's response from the network: ERR shows its STATUS. -/
def mcmdRespond (n : Nat) (k : Pkt) (s : State) : State :=
  match (coreOf n s).mcmd with
  | none => s
  | some write =>
    let a := mcmdAddr n s
    let st := if k.bad = [] then k.status else statusWorse k.status nsPoisoned
    if st ≠ 0 then mcmdDone n (st + 1) none s
    else if write then mcmdDone n 0 none (watchSee n (dataAt a true (getF (DBG_MDATA_DATA n) s)) s)
    else
      let w := fieldAt k.data (a % 32) 4
      mcmdDone n 0 (some w) (watchSee n (dataAt a false w) s)

/-! ### Block 11: the debug block -/

/-- A write of DBG_MCMD: READ, then WRITE where READ is 0. -/
def mcmdWrite (n v : Nat) (jtag : Bool) (s : State) : State :=
  if bitOf v 0 then mcmd n false jtag s else if bitOf v 1 then mcmd n true jtag s else s

/-- A write in the debug block; `jtag` says that it comes by the JTAG instruction DBG. Writes to the second core of a pair are
refused (R394). -/
def writeDebug (r : RegRow) (a v : Nat) (jtag : Bool) (s : State) : State :=
  let b := r.base
  let n := rowI r a
  let d := a % 0x400
  if b = DBG_GLOBAL_HALT_ANY.addr then regTake a v s
  else if pmSecond n s then dbgReject s
  else if b = (DBG_CTRL_STEP_MASK 0).addr then dbgCtrlWrite n v s
  else if b = (DBG_REGSEL_INDEX 0).addr then regSelWrite n v s
  else if b = (DBG_MCMD_DONE 0).addr then mcmdWrite n v jtag s
  else if 0x40 ≤ d ∧ d < 0x14C then unitWrite n ((d - 0x40) / 4) v s
  else if b = (TR_CTRL_EN 0).addr then trCtrlWrite n v s
  else regTake a v s

/-! ### Writes of the CSR space -/

/-- A register that the map lists is written; false is TARGET_ERROR. -/
def writeReg (r : RegRow) (node a v : Nat) (s : State) : Bool × State :=
  let blk := a / 2 ^ 20 % 16
  if blk = 1 then (true, writeClock r.base a v s)
  else if blk = 2 then (true, writeClocking r a v s)
  else if blk = 3 then writeWhistle r node a v s
  else if blk = 4 then (true, writeDugout r a v s)
  else if blk = 5 then (true, writeNoc r a v s)
  else if blk = 6 then (true, writeDram r a v s)
  else if blk = 7 then (true, writeLane r a v s)
  else if blk = 8 then (true, writeFabric r a v s)
  else if blk = 9 then (true, writeFlash r.base node a v s)
  else if blk = 10 then (true, writeBook r.base a v s)
  else if blk = 11 then (true, writeDebug r a v false s)
  else if blk = 13 then (true, writeMid r a v s)
  else if blk = 14 then (true, writePm r a v s)
  else (true, writeJudge r a v s)

/-- OVF of a counter is write-one-to-clear (R211). -/
def ctrOvfClear (k v : Nat) (s : State) : State :=
  if bitOf v 31 then { s with ctrs := tabSet ⟨0, false⟩ s.ctrs k { getC k s with ovf := false } } else s

/-- A 4-byte write of the CSR space by a node, at an address that is a multiple of 4 below 0x3F_0100_0000; false is TARGET_ERROR.
An address inside a block where no register stands ignores it (log entry 50). -/
def csrWrite (bar2 : Bool) (node a v : Nat) (s : State) : Bool × State :=
  let v := v % 2 ^ 32
  if a / 2 ^ 20 % 16 = 12 then mailWrite bar2 node (a % 2 ^ 20) v s
  else match ctrAt (a - 4) s with
    | some k => (true, ctrOvfClear k v s)
    | none => match regFind a with
      | some r => writeReg r node a v s
      | none => (true, s)

/-- A write of 4 or 8 bytes: the low word first (R10). -/
def csrWriteN (bar2 : Bool) (node a v : Nat) (eight : Bool) (s : State) : Bool × State :=
  let x := csrWrite bar2 node a v s
  if eight then
    let y := csrWrite bar2 node (a + 4) (v / 2 ^ 32) x.2
    (x.1 && y.1, y.2)
  else x

/-- An address lies in a block of the CSR space (R9); others are NO_TARGET. -/
def csrBlock (a : Nat) : Bool := decide (0x3F00000000 ≤ a) && decide (a < 0x3F01000000)

end Sys2Proof.Machine
end

