-- ==== Sys2Proof/Machine/Csr.lean ====
section
/-! DEFINITION. Register writes and CSR accesses by initiators (R3, R246, R257), packets that reach their endpoints (R251 to R256),
tags that time out (R255), and BAR2 accesses (R163, R164). -/

namespace Sys2Proof.Machine

/-! ### REGISTER_WRITE and CSR_ACCESS -/

/-- An initiator may send a CSR access to an address: a fabric port only with CSR_EN, and to some blocks (R204). -/
def csrMay (node a : Nat) (s : State) : Bool :=
  decide (80 ≤ node) || (isSet (FP_CTRL_CSR_EN node) s && fpCsrBlock a)

/-- The status of a CSR access, and what it does (R246): 0 OK with a read's value. -/
def csrServe (bar2 : Bool) (node a : Nat) (write eight : Bool) (v : Nat) (s : State) : (Nat × Nat) × State :=
  if a % (if eight then 8 else 4) ≠ 0 then ((nsTargetError, 0), s)
  else if csrBlock a = false ∨ csrMay node a s = false then ((nsNoTarget, 0), s)
  else if write then
    let x := csrWriteN bar2 node a v eight s
    ((if x.1 then nsOk else nsTargetError, 0), x.2)
  else
    let x := csrReadN bar2 node a eight s
    match x.1 with
    | some w => ((nsOk, w), x.2)
    | none => ((nsTargetError, 0), x.2)

/-- A core's write to its own RAM, the shared RAM or its private registers (R387, R389); false where nothing answers. -/
def viewWrite (n a v : Nat) (s : State) : Bool × State :=
  match viewAt a with
  | .shared => (true, sharedWrite ((a - 0xFFFE000000) / 4 * 4) (leBytes 4 v) s)
  | .local_ => (true, localWrite n ((a - 0xFFFFF00000) / 4 * 4) (leBytes 4 v) s)
  | .priv => (true, privWrite n ((a - 0xFFFFFFF000) / 4 * 4) v s)
  | _ => (false, s)

/-- A 4-byte write by a node takes effect by the register's fields (R3, R5) or is refused (R8); a Playmaker reaches its own view
too. -/
def registerWrite (node a v : Nat) (s : State) : State :=
  if 89 ≤ node ∧ node ≤ 92 ∧ 2 ^ 38 ≤ a then
    let x := viewWrite (node - 89) a v s
    emit (if x.1 then .accessOk else .accessError nsNoTarget) x.2
  else
    let x := csrServe false node a true false v s
    emit (if x.1.1 = 0 then .accessOk else .accessError x.1.1) x.2

def execRegisterWrite (node : BitVec 7) (addr : BitVec 40) (value : BitVec 32) (s : State) : Host.Outcome State Fault Refusal :=
  finG (registerWrite node.toNat addr.toNat value.toNat s)

/-- One access of a cycle at the CSR hub: its answer goes to its SRC. -/
def csrOne (q : CsrReq) (s : State) : State :=
  let x := csrServe false q.src.toNat q.addr.toNat q.write q.eight q.data.toNat s
  emit (.packet q.src.toNat x.1.1 (if q.write ∨ x.1.1 ≠ 0 then [] else leBytes (if q.eight then 8 else 4) x.1.2)) x.2

/-- Accesses that reach the hub in one cycle are served in ascending order of SRC: the highest is applied last (R257). -/
def csrCycle (qs : List CsrReq) (s : State) : State :=
  forEach (fun n s => forEach csrOne (qs.filter (fun q => decide (q.src.toNat = n))) s) (natsFrom 0 128) s

def execCsrAccess (requests : List CsrReq) (s : State) : Host.Outcome State Fault Refusal := finG (csrCycle requests s)

/-! ### Packets at their endpoints -/

/-- Rate-limit key of event 0x0401 of a node. -/
def rlPayload (node : Nat) : Nat := 0x04010000 + node

/-- Data flit i of a packet as its destination decodes it (R251): the beat, whether it is uncorrectable. Without check bits
the flips reach the data; of three or more the outcome is a free value. -/
def flitDecode (node i : Nat) (flips : BitVec 266) (k : Pkt) (s : State) : (List (BitVec 8) × Bool) × State :=
  let b := beatOf k.data i
  let mixed := leBytes 32 (leNat b ^^^ flips.toNat % 2 ^ 256)
  let n := popCount flips.toNat 266
  if n = 0 then ((b, k.bad.contains i), s)
  else if k.bad.contains i then ((b, true), s)
  else if k.ecc = false then ((mixed, false), s)
  else if n = 1 then ((b, false), oncePerSecond (rlPayload node) (sbEvent 0x0401 []) (incC (ctNoc 0) s))
  else if n = 2 then ((b, true), s)
  else
    let f := freeNat s
    let s := useFree s
    if f % 2 = 0 then ((b, true), s)
    else ((leBytes 32 (f / 2), false), oncePerSecond (rlPayload node) (sbEvent 0x0401 []) (incC (ctNoc 0) s))

/-- Every data flit of a packet. -/
def flitsDecode (node : Nat) (flips : List (BitVec 266)) (k : Pkt) : Nat → State → Pkt × State
  | 0, s => ({ k with data := [], bad := [] }, s)
  | n + 1, s =>
    let r := flitsDecode node flips k n s
    let x := flitDecode node n (listGet 0 flips n) k r.2
    ({ r.1 with data := r.1.data ++ x.1.1, bad := if x.1.2 then r.1.bad ++ [n] else r.1.bad }, x.2)

/-- A packet whose DEST is another node, or whose OP does not match its VC (R253): it is discarded. -/
def misroute (s : State) : State := sbEvent 0x0407 [] (whRaise 68 (setF NOC_STATUS_MISROUTE 1 (incC (ctNoc 4) s)))

/-- A write with an uncorrectable data flit is performed in no part (R252). -/
def poisonedWrite (k : Pkt) (s : State) : State :=
  refusePkt k nsPoisoned (sbEvent 0x0402 [] (whRaise 65 (setF NOC_STATUS_PAYLOAD_UE 1 (incC (ctNoc 1) s))))

/-- The offset within a queue's aperture, and the queue, of an address of the Dugout window (R280). -/
def apertureOf (a : Nat) : Nat × Nat := ((a - 0x3000000000) / 0x800, a % 0x800)

/-- A cell that the network pushes: beats 0 and 1 are its data, beat 2 its descriptor (R280). -/
def cellOfBeats (d : List (BitVec 8)) (s : State) : Cell :=
  let b := fieldAt d 64 1
  cellNow (d.take (b % 64 + 1)) (bitOf b 6) (bitOf b 7) (bitOf (fieldAt d 65 1) 1) s

/-- A request at the Dugout (R280, R281); none where a pop waits for a chunk on its way from DRAM. -/
def dugoutServe (k : Pkt) (s : State) : Option State :=
  let q := (apertureOf k.addr).1
  let off := (apertureOf k.addr).2
  if k.op = opWr ∧ k.len = 2 ∧ off = 0 then
    match dqPush q (cellOfBeats k.data s) s with
    | (.refused, s) => some (refusePkt k nsTargetError (incC (ctDQ q 7) s))
    | (_, s) => some (inject (respondPkt k opWrRsp nsOk [] []) s)
  else if k.op = opRd ∧ k.len = 2 ∧ off = 0x400 then
    let answer (c : Option Cell) (bad : List Nat) (s : State) : State := inject (respondPkt k opRdRsp nsOk (padTo 96 (popBytes q c)) bad) s
    if getF (QCFG_CONSUMER q) s ≠ 2 then some (answer none [] (setF DQ_STATUS_PROTO_ERR 1 s))
    else match dqPop q s with
      | (.got c, s) => some (answer (some c) (if c.poison then [0, 1, 2] else []) s)
      | (.empty, s) => some (answer none [] s)
      | (.wait, _) => none
  else some (refusePkt k nsTargetError s)

/-- A request at the flash controller (R354, R361, R369); a write has no effect there. -/
def flashServe (k : Pkt) (e : FlashErr) (s : State) : Option State :=
  if k.op = opRd then
    match flWindow k.src (k.addr % 0x10000000) (32 * (k.len + 1)) e s with
    | none => none
    | some (r, s) => some (inject (respondPkt k opRdRsp r.1 r.2.1 r.2.2) s)
  else some (refusePkt k nsTargetError s)

/-- A request at the CSR hub (R246): its size is that of its byte enables; a fabric port's reads are of 4 bytes. -/
def hubServe (k : Pkt) (s : State) : State :=
  let sh := 2 ^ (k.addr % 32)
  let eight := decide (k.beFirst = 0xFF * sh)
  if (k.op ≠ opCsrRd ∧ k.op ≠ opCsrWr) ∨ k.len ≠ 0 ∨ (eight = false ∧ k.beFirst ≠ 0xF * sh ∧ k.beFirst ≠ 0) then
    refusePkt k nsTargetError s
  else
    let write := decide (k.op = opCsrWr)
    let x := csrServe (decide (k.src = 87) && decide (k.era = 1)) k.src k.addr write eight
      (fieldAt k.data (k.addr % 32) (if eight then 8 else 4)) s
    let data := if write then [] else padTo 32 (List.replicate (k.addr % 32) 0 ++ leBytes (if eight then 8 else 4) x.1.2)
    inject (respondPkt k opCsrRsp x.1.1 data []) x.2

/-- The status with which a response ends: POISONED where a beat is uncorrectable. -/
def rspStatus (k : Pkt) : Nat := if k.bad = [] then k.status else statusWorse k.status nsPoisoned

/-- A response at the PCIe endpoint or a Playmaker: for a tag not in use it is discarded (R255). For PCIe the tag holds the
length of the access and its place in the first beat. -/
def tagRespond (node : Nat) (k : Pkt) (s : State) : State :=
  match tabFind s.noc.tags (64 * node + k.tag) with
  | none => s
  | some t =>
    let s : State := { s with noc := { s.noc with tags := tabDel s.noc.tags (64 * node + k.tag) } }
    if node = 87 then
      (if rspStatus k ≠ 0 then emit (.accessError (rspStatus k)) s
       else if t.op = opRd ∨ t.op = opCsrRd then emit (.readData (fieldAt k.data t.worst t.parts)) s
       else emit .accessOk s)
    else mcmdRespond (node - 89) k s

/-- A packet is accepted by its endpoint; none where it waits there. -/
def endpoint (k : Pkt) (e : FlashErr) (s : State) : Option State :=
  let n := k.dest
  let rsp := decide (k.op = opRdRsp) || decide (k.op = opWrRsp) || decide (k.op = opCsrRsp)
  if n < 80 then some (if rsp then fabRespond n k s else fabTarget n k s)
  else if n < 84 then (if !drServes k.addr s then some (refusePkt k nsNoTarget s)
    else if drFull (n - 80) s then none else some (drEnter (n - 80) k s))
  else if n = 84 then dugoutServe k s
  else if n = 86 then flashServe k e s
  else if n = 109 then some (hubServe k s)
  else if n = 87 ∨ (89 ≤ n ∧ n ≤ 92) then some (tagRespond n k s)
  else if 93 ≤ n ∧ n ≤ 108 then some (passRespond (n - 93) k s)
  else some s

/-- Every link on a packet's way works (R249). -/
def pathWorks (k : Pkt) (s : State) : Bool :=
  (pathLinks (nodeAttach k.src).1 (nodeAttach k.dest).1).all (fun l => !(linkOf l.1 l.2 s).failed)

/-- The packet at place i of those under way is the oldest from its source to its destination on its VC (R256). -/
def oldestOfItsWay (i : Nat) (k : Pkt) (s : State) : Bool :=
  !(s.noc.net.take i).any (fun x => decide (x.src = k.src) && decide (x.dest = k.dest) && decide (opVc x.op = opVc k.op))

/-- A packet reaches the endpoint of a node on a VC (R251 to R256). -/
def packetDeliver (x : NocIn) (s : State) : State :=
  match s.noc.net[x.index]? with
  | none => s
  | some k =>
    if !oldestOfItsWay x.index k s || !pathWorks k s then s
    else
      let s1 : State := { s with noc := { s.noc with net := listDrop s.noc.net x.index } }
      if x.node.toNat ≠ k.dest ∨ x.vc.val ≠ opVc k.op then misroute s1
      else
        let r := flitsDecode k.dest x.flips k (k.data.length / 32) s1
        if (k.op = opWr ∨ k.op = opCsrWr) ∧ r.1.bad ≠ [] then poisonedWrite k r.2
        else match endpoint r.1 x.flash r.2 with
          | some t => t
          | none => s

def execNocPacketDeliver (x : NocIn) (s : State) : Host.Outcome State Fault Refusal := finG (packetDeliver x s)

/-! ### Tags that time out (R255) -/

/-- What every timeout does: local time has passed the tag's time limit, TIMEOUTS counts, source 71 is raised. -/
def timeoutCount (since : Nat) (s : State) : State :=
  let s : State := { s with time := { s.time with us := max s.time.us (since + getF NOC_CTRL_RSP_TIMEOUT s) } }
  whRaise 71 (incC (ctNoc 5) s)

/-- A tag of a node has had no response within RSP_TIMEOUT: it completes as TARGET_ERROR and is free. -/
def rspTimeout (node tag : Nat) (s : State) : State :=
  if node < 80 then
    match tabFind s.fab.tags (64 * node + tag) with
    | none => s
    | some t =>
      let s := timeoutCount t.at_ { s with fab := { s.fab with tags := tabDel s.fab.tags (64 * node + tag) } }
      emit (.fabric node 0 tag (statusWorse t.worst nsTargetError) []) s
  else if 93 ≤ node ∧ node ≤ 108 then
    match (passOf (node - 93) s).ops.find? (fun o => decide (o.tag = tag)) with
    | none => s
    | some o => passTimeout (node - 93) tag (timeoutCount o.at_ s)
  else
    match tabFind s.noc.tags (64 * node + tag) with
    | none => s
    | some t => tagRespond node { pktZero with tag := tag, status := nsTargetError } (timeoutCount t.at_ s)

def execRspTimeout (node : BitVec 7) (tag : BitVec 6) (s : State) : Host.Outcome State Fault Refusal :=
  finG (rspTimeout node.toNat tag.toNat s)

/-! ### BAR2 (R163 to R165) -/

/-- The bit of SCOPE that an address needs; none where no grant reaches it. At guard level 1 or 2 the flash read window and
the configuration controller block are outside every scope. -/
def scopeBit (a : Nat) (s : State) : Option Nat :=
  let guarded := decide (1 ≤ guardLevel s)
  match nodeOf a with
  | none => none
  | some n =>
    if n < 80 then some 1
    else if n < 84 then some 0
    else if n = 84 then some 2
    else if n = 86 then (if guarded then none else some 3)
    else if guarded && decide (0x3F00800000 ≤ a) && decide (a < 0x3F00900000) then none
    else some 4

/-- An access is a violation (R164). -/
def expertBad (a len : Nat) (write : Bool) (s : State) : Bool :=
  !grantHeld s || (write && !isSet (MB_EXPERT_WRITE 0) s) ||
    (match scopeBit a s with
      | none => true
      | some b => !bitOf (getF (MB_EXPERT_SCOPE 0) s) b ||
        (decide (b = 4) && !(decide (len = 4) && decide (a % 4 = 0)) && !(decide (len = 8) && decide (a % 8 = 0))))

/-- A violation is counted; event 0x0113 at most once per second, with the count since the last. -/
def expertViolation (s : State) : State :=
  let s := if getF (EXPERT_VIOL_COUNT 0) s = 0xFFFF then setF (EXPERT_VIOL_OVF 0) 1 s
    else setF (EXPERT_VIOL_COUNT 0) (getF (EXPERT_VIOL_COUNT 0) s + 1) s
  let s : State := { s with mail := { s.mail with violations := s.mail.violations + 1 } }
  oncePerSecond 0x0113 (fun s => sbEvent 0x0113 [(4, s.mail.violations)]
    { s with mail := { s.mail with violations := 0 } }) s

/-- The lowest free tag of the PCIe endpoint. -/
def pcieTag (s : State) : Option Nat := (natsFrom 0 64).find? (fun t => (tabFind s.noc.tags (64 * 87 + t)).isNone)

/-- A BAR2 access of `len` bytes within 4 KiB: it goes to the network, or is aborted as a violation. A write to the mailbox block
is refused there and counted (R136). -/
def expertAccess (write : Bool) (x len : Nat) (data : List (BitVec 8)) (s : State) : State :=
  let a := getF (MB_EXPERT_WIN_BASE 0) s * 2 ^ 30 + x
  if s.boot.linkUp = false ∨ len = 0 ∨ 4096 < a % 4096 + len ∨ 16 < (a % 32 + len + 31) / 32 then s
  else if expertBad a len write s then
    let s := expertViolation s
    if write then s else emit .completerAbort s
  else
    match pcieTag s with
    | none => s
    | some t =>
      let v := leNat (padTo len data)
      let k := { accessPkt 87 t a len write v with era := 1 }
      let s := if write && decide (0x3F00C00000 ≤ a) && decide (a < 0x3F00D00000) then expertViolation s else s
      inject k { s with noc := { s.noc with tags := tabPut s.noc.tags (64 * 87 + t) ⟨k.op, len, a % 32, s.time.us⟩ } }

def execExpertAccess (write : Bool) (offset : BitVec 30) (len : BitVec 10) (data : List (BitVec 8)) (s : State) :
    Host.Outcome State Fault Refusal := fin (expertAccess write offset.toNat len.toNat data s)

end Sys2Proof.Machine
end

