-- ==== Sys2Proof/Machine/CoreMem.lean ====
section
/-! DEFINITION. Debug accesses to a core's memory: DBG_MCMD, DEBUG_ACCESS, PM_LOAD (R387, R397, R413), and the JTAG registers MBOX
and DBG (R411, R412). -/

namespace Sys2Proof.Machine

/-! ### Accesses that the Referee's firmware waits for -/

/-- One 4- or 8-byte access of a fabric port's window that a command waits for: a READY port shows it to the fabric, which
answers with `ans`; without an answer it ends as the port's timeout does (R205). -/
def fabNow (r : Nat) (k : Pkt) (ans : Option (Fin 4 × BitVec 64)) (s : State) : (Nat × Nat) × State :=
  if fpState r s = fpReady then
    let s := emit (.fabric r 1 k.tag k.op (leBytes 4 (k.addr % 2 ^ 28) ++ leBytes 1 k.len ++ k.data)) s
    match ans with
    | some (st, v) => ((st.val, v.toNat), s)
    | none => ((nsTargetError, 0), oncePerSecond (0x03340000 + r) (sbEvent 0x0334 []) (setF (FP_STATUS_TGT_TIMEOUT_EV r) 1 (incC (ctFP r 0) s)))
  else if fpState r s = fpDown ∨ fpState r s = fpAsleep then
    ((nsTargetError, 0), oncePerSecond (0x03340000 + r) (sbEvent 0x0334 []) (setF (FP_STATUS_TGT_TIMEOUT_EV r) 1 (incC (ctFP r 0) s)))
  else ((nsTargetError, 0), s)

/-- One access of `len` (4 or 8) bytes by a node that a command waits for: the STATUS with which it ends and a read's
datum. What a fabric's logic answers, and what a flash read meets, come from outside. -/
def serveNow (node a len : Nat) (write : Bool) (v : Nat) (ans : Option (Fin 4 × BitVec 64)) (e : FlashErr) (s : State) :
    (Nat × Nat) × State :=
  let k := accessPkt node mcmdTag a len write v
  match nodeOf a with
  | none => ((nsNoTarget, 0), s)
  | some d =>
    let s := probesSee k s
    if d < 80 then fabNow d k ans s
    else if d < 84 then
      (if drServes a s = false then ((nsNoTarget, 0), s)
       else if write then let x := drWrite a (leBytes len v) s; ((if x.1 then nsOk else nsPoisoned, 0), x.2)
       else let x := drRead a len s; ((if x.1.2 then nsOk else nsPoisoned, leNat x.1.1), x.2))
    else if d = 86 then
      (if write then ((nsTargetError, 0), s)
       else
         let f := a % 0x10000000
         match flWindow node (f / 32 * 32) 32 e s with
         | some (r, s) => ((if r.2.2 = [] then r.1 else nsPoisoned, fieldAt r.2.1 (f % 32) len), s)
         | none => let x := flRead (f / 32 * 32) 32 e s
                   ((if x.1.bad.isSome then nsPoisoned else nsOk, fieldAt x.1.data (f % 32) len), x.2))
    else if d = 109 then csrServe false node a write (decide (len = 8)) v s
    else ((nsTargetError, 0), s)

/-- One DBG_MCMD access of core n that the Referee waits for: DBG_MADDR, DBG_MDATA and ERR are left as it leaves them. -/
def mcmdNow (n a : Nat) (write : Bool) (v : Nat) (ans : Option (Fin 4 × BitVec 64)) (e : FlashErr) (s : State) :
    (Bool × Nat) × State :=
  let s := setF (DBG_MADDR_HI_ADDR n) (a / 2 ^ 32) (setF (DBG_MADDR_LO_ADDR n) a (if write then setF (DBG_MDATA_DATA n) v s else s))
  if viewAt a = .noc ∧ mcmdBarred a false s = false then
    let x := serveNow (89 + n) a 4 write v ans e s
    let st := x.1.1
    let s := mcmdDone n (if st = 0 then 0 else st + 1) (if write ∨ st ≠ 0 then none else some x.1.2) x.2
    ((decide (st = 0), x.1.2), if st = 0 then watchSee n (dataAt a write (if write then v else x.1.2)) s else s)
  else
    let s := mcmd n write false (coreUpd n (fun c => { c with mcmd := none }) s)
    ((decide (getF (DBG_MCMD_ERR n) s = 0), getF (DBG_MDATA_DATA n) s), s)

/-- Words read one after another from an address on; the first that fails ends them. -/
def mcmdReads (n : Nat) (x : DebugIn) : Nat → Nat → Nat → State → Option (List (BitVec 8)) × State
  | 0, _, _, s => (some [], s)
  | k + 1, i, a, s =>
    let r := mcmdNow n a false 0 (x.answers[i]?) x.flash s
    if r.1.1 then
      let q := mcmdReads n x k (i + 1) (a + 4) r.2
      (q.1.map (fun l => leBytes 4 r.1.2 ++ l), q.2)
    else (none, r.2)

/-- Words written one after another; the first that fails ends them. -/
def mcmdWrites (n : Nat) (x : DebugIn) (d : List (BitVec 8)) : Nat → Nat → Nat → State → Bool × State
  | 0, _, _, s => (true, s)
  | k + 1, i, a, s =>
    let r := mcmdNow n a true (fieldAt d (4 * i) 4) (x.answers[i]?) x.flash s
    if r.1.1 then mcmdWrites n x d k (i + 1) (a + 4) r.2 else (false, r.2)

/-! ### DBG_MCMD (rows of the table) -/

def execDbgMcmdRead (core : Fin 4) (jtag : Bool) (s : State) : Host.Outcome State Fault Refusal :=
  finG (if pmSecond core.val s then dbgReject s else mcmd core.val false jtag s)

def execDbgMcmdWrite (core : Fin 4) (jtag : Bool) (s : State) : Host.Outcome State Fault Refusal :=
  finG (if pmSecond core.val s then dbgReject s else mcmd core.val true jtag s)

/-! ### DEBUG_ACCESS -/

/-- An access of a range touches the flash read window. -/
def touchesFlash (a n : Nat) : Bool := decide (a < 0x3E10000000 ∧ 0x3E00000000 < a + n)

def debugArgs (r : Req) : Bool :=
  let n := arg r 12 2
  decide (arg r 0 1 < 4) && decide (arg r 1 1 ≤ 1) && decide (arg r 2 1 ≤ 1) && decide (arg r 3 1 = 0) && decide (arg r 14 2 = 0) &&
    decide (arg r 4 8 < 2 ^ 40) &&
    (if arg r 1 1 = 0 then decide (n = 8) && decide (arg r 4 8 < 64)
     else decide (4 ≤ n) && decide (n ≤ 1024) && decide (n % 4 = 0) && decide (arg r 4 8 % 4 = 0) && decide (arg r 4 8 + n ≤ 2 ^ 40)) &&
    decide (r.len = 16 + (if arg r 2 1 = 1 then n else 0))

/-- 0x0C06 DEBUG_ACCESS (R397, R413). Group DEBUG is 6, for writes only. -/
def sheetDebugAccess (x : DebugIn) : Sheet :=
  { plainSheet 0x0C06 (fun r _ => if debugArgs r then none else some stBadArg) [] (fun r s =>
      let n := arg r 0 1
      let a := arg r 4 8
      let len := arg r 12 2
      if arg r 1 1 = 0 then
        (if arg r 2 1 = 0 then
          let s := regRd n a s
          (replyOk (leBytes 4 (getF (DBG_REGDATA_LO_DATA n) s) ++ leBytes 4 (getF (DBG_REGDATA_HI_DATA n) s)), s)
         else
          let s := setF (DBG_REGDATA_HI_DATA n) (arg r 20 4) (setF (DBG_REGDATA_LO_DATA n) (arg r 16 4) s)
          (replyOk [], regWr n a s))
      else if arg r 2 1 = 0 then
        let y := mcmdReads n x (len / 4) 0 a s
        (match y.1 with | some d => replyOk d | none => replySt stHwFault, y.2)
      else
        let y := mcmdWrites n x (r.payload.drop 16) (len / 4) 0 a s
        (if y.1 then replyOk [] else replySt stHwFault, y.2)) with
    permit := fun r s => !(decide (arg r 1 1 = 1) && decide (1 ≤ guardLevel s) && touchesFlash (arg r 4 8) (arg r 12 2))
    state := fun r s =>
      if pmSecond (arg r 0 1) s ∨ (arg r 1 1 = 0 ∧ pmState (arg r 0 1) s ≠ 3) then some stWrongState else none
    groups := fun r => if arg r 2 1 = 1 then [6] else [] }

def execDebugAccess (mb : Fin 14) (x : DebugIn) (s : State) : Host.Outcome State Fault Refusal :=
  finG (runSheet (sheetDebugAccess x) mb.val s)

/-! ### PM_LOAD -/

/-- DEST with LENGTH bytes lies in shared RAM, or in the local RAM. -/
def inShared (a n : Nat) : Bool := decide (0xFFFE000000 ≤ a ∧ a + n ≤ 0xFFFE400000)
def inLocal (a n : Nat) : Bool := decide (0xFFFFF00000 ≤ a ∧ a + n ≤ 0xFFFFF40000)

/-- 0x0C04 PM_LOAD (R387). -/
def sheetPmLoad : Sheet :=
  { plainSheet 0x0C04 (fun r _ => argsLen 24 (fun r =>
      decide (arg r 0 1 < 4) && decide (arg r 1 3 = 0) && decide (arg r 4 8 < 2 ^ 40) && decide (arg r 20 4 % 8 = 0) &&
        decide (arg r 20 4 ≤ 2 ^ 22) && decide (arg r 12 8 % 4 = 0) &&
        (inShared (arg r 12 8) (arg r 20 4) || inLocal (arg r 12 8) (arg r 20 4))) r) [6]
      (fun r s => (replyAccepted [arg r 0 1, arg r 4 8, arg r 12 8, arg r 20 4] [], s)) with
    permit := fun r s => decide (guardLevel s = 0) || !touchesFlash (arg r 4 8) (arg r 20 4) ||
      flUser (arg r 4 8 - 0x3E00000000) (arg r 20 4)
    state := fun r s =>
      let n := arg r 0 1
      if pmSecond n s ∨ (inLocal (arg r 12 8) 0 = true ∧ pmState n s ≠ 0 ∧ pmState n s ≠ 3) then some stWrongState else none }

def execPmLoad (mb : Fin 14) (s : State) : Host.Outcome State Fault Refusal := fin (runSheet sheetPmLoad mb.val s)

/-- The Referee's copy, 8 bytes at a time in ascending order (R387): it stops at the first read that is not OK, and at
`stop`, where a word of the RAM is uncorrectable or a read ends otherwise than OK. -/
def pmCopy (n : Nat) (x : DebugIn) (stop : Option Nat) : Nat → Nat → Nat → Nat → State → Bool × State
  | 0, _, _, _, s => (true, s)
  | k + 1, i, src, dst, s =>
    if stop = some i then (false, s)
    else
      let r := serveNow 88 src 8 false 0 (x.answers[i]?) x.flash s
      if r.1.1 ≠ 0 then (false, r.2)
      else
        let v := r.1.2
        let w := mcmdNow n dst true (v % 2 ^ 32) none x.flash r.2
        let w := mcmdNow n (dst + 4) true (v / 2 ^ 32) none x.flash w.2
        pmCopy n x stop k (i + 1) (src + 8) (dst + 8) w.2

/-- PM_LOAD runs to its end. -/
def pmLoadRun (a : Async) (x : DebugIn) (stop : Option Nat) (s : State) : State :=
  let g (i : Nat) : Nat := listGet 0 a.args i
  let r := pmCopy (g 0) x stop (g 3 / 8) 0 (g 1) (g 2) s
  asyncDone a (if r.1 then stOk else stHwFault) 0 r.2

/-! ### JTAG: MBOX and DBG -/

/-- The level that limits JTAG: 2 until the boot ROM has read the guard record (R366). -/
def jtagLevel (s : State) : Nat := if s.boot.power = 2 then guardLevel s else 2

/-- A scan of MBOX (R411): what it captures leaves on TDO; Update-DR then makes the access, which ends before the next scan. -/
def mboxScan (dr : Nat) (s : State) : State :=
  let s := tapSelect 0x20 false s
  let s := emit (.tdo (s.pm.mboxData + 2 ^ 48 * natOfBool s.pm.mboxErr) 64) s
  let off := bitsOf dr 32 16 / 4 * 4
  let v := dr % 2 ^ 32
  let op := bitsOf dr 48 2
  if op = 1 then
    let s : State := { s with pm := { s.pm with mboxErr := decide (0x3000 ≤ off) } }
    if off < 0x2000 then winWrite 13 off v s else s
  else if op = 2 then
    let w := if off < 0x2000 then winRead 13 off s else if off < 0x3000 then ringRead 6 (off - 0x2000) s else 0xFFFFFFFF
    { s with pm := { s.pm with mboxErr := decide (0x3000 ≤ off), mboxData := w } }
  else s

/-- At guard level 2 the instruction acts as BYPASS (R369, R409). -/
def execMbox (dr : BitVec 64) (s : State) : Host.Outcome State Fault Refusal :=
  finG (if jtagLevel s = 2 then tapBypass 0x20 false s else mboxScan dr.toNat s)

/-- A 4-byte write of the debug block that comes by JTAG (R412, R413). -/
def dbgWrite (a v : Nat) (s : State) : State :=
  match ctrAt (a - 4) s, regFind a with
  | none, some r => writeDebug r a v true s
  | _, _ => s

/-- A scan of DBG (R412). -/
def dbgScan (dr : Nat) (s : State) : State :=
  let s := tapSelect 0x21 false s
  let s := emit (.tdo (s.pm.dbgData + 2 ^ 51 * natOfBool s.pm.dbgErr) 56) s
  let a := 0x3F00B00000 + 4 * bitsOf dr 32 18
  let v := dr % 2 ^ 32
  if bitOf dr 50 then dbgWrite a v { s with pm := { s.pm with dbgErr := false } }
  else
    let x := csrRead false 88 a s
    let t := x.2
    { t with pm := { t.pm with dbgErr := false, dbgData := x.1.getD 0 } }

def execDbg (dr : BitVec 56) (s : State) : Host.Outcome State Fault Refusal :=
  finG (if jtagLevel s = 2 then tapBypass 0x21 false s else dbgScan dr.toNat s)

end Sys2Proof.Machine
end

