-- ==== Sys2Proof/Machine/BootCore.lean ====
section
/-! DEFINITION. Resets of the whole device (R77 to R83), the recovery of the Scorebook (R424, R425), and start-up: the boot
ROM, VERIFY and LOAD (R114 to R128). -/

namespace Sys2Proof.Machine

/-- The timers of R127, R78, R81 and R434. -/
def tmPcieId : Nat := 11
def tmRails : Nat := 12
def tmRemoval : Nat := 13
def tmRestart : Nat := 14

/-! ### Resets -/

/-- A reset of the whole device (R80 to R83): every register and memory of the part goes to its reset state. What stays: the
flash, with what was interrupted (R365), the eFuses, what VBATT keeps, the JTAG port, local time, and the pins' levels. The
cause is latched in the VBATT domain; it reads 0 if VBATT is low. A device reset is what resets MB8 (R153). -/
def deviceReset (cause : Nat) (s : State) : State :=
  let s := flInterrupt s.boot.vbattLow s
  let z := State.reset
  setF (MB_STATUS_RESET_SEEN 8) 1 { z with
    time := { z.time with us := s.time.us, runFrom := s.time.us }
    freeIdx := s.freeIdx
    flash := { z.flash with
      mem := s.flash.mem, page := s.flash.page, erases := s.flash.erases, guard := s.flash.guard
      guard2 := s.flash.guard2, latched := s.flash.latched }
    lj := { z.lj with othersLow := s.lj.othersLow }
    boot := { z.boot with
      fuses := s.boot.fuses, revoke := s.boot.revoke, requireEnc := s.boot.requireEnc, efuseOnly := s.boot.efuseOnly
      vbattKey := s.boot.vbattKey, vbattLow := s.boot.vbattLow, perst := s.boot.perst
      causes := if s.boot.vbattLow then 0 else cause }
    pm := { z.pm with
      ir := s.pm.ir, boundary := s.pm.boundary, pinsTaken := s.pm.pinsTaken, mboxData := s.pm.mboxData
      mboxErr := s.pm.mboxErr, dbgData := s.pm.dbgData, dbgErr := s.pm.dbgErr }
    out := s.out, pending := s.pending }

/-- t0 (R77, R78): HUDDLE and FAULT_N are driven low; the internal reset is released 2 ms later. -/
def railsGood (s : State) : State :=
  startTimer tmRails 2000 (setF HUDDLE_STATUS_LINE 0 { s with boot := { s.boot with power := 1 } })

/-- The rails are no longer all good, or POR_N or a removal resets the device: the part waits for t0 again. A dip before the
internal reset was released latches no cause (collisions of R83). -/
def resetToOff (cause : Nat) (s : State) : State :=
  if s.boot.power = 2 then deviceReset cause s
  else stopTimer tmRails { s with boot := { s.boot with power := 0 } }

/-! ### The Scorebook's recovery (R424, R425) -/

/-- Pages of the flash in [lo, hi) that are not erased, in order, each with its 256 bytes; an interrupted one gives none. -/
def pagesFrom (lo hi : Nat) (s : State) : List (Nat × Option (List (BitVec 8))) :=
  (s.flash.page.filter (fun p => decide (lo ≤ p.1) && decide (p.1 < hi) && decide (p.2 ≠ 0))).map
    (fun p => (p.1, if p.2 = 1 then some (flBytes (256 * p.1) 256 s) else none))

/-- A counter page (R422): CSEQ, OPSEC, PCYCLE; none where it is not valid. -/
def counterOf (b : List (BitVec 8)) : Option (Nat × Nat × Nat) :=
  if fieldAt b 0 4 = 0x3143504F ∧ fieldAt b 28 4 = crc32c (b.take 28) then
    some (fieldAt b 4 4, fieldAt b 8 4, fieldAt b 12 4)
  else none

/-- The valid counter page with the highest CSEQ, and its page number. -/
def counterBest (s : State) : Option (Nat × Nat × Nat × Nat) :=
  (pagesFrom 0xD0000 0xD1000 s).foldl (fun best p =>
    match p.2 with
    | none => best
    | some b =>
      match counterOf b with
      | none => best
      | some c =>
        match best with
        | none => some (p.1 - 0xD0000, c)
        | some x => if x.2.1 < c.1 then some (p.1 - 0xD0000, c) else best) none

/-- The first erased page of the counter area from page `k` on, going round, within `n` pages. -/
def counterFree (s : State) : Nat → Nat → Nat
  | 0, k => k
  | n + 1, k => if tabGet 0 s.flash.page (0xD0000 + k % 4096) = 0 then k % 4096 else counterFree s n (k + 1)

/-- Step 1 of R424. -/
def recoverCounter (s : State) : State :=
  match counterBest s with
  | none => { s with sb := { s.sb with cseq := 0, cpage := counterFree s 4096 0, opBase := 0, pcycle := 0 } }
  | some (k, c) => { s with sb := { s.sb with
      cseq := c.1, cpage := counterFree s 4096 (k + 1), opBase := c.2.1, pcycle := c.2.2 } }

/-- The header of a Scorebook sector (R416): SSEQ and FIRST; none where it is not valid. -/
def sectorHead (k : Nat) (s : State) : Option (Nat × Nat) :=
  if flPage s (sbAddr k 0) ≠ 1 then none
  else
    let b := flBytes (sbAddr k 0) 16 s
    if fieldAt b 0 4 = 0x314B4253 ∧ fieldAt b 12 4 = crc32c (b.take 12) then some (fieldAt b 4 4, fieldAt b 8 4) else none

/-- The sectors with a valid header: sector, SSEQ, FIRST. -/
def sectorHeads (s : State) : List (Nat × Nat × Nat) :=
  (natsFrom 0 128).filterMap (fun k => (sectorHead k s).map (fun h => (k, h)))

/-- The sector with the highest SSEQ, and the one with the lowest. -/
def headSector : List (Nat × Nat × Nat) → Option (Nat × Nat × Nat)
  | [] => none
  | x :: l =>
    match headSector l with
    | none => some x
    | some y => if y.2.1 < x.2.1 then some x else some y

def tailSector : List (Nat × Nat × Nat) → Option (Nat × Nat × Nat)
  | [] => none
  | x :: l =>
    match tailSector l with
    | none => some x
    | some y => if x.2.1 < y.2.1 then some x else some y

/-- A record's CRC matches, or its slot is padding. -/
def slotSound (r : List (BitVec 8)) : Bool :=
  r.all (fun b => decide (b = 0xFF)) || decide (fieldAt r 28 4 = crc32c (r.take 28))

/-- The pages of the head sector that are not erased, and the torn ones among them (step 3 of R424). -/
def headPages (k : Nat) (s : State) : List Nat × List Nat :=
  let base := 0xC8000 + 256 * k
  let ps := pagesFrom (base + 1) (base + 256) s
  let torn := ps.filter (fun p =>
    match p.2 with
    | none => true
    | some b => !(pageSlots 8 b).all slotSound)
  (ps.map (fun p => p.1 - base), torn.map (fun p => p.1 - base))

/-- What the Referee knows of the programmed records of a sector: index, CODE and subject, newest first. -/
def knownOf (k first : Nat) (s : State) : List (Nat × Nat × Nat) :=
  let rs := sbSector k s
  ((natsFrom 0 rs.length).zip rs).foldl
    (fun l p => ((first + p.1) % 2 ^ 32, fieldAt p.2 0 2, fieldAt p.2 22 2) :: l) []

/-- The Referee's view of the ring once its head is found (steps 2, 3 and 5 of R424). -/
def recoverRing (hs : List (Nat × Nat × Nat)) (head : Nat × Nat × Nat) (s : State) : State :=
  let k := head.1
  let p := headPages k s
  let s : State := { s with sb := { s.sb with
    torn := p.2.map (fun x => k * 256 + x)
    sector := k, page := p.1.foldl max 0 + 1, sseq := head.2.1, fails := 0
    firsts := hs.map (fun h => (h.1, h.2.2))
    oldest := match tailSector hs with | some t => t.2.2 | none => head.2.2 } }
  let rs := sbSector k s
  let order := (natsFrom 1 128).map (fun i => (k + i) % 128)
  let known := (order.filterMap (fun j => hs.find? (fun h => decide (h.1 = j)))).foldl
    (fun l h => knownOf h.1 h.2.2 s ++ l) []
  let s : State := { s with sb := { s.sb with
    next := (head.2.2 + rs.length) % 2 ^ 32, known := known, live := true
    opBase := rs.foldl (fun n r => max n (fieldAt r 4 4)) s.sb.opBase
    pcycle := rs.foldl (fun n r => max n (fieldAt r 8 4)) s.sb.pcycle } }
  match p.2 with
  | [] => s
  | t :: l => sbBuffer (recNow 0x0002 [(4, l.length + 1), (2, t)] s) s

/-- Step 4 of R424: the sector ahead is erased again if it is not blank. -/
def aheadErase (s : State) : State :=
  let a := sbAddr ((s.sb.sector + 1) % 128) 0
  if flSectorBlank a s || flBusy 1 s then s else flStart ⟨0, 2, a, [], [], 0, 0⟩ s

/-- Step 5 of R424: PCYCLE rises, and a counter page is written at once. -/
def countersFresh (s : State) : State :=
  let s : State := { s with sb := { s.sb with pcycle := min (s.sb.pcycle + 1) 0xFFFFFFFF } }
  if flBusy 1 s then { s with sb := { s.sb with commitDue := true } } else sbCounter s

/-- The recovery before VERIFY (R424, R425). While a mass erase is unfinished there is no Scorebook to recover. -/
def sbRecover (s : State) : State :=
  let none_ := (counterBest s).isNone
  let s := recoverCounter s
  if guardPending s then countersFresh s
  else
    let hs := sectorHeads s
    let s := match headSector hs with
      | some h => recoverRing hs h s
      | none =>
        let s := sbFresh (flEraseSector (sbAddr 0 0) s)
        if none_ then sbBuffer (recNow 0x0005 [] s) s else s
    sbLatched (countersFresh (aheadErase s))

/-! ### The boot ROM (R114, R115) -/

/-- The boot ROM's verdict on a firmware slot: 0 accepted, 1 EMPTY, 2 COMMIT_BAD, 6 SIG_BAD; and its version. -/
def romCheck (n : Nat) (s : State) : (Nat × Nat) × State :=
  let h := slotHead n s
  match h.1.1 with
  | .empty => ((1, 0), h.2)
  | .bad => ((2, 0), h.2)
  | .valid =>
    let f := firmwareOk n h.1.2.2 h.2
    if f.1 then ((0, Config.firmwareVersion (h.1.2.2 ++ (slotBody n h.1.2.2 h.2).1.1)), f.2) else ((6, 0), f.2)

/-- A firmware slot that the ROM rejects writes event 0x0102 with the slot and the reason. -/
def romReject (n c : Nat) (s : State) : State := if c = 0 then s else sbEvent 0x0102 [(1, n), (1, c)] s

/-- Cores stop in HOLD. -/
def holdEnter (cause : Nat) (s : State) : State := pmResetAll (enterHold cause s)

/-- The firmware starts (R114, R424, R102, R422): mailboxes are served from here on (R149). -/
def firmwareStart (n version : Nat) (s : State) : State :=
  let s : State := { s with
    boot := { s.boot with fw := version, stage := 0 }
    mail := { s.mail with served := true, romOnly := false } }
  let s := sbRecover (setF BOOT_STATUS_FW_SLOT (n - 3) s)
  startTimer 8 360000000 (startFirm tmPoll (getF MID_CTRL_POLL_MS s * 1000) s)

/-- HUDDLE is held low until the card has loaded (R128). -/
def huddleHold (s : State) : State :=
  setF HUDDLE_STATUS_SEEN_HIGH 0 (setF HUDDLE_STATUS_RELEASED 0 (stopTimer tmHuddle (stopTimer tmLock s)))

/-- SEQ of a user slot for the order of R116; 0 where it is not committed. -/
def slotSeq (n : Nat) (s : State) : Nat × State :=
  let h := slotHead n s
  (match h.1.1 with
    | .valid => fieldAt h.1.2.1 4 4
    | _ => 0, h.2)

/-- The candidates that BOOTSEL selects (R116). -/
def candidatesOf (s : State) : List Nat × State :=
  if s.boot.bootsel = 0 then
    let a := slotSeq 1 s
    let b := slotSeq 2 a.2
    (if a.1 < b.1 then [2, 1, 0] else [1, 2, 0], b.2)
  else if s.boot.bootsel = 1 then ([0], s)
  else ([], s)

/-- VERIFY begins (step 3 of R114): event 0x0101 with BOOTSEL, and the candidates; with none, HOLD with NO_CANDIDATE. -/
def verifyBegin (s : State) : State :=
  let s := sbEvent 0x0101 [(1, s.boot.bootsel)] (huddleHold s)
  let c := candidatesOf s
  let s : State := { c.2 with boot := { c.2.boot with
    candidates := c.1, fallback := false, byCommand := false, allowAuto := false, stage := 4, huddle := none } }
  if c.1 = [] then holdEnter 0 (sbEvent 0x0105 [(1, 16)] (setF BOOT_STATUS_LAST_REASON 16 s)) else s

/-- The boot ROM has run (R114, R115): the accepted slot of the higher version starts, FW0 if they are equal; else HOLD, with
MB13 alone served. An unfinished mass erase is resumed first (R368). -/
def romRun (s : State) : State :=
  let a := romCheck 3 s
  let b := romCheck 4 a.2
  let s := setF BOOT_REASON_FW1 b.1.1 (setF BOOT_REASON_FW0 a.1.1 b.2)
  let note (s : State) : State :=
    let s := if (guardBest s.flash.guard).isNone then sbEvent 0x080C [] s else s
    romReject 4 b.1.1 (romReject 3 a.1.1 s)
  let pick : Option (Nat × Nat) :=
    if a.1.1 = 0 ∧ (b.1.1 ≠ 0 ∨ b.1.2 ≤ a.1.2) then some (3, a.1.2)
    else if b.1.1 = 0 then some (4, b.1.2)
    else none
  match pick with
  | none => holdEnter 0 (note { s with mail := { s.mail with served := true, romOnly := true } })
  | some (n, v) =>
    let s := setDevState .verify 0 (note (firmwareStart n v s))
    if guardPending s then { massResume s with boot := { (massResume s).boot with stage := 8 } } else verifyBegin s

/-! ### VERIFY (R126) -/

/-- Where BOOT_REASON keeps the reason of an image slot. -/
def reasonFld (n : Nat) : Fld := if n = 0 then BOOT_REASON_GOLDEN else if n = 1 then BOOT_REASON_IMAGE_A else BOOT_REASON_IMAGE_B

/-- The candidate in hand is rejected (R126): event 0x0103 with the slot and the reason, and the next candidate is a
fallback; with none left, HOLD and event 0x0105 with the last reason. -/
def bootReject (c : Nat) (s : State) : State :=
  let n := listGet 7 s.boot.candidates 0
  let s := setF (reasonFld n) c (setF BOOT_STATUS_LAST_REASON c (sbEvent 0x0103 [(1, n), (1, c)] s))
  let rest := s.boot.candidates.drop 1
  let s : State := { s with boot := { s.boot with candidates := rest, fallback := true, stage := 4 } }
  if rest = [] then asyncEnd 0x0206 (reasonStatus c) c [] (holdEnter 7 (sbEvent 0x0105 [(1, c)] s)) else s

/-- Checks 1 to 10 of a candidate: the reason, and its header; `bad`: its body meets an uncorrectable read (R354). -/
def verifySlot (n : Nat) (bad : Bool) (s : State) : (Nat × List (BitVec 8)) × State :=
  let h := slotHead n s
  match h.1.1 with
  | .empty => ((1, []), h.2)
  | .bad => ((2, []), h.2)
  | .valid =>
    let c := slotCheck n (deviceHdrOk n h.1.2.2) hdrDevice h.1.2.2 bad h.2
    ((c.1, h.1.2.2), c.2)

/-- The candidate in hand is checked; one that passes is chosen (R126). -/
def verifyStep (bad : Nat) (s : State) : State :=
  let n := listGet 7 s.boot.candidates 0
  let v := verifySlot n (bitOf bad n) (setF (reasonFld n) 0 s)
  if v.1.1 ≠ 0 then bootReject v.1.1 v.2
  else { v.2 with boot := { v.2.boot with header := v.1.2, stage := 5 } }

/-! ### LOAD (R124, R128) -/

/-- Two plan entries name a common site or lane. -/
def planClash (a b : PlanEntry) : Bool :=
  decide (a.site = b.site) || (decide (a.first < b.first + b.count) && decide (b.first < a.first + a.count))

/-- The port plan of a header (R108): the entries kept, and the sites of those that are ignored. -/
def planOf (h : List (BitVec 8)) : List PlanEntry × List Nat :=
  (natsFrom 0 32).foldl (fun acc i =>
    let b := (h.drop (256 + 16 * i)).take 16
    let e : PlanEntry := ⟨fieldAt b 0 1, fieldAt b 1 1, fieldAt b 2 2, fieldAt b 4 1, fieldAt b 5 1, fieldAt b 6 1, fieldAt b 7 1⟩
    if e.count = 0 then acc
    else if acc.1.any (planClash e) then (acc.1, acc.2 ++ [e.site])
    else (acc.1 ++ [e], acc.2)) ([], [])

/-- Sites that are present and read are judged against the new plan (R109). -/
def sitesJudge (s : State) : State :=
  forEach (fun k s =>
    let st := getF (MID_SITE_STATE k) s
    if st = 0 ∨ st = 5 ∨ isSet (MID_SITE_ACCEPTED k) s then s else siteState k (siteVerdict k s) s) (natsFrom 0 32) s

/-- The fabric before a device image is loaded: no frames, memories zero, and nothing that its logic drives or asks for. -/
def fabricClear (s : State) : State :=
  let s := planesClear s
  let s : State := { s with fab := { s.fab with
    irq := [], shownIrq := [], throttle := [], shownThrottle := [], lineHeld := [], lineArmed := [], deep := [], deepGen := [], deepNoted := []
    tags := [], targets := [], window := [], fresh := [], heldPops := [], drains := [] } }
  forEach tileLoad (natsFrom 0 80) s

/-- The header fixes the PCIe IDs if nothing has (R127). -/
def idsFix (s : State) : State :=
  let h := s.boot.header
  if s.boot.ids.isSome then s
  else stopTimer tmPcieId
    { s with boot := { s.boot with ids := some (fieldAt h 16 2, fieldAt h 18 2, fieldAt h 20 2) } }

/-- Steps 1 and 2 of R128. A clock that already runs is stopped, set and started. -/
def loadBegin (s : State) : State :=
  let h := s.boot.header
  let s := if s.dev.state = .load then s else setDevState .load 0 s
  let s := clockWrite ((h.drop 128).take 16) (if isSet GC_CTRL_RUN s then gcStop s else s)
  let s := gcStart (setF GC_CTRL_REVERTIVE (fieldAt h 145 1) (setF GC_CTRL_SRC_MODE (fieldAt h 144 1) s))
  let p := planOf h
  let s := setF MID_MGMT_TADDR (fieldAt h 146 1) { s with sites := { s.sites with plan := p.1 } }
  let s := sitesJudge (forEach (fun k s => sbEvent 0x0B13 [(1, k)] s) p.2 s)
  fabricClear (holdBegin (setF BOOT_STATUS_SLOT 7 (idsFix s)))

/-- The plaintext of the epochs that open, in order, and whether all of them did and span the body (R122). -/
def epochsGot : Nat → Nat → List (BitVec 8) → List (BitVec 8) → List (BitVec 8) → List (BitVec 8) × Bool
  | 0, _, _, _, body => ([], decide (body = []))
  | n + 1, e, key, iv, body =>
    match epochOpen key iv body e (decide (n = 0)) with
    | none => ([], false)
    | some (p, roll, rest) =>
      let q := epochsGot n (e + 1) (roll.take 32) ((roll.drop 32).take 12) rest
      (p ++ q.1, q.2)

/-- The plaintext body as far as it opens, and whether it opens whole. -/
def plainGot (h body : List (BitVec 8)) (s : State) : List (BitVec 8) × Bool :=
  if fieldAt h 8 4 % 2 = 0 then (body, true)
  else
    match sourceKey hdrDevice h s with
    | none => ([], false)
    | some k =>
      match unwrapKey hdrDevice h k with
      | none => ([], false)
      | some k0 => epochsGot (fieldAt h 44 4) 0 k0 ((h.drop 832).take 12) body

/-- The blocks that SETTINGS may address (R125). -/
def settingBlocks : List Nat := [1, 2, 3, 4, 5, 6, 7, 13, 14]

/-- The register bits that tell of a refused write (R8) in those blocks. -/
def rejectFlds : List Fld :=
  [GC_STATUS_CFG_REJECT, CLK_STATUS_CFG_REJECT, WH_CTRL_CFG_REJECT, DQ_STATUS_CFG_REJECT, NOC_STATUS_CFG_REJECT] ++
    (natsFrom 0 4).map (fun c => DRC_STATUS_CFG_REJECT c) ++ (natsFrom 0 128).map (fun L => LANE_STATUS_CFG_REJECT L) ++
    (natsFrom 0 32).map (fun q => QUAD_STATUS_CFG_REJECT q) ++ (natsFrom 0 4).map (fun n => PM_STATUS_CFG_REJECT n)

/-- CFG_REJECT among a queue's events (R286). -/
def queueReject (q : Nat) : Fld := ⟨(QEVT_NE q).addr, 7, 1, 0⟩

/-- A setting is refused (R125): its write would set a CFG_REJECT, a queue's among them, raise an identity bus's source, or be
turned away. -/
def settingRefused (a v : Nat) (s : State) : Bool :=
  let fs := queueReject ((a - 0x3F00410000) / 64 % 4096) :: rejectFlds
  let clear := setF (WH_LATCH_LATCH 0) (bitsClear (getF (WH_LATCH_LATCH 0) s) 0xF000) (forEach (fun f s => setF f 0 s) fs s)
  let x := csrWrite false 88 a v clear
  !x.1 || fs.any (fun f => isSet f x.2) || (natsFrom 12 4).any (fun i => whLatched i x.2)

/-- The entries of a SETTINGS record, at most `n` of them (R124, R125): each is written in order; the reason where one fails. -/
def settingsTake : Nat → List (BitVec 8) → State → Nat × State
  | 0, _, s => (0, s)
  | n + 1, b, s =>
    if b = [] then (0, s)
    else
      let off := fieldAt b 0 4
      let v := fieldAt b 4 4
      if off % 4 ≠ 0 ∨ 0x1000000 ≤ off ∨ settingBlocks.contains (off / 2 ^ 20) = false then (12, s)
      else if settingRefused (0x3F00000000 + off) v s then (15, s)
      else settingsTake n (b.drop 8) (csrWrite false 88 (0x3F00000000 + off) v s).2

/-- A DEEP_INIT record (R124). -/
def deepInitTake (b : List (BitVec 8)) (s : State) : Nat × State :=
  let r := fieldAt b 0 1
  let k := fieldAt b 1 1
  let f := fieldAt b 4 4
  let n := fieldAt b 8 4
  if 80 ≤ r ∨ 16 ≤ k ∨ fieldAt b 2 2 ≠ 0 ∨ 32768 < f + n ∨ b.length ≠ 12 + 8 * n then (12, s)
  else (0, forEach (fun i s => deepPut r k (f + i) ⟨fieldAt b (12 + 8 * i) 8, 0⟩ s) (natsFrom 0 n) s)

/-- One record of the body is acted on (R124): 0, or the reason it is rejected for. -/
def recordTake (r : BRec) (s : State) : Nat × State :=
  match r.type with
  | 1 => if r.payload.length % 8 = 0 then settingsTake (r.payload.length / 8) r.payload s else (12, s)
  | 2 => takeFrames r s
  | 3 => takeFrames r s
  | 4 => deepInitTake r.payload s
  | _ => (12, s)
where
  takeFrames (r : BRec) (s : State) : Nat × State :=
    match framesOf r with
    | .inl e => (e, s)
    | .inr fs => (0, forEach (fun (x : FrameAt) s => frameWrite 0 (x.1 / 2304) (x.1 % 2304) x.2 s) fs s)

/-- The body in stream order (R124); `whole` is false where a later epoch is EPOCH_BAD. -/
def streamTake : Nat → List (BitVec 8) → Bool → State → Nat × State
  | 0, _, _, s => (12, s)
  | n + 1, b, whole, s =>
    let len := fieldAt b 4 4
    if b.length < 8 then (if whole then 12 else 11, s)
    else if fieldAt b 2 2 ≠ 0 then (12, s)
    else if fieldAt b 0 2 = 0xFFFF then
      (if len ≠ 0 ∨ b.length ≠ 8 then (12, s) else if whole then (0, s) else (11, s))
    else if b.length < 8 + len then (if whole then 12 else 11, s)
    else
      let x := recordTake ⟨fieldAt b 0 2, (b.drop 8).take len⟩ s
      if x.1 ≠ 0 then x else streamTake n (b.drop (8 + len)) whole x.2

/-- The records of the image in hand. -/
def imageRecords (body : List (BitVec 8)) (s : State) : List BRec :=
  match plainBody hdrDevice s.boot.header body s with
  | none => []
  | some p => (recordsOf (p.length / 8 + 1) p).getD []

/-- The repair index has room for the device image (R216). -/
def imageRoom (rs : List BRec) (h : List (BitVec 8)) : Bool :=
  decide (indexRuns rs ≤ 16384) && decide (fieldAt h 44 4 ≤ 2048)

/-- Plane 0 of every region has the device image as its source (R213, R215, R216). -/
def imagePlanes (rs : List BRec) (s : State) : State :=
  let h := s.boot.header
  let runs (r : Nat) : Nat :=
    (rs.filter (fun x => (decide (x.type = 2) || decide (x.type = 3)) && decide (fieldAt x.payload 0 4 / 4096 = r))).length
  forEach (fun r s => planeSet 0 r ⟨1, 0x3F, decide (fieldAt h 8 4 % 2 = 1), fieldAt h 12 4, runs r, 0⟩ s) (natsFrom 0 80) s

/-- Step 4 of R128 (R73, R120): a bank whose measured VCCIO is more than 5 % from the declared one stays high-impedance, with
event 0x0B03 and source 16. -/
def vccioCompare (s : State) : State :=
  let bad (i : Nat) : Bool :=
    let v := vccioMv (fieldAt s.boot.header (100 + i) 1)
    let m := getF (LJ_RAIL_MV (9 + i)) s
    decide (v ≠ 0) && (decide (v < 20 * (m - v)) || decide (v < 20 * (v - m)))
  let l := (natsFrom 0 14).filter bad
  forEach (fun _ s => whRaise 16 (sbEvent 0x0B03 [] s)) l { s with boot := { s.boot with bankBad := l } }

/-- Steps 3 and 4 of R128: the body is read and acted on; 0, or the reason. -/
def loadBody (s : State) : Nat × State :=
  let h := s.boot.header
  let b := slotBody (listGet 7 s.boot.candidates 0) h s
  if !b.1.2 then (if fieldAt h 8 4 % 2 = 1 then 11 else 12, b.2)
  else
    let p := plainGot h b.1.1 b.2
    let x := streamTake (p.1.length / 8 + 1) p.1 p.2 b.2
    let rs := imageRecords b.1.1 x.2
    if x.1 ≠ 0 then x
    else if !imageRoom rs h then (12, x.2)
    else (0, vccioCompare (imagePlanes rs x.2))

/-- A rejection in LOAD: both planes of all regions are cleared (R126). -/
def loadFail (c : Nat) (s : State) : State := bootReject c (fabricClear s)

/-- The image in hand is loaded (steps 1 to 4 of R128). -/
def loadStep (s : State) : State :=
  let x := loadBody (loadBegin s)
  if x.1 ≠ 0 then loadFail x.1 x.2 else { x.2 with boot := { x.2.boot with stage := 6 } }

/-- Step 6 of R128: the image stands as loaded, and the DRAM channels that its SETTINGS enabled are trained (R350). -/
def loadFinish (s : State) : State :=
  let h := s.boot.header
  let s := setB BOOT_STATUS_FALLBACK s.boot.fallback (setF BOOT_STATUS_SLOT (listGet 7 s.boot.candidates 0) s)
  let s := setF IMG_VERSION_VERSION (fieldAt h 12 4) s
  let s : State := { s with boot := { s.boot with build := fieldAt h 24 8, candidates := [], stage := 1 } }
  let s := forEach (fun c s => if isSet (DRC_CFG_EN c) s then drTrain c true s else s) (natsFrom 0 4) s
  if drTraining s then s else bootWait s

/-- Step 5 of R128: where a frame's readback differs the whole load repeats once; a second difference is READBACK. -/
def readbackStep (second differs : Bool) (s : State) : State :=
  if !differs then loadFinish s
  else if second then loadFail 14 s
  else
    let x := loadBody (fabricClear s)
    if x.1 ≠ 0 then loadFail x.1 x.2 else { x.2 with boot := { x.2.boot with stage := 7 } }

/-- Start-up runs (R114) until it waits for something or ends, in at most `n` steps: `bad` names the image slots whose bodies meet an
uncorrectable flash read, and `differs` tells of each readback in turn whether a frame differs. -/
def bootRun (bad : Nat) : Nat → List Bool → State → State
  | 0, _, s => s
  | n + 1, d, s =>
    match s.boot.stage with
    | 3 => bootRun bad n d (romRun s)
    | 4 => bootRun bad n d (verifyStep bad s)
    | 5 => bootRun bad n d (loadStep s)
    | 6 => bootRun bad n (d.drop 1) (readbackStep false (d.headD false) s)
    | 7 => bootRun bad n (d.drop 1) (readbackStep true (d.headD false) s)
    | _ => s

/-- Start-up runs with what it meets outside; three candidates need at most 13 steps. -/
def bootGo (x : BootIn) (s : State) : State := bootRun x.bad.toNat 16 x.differs s

/-- What the part does while no command waits: local time moves on by 1 µs (log entry 3). -/
def tick (s : State) : State := { s with time := { s.time with us := s.time.us + 1 } }

end Sys2Proof.Machine
end

