-- ==== Sys2Proof/Machine/Boot.lean ====
section
/-! DEFINITION. The rows of power, reset and start-up (R77 to R84, R114 to R133), of the PCIe link, of the Referee's restart
(R433 to R435), and those of the mailboxes that name no command of their own (R142, R150). -/

namespace Sys2Proof.Machine

/-! ### Power and resets -/

/-- ALL_RAILS_GOOD: t0 (R77). -/
def execAllRailsGood (s : State) : Host.Outcome State Fault Refusal := fin (if s.boot.power = 0 then railsGood s else s)

/-- 1.0 s runs from the rise of PERST_N, or from the release of the internal reset if that is later (R127). -/
def idsWait (s : State) : State := if s.boot.perst then s else startTimer tmPcieId 1000000 s

/-- INTERNAL_RESET_RELEASE (R78): RCO runs, BOOTSEL is sampled, and the boot ROM starts in COLD; start-up then runs as far as it
can. SPLL0 and SPLL1, whose EN resets to 1, start to lock (R46, R51), the scrubber's passes begin (R239), the calendar's tick is divided
from XTAL_IN (R42), and OPSEC counts from here (R421). -/
def resetRelease (sel : Nat) (s : State) : State :=
  let s := expire tmRails s
  let s : State := { s with
    boot := { s.boot with power := 2, bootsel := sel, stage := 3 }
    time := { s.time with runFrom := s.time.us }
    gc := { s.gc with calDue := s.time.us + 1000000 } }
  let s := anchorFollow (setF BOOT_STATUS_BOOTSEL sel s)
  idsWait (passBegin 1 (passBegin 0 (tlimPut tlimReset.1 tlimReset.2.1 tlimReset.2.2 (pllRelock 5 (pllRelock 4 s)))))

def execInternalResetRelease (sel : BitVec 2) (x : BootIn) (s : State) : Host.Outcome State Fault Refusal :=
  finG (if s.boot.power = 1 ∧ timerOn tmRails s = true then bootGo x (resetRelease sel.toNat s) else s)

/-- POR_N_RESET (R80): POR_N low for 1 µs; cause 1. -/
def execPorNReset (s : State) : Host.Outcome State Fault Refusal := fin (if s.boot.power = 0 then s else resetToOff 1 s)

/-- The Scorebook is committed at a removal warning (R81, R423): event 0x0B02, the tallies close, and every waiting record is
programmed; no counter page is. -/
def removalCommit (s : State) : State := sbFlush true (sbCloseAll (sbBuffer (recNow 0x0B02 [] s) s))

/-- PGOOD_IN_FALL (R81, R364): outputs go off, HUDDLE and FAULT_N go high-impedance, the flash abandons erases, and the Referee
commits the Scorebook unless it restarts (collisions of R435). The device resets 5 ms later. Before the internal reset is
released, the rails are no longer all good (R77). -/
def pgoodFall (s : State) : State :=
  if s.boot.power = 0 ∨ s.boot.removal = true then s
  else if s.boot.power = 1 then resetToOff 2 s
  else
    let s := startTimer tmRemoval 5000 { s with boot := { s.boot with removal := true } }
    let s := flPowerFall (setF HUDDLE_STATUS_RELEASED 1 (pinsOff (portsFollow s)))
    if s.lj.restarting then s else removalCommit s

def execPgoodInFall (s : State) : Host.Outcome State Fault Refusal := fin (pgoodFall s)

/-- REMOVAL_RESET (R81): 5 ms after PGOOD_IN fell; cause 2. -/
def execRemovalReset (s : State) : Host.Outcome State Fault Refusal :=
  fin (if timerOn tmRemoval s then resetToOff 2 (expire tmRemoval s) else s)

/-- The lowest rail of a mask. -/
def lowestRail (m : Nat) : Option Nat := (natsFrom 0 23).find? (fun k => bitOf m k)

/-- BROWN_OUT (R82, R83): rails below their bad thresholds for 2 µs, as many as go bad within one filter period; the lower index is
latched. During a removal warning the cause stays 2. -/
def brownOut (rails : Nat) (s : State) : State :=
  match lowestRail rails with
  | none => s
  | some k => if s.boot.power = 0 then s else resetToOff (if s.boot.removal then 2 else 3 + 256 * k) s

def execBrownOut (rails : BitVec 23) (s : State) : Host.Outcome State Fault Refusal := fin (brownOut rails.toNat s)

/-- DEVICE_RESET_EXPIRY (R83, R418): event 0x0116 and the waiting records are programmed, then the device resets with cause 4; its
rails are good, so t0 is at once. -/
def execDeviceResetExpiry (s : State) : Host.Outcome State Fault Refusal :=
  fin (if timerOn tmReset s then
      let s := expire tmReset s
      railsGood (deviceReset 4 (sbFlush true (sbCloseAll (sbBuffer (recNow 0x0116 [] s) s))))
    else s)

/-- VBATT_LOSS (R121, R83, R365): the VBATT key is lost; during a reset, so are the latched cause and interrupted operations. -/
def vbattLoss (s : State) : State :=
  let s : State := { s with boot := { s.boot with vbattKey := none, vbattLow := true } }
  if s.boot.power = 2 then s
  else { s with boot := { s.boot with causes := 0 }, flash := { s.flash with latched := [] } }

def execVbattLoss (s : State) : Host.Outcome State Fault Refusal := fin (vbattLoss s)

/-! ### PCIe -/

/-- The IDs after PERST_N rises (R127): those of the loaded image, the eFuse defaults in HOLD, else none until they are fixed. -/
def idsAgain (s : State) : State :=
  if getF BOOT_STATUS_SLOT s ≠ 7 then idsFix s
  else if s.dev.state = .hold then idsDefault s
  else idsWait s
where
  idsDefault (s : State) : State :=
    { s with boot := { s.boot with
        ids := some (tabGet 0 s.boot.fuses 5, tabGet 0 s.boot.fuses 6, tabGet 0 s.boot.fuses 7) } }

/-- PERST_N (R84, R153): low, the endpoint and MB0 to MB7 are reset; its rise starts the endpoint. -/
def perstN (low : Bool) (s : State) : State :=
  if low = s.boot.perst then s
  else
    let s : State := { s with boot := { s.boot with perst := low } }
    if s.boot.power ≠ 2 then s
    else if low then linkDown (stopTimer tmPcieId { s with boot := { s.boot with ids := none } })
    else idsAgain s

def execPerstN (low : Bool) (s : State) : Host.Outcome State Fault Refusal := fin (perstN low s)

/-- PCIE_ID_DEFAULT_TIMEOUT (R127). -/
def execPcieIdDefaultTimeout (s : State) : Host.Outcome State Fault Refusal :=
  fin (if timerOn tmPcieId s then
      let s := expire tmPcieId s
      if s.boot.ids.isSome then s else idsAgain.idsDefault s
    else s)

/-- A trained link has its PLL running and locked (R49, R65). -/
def pciePllOn (s : State) : State := setF (PLL_STATUS_STATE 30) 2 (setF (PLL_CTRL_EN 30) 1 (pllLockedSet 30 true s))

/-- PCIE_LINK_UP (R84, R382): the link is up, and vector 9 is sent again if REQ_5 is 1. -/
def linkUp (s : State) : State :=
  if s.boot.power ≠ 2 ∨ s.boot.perst = true ∨ s.boot.linkUp = true then s
  else
    let s := pciePllOn { s with boot := { s.boot with linkUp := true } }
    whenS (isSet WH_CTRL_FWD_EN s && bitOf s.wh.req 5) (msix 9) s

def execPcieLinkUp (s : State) : Host.Outcome State Fault Refusal := fin (linkUp s)

/-- PCIE_LINK_DOWN (R153): link down, hot reset or function-level reset; the link stays up through the last. -/
def execPcieLinkDown (functionReset : Bool) (s : State) : Host.Outcome State Fault Refusal :=
  fin (if s.boot.power ≠ 2 ∨ s.boot.linkUp = false then s else if functionReset then hostReset s else linkDown s)

/-! ### Start-up -/

/-- IMAGE_BOOT (R116, R133): from HOLD, the named slot is the only candidate and no fallback. Start-up
runs on from VERIFY once the command is ACCEPTED. -/
def sheetImageBoot : Sheet :=
  { plainSheet 0x0206 (fun r _ => argsLen 2 (fun r => decide (arg r 0 1 ≤ 2) && decide (arg r 1 1 ≤ 1)) r) [1] (fun r s =>
      let s := setDevState .verify 1 (huddleHold s)
      (replyAccepted [arg r 0 1] [], { s with boot := { s.boot with
        candidates := [arg r 0 1], fallback := false, byCommand := true, allowAuto := decide (arg r 1 1 = 1)
        stage := 4, huddle := none } })) with
    state := fun _ s => if s.dev.state = .hold then none else some stWrongState }

def execImageBoot (mb : Fin 14) (x : BootIn) (s : State) : Host.Outcome State Fault Refusal :=
  finG (bootGo x (runSheet sheetImageBoot mb.val s))

/-- LOCK_WAIT_EXPIRY (R129). -/
def execLockWaitExpiry (s : State) : Host.Outcome State Fault Refusal :=
  fin (if s.boot.stage = 2 ∧ timerOn tmLock s = true then bootHuddle true (expire tmLock s) else s)

/-- HUDDLE_STAGED_ENTRY (R130). -/
def execHuddleStagedEntry (s : State) : Host.Outcome State Fault Refusal := fin (if huddleDue s then huddleEntry s else s)

/-- HUDDLE_TIMEOUT (R132): no high sample came; HOLD, with the fabric loaded and held. -/
def execHuddleTimeout (s : State) : Host.Outcome State Fault Refusal :=
  fin (if s.dev.state = .huddle ∧ timerOn tmHuddle s = true ∧ s.boot.huddle = none then
      holdEnter 6 (sbEvent 0x0108 [] (setF HUDDLE_STATUS_TIMEOUT 1 (expire tmHuddle s)))
    else s)

/-- HUDDLE_LINE_FALL (R131): counted from STAGED on. -/
def huddleFall (s : State) : State :=
  let s := setF HUDDLE_STATUS_LINE 0 s
  match s.dev.state with
  | .staged => bumpF HUDDLE_STATUS_LOW_EVENTS s
  | .live => bumpF HUDDLE_STATUS_LOW_EVENTS s
  | .quiesce => bumpF HUDDLE_STATUS_LOW_EVENTS s
  | .safe => bumpF HUDDLE_STATUS_LOW_EVENTS s
  | .hold => bumpF HUDDLE_STATUS_LOW_EVENTS s
  | _ => s

def execHuddleLineFall (s : State) : Host.Outcome State Fault Refusal := fin (huddleFall s)

/-- AUTO_LIVE (R133). -/
def execAutoLive (s : State) : Host.Outcome State Fault Refusal := fin (if autoDue s then autoLive s else s)

/-! ### Requests -/

/-- The opcodes of the command sheets. -/
def opcodes : List Nat :=
  [0x0101, 0x0102, 0x0103, 0x0104, 0x0105, 0x0106, 0x0107, 0x0108, 0x0109, 0x010A, 0x010B, 0x010C,
   0x0201, 0x0202, 0x0203, 0x0204, 0x0205, 0x0206, 0x0207, 0x0208, 0x0209, 0x0301, 0x0302, 0x0303,
   0x0304, 0x0305, 0x0310, 0x0311, 0x0312, 0x0320, 0x0321, 0x0322, 0x0323, 0x0324, 0x0330, 0x0331,
   0x0401, 0x0402, 0x0403, 0x0404, 0x0410, 0x0420, 0x0421, 0x0422, 0x0501, 0x0502, 0x0503, 0x0504,
   0x0505, 0x0506, 0x0601, 0x0602, 0x0603, 0x0604, 0x0605, 0x0620, 0x0621, 0x0701, 0x0702, 0x0703,
   0x0704, 0x0705, 0x0706, 0x0707, 0x0708, 0x0710, 0x0711, 0x0740, 0x0741, 0x0742, 0x0743, 0x0801,
   0x0802, 0x0803, 0x0804, 0x0805, 0x0806, 0x0901, 0x0902, 0x0903, 0x0904, 0x0A01, 0x0A02, 0x0A03,
   0x0A04, 0x0A05, 0x0A06, 0x0B01, 0x0B02, 0x0B03, 0x0B04, 0x0B05, 0x0B06, 0x0B07, 0x0C01, 0x0C02,
   0x0C03, 0x0C04, 0x0C05, 0x0C06, 0x0C07, 0x0C08, 0x0C20, 0x0C21, 0x0C22, 0x0C23, 0x0C24, 0x0C30,
   0x0C31, 0x0C32, 0x0C33, 0x0D01, 0x0D02]

/-- REQUEST_REFUSED (R142): the request at the front of the sequencer fails a check before its own sheet is asked: length, CRC,
history, reserved bytes, or an opcode that no sheet has. -/
def requestRefused (m : Nat) (s : State) : State :=
  match headReq s with
  | none => s
  | some r =>
    if r.mb ≠ m then s
    else
      match gateOf r s with
      | .answer st orig p => respond r st orig p (seqPop s)
      | .refuse st => conclude r (replySt st) (seqPop s)
      | .pass =>
        if s.mail.romOnly && !romServes r then conclude r (replySt stWrongState) (seqPop s)
        else if opcodes.contains r.opcode then s
        else conclude r (replySt stBadOpcode) (seqPop s)

def execRequestRefused (mb : Fin 14) (s : State) : Host.Outcome State Fault Refusal := fin (requestRefused mb.val s)

/-- ASYNC_COMMAND_COMPLETE (R150): the work of an asynchronous command that no row of its own ends: an IMAGE_COMMIT's and a
REGION_STORE_WRITE's checks, and a PM_LOAD. -/
def asyncCommand (m seq : Nat) (readBad : Bool) (x : DebugIn) (stop : Option Nat) (s : State) : State :=
  match s.mail.running.find? (fun a => decide (a.mb = m) && decide (a.seq = seq)) with
  | none => s
  | some a =>
    if a.opcode = 0x0205 then commitRun a readBad s
    else if a.opcode = 0x0705 ∧ listGet 0 a.args 1 = 2 then storeCommitRun a readBad s
    else if a.opcode = 0x0C04 then pmLoadRun a x stop s
    else s

def execAsyncCommandComplete (mb : Fin 14) (seq : BitVec 16) (readBad : Bool) (x : DebugIn) (stop : Option (BitVec 16))
    (s : State) : Host.Outcome State Fault Refusal :=
  finG (asyncCommand mb.val seq.toNat readBad x (stop.map (·.toNat)) s)

/-! ### The Referee's restart -/

/-- Every mailbox is reset (R434, R153): running commands are abandoned, without response or COMPLETION. -/
def mailAbandon (s : State) : State :=
  let s := forEach mailboxReset (natsFrom 0 14) s
  let s := grantEnd (notice 0x0003 0xFF [] (ringEmpty s))
  { s with
    mail := { s.mail with running := [], served := false }
    dev := { s.dev with onNext := none, onAt := none }
    boot := { s.boot with open_ := [] } }

/-- Of the Referee's own flash work, what is under way on a bank ends; what was to follow does not (R434). -/
def flashAbandon (s : State) : State :=
  { s with flash := { s.flash with
      ops := s.flash.ops.map (fun p => (p.1, if p.2.owner = 1 then p.2 else { p.2 with rest := [], job := 0 }))
      waiting := s.flash.waiting.filter (fun o => decide (o.owner = 1)) } }

/-- Timers that firmware keeps run from their full value again (R434). -/
def timersAgain (s : State) : State :=
  forEach (fun (p : Nat × Nat) s => if timerOn p.1 s then startTimer p.1 p.2 s else s) s.time.full s

/-- In VERIFY, LOAD and HUDDLE, start-up repeats from VERIFY, and both planes of every region are cleared first (R14, R434). -/
def startAgain (s : State) : State :=
  let go (s : State) : State :=
    setDevState .verify 0 (setF BOOT_STATUS_SLOT 7 (huddleHold (fabricClear { s with boot := { s.boot with
      stage := 0, huddle := none, candidates := [] } })))
  match s.dev.state with
  | .verify => if s.boot.stage = 8 then s else go s
  | .load => go s
  | .huddle => go s
  | _ => s

/-- REFEREE_FAULT (R433 to R435): KIND 1 a mismatch, 2 a delay-register parity error, 3 a missed exercise. A second fault within 10 s
is remembered for alarm 0x16. -/
def refereeFault (kind : Nat) (s : State) : State :=
  if s.boot.power ≠ 2 then s
  else
    let again := match s.lj.lastRefFault with
      | some t => decide (s.time.us < t + 10000000)
      | none => false
    let s := setF LJ_REFEREE_KIND kind s
    let s : State := { s with
      lj := { s.lj with lastRefFault := some s.time.us, restarting := true, restartKind := kind + 4 * natOfBool again }
      sb := { s.sb with live := false } }
    let s := startAgain (flashAbandon (mailAbandon (whFlush 0 s)))
    startTimer tmRestart 20000 (timersAgain s)

def execRefereeFault (kind : Fin 3) (s : State) : Host.Outcome State Fault Refusal := finG (refereeFault (kind.val + 1) s)

/-- Waiting records whose CRC fails after a restart are lost, and counted in LOST (R434). -/
def recordsLost (bad : List Nat) (s : State) : State :=
  let idx := natsFrom 0 s.sb.waiting.length
  let lost := idx.filter (fun i => bad.contains i)
  let kept := ((idx.zip s.sb.waiting).filter (fun p => !bad.contains p.1)).map (·.2)
  forEach (fun _ s => bumpF SB_STATUS_LOST s) lost { s with sb := { s.sb with
    waiting := kept, next := (s.sb.next + 2 ^ 32 - lost.length) % 2 ^ 32 } }

/-- REFEREE_RESTART_COMPLETE (R434, R435): mailboxes are served again; RESTARTS, event 0x0C08 with KIND, alarm 0x01 or 0x02, and
0x16 after a second fault; start-up that was interrupted begins VERIFY again. `bad` names the waiting records whose CRC fails. -/
def restartComplete (bad : List Nat) (s : State) : State :=
  if s.lj.restarting = false then s
  else
    let k := s.lj.restartKind % 4
    let again := decide (4 ≤ s.lj.restartKind)
    let fw := decide (s.boot.stage ≠ 3 ∧ s.mail.romOnly = false)
    let s := stopTimer tmRestart { s with lj := { s.lj with restarting := false } }
    let s := recordsLost bad { s with
      sb := { s.sb with live := fw && !guardPending s }
      mail := { s.mail with served := decide (s.boot.stage ≠ 3) } }
    let s := sbEvent 0x0C08 [(1, k)] (bumpF LJ_REFEREE_RESTARTS s)
    let s := alarm (if k = 1 then 0x01 else 0x02) 0 false s
    let s := if again then alarm 0x16 0 false s else s
    let s := if s.boot.removal then removalCommit s else s
    if s.dev.state = .verify ∧ s.boot.stage = 0 then verifyBegin s else s

def execRefereeRestartComplete (bad : List (Fin 512)) (x : BootIn) (s : State) : Host.Outcome State Fault Refusal :=
  finG (bootGo x (restartComplete (bad.map (·.val)) s))

end Sys2Proof.Machine
end

