-- ==== Sys2Proof/Machine/Dispatch.lean ====
section
/-! DEFINITION. The dispatch: one arm for each constructor of Instr, in the order of the table. -/

namespace Sys2Proof.Machine

def exec (i : Instr) (s : State) : Host.Outcome State Fault Refusal :=
  match i with
  | .registerWrite node addr value => Sys2Proof.Machine.execRegisterWrite node addr value s
  | .allRailsGood => Sys2Proof.Machine.execAllRailsGood s
  | .internalResetRelease sel x => Sys2Proof.Machine.execInternalResetRelease sel x s
  | .dramTrainingComplete channel ok step => Sys2Proof.Machine.execDramTrainingComplete channel ok step s
  | .lockWaitExpiry => Sys2Proof.Machine.execLockWaitExpiry s
  | .pcieIdDefaultTimeout => Sys2Proof.Machine.execPcieIdDefaultTimeout s
  | .huddleStagedEntry => Sys2Proof.Machine.execHuddleStagedEntry s
  | .huddleTimeout => Sys2Proof.Machine.execHuddleTimeout s
  | .huddleLineFall => Sys2Proof.Machine.execHuddleLineFall s
  | .autoLive => Sys2Proof.Machine.execAutoLive s
  | .porNReset => Sys2Proof.Machine.execPorNReset s
  | .pgoodInFall => Sys2Proof.Machine.execPgoodInFall s
  | .removalReset => Sys2Proof.Machine.execRemovalReset s
  | .brownOut rails => Sys2Proof.Machine.execBrownOut rails s
  | .perstN low => Sys2Proof.Machine.execPerstN low s
  | .pcieLinkDown functionReset => Sys2Proof.Machine.execPcieLinkDown functionReset s
  | .modulePoll x => Sys2Proof.Machine.execModulePoll x s
  | .modprsPulse bus => Sys2Proof.Machine.execModprsPulse bus s
  | .mgmtI2cWrite addr offset bytes => Sys2Proof.Machine.execMgmtI2cWrite addr offset bytes s
  | .mgmtI2cRead addr offset n => Sys2Proof.Machine.execMgmtI2cRead addr offset n s
  | .mbDoorbellRing mbs => Sys2Proof.Machine.execMbDoorbellRing mbs s
  | .requestRefused mb => Sys2Proof.Machine.execRequestRefused mb s
  | .noticeConsWrite mb value => Sys2Proof.Machine.execNoticeConsWrite mb value s
  | .noticeMsiIntervalEnd => Sys2Proof.Machine.execNoticeMsiIntervalEnd s
  | .claimLeaseExpiry group => Sys2Proof.Machine.execClaimLeaseExpiry group s
  | .expertAccess write offset len data => Sys2Proof.Machine.execExpertAccess write offset len data s
  | .deviceInfo mb => Sys2Proof.Machine.execDeviceInfo mb s
  | .deviceStatus mb => Sys2Proof.Machine.execDeviceStatus mb s
  | .outputsOn mb => Sys2Proof.Machine.execOutputsOn mb s
  | .outputsOnAtTurn => Sys2Proof.Machine.execOutputsOnAtTurn s
  | .outputsOff mb => Sys2Proof.Machine.execOutputsOff mb s
  | .quiesce mb => Sys2Proof.Machine.execQuiesce mb s
  | .drainComplete => Sys2Proof.Machine.execDrainComplete s
  | .quiesceDrainTimeout => Sys2Proof.Machine.execQuiesceDrainTimeout s
  | .deviceReset mb => Sys2Proof.Machine.execDeviceReset mb s
  | .deviceResetExpiry => Sys2Proof.Machine.execDeviceResetExpiry s
  | .claim mb => Sys2Proof.Machine.execClaim mb s
  | .release mb => Sys2Proof.Machine.execRelease mb s
  | .expertGrant mb => Sys2Proof.Machine.execExpertGrant mb s
  | .expertRevoke mb => Sys2Proof.Machine.execExpertRevoke mb s
  | .noticeMask mb => Sys2Proof.Machine.execNoticeMask mb s
  | .echo mb => Sys2Proof.Machine.execEcho mb s
  | .clockStatus mb => Sys2Proof.Machine.execClockStatus mb s
  | .clockConfigure mb => Sys2Proof.Machine.execClockConfigure mb s
  | .clockSelect mb => Sys2Proof.Machine.execClockSelect mb s
  | .clockRun mb => Sys2Proof.Machine.execClockRun mb s
  | .turnSet mb => Sys2Proof.Machine.execTurnSet mb s
  | .playbookWrite mb => Sys2Proof.Machine.execPlaybookWrite mb s
  | .playbookRead mb => Sys2Proof.Machine.execPlaybookRead mb s
  | .playbookDisarm mb => Sys2Proof.Machine.execPlaybookDisarm mb s
  | .pbCmdWrite => Sys2Proof.Machine.execPbCmdWrite s
  | .pbCmdRead => Sys2Proof.Machine.execPbCmdRead s
  | .calSet mb => Sys2Proof.Machine.execCalSet mb s
  | .calGet mb => Sys2Proof.Machine.execCalGet mb s
  | .calLoad => Sys2Proof.Machine.execCalLoad s
  | .turnLoadArm turnHi => Sys2Proof.Machine.execTurnLoadArm turnHi s
  | .gcRunWrite run => Sys2Proof.Machine.execGcRunWrite run s
  | .slotBoundary x => Sys2Proof.Machine.execSlotBoundary x s
  | .markerArrival ref fine => Sys2Proof.Machine.execMarkerArrival ref fine s
  | .markerMiss => Sys2Proof.Machine.execMarkerMiss s
  | .timeFrame lane f fine => Sys2Proof.Machine.execTimeFrame lane f fine s
  | .refWindowEnd a b phaseOk => Sys2Proof.Machine.execRefWindowEnd a b phaseOk s
  | .acquireTimeout => Sys2Proof.Machine.execAcquireTimeout s
  | .tpllLock => Sys2Proof.Machine.execTpllLock s
  | .playbookEntryDue idx => Sys2Proof.Machine.execPlaybookEntryDue idx s
  | .throttleEnd => Sys2Proof.Machine.execThrottleEnd s
  | .calendarTick => Sys2Proof.Machine.execCalendarTick s
  | .xtalWindowEnd edges => Sys2Proof.Machine.execXtalWindowEnd edges s
  | .pllLock p err => Sys2Proof.Machine.execPllLock p err s
  | .pllLossOfLock p both => Sys2Proof.Machine.execPllLossOfLock p both s
  | .clockMonitorWindow p mean nominal => Sys2Proof.Machine.execClockMonitorWindow p mean nominal s
  | .standbyReturn => Sys2Proof.Machine.execStandbyReturn s
  | .rePhaseComplete second err => Sys2Proof.Machine.execRePhaseComplete second err s
  | .pllRelock p => Sys2Proof.Machine.execPllRelock p s
  | .gclkSelWrite line code => Sys2Proof.Machine.execGclkSelWrite line code s
  | .rclkSelWrite region line code => Sys2Proof.Machine.execRclkSelWrite region line code s
  | .clockLineSwitchDone line => Sys2Proof.Machine.execClockLineSwitchDone line s
  | .pllStatusQuery mb => Sys2Proof.Machine.execPllStatusQuery mb s
  | .pllConfigure mb lock => Sys2Proof.Machine.execPllConfigure mb lock s
  | .pllPhaseSet mb => Sys2Proof.Machine.execPllPhaseSet mb s
  | .pllSpread mb => Sys2Proof.Machine.execPllSpread mb s
  | .clockRoute mb => Sys2Proof.Machine.execClockRoute mb s
  | .moduleList mb => Sys2Proof.Machine.execModuleList mb s
  | .moduleRead mb data stuck => Sys2Proof.Machine.execModuleRead mb data stuck s
  | .moduleRecheck mb x => Sys2Proof.Machine.execModuleRecheck mb x s
  | .moduleAccept mb => Sys2Proof.Machine.execModuleAccept mb s
  | .moduleTxDisable mb answers => Sys2Proof.Machine.execModuleTxDisable mb answers s
  | .moduleImrWrite mb acked same x => Sys2Proof.Machine.execModuleImrWrite mb acked same x s
  | .imageStatus mb => Sys2Proof.Machine.execImageStatus mb s
  | .imageSlotInfo mb => Sys2Proof.Machine.execImageSlotInfo mb s
  | .imageWriteBegin mb => Sys2Proof.Machine.execImageWriteBegin mb s
  | .imageWriteData mb fail => Sys2Proof.Machine.execImageWriteData mb fail s
  | .imageCommit mb => Sys2Proof.Machine.execImageCommit mb s
  | .imageBoot mb x => Sys2Proof.Machine.execImageBoot mb x s
  | .imageKeyLoad mb => Sys2Proof.Machine.execImageKeyLoad mb s
  | .imageKeyClear mb => Sys2Proof.Machine.execImageKeyClear mb s
  | .imageEfuseProgram mb ok => Sys2Proof.Machine.execImageEfuseProgram mb ok s
  | .asyncCommandComplete mb seq readBad x stop => Sys2Proof.Machine.execAsyncCommandComplete mb seq readBad x stop s
  | .fabricPortStatus mb => Sys2Proof.Machine.execFabricPortStatus mb s
  | .fabricPortIsolate mb => Sys2Proof.Machine.execFabricPortIsolate mb s
  | .fabricMemErrors mb => Sys2Proof.Machine.execFabricMemErrors mb s
  | .fabricRegionPower mb => Sys2Proof.Machine.execFabricRegionPower mb s
  | .regionPowerOnComplete region => Sys2Proof.Machine.execRegionPowerOnComplete region s
  | .fpIsolate region => Sys2Proof.Machine.execFpIsolate region s
  | .fpRelease region => Sys2Proof.Machine.execFpRelease region s
  | .fabUserCommit => Sys2Proof.Machine.execFabUserCommit s
  | .fabricInitiatorRequest region q => Sys2Proof.Machine.execFabricInitiatorRequest region q s
  | .fabricTargetRequest region => Sys2Proof.Machine.execFabricTargetRequest region s
  | .fpTargetTimeout region noClock => Sys2Proof.Machine.execFpTargetTimeout region noClock s
  | .tileRamAccess region block x => Sys2Proof.Machine.execTileRamAccess region block x s
  | .tileRamScrubRead region blocks => Sys2Proof.Machine.execTileRamScrubRead region blocks s
  | .deepRamWrite region block addr data be => Sys2Proof.Machine.execDeepRamWrite region block addr data be s
  | .deepRamRead region block x => Sys2Proof.Machine.execDeepRamRead region block x s
  | .deepRamScrubRead region flips => Sys2Proof.Machine.execDeepRamScrubRead region flips s
  | .regionStatus mb => Sys2Proof.Machine.execRegionStatus mb s
  | .regionLoad mb => Sys2Proof.Machine.execRegionLoad mb s
  | .regionLoadComplete readBad agree => Sys2Proof.Machine.execRegionLoadComplete readBad agree s
  | .regionClear mb => Sys2Proof.Machine.execRegionClear mb s
  | .regionSwapAt mb => Sys2Proof.Machine.execRegionSwapAt mb s
  | .regionStoreWrite mb fail => Sys2Proof.Machine.execRegionStoreWrite mb fail s
  | .regionReadback mb => Sys2Proof.Machine.execRegionReadback mb s
  | .regionVerify mb => Sys2Proof.Machine.execRegionVerify mb s
  | .regionFencePolicy mb => Sys2Proof.Machine.execRegionFencePolicy mb s
  | .scrubStatus mb => Sys2Proof.Machine.execScrubStatus mb s
  | .scrubConfigure mb => Sys2Proof.Machine.execScrubConfigure mb s
  | .scrubCtrlWrite value => Sys2Proof.Machine.execScrubCtrlWrite value s
  | .icpNop => Sys2Proof.Machine.execIcpNop s
  | .icpLoad region active words => Sys2Proof.Machine.execIcpLoad region active words s
  | .icpClear region => Sys2Proof.Machine.execIcpClear region s
  | .icpSwapAt region index lockedOnly turn slot => Sys2Proof.Machine.execIcpSwapAt region index lockedOnly turn slot s
  | .icpReadback region frame shadow => Sys2Proof.Machine.execIcpReadback region frame shadow s
  | .icpStatus region => Sys2Proof.Machine.execIcpStatus region s
  | .icpBadOp op region => Sys2Proof.Machine.execIcpBadOp op region s
  | .icpAbort => Sys2Proof.Machine.execIcpAbort s
  | .swapDrainStart idx => Sys2Proof.Machine.execSwapDrainStart idx s
  | .swapWindowEnd => Sys2Proof.Machine.execSwapWindowEnd s
  | .scrubFrameRead role mask selfOk => Sys2Proof.Machine.execScrubFrameRead role mask selfOk s
  | .repairComplete readBad => Sys2Proof.Machine.execRepairComplete readBad s
  | .fenceAutoRelease => Sys2Proof.Machine.execFenceAutoRelease s
  | .scrubPassTimeout => Sys2Proof.Machine.execScrubPassTimeout s
  | .timedResSet mb => Sys2Proof.Machine.execTimedResSet mb s
  | .timedResStatus mb => Sys2Proof.Machine.execTimedResStatus mb s
  | .tresEnableWrite res en => Sys2Proof.Machine.execTresEnableWrite res en s
  | .timedPacketSend region res dest data => Sys2Proof.Machine.execTimedPacketSend region res dest data s
  | .timedPacketArrive res flips => Sys2Proof.Machine.execTimedPacketArrive res flips s
  | .timedPresent region n => Sys2Proof.Machine.execTimedPresent region n s
  | .timedWindowClose => Sys2Proof.Machine.execTimedWindowClose s
  | .nocStatus mb => Sys2Proof.Machine.execNocStatus mb s
  | .nocQosSet mb => Sys2Proof.Machine.execNocQosSet mb s
  | .probeSet mb => Sys2Proof.Machine.execProbeSet mb s
  | .probeRead mb => Sys2Proof.Machine.execProbeRead mb s
  | .probeTraceRead mb => Sys2Proof.Machine.execProbeTraceRead mb s
  | .passerCopy mb => Sys2Proof.Machine.execPasserCopy mb s
  | .passerStatus mb => Sys2Proof.Machine.execPasserStatus mb s
  | .linkFlitReceive router port f => Sys2Proof.Machine.execLinkFlitReceive router port f s
  | .linkAckNak router port good => Sys2Proof.Machine.execLinkAckNak router port good s
  | .creditReturn router port vc good => Sys2Proof.Machine.execCreditReturn router port vc good s
  | .replayTimeout router port => Sys2Proof.Machine.execReplayTimeout router port s
  | .linkFail router port => Sys2Proof.Machine.execLinkFail router port s
  | .creditAudit router port vc upset => Sys2Proof.Machine.execCreditAudit router port vc upset s
  | .nocPacketDeliver x => Sys2Proof.Machine.execNocPacketDeliver x s
  | .csrAccess requests => Sys2Proof.Machine.execCsrAccess requests s
  | .rspTimeout node tag => Sys2Proof.Machine.execRspTimeout node tag s
  | .passEnable n en => Sys2Proof.Machine.execPassEnable n en s
  | .passProdWrite n prod => Sys2Proof.Machine.execPassProdWrite n prod s
  | .passAbort n => Sys2Proof.Machine.execPassAbort n s
  | .passerDescriptorFetch n => Sys2Proof.Machine.execPasserDescriptorFetch n s
  | .passerWaitSlotStart n => Sys2Proof.Machine.execPasserWaitSlotStart n s
  | .passerDescriptorComplete n => Sys2Proof.Machine.execPasserDescriptorComplete n s
  | .passerHalt n => Sys2Proof.Machine.execPasserHalt n s
  | .ptraceRestart => Sys2Proof.Machine.execPtraceRestart s
  | .queueConfigure mb => Sys2Proof.Machine.execQueueConfigure mb s
  | .queueStatus mb => Sys2Proof.Machine.execQueueStatus mb s
  | .queueFlush mb => Sys2Proof.Machine.execQueueFlush mb s
  | .queueRelease mb => Sys2Proof.Machine.execQueueRelease mb s
  | .dugoutStatus mb => Sys2Proof.Machine.execDugoutStatus mb s
  | .dugoutSpillSet mb => Sys2Proof.Machine.execDugoutSpillSet mb s
  | .qcmdFlush q => Sys2Proof.Machine.execQcmdFlush q s
  | .qcmdRelease q => Sys2Proof.Machine.execQcmdRelease q s
  | .dqCntClr q idx => Sys2Proof.Machine.execDqCntClr q idx s
  | .cellPush region c pop => Sys2Proof.Machine.execCellPush region c pop s
  | .cellPop region q word due => Sys2Proof.Machine.execCellPop region q word due s
  | .spillChunkFetchComplete q => Sys2Proof.Machine.execSpillChunkFetchComplete q s
  | .queueFault q => Sys2Proof.Machine.execQueueFault q s
  | .laneStatus mb => Sys2Proof.Machine.execLaneStatus mb s
  | .laneConfigure mb => Sys2Proof.Machine.execLaneConfigure mb s
  | .laneSlipSearch mb hit => Sys2Proof.Machine.execLaneSlipSearch mb hit s
  | .laneEyeScan mb errors => Sys2Proof.Machine.execLaneEyeScan mb errors s
  | .quadConfigure mb locks => Sys2Proof.Machine.execQuadConfigure mb locks s
  | .portConfigure mb => Sys2Proof.Machine.execPortConfigure mb s
  | .portStatus mb => Sys2Proof.Machine.execPortStatus mb s
  | .portControl mb => Sys2Proof.Machine.execPortControl mb s
  | .laneSlip lane => Sys2Proof.Machine.execLaneSlip lane s
  | .rearm lane => Sys2Proof.Machine.execRearm lane s
  | .eyeScanStart lane => Sys2Proof.Machine.execEyeScanStart lane s
  | .eyeScanPointDone lane errors => Sys2Proof.Machine.execEyeScanPointDone lane errors s
  | .laneCdrLock lane => Sys2Proof.Machine.execLaneCdrLock lane s
  | .laneBlockLock lane measured => Sys2Proof.Machine.execLaneBlockLock lane measured s
  | .laneLockLoss lane => Sys2Proof.Machine.execLaneLockLoss lane s
  | .lossOfSignal lane signal => Sys2Proof.Machine.execLossOfSignal lane signal s
  | .deskewComplete port depth => Sys2Proof.Machine.execDeskewComplete port depth s
  | .deskewFail port => Sys2Proof.Machine.execDeskewFail port s
  | .alignmentMarker port lane m => Sys2Proof.Machine.execAlignmentMarker port lane m s
  | .rallyFFrameReceive port bytes => Sys2Proof.Machine.execRallyFFrameReceive port bytes s
  | .rallyAFrameReceive port bytes alone => Sys2Proof.Machine.execRallyAFrameReceive port bytes alone s
  | .ack port block => Sys2Proof.Machine.execAck port block s
  | .rallyReplayTimerExpiry port => Sys2Proof.Machine.execRallyReplayTimerExpiry port s
  | .sync port x => Sys2Proof.Machine.execSync port x s
  | .rallyTxFrame port t => Sys2Proof.Machine.execRallyTxFrame port t s
  | .portUp port => Sys2Proof.Machine.execPortUp port s
  | .portDown port => Sys2Proof.Machine.execPortDown port s
  | .holdMsExpiry port => Sys2Proof.Machine.execHoldMsExpiry port s
  | .dramStatus mb => Sys2Proof.Machine.execDramStatus mb s
  | .dramErrors mb => Sys2Proof.Machine.execDramErrors mb s
  | .dramQosSet mb => Sys2Proof.Machine.execDramQosSet mb s
  | .dramPatrol mb => Sys2Proof.Machine.execDramPatrol mb s
  | .dramRetrain mb => Sys2Proof.Machine.execDramRetrain mb s
  | .dramRead channel x => Sys2Proof.Machine.execDramRead channel x s
  | .dramWrite channel x => Sys2Proof.Machine.execDramWrite channel x s
  | .patrolRead channel x => Sys2Proof.Machine.execPatrolRead channel x s
  | .patrolOverrun channel => Sys2Proof.Machine.execPatrolOverrun channel s
  | .dramRefresh channel => Sys2Proof.Machine.execDramRefresh channel s
  | .mr4Poll channel hot => Sys2Proof.Machine.execMr4Poll channel hot s
  | .alertN channel => Sys2Proof.Machine.execAlertN channel s
  | .dramChannelDown channel => Sys2Proof.Machine.execDramChannelDown channel s
  | .flashStatus mb => Sys2Proof.Machine.execFlashStatus mb s
  | .flashRead mb e => Sys2Proof.Machine.execFlashRead mb e s
  | .flashProgram mb fail => Sys2Proof.Machine.execFlashProgram mb fail s
  | .flashErase mb => Sys2Proof.Machine.execFlashErase mb s
  | .flashSectorInfo mb => Sys2Proof.Machine.execFlashSectorInfo mb s
  | .flashGuardSet mb => Sys2Proof.Machine.execFlashGuardSet mb s
  | .guardChangeComplete ok => Sys2Proof.Machine.execGuardChangeComplete ok s
  | .flUnlock node value => Sys2Proof.Machine.execFlUnlock node value s
  | .unlockTimeout => Sys2Proof.Machine.execUnlockTimeout s
  | .program node => Sys2Proof.Machine.execProgram node s
  | .erase node => Sys2Proof.Machine.execErase node s
  | .blankCheck node => Sys2Proof.Machine.execBlankCheck node s
  | .readPage node e => Sys2Proof.Machine.execReadPage node e s
  | .wear node => Sys2Proof.Machine.execWear node s
  | .flCmdBadOp node code => Sys2Proof.Machine.execFlCmdBadOp node code s
  | .flashOperationComplete bank ok => Sys2Proof.Machine.execFlashOperationComplete bank ok s
  | .flashWindowRead node addr beats e => Sys2Proof.Machine.execFlashWindowRead node addr beats e s
  | .playmakerFetch core addr hit e => Sys2Proof.Machine.execPlaymakerFetch core addr hit e s
  | .whistleStatus mb => Sys2Proof.Machine.execWhistleStatus mb s
  | .whistleSourceSet mb => Sys2Proof.Machine.execWhistleSourceSet mb s
  | .whistleHostClaim mb => Sys2Proof.Machine.execWhistleHostClaim mb s
  | .whistleHostComplete mb => Sys2Proof.Machine.execWhistleHostComplete mb s
  | .whistleSourceChange ch => Sys2Proof.Machine.execWhistleSourceChange ch s
  | .whClaim node t => Sys2Proof.Machine.execWhClaim node t s
  | .whComplete node t id => Sys2Proof.Machine.execWhComplete node t id s
  | .whFlush t => Sys2Proof.Machine.execWhFlush t s
  | .whPendSet w bits => Sys2Proof.Machine.execWhPendSet w bits s
  | .whPendClr w bits => Sys2Proof.Machine.execWhPendClr w bits s
  | .whistleParityError t => Sys2Proof.Machine.execWhistleParityError t s
  | .pmStatusQuery mb => Sys2Proof.Machine.execPmStatusQuery mb s
  | .pmStart mb => Sys2Proof.Machine.execPmStart mb s
  | .pmReset mb => Sys2Proof.Machine.execPmReset mb s
  | .pmLoad mb => Sys2Proof.Machine.execPmLoad mb s
  | .debugRun mb halts x => Sys2Proof.Machine.execDebugRun mb halts x s
  | .debugAccess mb x => Sys2Proof.Machine.execDebugAccess mb x s
  | .debugUnitsSet mb => Sys2Proof.Machine.execDebugUnitsSet mb s
  | .traceAccess mb => Sys2Proof.Machine.execTraceAccess mb s
  | .pmRunWrite core run => Sys2Proof.Machine.execPmRunWrite core run s
  | .beatArm core => Sys2Proof.Machine.execBeatArm core s
  | .beatCompareFire core => Sys2Proof.Machine.execBeatCompareFire core s
  | .icinv core => Sys2Proof.Machine.execIcinv core s
  | .wdogKick core value => Sys2Proof.Machine.execWdogKick core value s
  | .watchdogExpiry core => Sys2Proof.Machine.execWatchdogExpiry core s
  | .waitInstruction core mask x => Sys2Proof.Machine.execWaitInstruction core mask x s
  | .dozeWake core pc => Sys2Proof.Machine.execDozeWake core pc s
  | .lockstepFault pair exercise => Sys2Proof.Machine.execLockstepFault pair exercise s
  | .haltReq core x => Sys2Proof.Machine.execHaltReq core x s
  | .resume core => Sys2Proof.Machine.execResume core s
  | .step core d x => Sys2Proof.Machine.execStep core d x s
  | .regRd core index => Sys2Proof.Machine.execRegRd core index s
  | .regWr core index => Sys2Proof.Machine.execRegWr core index s
  | .dbgMcmdRead core jtag => Sys2Proof.Machine.execDbgMcmdRead core jtag s
  | .dbgMcmdWrite core jtag => Sys2Proof.Machine.execDbgMcmdWrite core jtag s
  | .breakpointMatch core x => Sys2Proof.Machine.execBreakpointMatch core x s
  | .watchMatch core d x => Sys2Proof.Machine.execWatchMatch core d x s
  | .traceRestart core => Sys2Proof.Machine.execTraceRestart core s
  | .traceOverflow core lost => Sys2Proof.Machine.execTraceOverflow core lost s
  | .ramEccError core double => Sys2Proof.Machine.execRamEccError core double s
  | .extest pins dr => Sys2Proof.Machine.execExtest pins dr s
  | .samplePreload pins dr => Sys2Proof.Machine.execSamplePreload pins dr s
  | .idcode => Sys2Proof.Machine.execIdcode s
  | .highz => Sys2Proof.Machine.execHighz s
  | .clamp => Sys2Proof.Machine.execClamp s
  | .extestPulse pins dr => Sys2Proof.Machine.execExtestPulse pins dr s
  | .extestTrain pins dr => Sys2Proof.Machine.execExtestTrain pins dr s
  | .bypass => Sys2Proof.Machine.execBypass s
  | .mbox dr => Sys2Proof.Machine.execMbox dr s
  | .dbg dr => Sys2Proof.Machine.execDbg dr s
  | .trstN => Sys2Proof.Machine.execTrstN s
  | .recordStatus mb => Sys2Proof.Machine.execRecordStatus mb s
  | .recordRead mb bad => Sys2Proof.Machine.execRecordRead mb bad s
  | .recordMark mb => Sys2Proof.Machine.execRecordMark mb s
  | .recordWatch mb => Sys2Proof.Machine.execRecordWatch mb s
  | .scorebookPageTimer fails => Sys2Proof.Machine.execScorebookPageTimer fails s
  | .tallyClose => Sys2Proof.Machine.execTallyClose s
  | .operatingTimeCommit => Sys2Proof.Machine.execOperatingTimeCommit s
  | .safetyStatus mb => Sys2Proof.Machine.execSafetyStatus mb s
  | .safetyClear mb => Sys2Proof.Machine.execSafetyClear mb s
  | .safeEnter mb => Sys2Proof.Machine.execSafeEnter mb s
  | .safeExit mb => Sys2Proof.Machine.execSafeExit mb s
  | .safetyPolicy mb => Sys2Proof.Machine.execSafetyPolicy mb s
  | .gaugeRead mb => Sys2Proof.Machine.execGaugeRead mb s
  | .gaugeLimits mb => Sys2Proof.Machine.execGaugeLimits mb s
  | .alarmRaise code subject present => Sys2Proof.Machine.execAlarmRaise code subject present s
  | .temperatureRead temps => Sys2Proof.Machine.execTemperatureRead temps s
  | .railSample mv => Sys2Proof.Machine.execRailSample mv s
  | .lineJudgeSelftest x => Sys2Proof.Machine.execLineJudgeSelftest x s
  | .detectionBoundMiss mech subject => Sys2Proof.Machine.execDetectionBoundMiss mech subject s
  | .refereeFault kind => Sys2Proof.Machine.execRefereeFault kind s
  | .ljPolicyWrite reg value => Sys2Proof.Machine.execLjPolicyWrite reg value s
  | .ljTlimWrite value => Sys2Proof.Machine.execLjTlimWrite value s
  | .vbattLoss => Sys2Proof.Machine.execVbattLoss s
  | .pcieLinkUp => Sys2Proof.Machine.execPcieLinkUp s
  | .refereeRestartComplete bad x => Sys2Proof.Machine.execRefereeRestartComplete bad x s
  | .fabricTargetResponse region k status data => Sys2Proof.Machine.execFabricTargetResponse region k status data s
  | .scrubberParityError => Sys2Proof.Machine.execScrubberParityError s

end Sys2Proof.Machine
end

