-- ==== Sys2Proof/Machine/FabricLogic.lean ====
section
/-! DEFINITION. What the fabric's primitives compute (R173 to R178, R192 to R196): where regions and lanes lie, a cell's function
table and flip-flops, an arithmetic slice. Which of them a design uses, and on what, stands in frames whose layout is not the
spec's: no command of the part runs them, and what a region's logic drives reaches the commands as operands (log entry 60). -/

namespace Sys2Proof.Machine

/-- Column and row of a region (R173). -/
def regionCol (r : Nat) : Nat := r / 8
def regionRow (r : Nat) : Nat := r % 8

/-- The region in which a lane presents its fabric interface (R175). -/
def laneRegion (L : Nat) : Nat := if L < 64 then L / 8 else 72 + (L - 64) / 8

/-- A cell's function table (R176): one function of six inputs, or two of five inputs, each from 32 bits of the table. -/
inductive CellTable where
  | whole (t : BitVec 64)
  | split (ta tb : BitVec 32)
  deriving DecidableEq, Repr

/-- LA and LB for the inputs I0 to I5, I0 in bit 0. -/
def cellOut : CellTable → BitVec 6 → Bool × Option Bool
  | .whole t, i => (t.getLsbD i.toNat, none)
  | .split ta tb, i => (ta.getLsbD (i.toNat % 32), some (tb.getLsbD (i.toNat % 32)))

/-- A flip-flop at a clock edge (R177, R178): global hold keeps INIT (R179), SR wins over CE. -/
def flipFlop (hold sr ce srVal init d q : Bool) : Bool :=
  if hold then init else if sr then srVal else if ce then d else q

/-- What a slice's frames set (R192, R195, R196). -/
structure SliceCfg where
  uSigned : Bool
  vSigned : Bool
  clamp : Bool
  cmpMask : BitVec 58
  /-- CMP_VAL as a frame constant; none where it is K. -/
  cmpVal : Option (BitVec 58)
  deriving DecidableEq, Repr

/-- A slice's operands as they enter with their OPSEL (R192). -/
structure SliceIn where
  op : Fin 8
  neg : Bool
  m : BitVec 26
  n : BitVec 19
  k : BitVec 58
  e : BitVec 25
  u : BitVec 64
  v : BitVec 64
  cin : BitVec 58
  deriving DecidableEq, Repr

/-- A slice's outputs: ACC (COUT is the same), EXC_LO, EXC_HI, HIT. -/
structure SliceOut where
  acc : BitVec 58
  excLo : Bool
  excHi : Bool
  hit : Bool
  deriving DecidableEq, Repr

/-- One element of an operand word. -/
def sliceElem (signed : Bool) (w : BitVec 64) (i : Nat) : Int :=
  let b := w.extractLsb' (8 * i) 8
  if signed then b.toInt else b.toNat

/-- The sum of four products from element `i` on. -/
def sliceDot (c : SliceCfg) (x : SliceIn) (i : Nat) : Int :=
  sliceElem c.uSigned x.u i * sliceElem c.vSigned x.v i +
    sliceElem c.uSigned x.u (i + 1) * sliceElem c.vSigned x.v (i + 1) +
    sliceElem c.uSigned x.u (i + 2) * sliceElem c.vSigned x.v (i + 2) +
    sliceElem c.uSigned x.u (i + 3) * sliceElem c.vSigned x.v (i + 3)

/-- The limits of a 29-bit half: unsigned sums only where both operand words are unsigned (log entry 61). -/
def halfLimits (c : SliceCfg) : Int × Int := if c.uSigned || c.vSigned then (-268435456, 268435455) else (0, 536870911)

/-- The value of a half as its limits read it. -/
def halfVal (c : SliceCfg) (h : BitVec 29) : Int := if c.uSigned || c.vSigned then h.toInt else h.toNat

/-- A half after a sum is added or taken away: it wraps, or clamps where CLAMP is set; whether it went past its limits (R195). -/
def halfAcc (c : SliceCfg) (neg : Bool) (h : BitVec 29) (d : Int) : BitVec 29 × Bool :=
  let x := halfVal c h + (if neg then -d else d)
  let beyond := decide (x < (halfLimits c).1) || decide ((halfLimits c).2 < x)
  (BitVec.ofInt 29 (if c.clamp then max (halfLimits c).1 (min (halfLimits c).2 x) else x), beyond)

/-- The multiplicand less or plus the pre-add operand (R192): 26 bits. -/
def slicePre (x : SliceIn) : Int :=
  let m := (x.m.extractLsb' 0 25).toInt
  if x.neg then x.e.toInt - m else x.e.toInt + m

/-- An accumulation of 58 bits: it wraps, with a signed overflow flagged (R195). -/
def accWrap (x : Int) : BitVec 58 × Bool := (BitVec.ofInt 58 x, decide (x < -(2 ^ 57)) || decide (2 ^ 57 ≤ x))

/-- ACC and the overflow flags that an operand set completes with (R192, R195). -/
def sliceAcc (c : SliceCfg) (x : SliceIn) (acc : BitVec 58) : BitVec 58 × Bool × Bool :=
  let p := x.m.toInt * x.n.toInt
  let add (a b : Int) : BitVec 58 × Bool × Bool :=
    let r := accWrap (if x.neg then a - b else a + b)
    (r.1, false, r.2)
  let dot (lo hi : BitVec 29 × Bool) : BitVec 58 × Bool × Bool := (hi.1 ++ lo.1, lo.2, hi.2)
  match x.op with
  | 0 => (BitVec.ofInt 58 p, false, false)
  | 1 => add acc.toInt p
  | 2 => (BitVec.ofInt 58 (slicePre x * x.n.toInt), false, false)
  | 3 =>
    let r := accWrap (if x.neg then acc.toInt - slicePre x * x.n.toInt else acc.toInt + slicePre x * x.n.toInt)
    (r.1, false, r.2)
  | 4 => add x.k.toInt p
  | 5 => add x.cin.toInt p
  | 6 => dot (BitVec.ofInt 29 (sliceDot c x 0), false) (BitVec.ofInt 29 (sliceDot c x 4), false)
  | 7 => dot (halfAcc c x.neg (acc.extractLsb' 0 29) (sliceDot c x 0)) (halfAcc c x.neg (acc.extractLsb' 29 29) (sliceDot c x 4))

/-- HIT (R196). -/
def sliceHit (c : SliceCfg) (k acc : BitVec 58) : Bool :=
  decide ((acc ^^^ c.cmpVal.getD k) &&& ~~~ c.cmpMask = 0)

/-- A slice's result registers after one operand set: SR and global hold clear them, CE = 0 keeps them (R179, R192). -/
def slice (c : SliceCfg) (hold sr ce : Bool) (x : SliceIn) (o : SliceOut) : SliceOut :=
  if sr || hold then ⟨0, false, false, false⟩
  else if ce then
    let r := sliceAcc c x o.acc
    ⟨r.1, r.2.1, r.2.2, sliceHit c x.k r.1⟩
  else o

end Sys2Proof.Machine
end

