-- ==== Sys2Proof/Machine/Package.lean ====
section
/-! DEFINITION. The K52 package: what each ball carries (R87 to R99). -/

namespace Sys2Proof.Machine

/-- A ball of the K52 array. `n` is true for the N (or C) member of a pair. -/
inductive Ball where
  | none
  | ltx (lane : Nat) (n : Bool)
  | lrx (lane : Nat) (n : Bool)
  | lref (k : Nat) (n : Bool)
  | ddrDq (c : Nat) (b : Bool) (s : Nat)
  | ddrDqs (c : Nat) (b : Bool) (p : Nat) (n : Bool)
  | ddrCa (c : Nat) (b : Bool) (s : Nat)
  | ddrCs (c : Nat) (b : Bool) (s : Nat)
  | ddrCk (c : Nat) (b : Bool) (n : Bool)
  | ddrReset (c : Nat)
  | ddrAlert (c : Nat)
  | ioHp (b n : Nat)
  | ioHd (h n : Nat)
  | pcieTx (lane : Nat) (n : Bool)
  | pcieRx (lane : Nat) (n : Bool)
  | dedicated (name : String)
  | vccio (bank : Nat)
  | vddq (c : Nat)
  | vccint
  | vccaux
  | vccfl
  | avcc
  | avtt
  | vbatt
  | gnd
  deriving DecidableEq, Repr

/-- The lane fields (R91); `w` is true in the west field. -/
def ballLane (w : Bool) (row c : Nat) : Ball :=
  let i := row - 3
  let q := if w then (c - 1) / 2 else (52 - c) / 2
  let rx := if w then decide (c % 2 = 1) else decide ((52 - c) % 2 = 0)
  let l := (if w then 0 else 64) + 16 * q + i / 3
  if i % 3 = 2 then (if i % 12 = 11 then (if c % 2 = 0 then .avcc else .avtt) else .gnd)
  else if rx then .lrx l (decide (i % 3 = 1))
  else .ltx l (decide (i % 3 = 1))

/-- The lane end strips (R92); the corners carry no ball (R89). -/
def ballStrip (row c : Nat) : Ball :=
  if (row = 1 ∨ row = 52) ∧ (c = 1 ∨ c = 52) then .none
  else if row = 1 ∨ row = 52 then (if c % 2 = 0 then .avcc else .avtt)
  else
    let up := natOfBool (decide (row = 51))
    if c ≤ 8 then .lref (2 * ((c - 1) / 2) + up) (decide (c % 2 = 0))
    else .lref (8 + 2 * ((52 - c) / 2) + up) (decide ((52 - c) % 2 = 1))

/-- A DRAM channel's field (R93): `r` and `j` count from its first row and column. -/
def ballDram (ch r j : Nat) : Ball :=
  let k := 36 * r + j
  if 158 ≤ k then (if k % 2 = 0 then .vddq ch else .gnd)
  else if k = 156 then .ddrReset ch
  else if k = 157 then .ddrAlert ch
  else
    let b := decide (78 ≤ k)
    let s := if b then k - 78 else k
    if s < 40 then .ddrDq ch b s
    else if s < 60 then .ddrDqs ch b ((s - 40) / 2) (decide (s % 2 = 1))
    else if s < 74 then .ddrCa ch b (s - 60)
    else if s < 76 then .ddrCs ch b (s - 74)
    else .ddrCk ch b (decide (s = 77))

/-- An HP bank's field (R94). -/
def ballHp (b i j : Nat) : Ball :=
  if i = 3 ∨ i = 7 ∨ i = 11 then (if j % 2 = 0 then .vccio b else .gnd)
  else
    let rank := if i < 3 then i else if i < 7 then i - 1 else if i < 11 then i - 2 else i - 3
    .ioHp b (4 * rank + j)

/-- An HD bank's field (R95); banks of VCCIO 10 to 13. -/
def ballHd (h i j : Nat) : Ball :=
  if i = 3 ∨ i = 7 then (if j % 2 = 0 then .vccio (10 + h) else .gnd)
  else .ioHd h (4 * (if i < 3 then i else i - 1) + j)

/-- The PCIe field (R96). -/
def ballPcie (i j : Nat) : Ball :=
  let l := 4 * (i % 2) + j / 3
  if j % 3 = 2 then .gnd
  else if i < 2 then .pcieTx l (decide (j % 3 = 1))
  else .pcieRx l (decide (j % 3 = 1))

/-- The dedicated block, row by row (R98). -/
def dedicatedBlock : List (List String) :=
  [["REFA_P", "REFA_N", "TMKA_P", "TMKA_N", "GND", "XTAL_IN", "GND", "TMKB_P", "TMKB_N", "REFB_P", "REFB_N", "TDIODE_P"],
   ["PCIE_REFCLK_P", "PCIE_REFCLK_N", "PERST_N", "POR_N", "PGOOD_IN", "HUDDLE", "FAULT_N", "BOOTSEL0", "BOOTSEL1",
    "VBATT", "VCCFL", "TDIODE_N"],
   ["TCK", "TMS", "TDI", "TDO", "TRST_N", "VCCAUX", "VCCAUX", "MGMT_SCL", "MGMT_SDA", "MODPRS0_N", "MODPRS1_N", "VCCFL"],
   ["MODID0_SCL", "MODID0_SDA", "MODID1_SCL", "MODID1_SDA", "MODID2_SCL", "MODID2_SDA", "MODID3_SCL", "MODID3_SDA",
    "MODPRS2_N", "MODPRS3_N", "VCCAUX", "VCCAUX"]]

/-- A ball of the dedicated block. -/
def ballDedicated (i j : Nat) : Ball :=
  let n := ((dedicatedBlock[i]?).bind (·[j]?)).getD ""
  if n = "GND" then .gnd
  else if n = "VCCAUX" then .vccaux
  else if n = "VCCFL" then .vccfl
  else if n = "VBATT" then .vbatt
  else .dedicated n

/-- The ball at a row and column, each 1 to 52 (R89, R90). -/
def ballAt (row c : Nat) : Ball :=
  if row = 0 ∨ 52 < row ∨ c = 0 ∨ 52 < c then .none
  else if c ≤ 8 ∨ 45 ≤ c then
    (if 3 ≤ row ∧ row ≤ 50 then ballLane (decide (c ≤ 8)) row c else ballStrip row c)
  else if row ≤ 5 then ballDram 0 (row - 1) (c - 9)
  else if row ≤ 10 then ballDram 1 (row - 6) (c - 9)
  else if 48 ≤ row then ballDram 3 (row - 48) (c - 9)
  else if 43 ≤ row then ballDram 2 (row - 43) (c - 9)
  else if c ≤ 20 then ballHp (5 * ((row - 11) / 16) + (c - 9) / 4) ((row - 11) % 16) ((c - 9) % 4)
  else if 37 ≤ c then ballHp (5 * ((row - 11) / 16) + 3 + (c - 37) / 4) ((row - 11) % 16) ((c - 37) % 4)
  else if 33 ≤ c then ballHd ((row - 11) / 8) ((row - 11) % 8) (c - 33)
  else if row ≤ 14 then ballPcie (row - 11) (c - 21)
  else if row ≤ 18 then ballDedicated (row - 15) (c - 21)
  else if (row + c) % 2 = 0 then .vccint
  else .gnd

/-- The device-wide user I/O number of a ball (R87). -/
def Ball.userIo : Ball → Option Nat
  | .ioHp b n => some (52 * b + n)
  | .ioHd h n => some (520 + 24 * h + n)
  | _ => Option.none

/-- The clock-capable pin that a user I/O is (R88). -/
def clockCapable (io : Nat) : Option Nat :=
  if io < 520 ∧ 24 ≤ io % 52 ∧ io % 52 ≤ 30 ∧ io % 2 = 0 then some (4 * (io / 52) + (io % 52 - 24) / 2) else Option.none

/-- The lane reference that serves a quad (R86). -/
def lrefOfQuad (q : Nat) : Nat := q / 2

/-- How many balls of a row satisfy a predicate, over `n` columns from `c` on. -/
def rowCount (p : Ball → Bool) (row c : Nat) : Nat → Nat
  | 0 => 0
  | n + 1 => natOfBool (p (ballAt row c)) + rowCount p row (c + 1) n

/-- How many balls of the package satisfy a predicate, over `n` rows from `row` on. -/
def ballCount (p : Ball → Bool) (row : Nat) : Nat → Nat
  | 0 => 0
  | n + 1 => rowCount p row 1 52 + ballCount p (row + 1) n

end Sys2Proof.Machine
end

