-- ==== Sys2Proof/Safety.lean ====
section
/-! DEFINITION. The terms in which claims are made: what a run keeps, what an answered request looks like, and what writing events
and notices may touch. -/

namespace Sys2Proof.Machine

/-- A command runs to a next state. -/
def Runs (i : Instr) (s t : State) : Prop := exec i s = .next t

/-- REQ of every target is what R376 says of the present sources, priorities, enables and stacks. -/
def ReqFollows (s : State) : Prop := ∀ t < 6, bitOf s.wh.req t = whReq t s

/-- The registers that writing an event, a notice, a latch of the Whistle or an alarm may change: SB_STATUS, FL_STATUS (WEAR),
NOTICE_PROD and NOTICE_DROP, WH_LATCH, LJ_ALARM and LJ_STATUS. -/
def noteAddr (a : Nat) : Prop :=
  a = 0x3F00A00004 ∨ a = 0x3F00900010 ∨ (0x3F00301200 ≤ a ∧ a < 0x3F00301240) ∨ (0x3F00F00000 ≤ a ∧ a ≤ 0x3F00F0000C) ∨
    (0x3F00C00000 ≤ a ∧ a < 0x3F00C1C000 ∧ (a % 0x2000 = 0x1F90 ∨ a % 0x2000 = 0x1F98))

/-- Two states differ by no more than what events, notices, latches and alarms write down: the registers of `noteAddr`, the Scorebook
and its pages in flash with their counts, the entries of notice rings, the Scorebook's page timer (1) and vector 8's timer (2), what FAULT_N was
taken for, REQ, and what has left the part. -/
structure Noted (s t : State) : Prop where
  regs : ∀ f : Fld, f.lo < 32 → ¬ noteAddr f.addr → getF f t = getF f s
  ctrs : ∀ k, k / 64 ≠ 0x3F00900030 → getC k t = getC k s
  latch : t.latch = s.latch
  us : t.time.us = s.time.us
  runFrom : t.time.runFrom = s.time.runFrom
  lastEvt : t.time.lastEvt = s.time.lastEvt
  full : t.time.full = s.time.full
  timers : ∀ k, k ≠ 1 → k ≠ 2 → tabFind t.time.deadlines k = tabFind s.time.deadlines k
  freeIdx : t.freeIdx = s.freeIdx
  clk : t.clk = s.clk
  dev : t.dev = s.dev
  boxes : t.mail.boxes = s.mail.boxes
  queue : t.mail.queue = s.mail.queue
  running : t.mail.running = s.mail.running
  served : t.mail.served = s.mail.served
  romOnly : t.mail.romOnly = s.mail.romOnly
  grantor : t.mail.grantor = s.mail.grantor
  violations : t.mail.violations = s.mail.violations
  stackTab : t.wh.stackTab = s.wh.stackTab
  guard : t.flash.guard = s.flash.guard
  unlock : t.flash.unlock = s.flash.unlock
  dq : t.dq = s.dq
  rally : t.rally = s.rally
  sites : t.sites = s.sites
  gc : t.gc = s.gc
  pll : t.pll = s.pll
  boot : t.boot = s.boot
  fab : t.fab = s.fab
  cfg : t.cfg = s.cfg
  noc : t.noc = s.noc
  dram : t.dram = s.dram
  pm : t.pm = s.pm
  pending : t.pending = s.pending

/-- A command leaves `u`: its next state differs from `u` by no more than notes. -/
def Does (i : Instr) (s u : State) : Prop := ∃ t, Runs i s t ∧ Noted u t

/-- The policy of alarm `c` is not SAFE: raising it only notes (R440). -/
def NotSafe (c : Nat) (s : State) : Prop := getF (policyFld c) s ≠ 2

/-- The request at the front of the sequencer is mailbox `m`'s, carries the sheet's opcode, and passes every check of R142 up to step 9. -/
structure Asks (sh : Sheet) (m : Nat) (r : Req) (s : State) : Prop where
  head : headReq s = some r
  mb : r.mb = m
  opcode : r.opcode = sh.op
  gate : gateOf r (seqPop s) = .pass
  rom : s.mail.romOnly = false
  free : sheetRefusal sh r (seqPop s) = none

/-- Mailbox `r.mb` holds the answer of R140 to request `r`: its response, MB_LAST, RSP_READY = 1 and BUSY = 0, and its newest result in
the history, marked as running where the command has only been accepted (R150). -/
structure Answered (r : Req) (status : Nat) (payload : List (BitVec 8)) (running : Bool) (t : State) : Prop where
  rsp : (boxOf r.mb t).rsp = rspBytes r status status payload t
  busy : getF (MB_STATUS_BUSY r.mb) t = 0
  ready : getF (MB_STATUS_RSP_READY r.mb) t = 1
  lastSeq : getF (MB_LAST_SEQ r.mb) t = r.seq
  lastStatus : getF (MB_LAST_STATUS r.mb) t = status
  hist : (boxOf r.mb t).hist.head? = some ⟨r.seq, r.opcode, r.crc, status, payload, running⟩

/-- Two states differ by no more than an answer in mailbox `m` and what the Whistle makes of it: MB_STATUS and MB_LAST of the
mailbox, its buffers and history, REQ, and what has left the part. -/
structure Sealed (m : Nat) (s t : State) : Prop where
  regs : ∀ f : Fld, f.lo < 32 → f.addr ≠ (MB_STATUS_BUSY m).addr → f.addr ≠ (MB_LAST_SEQ m).addr → getF f t = getF f s
  boxes : ∀ k, k ≠ m → boxOf k t = boxOf k s
  req : (boxOf m t).req = (boxOf m s).req
  rest : ∃ regs boxes req seen out, t = { s with
    regs := regs, mail := { s.mail with boxes := boxes }, wh := { s.wh with req := req, seen := seen }, out := out }

/-- An accepted command has joined those that run (R147, R150). -/
def withRunning (r : Req) (args : List Nat) (data : List (BitVec 8)) (s : State) : State :=
  { s with mail := { s.mail with running := s.mail.running ++ [⟨r.mb, r.seq, r.opcode, args, data⟩] } }

/-- Two states differ by no more than an answer in mailbox `m`, and notes before and after it. -/
def Told (m : Nat) (s t : State) : Prop := ∃ u v, Noted s u ∧ Sealed m u v ∧ Noted v t

/-- Request `r` of mailbox `m` is answered with an end, and leaves `u`. -/
def Replies (i : Instr) (m : Nat) (r : Req) (status : Nat) (payload : List (BitVec 8)) (s u : State) : Prop :=
  ∃ t, Runs i s t ∧ Answered r status payload false t ∧ Told m u t

/-- Request `r` of mailbox `m` is answered OK, and leaves `u`. -/
def Oks (i : Instr) (m : Nat) (r : Req) (payload : List (BitVec 8)) (s u : State) : Prop := Replies i m r stOk payload s u

/-- Request `r` of mailbox `m` is accepted, joins the commands that run, and leaves `u`. -/
def Accepts (i : Instr) (m : Nat) (r : Req) (args : List Nat) (data : List (BitVec 8)) (s u : State) : Prop :=
  ∃ t, Runs i s t ∧ Answered r stAccepted [] true t ∧ Told m (withRunning r args data u) t

/-- The device has been reset for a cause (R80 to R83): every register but RESET_SEEN of MB8 reads its reset value, the device is in
COLD with the cause latched unless VBATT is low, and the eFuses, and the flash where no operation was cut, stay. -/
structure ResetBy (cause : Nat) (s t : State) : Prop where
  regs : ∀ f : Fld, f.lo < 32 → f.addr ≠ (MB_STATUS_RESET_SEEN 8).addr → f.addr ≠ HUDDLE_STATUS_LINE.addr → getF f t = f.rst
  state : t.dev.state = .cold
  causes : t.boot.causes = if s.boot.vbattLow then 0 else cause
  fuses : t.boot.fuses = s.boot.fuses
  key : t.boot.vbattKey = s.boot.vbattKey
  flash : s.flash.ops = [] → t.flash.mem = s.flash.mem
  clock : t.clk = ⟨0, 0, 0⟩
  pending : t.pending = s.pending

/-- Every memory is in its canonical form: addresses rise strictly, and none holds what an unlisted address reads as. -/
def MemOk (s : State) : Prop :=
  tabWf 0xFF s.flash.mem = true ∧ tabWf 0 s.dram.mem = true ∧ tabWf 0 s.pm.localRam = true ∧
    tabWf 0 s.pm.sharedRam = true ∧ tabWf 0 s.pm.trace = true

end Sys2Proof.Machine
end

