-- ==== Sys2Proof/Certificates/Slice0/Obligations.lean ====
section
/-! DEFINITION. The statements for the provers. Each says what commands of a family do, over `Runs`, `Does`, `Oks`, `Accepts` and `Replies`
of Sys2Proof/Safety.lean; a result statement is the completion statement of its command. -/

open Sys2Proof Sys2Proof.Machine

/-- A step runs the command at the front of the queue on the state with the queue's rest; on an empty queue it idles: local time moves on
by 1 µs and nothing else changes but what the Whistle makes of the levels (the model's choice, log entry 3). -/
def Obligations.StepRunsFront : Prop :=
  (∀ s c rest, s.pending = c :: rest → step s = exec c { s with pending := rest }) ∧
  (∀ s c, step (s.withCommand c) = exec c s) ∧
  ∀ s, s.pending = [] → ∃ t, step s = .next t ∧ Noted { s with time := { s.time with us := s.time.us + 1 } } t

/-- Every command answers a next state in every state: none faults, none is refused. -/
def Obligations.EveryCommandRuns : Prop := ∀ i s, ∃ t, exec i s = .next t

/-- REQ of every target stays what R376 says of the sources, their priorities, the enables, the thresholds and the stacks: every step
keeps it. -/
def Obligations.ReqFollowsKept : Prop := ∀ s t, ReqFollows s → step s = .next t → ReqFollows t

/-- A command has its effect on everything but the queue of the commands that wait: no command adds to it or takes from it. -/
def Obligations.QueueLeftAlone : Prop := ∀ i s t, exec i s = .next t → t.pending = s.pending

/-- Every memory (the flash, DRAM, the cores' and the shared RAM, trace memory) stays in its canonical form: every step keeps it. -/
def Obligations.MemoryFormKept : Prop := ∀ s t, MemOk s → step s = .next t → MemOk t

/-- What reset leaves: every register at its reset value, some of which are named here with the value of their register table; the device
in COLD with the clock at 0; no request, no command that runs or waits; nothing in service; every memory in its canonical form. -/
def Obligations.ResetState : Prop :=
  (∀ f, getF f State.reset = f.rst) ∧ ReqFollows State.reset ∧ MemOk State.reset ∧ State.reset.pending = [] ∧
  State.reset.dev.state = .cold ∧ State.reset.clk = ⟨0, 0, 0⟩ ∧ State.reset.mail.queue = [] ∧ State.reset.mail.running = [] ∧
  (∀ t < 6, whStack t State.reset = []) ∧ (∀ g < 7, ownerOf g State.reset = 0xF) ∧ (∀ m < 14, getF (MB_STATUS_BUSY m) State.reset = 0) ∧
  (∀ i < 512, whPrio i State.reset = if i = 2 then 31 else 0) ∧ whEnabled 0 2 State.reset = true ∧
  (∀ c, 1 ≤ c → c ≤ 22 → getF (policyFld c) State.reset = alarmDefault c) ∧
  ∀ p ∈ [(GC_CTRL_RUN, 0), (LJ_STATUS_FAULT_OUT, 1), (LJ_STATUS_GUARANTEE, 0), (LJ_TLIM_WARN, if Config.partCode = 3 then 100 else 95),
    (LJ_ALARM_ACT_ALARM, 0), (LJ_ALARM_LATCH_ALARM, 0), (FL_STATUS_ERR, 0), (LJ_TEMP_MAX 0, 0x800), (LJ_RAIL_MIN_MV 0, 0xFFFF)],
    getF p.1 State.reset = p.2

/-- The balls of the K52 package by what they carry (R99). -/
def Obligations.BallCounts : Prop :=
  ∀ p ∈ [((fun b => match b with | .ltx _ _ => true | .lrx _ _ => true | _ => false : Ball → Bool), 512),
    (fun b => match b with | .lref _ _ => true | _ => false, 32),
    (fun b => match b with | .pcieTx _ _ => true | .pcieRx _ _ => true | _ => false, 32),
    (fun b => match b with
      | .ddrDq _ _ _ => true | .ddrDqs _ _ _ _ => true | .ddrCa _ _ _ => true | .ddrCs _ _ _ => true | .ddrCk _ _ _ => true
      | .ddrReset _ => true | .ddrAlert _ => true | _ => false, 632),
    (fun b => b.userIo.isSome, 616),
    (fun b => match b with | .dedicated _ => true | .vbatt => true | _ => false, 40),
    (fun b => decide (b = .vccint), 144), (fun b => decide (b = .gnd), 474),
    (fun b => decide (b = .vddq 0), 11), (fun b => decide (b = .vddq 1), 11), (fun b => decide (b = .vddq 2), 11),
    (fun b => decide (b = .vddq 3), 11), (fun b => match b with | .vddq _ => true | _ => false, 44),
    (fun b => match b with | .vccio _ => true | _ => false, 76), (fun b => decide (b = .avcc), 46), (fun b => decide (b = .avtt), 46),
    (fun b => decide (b = .vccaux), 4), (fun b => decide (b = .vccfl), 2), (fun b => decide (b ≠ .none), 2700)] ++
    ((List.range 14).map fun k => (fun b => decide (b = .vccio k), if k < 10 then 6 else 4)) ++
    ((List.range 4).map fun c => (fun b => match b with
      | .ddrDq k _ _ => decide (k = c) | .ddrDqs k _ _ _ => decide (k = c) | .ddrCa k _ _ => decide (k = c) | .ddrCs k _ _ => decide (k = c)
      | .ddrCk k _ _ => decide (k = c) | .ddrReset k => decide (k = c) | .ddrAlert k => decide (k = c) | _ => false, 158)),
    ballCount p.1 1 52 = p.2

/-- Which source is eligible for a target, and which of them is the best (R375). -/
def Obligations.BestSource : Prop :=
  (∀ s t i, whEligible t i s = true ↔ whPending i s = true ∧ whEnabled t i s = true ∧ 0 < whPrio i s ∧ whInService i s = false ∧
    getF (WH_THRESH_THRESH t) s < whPrio i s ∧ ∀ e l, whStack t s = e :: l → e.2 < whPrio i s) ∧
  ∀ s t, whHeld t s = false →
    (∀ i, whBest t s = some i ↔ whEligible t i s = true ∧
      ∀ j, whEligible t j s = true → whPrio j s < whPrio i s ∨ (whPrio j s = whPrio i s ∧ i ≤ j)) ∧
    (whBest t s = none ↔ ∀ i, whEligible t i s = false)

/-- A COMPLETE by a node that may write it (R379): the top entry's ID pops it and takes the source out of service, and a source that is still
pending is eligible again once nothing on the stack outranks it; 0 and 511 are ignored; any other ID raises STACK_FAULT. -/
def Obligations.CompleteRule : Prop :=
  ∀ s (n : BitVec 7) (t : Fin 6) (i : BitVec 9), whNodeMay t n.toNat = true →
    (i.toNat = 0 ∨ i.toNat = 511 → ∃ u, Runs (.whComplete n t i) s u ∧ Noted s u ∧ .accessOk ∈ u.out) ∧
    (i.toNat ≠ 0 → i.toNat ≠ 511 →
      (∀ p l, whStack t s = (i.toNat, p) :: l → (∀ k, k ≠ t.val → ∀ e ∈ whStack k s, e.1 ≠ i.toNat) → (∀ e ∈ l, e.1 ≠ i.toNat) →
        tabSorted s.wh.stackTab = true → ∃ u, Runs (.whComplete n t i) s u ∧ Noted (whSetStack t l s) u ∧ .accessOk ∈ u.out ∧
          whInService i.toNat u = false ∧ (whPending i.toNat u = true → whEnabled t i.toNat s = true →
            getF (WH_THRESH_THRESH t) s < whPrio i.toNat s → (∀ e ∈ l.head?, e.2 < whPrio i.toNat s) → whEligible t i.toNat u = true)) ∧
      ((∀ p l, whStack t s ≠ (i.toNat, p) :: l) → NotSafe 0x0E s → ∃ u, Runs (.whComplete n t i) s u ∧
        Noted (setF (WH_TSTATUS_STACK_FAULT t) 1 s) u ∧ .accessOk ∈ u.out ∧ (∀ k, whStack k u = whStack k s) ∧
        (∀ k, whInService k u = whInService k s) ∧ getF (WH_TSTATUS_STACK_FAULT t) u = 1 ∧ heldHigh 2 u = true))

/-- A write of LJ_TLIM is taken only where it keeps WARN < LIMIT < CRIT and raises none of them above its reset value: 95, 100 and 110 for
grade E, 100, 105 and 115 for grade X (R446). Others are refused under R8. -/
def Obligations.LimitsRule : Prop :=
  ∀ s (v : BitVec 32),
    ((v.toNat % 256 < v.toNat / 2 ^ 8 % 256 ∧ v.toNat / 2 ^ 8 % 256 < v.toNat / 2 ^ 16 % 256 ∧
      v.toNat % 256 ≤ (if Config.partCode = 3 then 100 else 95) ∧ v.toNat / 2 ^ 8 % 256 ≤ (if Config.partCode = 3 then 105 else 100) ∧
      v.toNat / 2 ^ 16 % 256 ≤ (if Config.partCode = 3 then 115 else 110)) → Does (.ljTlimWrite v) s
        (setF LJ_TLIM_CRIT (v.toNat / 2 ^ 16 % 256) (setF LJ_TLIM_LIMIT (v.toNat / 2 ^ 8 % 256) (setF LJ_TLIM_WARN (v.toNat % 256) s)))) ∧
    (¬(v.toNat % 256 < v.toNat / 2 ^ 8 % 256 ∧ v.toNat / 2 ^ 8 % 256 < v.toNat / 2 ^ 16 % 256 ∧
      v.toNat % 256 ≤ (if Config.partCode = 3 then 100 else 95) ∧ v.toNat / 2 ^ 8 % 256 ≤ (if Config.partCode = 3 then 105 else 100) ∧
      v.toNat / 2 ^ 16 % 256 ≤ (if Config.partCode = 3 then 115 else 110)) →
      ∃ t, Runs (.ljTlimWrite v) s t ∧ Noted s t ∧ getF LJ_STATUS_CFG_REJECT t = 1 ∧ whLatched 11 t = true)

/-- What a cell and an arithmetic slice compute (R175, R176, R178, R192, R195, R196). -/
def Obligations.CellsAndSlices : Prop :=
  (∀ (t : BitVec 64) i, cellOut (.whole t) i = (t.getLsbD i.toNat, none)) ∧
  (∀ (a b : BitVec 32) (i : BitVec 6), cellOut (.split a b) i = cellOut (.split a b) (i ^^^ 0x20) ∧
    cellOut (.split a b) i = (a.getLsbD (i.toNat % 32), some (b.getLsbD (i.toNat % 32)))) ∧
  (∀ ce v ini d q, flipFlop false true ce v ini d q = v) ∧
  (∀ c x o, slice c false true true x o = ⟨0, false, false, false⟩ ∧ slice c false false false x o = o) ∧
  (∀ c x o, x.op = 0 → (slice c false false true x o).acc.toInt = x.m.toInt * x.n.toInt ∧
    (slice c false false true x o).excHi = false) ∧
  (∀ c x o, x.op = 1 → x.neg = false → ((slice c false false true x o).excHi = false ↔
      -(2 ^ 57) ≤ o.acc.toInt + x.m.toInt * x.n.toInt ∧ o.acc.toInt + x.m.toInt * x.n.toInt < 2 ^ 57) ∧
    ((slice c false false true x o).excHi = false → (slice c false false true x o).acc.toInt = o.acc.toInt + x.m.toInt * x.n.toInt)) ∧
  (∀ c x o, x.op = 7 → x.neg = false → c.uSigned = true → c.vSigned = true → c.clamp = true →
    ((slice c false false true x o).acc.extractLsb' 0 29).toInt =
      max (-268435456) (min 268435455 ((o.acc.extractLsb' 0 29).toInt + sliceDot c x 0))) ∧
  (∀ c x o, (slice c false false true x o).hit = true ↔
    ∀ j < 58, c.cmpMask.getLsbD j = true ∨ (slice c false false true x o).acc.getLsbD j = (c.cmpVal.getD x.k).getLsbD j)

/-- Rows of the Game Clock's ports (R24, R34, R36, R39, R41, R42). Clock lines (R66, R67, R68): a permitted source is taken with DONE = 0, a refused one leaves the line alone and sets CFG_REJECT, and
DONE rises once the line follows. -/
def Obligations.ClockPorts : Prop :=
  ((∀ s, ∃ t, Runs .pbCmdWrite s t ∧
    (pbCheck (pbParse (pbData s)) s = 0 →
      Noted (setF PB_CMD_ERR 0 (pbPut (getF PB_INDEX_IDX s) (pbParse (pbData s)) (pbResolveAll s))) t) ∧
    (pbCheck (pbParse (pbData s)) s ≠ 0 → Noted (setF PB_CMD_ERR (pbCheck (pbParse (pbData s)) s) s) t)) ∧
  (∀ s, ∃ t, Runs .pbCmdRead s t ∧ getF PB_CMD_ERR t = 0 ∧ t.gc = s.gc ∧
    ∀ n < 4, getF (PB_DATA_DATA n) t = fieldAt (pbBytes (pbOf (getF PB_INDEX_IDX s) s)) (4 * n) 4) ∧
  (∀ s c, c = Cal.mk (getF CAL_SET1_YEAR s) (getF CAL_SET1_MONTH s) (getF CAL_SET0_DAY s) (getF CAL_SET0_HOUR s)
      (getF CAL_SET0_MIN s) (getF CAL_SET0_SEC s) →
    ∃ t, Runs .calLoad s t ∧
      (calOk c = true → calNow t = c ∧ getF CAL_NOW1_CAL_VALID t = 1 ∧ getF CAL_NOW1_CAL_END t = 0 ∧
        t.gc = { s.gc with calDue := s.time.us + 1000000 }) ∧
      (calOk c = false → Noted (setF CAL_NOW1_BAD_DATE 1 s) t)) ∧
  (∀ s turnHi, ∃ t, Runs (.turnLoadArm turnHi) s t ∧
    Noted (setF GC_TURN_LOAD1_ARM 1 (setF GC_TURN_LOAD1_TURN_HI turnHi.toNat s)) t) ∧
  (∀ s, s.boot.power = 2 → s.pll.xtalBad = false → getF CAL_NOW1_CAL_END s = 0 → calOk (calNow s) = true →
    calNow s ≠ ⟨2399, 12, 31, 23, 59, 59⟩ → ∃ t, Runs .calendarTick s t ∧ calNow t = calStep (calNow s)) ∧
  (∀ s, (s.gc.acts.any (fun a => decide (a.1 = 4) && decide (a.2.2 = 0))) = true →
    ∃ t, Runs .throttleEnd s t ∧
      Noted { s with gc := { s.gc with acts := s.gc.acts.filter (fun a => decide (a.1 ≠ 4) || decide (a.2.2 ≠ 0)) } } t) ∧
  (∀ s (idx : Fin 4096) e, s.gc.entries = [(idx.val, e)] → getF GC_CTRL_RUN s = 1 → e.en = true → e.turn = s.clk.turn →
    e.slot = s.clk.slot → e.action = 0 →
    ∃ t, Runs (.playbookEntryDue idx) s t ∧
      (pbSuppressed e s = true → Noted (incC (ctGC 5) (pbPut idx.val (pbAfter 2 e) s)) t) ∧
      (pbSuppressed e s = false → s.gc.fired < 16 →
        Noted (pbPut idx.val (pbAfter 1 e) { s with gc := { s.gc with fired := s.gc.fired + 1 } }) t))) ∧
  ((∀ s (g : Fin 32) c, getF (GCLK_SEL_DONE g) s = 1 →
    (gclkTakes g c.toNat s = true → getF (GCLK_SEL_SRC g) s ≠ c.toNat →
      Does (.gclkSelWrite g c) s (setF (GCLK_SEL_DONE g) 0 (setF (GCLK_SEL_SRC g) c.toNat s))) ∧
    (gclkTakes g c.toNat s = true → getF (GCLK_SEL_SRC g) s = c.toNat → Does (.gclkSelWrite g c) s s) ∧
    (gclkTakes g c.toNat s = false → Does (.gclkSelWrite g c) s (setF CLK_STATUS_CFG_REJECT 1 s))) ∧
  (∀ s (r : Fin 80) (l : Fin 24) c,
    (getF (RCLK_SEL_DONE r l) s = 1 → rclkOk c.toNat = true → getF (RCLK_SEL_SRC r l) s ≠ c.toNat →
      Does (.rclkSelWrite r l c) s (setF (RCLK_SEL_DONE r l) 0 (setF (RCLK_SEL_SRC r l) c.toNat s))) ∧
    (rclkOk c.toNat = false → Does (.rclkSelWrite r l c) s (setF CLK_STATUS_CFG_REJECT 1 s))) ∧
  (∀ s (g : Fin 32), getF (GCLK_SEL_DONE g) s = 0 → tabFind s.pll.switching g = none →
    Does (.clockLineSwitchDone (.inl g)) s (setF (GCLK_SEL_DONE g) 1 s)) ∧
  (∀ s (r : Fin 80) (l : Fin 24) code, getF (RCLK_SEL_DONE r l) s = 0 → tabFind s.pll.switching (64 + 32 * r.val + l.val) = some code →
    Does (.clockLineSwitchDone (.inr (r, l))) s
      { s with pll := { s.pll with switching := tabDel s.pll.switching (64 + 32 * r.val + l.val) } }))

/-- The CLOCK commands of the Game Clock (R17, R20, R24, R28). The Playbook's commands and the calendar's (R34, R36, R39, R41, R42). -/
def Obligations.ClockCommands : Prop :=
  ((∀ s (mb : Fin 14) r, Asks sheetClockStatus mb r s → ∃ p, Oks (.clockStatus mb) mb r p s (seqPop s) ∧ p.length = 28 ∧
    fieldAt p 0 1 = refState s % 256 ∧ fieldAt p 1 1 = refActive s % 256 ∧ fieldAt p 2 1 = getF GC_STATUS_TQ s % 256 ∧
    fieldAt p 4 4 = getF GC_EPOCH_PHASE_EPOCH s % 2 ^ 32 ∧ fieldAt p 8 6 = s.clk.turn % 2 ^ 48 ∧ fieldAt p 14 2 = s.clk.slot % 65536 ∧
    fieldAt p 16 1 = s.clk.fine % 256 ∧ fieldAt p 20 2 = getF (GC_MON_OFFSET 0) s % 65536) ∧
  (∀ s (mb : Fin 14) r, Asks sheetClockConfigure mb r s → isSet GC_CTRL_RUN s = false ∧
    Oks (.clockConfigure mb) mb r [] s (clockWrite r.payload (seqPop s)) ∧
    getF GC_CFG_SLOTS_SLOTS_M1 (clockWrite r.payload s) = arg r 2 2 ∧ getF GC_CFG_REF_REF_KHZ (clockWrite r.payload s) = arg r 4 4 ∧
    getF GC_CFG_REF_SLOT_MUL_M1 (clockWrite r.payload s) = arg r 8 1 ∧ getF GC_CFG_REF_SLOT_DIV_M1 (clockWrite r.payload s) = arg r 9 1 ∧
    getF GC_CFG_LANE_TLANE_B (clockWrite r.payload s) = arg r 15 1) ∧
  (∀ s (mb : Fin 14) r, Asks sheetClockSelect mb r s → Oks (.clockSelect mb) mb r (leBytes 1 (refState s)) s
    (setF GC_CTRL_REVERTIVE (arg r 1 1) (setF GC_CTRL_SRC_MODE (arg r 0 1) (seqPop s)))) ∧
  (∀ s (mb : Fin 14) r, Asks sheetClockRun mb r s → NotSafe 0x13 s →
    (arg r 0 1 = 0 → s.dev.state ≠ .live ∧ s.dev.state ≠ .quiesce ∧ Oks (.clockRun mb) mb r [] s
      (standbyFollow (pllStop 1 (pllStop 0 (setF GC_CTRL_RUN 0 (stopTimer 7 (seqPop s))))))) ∧
    (arg r 0 1 = 1 → refState s = 0 → Oks (.clockRun mb) mb r [] s (pllStart 1 (pllStart 0 (setF GC_CTRL_RUN 1
      (stopTimer 7 { seqPop s with gc := { s.gc with realign := false, revert := false, count := 0, misses := 0, slips := 0 } })))))) ∧
  (∀ s (mb : Fin 14) r, Asks sheetTurnSet mb r s → isSet GC_CTRL_INPUT s = false ∧ Oks (.turnSet mb) mb r [] s
    (setF GC_TURN_LOAD1_ARM 1 (setF GC_TURN_LOAD1_TURN_HI (arg r 0 6 / 2 ^ 32) (setF GC_TURN_LOAD0_TURN_LO (arg r 0 6) (seqPop s)))))) ∧
  ((∀ s (mb : Fin 14) r, Asks sheetPlaybookWrite mb r s → isSet GC_CTRL_RUN s = false → Oks (.playbookWrite mb) mb r [] s
    (pbPut (arg r 0 2) (pbParse (r.payload.drop 4)) (seqPop s))) ∧
  (∀ s (mb : Fin 14) r, Asks sheetPlaybookRead mb r s →
    Oks (.playbookRead mb) mb r (pbBytes (pbOf (arg r 0 2) s)) s (seqPop s)) ∧
  (∀ s (mb : Fin 14) r, Asks sheetPlaybookDisarm mb r s → isSet GC_CTRL_RUN s = false → ∃ p t, Runs (.playbookDisarm mb) s t ∧
    Answered r stOk p false t ∧ p.length = 2 ∧ (∀ i, arg r 0 2 ≤ i → i < arg r 0 2 + arg r 2 2 → (pbOf i t).en = false) ∧
    ∀ i, i < arg r 0 2 ∨ arg r 0 2 + arg r 2 2 ≤ i → pbOf i t = pbOf i s) ∧
  (∀ s (mb : Fin 14) r c, Asks sheetCalSet mb r s → c = Cal.mk (arg r 0 2) (arg r 2 1) (arg r 3 1) (arg r 4 1) (arg r 5 1) (arg r 6 1) →
    (calOk c = true → Oks (.calSet mb) mb r [] s { setF CAL_NOW1_CAL_END 0 (setF CAL_NOW1_CAL_VALID 1 (calPut c (seqPop s))) with
      gc := { s.gc with calDue := s.time.us + 1000000 } }) ∧
    (calOk c = false → Replies (.calSet mb) mb r stBadDate [] s (setF CAL_NOW1_BAD_DATE 1 (seqPop s)))) ∧
  (∀ s (mb : Fin 14) r, Asks sheetCalGet mb r s → ∃ p, Oks (.calGet mb) mb r p s (seqPop s) ∧ p.length = 8 ∧
    fieldAt p 0 2 = (calNow s).year % 65536 ∧ fieldAt p 2 1 = (calNow s).month % 256 ∧ fieldAt p 3 1 = (calNow s).day % 256 ∧
    fieldAt p 6 1 = (calNow s).second % 256))

/-- The commands for PLLs and clock lines (R50 to R53, R57, R58, R61, R66). -/
def Obligations.PllCommands : Prop :=
  (∀ s (mb : Fin 14) r, Asks sheetPllStatus mb r s → arg r 0 1 ≤ 62 ∧ ∃ p, Oks (.pllStatusQuery mb) mb r p s (seqPop s) ∧ p.length = 12 ∧
    fieldAt p 0 1 = getF (PLL_STATUS_STATE (arg r 0 1)) s % 256 ∧ fieldAt p 2 1 = getF (PLL_PHASE_ERR_PS (arg r 0 1)) s % 256 ∧
    fieldAt p 4 2 = getF (PLL_PHASE_LOCK_COUNT (arg r 0 1)) s % 65536 ∧
    fieldAt p 8 4 = getF (PLL_FREQ_FREQ_10KHZ (arg r 0 1)) s % 2 ^ 32) ∧
  (∀ s (mb : Fin 14) r, Asks (sheetPllConfigure none) mb r s → s.dev.state ≠ .live ∧
    (arg r 1 1 = 0 → Oks (.pllConfigure mb none) mb r [0] s (pllSettings r (pllStop (arg r 0 1) (seqPop s)))) ∧
    (arg r 1 1 = 1 → Replies (.pllConfigure mb none) mb r stTimeout [] s
      (pllStart (arg r 0 1) (pllSettings r (pllStop (arg r 0 1) (seqPop s)))))) ∧
  (∀ s (mb : Fin 14) r e, Asks (sheetPllConfigure (some e)) mb r s → arg r 1 1 = 1 → pllFam (arg r 0 1) = .general →
    Oks (.pllConfigure mb (some e)) mb r [2] s (setF (PLL_STATUS_STATE (arg r 0 1)) 2 (pllLockedSet (arg r 0 1) true
      (pllStart (arg r 0 1) (pllSettings r (pllStop (arg r 0 1) (seqPop s))))))) ∧
  (∀ s (mb : Fin 14) r, Asks sheetPllPhaseSet mb r s → isSet (PLL_CTRL_EN (arg r 0 1)) s = false ∧ (arg r 0 1 = 2 ∨ arg r 0 1 = 3) ∧
    Oks (.pllPhaseSet mb) mb r [] s (setF (PLL_OUT_PHASE_FINE (arg r 0 1) (arg r 1 1)) (arg r 2 1) (seqPop s))) ∧
  (∀ s (mb : Fin 14) r, Asks sheetPllSpread mb r s → isSet (PLL_CTRL_EN (arg r 0 1)) s = false ∧ Oks (.pllSpread mb) mb r [] s
    (setF (PLL_SSC_RATE (arg r 0 1)) (arg r 4 2) (setF (PLL_SSC_DEPTH (arg r 0 1)) (arg r 2 1)
      (setF (PLL_SSC_MODE (arg r 0 1)) (arg r 1 1) (seqPop s))))) ∧
  (∀ s (mb : Fin 14) r, Asks sheetClockRoute mb r s →
    (arg r 0 1 = 0 → getF (GCLK_SEL_DONE (arg r 1 1)) s = 1 → getF (GCLK_SEL_SRC (arg r 1 1)) s ≠ arg r 3 1 →
      Oks (.clockRoute mb) mb r [] s (setF (GCLK_SEL_DONE (arg r 1 1)) 0 (setF (GCLK_SEL_SRC (arg r 1 1)) (arg r 3 1) (seqPop s)))) ∧
    (arg r 0 1 = 1 → getF (RCLK_SEL_DONE (arg r 2 1) (arg r 1 1)) s = 1 → getF (RCLK_SEL_SRC (arg r 2 1) (arg r 1 1)) s ≠ arg r 3 1 →
      Oks (.clockRoute mb) mb r [] s (setF (RCLK_SEL_DONE (arg r 2 1) (arg r 1 1)) 0
        (setF (RCLK_SEL_SRC (arg r 2 1) (arg r 1 1)) (arg r 3 1) (seqPop s)))))

/-- The Game Clock's count, its references and its beat network (R18 to R28). -/
def Obligations.GameClockRuns : Prop :=
  (∀ s, refState s = 0 → NotSafe 0x13 s → Does (.gcRunWrite true) s
    (pllStart 1 (pllStart 0 (setF GC_CTRL_RUN 1 (stopTimer 7 { s with gc := { s.gc with
      realign := false, revert := false, count := 0, misses := 0, slips := 0 } }))))) ∧
  (∀ s, isSet GC_CTRL_RUN s = true → (s.dev.state = .live ∨ s.dev.state = .quiesce) → NotSafe 0x13 s →
    Does (.gcRunWrite false) s (setF GC_STATUS_CFG_REJECT 1 s)) ∧
  (∀ s, isSet GC_CTRL_RUN s = true → settleSlot s = s → takeover s = s →
    ∃ t, Runs (.slotBoundary ⟨false, none, [], []⟩) s t ∧
      t.clk = if s.clk.slot < getF GC_CFG_SLOTS_SLOTS_M1 s then ⟨s.clk.turn, s.clk.slot + 1, 0⟩
        else ⟨(s.clk.turn + 1) % 2 ^ 48, 0, 0⟩) ∧
  (∀ s (r : Fin 2) (f : Fin 64), isSet GC_CTRL_RUN s = true → isSet GC_CTRL_INPUT s = false → refActive s = r.val →
    (refState s = 2 ∨ refState s = 3) → s.gc.realign = false →
    (isSet GC_STATUS_MARKER_LOST s = false → -1 ≤ markerOffset (atFine f s) → markerOffset (atFine f s) ≤ 1 →
      Does (.markerArrival r f) s { atFine f s with gc := { s.gc with slips := 0, misses := 0 } }) ∧
    (s.gc.slips = 0 → markerOffset (atFine f s) < -64 →
      Does (.markerArrival r f) s (incC (ctGC 1) (setF GC_STATUS_SLIP 1 { atFine f s with gc := { s.gc with
        slips := 1, slipAt := markerOffset (atFine f s) } }))) ∧
    (2 ≤ s.gc.slips → s.gc.slipAt = markerOffset (atFine f s) → 1 < markerOffset (atFine f s) →
      settleSlot s = s → takeover s = s → isSet GC_TURN_LOAD1_ARM s = false → ∃ t, Runs (.markerArrival r f) s t ∧
        t.clk = ⟨if 2 * s.clk.slot < slotsPerTurn s then s.clk.turn else (s.clk.turn + 1) % 2 ^ 48, 0, 0⟩)) ∧
  (∀ s, isSet GC_CTRL_RUN s = true → (refState s = 2 ∨ refState s = 3) → isSet GC_STATUS_MARKER_LOST s = false →
    (s.gc.misses < 15 → Does .markerMiss s (incC (ctGC 0) { s with gc := { s.gc with misses := s.gc.misses + 1 } })) ∧
    (15 ≤ s.gc.misses → Does .markerMiss s (setF GC_STATUS_MARKER_LOST 1
      (incC (ctGC 0) { s with gc := { s.gc with misses := s.gc.misses + 1 } })))) ∧
  (∀ s (L : Fin 128) fr (f : Fin 64), timingRef L s = some (refActive s) → isSet GC_CTRL_INPUT s = true → isSet GC_CTRL_RUN s = true →
    (refState s = 2 ∨ refState s = 3) → s.gc.realign = false →
    (fr.crcOk = true → bitOf fr.flags.toNat 1 = true → fr.slotsM1.toNat = getF GC_CFG_SLOTS_SLOTS_M1 s →
      isSet GC_STATUS_MARKER_LOST s = false → -1 ≤ markerOffset (atFine f s) → markerOffset (atFine f s) ≤ 1 →
      Does (.timeFrame L fr f) s { atFine f s with gc := { s.gc with slips := 0, misses := 0 } }) ∧
    (fr.crcOk = false → isSet GC_STATUS_MARKER_LOST s = true → Does (.timeFrame L fr f) s
      (incC (ctGC 0) { incC (ctGC 6) s with gc := { s.gc with misses := s.gc.misses + 1 } }))) ∧
  (∀ s a b ok, s.pll.xtalBad = false → isSet GC_CTRL_RUN s = false → NotSafe 0x13 s →
    Does (.refWindowEnd a b ok) s { readingStore 1 b (readingStore 0 a s) with
      gc := { (readingStore 1 b (readingStore 0 a s)).gc with
        warn := getF GC_CFG_MON_WARN_PPM s, limit := getF GC_CFG_MON_LIMIT_PPM s } }) ∧
  (∀ s, timerOn 7 s = true → refState s = 1 → ∃ t,
    Runs .acquireTimeout s t ∧ refState t = (if s.gc.locked then 5 else 0) ∧ tabFind t.time.deadlines 7 = none ∧
      getF GC_STATUS_TQ t = (if s.gc.locked then 3 else 0)) ∧
  (∀ s, timerOn 7 s = true → refState s = 1 → getF CLK_STATUS_GC_TPLL s < 2 → ∃ t, Runs .tpllLock s t ∧ t.gc.realign = true ∧
    getF (PLL_STATUS_STATE (getF CLK_STATUS_GC_TPLL s)) t = 2 ∧ getF (PLL_PHASE_PHASE_OK (getF CLK_STATUS_GC_TPLL s)) t = 1 ∧
    getF (PLL_PHASE_LOCK_COUNT (getF CLK_STATUS_GC_TPLL s)) t =
      (getF (PLL_PHASE_LOCK_COUNT (getF CLK_STATUS_GC_TPLL s)) s + 1) % 65536)

/-- What a window's end makes of the state of the active reference (R28): within WARN it is LOCKED, in the WARN band DRIFTING, beyond
LIMIT PENDING; the third window in a row beyond LIMIT enters HOLDOVER where the other reference is not HEALTHY. -/
def Obligations.ReferenceWindows : Prop :=
  ∀ s a b ok, s.pll.xtalBad = false → isSet GC_CTRL_RUN s = true → getF GC_CTRL_SRC_MODE s = 0 → refActive s = 0 →
    ∃ t, Runs (.refWindowEnd a b ok) s t ∧ (s.boot.stage ≠ 2 → NotSafe 0x13 s →
      (refState s = 2 ∨ refState s = 3 →
        refState t = if readingClass a s = 0 then 2 else if readingClass a s = 1 then 3 else 4) ∧
      (refState s = 4 → readingClass a s ≤ 1 → refState t = if readingClass a s = 1 then 3 else 2) ∧
      (refState s = 4 → 2 ≤ readingClass a s → s.gc.beyond = 1 → refState t = 4 ∧ t.gc.beyond = 2) ∧
      (refState s = 4 → 2 ≤ readingClass a s → s.gc.beyond = 2 → readingClass b s ≠ 0 →
        refState t = 5 ∧ getF GC_STATUS_TQ t = 3 ∧ getC (ctGC 3) t = getC (ctGC 3) (incC (ctGC 3) s)))

/-- Rows of the PLLs (R47, R51, R56, R59, R60, R64, R65). -/
def Obligations.PllRows : Prop :=
  (∀ s e, xtalGood e.toNat = false → s.pll.xtalBad = false → NotSafe 0x03 s → NotSafe 0x13 s →
    Does (.xtalWindowEnd e) s (pllRelock 5 (pllRelock 4 (setF CLK_STATUS_SYS_ON_RCO 1 (setF CLK_STATUS_XTAL_FAULT 1
      (setF CLK_STATUS_XTAL_OK 0 { s with pll := { s.pll with xtalBad := true, badMs := 1, good := 0 } })))))) ∧
  (∀ s (p : Fin 63) e, isSet (PLL_CTRL_EN p) s = true → getF (PLL_STATUS_STATE p) s = 1 →
    (pllFam p = .timing → phaseWithin e = true → Does (.pllLock p e) s
      (pllFails p 0 (addF (PLL_PHASE_LOCK_COUNT p) 1 (setF (PLL_PHASE_PHASE_OK p) 1 (setF (PLL_PHASE_ERR_PS p) e.toNat
        (setF (PLL_STATUS_STATE p) 2 (pllLockedSet p true s))))))) ∧
    (pllFam p = .timing → phaseWithin e = false → tabGet 0 s.pll.fails p = 0 → Does (.pllLock p e) s
      (pllRelock p (setF (PLL_PHASE_PHASE_OK p) 0 (pllFails p 1 (setF (PLL_PHASE_ERR_PS p) e.toNat
        (setF (PLL_STATUS_STATE p) 2 (pllLockedSet p true s))))))) ∧
    (pllFam p = .dram ∨ pllFam p = .pcie ∨ pllFam p = .system ∨ (pllFam p = .general ∧ isSet (PLL_STATUS_FREQ_BAD p) s = false) →
      Does (.pllLock p e) s (setF (PLL_STATUS_STATE p) 2 (pllLockedSet p true s)))) ∧
  (∀ s (p : Fin 63) both, isSet (PLL_CTRL_EN p) s = true → getF (PLL_STATUS_STATE p) s = 2 → NotSafe 0x13 s →
    pllFam p = .general ∨ pllFam p = .timing →
    Does (.pllLossOfLock p both) s (pllRelock p (lolFollow (setF (PLL_STATUS_LOL p) 1 s)))) ∧
  (∀ s (p : Fin 63) m n, 2 ≤ p.val → s.pll.xtalBad = false → isSet (PLL_CTRL_EN p) s = true → pllLocked p s = true → NotSafe 0x13 s →
    bandOk (getF (PLL_SSC_MODE p) s) (getF (PLL_SSC_DEPTH p) s) m.toNat ((pllNominal p s).getD (n.toNat, 1)) = true →
    Does (.clockMonitorWindow p m n) s (whenS (decide (getF (PLL_STATUS_STATE p) s = 1)) (setF (PLL_STATUS_STATE p) 2)
      (setF (PLL_STATUS_FREQ_BAD p) 0 (setF (PLL_FREQ_FREQ_10KHZ p) (m.toNat / 10) s)))) ∧
  (∀ s m, s.pll.faulty = some m → getF (PLL_STATUS_STATE m) s = 2 → getF CLK_STATUS_GC_TPLL s ≠ m →
    Does .standbyReturn s (setF CLK_STATUS_STANDBY_OK 1 { s with pll := { s.pll with faulty := none } })) ∧
  (∀ s second e p, p = (if second then 3 else 2) → getF (PLL_STATUS_STATE p) s = 2 → isSet (PLL_PHASE_PHASE_OK p) s = false →
    Does (.rePhaseComplete second e) s
      (addF (PLL_PHASE_LOCK_COUNT p) 1 (setB (PLL_PHASE_PHASE_OK p) (phaseWithin e) (setF (PLL_PHASE_ERR_PS p) e.toNat s)))) ∧
  (∀ s (p : Fin 63), isSet (PLL_CTRL_EN p) s = true → pllFam p = .general ∨ pllFam p = .timing ∨ pllFam p = .system →
    NotSafe 0x13 s → Does (.pllRelock p) s (pllRelock p s))

/-- Power and resets (R77 to R83, R121): the rails, each cause of a reset as it is latched, a removal warning, and the loss of VBATT. Without firmware in either slot the boot ROM enters HOLD and serves MB13 alone (R114, R115, R149). The Referee's fault and its restart (R433 to R435): requests are abandoned and no mailbox is served until it is complete. -/
def Obligations.PowerAndResets : Prop :=
  ((∀ s, s.boot.power = 0 → Does .allRailsGood s
    (startTimer 12 2000 (setF HUDDLE_STATUS_LINE 0 { s with boot := { s.boot with power := 1 } }))) ∧
  (∀ s, s.boot.power = 2 → ∃ t, Runs .porNReset s t ∧ ResetBy 1 s t ∧ t.boot.power = 0) ∧
  (∀ s, s.boot.power = 2 → s.boot.removal = false → s.lj.restarting = true → enabledPorts s = [] → s.flash.ops = [] →
    Does .pgoodInFall s { startTimer 13 5000 (setF HUDDLE_STATUS_RELEASED 1 (pinsOff { s with boot := { s.boot with removal := true } }))
      with flash := { s.flash with waiting := [] } }) ∧
  (∀ s, timerOn 13 s = true → s.boot.power = 2 → ∃ t, Runs .removalReset s t ∧ ResetBy 2 s t ∧ t.boot.power = 0) ∧
  (∀ s rails k, lowestRail rails.toNat = some k → s.boot.power = 2 → ∃ t, Runs (.brownOut rails) s t ∧ t.boot.power = 0 ∧
    ResetBy (if s.boot.removal then 2 else 3 + 256 * k) s t) ∧
  (∀ s, timerOn 10 s = true → ∃ t, Runs .deviceResetExpiry s t ∧ t.boot.power = 1 ∧ timerOn 12 t = true ∧
    t.dev.state = .cold ∧ t.boot.causes = (if s.boot.vbattLow then 0 else 4) ∧ t.boot.fuses = s.boot.fuses ∧
    getF HUDDLE_STATUS_LINE t = 0 ∧ ∀ f : Fld, f.lo < 32 → f.addr ≠ (MB_STATUS_RESET_SEEN 8).addr → f.addr ≠ HUDDLE_STATUS_LINE.addr →
      getF f t = f.rst) ∧
  (∀ s, s.boot.power = 2 → Does .vbattLoss s { s with boot := { s.boot with vbattKey := none, vbattLow := true } }) ∧
  (∀ s, s.boot.power ≠ 2 → Does .vbattLoss s { s with
    boot := { s.boot with vbattKey := none, vbattLow := true, causes := 0 }, flash := { s.flash with latched := [] } })) ∧
  (∀ s sel x, s.boot.power = 1 → timerOn 12 s = true → s.flash.page = [] → s.flash.mem = [] → s.flash.ops = [] →
    ∃ t, Runs (.internalResetRelease sel x) s t ∧ t.boot.power = 2 ∧ t.boot.bootsel = sel.toNat ∧
      t.dev.state = .hold ∧ t.mail.served = true ∧ t.mail.romOnly = true ∧ getF BOOT_REASON_FW0 t = 1 ∧ getF BOOT_REASON_FW1 t = 1 ∧
      getF HUDDLE_STATUS_RELEASED t = 1) ∧
  ((∀ s (k : Fin 3), s.boot.power = 2 → NotSafe 0x13 s → ∃ t, Runs (.refereeFault k) s t ∧ t.mail.served = false ∧ t.mail.running = [] ∧
    t.lj.restarting = true ∧ getF LJ_REFEREE_KIND t = k.val + 1 ∧ timerOn 14 t = true ∧ t.dev.onAt = none) ∧
  (∀ s x, s.lj.restarting = true → s.lj.restartKind = 1 → s.dev.state = .live → s.boot.stage = 0 → s.boot.removal = false →
    s.mail.romOnly = false → getF LJ_REFEREE_RESTARTS s < 100 → NotSafe 0x01 s → NotSafe 0x13 s →
    ∃ t, Runs (.refereeRestartComplete [] x) s t ∧ t.mail.served = true ∧ t.lj.restarting = false ∧ t.dev.state = .live ∧
      getF LJ_REFEREE_RESTARTS t = getF LJ_REFEREE_RESTARTS s + 1 ∧ bitOf (getF LJ_ALARM_LATCH_ALARM t) 0 = true))

/-- The PCIe link and its IDs (R84, R127, R153): PERST_N and a lost link reset MB0 to MB7, with RESET_SEEN set, buffers and history
cleared and their groups free; the IDs fall back to the eFuses; a link that comes up only notes it. -/
def Obligations.PcieLink : Prop :=
  (∀ s, s.boot.power = 2 → s.boot.perst = false → ∃ t, Runs (.perstN true) s t ∧ t.boot.perst = true ∧ t.boot.linkUp = false ∧
    t.boot.ids = none ∧ timerOn 11 t = false ∧ ∀ m < 8, boxOf m t = boxInit ∧ getF (MB_STATUS_RESET_SEEN m) t = 1 ∧
      getF (MB_STATUS_BUSY m) t = 0 ∧ getF (MB_STATUS_RSP_READY m) t = 0 ∧ ∀ g < 7, ownerOf g t ≠ m) ∧
  (∀ s low, s.boot.power ≠ 2 → low ≠ s.boot.perst → Does (.perstN low) s { s with boot := { s.boot with perst := low } }) ∧
  (∀ s fn, s.boot.power = 2 → s.boot.linkUp = true → ∃ t, Runs (.pcieLinkDown fn) s t ∧ t.boot.linkUp = fn ∧
    (∀ m < 8, boxOf m t = boxInit ∧ getF (MB_STATUS_RESET_SEEN m) t = 1 ∧ getF (MB_STATUS_BUSY m) t = 0) ∧
    (∀ m, 8 ≤ m → boxOf m t = boxOf m s) ∧ getF (MB_EXPERT_GRANTED 0) t ≠ 1) ∧
  (∀ s, s.boot.power = 2 → s.boot.perst = false → s.boot.linkUp = false →
    Does .pcieLinkUp s (pciePllOn { s with boot := { s.boot with linkUp := true } })) ∧
  (∀ s, timerOn 11 s = true → s.boot.ids = none → Does .pcieIdDefaultTimeout s { expire 11 s with boot := { s.boot with
    ids := some (tabGet 0 s.boot.fuses 5, tabGet 0 s.boot.fuses 6, tabGet 0 s.boot.fuses 7) } })

/-- The Huddle and what leads to LIVE (R128 to R133). -/
def Obligations.HuddleAndLive : Prop :=
  (∀ s, s.boot.stage = 2 → timerOn 5 s = true → ∃ t, Runs .lockWaitExpiry s t ∧ t.dev.state = .huddle ∧
    getF BOOT_STATUS_NO_LOCK t = 1 ∧ getF BOOT_STATUS_AUTOLIVE_OFF t = 1 ∧ getF HUDDLE_STATUS_RELEASED t = 1 ∧ timerOn 6 t = true ∧
    timerOn 5 t = false) ∧
  (∀ s, huddleDue s = true → ∃ t, Runs .huddleStagedEntry s t ∧ t.dev.state = .staged ∧ t.dev.prev = .huddle ∧ t.fab.hold = false ∧
    getF HUDDLE_TURN0_TURN_LO t = s.clk.turn % 2 ^ 32 ∧ getF HUDDLE_TURN1_TURN_HI t = s.clk.turn / 2 ^ 32 % 65536 ∧
    timerOn 6 t = false) ∧
  (∀ s, s.dev.state = .huddle → timerOn 6 s = true → s.boot.huddle = none → ∃ t, Runs .huddleTimeout s t ∧ t.dev.state = .hold ∧
    t.dev.cause = 6 ∧ getF HUDDLE_STATUS_TIMEOUT t = 1 ∧ getF HUDDLE_STATUS_RELEASED t = 1 ∧ t.fab.hold = s.fab.hold) ∧
  (∀ s, (s.dev.state = .staged ∨ s.dev.state = .live ∨ s.dev.state = .quiesce ∨ s.dev.state = .safe ∨ s.dev.state = .hold) →
    Does .huddleLineFall s (bumpF HUDDLE_STATUS_LOW_EVENTS (setF HUDDLE_STATUS_LINE 0 s))) ∧
  (∀ s, autoDue s = true → s.dev.state = .staged → s.dev.prev = .huddle → enabledPorts s = [] →
    (isSet BOOT_STATUS_AUTOLIVE_OFF s = true → Does .autoLive s { s with dev := { s.dev with autoSpent := true } }) ∧
    (isSet BOOT_STATUS_AUTOLIVE_OFF s = false → s.dev.onAt = none → s.dev.onNext = none → ∃ t, Runs .autoLive s t ∧
      t.dev.state = .live ∧ t.dev.cause = 2 ∧ t.dev.prev = .staged ∧ t.dev.atTurn = s.clk.turn ∧ t.boot = s.boot)) ∧
  (∀ s, onAtDue s = true → enabledPorts s = [] → ∃ t, Runs .outputsOnAtTurn s t ∧ t.dev.state = .live ∧ t.dev.cause = 1 ∧ t.dev.onAt = none)

/-- DEVICE_INFO, DEVICE_STATUS, NOTICE_MASK and ECHO: what they answer, and that they change nothing else (R162, R170, R171). -/
def Obligations.DeviceQueries : Prop :=
  (∀ s (mb : Fin 14) r, Asks sheetDeviceInfo mb r s → ∃ p, Oks (.deviceInfo mb) mb r p s (seqPop s) ∧ p.length = 44 ∧
    fieldAt p 0 1 = Config.partCode % 256 ∧ fieldAt p 1 1 = 0x42 ∧ fieldAt p 4 4 = 0x2A2601E3 ∧ fieldAt p 8 4 = s.boot.fw % 2 ^ 32 ∧
    fieldAt p 16 1 = guardLevel s % 256 ∧ fieldAt p 17 1 = getF BOOT_STATUS_FW_SLOT s % 256 ∧
    fieldAt p 20 8 = Config.dieId % 2 ^ 64 ∧ fieldAt p 28 2 = (pcieIds s).1 % 65536 ∧ fieldAt p 30 2 = 0x2600 ∧
    fieldAt p 36 4 = opsec s % 2 ^ 32 ∧ fieldAt p 40 4 = s.sb.pcycle % 2 ^ 32) ∧
  (∀ s (mb : Fin 14) r, Asks sheetDeviceStatus mb r s → ∃ p, Oks (.deviceStatus mb) mb r p s (seqPop s) ∧ p.length = 24 ∧
    fieldAt p 0 1 = devCode s.dev.state ∧ fieldAt p 1 1 = devCode s.dev.prev ∧ fieldAt p 2 1 = s.dev.cause % 256 ∧
    fieldAt p 4 6 = s.dev.atTurn % 2 ^ 48 ∧ fieldAt p 10 2 = s.dev.atSlot % 65536 ∧
    ∀ g < 7, fieldAt p (16 + g) 1 = ownerByte g s % 256) ∧
  (∀ s (mb : Fin 14) r, Asks sheetEcho mb r s → r.len ≤ 3808 ∧ Oks (.echo mb) mb r r.payload s (seqPop s)) ∧
  (∀ s (mb : Fin 14) r, Asks sheetNoticeMask mb r s → ∃ p, Oks (.noticeMask mb) mb r p s (maskPut mb (arg r 0 4) (seqPop s)) ∧
    fieldAt p 0 4 = (arg r 0 4 % 512 ||| 0x9B))

/-- Outputs (R14, R16, R172, R326): a MODE 1 OUTPUTS_ON waits for its turn, a MODE 0 one holds the sequencer, QUIESCE starts a drain
whose end or timeout turns outputs off, and OUTPUTS_OFF leads from LIVE to STAGED. -/
def Obligations.OutputCommands : Prop :=
  (∀ s (mb : Fin 14) r, Asks sheetOutputsOn mb r s → s.dev.onAt = none → s.dev.state = .staged ∧
    (arg r 0 1 = 1 → Accepts (.outputsOn mb) mb r [] [] s { seqPop s with dev := { s.dev with onAt := some (arg r 2 6) } }) ∧
    (arg r 0 1 = 0 → Does (.outputsOn mb) s { seqPop s with dev := { s.dev with onNext := some mb } })) ∧
  (∀ s (mb : Fin 14) r, Asks sheetOutputsOff mb r s → s.dev.onAt = none → s.dev.onNext = none →
    (s.dev.state ≠ .live → s.dev.state ≠ .quiesce → Oks (.outputsOff mb) mb r [] s (seqPop s)) ∧
    (s.dev.state = .live → enabledPorts s = [] → ∃ t, Runs (.outputsOff mb) s t ∧ Answered r stOk [] false t ∧
      t.dev.state = .staged ∧ t.dev.cause = 1 ∧ outputsOn t = false)) ∧
  (∀ s (mb : Fin 14) r, Asks sheetQuiesce mb r s → s.dev.state = .live → ∃ t, Runs (.quiesce mb) s t ∧
    Answered r stAccepted [] true t ∧ t.dev.state = .quiesce ∧
    tabFind t.time.deadlines 3 = some (s.time.us + (if arg r 0 2 = 0 then 100 else arg r 0 2) * 1000)) ∧
  (∀ s, s.dev.state = .quiesce → atSlotBoundary s = true → enabledPorts s = [] → ∃ t, Runs .drainComplete s t ∧
    t.dev.state = .staged ∧ t.dev.cause = 4 ∧ timerOn 3 t = false ∧ outputsOn t = false) ∧
  (∀ s, s.dev.state = .quiesce → timerOn 3 s = true → enabledPorts s = [] → ∃ t, Runs .quiesceDrainTimeout s t ∧
    t.dev.state = .staged ∧ t.dev.cause = 6 ∧ timerOn 3 t = false ∧ outputsOn t = false) ∧
  (∀ s (mb : Fin 14) r, Asks sheetDeviceReset mb r s → timerOn 10 s = false → Oks (.deviceReset mb) mb r [] s
    (startTimer 10 (arg r 0 2 * 1000) { seqPop s with dev := { s.dev with resetDue := true } }))

/-- Claims and the BAR2 grant (R154 to R157, R163, R165). -/
def Obligations.ClaimsAndGrant : Prop :=
  (∀ s (mb : Fin 14) r, Asks sheetClaim mb r s → (∀ g < 7, bitOf (arg r 0 1) g = true → groupTaken mb g s = false) →
    ∃ p t, Runs (.claim mb) s t ∧ Answered r stOk p false t ∧ ∀ g < 7,
      (bitOf (arg r 0 1) g = true → ownerOf g t = mb ∧ (timerOn (0x2000 + g) t = decide (arg r 2 2 ≠ 0)) ∧ bitOf (fieldAt p 0 1) g = true) ∧
      (bitOf (arg r 0 1) g = false → ownerOf g t = ownerOf g s)) ∧
  (∀ s (mb : Fin 14) r g, Asks sheetClaim mb r s → arg r 1 1 = 0 → g < 7 → bitOf (arg r 0 1) g = true → groupTaken mb g s = true →
    Replies (.claim mb) mb r stOwned (ownedPayload mb (groupsOf (arg r 0 1)) s) s (seqPop s)) ∧
  (∀ s (mb : Fin 14) r, Asks sheetRelease mb r s → ∃ p t, Runs (.release mb) s t ∧ Answered r stOk p false t ∧ ∀ g < 7,
    ownerOf g t = if bitOf (arg r 0 1) g = true ∧ ownerOf g s = mb then 0xF else ownerOf g s) ∧
  (∀ s (g : Fin 7) m, timerOn (0x2000 + g.val) s = true → ownerOf g s = m → m < 14 → s.dev.onNext ≠ some m →
    ∃ t, Runs (.claimLeaseExpiry g) s t ∧ ownerOf g t = 0xF ∧ timerOn (0x2000 + g.val) t = false ∧
      ∀ h < 7, ownerOf h s ≠ m → ownerOf h t = ownerOf h s) ∧
  (∀ s (mb : Fin 14) r, Asks sheetExpertGrant mb r s → (mb.val = 8 ∨ mb.val = 13) ∧ Oks (.expertGrant mb) mb r [] s
    { setF (MB_EXPERT_SCOPE 0) (arg r 1 1) (setF (MB_EXPERT_WRITE 0) (arg r 0 1 - 1) (setF (MB_EXPERT_GRANTED 0) 1 (seqPop s)))
      with mail := { (seqPop s).mail with grantor := mb } }) ∧
  (∀ s (mb : Fin 14) r, Asks sheetExpertRevoke mb r s →
    (grantHeld s = true → s.mail.grantor < 14 → Oks (.expertRevoke mb) mb r [] s
      (setF (MB_EXPERT_SCOPE 0) 0 (setF (MB_EXPERT_WRITE 0) 0 (setF (MB_EXPERT_GRANTED 0) 0 (seqPop s))))) ∧
    (grantHeld s = false → Oks (.expertRevoke mb) mb r [] s (seqPop s)))

/-- Register writes and CSR accesses (R3, R8, R9, R204, R246, R257, R387): a stored value or a refused one, the two errors, and the
order in which the accesses of one cycle are served. -/
def Obligations.RegisterAccesses : Prop :=
  (∀ s (g : Fin 80) (n : BitVec 7) (v : BitVec 32), NotSafe 0x13 s → 80 ≤ n.toNat → ∃ t,
    Runs (.registerWrite n (BitVec.ofNat 40 (RGN_CFG_FENCE_POLICY g).addr) v) s t ∧ .accessOk ∈ t.out ∧
    (v.toNat % 4 ≠ 3 → Noted (setF (RGN_CFG_FENCE_POLICY g) v.toNat s) t) ∧
    (v.toNat % 4 = 3 → Noted (setF CFG_STATUS_CFG_REJECT 1 s) t)) ∧
  (∀ s (n : BitVec 7) (a : BitVec 40) (v : BitVec 32), NotSafe 0x13 s → a.toNat < 2 ^ 38 →
    (a.toNat % 4 ≠ 0 → ∃ t, Runs (.registerWrite n a v) s t ∧ Noted s t ∧ .accessError nsTargetError ∈ t.out) ∧
    (a.toNat % 4 = 0 → csrBlock a.toNat = false → ∃ t, Runs (.registerWrite n a v) s t ∧ Noted s t ∧ .accessError nsNoTarget ∈ t.out) ∧
    (a.toNat % 4 = 0 → n.toNat < 80 → getF (FP_CTRL_CSR_EN n.toNat) s = 0 →
      ∃ t, Runs (.registerWrite n a v) s t ∧ Noted s t ∧ .accessError nsNoTarget ∈ t.out)) ∧
  (∀ s (n : Fin 4) (k : Fin 1048576) (v : BitVec 32), NotSafe 0x13 s → ∃ t,
    Runs (.registerWrite (BitVec.ofNat 7 (89 + n.val)) (BitVec.ofNat 40 (0xFFFE000000 + 4 * k.val)) v) s t ∧ .accessOk ∈ t.out ∧
    sharedRead (4 * k.val) 4 t = leBytes 4 v.toNat ∧
    ∀ x, x < 4 * k.val ∨ 4 * k.val + 4 ≤ x → sharedRead x 1 t = sharedRead x 1 s) ∧
  (∀ s (g : Fin 80) (q : CsrReq), NotSafe 0x13 s → 80 ≤ q.src.toNat → q.addr.toNat = (RGN_CFG_FENCE_POLICY g).addr → q.write = false →
    q.eight = false → ∃ t, Runs (.csrAccess [q]) s t ∧ Noted s t ∧
      .packet q.src.toNat 0 (leBytes 4 (regWord (RGN_CFG_FENCE_POLICY g).addr s)) ∈ t.out) ∧
  (∀ s (g : Fin 80) (q p : CsrReq), NotSafe 0x13 s → 80 ≤ q.src.toNat → q.src.toNat < p.src.toNat → q.addr = p.addr →
    q.addr.toNat = (RGN_CFG_FENCE_POLICY g).addr → q.write = true → p.write = true → q.eight = false → p.eight = false →
    q.data.toNat % 4 ≠ 3 → p.data.toNat % 4 ≠ 3 → ∀ l ∈ [[q, p], [p, q]], ∃ t, Runs (.csrAccess l) s t ∧
      getF (RGN_CFG_FENCE_POLICY g) t = p.data.toNat % 4 ∧ .packet q.src.toNat 0 [] ∈ t.out ∧ .packet p.src.toNat 0 [] ∈ t.out)

/-- Packets that reach an endpoint, tags that time out, and BAR2 accesses (R163, R164, R252 to R255). -/
def Obligations.PacketsAndTags : Prop :=
  (∀ s k (n : BitVec 7) (v : Fin 4) e, NotSafe 0x13 s → s.noc.net = [k] → pathWorks k s = true → (n.toNat ≠ k.dest ∨ v.val ≠ opVc k.op) →
    ∃ t, Runs (.nocPacketDeliver ⟨0, n, v, [], e⟩) s t ∧ t.noc.net = [] ∧ getF NOC_STATUS_MISROUTE t = 1 ∧
      getC (ctNoc 4) t = getC (ctNoc 4) (incC (ctNoc 4) s)) ∧
  (∀ s k e d, NotSafe 0x13 s → s.noc.net = [k] → pathWorks k s = true → k.dest = 87 → k.op = opRdRsp → k.status = 0 → k.bad = [] →
    k.data = leBytes 32 d → tabFind s.noc.tags (64 * 87 + k.tag) = some ⟨opRd, 4, 0, s.time.us⟩ →
    ∃ t, Runs (.nocPacketDeliver ⟨0, 87, 1, [], e⟩) s t ∧ t.noc.net = [] ∧ tabFind t.noc.tags (64 * 87 + k.tag) = none ∧
      .readData (d % 2 ^ 32) ∈ t.out) ∧
  (∀ s k e d, NotSafe 0x13 s → s.noc.net = [k] → pathWorks k s = true → k.dest = 84 → k.op = opWr → k.len = 0 → k.bad = [0] →
    k.data = leBytes 32 d → ∃ t, Runs (.nocPacketDeliver ⟨0, 84, 0, [], e⟩) s t ∧ t.dq = s.dq ∧ getF NOC_STATUS_PAYLOAD_UE t = 1 ∧
      ∃ x, t.noc.net = [x] ∧ x.dest = k.src ∧ x.src = 84 ∧ x.op = opWrRsp ∧ x.status = nsPoisoned ∧ x.tag = k.tag ∧ x.data = []) ∧
  (∀ s (g : Fin 80) (j : BitVec 6) f, NotSafe 0x13 s → tabFind s.fab.tags (64 * g.val + j.toNat) = some f →
    ∃ t, Runs (.rspTimeout (BitVec.ofNat 7 g) j) s t ∧ tabFind t.fab.tags (64 * g.val + j.toNat) = none ∧
      f.at_ + getF NOC_CTRL_RSP_TIMEOUT s ≤ t.time.us ∧ getC (ctNoc 5) t = getC (ctNoc 5) (incC (ctNoc 5) s) ∧
      .fabric g 0 j.toNat (statusWorse f.worst nsTargetError) [] ∈ t.out) ∧
  (∀ s (j : BitVec 6) f, NotSafe 0x13 s → tabFind s.noc.tags (64 * 87 + j.toNat) = some f →
    ∃ t, Runs (.rspTimeout 87 j) s t ∧ tabFind t.noc.tags (64 * 87 + j.toNat) = none ∧
      getC (ctNoc 5) t = getC (ctNoc 5) (incC (ctNoc 5) s) ∧ .accessError nsTargetError ∈ t.out) ∧
  (∀ s (x : BitVec 30) (n : BitVec 10) tag, s.boot.linkUp = true → n.toNat ≠ 0 →
    (getF (MB_EXPERT_WIN_BASE 0) s * 2 ^ 30 + x.toNat) % 4096 + n.toNat ≤ 4096 →
    ((getF (MB_EXPERT_WIN_BASE 0) s * 2 ^ 30 + x.toNat) % 32 + n.toNat + 31) / 32 ≤ 16 →
    expertBad (getF (MB_EXPERT_WIN_BASE 0) s * 2 ^ 30 + x.toNat) n.toNat false s = false → pcieTag s = some tag →
    ∃ t, Runs (.expertAccess false x n []) s t ∧ (tabFind t.noc.tags (64 * 87 + tag)).isSome = true ∧
      ∃ k ∈ t.noc.net, k.src = 87 ∧ k.tag = tag ∧ nodeOf (getF (MB_EXPERT_WIN_BASE 0) s * 2 ^ 30 + x.toNat) = some k.dest ∧ (k.op = opRd ∨ k.op = opCsrRd)) ∧
  (∀ s (w : Bool) (x : BitVec 30) (n : BitVec 10) d, s.boot.linkUp = true → n.toNat ≠ 0 →
    (getF (MB_EXPERT_WIN_BASE 0) s * 2 ^ 30 + x.toNat) % 4096 + n.toNat ≤ 4096 →
    ((getF (MB_EXPERT_WIN_BASE 0) s * 2 ^ 30 + x.toNat) % 32 + n.toNat + 31) / 32 ≤ 16 →
    (grantHeld s = false ∨ (w = true ∧ getF (MB_EXPERT_WRITE 0) s = 0)) → getF (EXPERT_VIOL_COUNT 0) s < 65536 →
    ∃ t, Runs (.expertAccess w x n d) s t ∧ t.noc = s.noc ∧ (w = false → .completerAbort ∈ t.out) ∧
      getF (EXPERT_VIOL_COUNT 0) t = min 0xFFFF (getF (EXPERT_VIOL_COUNT 0) s + 1) ∧
      (getF (EXPERT_VIOL_COUNT 0) s = 0xFFFF → getF (EXPERT_VIOL_OVF 0) t = 1))

/-- A request that no sheet serves is answered all the same (R141, R142, R150). Doorbells (R143 to R146): a ring sets BUSY and joins the sequencer, one at a busy mailbox only sets DB_REJECT; of those that come in
one cycle OUTPUTS_OFF goes before OUTPUTS_ON, which then is lost, and MB8 before the others. -/
def Obligations.RequestsAndDoorbells : Prop :=
  ((∀ s (mb : Fin 14) r, headReq s = some r → r.mb = mb.val → ∀ st o p, gateOf r s = .answer st o p → st < 65536 →
    ∃ t, Runs (.requestRefused mb) s t ∧ Told mb (seqPop s) t ∧ (boxOf mb t).rsp = rspBytes r st o p t ∧
      (boxOf mb t).hist = (boxOf mb s).hist ∧ getF (MB_STATUS_BUSY mb) t = 0 ∧ getF (MB_STATUS_RSP_READY mb) t = 1) ∧
  (∀ s r, 4192 < r.len → gateOf r s = .answer stBadArg stBadArg []) ∧
  (∀ s r, r.len ≤ 4192 → r.crcOk = false → gateOf r s = .answer stBadCrc stBadCrc []) ∧
  (∀ s r h, r.len ≤ 4192 → r.crcOk = true → histFind r s = some h →
    (h.opcode = r.opcode → h.crc = r.crc → h.running = false → gateOf r s = .answer stDuplicate h.status h.payload) ∧
    (h.opcode = r.opcode → h.crc = r.crc → h.running = true → gateOf r s = .answer stDuplicate stAccepted []) ∧
    (h.opcode ≠ r.opcode ∨ h.crc ≠ r.crc → gateOf r s = .answer stBadArg stBadArg [])) ∧
  (∀ s (mb : Fin 14) r, headReq s = some r → r.mb = mb.val → r.len ≤ 4192 → r.crcOk = true → histFind r s = none → r.seq < 65536 →
    (r.zeroOk = false → Replies (.requestRefused mb) mb r stBadArg [] s (seqPop s)) ∧
    (r.zeroOk = true → s.mail.romOnly = false → opcodes.contains r.opcode = false →
      Replies (.requestRefused mb) mb r stBadOpcode [] s (seqPop s)) ∧
    (r.zeroOk = true → s.mail.romOnly = true → romServes r = false → Replies (.requestRefused mb) mb r stWrongState [] s (seqPop s)))) ∧
  ((∀ s (m : Fin 14), getF (MB_STATUS_BUSY m) s = 0 → Does (.mbDoorbellRing [m]) s
    { setF (MB_STATUS_RSP_READY m) 0 (setF (MB_STATUS_BUSY m) 1 s) with mail := { s.mail with queue := s.mail.queue ++ [⟨m.val, false⟩] } }) ∧
  (∀ s (m : Fin 14), getF (MB_STATUS_BUSY m) s = 1 → Does (.mbDoorbellRing [m]) s (setF (MB_STATUS_DB_REJECT m) 1 s)) ∧
  (∀ s (m n : Fin 14), m ≠ n → getF (MB_STATUS_BUSY m) s = 0 → getF (MB_STATUS_BUSY n) s = 0 → ringOpcode m s = 0x0104 →
    ringOpcode n s = 0x0103 → ∃ t, Runs (.mbDoorbellRing [n, m]) s t ∧ t.mail.queue = s.mail.queue ++ [⟨m.val, false⟩, ⟨n.val, true⟩] ∧
      getF (MB_STATUS_BUSY m) t = 1 ∧ getF (MB_STATUS_BUSY n) t = 1) ∧
  (∀ s (n : Fin 14), n.val ≠ 8 → getF (MB_STATUS_BUSY 8) s = 0 → getF (MB_STATUS_BUSY n) s = 0 → safetyClass (ringOpcode 8 s) = false →
    safetyClass (ringOpcode n s) = false → ∃ t, Runs (.mbDoorbellRing [n, 8]) s t ∧
      t.mail.queue = s.mail.queue ++ [⟨8, false⟩, ⟨n.val, false⟩]))

/-- The notice rings' consumers, the MSI-X interval, and the management I2C bus (R113, R136, R138, R161, R162). -/
def Obligations.MailboxRows : Prop :=
  (∀ s (m : Fin 14) (v : BitVec 32),
    (ringSize (boxRing m) < (getF (NOTICE_PROD_PROD (ringBox (boxRing m))) s + 2 ^ 32 - v.toNat) % 2 ^ 32 →
      Does (.noticeConsWrite m v) s (setF (MB_STATUS_CONS_BAD m) 1 s)) ∧
    ((getF (NOTICE_PROD_PROD (ringBox (boxRing m))) s + 2 ^ 32 - v.toNat) % 2 ^ 32 ≤ ringSize (boxRing m) →
      Does (.noticeConsWrite m v) s (setF (NOTICE_CONS_CONS (ringBox (boxRing m))) v.toNat s))) ∧
  (∀ s, timerOn tmMsi8 s = true →
    (s.mail.msiOwed = true → ∃ t, Runs .noticeMsiIntervalEnd s t ∧ Noted (expire tmMsi8 s) t ∧ t.mail.msiOwed = false ∧ timerOn tmMsi8 t = true ∧
      (s.boot.linkUp = true → .msix 8 ∈ t.out)) ∧
    (s.mail.msiOwed = false → Does .noticeMsiIntervalEnd s (expire tmMsi8 s))) ∧
  (∀ s, timerOn tmMsi8 s = false → Does .noticeMsiIntervalEnd s s) ∧
  (∀ s (a : BitVec 7) (o : BitVec 16) (b : BitVec 8), NotSafe 0x13 s → a.toNat = getF MID_MGMT_TADDR s → o.toNat < 0x1080 →
    (getF (MB_STATUS_BUSY 8) s = 0 → Does (.mgmtI2cWrite a o [b]) s
      (boxSet 8 { boxOf 8 s with req := tabSet 0 (boxOf 8 s).req o.toNat b } s)) ∧
    (getF (MB_STATUS_BUSY 8) s = 1 → Does (.mgmtI2cWrite a o [b]) s (setF (MB_STATUS_WR_WHILE_BUSY 8) 1 s))) ∧
  (∀ s (a : BitVec 7) (o : BitVec 16) l, NotSafe 0x13 s → a.toNat ≠ getF MID_MGMT_TADDR s → Does (.mgmtI2cWrite a o l) s s) ∧
  (∀ s (a : BitVec 7) (o : BitVec 16) (n : Nat), a.toNat = getF MID_MGMT_TADDR s → o.toNat + n ≤ 0x1080 →
    ∃ t, Runs (.mgmtI2cRead a o n) s t ∧ Noted s t ∧ .i2cData (memBytes 0 (boxOf 8 s).req o.toNat n) ∈ t.out)

/-- The IMAGE commands (R117, R118, R121, R134). The end of an IMAGE_COMMIT's checks (R118, R126, R150): an image whose slot holds no header is refused with BAD_HEADER, and its
COMPLETION leaves the running commands. -/
def Obligations.ImageCommands : Prop :=
  ((∀ s (mb : Fin 14) r, Asks sheetImageStatus mb r s → ∃ p, Oks (.imageStatus mb) mb r p s (seqPop s) ∧ p.length = 24 ∧
    fieldAt p 8 4 = getF IMG_VERSION_VERSION s % 2 ^ 32 ∧ fieldAt p 12 4 = keyStatusWord s % 2 ^ 32 ∧
    fieldAt p 16 4 = getF HUDDLE_TURN0_TURN_LO s % 2 ^ 32 ∧ fieldAt p 20 2 = getF HUDDLE_TURN1_TURN_HI s % 65536) ∧
  (∀ s (mb : Fin 14) r, Asks sheetImageSlotInfo mb r s → s.flash.page = [] → s.flash.mem = [] → guardPending s = false →
    arg r 0 1 ≤ 4 ∧ ∃ p, Oks (.imageSlotInfo mb) mb r p s (seqPop s) ∧ p.length = 264 ∧ fieldAt p 0 1 = 1 ∧ fieldAt p 4 4 = 2 ^ 32 - 1) ∧
  (∀ s (mb : Fin 14) r, Asks sheetImageWriteBegin mb r s → s.boot.removal = false →
    Accepts (.imageWriteBegin mb) mb r [arg r 0 1, 0, arg r 4 4] [] s
      (beginStart (arg r 0 1) (arg r 4 4) (0x0203 + 65536 * arg r 0 1) (seqPop s))) ∧
  (∀ s (mb : Fin 14) r, Asks (sheetImageWriteData none) mb r s → s.boot.removal = false → arg r 8 4 = 256 →
    flPage s (slotBase (arg r 0 1) + arg r 4 4) = 0 →
    Oks (.imageWriteData mb none) mb r [] s (flProgram (slotBase (arg r 0 1) + arg r 4 4) ((r.payload.drop 12).take 256) (seqPop s))) ∧
  (∀ s (mb : Fin 14) r, Asks sheetImageCommit mb r s → arg r 4 4 ≠ 0 → Accepts (.imageCommit mb) mb r [arg r 0 1, arg r 4 4] [] s
    { seqPop s with boot := { s.boot with open_ := tabDel s.boot.open_ (arg r 0 1) } }) ∧
  (∀ s (mb : Fin 14) r x, Asks sheetImageBoot mb r s → s.dev.state = .hold ∧ arg r 0 1 ≤ 2 ∧ ∃ u, Answered r stAccepted [] true u ∧
    u.boot.candidates = [arg r 0 1] ∧ u.boot.stage = 4 ∧ u.boot.byCommand = true ∧ u.boot.fallback = false ∧ u.dev.state = .verify ∧
    getF HUDDLE_STATUS_RELEASED u = 0 ∧ Runs (.imageBoot mb x) s (whSettle (guaranteeFollow (bootGo x u)))) ∧
  (∀ s (mb : Fin 14) r, Asks sheetImageKeyLoad mb r s → (mb.val = 8 ∨ mb.val = 13) ∧ s.boot.efuseOnly = false ∧ r.payload.length = 32 ∧
    Oks (.imageKeyLoad mb) mb r ((Config.aesBlock r.payload (List.replicate 16 0)).take 3) s
      { seqPop s with boot := { s.boot with vbattKey := some r.payload } }) ∧
  (∀ s (mb : Fin 14) r, Asks sheetImageKeyClear mb r s → (mb.val = 8 ∨ mb.val = 13) ∧
    Oks (.imageKeyClear mb) mb r [] s { seqPop s with boot := { s.boot with vbattKey := none } }) ∧
  (∀ s (mb : Fin 14) r, Asks (sheetImageEfuseProgram true) mb r s → fuseSet (arg r 0 1) (arg r 1 1) s = false ∧
    Oks (.imageEfuseProgram mb true) mb r [] s (anchorFollow (fusePut (arg r 0 1) (arg r 1 1) (arg r 4 48) (seqPop s))))) ∧
  (∀ s (mb : Fin 14) (seq : BitVec 16) x stop a n q, s.mail.running = [a] → a.mb = mb.val → a.seq = seq.toNat → a.opcode = 0x0205 →
    a.args = [n, q] → n < 3 → jobBusy (0x0205 + 65536 * n) s = false → s.flash.page = [] → s.flash.mem = [] → guardPending s = false →
    NotSafe 0x13 s → ∃ t, Runs (.asyncCommandComplete mb seq false x stop) s t ∧ t.mail.running = [] ∧
      ∀ h ∈ (boxOf mb s).hist, h.seq = a.seq → h.opcode = 0x0205 → h.running = true →
        { h with status := stBadArg, payload := [], running := false } ∈ (boxOf mb t).hist)

/-- The FLASH commands (R352 to R369). -/
def Obligations.FlashCommands : Prop :=
  (∀ s (mb : Fin 14) r, Asks sheetFlashStatus mb r s → ∃ p, Oks (.flashStatus mb) mb r p s (seqPop s) ∧ p.length = 52 ∧
    fieldAt p 0 1 = guardLevel s % 256 ∧ fieldAt p 1 1 = natOfBool (guardPending s) ∧ fieldAt p 8 4 = getF FL_XIP_MARK s % 2 ^ 32 ∧
    ∀ i < 6, fieldAt p (16 + 6 * i) 6 = (getC (ctFL i) s).val % 2 ^ 48) ∧
  (∀ s (mb : Fin 14) r, Asks (sheetFlashRead flGood) mb r s → s.flash.page = [] → s.flash.ops = [] → guardPending s = false →
    Oks (.flashRead mb flGood) mb r (flBytes (arg r 0 4) (arg r 4 2) s) s (seqPop s)) ∧
  (∀ s (mb : Fin 14) r, Asks (sheetFlashProgram none) mb r s → flOwnBusy s = false → flXipBlocks (flBank (arg r 0 4)) s = false →
    s.boot.removal = false → arg r 4 4 = 256 → flPage s (arg r 0 4) = 0 → Oks (.flashProgram mb none) mb r [] s
      (flDone (flProgram (arg r 0 4) ((r.payload.drop 8).take 256) (flBufSet ((r.payload.drop 8).take 256) (setF FL_ADDR_ADDR (arg r 0 4) (seqPop s)))))) ∧
  (∀ s (mb : Fin 14) r, Asks sheetFlashErase mb r s → flOwnBusy s = false → flXipBlocks (flBank (arg r 0 4)) s = false →
    s.boot.removal = false → arg r 4 1 = 1 → flBusy (flBank (arg r 0 4)) s = false → Accepts (.flashErase mb) mb r [] [] s
      (flStart ⟨2, 2, arg r 0 4, [], [], 0, 0x0804⟩ (flErr 0 (setF FL_ADDR_ADDR (arg r 0 4) (seqPop s))))) ∧
  (∀ s (mb : Fin 14) r, Asks sheetFlashSectorInfo mb r s → flOwnBusy s = false → ∃ p, Oks (.flashSectorInfo mb) mb r p s (seqPop s) ∧
    p.length = 8 ∧ fieldAt p 0 4 = tabGet 0 s.flash.erases (arg r 0 4 / 65536) % 2 ^ 32 ∧
    fieldAt p 4 1 = natOfBool (flSectorBlank (arg r 0 4) s) ∧ fieldAt p 5 1 = flArea (arg r 0 4)) ∧
  (∀ s (mb : Fin 14) r, Asks sheetFlashGuardSet mb r s → (mb.val = 8 ∨ mb.val = 13) ∧
    (guardLevel s < arg r 0 1 → Accepts (.flashGuardSet mb) mb r [arg r 0 1] [] s (seqPop s)) ∧
    (arg r 0 1 = guardLevel s → Oks (.flashGuardSet mb) mb r [] s (seqPop s)) ∧
    (arg r 0 1 < guardLevel s → guardLevel s = 1 → arg r 0 1 = 0 ∧
      Accepts (.flashGuardSet mb) mb r [0] [] s (massResume (guardWrite 1 1 (seqPop s)))))

/-- FL_UNLOCK and FL_CMD (R356, R357, R358, R362): the two keys in order open one command for their initiator for 1 ms; a command begins
on a free bank, or is refused with ERR. -/
def Obligations.FlashRegisters : Prop :=
  (∀ s node (v : BitVec 32), isSet FL_STATUS_LOCKOUT s = false →
    (s.flash.unlock = 0 → v.toNat = 0x1F26 → Does (.flUnlock node v) s
      { s with flash := { s.flash with unlock := 1, unlockBy := node.toNat, wrongKeys := 0 } }) ∧
    (s.flash.unlock = 1 → v.toNat = 0xE5D9 → s.flash.unlockBy = node.toNat → Does (.flUnlock node v) s
      (startTimer 15 1000 { s with flash := { s.flash with unlock := 2, wrongKeys := 0 } })) ∧
    (s.flash.unlock = 0 → v.toNat ≠ 0x1F26 → s.flash.wrongKeys ≠ 15 → Does (.flUnlock node v) s (setF FL_STATUS_KEY_ERR 1
      (stopTimer 15 { s with flash := { s.flash with unlock := 0, wrongKeys := s.flash.wrongKeys + 1 } }))) ∧
    (s.flash.unlock = 0 → v.toNat ≠ 0x1F26 → s.flash.wrongKeys = 15 →
      ∃ t, Runs (.flUnlock node v) s t ∧ getF FL_STATUS_LOCKOUT t = 1)) ∧
  (∀ s node v, isSet FL_STATUS_LOCKOUT s = true → Does (.flUnlock node v) s s) ∧
  (∀ s, timerOn 15 s = true → Does .unlockTimeout s { expire 15 s with flash := { s.flash with unlock := 0 } }) ∧
  (∀ s (node : BitVec 7) u, s.flash.unlock = 2 → s.flash.unlockBy = node.toNat →
    u = flErr 0 (stopTimer 15 { s with flash := { s.flash with unlock := 0 } }) →
    (flRefusal node.toNat 1 u = 0 → flBusy (flBank (getF FL_ADDR_ADDR s)) s = false →
      Does (.program node) s (flStart ⟨1, 1, getF FL_ADDR_ADDR s, flBuf s, [], 0, 0⟩ u)) ∧
    (flRefusal node.toNat 2 u = 0 → flBusy (flBank (getF FL_ADDR_ADDR s)) s = false →
      Does (.erase node) s (flStart ⟨1, 2, getF FL_ADDR_ADDR s, [], [], 0, 0⟩ u)) ∧
    (flRefusal node.toNat 3 u = 0 → flBusy (flBank (getF FL_ADDR_ADDR s)) s = false →
      Does (.blankCheck node) s (setF FL_STATUS_DONE 1 (flErr 0 (setB FL_STATUS_BLANK (flSectorBlank (getF FL_ADDR_ADDR s) s) u)))) ∧
    (flRefusal node.toNat 4 u = 0 → flBusy (flBank (getF FL_ADDR_ADDR s)) s = false → s.flash.page = [] → guardPending s = false →
      ∃ t, Runs (.readPage node flGood) s t ∧ getF FL_STATUS_DONE t = 1 ∧ getF FL_STATUS_ERR t = 0 ∧
        ∀ i < 64, getF (FL_BUF_DATA i) t = fieldAt (flBytes (getF FL_ADDR_ADDR s) 256 s) (4 * i) 4) ∧
    (flRefusal node.toNat 5 u = 0 → flBusy (flBank (getF FL_ADDR_ADDR s)) s = false → Does (.wear node) s (setF FL_STATUS_DONE 1 (flErr 0
      (setF (FL_BUF_DATA 0) (tabGet 0 s.flash.erases (getF FL_ADDR_ADDR s / 65536)) u)))) ∧
    (∀ code : BitVec 8, (code.toNat = 0 ∨ 5 < code.toNat) → flOwnBusy s = false → ∃ t, Runs (.flCmdBadOp node code) s t ∧
      getF FL_STATUS_ERR t = 1 ∧ t.flash = { s.flash with unlock := 0 })) ∧
  (∀ s (node : BitVec 7), s.flash.unlock = 0 → ∃ t, Runs (.erase node) s t ∧ getF FL_STATUS_ERR t = 9 ∧ t.flash = s.flash)

/-- Operations end, and reads are answered (R354, R357, R358, R361, R362, R363). -/
def Obligations.FlashOperations : Prop :=
  (∀ s (b : Fin 2) a d, tabFind s.flash.ops b.val = some ⟨1, 1, a, d, [], 0, 0⟩ → s.flash.massStep = 0 → s.flash.waiting = [] →
    (b.val = 0 ∨ s.sb.waiting = [] ∧ s.sb.commitDue = false) → ∃ t, Runs (.flashOperationComplete b true) s t ∧ tabFind t.flash.ops b.val = none ∧ flPage t a = 1 ∧
      getF FL_STATUS_DONE t = 1 ∧ getF FL_STATUS_ERR t = 0 ∧ t.flash.mem = memWrite 0xFF s.flash.mem (a / 256 * 256) (padTo 256 d)) ∧
  (∀ s (b : Fin 2) a d, tabFind s.flash.ops b.val = some ⟨1, 1, a, d, [], 0, 0⟩ → s.flash.massStep = 0 → s.flash.waiting = [] →
    ∃ t, Runs (.flashOperationComplete b false) s t ∧ getF FL_STATUS_ERR t = 6 ∧ getF FL_STATUS_DONE t = 1) ∧
  (∀ s (b : Fin 2) a, tabFind s.flash.ops b.val = some ⟨1, 2, a, [], [], 0, 0⟩ → s.flash.massStep = 0 → s.flash.waiting = [] →
    s.sb.waiting = [] → s.sb.commitDue = false → ∃ t, Runs (.flashOperationComplete b true) s t ∧ tabFind t.flash.ops b.val = none ∧
      getF FL_STATUS_DONE t = 1 ∧ getF FL_STATUS_ERR t = 0 ∧ flSectorBlank a t = true ∧
      t.flash.mem = tabCut (a / 65536 * 65536) (a / 65536 * 65536 + 65536) s.flash.mem) ∧
  (∀ s a l, s.mail.running = [a] → a.opcode = 0x0806 → a.args = [l] → l = 1 ∨ l = 2 → (∀ g ∈ s.flash.guard, g.seq < 2 ^ 32 - 1) →
    ∃ t, Runs (.guardChangeComplete true) s t ∧ guardLevel t = (if s.flash.guard2 then 2 else l) ∧ t.mail.running = []) ∧
  (∀ s (node : BitVec 7) (a : BitVec 28) (n : Fin 16), flWindowAllows node.toNat (a.toNat / 32 * 32) (min (32 * (n.val + 1)) (0x10000000 - a.toNat / 32 * 32)) s = true →
    s.flash.ops = [] → s.flash.page = [] → guardPending s = false → ∃ t, Runs (.flashWindowRead node a n flGood) s t ∧ Noted s t ∧
      (.packet node.toNat nsOk (flBytes (a.toNat / 32 * 32) (min (32 * (n.val + 1)) (0x10000000 - a.toNat / 32 * 32)) s)) ∈ t.out) ∧
  (∀ s (node : BitVec 7) (a : BitVec 28) (n : Fin 16), flWindowAllows node.toNat (a.toNat / 32 * 32) (min (32 * (n.val + 1)) (0x10000000 - a.toNat / 32 * 32)) s = false →
    ∃ t, Runs (.flashWindowRead node a n flGood) s t ∧ Noted s t ∧ .packet node.toNat nsNoTarget [] ∈ t.out) ∧
  (∀ s (c : Fin 4) (a : BitVec 28), tabFind (coreOf c s).icache (a.toNat / 4 * 4) = none → flWindowAllows (89 + c.val) (a.toNat / 4 * 4) 4 s = true →
    s.flash.ops = [] → s.flash.page = [] → guardPending s = false → Does (.playmakerFetch c a false flGood) s
      (coreUpd c (fun x => { x with icache := tabPut x.icache (a.toNat / 4 * 4) (flBytes (a.toNat / 4 * 4) 4 s) })
        (setF FL_XIP_MARK (withBit (getF FL_XIP_MARK s) (2 * c.val + flBank (a.toNat / 4 * 4))) s)))

/-- The words the ICP takes, what it answers, and an abort (R225, R226, R232). -/
def Obligations.IcpCommands : Prop :=
  (∀ s, icpTakes s = true → Does .icpNop s (setF ICP_STATUS_OP 0 s)) ∧
  (∀ s, icpTakes s = false → Does .icpNop s s) ∧
  (∀ s (g : BitVec 7) (ws : List (BitVec 32)), icpTakes s = true → s.cfg.load = none → g.toNat < 80 → loadsPermitted s = true →
    Does (.icpLoad g false ws) s (setF CFG_STATUS_LOAD_BUSY 1 (setF CFG_STATUS_LOAD_REGION g.toNat (setF CFG_STATUS_LOAD_SRC 4
      (setF (RGN_STATUS_SHADOW_STATE g.toNat) 1 { setF ICP_STATUS_BUSY 1 (setF ICP_STATUS_OP 1 s) with cfg := { s.cfg with
        load := some ⟨g.toNat, false, 4, 0x3F, 0, 0, (ws.map (fun w => leBytes 4 w.toNat)).flatten⟩ } }))))) ∧
  (∀ s (g : BitVec 7) (a : Bool) (ws : List (BitVec 32)), icpTakes s = true → s.cfg.load = none → g.toNat < 80 → loadsPermitted s = false →
    ∃ t, Runs (.icpLoad g a ws) s t ∧ Noted (setF ICP_STATUS_BUSY 0 (setF ICP_STATUS_OP 1 s)) t ∧ .icp (icpWord 1 g.toNat 6 0) ∈ t.out) ∧
  (∀ s (g : BitVec 7), icpTakes s = true → s.cfg.load = none → g.toNat < 80 → ∃ t, Runs (.icpClear g) s t ∧
    .icp (icpWord 2 g.toNat 0 0) ∈ t.out ∧ shadowState g.toNat t = 0 ∧ planeOf (planeIn g.toNat 1 s) g.toNat t = planeNone ∧
    ∀ f < 2304, frameBytes (planeIn g.toNat 1 s) g.toNat f t = List.replicate 512 0) ∧
  (∀ s (g : BitVec 7) (i : Fin 4096) (lk : Bool) (turn : BitVec 48) (slot : BitVec 16), icpTakes s = true → g.toNat < 80 →
    isSet GC_CTRL_RUN s = false →
    (pbCheck (swapEntry g.toNat turn.toNat slot.toNat lk) s = 0 → ∃ t, Runs (.icpSwapAt g i lk turn slot) s t ∧
      Noted (setF ICP_STATUS_BUSY 0 (pbPut i.val (swapEntry g.toNat turn.toNat slot.toNat lk) (setF ICP_STATUS_OP 3 s))) t ∧
      .icp (icpWord 3 g.toNat 0 0) ∈ t.out) ∧
    (pbCheck (swapEntry g.toNat turn.toNat slot.toNat lk) s ≠ 0 → ∃ t, Runs (.icpSwapAt g i lk turn slot) s t ∧
      Noted (setF ICP_STATUS_BUSY 0 (setF ICP_STATUS_BAD_WORD 1 (setF ICP_STATUS_OP 3 s))) t ∧ .icp (icpWord 3 g.toNat 3 0) ∈ t.out)) ∧
  (∀ s (g : BitVec 7) (f : Fin 4096) (sh : Bool), icpTakes s = true → g.toNat < 80 → f.val < 2304 →
    (readbackOk g.toNat (natOfBool sh) s = true → (sh = true → shadowState g.toNat s ≠ 1) → s.cfg.flips = [] →
      ∃ d t, d = frameBytes (planeIn g.toNat (natOfBool sh) s) g.toNat f.val s ∧ Runs (.icpReadback g f sh) s t ∧
        Noted (setF ICP_STATUS_BUSY 0 (setF ICP_STATUS_OP 4 s)) t ∧ .icp (icpWord 4 g.toNat 0 0) ∈ t.out ∧
        ∀ i < 129, .icp (fieldAt (d ++ leBytes 4 (crc32 d)) (4 * i) 4) ∈ t.out) ∧
    (readbackOk g.toNat (natOfBool sh) s = false → ∃ t, Runs (.icpReadback g f sh) s t ∧ getF CFG_STATUS_RB_DENIED t = 1 ∧
      .icp (icpWord 4 g.toNat 4 0) ∈ t.out)) ∧
  (∀ s (g : BitVec 7), icpTakes s = true → g.toNat < 80 → ∃ t, Runs (.icpStatus g) s t ∧
    Noted (setF ICP_STATUS_BUSY 0 (setF ICP_STATUS_OP 5 s)) t ∧ .icp (icpWord 5 g.toNat 0 (rgnStatusWord g.toNat s)) ∈ t.out) ∧
  (∀ s (op : Fin 10) (g : BitVec 7), icpTakes s = true → ∃ t, Runs (.icpBadOp op g) s t ∧
    Noted (setF ICP_STATUS_BUSY 0 (setF ICP_STATUS_BAD_WORD 1 (setF ICP_STATUS_OP (op.val + 6) s))) t ∧
    .icp (icpWord (op.val + 6) g.toNat 2 0) ∈ t.out) ∧
  (∀ s l, s.cfg.load = some l → l.src = 4 → l.active = false → l.region < 80 → isSet ICP_CTRL_EN s = true → getF ICP_CTRL_REGION s < 80 →
    fpState (getF ICP_CTRL_REGION s) s ≠ 3 → fpState (getF ICP_CTRL_REGION s) s ≠ 4 → ∃ t, Runs .icpAbort s t ∧ t.cfg.load = none ∧
      getF ICP_STATUS_ABORTED t = 1 ∧ getF CFG_STATUS_LOAD_BUSY t = 0 ∧ shadowState l.region t = 0 ∧
      planeOf (planeIn l.region 1 s) l.region t = planeNone)

/-- What ends a load, and swaps: the drain, and the end of the window (R222, R227, R230, R231). -/
def Obligations.LoadsAndSwaps : Prop :=
  (∀ s l, s.cfg.load = some l → l.src = 4 → l.active = false → l.region < 80 → loadFed l = true →
    ∃ t, Runs (.regionLoadComplete false true) s t ∧ t.cfg.load = none ∧ getF CFG_STATUS_LOAD_BUSY t = 0 ∧
      match regionCheck l (l.data.take 1024) ((l.data.drop 1024).take (fieldAt l.data 48 4)) true s with
      | .inr (_, p) => shadowState l.region t = 2 ∧ planeOf (planeIn l.region 1 s) l.region t = p ∧
        getF (RGN_STATUS_REPAIR_FAILED l.region) t = 0 ∧ .icp (icpWord 1 l.region 0 0) ∈ t.out
      | .inl c => shadowState l.region t = 0 ∧ planeOf (planeIn l.region 1 s) l.region t = planeNone ∧
        getF (RGN_SWAPS_LAST_REASON l.region) t = c % 256 ∧ .icp (icpWord 1 l.region 5 c) ∈ t.out) ∧
  (∀ s l, s.cfg.load = some l → l.src = 4 → l.active = false → l.region < 80 → loadFed l = true →
    regionHdrOk l.region s.boot.build (l.data.take 1024) = false → ∀ a : Bool, ∃ t, Runs (.regionLoadComplete false a) s t ∧ t.cfg.load = none ∧
      getF CFG_STATUS_LOAD_BUSY t = 0 ∧ shadowState l.region t = 0 ∧ getF (RGN_SWAPS_LAST_REASON l.region) t = 3 ∧
      planeOf (planeIn l.region 1 s) l.region t = planeNone ∧ .icp (icpWord 1 l.region 5 3) ∈ t.out) ∧
  (∀ s (b a : Bool), s.cfg.load = none → Does (.regionLoadComplete b a) s s) ∧
  (∀ s (i : Fin 4096) n, isSet GC_CTRL_RUN s = true → slotsUntil (pbOf i.val s) s = some n → (pbOf i.val s).en = true →
    (pbOf i.val s).action = 5 → n ≤ getF CFG_CTRL_DRAIN_LEAD s →
    tabFind s.fab.drains (pbOf i.val s).arg ≠ some ((pbOf i.val s).turn * 65536 + (pbOf i.val s).slot) →
    (pbOf i.val s).arg < 80 → fpState (pbOf i.val s).arg s = 1 → shadowState (pbOf i.val s).arg s = 2 → ∃ t, Runs (.swapDrainStart i) s t ∧
      fpState (pbOf i.val s).arg t = 2 ∧ fpCause (pbOf i.val s).arg t = 2 ∧ ∀ h : Fin 80, h.val ≠ (pbOf i.val s).arg → fpState h t = fpState h s) ∧
  (∀ s (i : Fin 4096), isSet GC_CTRL_RUN s = false → Does (.swapDrainStart i) s s) ∧
  (∀ s (g : Fin 80), s.fab.window = [(g.val, 0)] → fpCause g s = 2 → tabFind s.fab.heldPops g.val = none → ∃ t, Runs .swapWindowEnd s t ∧
    t.fab.window = [] ∧ fpState g t = fpFree g s ∧ fpCause g t = 0 ∧ t.cfg.priority = s.cfg.priority ++ [(g.val, 0)] ∧
    getF (RGN_SWAPS_SWAPS g) t = (getF (RGN_SWAPS_SWAPS g) s + 1) % 65536)

/-- The scrubber's reads, its faults, repairs, and FENCE_AUTO (R234 to R240). -/
def Obligations.ScrubberRows : Prop :=
  (∀ s v, NotSafe 0x13 s → ∃ t, Runs (.scrubCtrlWrite v) s t ∧ regWord 0x3F00840000 t % 16 = v.toNat % 16 ∧
    (isSet SCRUB_STATUS_LAPSED t = !(bitOf v.toNat 0 && bitOf v.toNat 1 && bitOf v.toNat 3))) ∧
  (∀ s, NotSafe 0x13 s → isSet SCRUB_CTRL_ACTIVE_EN s = true → s.cfg.flips = [] → s.cfg.activePos + 1 < 184320 →
    tabFind s.fab.window (s.cfg.activePos / 2304) = none →
    Does (.scrubFrameRead 0 0 true) s { s with cfg := { s.cfg with activePos := s.cfg.activePos + 1 } }) ∧
  (∀ s (m : BitVec 4640), NotSafe 0x13 s → isSet SCRUB_CTRL_ACTIVE_EN s = true → s.cfg.flips = [] → s.cfg.activePos + 1 < 184320 →
    tabFind s.fab.window (s.cfg.activePos / 2304) = none → frameFind m.toNat (freeNat s) = .corrected →
    Does (.scrubFrameRead 0 m true) s (incC (ctScrub 0) (incC (ctRgn (s.cfg.activePos / 2304) 0)
      { s with cfg := { s.cfg with activePos := s.cfg.activePos + 1 } }))) ∧
  (∀ s (m : BitVec 4640) k g, NotSafe 0x13 s → getF (RGN_CFG_FENCE_POLICY g) s ≠ 2 → isSet SCRUB_CTRL_ACTIVE_EN s = true → s.cfg.flips = [] → s.cfg.repairs = [] →
    s.cfg.activePos + 1 < 184320 → g = s.cfg.activePos / 2304 → tabFind s.fab.window g = none →
    frameFind m.toNat (freeNat s) = .uncorrectable k → fpCause g s = 0 → ∃ t, Runs (.scrubFrameRead 0 m true) s t ∧
      fpState g t = 3 ∧ fpCause g t = 3 ∧ getF (RGN_STATUS_FENCED g) t = 1 ∧ getF (RGN_STATUS_REPAIR_PENDING g) t = 1 ∧
      ∃ x, t.cfg.repairs = [x] ∧ x.plane = planeIn g 0 s ∧ x.region = g ∧ x.frame = s.cfg.activePos % 2304) ∧
  (∀ s x, NotSafe 0x13 s → NotSafe 9 s → s.cfg.repairs = [x] → x.started = false → isSet SCRUB_CTRL_REPAIR_EN s = false →
    x.region < 80 → x.plane = planeIn x.region 0 s → ∀ b : Bool, ∃ t, Runs (.repairComplete b) s t ∧ t.cfg.repairs = [] ∧
      getF (RGN_STATUS_REPAIR_FAILED x.region) t = 1 ∧ getF (RGN_STATUS_REPAIR_PENDING x.region) t = 0 ∧
      bitOf (getF LJ_ALARM_LATCH_ALARM t) 8 = true ∧ x.us + 8000 ≤ t.time.us) ∧
  (∀ s (g : Fin 80), s.cfg.autoRelease = [128 + g.val] → fpCause g s = 3 → repairDone g s = true → ∃ t, Runs .fenceAutoRelease s t ∧
    fpCause g t = 0 ∧ fpState g t = fpFree g s ∧ getF (RGN_STATUS_FENCED g) t = 0 ∧ t.cfg.autoRelease = []) ∧
  (∀ s, NotSafe 0x13 s → NotSafe 7 s →
    (timerOn tmScrub s = true → ∃ t, Runs .scrubPassTimeout s t ∧ getF SCRUB_STATUS_FAULT t = 1 ∧ t.cfg.activePos = 0 ∧ t.cfg.shadowPos = 0 ∧
      bitOf (getF LJ_ALARM_LATCH_ALARM t) 6 = true) ∧
    (timerOn tmScrub s = false → Does .scrubPassTimeout s s) ∧
    ∃ t, Runs .scrubberParityError s t ∧ getF SCRUB_STATUS_FAULT t = 1 ∧ t.cfg.activePos = 0 ∧ t.cfg.shadowPos = 0 ∧
      bitOf (getF LJ_ALARM_LATCH_ALARM t) 6 = true)

/-- The REGION and SCRUB commands (R213 to R216, R221, R226, R232, R238, R240). -/
def Obligations.RegionCommands : Prop :=
  (∀ s (mb : Fin 14) r, Asks sheetRegionStatus mb r s → ∃ p, Oks (.regionStatus mb) mb r p s (seqPop s) ∧ p.length = 28 ∧
    fieldAt p 0 4 = rgnStatusWord (argRegion r) s % 2 ^ 32 ∧ fieldAt p 6 2 = getF (RGN_SWAPS_SWAPS (argRegion r)) s % 65536 ∧
    fieldAt p 16 6 = (getC (ctRgn (argRegion r) 0) s).val % 2 ^ 48) ∧
  (∀ s (mb : Fin 14) r, Asks sheetRegionLoad mb r s → s.cfg.load = none → arg r 1 1 = 0 → arg r 2 1 = 1 →
    loadsPermitted s = true ∧ Accepts (.regionLoad mb) mb r [argRegion r] [] s
      (setF CFG_STATUS_LOAD_BUSY 1 (setF CFG_STATUS_LOAD_REGION (argRegion r) (setF CFG_STATUS_LOAD_SRC 3
        (setF (RGN_STATUS_SHADOW_STATE (argRegion r)) 1 { seqPop s with cfg := { s.cfg with
          load := some ⟨argRegion r, false, 3, 0x3F, arg r 4 8, arg r 12 4, []⟩ } }))))) ∧
  (∀ s (mb : Fin 14) r, Asks sheetRegionClear mb r s → s.cfg.load = none → Oks (.regionClear mb) mb r [] s
    (setF (RGN_STATUS_SHADOW_STATE (argRegion r)) 0 (planeClear (planeIn (argRegion r) 1 s) (argRegion r) (seqPop s)))) ∧
  (∀ s (mb : Fin 14) r, Asks sheetRegionSwapAt mb r s → isSet GC_CTRL_RUN s = false → Oks (.regionSwapAt mb) mb r [] s
    (pbPut (arg r 2 2) (swapEntry (argRegion r) (arg r 4 6) (arg r 10 2) (decide (arg r 1 1 = 1))) (seqPop s))) ∧
  (∀ s (mb : Fin 14) r, Asks (sheetRegionStoreWrite none) mb r s → s.cfg.load = none → s.boot.removal = false → arg r 0 1 = 0 →
    Accepts (.regionStoreWrite mb none) mb r [64 + arg r 1 1, 0, arg r 8 4] [] s
      (beginStart (64 + arg r 1 1) (arg r 8 4) (0x0705 + 65536 * (64 + arg r 1 1)) (seqPop s))) ∧
  (∀ s (mb : Fin 14) r, Asks sheetRegionReadback mb r s → (readbackOk (argRegion r) (arg r 1 1) s = true → s.cfg.flips = [] →
    ∃ d, d = frameBytes (planeIn (argRegion r) (arg r 1 1) s) (argRegion r) (arg r 2 2) s ∧
      Oks (.regionReadback mb) mb r (d ++ leBytes 4 (crc32 d)) s (seqPop s)) ∧
    (readbackOk (argRegion r) (arg r 1 1) s = false → Replies (.regionReadback mb) mb r stDenied [] s (setF CFG_STATUS_RB_DENIED 1 (seqPop s)))) ∧
  (∀ s (mb : Fin 14) r, Asks sheetRegionVerify mb r s → s.cfg.flips = [] → Oks (.regionVerify mb) mb r
    (leBytes 2 2304 ++ leBytes 2 0 ++ leBytes 2 0 ++ leBytes 2 0) s (seqPop s)) ∧
  (∀ s (mb : Fin 14) r, Asks sheetRegionFencePolicy mb r s → argRegion r < 80 →
    Oks (.regionFencePolicy mb) mb r [] s (setF (RGN_CFG_FENCE_POLICY (argRegion r)) (arg r 1 1) (seqPop s))) ∧
  (∀ s (mb : Fin 14) r, Asks sheetScrubStatus mb r s → ∃ p, Oks (.scrubStatus mb) mb r p s (seqPop s) ∧ p.length = 36 ∧
    (∀ i < 4, fieldAt p (4 * i) 4 = regWord (0x3F00840000 + 4 * i) s % 2 ^ 32) ∧
    ∀ i < 3, fieldAt p (16 + 6 * i) 6 = (getC (ctScrub i) s).val % 2 ^ 48) ∧
  (∀ s (mb : Fin 14) r, Asks sheetScrubConfigure mb r s → NotSafe 0x13 s → ∃ t, Runs (.scrubConfigure mb) s t ∧ Answered r stOk [] false t ∧
    isSet SCRUB_CTRL_ACTIVE_EN t = bitOf (arg r 0 1) 0 ∧ isSet SCRUB_CTRL_SHADOW_EN t = bitOf (arg r 0 1) 1 ∧
    isSet SCRUB_CTRL_REPAIR_EN t = bitOf (arg r 0 1) 2 ∧ isSet SCRUB_CTRL_SELFTEST_EN t = bitOf (arg r 0 1) 3 ∧
    isSet SCRUB_STATUS_LAPSED t = !(bitOf (arg r 0 1) 0 && bitOf (arg r 0 1) 1 && bitOf (arg r 0 1) 3) ∧
    (arg r 1 1 = 1 → getF SCRUB_UE_LOG_VALID t = 0))

/-- The FABRIC commands (R201, R207, R209, R184, R191). A fabric port's isolation, release and power, and the user lines (R7, R201, R207, R209, R212). -/
def Obligations.FabricCommands : Prop :=
  ((∀ s (mb : Fin 14) r, Asks sheetFabricPortStatus mb r s → ∃ p, Oks (.fabricPortStatus mb) mb r p s (seqPop s) ∧ p.length = 20 ∧
    fieldAt p 0 1 = fpState (arg r 0 1) s % 256 ∧ fieldAt p 1 1 = fpCause (arg r 0 1) s % 256 ∧
    fieldAt p 2 1 = fpOutstanding (arg r 0 1) s % 256 ∧ fieldAt p 3 1 = getF (POWER_ON (arg r 0 1)) s % 256) ∧
  (∀ s (mb : Fin 14) r, Asks sheetFabricPortIsolate mb r s → arg r 1 1 = 0 → fpCause (arg r 0 1) s = 0 →
    ∃ t, Runs (.fabricPortIsolate mb) s t ∧ Answered r stOk [3] false t ∧ fpState (arg r 0 1) t = 3 ∧ fpCause (arg r 0 1) t = 1 ∧
      fpTargets (arg r 0 1) t = [] ∧ fpEra (arg r 0 1) t = fpEra (arg r 0 1) s + 1) ∧
  (∀ s (mb : Fin 14) r, Asks sheetFabricMemErrors mb r s → ∃ p, p.length = 36 ∧
    (∀ i < 4, fieldAt p (6 * i) 6 = (getC (ctFP (arg r 0 1) (2 + i)) s).val % 2 ^ 48) ∧
    (arg r 1 1 = 0 → Oks (.fabricMemErrors mb) mb r p s (seqPop s)) ∧
    (arg r 1 1 = 1 → ∃ t, Runs (.fabricMemErrors mb) s t ∧ Answered r stOk p false t ∧ getF (DR_UE_LOG_VALID (arg r 0 1)) t = 0 ∧
      getF (TR_UE_LOG_VALID (arg r 0 1)) t = 0 ∧ getF (FP_STATUS_DR_UE (arg r 0 1)) t = 0)) ∧
  (∀ s (mb : Fin 14) r, Asks sheetFabricRegionPower mb r s →
    (arg r 1 1 = 1 → s.fab.off.contains (arg r 0 1) = true ∧ Oks (.fabricRegionPower mb) mb r [] s
      { seqPop s with fab := { s.fab with waking := arg r 0 1 :: s.fab.waking } }) ∧
    (arg r 1 1 = 0 → s.cfg.load = none → ∃ t, Runs (.fabricRegionPower mb) s t ∧ Answered r stOk [] false t ∧
      fpState (arg r 0 1) t = 4 ∧ fpCause (arg r 0 1) t = 4 ∧ getF (POWER_ON (arg r 0 1)) t = 0 ∧ t.fab.off.contains (arg r 0 1) = true ∧
      ∀ p < 2, ∀ f < 2304, frameBytes p (arg r 0 1) f t = List.replicate 512 0))) ∧
  ((∀ s (g : Fin 80), fpCause g s = 0 ∨ fpCause g s = 2 → ∃ t, Runs (.fpIsolate g) s t ∧ fpState g t = 3 ∧ fpCause g t = 1 ∧
    fpTargets g t = [] ∧ fpEra g t = fpEra g s + 1 ∧ ∀ h : Fin 80, h ≠ g → fpState h t = fpState h s ∧ fpTargets h t = fpTargets h s) ∧
  (∀ s (g : Fin 80), fpCause g s = 4 ∨ fpCause g s = 3 ∨ fpCause g s = 1 → Does (.fpIsolate g) s s) ∧
  (∀ s (g : Fin 80), fpCause g s = 1 → ∃ t, Runs (.fpRelease g) s t ∧ fpCause g t = 0 ∧ fpState g t = fpFree g s ∧
    getF (RGN_STATUS_FENCED g) t = 0 ∧ ∀ k < 64, tabFind t.fab.tags (64 * g.val + k) = none) ∧
  (∀ s (g : Fin 80), fpCause g s = 3 → repairDone g s = false → Does (.fpRelease g) s (setF (FP_STATUS_CFG_REJECT g) 1 s)) ∧
  (∀ s, s.fab.lineHeld ≠ [] → Does .fabUserCommit s (setF FAB_USER_COMMIT_ARMED 1 (setF FAB_USER_COMMIT_HELD 0 { s with fab := { s.fab with
    lineArmed := s.fab.lineHeld.foldl (fun t p => tabPut t p.1 p.2) s.fab.lineArmed, lineHeld := [] } }))) ∧
  (∀ s, s.fab.lineHeld = [] → Does .fabUserCommit s s) ∧
  (∀ s (g : Fin 80), s.fab.waking.contains g.val = true → Does (.regionPowerOnComplete g) s
    (setF (FP_STATUS_CAUSE g) 1 (setF (FP_STATUS_STATE g) 3 (setF (POWER_ON g) 1 { s with fab := { s.fab with
      off := s.fab.off.filter (· ≠ g.val), waking := s.fab.waking.filter (· ≠ g.val) } })))))

/-- Requests of the fabric and to it (R202 to R205). -/
def Obligations.FabricTraffic : Prop :=
  (∀ s (g : Fin 80) (q : FabReq), fpState g s = 1 → tabFind s.fab.tags (64 * g.val + q.tag.val) = none → q.write = false →
    (q.addr.toNat % 32 = 0 → q.addr.toNat % 4096 + 32 * (q.len.val + 1) ≤ 4096 → q.addr.toNat < 0x2000000000 →
      ∃ t, Runs (.fabricInitiatorRequest g q) s t ∧ tabFind t.fab.tags (64 * g.val + q.tag.val) = some ⟨opRd, 1, 0, s.time.us⟩ ∧
        ∃ k ∈ t.noc.net, k.src = g.val ∧ k.dest = 80 + q.addr.toNat / 2 ^ 35 ∧ k.op = opRd ∧ k.tag = q.tag.val ∧ k.len = q.len.val ∧
          k.addr = q.addr.toNat) ∧
    (q.addr.toNat % 32 ≠ 0 → q.addr.toNat < 0x3F00000000 → ∃ t, Runs (.fabricInitiatorRequest g q) s t ∧
      Noted (setF (FP_STATUS_PROTO_ERR g) 1 (incC (ctFP g 0) s)) t ∧ .fabric g 0 q.tag.val nsTargetError [] ∈ t.out)) ∧
  (∀ s (g : Fin 80) k, fpTargets g s = [⟨k, none, false⟩] → fpState g s = 1 → ∃ t, Runs (.fabricTargetRequest g) s t ∧
    Noted (fpSetTargets g [⟨k, some s.time.us, false⟩] s) t ∧
    .fabric g 1 k.tag k.op (leBytes 4 (k.addr % 2 ^ 28) ++ leBytes 1 k.len ++ k.data) ∈ t.out) ∧
  (∀ s (g : Fin 80) k u d, fpTargets g s = [⟨k, some u, false⟩] → k.op = opRd → ∃ t, Runs (.fabricTargetResponse g 0 0 d) s t ∧
    fpTargets g t = [] ∧ ∃ x ∈ t.noc.net, x.dest = k.src ∧ x.src = k.dest ∧ x.op = opRdRsp ∧ x.status = nsOk ∧ x.tag = k.tag ∧
      x.data = padTo (32 * (k.len + 1)) d) ∧
  (∀ s (g : Fin 80) k u d st, fpTargets g s = [⟨k, some u, true⟩] → Does (.fabricTargetResponse g 0 st d) s (fpSetTargets g [] s)) ∧
  (∀ s (g : Fin 80) k u, fpTargets g s = [⟨k, some u, false⟩] → k.op = opWr → ∃ t, Runs (.fpTargetTimeout g false) s t ∧
    fpTargets g t = [⟨k, some u, true⟩] ∧ getF (FP_STATUS_TGT_TIMEOUT_EV g) t = 1 ∧
    s.time.us ≤ t.time.us ∧ u + getF (FP_CTRL_TGT_TIMEOUT g) s ≤ t.time.us ∧
    ∃ x ∈ t.noc.net, x.dest = k.src ∧ x.op = opWrRsp ∧ x.status = nsTargetError ∧ x.tag = k.tag)

/-- Tile RAM and deep RAM (R181, R182, R184 to R190). -/
def Obligations.RegionMemories : Prop :=
  (∀ s (g : Fin 80) (b : Fin 64) (p : TilePort), s.fab.off.contains g.val = false → s.fab.hold = false → p.write = true →
    p.shape.val = 7 → p.mode.val = 1 → p.addr.toNat < 512 → ∃ t, Runs (.tileRamAccess g b ⟨some p, none, false, []⟩) s t ∧
      tileRow g b p.addr.toNat t = .ecc (p.data.toNat % 2 ^ 64) 0 ∧
      tabGet ⟨0, false, false⟩ t.fab.trd (2 * (64 * g.val + b.val)) = ⟨p.data.toNat % 2 ^ 64, false, false⟩ ∧
      ∀ w < 512, w ≠ p.addr.toNat → tileRow g b w t = tileRow g b w s) ∧
  (∀ s (g : Fin 80) (b : Fin 64) (p : TilePort) d, s.fab.off.contains g.val = false → p.write = false → p.shape.val = 7 →
    p.addr.toNat < 512 → tileRow g b p.addr.toNat s = .ecc d 0 → ∃ t, Runs (.tileRamAccess g b ⟨some p, none, false, []⟩) s t ∧
      tabGet ⟨0, false, false⟩ t.fab.trd (2 * (64 * g.val + b.val)) = ⟨d, false, false⟩ ∧ t.fab.tile = s.fab.tile) ∧
  (∀ s (g : Fin 80), isSet (MEM_CTRL_TR_SCRUB_EN g) s = true → s.fab.off.contains g.val = false → Does (.tileRamScrubRead g []) s
    (whenS (decide (ramPos (2 * g.val) s = 511)) (addF (MEM_CTRL_TR_PASS g) 1) (ramNext (2 * g.val) 512 s))) ∧
  (∀ s (g : Fin 80) (b : Fin 16) (w : BitVec 15) (d : BitVec 64) (be : BitVec 8), be ≠ 0 → s.fab.hold = false →
    s.fab.off.contains g.val = false → ∃ t, Runs (.deepRamWrite g b w d be) s t ∧ (∀ k < 8,
      (bitOf be.toNat k = true → bitsOf (deepWord g b w.toNat t).data (8 * k) 8 = bitsOf d.toNat (8 * k) 8 ∧
        bitsOf (deepWord g b w.toNat t).flips (13 * k) 13 = 0) ∧
      (bitOf be.toNat k = false → bitsOf (deepWord g b w.toNat t).data (8 * k) 8 = bitsOf (deepWord g b w.toNat s).data (8 * k) 8)) ∧
      ∀ v < 32768, v ≠ w.toNat → deepWord g b v t = deepWord g b v s) ∧
  (∀ s (g : Fin 80) (b : Fin 16) (w : BitVec 15) d, s.fab.off.contains g.val = false → deepWord g b w.toNat s = ⟨d, 0⟩ →
    ∃ t, Runs (.deepRamRead g b ⟨w, 0, none⟩) s t ∧ Noted (useFree s) t ∧
      .fabric g 5 0 0 ((natsFrom 0 8).map (fun k => BitVec.ofNat 8 (bitsOf d (8 * k) 8))) ∈ t.out) ∧
  (∀ s (g : Fin 80), isSet (MEM_CTRL_DR_SCRUB_EN g) s = true → s.fab.off.contains g.val = false → NotSafe 0x13 s →
    ramPos (2 * g.val + 1) s < 32767 → (∀ b < 16, (deepWord g b (ramPos (2 * g.val + 1) s) s).flips = 0) →
    Does (.deepRamScrubRead g []) s { ramNext (2 * g.val + 1) 32768 s with freeIdx := s.freeIdx + 16 })

/-- Cells and queues (R278 to R295): a push that lands, is dropped or is not taken, a pop and its delivery, flush, release, counters, a
chunk's return, a fault. -/
def Obligations.DugoutRows : Prop :=
  (∀ s (g : Fin 80) (c : CellIn), fifServes g s = true →
    (getF (QCFG_EN c.queue) s = 0 → ∃ t, Runs (.cellPush g c none) s t ∧ t.dq = s.dq ∧
      getC (ctDQ c.queue 2) t = getC (ctDQ c.queue 2) (incC (ctDQ c.queue 2) s) ∧ getF ⟨(QEVT_NE c.queue).addr, 4, 1, 0⟩ t = 1) ∧
    (getF (QCFG_EN c.queue) s = 1 → getF (QFLAGS_DISCARD c.queue) s = 0 →
      (dqFull c.queue s = false → dqPlace c.queue s = some 0 → (∀ x ∈ dqCells c.queue s, x.place = 0) → ∃ t, Runs (.cellPush g c none) s t ∧
        dqCells c.queue t = dqCells c.queue s ++ [⟨padTo (c.lenM1.val + 1) (leBytes 64 c.data.toNat), c.sop, c.eop, false, s.clk.turn, s.clk.slot,
          fineTq s, 0⟩] ∧ (∀ q, q ≠ c.queue.val → dqCells q t = dqCells q s) ∧
        getC (ctDQ c.queue 0) t = getC (ctDQ c.queue 0) (incC (ctDQ c.queue 0) s)) ∧
      (dqFull c.queue s = true → getF (QCFG_POLICY c.queue) s = 0 → ∃ t, Runs (.cellPush g c none) s t ∧ t.dq = s.dq ∧
        getC (ctDQ c.queue 2) t = getC (ctDQ c.queue 2) (incC (ctDQ c.queue 2) s) ∧
        (getF (QCFG_PKT_MODE c.queue) s = 1 → getF (QFLAGS_DISCARD c.queue) t = 1)))) ∧
  (∀ s (g : Fin 80) (c : CellIn), fifServes g s = false → Does (.cellPush g c none) s s) ∧
  (∀ s (g : Fin 80) (q : Fin 4096), fifServes g s = true → (tabGet [] s.fab.heldPops g).length < 8 → fabConsumes g q s = true →
    (∀ c l, dqCells q s = c :: l → dqReleased q s ≠ 0 → c.place < 2 → ∃ t, Runs (.cellPop g (some q) 0 false) s t ∧ dqCells q t = l ∧
      tabGet [] t.fab.heldPops g = tabGet [] s.fab.heldPops g ++ [{ c with place := q.val }]) ∧
    (dqCells q s = [] → Does (.cellPop g (some q) 0 false) s (popHold g (noCell q) s))) ∧
  (∀ s (g : Fin 80) c, fifServes g s = true → tabGet [] s.fab.heldPops g = [c] → c.data ≠ [] → ∃ t, Runs (.cellPop g none 0 true) s t ∧
    tabGet [] t.fab.heldPops g = [] ∧ getC (ctDQ c.place 1) t = getC (ctDQ c.place 1) (incC (ctDQ c.place 1) s) ∧
    .fabric g 3 c.place 0 (padTo 64 c.data ++ cellDesc c.place c) ∈ t.out) ∧
  (∀ s (q : Fin 4096), ∃ t, Runs (.qcmdFlush q) s t ∧ dqCells q t = [] ∧ getF (QFLAGS_DISCARD q) t = getF (QFLAGS_DISCARD q) s ∧
    (∀ k, k ≠ q.val → dqCells k t = dqCells k s) ∧ getC (ctDQ q 5) t = getC (ctDQ q 5) (addC (ctDQ q 5) (dqDepth q s) s)) ∧
  (∀ s (q : Fin 4096), (getF (QCFG_EN q) s = 1 → dqTimed q s = true → ∃ t, Runs (.qcmdRelease q) s t ∧ dqReleased q t = dqDepth q s ∧
      ∀ k, dqCells k t = dqCells k s) ∧
    (getF (QCFG_EN q) s = 0 → Does (.qcmdRelease q) s s)) ∧
  (∀ s (q : Fin 4096) (i : Fin 8), ∃ t, Runs (.dqCntClr q i) s t ∧ (∀ k < 8, getC (ctDQ q k) t = ⟨0, false⟩) ∧ getF DQ_CNT_SEL_Q t = q.val ∧
    getF DQ_CNT_SEL_IDX t = i.val) ∧
  (∀ s (q : Fin 4096), (chunkFirst (dqCells q s) = none → Does (.spillChunkFetchComplete q) s s) ∧
    (∀ k n, NotSafe 0x0A s → chunkFirst (dqCells q s) = some (k, n) → cellsOnChip (dqCells q s) + n ≤ getF (QDEPTH_RESERVE q) s →
      drUp (drChannel (spillData s + 256 * k)) s = true → drUp (drChannel (spillMeta s + 64 * k)) s = true →
      ∃ t, Runs (.spillChunkFetchComplete q) s t ∧ dqDepth q t = dqDepth q s ∧ k ∉ t.dq.chunks ∧ ∀ c ∈ dqCells q t, c.place ≠ k + 2)) ∧
  (∀ s (q : Fin 4096), NotSafe 0x0B s → NotSafe 0x13 s → ∃ t, Runs (.queueFault q) s t ∧ dqCells q t = [] ∧ getF (QCFG_EN q) t = 0 ∧
    getF (QFLAGS_FAULT q) t = 1 ∧ getF ⟨(QEVT_NE q).addr, 8, 1, 0⟩ t = 1 ∧ bitOf (getF LJ_ALARM_LATCH_ALARM t) 10 = true)

/-- The Dugout commands (R278, R279, R286, R288, R290, R294). -/
def Obligations.QueueCommands : Prop :=
  (∀ s (mb : Fin 14) r, Asks sheetQueueConfigure mb r s → ∃ t, Runs (.queueConfigure mb) s t ∧ Answered r stOk [] false t ∧
    getF (QCFG_EN (argQueue r)) t = bitsOf (arg r 4 4) 0 1 ∧ getF (QCFG_CLASS (argQueue r)) t = bitsOf (arg r 4 4) 1 1 ∧
    getF (QCFG_POLICY (argQueue r)) t = bitsOf (arg r 4 4) 6 2 ∧ getF (QCFG_CONSUMER (argQueue r)) t = bitsOf (arg r 4 4) 8 2 ∧
    getF (QDEPTH_DEPTH_MAX (argQueue r)) t = bitsOf (arg r 8 4) 0 16 ∧ getF (QDEPTH_RESERVE (argQueue r)) t = bitsOf (arg r 8 4) 16 16 ∧
    getF (QWM_HI_WM (argQueue r)) t = bitsOf (arg r 12 4) 0 16 ∧ getF (QWM_LO_WM (argQueue r)) t = bitsOf (arg r 12 4) 16 16 ∧ t.dq = s.dq) ∧
  (∀ s (mb : Fin 14) r, Asks sheetQueueStatus mb r s → ∃ p, p.length = 60 ∧ fieldAt p 0 4 = qStateWord (argQueue r) s % 2 ^ 32 ∧
    fieldAt p 4 4 = qFlagsWord (argQueue r) s % 2 ^ 32 ∧ (∀ i < 8, fieldAt p (12 + 6 * i) 6 = (getC (ctDQ (argQueue r) i) s).val % 2 ^ 48) ∧
    (arg r 2 1 = 0 → Oks (.queueStatus mb) mb r p s (seqPop s)) ∧
    (arg r 2 1 = 3 → ∃ t, Runs (.queueStatus mb) s t ∧ Answered r stOk p false t ∧ t.dq = s.dq ∧
      (∀ i < 8, getC (ctDQ (argQueue r) i) t = ⟨0, false⟩) ∧ ∀ b < 9, getF ⟨(QEVT_NE (argQueue r)).addr, b, 1, 0⟩ t = 0)) ∧
  (∀ s (mb : Fin 14) r, Asks sheetQueueFlush mb r s → ∃ t p, Runs (.queueFlush mb) s t ∧ Answered r stOk p false t ∧
    p = leBytes 4 ((natsFrom (argQueue r) (arg r 2 2)).foldl (fun n q => n + dqDepth q s) 0) ∧
    (∀ q, argQueue r ≤ q → q < argQueue r + arg r 2 2 → dqCells q t = []) ∧
    ∀ q, q < argQueue r ∨ argQueue r + arg r 2 2 ≤ q → dqCells q t = dqCells q s) ∧
  (∀ s (mb : Fin 14) r, Asks sheetQueueRelease mb r s → Oks (.queueRelease mb) mb r (leBytes 2 (dqDepth (argQueue r) s)) s
    (dqSetReleased (argQueue r) (dqDepth (argQueue r) s) (seqPop s))) ∧
  (∀ s (mb : Fin 14) r, Asks sheetDugoutStatus mb r s → ∃ p, Oks (.dugoutStatus mb) mb r p s (seqPop s) ∧ p.length = 20 ∧
    fieldAt p 4 4 = storeFree s % 2 ^ 32 ∧ fieldAt p 8 4 = s.dq.chunks.length % 2 ^ 32) ∧
  (∀ s (mb : Fin 14) r, Asks sheetDugoutSpillSet mb r s → ∃ t, Runs (.dugoutSpillSet mb) s t ∧ Answered r stOk [] false t ∧
    spillData t = arg r 0 8 ∧ spillMeta t = arg r 8 8 ∧ spillChunks t = arg r 16 4)

/-- Lanes on their own, with no enabled port on them (R303 to R307, R329): slips, REARM, the eye scan, lock and loss. -/
def Obligations.LaneRows : Prop :=
  (∀ s (L : Fin 128), laneRaw L s = true → laneLocked L s = false →
    Does (.laneSlip L) s (setF (LANE_SLIP_SLIP_POS L) ((getF (LANE_SLIP_SLIP_POS L) s + 1) % laneW L s) s)) ∧
  (∀ s (L : Fin 128), laneRaw L s = true → laneLocked L s = true → ∃ t, Runs (.laneSlip L) s t ∧
    getF (LANE_SLIP_SLIP_POS L) t = (getF (LANE_SLIP_SLIP_POS L) s + 1) % laneW L s ∧
    getF (LANE_LAT_RX_LAT L) t = 6 * laneW L s + 32 + getF (LANE_SLIP_SLIP_POS L) t) ∧
  (∀ s (L : Fin 128), laneRaw L s = false → Does (.laneSlip L) s s) ∧
  (∀ s (L : Fin 128), portsOfLane L s = [] → Does (.rearm L) s
    { s with rally := { s.rally with latSet := s.rally.latSet.filter (· ≠ L.val) } }) ∧
  (∀ s (L : Fin 128), (laneLocked L s = true → Does (.eyeScanStart L) s (setF (LANE_ES_RESULT_ERRORS L) 0 (setF (LANE_ES_RESULT_DONE L) 0
      { s with rally := { s.rally with eye := L.val :: s.rally.eye.filter (· ≠ L.val) } }))) ∧
    (laneLocked L s = false → Does (.eyeScanStart L) s (setF (LANE_STATUS_CFG_REJECT L) 1 s))) ∧
  (∀ s (L : Fin 128) (e : BitVec 36), (s.rally.eye.contains L.val = true → Does (.eyeScanPointDone L e) s
      (setF (LANE_ES_RESULT_DONE L) 1 (setF (LANE_ES_RESULT_ERRORS L) (min e.toNat 0xFFFF)
        { s with rally := { s.rally with eye := s.rally.eye.filter (· ≠ L.val) } }))) ∧
    (s.rally.eye.contains L.val = false → Does (.eyeScanPointDone L e) s s)) ∧
  (∀ s (L : Fin 128), portsOfLane L s = [] → getF (LANE_STATUS_LOCK_STATE L) s = 1 → quadLocked (L.val / 4) s = true → laneRaw L s = false →
    Does (.laneCdrLock L) s (setF (LANE_STATUS_LOCK_STATE L) 2 (setF (LANE_STATUS_SIG L) 1 s))) ∧
  (∀ s (L : Fin 128), portsOfLane L s = [] → getF (LANE_STATUS_LOCK_STATE L) s = 2 → laneRaw L s = false →
    (s.rally.latSet.contains L.val = false → ∃ t, Runs (.laneBlockLock L none) s t ∧ getF (LANE_STATUS_LOCK_STATE L) t = 3 ∧
      getF (LANE_LAT_RX_LAT L) t = 462 ∧ getF (LANE_LAT_TX_LAT L) t = 264 ∧ getF (LANE_LATREF_LAT_REF L) t = 462 ∧
      getF (LANE_STATUS_LAT_SAME L) t = 1 ∧ t.rally.latSet.contains L.val = true) ∧
    (s.rally.latSet.contains L.val = true → getF (LANE_LATREF_LAT_REF L) s ≠ 462 → ∃ t, Runs (.laneBlockLock L none) s t ∧
      getF (LANE_STATUS_LOCK_STATE L) t = 3 ∧ getF (LANE_STATUS_LAT_SAME L) t = 0 ∧ getF (LANE_STATUS_LAT_CHANGED L) t = 1 ∧
      getF (LANE_LATREF_LAT_REF L) t = getF (LANE_LATREF_LAT_REF L) s)) ∧
  (∀ s (L : Fin 128), portsOfLane L s = [] → laneLocked L s = true → laneRaw L s = false → ∃ t, Runs (.laneLockLoss L) s t ∧
    getF (LANE_STATUS_LOCK_STATE L) t = 2 ∧ getF (LANE_STATUS_LOCK_LOST L) t = 1 ∧ getF (LANE_SLIP_SLIP_POS L) t = 0 ∧
    getC (ctLane L 0) t = getC (ctLane L 0) (addC (ctLane L 0) 24 s) ∧ getC (ctLane L 1) t = getC (ctLane L 1) (incC (ctLane L 1) s)) ∧
  (∀ s (L : Fin 128), portsOfLane L s = [] → getF (LANE_STATUS_LOCK_STATE L) s ≠ 0 → ∃ t, Runs (.lossOfSignal L true) s t ∧
    getF (LANE_STATUS_LOCK_STATE L) t = 1 ∧ getF (LANE_STATUS_SIG L) t = 0 ∧ getF (LANE_STATUS_LOS L) t = 1) ∧
  (∀ s (L : Fin 128) (b : Bool), getF (LANE_STATUS_LOCK_STATE L) s = 0 → Does (.lossOfSignal L b) s s)

/-- The commands of lanes and quads (R296, R297, R299, R303, R304, R327, R329). -/
def Obligations.LaneCommands : Prop :=
  (∀ s (mb : Fin 14) r, Asks sheetLaneStatus mb r s → ∃ p, Oks (.laneStatus mb) mb r p s (seqPop s) ∧ p.length = 44 ∧
    fieldAt p 0 4 = laneCtrlWord (arg r 0 1) s % 2 ^ 32 ∧ fieldAt p 4 4 = laneStatusWord (arg r 0 1) s % 2 ^ 32 ∧
    ∀ i < 4, fieldAt p (20 + 6 * i) 6 = (getC (ctLane (arg r 0 1) i) s).val % 2 ^ 48) ∧
  (∀ s (mb : Fin 14) r, Asks sheetLaneConfigure mb r s → ∃ t, Runs (.laneConfigure mb) s t ∧ Answered r stOk [] false t ∧
    getF (LANE_CTRL_TX_EN (arg r 0 1)) t = bitsOf (arg r 4 4) 0 1 ∧ getF (LANE_CTRL_RX_EN (arg r 0 1)) t = bitsOf (arg r 4 4) 1 1 ∧
    getF (LANE_CTRL_MODE (arg r 0 1)) t = bitsOf (arg r 4 4) 2 2 ∧ getF (LANE_CTRL_RATE_D (arg r 0 1)) t = bitsOf (arg r 4 4) 8 5 ∧
    getF (LANE_TXEQ_PRE (arg r 0 1)) t = bitsOf (arg r 8 4) 4 4 ∧ getF (LANE_RXEQ_DFE_TAPS (arg r 0 1)) t = bitsOf (arg r 12 4) 8 4) ∧
  (∀ s (mb : Fin 14) r (k : Fin 64), Asks (sheetLaneSlipSearch (some k)) mb r s → k.val < laneW (arg r 0 1) s →
    getF (LANE_SLIP_SLIP_POS (arg r 0 1)) s < laneW (arg r 0 1) s → ∃ t n, n = (getF (LANE_SLIP_SLIP_POS (arg r 0 1)) s + k.val) % laneW (arg r 0 1) s ∧
      Runs (.laneSlipSearch mb (some k)) s t ∧ Answered r stOk (leBytes 1 n) false t ∧ getF (LANE_SLIP_SLIP_POS (arg r 0 1)) t = n) ∧
  (∀ s (mb : Fin 14) r, Asks (sheetLaneSlipSearch none) mb r s → getF (LANE_SLIP_SLIP_POS (arg r 0 1)) s < laneW (arg r 0 1) s →
    ∃ t, Runs (.laneSlipSearch mb none) s t ∧ Answered r stTimeout [] false t ∧
      getF (LANE_SLIP_SLIP_POS (arg r 0 1)) t = getF (LANE_SLIP_SLIP_POS (arg r 0 1)) s) ∧
  (∀ s (mb : Fin 14) r es, Asks (sheetLaneEyeScan es) mb r s → ∃ t p, Runs (.laneEyeScan mb es) s t ∧ Answered r stOk p false t ∧
    p.length = 2 + 2 * eyePoints r ∧ fieldAt p 0 2 = eyePoints r ∧ (∀ i < eyePoints r, fieldAt p (2 + 2 * i) 2 = (listGet 0 es i).toNat) ∧
    getF (LANE_ES_RESULT_DONE (arg r 0 1)) t = 1) ∧
  (∀ s (mb : Fin 14) r, Asks (sheetQuadConfigure true) mb r s → arg r 5 1 = 1 → ∃ t, Runs (.quadConfigure mb true) s t ∧
    Answered r stOk [2] false t ∧ getF (QUAD_CTRL_EN (arg r 0 1)) t = 1 ∧ getF (QUAD_STATUS_STATE (arg r 0 1)) t = 2 ∧
    getF (QUAD_CTRL_QM (arg r 0 1)) t = arg r 4 1 ∧ getF (QUAD_REF_REF_KHZ (arg r 0 1)) t = arg r 8 4) ∧
  (∀ s (mb : Fin 14) r, Asks (sheetQuadConfigure false) mb r s → arg r 5 1 = 1 → ∃ t, Runs (.quadConfigure mb false) s t ∧
    Answered r stTimeout [] false t ∧ getF (QUAD_STATUS_STATE (arg r 0 1)) t = 1) ∧
  (∀ s (mb : Fin 14) r (b : Bool), Asks (sheetQuadConfigure b) mb r s → arg r 5 1 = 0 → ∃ t, Runs (.quadConfigure mb b) s t ∧
    Answered r stOk [0] false t ∧ getF (QUAD_CTRL_EN (arg r 0 1)) t = 0 ∧ getF (QUAD_STATUS_STATE (arg r 0 1)) t = 0)

/-- The commands of Rally ports (R309, R323). -/
def Obligations.PortCommands : Prop :=
  (∀ s (mb : Fin 14) r, Asks sheetPortConfigure mb r s → getF (RP_CTRL_EN (arg r 0 1)) s ≤ 1 → ∃ t, Runs (.portConfigure mb) s t ∧
    Answered r stOk [] false t ∧ getF (RP_CTRL_EN (arg r 0 1)) t = bitsOf (arg r 4 4) 0 1 ∧
    getF (RP_CTRL_RALLY_A (arg r 0 1)) t = bitsOf (arg r 4 4) 1 1 ∧ getF (RP_CTRL_LANES (arg r 0 1)) t = bitsOf (arg r 4 4) 2 2 ∧
    getF (RP_CTRL_POLICY (arg r 0 1)) t = bitsOf (arg r 4 4) 6 1 ∧ getF (RP_CTRL_HOLD_MS (arg r 0 1)) t = bitsOf (arg r 4 4) 16 16 ∧
    getF (RP_CFG_RX_QUEUE (arg r 0 1)) t = bitsOf (arg r 8 4) 0 12) ∧
  (∀ s (mb : Fin 14) r, Asks sheetPortStatus mb r s → ∃ p, Oks (.portStatus mb) mb r p s (seqPop s) ∧ p.length = 96 ∧
    fieldAt p 0 4 = rpStatusWord (arg r 0 1) s % 2 ^ 32 ∧ ∀ i < 14, fieldAt p (12 + 6 * i) 6 = (getC (ctRP (arg r 0 1) i) s).val % 2 ^ 48) ∧
  (∀ s (mb : Fin 14) r, Asks sheetPortControl mb r s →
    (arg r 1 1 = 0 → ∃ t n, Runs (.portControl mb) s t ∧ Answered r stOk (leBytes 1 n) false t ∧ (portOf (arg r 0 1) t).cmdDown = true ∧
      getF (RP_STATUS_STATE (arg r 0 1)) t = n ∧ n ≠ 4) ∧
    (arg r 1 1 = 1 → ∃ t n, Runs (.portControl mb) s t ∧ Answered r stOk (leBytes 1 n) false t ∧ (portOf (arg r 0 1) t).cmdDown = false ∧
      getF (RP_STATUS_STATE (arg r 0 1)) t = n) ∧
    (arg r 1 1 = 3 → ∃ t, Runs (.portControl mb) s t ∧ (portOf (arg r 0 1) t).holding = false))

/-- Frames and blocks at a Rally port (R312 to R320, R324). -/
def Obligations.RallyFrames : Prop :=
  (∀ s (p : Fin 128) b, rallyRx p false s = false → Does (.rallyFFrameReceive p b) s s) ∧
  (∀ s (p : Fin 128) b, rallyRx p false s = true → isSet (RP_CTRL_RX_DST p) s = true →
    (∀ f, frameParse false b = .good f → f.kind = 0 → (portOf p s).adopt = false → f.seq = getF (RP_SEQ_RX_EXP p) s → ∃ t,
      Runs (.rallyFFrameReceive p b) s t ∧ Noted (setF (RP_SEQ_RX_EXP p) (f.seq + 1) (incC (ctRP p 1) s)) t ∧
      .fabric (p.val / 8) 4 (f.stampS + 65536 * f.stampT + 2 ^ 32 * framePad f.data.length)
        (natOfBool f.sop + 2 * natOfBool f.eop + 4 * natOfBool f.poison) f.data ∈ t.out) ∧
    (∀ f, frameParse false b = .badCrc f → ∃ t, Runs (.rallyFFrameReceive p b) s t ∧ Noted (incC (ctRP p 2) s) t ∧
      .fabric (p.val / 8) 4 (f.stampS + 65536 * f.stampT + 2 ^ 32 * framePad f.data.length)
        (natOfBool f.sop + 2 * natOfBool f.eop + 4 * natOfBool f.poison + 16) f.data ∈ t.out) ∧
    (frameParse false b = .broken → Does (.rallyFFrameReceive p b) s (incC (ctRP p 5) s))) ∧
  (∀ s (p : Fin 128) b f, rallyRx p true s = true → frameParse true b = .good f → f.ack = none → f.kind = 0 →
    (f.seq = getF (RP_SEQ_RX_EXP p) s % 4096 → raFits p f s = true → ∃ t, Runs (.rallyAFrameReceive p b true) s t ∧
      getF (RP_SEQ_RX_EXP p) t = (f.seq + 1) % 4096 ∧ getC (ctRP p 1) t = getC (ctRP p 1) (incC (ctRP p 1) s) ∧
      .frame p (blockSeal ([0xAC, 0] ++ leBytes 2 f.seq ++ [0, 0])) ∈ t.out) ∧
    (f.seq = getF (RP_SEQ_RX_EXP p) s % 4096 → raFits p f s = false → Does (.rallyAFrameReceive p b true) s (incC (ctRP p 10) s)) ∧
    (∀ n, n = (getF (RP_SEQ_RX_EXP p) s % 4096 + 4096 - f.seq) % 4096 →
      (1 ≤ n → n ≤ 256 → ∃ t, Runs (.rallyAFrameReceive p b true) s t ∧ t.dq = s.dq ∧ getF (RP_SEQ_RX_EXP p) t = getF (RP_SEQ_RX_EXP p) s ∧
        getC (ctRP p 7) t = getC (ctRP p 7) (incC (ctRP p 7) s)) ∧
      (256 < n → Does (.rallyAFrameReceive p b true) s (incC (ctRP p 8) s)))) ∧
  (∀ s (p : Fin 128) (b : BitVec 64), rallyRx p true s = true → b.toNat % 256 = 0xAC →
    (fieldAt (leBytes 8 b.toNat) 6 2 ≠ blockCrc (leBytes 8 b.toNat) → Does (.ack p b) s (incC (ctRP p 9) s)) ∧
    (fieldAt (leBytes 8 b.toNat) 6 2 = blockCrc (leBytes 8 b.toNat) → ∀ a, a = fieldAt (leBytes 8 b.toNat) 2 2 % 4096 →
      ((a + 4096 - (portOf p s).oldest) % 4096 < unacked p s → ∃ t, Runs (.ack p b) s t ∧ (portOf p t).oldest = (a + 1) % 4096 ∧
        (portOf p t).expiries = 0 ∧ ∀ f ∈ (portOf p t).replay, f ∈ (portOf p s).replay) ∧
      (unacked p s ≤ (a + 4096 - (portOf p s).oldest) % 4096 → Does (.ack p b) s s))) ∧
  (∀ s (p : Fin 128), timerOn (tmReplay p) s = true → getF (RP_STATUS_STATE p) s = 4 →
    ((portOf p s).expiries + 1 < getF (RP_CFG_RA_RETRY p) s → ∃ t, Runs (.rallyReplayTimerExpiry p) s t ∧
      (portOf p t).expiries = (portOf p s).expiries + 1 ∧ getF (RP_STATUS_STATE p) t = 4 ∧ (portOf p t).replay = (portOf p s).replay ∧
      ∀ f ∈ (portOf p s).replay, .frame p f.bytes ∈ t.out) ∧
    (getF (RP_CFG_RA_RETRY p) s ≤ (portOf p s).expiries + 1 → ∃ t, Runs (.rallyReplayTimerExpiry p) s t ∧ getF (RP_STATUS_STATE p) t ≠ 4 ∧
      getF (RP_STATUS_CAUSE p) t = 6 ∧ getF (RP_STATUS_DOWN_EV p) t = 1)) ∧
  (∀ s (p : Fin 128) x, rallyRx p true s = true → x.crcOk = true → x.rallyA = true → getF (RP_STATUS_STATE p) s = 3 → ∃ t,
    Runs (.sync p x) s t ∧ (portOf p t).synSeen = true ∧ (portOf p t).synSent = true ∧ (x.seen = true → (portOf p t).synGot = true)) ∧
  (∀ s (p : Fin 128) x, (x.crcOk = false ∨ x.rallyA = false) → Does (.sync p x) s s) ∧
  (∀ s (p : Fin 128) w (sop eop : Bool) (pad : Fin 8), getF (RP_STATUS_STATE p) s = 4 → isSet (RP_CTRL_TX_SRC p) s = true →
    s.dev.state ≠ .quiesce → isSet (RP_CTRL_RALLY_A p) s = false → ∃ t, Runs (.rallyTxFrame p ⟨[w], sop, eop, pad, false⟩) s t ∧
      Noted (setF (RP_SEQ_TX_NEXT p) (getF (RP_SEQ_TX_NEXT p) s + 1) (incC (ctRP p 0) s)) t ∧
      .frame p (frameSeal false ⟨false, 0, sop, eop, false, s.clk.slot, s.clk.turn % 65536, none, getF (RP_SEQ_TX_NEXT p) s,
        (leBytes 8 w.toNat).take (8 - pad.val)⟩) ∈ t.out) ∧
  (∀ s (p : Fin 128) x, getF (RP_STATUS_STATE p) s ≠ 4 → Does (.rallyTxFrame p x) s s)

/-- A Rally port's states (R309 to R311, R321 to R323). -/
def Obligations.RallyPortStates : Prop :=
  (∀ s (p : Fin 128), portReady p s = true → getF (RP_STATUS_STATE p) s ≠ 4 → ∃ t, Runs (.portUp p) s t ∧ getF (RP_STATUS_STATE p) t = 4 ∧
    getF (RP_STATUS_UP_EV p) t = 1 ∧ (portOf p t).holding = false ∧ timerOn (tmHold p) t = false) ∧
  (∀ s (p : Fin 128), portReady p s = false → Does (.portUp p) s s) ∧
  (∀ s (p : Fin 128) c, isSet (RP_CTRL_EN p) s = true → getF (RP_STATUS_STATE p) s = 4 → rxUpNow p s = isSet (RP_STATUS_RX_UP p) s →
    (portCauseNow p s = some c → ∃ t, Runs (.portDown p) s t ∧ getF (RP_STATUS_STATE p) t ≠ 4 ∧ getF (RP_STATUS_CAUSE p) t = c ∧
      getF (RP_STATUS_DOWN_EV p) t = 1 ∧ getC (ctRP p 12) t = getC (ctRP p 12) (incC (ctRP p 12) s) ∧
      (portOf p t).holding = isSet (RP_CTRL_POLICY p) s ∧ (isSet (RP_CTRL_POLICY p) s = true →
        tabFind t.time.deadlines (tmHold p) = some (s.time.us + 1000 * getF (RP_CTRL_HOLD_MS p) s))) ∧
    (portCauseNow p s = none → Does (.portDown p) s s)) ∧
  (∀ s (p : Fin 128), timerOn (tmHold p) s = true → (portOf p s).holding = true → ∃ t, Runs (.holdMsExpiry p) s t ∧
    (portOf p t).holding = false ∧ (portOf p t).replay = [] ∧ getF (RP_STATUS_FLUSHED p) t = 1 ∧ timerOn (tmHold p) t = false) ∧
  (∀ s (p : Fin 128), timerOn (tmHold p) s = false → Does (.holdMsExpiry p) s s) ∧
  (∀ s (p : Fin 128) (d : Fin 33), (deskewing p s = false → Does (.deskewComplete p d) s s) ∧
    (deskewing p s = true → (portOf p s).deskewRef = none → ∃ t, Runs (.deskewComplete p d) s t ∧ (portOf p t).deskewed = true ∧
      (portOf p t).deskewRef = some d.val ∧ getF (RP_LAT_DESKEW p) t = d.val ∧
      getF (RP_LAT_PORT_LAT p) t = (getF (LANE_LAT_RX_LAT p) s + 66 * d.val) % 65536)) ∧
  (∀ s (p : Fin 128), (deskewing p s = false → Does (.deskewFail p) s s) ∧ (deskewing p s = true →
    Does (.deskewFail p) s (setF (LANE_STATUS_PORT_EVT p) 1 (setF (RP_STATUS_DESKEW_FAIL p) 1 s)))) ∧
  (∀ s (p : Fin 128) (k : Fin 4), (portOf p s).deskewed = true → k.val < portWidth p s →
    Does (.alignmentMarker p k .inLine) s (portUpd p (fun x => { x with amMissed := tabSet 0 x.amMissed k 0 }) s) ∧
    (∃ t, Runs (.alignmentMarker p k .outOfLine) s t ∧ (portOf p t).deskewed = false) ∧
    (tabGet 0 (portOf p s).amMissed k = 0 →
      Does (.alignmentMarker p k .missing) s (portUpd p (fun x => { x with amMissed := tabSet 0 x.amMissed k 1 }) s)) ∧
    (tabGet 0 (portOf p s).amMissed k = 1 → ∃ t, Runs (.alignmentMarker p k .missing) s t ∧ (portOf p t).deskewed = false))

/-- The TIMED channel (R262 to R267). -/
def Obligations.TimedChannel : Prop :=
  (∀ s (n : Fin 32), isSet (TRES_CFG1_EN n) s = false → tresOwnRange n s = true → (tresFits (tresWith n s) s = true →
      Does (.tresEnableWrite n true) s (setF (TRES_CFG1_EN n) 1 (setF (TRES_STATUS_MIN_DELAY n) (min 255 (minDelay (tresWith n s) n s)) s))) ∧
    (tresFits (tresWith n s) s = false → ∃ t, Runs (.tresEnableWrite n true) s t ∧ getF (TRES_CFG1_EN n) t = getF (TRES_CFG1_EN n) s ∧
      getF NOC_STATUS_CFG_REJECT t = 1)) ∧
  (∀ s (n : Fin 32), Does (.tresEnableWrite n false) s
    { setF (TRES_CFG1_EN n) 0 s with noc := { s.noc with windows := tabDel s.noc.windows n } }) ∧
  (∀ s (g : Fin 80) (n : Fin 32) (d : BitVec 7) (x : BitVec 256), fpState g s = 1 →
    (isSet (TRES_CFG1_EN n) s = false ∨ getF (TRES_CFG0_SRC n) s ≠ g.val ∨ getF (TRES_CFG0_DEST n) s ≠ d.toNat →
      Does (.timedPacketSend g n d x) s (incC (ctNoc 7) s)) ∧
    (isSet (TRES_CFG1_EN n) s = true → getF (TRES_CFG0_SRC n) s = g.val → getF (TRES_CFG0_DEST n) s = d.toNat →
      (tabGet 0 s.noc.windows n ≠ 0 → tabGet 0 s.noc.used n < getF (TRES_CFG0_QUOTA n) s → ∃ t, Runs (.timedPacketSend g n d x) s t ∧
        tabGet 0 t.noc.used n = tabGet 0 s.noc.used n + 1 ∧ ∃ k, t.noc.flying = s.noc.flying ++ [k] ∧ k.src = g.val ∧ k.dest = d.toNat ∧
          k.op = opTimed ∧ k.res = n.val ∧ k.turn = s.clk.turn ∧ k.slot = s.clk.slot ∧ k.data = leBytes 32 x.toNat) ∧
      (tabGet 0 s.noc.windows n = 0 → ∃ t, Runs (.timedPacketSend g n d x) s t ∧ t.noc.flying = s.noc.flying ∧
        getC (ctNoc 6) t = getC (ctNoc 6) (incC (ctNoc 6) s)))) ∧
  (∀ s (g : Fin 80) (n : Fin 32) (d : BitVec 7) (x : BitVec 256), fpState g s ≠ 1 → Does (.timedPacketSend g n d x) s s) ∧
  (∀ s (n : Fin 32) k, s.noc.flying = [k] → k.res = n.val →
    (fpState k.dest s = 3 ∨ fpState k.dest s = 4 → Does (.timedPacketArrive n 0) s (incC (ctNoc 10) { s with noc := { s.noc with flying := [] } })) ∧
    (fpState k.dest s = 1 → 0 ≤ timedPast k s → ∃ t, Runs (.timedPacketArrive n 0) s t ∧ t.noc.flying = [] ∧ t.noc.held = s.noc.held ∧
      getC (ctNoc 8) t = getC (ctNoc 8) (incC (ctNoc 8) s)) ∧
    (fpState k.dest s = 1 → timedPast k s < 0 → s.noc.held = [] → k.ecc = true →
      Does (.timedPacketArrive n 0) s { s with noc := { s.noc with flying := [], held := [k] } })) ∧
  (∀ s (g : Fin 80) k, s.noc.held = [k] → s.noc.shown = [] → k.dest = g.val →
    (0 ≤ timedPast k s → ∃ t, Runs (.timedPresent g 1) s t ∧ Noted { s with noc := { s.noc with held := [], shown := [] } } t ∧
      .fabric g 2 k.src 0 (leBytes 6 k.turn ++ leBytes 2 k.slot ++ k.data) ∈ t.out) ∧
    (timedPast k s < 0 → Does (.timedPresent g 1) s s)) ∧
  (∀ s, Does .timedWindowClose s { s with noc := { s.noc with windows := s.noc.windows.filter (fun p => decide (p.2 ≠ 0)) } })

/-- Links (R244, R247 to R250): a flit and its acknowledgement, a credit, a resend, a failure, an audit; and the trace's restart (R273). -/
def Obligations.LinkRows : Prop :=
  (∀ s (n : Fin 48) (p : Fin 8) (v : Fin 4) x, x = linkOf n p s → linkThere n p = true → listGet 0 x.credits v ≠ 0 → x.kept.length < 8 →
    (x.since = none → x.sendL = x.wantL → Does (.linkFlitReceive n p (.fresh v true)) s (linkSet n p { x with
      credits := listSet x.credits v (listGet 0 x.credits v - 1), kept := x.kept ++ [(x.sendL, v.val)], sendL := (x.sendL + 1) % 16,
      naked := false, wantL := (x.wantL + 1) % 16, queued := listSet x.queued v (listGet 0 x.queued v + 1),
      returns := x.returns ++ [(x.wantL, false)] } (linkSet n p { x with
        credits := listSet x.credits v (listGet 0 x.credits v - 1), kept := x.kept ++ [(x.sendL, v.val)], sendL := (x.sendL + 1) % 16 } s))) ∧
    (x.naked = false → ∃ t y, Runs (.linkFlitReceive n p (.fresh v false)) s t ∧ y = linkOf n p t ∧ y.naked = true ∧ y.wantL = x.wantL ∧
      y.queued = x.queued ∧ y.returns = x.returns ++ [(x.wantL, true)] ∧ y.since.isSome = true ∧ y.kept = x.kept ++ [(x.sendL, v.val)])) ∧
  (∀ s (n : Fin 48) (p : Fin 8) l v rs, (linkOf n p s).returns = (l, false) :: rs → (linkOf n p s).kept = [(l, v)] →
    Does (.linkAckNak n p true) s (linkSet n p { linkOf n p s with kept := [], returns := rs } s)) ∧
  (∀ s (n : Fin 48) (p : Fin 8) r rs, (linkOf n p s).returns = r :: rs →
    Does (.linkAckNak n p false) s (linkSet n p { linkOf n p s with returns := rs } s)) ∧
  (∀ s (n : Fin 48) (p : Fin 8) (v : Fin 4) x, x = linkOf n p s → listGet 0 x.queued v ≠ 0 → Does (.creditReturn n p v true) s
    (linkSet n p { x with
      queued := listSet x.queued v (listGet 0 x.queued v - 1), credits := listSet x.credits v (listGet 0 x.credits v + 1) } s) ∧
    Does (.creditReturn n p v false) s (linkSet n p { x with queued := listSet x.queued v (listGet 0 x.queued v - 1) } s)) ∧
  (∀ s (n : Fin 48) (p : Fin 8), (linkOf n p s).kept ≠ [] → (linkOf n p s).since = none →
    Does (.replayTimeout n p) s (linkSet n p { linkOf n p s with since := some s.time.us } s)) ∧
  (∀ s (n : Fin 48) (p : Fin 8) u, NotSafe 0x0C s → NotSafe 0x13 s → (linkOf n p s).since = some u → (linkOf n p s).failed = false →
    ∃ t, Runs (.linkFail n p) s t ∧ (linkOf n p t).failed = true ∧ getF LINK_FAIL_LOG_VALID t = 1 ∧ getF LINK_FAIL_LOG_ROUTER t = n.val ∧
      getF LINK_FAIL_LOG_PORT t = p.val ∧ bitOf (getF LJ_ALARM_LATCH_ALARM t) 11 = true ∧ u + 1 ≤ t.time.us) ∧
  (∀ s (n : Fin 48) (p : Fin 8) (v : Fin 4) x, NotSafe 0x13 s → x = linkOf n p s → linkThere n p = true → linkTransit x v = 0 →
    isSet NOC_CTRL_AUDIT_EN s = true →
    (listGet 0 x.credits v = 8 - listGet 0 x.queued v → Does (.creditAudit n p v none) s s) ∧
    (listGet 0 x.credits v < 8 - listGet 0 x.queued v → ∃ t, Runs (.creditAudit n p v none) s t ∧
      (linkOf n p t).credits = listSet x.credits v (8 - listGet 0 x.queued v) ∧ getF NOC_STATUS_CREDIT_FIX t = 1 ∧
      getC (ctNoc 3) t = getC (ctNoc 3) (addC (ctNoc 3) (8 - listGet 0 x.queued v - listGet 0 x.credits v) s))) ∧
  (∀ s, Does .ptraceRestart s (setF PTRACE_STATUS_WRAPPED 0 (setF PTRACE_STATUS_FULL 0 (setF PTRACE_STATUS_WPTR 0 s))))

/-- The NoC commands (R259, R262, R271 to R273). -/
def Obligations.NocCommands : Prop :=
  (∀ s (mb : Fin 14) r, Asks sheetNocStatus mb r s → ∃ p, p.length = 74 ∧ fieldAt p 0 4 = nocStatusWord s % 2 ^ 32 ∧
    (∀ i < 11, fieldAt p (8 + 6 * i) 6 = (getC (ctNoc i) s).val % 2 ^ 48) ∧
    (arg r 0 1 = 0 → Oks (.nocStatus mb) mb r p s (seqPop s)) ∧
    (arg r 0 1 = 1 → ∃ t, Runs (.nocStatus mb) s t ∧ Answered r stOk p false t ∧ getF NOC_STATUS_MISROUTE t = 0 ∧
      getF NOC_STATUS_CFG_REJECT t = 0 ∧ ∀ i < 11, getC (ctNoc i) t = getC (ctNoc i) s)) ∧
  (∀ s (mb : Fin 14) r, Asks sheetNocQosSet mb r s → Oks (.nocQosSet mb) mb r [] s (setF (NOC_QOS_WGT (arg r 0 1)) (arg r 1 1) (seqPop s))) ∧
  (∀ s (mb : Fin 14) r, Asks sheetProbeSet mb r s → ∃ t, Runs (.probeSet mb) s t ∧ Answered r stOk [] false t ∧
    getF (PROBE_CFG_EN (arg r 0 1)) t = natOfBool (bitOf (arg r 4 4) 0) ∧ getF (PROBE_CFG_MODE (arg r 0 1)) t = bitsOf (arg r 4 4) 2 2 ∧
    getF (PROBE_CFG_ROUTER (arg r 0 1)) t = bitsOf (arg r 4 4) 8 6 ∧ getF (PROBE_NODE_SRC (arg r 0 1)) t = bitsOf (arg r 8 4) 0 7 ∧ getF (PROBE_NODE_DEST (arg r 0 1)) t = bitsOf (arg r 8 4) 16 7 ∧
      getF (PROBE_ADDR_LO_ADDR (arg r 0 1)) t = arg r 12 4 ∧
    getF (PROBE_ADDR_HI_ADDR (arg r 0 1)) t = arg r 16 4) ∧
  (∀ s (mb : Fin 14) r, Asks sheetProbeRead mb r s → ∃ p, Oks (.probeRead mb) mb r p s (seqPop s) ∧ p.length = 12 ∧
    fieldAt p 0 4 = probeCfgWord (arg r 0 1) s % 2 ^ 32 ∧ fieldAt p 4 6 = (getC (ctProbe (arg r 0 1)) s).val % 2 ^ 48) ∧
  (∀ s (mb : Fin 14) r, Asks sheetProbeTraceRead mb r s → ∃ p, Oks (.probeTraceRead mb) mb r p s (seqPop s) ∧ p.length = 4 + 32 * arg r 2 1 ∧
    fieldAt p 0 2 = getF PTRACE_STATUS_WPTR s % 65536 ∧
    ∀ i < arg r 2 1, (p.drop (4 + 32 * i)).take 32 = padTo 32 (tabGet [] s.noc.trace ((arg r 0 2 + i) % 2048))) ∧
  (∀ s (mb : Fin 14) r, Asks sheetTimedResSet mb r s → ∃ t p, Runs (.timedResSet mb) s t ∧ Answered r stOk p false t ∧
    getF (TRES_CFG0_SRC (arg r 0 1)) t = arg r 1 1 ∧ getF (TRES_CFG0_DEST (arg r 0 1)) t = arg r 2 1 ∧
    getF (TRES_CFG0_QUOTA (arg r 0 1)) t = arg r 3 1 ∧ getF (TRES_CFG0_DELAY (arg r 0 1)) t = arg r 4 1 ∧
    getF (TRES_CFG1_DURATION (arg r 0 1)) t = arg r 6 2 ∧ getF (TRES_CFG1_EN (arg r 0 1)) t = arg r 8 1 ∧
    p = leBytes 2 (minDelay (tresWith (arg r 0 1) t) (arg r 0 1) t)) ∧
  (∀ s (mb : Fin 14) r, Asks sheetTimedResStatus mb r s → ∃ p, Oks (.timedResStatus mb) mb r p s (seqPop s) ∧ p.length = 12 ∧
    fieldAt p 0 4 = regWord (TRES_CFG0_SRC (arg r 0 1)).addr s % 2 ^ 32 ∧ fieldAt p 8 4 = tresStatusWord (arg r 0 1) s % 2 ^ 32)

/-- The Passers (R268 to R270), and their commands. -/
def Obligations.PasserRows : Prop :=
  (∀ s (n : Fin 16), isSet (PASS_CTRL_EN n) s = false →
    Does (.passEnable n true) s (setF (PASS_STATUS_STATE n) 0 (setF (PASS_STATUS_ERR n) 0 (setF (PASS_CTRL_EN n) 1 s)))) ∧
  (∀ s (n : Fin 16), isSet (PASS_CTRL_EN n) s = true → (passOf n s).ops = [] → (passOf n s).desc = none → (passOf n s).aborting = false →
    getF (PASS_STATUS_STATE n) s ≠ 3 → Does (.passEnable n false) s (setF (PASS_STATUS_STATE n) 0 (setF (PASS_CTRL_EN n) 0 s))) ∧
  (∀ s (n : Fin 16) (v : BitVec 12), Does (.passProdWrite n v) s (setF (PASS_IDX_PROD n) (v.toNat % passRing n s) s)) ∧
  (∀ s (n : Fin 16),
    ((passOf n s).ops = [] → ∃ t, Runs (.passAbort n) s t ∧ getF (PASS_STATUS_ABORTED n) t = 1 ∧ getF (PASS_CTRL_EN n) t = 0 ∧
      getF (PASS_STATUS_STATE n) t = 0 ∧ (passOf n t).desc = none ∧ getF (PASS_IDX_CONS n) t = getF (PASS_IDX_CONS n) s) ∧
    ((passOf n s).ops ≠ [] → ∃ t, Runs (.passAbort n) s t ∧ (passOf n t).aborting = true ∧ (passOf n t).ops = (passOf n s).ops ∧
      getF (PASS_CTRL_EN n) t = getF (PASS_CTRL_EN n) s)) ∧
  (∀ s (n : Fin 16) d, passStopped n s = false → (passOf n s).desc = none → (passOf n s).ops = [] →
    getF (PASS_IDX_PROD n) s ≠ getF (PASS_IDX_CONS n) s → nodeOf (passAt n (getF (PASS_IDX_CONS n) s) s) = some d →
    ∃ t, Runs (.passerDescriptorFetch n) s t ∧ getF (PASS_STATUS_STATE n) t = 1 ∧ (passOf n t).ops = [⟨0, 0, 0, false, s.time.us⟩] ∧
      ∃ k ∈ t.noc.net, k.src = 93 + n.val ∧ k.dest = d ∧ k.op = opRd ∧ k.tag = 0 ∧ k.len = 0 ∧ k.addr = passAt n (getF (PASS_IDX_CONS n) s) s) ∧
  (∀ s (n : Fin 16) d, (passOf n s).desc = some d →
    (getF (PASS_STATUS_STATE n) s = 2 → passStopped n s = false → descDue d s = true → ∃ t, Runs (.passerWaitSlotStart n) s t ∧
      (passOf n t).started = true ∧ getF (PASS_STATUS_STATE n) t = 1) ∧
    (descDue d s = false → Does (.passerWaitSlotStart n) s s)) ∧
  (∀ s (n : Fin 16) d a, (passOf n s).desc = some d → (passOf n s).started = true → (passOf n s).ops = [] → descLen d ≤ (passOf n s).off →
    (passOf n s).worst = 0 → (passOf n s).aborting = false → (passOf n s).copy = false → getF (PASS_CTRL_RING_LOG2 n) s ≤ 12 →
    nodeOf ((passAt n (passOf n s).index s + 22) / 32 * 32) = some a → ∃ t, Runs (.passerDescriptorComplete n) s t ∧
      getF (PASS_IDX_CONS n) t = ((passOf n s).index + 1) % passRing n s ∧ getF (PASS_STATUS_STATE n) t = 0 ∧ (passOf n t).desc = none ∧
      (descFlag d 0 = true → getF (PASS_STATUS_COMPLETE n) t = 1) ∧
      ∃ k ∈ t.noc.net, k.src = 93 + n.val ∧ k.op = opWr ∧ k.addr = (passAt n (passOf n s).index s + 22) / 32 * 32) ∧
  (∀ s (n : Fin 16), (passOf n s).ops = [] → (passOf n s).aborting = false → ((passOf n s).worst ≠ 0 ∨ (passOf n s).badDesc = true) →
    (passOf n s).copy = false → getF (PASS_STATUS_STATE n) s ≠ 3 → ∃ t, Runs (.passerHalt n) s t ∧ getF (PASS_STATUS_STATE n) t = 3 ∧
      getF (PASS_STATUS_ERR n) t = (passOf n s).worst % 4 ∧ getF (PASS_STATUS_ERR_INDEX n) t = (passOf n s).index % 4096 ∧
      getF (PASS_IDX_CONS n) t = getF (PASS_IDX_CONS n) s ∧ (passOf n t).desc = none) ∧
  (∀ s (mb : Fin 14) r, Asks sheetPasserCopy mb r s →
    (isSet (PASS_CTRL_EN (arg r 0 1)) s = true → Replies (.passerCopy mb) mb r stBusy [] s (seqPop s)) ∧
    (isSet (PASS_CTRL_EN (arg r 0 1)) s = false → ∃ t, Runs (.passerCopy mb) s t ∧ Answered r stAccepted [] true t ∧
      getF (PASS_CTRL_EN (arg r 0 1)) t = 1 ∧ (passOf (arg r 0 1) t).copy = true ∧ (passOf (arg r 0 1) t).started = true ∧
      ∃ d, (passOf (arg r 0 1) t).desc = some d ∧ descDst d = arg r 12 8 ∧ descLen d = arg r 20 4 ∧ descFlag d 1 = decide (arg r 1 1 = 1))) ∧
  (∀ s (mb : Fin 14) r, Asks sheetPasserStatus mb r s → ∃ p, Oks (.passerStatus mb) mb r p s (seqPop s) ∧ p.length = 12 ∧
    fieldAt p 0 4 = regWord (PASS_CTRL_EN (arg r 0 1)).addr s % 2 ^ 32 ∧ fieldAt p 8 4 = regWord (PASS_STATUS_STATE (arg r 0 1)).addr s % 2 ^ 32)

/-- The DRAM commands (R330, R341, R342, R347, R350, R351). A RD of a channel whose bits are all right delivers what memory holds; a WR of a whole unit stores it, and nothing else in memory
changes; the request has left the queue and its response is on the network (R338, R339). -/
def Obligations.DramCommands : Prop :=
  ((∀ s (mb : Fin 14) r, Asks sheetDramStatus mb r s → drArg r < 4 ∧ ∃ p, Oks (.dramStatus mb) mb r p s (seqPop s) ∧ p.length = 76 ∧
    fieldAt p 0 4 = drCfgWord (drArg r) s % 2 ^ 32 ∧ fieldAt p 4 4 = drStatusWord (drArg r) s % 2 ^ 32 ∧
    fieldAt p 12 4 = drSize (drArg r) s / 2 ^ 20 % 2 ^ 32 ∧ ∀ i < 10, fieldAt p (16 + 6 * i) 6 = (getC (ctDR (drArg r) i) s).val % 2 ^ 48) ∧
  (∀ s (mb : Fin 14) r, Asks sheetDramErrors mb r s → (arg r 1 1 = 0 → ∃ p, Oks (.dramErrors mb) mb r p s (seqPop s) ∧ p.length = 60 ∧
    (∀ d < 20, fieldAt p (16 + 2 * d) 2 = getF (DRC_DEV_CE_COUNT (drArg r) d) s % 65536) ∧
    fieldAt p 56 4 = getF (DRC_SUSPECT_SUSPECT (drArg r)) s % 2 ^ 32) ∧
    (arg r 1 1 = 2 → ∃ p, Oks (.dramErrors mb) mb r p s (setF (DRC_SUSPECT_SUSPECT (drArg r)) 0 (seqPop s)))) ∧
  (∀ s (mb : Fin 14) r, Asks sheetDramQosSet mb r s → drArg r < 4 →
    (arg r 1 1 < 128 → Oks (.dramQosSet mb) mb r [] s (setF (DRC_QOS_TARGET_10NS (drArg r) (arg r 1 1)) (arg r 2 2) (seqPop s))) ∧
    (arg r 1 1 = 0xFF → Oks (.dramQosSet mb) mb r [] s (setF (DRC_QOS_DEFAULT_TARGET_10NS (drArg r)) (arg r 2 2) (seqPop s)))) ∧
  (∀ s (mb : Fin 14) r, Asks sheetDramPatrol mb r s → NotSafe 0x13 s → Oks (.dramPatrol mb) mb r [] s
    (setF (DRC_DEV_DEV_THRESH (drArg r)) (arg r 6 2) (setF (DRC_PATROL_T_TARGET_10NS (drArg r)) (arg r 4 2)
      (patrolWrite (drArg r) (decide (arg r 1 1 = 1)) (arg r 2 1) (seqPop s))))) ∧
  (∀ s (mb : Fin 14) r, Asks sheetDramRetrain mb r s → NotSafe 0x13 s → drUp (drArg r) s = false → isSet (DRC_CFG_EN (drArg r)) s = true ∧
    Accepts (.dramRetrain mb) mb r [drArg r] [] s (drTrain (drArg r) (decide (arg r 1 1 = 1)) (seqPop s)))) ∧
  ((∀ s (c : Fin 4) q, drPick c s = some q → drUp c s = true → q.pkt.op = opRd → q.pkt.addr % 32 = 0 → s.dram.errs = [] →
    s.dram.poison = [] → getF (DRC_CFG_ECC_MODE (drChannel q.pkt.addr)) s = 1 ∨ getF (DRC_CFG_ECC_MODE (drChannel q.pkt.addr)) s = 2 →
    drChannel q.pkt.addr = drChannel (q.pkt.addr + 32 * q.pkt.len) →
    ∃ t, Runs (.dramRead c ⟨[], 0⟩) s t ∧ t.dram.mem = s.dram.mem ∧ drReqs c t = (drReqs c s).erase q ∧
      ∃ k ∈ t.noc.net, k.dest = q.pkt.src ∧ k.op = opRdRsp ∧ k.status = nsOk ∧ k.tag = q.pkt.tag ∧ k.bad = [] ∧
        k.data = ((natsFrom 0 (q.pkt.len + 1)).map (fun i => memBytes 0 s.dram.mem (q.pkt.addr + 32 * i) 32)).flatten) ∧
  (∀ s (c : Fin 4) q, drPick c s = some q → drUp c s = true → q.pkt.op = opWr → q.pkt.addr % 64 = 0 → q.pkt.len = 1 →
    q.pkt.beFirst = 2 ^ 32 - 1 → q.pkt.beLast = 2 ^ 32 - 1 → q.pkt.data.length = 64 →
    ∃ t, Runs (.dramWrite c ⟨[], 0⟩) s t ∧ memBytes 0 t.dram.mem q.pkt.addr 64 = q.pkt.data ∧ drReqs c t = (drReqs c s).erase q ∧
      (∀ a, a < q.pkt.addr ∨ q.pkt.addr + 64 ≤ a → tabGet 0 t.dram.mem a = tabGet 0 s.dram.mem a) ∧ drPoisoned q.pkt.addr t = false ∧
      t.noc.net = s.noc.net))

/-- What happens on a DRAM channel (R331, R345 to R347, R350, R351). -/
def Obligations.DramEvents : Prop :=
  (∀ s (c : Fin 4) (k : Fin 8), getF (DRC_STATUS_STATE c) s = 1 → s.boot.stage = 0 → s.mail.running = [] → NotSafe 0x13 s →
    (∃ t, Runs (.dramTrainingComplete c true k) s t ∧ getF (DRC_STATUS_STATE c) t = 3 ∧
      getF (DRC_TRAIN_LAST_STEP c) t = (if tabGet false s.dram.retrainInit c then 8 else 7) ∧
      (tabGet false s.dram.retrainInit c = true → getF (DRC_STATUS_CONTENTS_LOST c) t = 0 ∧
        ∀ a, drChannel a = c.val → tabGet 0 t.dram.mem a = 0)) ∧
    (∃ t, Runs (.dramTrainingComplete c false k) s t ∧ getF (DRC_STATUS_STATE c) t = 4 ∧ getF (DRC_TRAIN_FAILED c) t = 1 ∧
      getF (DRC_TRAIN_LAST_STEP c) t = k.val ∧ t.dram.mem = s.dram.mem)) ∧
  (∀ s (c : Fin 4) n, drUp c s = true → isSet (DRC_PATROL_EN c) s = true → s.dram.errs = [] → s.dram.poison = [] →
    tabGet 0 s.dram.patrolAt c = n → n + 1 < drSize c s / 64 →
    Does (.patrolRead c ⟨[], 0⟩) s { useFree s with dram := { s.dram with patrolAt := tabSet 0 s.dram.patrolAt c (n + 1) } }) ∧
  (∀ s (c : Fin 4), timerOn (0x3000 + c.val) s = true → NotSafe 0x13 s →
    Does (.patrolOverrun c) s (setF (DRC_STATUS_OVERRUN c) 1 (expire (0x3000 + c.val) s))) ∧
  (∀ s (c : Fin 4), drUp c s = true → drReqs c s = [] → Does (.dramRefresh c) s { s with dram := { s.dram with
    postponed := tabSet 0 s.dram.postponed c (tabGet 0 s.dram.postponed c - 1)
    rows := tabCut (c.val * 256) (c.val * 256 + 256) s.dram.rows } }) ∧
  (∀ s (c : Fin 4) q, drUp c s = true → drReqs c s = [q] → q.target ≤ (s.time.us - q.us) * 100 → tabGet 0 s.dram.postponed c < 4 →
    Does (.dramRefresh c) s (incC (ctDR c 7) { s with dram := { s.dram with
      postponed := tabSet 0 s.dram.postponed c (tabGet 0 s.dram.postponed c + 1) } })) ∧
  (∀ s (c : Fin 4) hot, drUp c s = true → (hot ≠ isSet (DRC_STATUS_HOT c) s) → Does (.mr4Poll c hot) s (setB (DRC_STATUS_HOT c) hot s)) ∧
  (∀ s (c : Fin 4), drUp c s = true → Does (.alertN c) s (incC (ctDR c 8) s)) ∧
  (∀ s (c : Fin 4), drUp c s = true → drReqs c s = [] → s.dq.cells = [] → NotSafe 0x13 s → ∃ t, Runs (.dramChannelDown c) s t ∧
    getF (DRC_STATUS_STATE c) t = 4 ∧ getF (DRC_STATUS_DOWN_EV c) t = 1 ∧ getF (DRC_STATUS_CONTENTS_LOST c) t = 1 ∧
    timerOn (0x3000 + c.val) t = false ∧ t.dram.mem = s.dram.mem)

/-- Module identity (R101, R102, R104, R109 to R112). -/
def Obligations.ModuleRows : Prop :=
  (∀ s x, timerOn 9 s = true → isSet MID_CTRL_POLL_EN s = false →
    Does (.modulePoll x) s (startFirm 9 (getF MID_CTRL_POLL_MS s * 1000) (expire 9 s))) ∧
  (∀ s x (n : Fin 4), timerOn 9 s = true → isSet MID_CTRL_POLL_EN s = true → isSet (MID_BUS_EN n) s = true → bitOf x.stuck.toNat n = true →
    ∃ t, Runs (.modulePoll x) s t ∧ getF (MID_BUS_BUS_STUCK n) t = 1 ∧ t.sites.pulsed = [] ∧
      ∀ k, siteExists k s = true → k / 8 = n.val → getF (MID_SITE_STATE k) t = 5) ∧
  (∀ s (n : Fin 4), Does (.modprsPulse n) s { setF (MID_BUS_PRS_LATCH n) 1 s with
    sites := { s.sites with pulsed := n.val :: s.sites.pulsed.filter (fun b => decide (b ≠ n.val)) } }) ∧
  (∀ s (mb : Fin 14) r, Asks sheetModuleList mb r s → ∃ p, Oks (.moduleList mb) mb r p s (seqPop s) ∧ p.length = 128 ∧
    ∀ k < 32, fieldAt p (4 * k) 1 = getF (MID_SITE_STATE k) s % 256) ∧
  (∀ s (mb : Fin 14) r d, Asks (sheetModuleRead (some d) false) mb r s →
    Oks (.moduleRead mb (some d) false) mb r (padTo (arg r 5 1) d) s (seqPop s)) ∧
  (∀ s (mb : Fin 14) r x, Asks (sheetModuleRecheck x) mb r s → arg r 0 1 < 32 →
    siteFails ((x.sites.find? (fun p => decide (p.1.val = arg r 0 1))).map (·.2)) = false → ∃ t, Runs (.moduleRecheck mb x) s t ∧
      Answered r stOk (leBytes 1 (getF (MID_SITE_STATE (arg r 0 1)) t)) false t) ∧
  (∀ s (mb : Fin 14) r, Asks sheetModuleAccept mb r s → arg r 0 1 < 32 ∧ ∃ t, Runs (.moduleAccept mb) s t ∧ Answered r stOk [] false t ∧
    getF (MID_SITE_STATE (arg r 0 1)) t = 7 ∧ getF (MID_SITE_ACCEPTED (arg r 0 1)) t = 1 ∧ siteOk (arg r 0 1) t = true ∧
    ∀ k < 32, k ≠ arg r 0 1 → getF (MID_SITE_STATE k) t = getF (MID_SITE_STATE k) s) ∧
  (∀ s (mb : Fin 14) r, Asks (sheetModuleTxDisable true) mb r s → Oks (.moduleTxDisable mb true) mb r [] s
    (setB (MID_SITE_TX_DIS (arg r 0 1)) (!siteOk (arg r 0 1) s)
      { seqPop s with sites := { s.sites with txMask := tabSet 0 s.sites.txMask (arg r 0 1) (arg r 1 1) } })) ∧
  (∀ s (mb : Fin 14) r x, Asks (sheetModuleImrWrite true true x) mb r s → ∃ t, Runs (.moduleImrWrite mb true true x) s t ∧
    Answered r stOk (leBytes 1 (getF (MID_SITE_STATE (arg r 0 1)) t)) false t)

/-- The Whistle's rows (R370 to R386): levels, claims, completions, flush, latches and faults. The Whistle's commands (R374, R375, R378, R379, R382). -/
def Obligations.WhistleRows : Prop :=
  ((∀ s, Does (.whistleSourceChange none) s s) ∧
  (∀ s (g : Fin 80) (i : BitVec 8), Does (.whistleSourceChange (some (g, i, true))) s { s with fab := { s.fab with
    irq := tabSet 0 s.fab.irq g i.toNat, throttle := g.val :: s.fab.throttle.filter (fun x => decide (x ≠ g.val)) } }) ∧
  (∀ s (n : BitVec 7) (t : Fin 6), whNodeMay t n.toNat = false → ∃ u, Runs (.whClaim n t) s u ∧ Noted s u ∧ .accessError nsTargetError ∈ u.out) ∧
  (∀ s (n : BitVec 7) (t : Fin 6), whNodeMay t n.toNat = true → whHeld t s = false → (whStack t s).length < 16 →
    (∀ i, whBest t s = some i → ∃ u, Runs (.whClaim n t) s u ∧ whStack t u = (i, whPrio i s) :: whStack t s ∧ whInService i u = true ∧
      (∀ k, k ≠ t.val → whStack k u = whStack k s) ∧ .readData (i + 2 ^ 16 * whPrio i s) ∈ u.out) ∧
    (whBest t s = none → ∃ u, Runs (.whClaim n t) s u ∧ Noted s u ∧ .readData (if bitOf s.wh.seen t then 511 else 0) ∈ u.out)) ∧
  (∀ s (t : Fin 6), Does (.whFlush t) s (whSetStack t [] s)) ∧
  (∀ s (v : BitVec 32), getF (WH_LATCH_LATCH 15) s < 2 ^ 32 →
    (∃ u, Runs (.whPendSet 15 v) s u ∧ getF (WH_LATCH_LATCH 15) u = getF (WH_LATCH_LATCH 15) s ||| (v.toNat &&& 0x7FFF0000)) ∧
    (∃ u, Runs (.whPendClr 15 v) s u ∧ ∀ b < 32, bitOf (getF (WH_LATCH_LATCH 15) u) b =
      (bitOf (getF (WH_LATCH_LATCH 15) s) b && !(bitOf v.toNat b && decide (16 ≤ b) && decide (b ≤ 30))))) ∧
  (∀ s (w : Fin 16) (v : BitVec 32), w.val ≠ 15 → Does (.whPendSet w v) s s ∧ Does (.whPendClr w v) s s) ∧
  (∀ s (t : Fin 6), NotSafe 0x0F s → Does (.whistleParityError (some t)) s (whSetStack t [] (setF (WH_TSTATUS_PARITY t) 1 s))) ∧
  (∀ s, NotSafe 0x0F s → Does (.whistleParityError none) s (setF WH_CTRL_PARITY 1 s))) ∧
  ((∀ s (mb : Fin 14) r, Asks sheetWhistleStatus mb r s → ∃ p, Oks (.whistleStatus mb) mb r p s (seqPop s) ∧ p.length = 28 ∧
    fieldAt p 0 1 = whPrio (arg r 0 2) s % 256 ∧ bitOf (fieldAt p 2 1) 0 = whPending (arg r 0 2) s ∧
    bitOf (fieldAt p 2 1) 1 = whInService (arg r 0 2) s ∧ ∀ t < 6, fieldAt p (4 + 4 * t) 4 = whTStatusWord t s % 2 ^ 32) ∧
  (∀ s (mb : Fin 14) r, Asks sheetWhistleSourceSet mb r s → ∃ u, Runs (.whistleSourceSet mb) s u ∧ Answered r stOk [] false u ∧
    ∀ i, arg r 0 2 ≤ i → i < arg r 0 2 + arg r 2 2 → (arg r 4 1 ≠ 0xFF → whPrio i u = arg r 4 1) ∧
      ∀ t < 6, (bitOf (arg r 5 1) t = true → whEnabled t i u = true) ∧ (bitOf (arg r 6 1) t = true → whEnabled t i u = false)) ∧
  (∀ s (mb : Fin 14) r i, Asks sheetWhistleHostClaim mb r s → (whStack 5 s).length < 16 → whBest 5 (seqPop s) = some i →
    ∃ u, Runs (.whistleHostClaim mb) s u ∧ whStack 5 u = (i, whPrio i s) :: whStack 5 s ∧
      Answered r stOk (leBytes 2 i ++ leBytes 1 (whPrio i s) ++ leBytes 1 ((whStack 5 s).length + 1)) false u) ∧
  (∀ s (mb : Fin 14) r p l, Asks sheetWhistleHostComplete mb r s → arg r 0 2 ≠ 0 → arg r 0 2 ≠ 511 → whStack 5 s = (arg r 0 2, p) :: l →
    ∃ u, Runs (.whistleHostComplete mb) s u ∧ whStack 5 u = l ∧ Answered r stOk (leBytes 1 l.length ++ [0]) false u))

/-- The Playmakers' cores (R388 to R395): reset and start, the beat compare, the watchdog, the wait, a pair's fault, RAM errors. -/
def Obligations.PlaymakerRows : Prop :=
  (∀ s (n : Fin 4), pmSecond n s = false → NotSafe 0x13 s →
    (∃ t, Runs (.pmRunWrite n false) s t ∧ pmState n t = 0 ∧ getF (PM_CTRL_RUN n) t = 0) ∧
    (pmState n s = 0 → pmMayRun s = false → Does (.pmRunWrite n true) s (setF (PM_STATUS_CFG_REJECT n) 1 s)) ∧
    (pmState n s = 0 → pmMayRun s = true → isSet (PM_CTRL_HALT_ON_RESET n) s = false → ∃ t, Runs (.pmRunWrite n true) s t ∧
      pmState n t = 1 ∧ getF (PM_CTRL_RUN n) t = 1 ∧ corePc n t = pmBoot n s) ∧
    (pmState n s = 0 → pmMayRun s = true → isSet (PM_CTRL_HALT_ON_RESET n) s = true → ∃ t, Runs (.pmRunWrite n true) s t ∧
      pmState n t = 3 ∧ getF (DBG_STATUS_CAUSE n) t = 6)) ∧
  (∀ s (n : Fin 4), Does (.beatArm n) s (coreUpd n (fun c => { c with beatArm := true, lateArm := !beatAhead n s }) s)) ∧
  (∀ s (n : Fin 4), (coreOf n s).beatArm = true → s.clk.fine = 0 → isSet GC_CTRL_RUN s = true → beatAhead n s = false →
    ∃ t, Runs (.beatCompareFire n) s t ∧ (coreOf n t).beat = true ∧ (coreOf n t).beatArm = false ∧
      (coreOf n t).late = ((coreOf n s).late || (coreOf n s).lateArm || decide (beatAt n s ≠ (s.clk.turn, s.clk.slot)))) ∧
  (∀ s (n : Fin 4), (coreOf n s).beatArm = false ∨ beatAhead n s = true → Does (.beatCompareFire n) s s) ∧
  (∀ s (n : Fin 4), Does (.icinv n) s (coreUpd n (fun c => { c with icache := [] }) s)) ∧
  (∀ s (n : Fin 4) v, (v ≠ 0x5A5A → Does (.wdogKick n v) s s) ∧ (v = 0x5A5A → wdogCounts n s = true → ∃ t, Runs (.wdogKick n v) s t ∧
    tabFind t.time.deadlines (tmWdog n) = some (s.time.us + getF (PM_WDOG_TIMEOUT_MS n) s * 1000))) ∧
  (∀ s (n : Fin 4), NotSafe 0x13 s → timerOn (tmWdog n) s = true → isSet (PM_WDOG_RESTART n) s = false → ∃ t, Runs (.watchdogExpiry n) s t ∧
    pmState n t = 0 ∧ getF (PM_STATUS_WDOG_EV n) t = 1 ∧ timerOn (tmWdog n) t = false ∧
    getC (ctPm n 2) t = getC (ctPm n 2) (incC (ctPm n 2) s)) ∧
  (∀ s (n : Fin 4) (m : BitVec 3) x, pmState n s = 1 → pmSecond n s = false → x.items = [] →
    (coreInputs n s &&& m.toNat = 0 → ∃ t, Runs (.waitInstruction n m x) s t ∧ pmState n t = 2 ∧ (coreOf n t).mask = m.toNat) ∧
    (coreInputs n s &&& m.toNat ≠ 0 → Does (.waitInstruction n m x) s s)) ∧
  (∀ s (n : Fin 4) a, pmState n s = 2 → pmSecond n s = false →
    (coreInputs n s &&& (coreOf n s).mask ≠ 0 → ∃ t, Runs (.dozeWake n a) s t ∧ pmState n t = 1) ∧
    (coreInputs n s &&& (coreOf n s).mask = 0 → Does (.dozeWake n a) s s)) ∧
  (∀ s (p : Fin 2) (b : Bool), (pairRuns (2 * p.val) s = false → Does (.lockstepFault p b) s s) ∧
    (pairRuns (2 * p.val) s = true → NotSafe 0x0D s → NotSafe 0x13 s → ∃ t, Runs (.lockstepFault p b) s t ∧ pmState (2 * p.val) t = 4 ∧
      pmState (2 * p.val + 1) t = 4 ∧ getF (PM_STATUS_LS_FAULT (2 * p.val)) t = 1 ∧ bitOf (getF LJ_ALARM_LATCH_ALARM t) 12 = true)) ∧
  (∀ s (n : Fin 4), Does (.ramEccError n true) s (setF (PM_STATUS_RAM_UE n) 1 (incC (ctPm n 1) s))) ∧
  (∀ s (n : Fin 4), ∃ t, Runs (.ramEccError n false) s t ∧ getC (ctPm n 0) t = getC (ctPm n 0) (incC (ctPm n 0) s))

/-- Run control, break and watch units, and trace (R396 to R408). -/
def Obligations.RunControl : Prop :=
  (∀ s (n : Fin 4) x, pmSecond n s = false → (pmState n s = 1 → ∃ t, Runs (.haltReq n x) s t ∧ pmState n t = 3 ∧ getF (DBG_STATUS_HALTED n) t = 1 ∧
      getF (DBG_STATUS_CAUSE n) t = 1 ∧ corePc n t = x.pc.toNat ∧ tabGet 0 (coreOf n t).regs 33 = x.status.toNat) ∧
    (pmState n s = 0 ∨ pmState n s = 4 → Does (.haltReq n x) s s)) ∧
  (∀ s (n : Fin 4) x, pmSecond n s = true → Does (.haltReq n x) s (setF DBG_GLOBAL_CFG_REJECT 1 s)) ∧
  (∀ s (n : Fin 4), pmSecond n s = false → pmState n s = 3 → ∃ t, Runs (.resume n) s t ∧ pmState n t = 1 ∧ getF (DBG_STATUS_HALTED n) t = 0 ∧
    (coreOf n t).skipBp = true ∧ (coreOf n t).regs = (coreOf n s).regs) ∧
  (∀ s (n : Fin 4) x, pmSecond n s = false → (pmState n s = 3 → ∃ t, Runs (.step n none x) s t ∧ pmState n t = 3 ∧ getF (DBG_STATUS_CAUSE n) t = 5 ∧
      corePc n t = x.pc.toNat) ∧
    (pmState n s ≠ 3 → Does (.step n none x) s (setF (DBG_STATUS_ACC_ERR n) 1 s))) ∧
  (∀ s (n : Fin 4) (i : BitVec 6), pmSecond n s = false → (pmState n s = 3 → i.toNat < 34 → Does (.regRd n i) s
      (setF (DBG_REGDATA_HI_DATA n) (tabGet 0 (coreOf n s).regs i.toNat / 2 ^ 32) (setF (DBG_REGDATA_LO_DATA n) (tabGet 0 (coreOf n s).regs i.toNat)
        (setF (DBG_REGSEL_INDEX n) i.toNat s)))) ∧
    (pmState n s ≠ 3 → Does (.regRd n i) s (setF (DBG_STATUS_ACC_ERR n) 1 (setF (DBG_REGSEL_INDEX n) i.toNat s)))) ∧
  (∀ s (n : Fin 4) (i : BitVec 6), pmSecond n s = false → pmState n s = 3 → i.toNat < 32 → ∃ t, Runs (.regWr n i) s t ∧
    tabGet 0 (coreOf n t).regs i.toNat = getF (DBG_REGDATA_LO_DATA n) s + getF (DBG_REGDATA_HI_DATA n) s * 2 ^ 32 ∧
    ∀ k, k ≠ i.toNat → tabGet 0 (coreOf n t).regs k = tabGet 0 (coreOf n s).regs k) ∧
  (∀ s (n : Fin 4) x k, pmState n s = 1 → pmSecond n s = false → x.items = [] → (coreOf n s).skipBp = false →
    (natsFrom 0 8).filter (fun j => bpMatches n j x.pc.toNat s) = [k] → getF (BP_CTRL_ACTION n k) s = 1 → isSet (SEQ_CTRL_EN n) s = false →
    ∃ t, Runs (.breakpointMatch n x) s t ∧ pmState n t = 3 ∧ getF (DBG_STATUS_CAUSE n) t = 2 ∧ getF (DBG_STATUS_UNIT n) t = k) ∧
  (∀ s (n : Fin 4) x, pmState n s = 1 → (coreOf n s).skipBp = true → x.items = [] → Does (.breakpointMatch n x) s s) ∧
  (∀ s (n : Fin 4) d x u, pmState n s = 1 → pmSecond n s = false → x.items = [] → wpHits n d s = [u] → unitAction n u s = 1 →
    isSet (SEQ_CTRL_EN n) s = false → ∃ t, Runs (.watchMatch n d x) s t ∧ pmState n t = 3 ∧ getF (DBG_STATUS_CAUSE n) t = 3 ∧
      getF (DBG_STATUS_UNIT n) t = u) ∧
  (∀ s (n : Fin 4), pmSecond n s = false → ∃ t, Runs (.traceRestart n) s t ∧ getF (TR_STATUS_WPTR n) t = 0 ∧ getF (TR_STATUS_FULL n) t = 0 ∧
    (∀ i < 65536, tabGet 0 t.pm.trace (n.val * 65536 + i) = 0) ∧ (coreOf n t).resync = true) ∧
  (∀ s (n : Fin 4) (k : BitVec 16), (traceOn n s = true → ∃ t, Runs (.traceOverflow n k) s t ∧ getF (TR_STATUS_OVF n) t = 1 ∧
      (coreOf n t).lost = some (min ((coreOf n s).lost.getD 0 + k.toNat) 65535)) ∧
    (traceOn n s = false → Does (.traceOverflow n k) s s))

/-- The TAP's instructions and DBG_MCMD (R401, R409 to R413). -/
def Obligations.JtagAndMemory : Prop :=
  (∀ s (a d : BitVec 2136), ∀ p ∈ [(Instr.extest a d, 0x00), (Instr.extestPulse a d, 0x05), (Instr.extestTrain a d, 0x06)],
    ∃ t, Runs p.1 s t ∧ t.pm.ir = p.2 ∧ t.pm.pinsTaken = !scanBarred s ∧ t.pm.boundary = d.toNat ∧ .tdo a.toNat 2136 ∈ t.out) ∧
  (∀ s (a d : BitVec 2136), ∃ t, Runs (.samplePreload a d) s t ∧ t.pm.ir = 1 ∧ t.pm.pinsTaken = false ∧ t.pm.boundary = d.toNat ∧
    .tdo a.toNat 2136 ∈ t.out) ∧
  (∀ s, ∃ t, Runs .idcode s t ∧ Noted { s with pm := { s.pm with ir := 2, pinsTaken := false } } t ∧ .tdo 0x2A2601E3 32 ∈ t.out) ∧
  (∀ s, ∀ p ∈ [(Instr.highz, 0x03), (Instr.clamp, 0x04)],
    ∃ t, Runs p.1 s t ∧ Noted { s with pm := { s.pm with ir := p.2, pinsTaken := !scanBarred s } } t ∧ .tdo 0 1 ∈ t.out) ∧
  (∀ s, ∃ t, Runs .bypass s t ∧ Noted { s with pm := { s.pm with ir := 0xFF, pinsTaken := false } } t ∧ .tdo 0 1 ∈ t.out) ∧
  (∀ s, ∃ t, Runs .trstN s t ∧ t.pm.ir = 2 ∧ t.pm.pinsTaken = false ∧ getF (MB_STATUS_BUSY 13) t = 0 ∧ getF (MB_STATUS_RESET_SEEN 13) t = 1) ∧
  (∀ s (n : Fin 4) (j : Bool), pmSecond n s = false → NotSafe 0x13 s → (coreOf n s).mcmd = none → 0xFFFE000000 ≤ mcmdAddr n s →
    mcmdAddr n s < 0xFFFE400000 →
    (∃ t, Runs (.dbgMcmdRead n j) s t ∧ getF (DBG_MCMD_DONE n) t = 1 ∧ getF (DBG_MCMD_ERR n) t = 0 ∧
      getF (DBG_MDATA_DATA n) t = leNat (sharedRead (mcmdAddr n s - 0xFFFE000000) 4 s)) ∧
    ∃ t, Runs (.dbgMcmdWrite n j) s t ∧ getF (DBG_MCMD_DONE n) t = 1 ∧ getF (DBG_MCMD_ERR n) t = 0 ∧
      sharedRead (mcmdAddr n s - 0xFFFE000000) 4 t = leBytes 4 (getF (DBG_MDATA_DATA n) s)) ∧
  (∀ s (d : BitVec 64), NotSafe 0x13 s → jtagLevel s = 2 → ∃ t, Runs (.mbox d) s t ∧ t.mail = s.mail ∧ .tdo 0 1 ∈ t.out) ∧
  (∀ s (d : BitVec 64), NotSafe 0x13 s → jtagLevel s ≠ 2 → bitsOf d.toNat 48 2 = 1 → bitsOf d.toNat 32 16 < 0x1080 →
    getF (MB_STATUS_BUSY 13) s = 0 → ∃ t, Runs (.mbox d) s t ∧
      memBytes 0 (boxOf 13 t).req (bitsOf d.toNat 32 16 / 4 * 4) 4 = leBytes 4 d.toNat ∧
      .tdo (s.pm.mboxData + 2 ^ 48 * natOfBool s.pm.mboxErr) 64 ∈ t.out) ∧
  (∀ s (d : BitVec 56), NotSafe 0x13 s → (jtagLevel s = 2 → ∃ t, Runs (.dbg d) s t ∧ .tdo 0 1 ∈ t.out) ∧
    (jtagLevel s ≠ 2 → bitOf d.toNat 50 = false → 4 * bitsOf d.toNat 32 18 < 0x40000 → pmSecond (4 * bitsOf d.toNat 32 18 / 65536) s = false →
      ∃ t, Runs (.dbg d) s t ∧ t.pm.dbgData = memWord 0 s.pm.trace (4 * bitsOf d.toNat 32 18) ∧ t.pm.dbgErr = false ∧
        .tdo (s.pm.dbgData + 2 ^ 51 * natOfBool s.pm.dbgErr) 56 ∈ t.out))

/-- The DEBUG commands (R391, R396 to R398, R400, R407). -/
def Obligations.DebugCommands : Prop :=
  (∀ s (mb : Fin 14) r, Asks sheetPmStatus mb r s → ∃ p, Oks (.pmStatusQuery mb) mb r p s (seqPop s) ∧ p.length = 44 ∧
    fieldAt p 4 4 = regWord (PM_STATUS_STATE (arg r 0 1)).addr s % 2 ^ 32 ∧
    (pmState (arg r 0 1) s ≠ 3 → fieldAt p 12 8 = 0) ∧ ∀ i < 4, fieldAt p (20 + 6 * i) 6 = (getC (ctPm (arg r 0 1) i) s).val % 2 ^ 48) ∧
  (∀ s (mb : Fin 14) r, Asks sheetPmStart mb r s → NotSafe 0x13 s → arg r 1 1 = 0 → ∃ t, Runs (.pmStart mb) s t ∧
    Answered r stOk [] false t ∧ pmState (arg r 0 1) t = 1 ∧ getF (PM_CTRL_RUN (arg r 0 1)) t = 1 ∧ corePc (arg r 0 1) t = arg r 4 8) ∧
  (∀ s (mb : Fin 14) r, Asks sheetPmReset mb r s → NotSafe 0x13 s → ∃ t, Runs (.pmReset mb) s t ∧
    pmState (arg r 0 1) t = 0 ∧ getF (PM_CTRL_RUN (arg r 0 1)) t = 0 ∧ (r.mb ≠ 9 + arg r 0 1 → r.mb ≠ 10 + arg r 0 1 → Answered r stOk [] false t)) ∧
  (∀ s (mb : Fin 14) r, Asks sheetPmLoad mb r s →
    Accepts (.pmLoad mb) mb r [arg r 0 1, arg r 4 8, arg r 12 8, arg r 20 4] [] s (seqPop s)) ∧
  (∀ s (mb : Fin 14) r x, Asks (sheetDebugRun true x) mb r s → ∃ t p, Runs (.debugRun mb true x) s t ∧ Answered r stOk p false t ∧
    p.length = 4 ∧ (arg r 1 1 = 0 → pmState (arg r 0 1) t = 3) ∧ (arg r 1 1 = 1 → pmState (arg r 0 1) t = 1) ∧
    (arg r 1 1 = 2 → pmState (arg r 0 1) t = 3 ∧ corePc (arg r 0 1) t = x.pc.toNat)) ∧
  (∀ s (mb : Fin 14) r x, Asks (sheetDebugRun false x) mb r s → arg r 1 1 = 0 → pmState (arg r 0 1) s ≠ 3 →
    Replies (.debugRun mb false x) mb r stTimeout [] s (seqPop s)) ∧
  (∀ s (mb : Fin 14) r x, Asks (sheetDebugAccess x) mb r s → NotSafe 0x13 s →
    (arg r 1 1 = 0 → arg r 2 1 = 0 → arg r 4 8 < 34 → ∃ t v, v = tabGet 0 (coreOf (arg r 0 1) s).regs (arg r 4 8) ∧ Runs (.debugAccess mb x) s t ∧
      Answered r stOk (leBytes 4 v ++ leBytes 4 (v / 2 ^ 32)) false t) ∧
    (arg r 1 1 = 0 → arg r 2 1 = 1 → arg r 4 8 < 32 → ∃ t, Runs (.debugAccess mb x) s t ∧ Answered r stOk [] false t ∧
      tabGet 0 (coreOf (arg r 0 1) t).regs (arg r 4 8) = arg r 16 8) ∧
    (arg r 1 1 = 1 → arg r 2 1 = 0 → arg r 12 2 = 4 → 0xFFFE000000 ≤ arg r 4 8 → arg r 4 8 < 0xFFFE400000 → ∃ t,
      Runs (.debugAccess mb x) s t ∧ Answered r stOk (sharedRead (arg r 4 8 - 0xFFFE000000) 4 s) false t)) ∧
  (∀ s (mb : Fin 14) r, Asks sheetDebugUnitsSet mb r s → ∃ t, Runs (.debugUnitsSet mb) s t ∧ Answered r stOk [] false t ∧
    (∀ k < 8, getF (BP_CTRL_EN (arg r 0 1) k) t = bitsOf (arg r (4 + 4 * (4 * k + 3)) 4) 0 1) ∧
    (∀ k < 4, getF (WP_CTRL_EN (arg r 0 1) k) t = bitsOf (arg r (4 + 4 * (32 + 8 * k + 7)) 4) 0 1) ∧
    getF (SEQ_CTRL_EN (arg r 0 1)) t = bitsOf (arg r 260 4) 0 1) ∧
  (∀ s (mb : Fin 14) r, Asks sheetTraceAccess mb r s → pmSecond (arg r 0 1) s = false →
    (arg r 1 1 = 0 → ∃ p, Oks (.traceAccess mb) mb r p s (seqPop s) ∧ p.length = 4 + arg r 8 2 ∧
      ∀ i < arg r 8 2, listGet 0 p (4 + i) = tabGet 0 s.pm.trace (arg r 0 1 * 65536 + (arg r 4 4 + i) % 65536)) ∧
    (arg r 1 1 = 1 → ∃ t p, Runs (.traceAccess mb) s t ∧ Answered r stOk p false t ∧ getF (TR_STATUS_WPTR (arg r 0 1)) t = 0))

/-- The Scorebook (R414 to R422, R426): the RECORD commands, the page timer, tallies that close, and the commit of the counters. -/
def Obligations.ScorebookRows : Prop :=
  (∀ s (mb : Fin 14) r, Asks sheetRecordStatus mb r s → ∃ p, Oks (.recordStatus mb) mb r p s (seqPop s) ∧ p.length = 24 ∧
    fieldAt p 0 4 = s.sb.oldest % 2 ^ 32 ∧ fieldAt p 4 4 = s.sb.next % 2 ^ 32 ∧ fieldAt p 8 4 = opsec s % 2 ^ 32 ∧
    fieldAt p 12 4 = s.sb.pcycle % 2 ^ 32 ∧ fieldAt p 16 4 = regWord SB_STATUS_LOST.addr s % 2 ^ 32 ∧
    fieldAt p 20 1 = s.sb.tallies.length % 256) ∧
  (∀ s (mb : Fin 14) r x l, Asks (sheetRecordRead false) mb r s → s.sb.waiting = x :: l → l.length < 512 → s.sb.next < 2 ^ 32 →
    arg r 0 4 = sbFirstWaiting s →
    (sbFirstWaiting s + 2 ^ 32 - s.sb.oldest) % 2 ^ 32 ≤ (s.sb.next + 2 ^ 32 - s.sb.oldest) % 2 ^ 32 →
    ∃ p, Oks (.recordRead mb false) mb r p s (seqPop s) ∧ fieldAt p 0 4 = sbFirstWaiting s ∧
      fieldAt p 4 1 = min (arg r 4 1) (l.length + 1) ∧ (p.drop 8).take 32 = recBytes x) ∧
  (∀ s (mb : Fin 14) r, Asks (sheetRecordRead true) mb r s → ∃ t, Runs (.recordRead mb true) s t ∧
    Answered r stHwFault [] false t ∧ getF FL_STATUS_UE_EV t = 1) ∧
  (∀ s (mb : Fin 14) r, Asks sheetRecordMark mb r s → s.sb.waiting = [] → s.sb.tallies = [] → s.sb.known = [] →
    ∃ t x, Runs (.recordMark mb) s t ∧ Answered r stOk (leBytes 4 s.sb.next) false t ∧ Told mb (seqPop s) t ∧ t.sb.waiting = [x] ∧
      x.code = 0x0010 ∧ x.arg = arg r 0 6 ∧ x.rep = 0 ∧ x.turn = s.clk.turn ∧ x.slot = s.clk.slot ∧ x.opsec = opsec s ∧
      t.sb.next = (s.sb.next + 1) % 2 ^ 32 ∧ tabFind t.time.deadlines 1 = some (s.time.us + 500000)) ∧
  (∀ s (mb : Fin 14) r, Asks sheetRecordWatch mb r s →
    Oks (.recordWatch mb) mb r [] s (setF SB_WATCH_HI (arg r 2 2) (setF SB_WATCH_LO (arg r 0 2) (seqPop s)))) ∧
  (∀ s b, timerOn 1 s = false → Does (.scorebookPageTimer b) s s) ∧
  (∀ s, timerOn 1 s = true → s.sb.live = true → flBusy 1 s = false → s.sb.page < 256 →
    (s.sb.dropped = 0 → s.sb.waiting.length ≤ 8 → ∃ t, Runs (.scorebookPageTimer false) s t ∧ Noted (expire 1 s) t ∧
      t.sb.waiting = [] ∧ t.sb.page = s.sb.page + 1 ∧ timerOn 1 t = false ∧
      flBytes (sbAddr s.sb.sector s.sb.page) 256 t = padTo 256 ((s.sb.waiting.map recBytes).flatten ++ List.replicate 256 0xFF)) ∧
    ∃ t, Runs (.scorebookPageTimer true) s t ∧ Noted (expire 1 s) t ∧ getF SB_STATUS_WRITE_FAIL t = 1) ∧
  (∀ s, s.sb.tallies = [] → Does .tallyClose s s) ∧
  (∀ s x, s.sb.tallies = [x] → s.sb.waiting = [] → ∃ t y, Runs .tallyClose s t ∧ t.sb.tallies = [] ∧ t.sb.waiting = [y] ∧ y.code = 1 ∧
    y.rep = x.count ∧ y.arg = x.code + 65536 * x.subj + 65536 * 65536 * (x.first % 65536) ∧ t.time.us = max s.time.us x.closeUs) ∧
  (∀ s, timerOn 8 s = false → Does .operatingTimeCommit s s) ∧
  (∀ s, timerOn 8 s = true → s.sb.waiting = [] → s.sb.tallies = [] → s.sb.live = true → flBusy 1 s = false →
    ∃ t, Runs .operatingTimeCommit s t ∧ t.sb.cseq = (s.sb.cseq + 1) % 2 ^ 32 ∧ t.sb.cpage = (s.sb.cpage + 1) % 4096 ∧
      flBytes (0xD000000 + s.sb.cpage * 256) 8 t = [0x4F, 0x50, 0x43, 0x31] ++ leBytes 4 (s.sb.cseq + 1) ∧
      tabFind t.time.deadlines 8 = some (t.time.us + 360000000))

/-- The SAFETY commands (R427, R439, R440, R443, R444, R446): status, latches cleared, SAFE entered and left, policies and limits. -/
def Obligations.SafetyCommands : Prop :=
  (∀ s (mb : Fin 14) r, Asks sheetSafetyStatus mb r s → ∃ p, Oks (.safetyStatus mb) mb r p s (seqPop s) ∧ p.length = 24 ∧
    fieldAt p 0 4 = ljStatusWord s % 2 ^ 32 ∧ fieldAt p 4 4 = condNow s % 2 ^ 32 ∧
    fieldAt p 8 4 = getF LJ_ALARM_ACT_ALARM s % 2 ^ 32 ∧ fieldAt p 12 4 = getF LJ_ALARM_LATCH_ALARM s % 2 ^ 32 ∧
    fieldAt p 20 1 = hottest s % 256 ∧ fieldAt p 22 2 = temp16 (hottest s) s % 65536) ∧
  (∀ s (mb : Fin 14) r, Asks sheetSafetyClear mb r s → ∃ t v, Runs (.safetyClear mb) s t ∧ Answered r stOk (leBytes 4 v) false t ∧
    getF LJ_ALARM_LATCH_ALARM t = v ∧ ∀ c < 22, bitOf v c = (bitOf (getF LJ_ALARM_LATCH_ALARM s) c &&
      (!bitOf (arg r 0 4) c || bitOf (getF LJ_ALARM_ACT_ALARM s) c))) ∧
  (∀ s (mb : Fin 14) r, Asks sheetSafeEnter mb r s → getF (policyFld 0x16) s = 2 → NotSafe 0x13 s →
    s.dev.state = .staged ∨ s.dev.state = .live ∨ s.dev.state = .quiesce →
    ∃ t, Runs (.safeEnter mb) s t ∧ Answered r stOk [] false t ∧ t.dev.state = .safe ∧ t.dev.cause = 3 ∧ t.dev.onAt = none ∧
      bitOf (getF LJ_ALARM_LATCH_ALARM t) 0x15 = true) ∧
  (∀ s (mb : Fin 14) r, Asks sheetSafeExit mb r s →
    (s.dev.state = .safe → safeBlocks s = 0 → ∃ t, Runs (.safeExit mb) s t ∧ Answered r stOk (leBytes 4 0) false t ∧ t.dev.state = .staged) ∧
    (s.dev.state ≠ .safe ∨ safeBlocks s ≠ 0 → Replies (.safeExit mb) mb r stWrongState (leBytes 4 (safeBlocks s)) s (seqPop s))) ∧
  (∀ s (mb : Fin 14) r, Asks sheetSafetyPolicy mb r s →
    (getF (policyFld (arg r 0 1)) s ≤ arg r 1 1 ∨ mb = 8 ∨ mb = 13) ∧ alarmMinimum (arg r 0 1) ≤ arg r 1 1 ∧
    ∃ t, Runs (.safetyPolicy mb) s t ∧ Answered r stOk (leBytes 1 (arg r 1 1)) false t ∧ getF (policyFld (arg r 0 1)) t = arg r 1 1 ∧
      ∀ d, 1 ≤ d → d ≤ 22 → d ≠ arg r 0 1 → getF (policyFld d) t = getF (policyFld d) s) ∧
  (∀ s (mb : Fin 14) r, Asks sheetGaugeRead mb r s → ∃ p, Oks (.gaugeRead mb) mb r p s (seqPop s) ∧ p.length = 84 ∧
    (∀ k < 16, fieldAt p (2 * k) 2 = temp16 k s % 65536) ∧ (∀ m < 24, fieldAt p (32 + 2 * m) 2 = getF (LJ_RAIL_MV m) s % 65536) ∧
    fieldAt p 80 4 = regWord LJ_TLIM_WARN.addr s % 2 ^ 32) ∧
  (∀ s (mb : Fin 14) r, Asks sheetGaugeLimits mb r s → (mb = 8 ∨ mb = 13) ∧ tlimOk (arg r 0 1) (arg r 1 1) (arg r 2 1) = true ∧
    Oks (.gaugeLimits mb) mb r [] s (tlimPut (arg r 0 1) (arg r 1 1) (arg r 2 1) (seqPop s)))

/-- The Line Judge's own rows (R432, R436 to R440, R443): an alarm latches, pulls FAULT_N and enters SAFE as its policy says; the
sensors, the rails, the self-test, a missed bound; the policy registers. -/
def Obligations.LineJudgeRows : Prop :=
  (∀ s (c : Fin 22) (j : BitVec 16) b, NotSafe (c.val + 1) s → NotSafe 0x13 s → ∃ t, Runs (.alarmRaise c j b) s t ∧ Noted s t ∧
    bitOf (getF LJ_ALARM_LATCH_ALARM t) c = true ∧ (b = true → c.val ≠ 0x12 → bitOf (getF LJ_ALARM_ACT_ALARM t) c = true) ∧
    (getF (policyFld (c.val + 1)) s = 1 → getF LJ_STATUS_FAULT_OUT t = 1)) ∧
  (∀ s (c : Fin 22) (j : BitVec 16) b, getF (policyFld (c.val + 1)) s = 2 → NotSafe 0x13 s →
    s.dev.state = .staged ∨ s.dev.state = .live ∨ s.dev.state = .quiesce → ∃ t, Runs (.alarmRaise c j b) s t ∧ t.dev.state = .safe ∧
      t.dev.cause = 3 ∧ bitOf (getF LJ_ALARM_LATCH_ALARM t) c = true) ∧
  (∀ s (l : List (BitVec 12)), NotSafe 0x10 s → NotSafe 0x13 s → l.length ≤ 16 → (∀ v ∈ l, signedOf v.toNat 12 ≤ 4 * getF LJ_TLIM_CRIT s) →
    ∃ t, Runs (.temperatureRead l) s t ∧ getF LJ_STATUS_TEMP_WARN t = natOfBool (tempAny 0 t) ∧
      ∀ (k : Fin l.length), getF (LJ_TEMP_TEMP k) t = l[k].toNat ∧
        (signedOf (getF (LJ_TEMP_MAX k) s) 12 < signedOf l[k].toNat 12 → getF (LJ_TEMP_MAX k) t = l[k].toNat) ∧
        (signedOf l[k].toNat 12 ≤ signedOf (getF (LJ_TEMP_MAX k) s) 12 → getF (LJ_TEMP_MAX k) t = getF (LJ_TEMP_MAX k) s) ∧
        (bitOf (tempState k 1 s) 0 = false → bitOf (tempState k 1 s) 1 = true → 4 * getF LJ_TLIM_LIMIT s < signedOf l[k].toNat 12 →
          bitOf (getF LJ_ALARM_LATCH_ALARM t) 0x0F = true)) ∧
  (∀ s (v : BitVec 12), NotSafe 0x10 s → NotSafe 0x13 s → getF (policyFld 0x11) s = 2 → s.dev.state = .staged →
    bitOf (tempState 0 2 s) 0 = false → bitOf (tempState 0 2 s) 1 = true → 4 * getF LJ_TLIM_CRIT s < signedOf v.toNat 12 →
    ∃ t, Runs (.temperatureRead [v]) s t ∧ t.dev.state = .safe ∧ bitOf (getF LJ_ALARM_LATCH_ALARM t) 0x10 = true) ∧
  (∀ s (l : List (BitVec 16)), NotSafe 0x12 s → NotSafe 0x13 s → l.length ≤ 24 → ∃ t, Runs (.railSample l) s t ∧
    ∀ (m : Fin l.length), getF (LJ_RAIL_MV m) t = l[m].toNat ∧ getF (LJ_RAIL_MIN_MV m) t = min (getF (LJ_RAIL_MIN_MV m) s) l[m].toNat ∧
      (m.val < 23 → tabGet 0 s.lj.rail m = 1 → (railRange m s).2 ≤ l[m].toNat → 10 * l[m].toNat < (railRange m s).1.1 →
        bitOf (getF LJ_ALARM_LATCH_ALARM t) 0x11 = true)) ∧
  (∀ s (x : SelfTestIn), NotSafe 0x13 s → x.ok = true → ∃ t, Runs (.lineJudgeSelftest x) s t ∧ Noted s t ∧ t.lj.othersLow = x.othersLow) ∧
  (∀ s (x : SelfTestIn), NotSafe 0x13 s → NotSafe 0x15 s → x.ok = false → getF LJ_STATUS_SELFTEST_FAIL s = 0 →
    ∃ t, Runs (.lineJudgeSelftest x) s t ∧ Noted s t ∧ getF LJ_STATUS_SELFTEST_FAIL t = 1 ∧ getF LJ_STATUS_FAULT_OUT t = 1 ∧
      bitOf (getF LJ_ALARM_LATCH_ALARM t) 0x14 = true) ∧
  (∀ s (m : Fin 5) (j : BitVec 16), NotSafe 0x13 s → NotSafe 0x14 s → getF LJ_STATUS_GUARANTEE s ≤ 1 →
    ∃ t, Runs (.detectionBoundMiss m j) s t ∧ Noted s t ∧ bitOf (getF LJ_ALARM_LATCH_ALARM t) 0x13 = true ∧
      bitOf t.lj.missed (m.val + 1) = true ∧ getF LJ_STATUS_GUARANTEE t = 0) ∧
  (∀ s (g : Fin 2) (v : BitVec 32), ∃ t, Runs (.ljPolicyWrite g v) s t ∧ ∀ c, 1 ≤ c → c ≤ 22 →
    ((c ≤ 16 ↔ g = 0) → ∀ p, p = bitsOf v.toNat (2 * ((c - 1) % 16)) 2 →
      (p < 3 → alarmMinimum c ≤ p → getF (policyFld c) t = p) ∧
      (p ≠ getF (policyFld c) s → 3 ≤ p ∨ p < alarmMinimum c → getF (policyFld c) t = getF (policyFld c) s ∧ getF LJ_STATUS_CFG_REJECT t = 1)) ∧
    (¬(c ≤ 16 ↔ g = 0) → getF (policyFld c) t = getF (policyFld c) s))
end

