-- ==== Sys2Proof/Laws/State.lean ====
section
/-! SUPPORT. The fields of State under the shared operations that write one field: one lemma for each field and operation, so that no proof
unfolds a record update. -/

namespace Sys2Proof.Machine

@[simp] theorem setF_ctrs (f : Fld) (v : Nat) (s : State) : (setF f v s).ctrs = s.ctrs := rfl
@[simp] theorem setF_latch (f : Fld) (v : Nat) (s : State) : (setF f v s).latch = s.latch := rfl
@[simp] theorem setF_time (f : Fld) (v : Nat) (s : State) : (setF f v s).time = s.time := rfl
@[simp] theorem setF_freeIdx (f : Fld) (v : Nat) (s : State) : (setF f v s).freeIdx = s.freeIdx := rfl
@[simp] theorem setF_clk (f : Fld) (v : Nat) (s : State) : (setF f v s).clk = s.clk := rfl
@[simp] theorem setF_dev (f : Fld) (v : Nat) (s : State) : (setF f v s).dev = s.dev := rfl
@[simp] theorem setF_mail (f : Fld) (v : Nat) (s : State) : (setF f v s).mail = s.mail := rfl
@[simp] theorem setF_wh (f : Fld) (v : Nat) (s : State) : (setF f v s).wh = s.wh := rfl
@[simp] theorem setF_sb (f : Fld) (v : Nat) (s : State) : (setF f v s).sb = s.sb := rfl
@[simp] theorem setF_flash (f : Fld) (v : Nat) (s : State) : (setF f v s).flash = s.flash := rfl
@[simp] theorem setF_lj (f : Fld) (v : Nat) (s : State) : (setF f v s).lj = s.lj := rfl
@[simp] theorem setF_dq (f : Fld) (v : Nat) (s : State) : (setF f v s).dq = s.dq := rfl
@[simp] theorem setF_rally (f : Fld) (v : Nat) (s : State) : (setF f v s).rally = s.rally := rfl
@[simp] theorem setF_sites (f : Fld) (v : Nat) (s : State) : (setF f v s).sites = s.sites := rfl
@[simp] theorem setF_gc (f : Fld) (v : Nat) (s : State) : (setF f v s).gc = s.gc := rfl
@[simp] theorem setF_pll (f : Fld) (v : Nat) (s : State) : (setF f v s).pll = s.pll := rfl
@[simp] theorem setF_boot (f : Fld) (v : Nat) (s : State) : (setF f v s).boot = s.boot := rfl
@[simp] theorem setF_fab (f : Fld) (v : Nat) (s : State) : (setF f v s).fab = s.fab := rfl
@[simp] theorem setF_cfg (f : Fld) (v : Nat) (s : State) : (setF f v s).cfg = s.cfg := rfl
@[simp] theorem setF_noc (f : Fld) (v : Nat) (s : State) : (setF f v s).noc = s.noc := rfl
@[simp] theorem setF_dram (f : Fld) (v : Nat) (s : State) : (setF f v s).dram = s.dram := rfl
@[simp] theorem setF_pm (f : Fld) (v : Nat) (s : State) : (setF f v s).pm = s.pm := rfl
@[simp] theorem setF_out (f : Fld) (v : Nat) (s : State) : (setF f v s).out = s.out := rfl
@[simp] theorem setF_pending (f : Fld) (v : Nat) (s : State) : (setF f v s).pending = s.pending := rfl

@[simp] theorem setB_ctrs (f : Fld) (b : Bool) (s : State) : (setB f b s).ctrs = s.ctrs := rfl
@[simp] theorem setB_latch (f : Fld) (b : Bool) (s : State) : (setB f b s).latch = s.latch := rfl
@[simp] theorem setB_time (f : Fld) (b : Bool) (s : State) : (setB f b s).time = s.time := rfl
@[simp] theorem setB_freeIdx (f : Fld) (b : Bool) (s : State) : (setB f b s).freeIdx = s.freeIdx := rfl
@[simp] theorem setB_clk (f : Fld) (b : Bool) (s : State) : (setB f b s).clk = s.clk := rfl
@[simp] theorem setB_dev (f : Fld) (b : Bool) (s : State) : (setB f b s).dev = s.dev := rfl
@[simp] theorem setB_mail (f : Fld) (b : Bool) (s : State) : (setB f b s).mail = s.mail := rfl
@[simp] theorem setB_wh (f : Fld) (b : Bool) (s : State) : (setB f b s).wh = s.wh := rfl
@[simp] theorem setB_sb (f : Fld) (b : Bool) (s : State) : (setB f b s).sb = s.sb := rfl
@[simp] theorem setB_flash (f : Fld) (b : Bool) (s : State) : (setB f b s).flash = s.flash := rfl
@[simp] theorem setB_lj (f : Fld) (b : Bool) (s : State) : (setB f b s).lj = s.lj := rfl
@[simp] theorem setB_dq (f : Fld) (b : Bool) (s : State) : (setB f b s).dq = s.dq := rfl
@[simp] theorem setB_rally (f : Fld) (b : Bool) (s : State) : (setB f b s).rally = s.rally := rfl
@[simp] theorem setB_sites (f : Fld) (b : Bool) (s : State) : (setB f b s).sites = s.sites := rfl
@[simp] theorem setB_gc (f : Fld) (b : Bool) (s : State) : (setB f b s).gc = s.gc := rfl
@[simp] theorem setB_pll (f : Fld) (b : Bool) (s : State) : (setB f b s).pll = s.pll := rfl
@[simp] theorem setB_boot (f : Fld) (b : Bool) (s : State) : (setB f b s).boot = s.boot := rfl
@[simp] theorem setB_fab (f : Fld) (b : Bool) (s : State) : (setB f b s).fab = s.fab := rfl
@[simp] theorem setB_cfg (f : Fld) (b : Bool) (s : State) : (setB f b s).cfg = s.cfg := rfl
@[simp] theorem setB_noc (f : Fld) (b : Bool) (s : State) : (setB f b s).noc = s.noc := rfl
@[simp] theorem setB_dram (f : Fld) (b : Bool) (s : State) : (setB f b s).dram = s.dram := rfl
@[simp] theorem setB_pm (f : Fld) (b : Bool) (s : State) : (setB f b s).pm = s.pm := rfl
@[simp] theorem setB_out (f : Fld) (b : Bool) (s : State) : (setB f b s).out = s.out := rfl
@[simp] theorem setB_pending (f : Fld) (b : Bool) (s : State) : (setB f b s).pending = s.pending := rfl

@[simp] theorem addF_ctrs (f : Fld) (n : Nat) (s : State) : (addF f n s).ctrs = s.ctrs := rfl
@[simp] theorem addF_latch (f : Fld) (n : Nat) (s : State) : (addF f n s).latch = s.latch := rfl
@[simp] theorem addF_time (f : Fld) (n : Nat) (s : State) : (addF f n s).time = s.time := rfl
@[simp] theorem addF_freeIdx (f : Fld) (n : Nat) (s : State) : (addF f n s).freeIdx = s.freeIdx := rfl
@[simp] theorem addF_clk (f : Fld) (n : Nat) (s : State) : (addF f n s).clk = s.clk := rfl
@[simp] theorem addF_dev (f : Fld) (n : Nat) (s : State) : (addF f n s).dev = s.dev := rfl
@[simp] theorem addF_mail (f : Fld) (n : Nat) (s : State) : (addF f n s).mail = s.mail := rfl
@[simp] theorem addF_wh (f : Fld) (n : Nat) (s : State) : (addF f n s).wh = s.wh := rfl
@[simp] theorem addF_sb (f : Fld) (n : Nat) (s : State) : (addF f n s).sb = s.sb := rfl
@[simp] theorem addF_flash (f : Fld) (n : Nat) (s : State) : (addF f n s).flash = s.flash := rfl
@[simp] theorem addF_lj (f : Fld) (n : Nat) (s : State) : (addF f n s).lj = s.lj := rfl
@[simp] theorem addF_dq (f : Fld) (n : Nat) (s : State) : (addF f n s).dq = s.dq := rfl
@[simp] theorem addF_rally (f : Fld) (n : Nat) (s : State) : (addF f n s).rally = s.rally := rfl
@[simp] theorem addF_sites (f : Fld) (n : Nat) (s : State) : (addF f n s).sites = s.sites := rfl
@[simp] theorem addF_gc (f : Fld) (n : Nat) (s : State) : (addF f n s).gc = s.gc := rfl
@[simp] theorem addF_pll (f : Fld) (n : Nat) (s : State) : (addF f n s).pll = s.pll := rfl
@[simp] theorem addF_boot (f : Fld) (n : Nat) (s : State) : (addF f n s).boot = s.boot := rfl
@[simp] theorem addF_fab (f : Fld) (n : Nat) (s : State) : (addF f n s).fab = s.fab := rfl
@[simp] theorem addF_cfg (f : Fld) (n : Nat) (s : State) : (addF f n s).cfg = s.cfg := rfl
@[simp] theorem addF_noc (f : Fld) (n : Nat) (s : State) : (addF f n s).noc = s.noc := rfl
@[simp] theorem addF_dram (f : Fld) (n : Nat) (s : State) : (addF f n s).dram = s.dram := rfl
@[simp] theorem addF_pm (f : Fld) (n : Nat) (s : State) : (addF f n s).pm = s.pm := rfl
@[simp] theorem addF_out (f : Fld) (n : Nat) (s : State) : (addF f n s).out = s.out := rfl
@[simp] theorem addF_pending (f : Fld) (n : Nat) (s : State) : (addF f n s).pending = s.pending := rfl

@[simp] theorem bumpF_ctrs (f : Fld) (s : State) : (bumpF f s).ctrs = s.ctrs := by unfold bumpF; split <;> rfl
@[simp] theorem bumpF_latch (f : Fld) (s : State) : (bumpF f s).latch = s.latch := by unfold bumpF; split <;> rfl
@[simp] theorem bumpF_time (f : Fld) (s : State) : (bumpF f s).time = s.time := by unfold bumpF; split <;> rfl
@[simp] theorem bumpF_freeIdx (f : Fld) (s : State) : (bumpF f s).freeIdx = s.freeIdx := by unfold bumpF; split <;> rfl
@[simp] theorem bumpF_clk (f : Fld) (s : State) : (bumpF f s).clk = s.clk := by unfold bumpF; split <;> rfl
@[simp] theorem bumpF_dev (f : Fld) (s : State) : (bumpF f s).dev = s.dev := by unfold bumpF; split <;> rfl
@[simp] theorem bumpF_mail (f : Fld) (s : State) : (bumpF f s).mail = s.mail := by unfold bumpF; split <;> rfl
@[simp] theorem bumpF_wh (f : Fld) (s : State) : (bumpF f s).wh = s.wh := by unfold bumpF; split <;> rfl
@[simp] theorem bumpF_sb (f : Fld) (s : State) : (bumpF f s).sb = s.sb := by unfold bumpF; split <;> rfl
@[simp] theorem bumpF_flash (f : Fld) (s : State) : (bumpF f s).flash = s.flash := by unfold bumpF; split <;> rfl
@[simp] theorem bumpF_lj (f : Fld) (s : State) : (bumpF f s).lj = s.lj := by unfold bumpF; split <;> rfl
@[simp] theorem bumpF_dq (f : Fld) (s : State) : (bumpF f s).dq = s.dq := by unfold bumpF; split <;> rfl
@[simp] theorem bumpF_rally (f : Fld) (s : State) : (bumpF f s).rally = s.rally := by unfold bumpF; split <;> rfl
@[simp] theorem bumpF_sites (f : Fld) (s : State) : (bumpF f s).sites = s.sites := by unfold bumpF; split <;> rfl
@[simp] theorem bumpF_gc (f : Fld) (s : State) : (bumpF f s).gc = s.gc := by unfold bumpF; split <;> rfl
@[simp] theorem bumpF_pll (f : Fld) (s : State) : (bumpF f s).pll = s.pll := by unfold bumpF; split <;> rfl
@[simp] theorem bumpF_boot (f : Fld) (s : State) : (bumpF f s).boot = s.boot := by unfold bumpF; split <;> rfl
@[simp] theorem bumpF_fab (f : Fld) (s : State) : (bumpF f s).fab = s.fab := by unfold bumpF; split <;> rfl
@[simp] theorem bumpF_cfg (f : Fld) (s : State) : (bumpF f s).cfg = s.cfg := by unfold bumpF; split <;> rfl
@[simp] theorem bumpF_noc (f : Fld) (s : State) : (bumpF f s).noc = s.noc := by unfold bumpF; split <;> rfl
@[simp] theorem bumpF_dram (f : Fld) (s : State) : (bumpF f s).dram = s.dram := by unfold bumpF; split <;> rfl
@[simp] theorem bumpF_pm (f : Fld) (s : State) : (bumpF f s).pm = s.pm := by unfold bumpF; split <;> rfl
@[simp] theorem bumpF_out (f : Fld) (s : State) : (bumpF f s).out = s.out := by unfold bumpF; split <;> rfl
@[simp] theorem bumpF_pending (f : Fld) (s : State) : (bumpF f s).pending = s.pending := by unfold bumpF; split <;> rfl

@[simp] theorem addC_regs (k n : Nat) (s : State) : (addC k n s).regs = s.regs := rfl
@[simp] theorem addC_latch (k n : Nat) (s : State) : (addC k n s).latch = s.latch := rfl
@[simp] theorem addC_time (k n : Nat) (s : State) : (addC k n s).time = s.time := rfl
@[simp] theorem addC_freeIdx (k n : Nat) (s : State) : (addC k n s).freeIdx = s.freeIdx := rfl
@[simp] theorem addC_clk (k n : Nat) (s : State) : (addC k n s).clk = s.clk := rfl
@[simp] theorem addC_dev (k n : Nat) (s : State) : (addC k n s).dev = s.dev := rfl
@[simp] theorem addC_mail (k n : Nat) (s : State) : (addC k n s).mail = s.mail := rfl
@[simp] theorem addC_wh (k n : Nat) (s : State) : (addC k n s).wh = s.wh := rfl
@[simp] theorem addC_sb (k n : Nat) (s : State) : (addC k n s).sb = s.sb := rfl
@[simp] theorem addC_flash (k n : Nat) (s : State) : (addC k n s).flash = s.flash := rfl
@[simp] theorem addC_lj (k n : Nat) (s : State) : (addC k n s).lj = s.lj := rfl
@[simp] theorem addC_dq (k n : Nat) (s : State) : (addC k n s).dq = s.dq := rfl
@[simp] theorem addC_rally (k n : Nat) (s : State) : (addC k n s).rally = s.rally := rfl
@[simp] theorem addC_sites (k n : Nat) (s : State) : (addC k n s).sites = s.sites := rfl
@[simp] theorem addC_gc (k n : Nat) (s : State) : (addC k n s).gc = s.gc := rfl
@[simp] theorem addC_pll (k n : Nat) (s : State) : (addC k n s).pll = s.pll := rfl
@[simp] theorem addC_boot (k n : Nat) (s : State) : (addC k n s).boot = s.boot := rfl
@[simp] theorem addC_fab (k n : Nat) (s : State) : (addC k n s).fab = s.fab := rfl
@[simp] theorem addC_cfg (k n : Nat) (s : State) : (addC k n s).cfg = s.cfg := rfl
@[simp] theorem addC_noc (k n : Nat) (s : State) : (addC k n s).noc = s.noc := rfl
@[simp] theorem addC_dram (k n : Nat) (s : State) : (addC k n s).dram = s.dram := rfl
@[simp] theorem addC_pm (k n : Nat) (s : State) : (addC k n s).pm = s.pm := rfl
@[simp] theorem addC_out (k n : Nat) (s : State) : (addC k n s).out = s.out := rfl
@[simp] theorem addC_pending (k n : Nat) (s : State) : (addC k n s).pending = s.pending := rfl

@[simp] theorem incC_regs (k : Nat) (s : State) : (incC k s).regs = s.regs := rfl
@[simp] theorem incC_latch (k : Nat) (s : State) : (incC k s).latch = s.latch := rfl
@[simp] theorem incC_time (k : Nat) (s : State) : (incC k s).time = s.time := rfl
@[simp] theorem incC_freeIdx (k : Nat) (s : State) : (incC k s).freeIdx = s.freeIdx := rfl
@[simp] theorem incC_clk (k : Nat) (s : State) : (incC k s).clk = s.clk := rfl
@[simp] theorem incC_dev (k : Nat) (s : State) : (incC k s).dev = s.dev := rfl
@[simp] theorem incC_mail (k : Nat) (s : State) : (incC k s).mail = s.mail := rfl
@[simp] theorem incC_wh (k : Nat) (s : State) : (incC k s).wh = s.wh := rfl
@[simp] theorem incC_sb (k : Nat) (s : State) : (incC k s).sb = s.sb := rfl
@[simp] theorem incC_flash (k : Nat) (s : State) : (incC k s).flash = s.flash := rfl
@[simp] theorem incC_lj (k : Nat) (s : State) : (incC k s).lj = s.lj := rfl
@[simp] theorem incC_dq (k : Nat) (s : State) : (incC k s).dq = s.dq := rfl
@[simp] theorem incC_rally (k : Nat) (s : State) : (incC k s).rally = s.rally := rfl
@[simp] theorem incC_sites (k : Nat) (s : State) : (incC k s).sites = s.sites := rfl
@[simp] theorem incC_gc (k : Nat) (s : State) : (incC k s).gc = s.gc := rfl
@[simp] theorem incC_pll (k : Nat) (s : State) : (incC k s).pll = s.pll := rfl
@[simp] theorem incC_boot (k : Nat) (s : State) : (incC k s).boot = s.boot := rfl
@[simp] theorem incC_fab (k : Nat) (s : State) : (incC k s).fab = s.fab := rfl
@[simp] theorem incC_cfg (k : Nat) (s : State) : (incC k s).cfg = s.cfg := rfl
@[simp] theorem incC_noc (k : Nat) (s : State) : (incC k s).noc = s.noc := rfl
@[simp] theorem incC_dram (k : Nat) (s : State) : (incC k s).dram = s.dram := rfl
@[simp] theorem incC_pm (k : Nat) (s : State) : (incC k s).pm = s.pm := rfl
@[simp] theorem incC_out (k : Nat) (s : State) : (incC k s).out = s.out := rfl
@[simp] theorem incC_pending (k : Nat) (s : State) : (incC k s).pending = s.pending := rfl

@[simp] theorem clrC_regs (k : Nat) (s : State) : (clrC k s).regs = s.regs := rfl
@[simp] theorem clrC_latch (k : Nat) (s : State) : (clrC k s).latch = s.latch := rfl
@[simp] theorem clrC_time (k : Nat) (s : State) : (clrC k s).time = s.time := rfl
@[simp] theorem clrC_freeIdx (k : Nat) (s : State) : (clrC k s).freeIdx = s.freeIdx := rfl
@[simp] theorem clrC_clk (k : Nat) (s : State) : (clrC k s).clk = s.clk := rfl
@[simp] theorem clrC_dev (k : Nat) (s : State) : (clrC k s).dev = s.dev := rfl
@[simp] theorem clrC_mail (k : Nat) (s : State) : (clrC k s).mail = s.mail := rfl
@[simp] theorem clrC_wh (k : Nat) (s : State) : (clrC k s).wh = s.wh := rfl
@[simp] theorem clrC_sb (k : Nat) (s : State) : (clrC k s).sb = s.sb := rfl
@[simp] theorem clrC_flash (k : Nat) (s : State) : (clrC k s).flash = s.flash := rfl
@[simp] theorem clrC_lj (k : Nat) (s : State) : (clrC k s).lj = s.lj := rfl
@[simp] theorem clrC_dq (k : Nat) (s : State) : (clrC k s).dq = s.dq := rfl
@[simp] theorem clrC_rally (k : Nat) (s : State) : (clrC k s).rally = s.rally := rfl
@[simp] theorem clrC_sites (k : Nat) (s : State) : (clrC k s).sites = s.sites := rfl
@[simp] theorem clrC_gc (k : Nat) (s : State) : (clrC k s).gc = s.gc := rfl
@[simp] theorem clrC_pll (k : Nat) (s : State) : (clrC k s).pll = s.pll := rfl
@[simp] theorem clrC_boot (k : Nat) (s : State) : (clrC k s).boot = s.boot := rfl
@[simp] theorem clrC_fab (k : Nat) (s : State) : (clrC k s).fab = s.fab := rfl
@[simp] theorem clrC_cfg (k : Nat) (s : State) : (clrC k s).cfg = s.cfg := rfl
@[simp] theorem clrC_noc (k : Nat) (s : State) : (clrC k s).noc = s.noc := rfl
@[simp] theorem clrC_dram (k : Nat) (s : State) : (clrC k s).dram = s.dram := rfl
@[simp] theorem clrC_pm (k : Nat) (s : State) : (clrC k s).pm = s.pm := rfl
@[simp] theorem clrC_out (k : Nat) (s : State) : (clrC k s).out = s.out := rfl
@[simp] theorem clrC_pending (k : Nat) (s : State) : (clrC k s).pending = s.pending := rfl

@[simp] theorem emit_regs (o : Out) (s : State) : (emit o s).regs = s.regs := rfl
@[simp] theorem emit_ctrs (o : Out) (s : State) : (emit o s).ctrs = s.ctrs := rfl
@[simp] theorem emit_latch (o : Out) (s : State) : (emit o s).latch = s.latch := rfl
@[simp] theorem emit_time (o : Out) (s : State) : (emit o s).time = s.time := rfl
@[simp] theorem emit_freeIdx (o : Out) (s : State) : (emit o s).freeIdx = s.freeIdx := rfl
@[simp] theorem emit_clk (o : Out) (s : State) : (emit o s).clk = s.clk := rfl
@[simp] theorem emit_dev (o : Out) (s : State) : (emit o s).dev = s.dev := rfl
@[simp] theorem emit_mail (o : Out) (s : State) : (emit o s).mail = s.mail := rfl
@[simp] theorem emit_wh (o : Out) (s : State) : (emit o s).wh = s.wh := rfl
@[simp] theorem emit_sb (o : Out) (s : State) : (emit o s).sb = s.sb := rfl
@[simp] theorem emit_flash (o : Out) (s : State) : (emit o s).flash = s.flash := rfl
@[simp] theorem emit_lj (o : Out) (s : State) : (emit o s).lj = s.lj := rfl
@[simp] theorem emit_dq (o : Out) (s : State) : (emit o s).dq = s.dq := rfl
@[simp] theorem emit_rally (o : Out) (s : State) : (emit o s).rally = s.rally := rfl
@[simp] theorem emit_sites (o : Out) (s : State) : (emit o s).sites = s.sites := rfl
@[simp] theorem emit_gc (o : Out) (s : State) : (emit o s).gc = s.gc := rfl
@[simp] theorem emit_pll (o : Out) (s : State) : (emit o s).pll = s.pll := rfl
@[simp] theorem emit_boot (o : Out) (s : State) : (emit o s).boot = s.boot := rfl
@[simp] theorem emit_fab (o : Out) (s : State) : (emit o s).fab = s.fab := rfl
@[simp] theorem emit_cfg (o : Out) (s : State) : (emit o s).cfg = s.cfg := rfl
@[simp] theorem emit_noc (o : Out) (s : State) : (emit o s).noc = s.noc := rfl
@[simp] theorem emit_dram (o : Out) (s : State) : (emit o s).dram = s.dram := rfl
@[simp] theorem emit_pm (o : Out) (s : State) : (emit o s).pm = s.pm := rfl
@[simp] theorem emit_pending (o : Out) (s : State) : (emit o s).pending = s.pending := rfl

@[simp] theorem msix_regs (v : Nat) (s : State) : (msix v s).regs = s.regs := by unfold msix; split <;> rfl
@[simp] theorem msix_ctrs (v : Nat) (s : State) : (msix v s).ctrs = s.ctrs := by unfold msix; split <;> rfl
@[simp] theorem msix_latch (v : Nat) (s : State) : (msix v s).latch = s.latch := by unfold msix; split <;> rfl
@[simp] theorem msix_time (v : Nat) (s : State) : (msix v s).time = s.time := by unfold msix; split <;> rfl
@[simp] theorem msix_freeIdx (v : Nat) (s : State) : (msix v s).freeIdx = s.freeIdx := by unfold msix; split <;> rfl
@[simp] theorem msix_clk (v : Nat) (s : State) : (msix v s).clk = s.clk := by unfold msix; split <;> rfl
@[simp] theorem msix_dev (v : Nat) (s : State) : (msix v s).dev = s.dev := by unfold msix; split <;> rfl
@[simp] theorem msix_mail (v : Nat) (s : State) : (msix v s).mail = s.mail := by unfold msix; split <;> rfl
@[simp] theorem msix_wh (v : Nat) (s : State) : (msix v s).wh = s.wh := by unfold msix; split <;> rfl
@[simp] theorem msix_sb (v : Nat) (s : State) : (msix v s).sb = s.sb := by unfold msix; split <;> rfl
@[simp] theorem msix_flash (v : Nat) (s : State) : (msix v s).flash = s.flash := by unfold msix; split <;> rfl
@[simp] theorem msix_lj (v : Nat) (s : State) : (msix v s).lj = s.lj := by unfold msix; split <;> rfl
@[simp] theorem msix_dq (v : Nat) (s : State) : (msix v s).dq = s.dq := by unfold msix; split <;> rfl
@[simp] theorem msix_rally (v : Nat) (s : State) : (msix v s).rally = s.rally := by unfold msix; split <;> rfl
@[simp] theorem msix_sites (v : Nat) (s : State) : (msix v s).sites = s.sites := by unfold msix; split <;> rfl
@[simp] theorem msix_gc (v : Nat) (s : State) : (msix v s).gc = s.gc := by unfold msix; split <;> rfl
@[simp] theorem msix_pll (v : Nat) (s : State) : (msix v s).pll = s.pll := by unfold msix; split <;> rfl
@[simp] theorem msix_boot (v : Nat) (s : State) : (msix v s).boot = s.boot := by unfold msix; split <;> rfl
@[simp] theorem msix_fab (v : Nat) (s : State) : (msix v s).fab = s.fab := by unfold msix; split <;> rfl
@[simp] theorem msix_cfg (v : Nat) (s : State) : (msix v s).cfg = s.cfg := by unfold msix; split <;> rfl
@[simp] theorem msix_noc (v : Nat) (s : State) : (msix v s).noc = s.noc := by unfold msix; split <;> rfl
@[simp] theorem msix_dram (v : Nat) (s : State) : (msix v s).dram = s.dram := by unfold msix; split <;> rfl
@[simp] theorem msix_pm (v : Nat) (s : State) : (msix v s).pm = s.pm := by unfold msix; split <;> rfl
@[simp] theorem msix_pending (v : Nat) (s : State) : (msix v s).pending = s.pending := by unfold msix; split <;> rfl

@[simp] theorem useFree_regs (s : State) : (useFree s).regs = s.regs := rfl
@[simp] theorem useFree_ctrs (s : State) : (useFree s).ctrs = s.ctrs := rfl
@[simp] theorem useFree_latch (s : State) : (useFree s).latch = s.latch := rfl
@[simp] theorem useFree_time (s : State) : (useFree s).time = s.time := rfl
@[simp] theorem useFree_clk (s : State) : (useFree s).clk = s.clk := rfl
@[simp] theorem useFree_dev (s : State) : (useFree s).dev = s.dev := rfl
@[simp] theorem useFree_mail (s : State) : (useFree s).mail = s.mail := rfl
@[simp] theorem useFree_wh (s : State) : (useFree s).wh = s.wh := rfl
@[simp] theorem useFree_sb (s : State) : (useFree s).sb = s.sb := rfl
@[simp] theorem useFree_flash (s : State) : (useFree s).flash = s.flash := rfl
@[simp] theorem useFree_lj (s : State) : (useFree s).lj = s.lj := rfl
@[simp] theorem useFree_dq (s : State) : (useFree s).dq = s.dq := rfl
@[simp] theorem useFree_rally (s : State) : (useFree s).rally = s.rally := rfl
@[simp] theorem useFree_sites (s : State) : (useFree s).sites = s.sites := rfl
@[simp] theorem useFree_gc (s : State) : (useFree s).gc = s.gc := rfl
@[simp] theorem useFree_pll (s : State) : (useFree s).pll = s.pll := rfl
@[simp] theorem useFree_boot (s : State) : (useFree s).boot = s.boot := rfl
@[simp] theorem useFree_fab (s : State) : (useFree s).fab = s.fab := rfl
@[simp] theorem useFree_cfg (s : State) : (useFree s).cfg = s.cfg := rfl
@[simp] theorem useFree_noc (s : State) : (useFree s).noc = s.noc := rfl
@[simp] theorem useFree_dram (s : State) : (useFree s).dram = s.dram := rfl
@[simp] theorem useFree_pm (s : State) : (useFree s).pm = s.pm := rfl
@[simp] theorem useFree_out (s : State) : (useFree s).out = s.out := rfl
@[simp] theorem useFree_pending (s : State) : (useFree s).pending = s.pending := rfl

@[simp] theorem startTimer_regs (k d : Nat) (s : State) : (startTimer k d s).regs = s.regs := rfl
@[simp] theorem startTimer_ctrs (k d : Nat) (s : State) : (startTimer k d s).ctrs = s.ctrs := rfl
@[simp] theorem startTimer_latch (k d : Nat) (s : State) : (startTimer k d s).latch = s.latch := rfl
@[simp] theorem startTimer_freeIdx (k d : Nat) (s : State) : (startTimer k d s).freeIdx = s.freeIdx := rfl
@[simp] theorem startTimer_clk (k d : Nat) (s : State) : (startTimer k d s).clk = s.clk := rfl
@[simp] theorem startTimer_dev (k d : Nat) (s : State) : (startTimer k d s).dev = s.dev := rfl
@[simp] theorem startTimer_mail (k d : Nat) (s : State) : (startTimer k d s).mail = s.mail := rfl
@[simp] theorem startTimer_wh (k d : Nat) (s : State) : (startTimer k d s).wh = s.wh := rfl
@[simp] theorem startTimer_sb (k d : Nat) (s : State) : (startTimer k d s).sb = s.sb := rfl
@[simp] theorem startTimer_flash (k d : Nat) (s : State) : (startTimer k d s).flash = s.flash := rfl
@[simp] theorem startTimer_lj (k d : Nat) (s : State) : (startTimer k d s).lj = s.lj := rfl
@[simp] theorem startTimer_dq (k d : Nat) (s : State) : (startTimer k d s).dq = s.dq := rfl
@[simp] theorem startTimer_rally (k d : Nat) (s : State) : (startTimer k d s).rally = s.rally := rfl
@[simp] theorem startTimer_sites (k d : Nat) (s : State) : (startTimer k d s).sites = s.sites := rfl
@[simp] theorem startTimer_gc (k d : Nat) (s : State) : (startTimer k d s).gc = s.gc := rfl
@[simp] theorem startTimer_pll (k d : Nat) (s : State) : (startTimer k d s).pll = s.pll := rfl
@[simp] theorem startTimer_boot (k d : Nat) (s : State) : (startTimer k d s).boot = s.boot := rfl
@[simp] theorem startTimer_fab (k d : Nat) (s : State) : (startTimer k d s).fab = s.fab := rfl
@[simp] theorem startTimer_cfg (k d : Nat) (s : State) : (startTimer k d s).cfg = s.cfg := rfl
@[simp] theorem startTimer_noc (k d : Nat) (s : State) : (startTimer k d s).noc = s.noc := rfl
@[simp] theorem startTimer_dram (k d : Nat) (s : State) : (startTimer k d s).dram = s.dram := rfl
@[simp] theorem startTimer_pm (k d : Nat) (s : State) : (startTimer k d s).pm = s.pm := rfl
@[simp] theorem startTimer_out (k d : Nat) (s : State) : (startTimer k d s).out = s.out := rfl
@[simp] theorem startTimer_pending (k d : Nat) (s : State) : (startTimer k d s).pending = s.pending := rfl

@[simp] theorem startFirm_regs (k d : Nat) (s : State) : (startFirm k d s).regs = s.regs := rfl
@[simp] theorem startFirm_ctrs (k d : Nat) (s : State) : (startFirm k d s).ctrs = s.ctrs := rfl
@[simp] theorem startFirm_latch (k d : Nat) (s : State) : (startFirm k d s).latch = s.latch := rfl
@[simp] theorem startFirm_freeIdx (k d : Nat) (s : State) : (startFirm k d s).freeIdx = s.freeIdx := rfl
@[simp] theorem startFirm_clk (k d : Nat) (s : State) : (startFirm k d s).clk = s.clk := rfl
@[simp] theorem startFirm_dev (k d : Nat) (s : State) : (startFirm k d s).dev = s.dev := rfl
@[simp] theorem startFirm_mail (k d : Nat) (s : State) : (startFirm k d s).mail = s.mail := rfl
@[simp] theorem startFirm_wh (k d : Nat) (s : State) : (startFirm k d s).wh = s.wh := rfl
@[simp] theorem startFirm_sb (k d : Nat) (s : State) : (startFirm k d s).sb = s.sb := rfl
@[simp] theorem startFirm_flash (k d : Nat) (s : State) : (startFirm k d s).flash = s.flash := rfl
@[simp] theorem startFirm_lj (k d : Nat) (s : State) : (startFirm k d s).lj = s.lj := rfl
@[simp] theorem startFirm_dq (k d : Nat) (s : State) : (startFirm k d s).dq = s.dq := rfl
@[simp] theorem startFirm_rally (k d : Nat) (s : State) : (startFirm k d s).rally = s.rally := rfl
@[simp] theorem startFirm_sites (k d : Nat) (s : State) : (startFirm k d s).sites = s.sites := rfl
@[simp] theorem startFirm_gc (k d : Nat) (s : State) : (startFirm k d s).gc = s.gc := rfl
@[simp] theorem startFirm_pll (k d : Nat) (s : State) : (startFirm k d s).pll = s.pll := rfl
@[simp] theorem startFirm_boot (k d : Nat) (s : State) : (startFirm k d s).boot = s.boot := rfl
@[simp] theorem startFirm_fab (k d : Nat) (s : State) : (startFirm k d s).fab = s.fab := rfl
@[simp] theorem startFirm_cfg (k d : Nat) (s : State) : (startFirm k d s).cfg = s.cfg := rfl
@[simp] theorem startFirm_noc (k d : Nat) (s : State) : (startFirm k d s).noc = s.noc := rfl
@[simp] theorem startFirm_dram (k d : Nat) (s : State) : (startFirm k d s).dram = s.dram := rfl
@[simp] theorem startFirm_pm (k d : Nat) (s : State) : (startFirm k d s).pm = s.pm := rfl
@[simp] theorem startFirm_out (k d : Nat) (s : State) : (startFirm k d s).out = s.out := rfl
@[simp] theorem startFirm_pending (k d : Nat) (s : State) : (startFirm k d s).pending = s.pending := rfl

@[simp] theorem stopTimer_regs (k : Nat) (s : State) : (stopTimer k s).regs = s.regs := rfl
@[simp] theorem stopTimer_ctrs (k : Nat) (s : State) : (stopTimer k s).ctrs = s.ctrs := rfl
@[simp] theorem stopTimer_latch (k : Nat) (s : State) : (stopTimer k s).latch = s.latch := rfl
@[simp] theorem stopTimer_freeIdx (k : Nat) (s : State) : (stopTimer k s).freeIdx = s.freeIdx := rfl
@[simp] theorem stopTimer_clk (k : Nat) (s : State) : (stopTimer k s).clk = s.clk := rfl
@[simp] theorem stopTimer_dev (k : Nat) (s : State) : (stopTimer k s).dev = s.dev := rfl
@[simp] theorem stopTimer_mail (k : Nat) (s : State) : (stopTimer k s).mail = s.mail := rfl
@[simp] theorem stopTimer_wh (k : Nat) (s : State) : (stopTimer k s).wh = s.wh := rfl
@[simp] theorem stopTimer_sb (k : Nat) (s : State) : (stopTimer k s).sb = s.sb := rfl
@[simp] theorem stopTimer_flash (k : Nat) (s : State) : (stopTimer k s).flash = s.flash := rfl
@[simp] theorem stopTimer_lj (k : Nat) (s : State) : (stopTimer k s).lj = s.lj := rfl
@[simp] theorem stopTimer_dq (k : Nat) (s : State) : (stopTimer k s).dq = s.dq := rfl
@[simp] theorem stopTimer_rally (k : Nat) (s : State) : (stopTimer k s).rally = s.rally := rfl
@[simp] theorem stopTimer_sites (k : Nat) (s : State) : (stopTimer k s).sites = s.sites := rfl
@[simp] theorem stopTimer_gc (k : Nat) (s : State) : (stopTimer k s).gc = s.gc := rfl
@[simp] theorem stopTimer_pll (k : Nat) (s : State) : (stopTimer k s).pll = s.pll := rfl
@[simp] theorem stopTimer_boot (k : Nat) (s : State) : (stopTimer k s).boot = s.boot := rfl
@[simp] theorem stopTimer_fab (k : Nat) (s : State) : (stopTimer k s).fab = s.fab := rfl
@[simp] theorem stopTimer_cfg (k : Nat) (s : State) : (stopTimer k s).cfg = s.cfg := rfl
@[simp] theorem stopTimer_noc (k : Nat) (s : State) : (stopTimer k s).noc = s.noc := rfl
@[simp] theorem stopTimer_dram (k : Nat) (s : State) : (stopTimer k s).dram = s.dram := rfl
@[simp] theorem stopTimer_pm (k : Nat) (s : State) : (stopTimer k s).pm = s.pm := rfl
@[simp] theorem stopTimer_out (k : Nat) (s : State) : (stopTimer k s).out = s.out := rfl
@[simp] theorem stopTimer_pending (k : Nat) (s : State) : (stopTimer k s).pending = s.pending := rfl

@[simp] theorem expire_regs (k : Nat) (s : State) : (expire k s).regs = s.regs := rfl
@[simp] theorem expire_ctrs (k : Nat) (s : State) : (expire k s).ctrs = s.ctrs := rfl
@[simp] theorem expire_latch (k : Nat) (s : State) : (expire k s).latch = s.latch := rfl
@[simp] theorem expire_freeIdx (k : Nat) (s : State) : (expire k s).freeIdx = s.freeIdx := rfl
@[simp] theorem expire_clk (k : Nat) (s : State) : (expire k s).clk = s.clk := rfl
@[simp] theorem expire_dev (k : Nat) (s : State) : (expire k s).dev = s.dev := rfl
@[simp] theorem expire_mail (k : Nat) (s : State) : (expire k s).mail = s.mail := rfl
@[simp] theorem expire_wh (k : Nat) (s : State) : (expire k s).wh = s.wh := rfl
@[simp] theorem expire_sb (k : Nat) (s : State) : (expire k s).sb = s.sb := rfl
@[simp] theorem expire_flash (k : Nat) (s : State) : (expire k s).flash = s.flash := rfl
@[simp] theorem expire_lj (k : Nat) (s : State) : (expire k s).lj = s.lj := rfl
@[simp] theorem expire_dq (k : Nat) (s : State) : (expire k s).dq = s.dq := rfl
@[simp] theorem expire_rally (k : Nat) (s : State) : (expire k s).rally = s.rally := rfl
@[simp] theorem expire_sites (k : Nat) (s : State) : (expire k s).sites = s.sites := rfl
@[simp] theorem expire_gc (k : Nat) (s : State) : (expire k s).gc = s.gc := rfl
@[simp] theorem expire_pll (k : Nat) (s : State) : (expire k s).pll = s.pll := rfl
@[simp] theorem expire_boot (k : Nat) (s : State) : (expire k s).boot = s.boot := rfl
@[simp] theorem expire_fab (k : Nat) (s : State) : (expire k s).fab = s.fab := rfl
@[simp] theorem expire_cfg (k : Nat) (s : State) : (expire k s).cfg = s.cfg := rfl
@[simp] theorem expire_noc (k : Nat) (s : State) : (expire k s).noc = s.noc := rfl
@[simp] theorem expire_dram (k : Nat) (s : State) : (expire k s).dram = s.dram := rfl
@[simp] theorem expire_pm (k : Nat) (s : State) : (expire k s).pm = s.pm := rfl
@[simp] theorem expire_out (k : Nat) (s : State) : (expire k s).out = s.out := rfl
@[simp] theorem expire_pending (k : Nat) (s : State) : (expire k s).pending = s.pending := rfl

@[simp] theorem rateMark_regs (k : Nat) (s : State) : (rateMark k s).regs = s.regs := rfl
@[simp] theorem rateMark_ctrs (k : Nat) (s : State) : (rateMark k s).ctrs = s.ctrs := rfl
@[simp] theorem rateMark_latch (k : Nat) (s : State) : (rateMark k s).latch = s.latch := rfl
@[simp] theorem rateMark_freeIdx (k : Nat) (s : State) : (rateMark k s).freeIdx = s.freeIdx := rfl
@[simp] theorem rateMark_clk (k : Nat) (s : State) : (rateMark k s).clk = s.clk := rfl
@[simp] theorem rateMark_dev (k : Nat) (s : State) : (rateMark k s).dev = s.dev := rfl
@[simp] theorem rateMark_mail (k : Nat) (s : State) : (rateMark k s).mail = s.mail := rfl
@[simp] theorem rateMark_wh (k : Nat) (s : State) : (rateMark k s).wh = s.wh := rfl
@[simp] theorem rateMark_sb (k : Nat) (s : State) : (rateMark k s).sb = s.sb := rfl
@[simp] theorem rateMark_flash (k : Nat) (s : State) : (rateMark k s).flash = s.flash := rfl
@[simp] theorem rateMark_lj (k : Nat) (s : State) : (rateMark k s).lj = s.lj := rfl
@[simp] theorem rateMark_dq (k : Nat) (s : State) : (rateMark k s).dq = s.dq := rfl
@[simp] theorem rateMark_rally (k : Nat) (s : State) : (rateMark k s).rally = s.rally := rfl
@[simp] theorem rateMark_sites (k : Nat) (s : State) : (rateMark k s).sites = s.sites := rfl
@[simp] theorem rateMark_gc (k : Nat) (s : State) : (rateMark k s).gc = s.gc := rfl
@[simp] theorem rateMark_pll (k : Nat) (s : State) : (rateMark k s).pll = s.pll := rfl
@[simp] theorem rateMark_boot (k : Nat) (s : State) : (rateMark k s).boot = s.boot := rfl
@[simp] theorem rateMark_fab (k : Nat) (s : State) : (rateMark k s).fab = s.fab := rfl
@[simp] theorem rateMark_cfg (k : Nat) (s : State) : (rateMark k s).cfg = s.cfg := rfl
@[simp] theorem rateMark_noc (k : Nat) (s : State) : (rateMark k s).noc = s.noc := rfl
@[simp] theorem rateMark_dram (k : Nat) (s : State) : (rateMark k s).dram = s.dram := rfl
@[simp] theorem rateMark_pm (k : Nat) (s : State) : (rateMark k s).pm = s.pm := rfl
@[simp] theorem rateMark_out (k : Nat) (s : State) : (rateMark k s).out = s.out := rfl
@[simp] theorem rateMark_pending (k : Nat) (s : State) : (rateMark k s).pending = s.pending := rfl

@[simp] theorem emit_out (o : Out) (s : State) : (emit o s).out = s.out ++ [o] := rfl
@[simp] theorem useFree_freeIdx (s : State) : (useFree s).freeIdx = s.freeIdx + 1 := rfl
@[simp] theorem setF_regs (f : Fld) (v : Nat) (s : State) :
    (setF f v s).regs = tabSet f.rst s.regs (fldKey f) (v % 2 ^ f.w) := rfl

end Sys2Proof.Machine
end

