-- ==== Sys2Proof/Laws/Tab.lean ====
section
/-! SUPPORT. Sparse tables: read after write, and the canonical form that every operation keeps. -/

namespace Sys2Proof.Machine

variable {α : Type}

theorem tabFind_tabDel_same (t : Tab α) (k : Nat) : tabFind (tabDel t k) k = none := by
  induction t with
  | nil => rfl
  | cons p t ih =>
    obtain ⟨a, v⟩ := p
    by_cases h : a = k
    · simp [tabDel, h, ih]
    · simp [tabDel, h, tabFind, ih]

theorem tabFind_tabDel_other (t : Tab α) {k x : Nat} (h : x ≠ k) : tabFind (tabDel t k) x = tabFind t x := by
  induction t with
  | nil => rfl
  | cons p t ih =>
    obtain ⟨a, v⟩ := p
    by_cases hk : a = k
    · subst hk
      simp [tabDel, tabFind, ih, Ne.symm h]
    · by_cases hx : a = x
      · subst hx; simp [tabDel, tabFind, hk]
      · simp [tabDel, tabFind, hk, hx, ih]

theorem tabFind_tabIns_same (t : Tab α) (k : Nat) (v : α) (h : tabFind t k = none) : tabFind (tabIns k v t) k = some v := by
  induction t with
  | nil => simp [tabIns, tabFind]
  | cons p t ih =>
    obtain ⟨a, u⟩ := p
    by_cases ha : a = k
    · simp [tabFind, ha] at h
    · have ht : tabFind t k = none := by simpa [tabFind, ha] using h
      by_cases hk : k < a <;> simp [tabIns, tabFind, hk, ha, ih ht]

theorem tabFind_tabIns_other (t : Tab α) {k x : Nat} (v : α) (h : x ≠ k) : tabFind (tabIns k v t) x = tabFind t x := by
  induction t with
  | nil => simp [tabIns, tabFind, Ne.symm h]
  | cons p t ih =>
    obtain ⟨a, u⟩ := p
    by_cases hk : k < a
    · simp [tabIns, tabFind, hk, Ne.symm h]
    · by_cases hx : a = x
      · subst hx; simp [tabIns, tabFind, hk]
      · simp [tabIns, tabFind, hk, hx, ih]

theorem tabFind_tabPut_same (t : Tab α) (k : Nat) (v : α) : tabFind (tabPut t k v) k = some v :=
  tabFind_tabIns_same _ _ _ (tabFind_tabDel_same t k)

theorem tabFind_tabPut_other (t : Tab α) {k x : Nat} (v : α) (h : x ≠ k) : tabFind (tabPut t k v) x = tabFind t x := by
  rw [tabPut, tabFind_tabIns_other _ _ h, tabFind_tabDel_other _ h]

/-- A read after a write under the same key gives the value written. -/
@[simp] theorem tabGet_tabPut_same (d : α) (t : Tab α) (k : Nat) (v : α) : tabGet d (tabPut t k v) k = v := by
  simp [tabGet, tabFind_tabPut_same]

theorem tabGet_tabPut_other (d : α) (t : Tab α) {k x : Nat} (v : α) (h : x ≠ k) :
    tabGet d (tabPut t k v) x = tabGet d t x := by
  simp [tabGet, tabFind_tabPut_other t v h]

theorem tabGet_tabDel_other (d : α) (t : Tab α) {k x : Nat} (h : x ≠ k) : tabGet d (tabDel t k) x = tabGet d t x := by
  simp [tabGet, tabFind_tabDel_other t h]

@[simp] theorem tabGet_tabDel_same (d : α) (t : Tab α) (k : Nat) : tabGet d (tabDel t k) k = d := by
  simp [tabGet, tabFind_tabDel_same]

/-- A read after a write under the same key gives the value written, the default too. -/
@[simp] theorem tabGet_tabSet_same [DecidableEq α] (d : α) (t : Tab α) (k : Nat) (v : α) :
    tabGet d (tabSet d t k v) k = v := by
  unfold tabSet
  split
  · simp [*]
  · simp

theorem tabFind_tabSet_other [DecidableEq α] (d : α) (t : Tab α) {k x : Nat} (v : α) (h : x ≠ k) :
    tabFind (tabSet d t k v) x = tabFind t x := by
  unfold tabSet
  split
  · exact tabFind_tabDel_other t h
  · exact tabFind_tabPut_other t v h

/-- A write leaves every other key alone, whatever the reader's default. -/
@[simp] theorem tabGet_tabSet_other [DecidableEq α] (d : α) (t : Tab α) {k x : Nat} (v : α) (h : x ≠ k) {e : α} :
    tabGet e (tabSet d t k v) x = tabGet e t x := by
  simp [tabGet, tabFind_tabSet_other d t v h]

/-- Read after write, for a comparison of keys that is not yet decided. -/
theorem tabGet_tabSet [DecidableEq α] (d : α) (t : Tab α) (k x : Nat) (v : α) :
    tabGet d (tabSet d t k v) x = if x = k then v else tabGet d t x := by
  by_cases h : x = k
  · simp [h]
  · rw [if_neg h, tabGet_tabSet_other d t v h]

/-! ### The canonical form -/

/-- The keys rise strictly, said by membership. -/
theorem tabSorted_iff (t : Tab α) : tabSorted t = true ↔ t.Pairwise (fun p q => p.1 < q.1) := by
  match t with
  | [] => simp [tabSorted]
  | [p] => simp [tabSorted]
  | (a, u) :: (b, w) :: l =>
    have ih := tabSorted_iff ((b, w) :: l)
    simp only [tabSorted, Bool.and_eq_true, decide_eq_true_eq, ih, List.pairwise_cons, List.mem_cons]
    constructor
    · rintro ⟨h, hb, hl⟩
      refine ⟨?_, hb, hl⟩
      rintro q (rfl | hq)
      · exact h
      · exact Nat.lt_trans h (hb q hq)
    · rintro ⟨h, hb, hl⟩
      exact ⟨h _ (.inl rfl), hb, hl⟩

theorem mem_tabDel {t : Tab α} {k : Nat} {p : Nat × α} : p ∈ tabDel t k ↔ p ∈ t ∧ p.1 ≠ k := by
  induction t with
  | nil => simp [tabDel]
  | cons q t ih =>
    obtain ⟨a, v⟩ := q
    by_cases h : a = k
    · simp only [tabDel, h, if_true, ih, List.mem_cons]
      constructor
      · rintro ⟨hp, hk⟩; exact ⟨.inr hp, hk⟩
      · rintro ⟨rfl | hp, hk⟩
        · exact absurd rfl hk
        · exact ⟨hp, hk⟩
    · simp only [tabDel, h, if_false, List.mem_cons, ih]
      constructor
      · rintro (rfl | ⟨hp, hk⟩)
        · exact ⟨.inl rfl, h⟩
        · exact ⟨.inr hp, hk⟩
      · rintro ⟨rfl | hp, hk⟩
        · exact .inl rfl
        · exact .inr ⟨hp, hk⟩

theorem mem_tabIns {t : Tab α} {k : Nat} {v : α} {p : Nat × α} : p ∈ tabIns k v t ↔ p = (k, v) ∨ p ∈ t := by
  induction t with
  | nil => simp [tabIns]
  | cons q t ih =>
    obtain ⟨a, u⟩ := q
    by_cases h : k < a
    · simp [tabIns, h]
    · simp only [tabIns, h, if_false, List.mem_cons, ih]
      exact or_left_comm

theorem pairwise_tabDel {t : Tab α} (k : Nat) (h : t.Pairwise (fun p q => p.1 < q.1)) :
    (tabDel t k).Pairwise (fun p q => p.1 < q.1) := by
  induction t with
  | nil => exact h
  | cons q t ih =>
    obtain ⟨a, v⟩ := q
    rw [List.pairwise_cons] at h
    by_cases hk : a = k
    · simpa [tabDel, hk] using ih h.2
    · simp only [tabDel, hk, if_false, List.pairwise_cons]
      exact ⟨fun p hp => h.1 p (mem_tabDel.1 hp).1, ih h.2⟩

theorem pairwise_tabIns {t : Tab α} (k : Nat) (v : α) (hk : ∀ p ∈ t, p.1 ≠ k) (h : t.Pairwise (fun p q => p.1 < q.1)) :
    (tabIns k v t).Pairwise (fun p q => p.1 < q.1) := by
  induction t with
  | nil => simp [tabIns]
  | cons q t ih =>
    obtain ⟨a, u⟩ := q
    have hs := h
    rw [List.pairwise_cons] at h
    have ha : a ≠ k := hk (a, u) (by simp)
    by_cases hl : k < a
    · simp only [tabIns, hl, if_true]
      refine List.pairwise_cons.2 ⟨?_, hs⟩
      rintro p hp
      rcases List.mem_cons.1 hp with rfl | hp
      · exact hl
      · exact Nat.lt_trans hl (h.1 p hp)
    · simp only [tabIns, hl, if_false]
      refine List.pairwise_cons.2 ⟨?_, ih (fun p hp => hk p (by simp [hp])) h.2⟩
      intro p hp
      rcases mem_tabIns.1 hp with rfl | hp
      · show a < k
        omega
      · exact h.1 p hp

/-- A table is canonical: its keys rise strictly and it lists no default. -/
theorem tabWf_iff [DecidableEq α] (d : α) (t : Tab α) :
    tabWf d t = true ↔ t.Pairwise (fun p q => p.1 < q.1) ∧ ∀ p ∈ t, p.2 ≠ d := by
  simp [tabWf, tabSorted_iff]

/-- Taking out a key keeps the canonical form. -/
theorem tabDel_wf [DecidableEq α] (d : α) (t : Tab α) (k : Nat) (h : tabWf d t = true) : tabWf d (tabDel t k) = true := by
  rw [tabWf_iff] at h ⊢
  exact ⟨pairwise_tabDel k h.1, fun p hp => h.2 p (mem_tabDel.1 hp).1⟩

/-- A write keeps the canonical form. -/
theorem tabSet_wf [DecidableEq α] (d : α) (t : Tab α) (k : Nat) (v : α) (h : tabWf d t = true) :
    tabWf d (tabSet d t k v) = true := by
  unfold tabSet
  split
  · exact tabDel_wf d t k h
  · rename_i hv
    rw [tabWf_iff] at h ⊢
    refine ⟨pairwise_tabIns k v (fun p hp => (mem_tabDel.1 hp).2) (pairwise_tabDel k h.1), ?_⟩
    intro p hp
    rcases mem_tabIns.1 hp with rfl | hp
    · exact hv
    · exact h.2 p (mem_tabDel.1 hp).1

/-- Writing a run of bytes keeps the canonical form of memory. -/
theorem memWrite_wf (d : BitVec 8) (bs : List (BitVec 8)) : ∀ (m : Mem) (a : Nat),
    tabWf d m = true → tabWf d (memWrite d m a bs) = true := by
  induction bs with
  | nil => intro m a h; exact h
  | cons b bs ih => intro m a h; exact ih _ _ (tabSet_wf d m a b h)

/-- Cutting a range of keys keeps the canonical form. -/
theorem tabCut_wf [DecidableEq α] (d : α) (lo hi : Nat) (t : Tab α) (h : tabWf d t = true) : tabWf d (tabCut lo hi t) = true := by
  rw [tabWf_iff] at h ⊢
  exact ⟨h.1.sublist List.filter_sublist, fun p hp => h.2 p (List.mem_filter.1 hp).1⟩

/-- A byte outside the run that is written reads as before. -/
theorem tabGet_memWrite_outside (d : BitVec 8) (bs : List (BitVec 8)) : ∀ (m : Mem) (a x : Nat),
    (x < a ∨ a + bs.length ≤ x) → tabGet d (memWrite d m a bs) x = tabGet d m x := by
  induction bs with
  | nil => intro m a x _; rfl
  | cons b bs ih =>
    intro m a x h
    simp only [List.length_cons] at h
    rw [memWrite, ih _ _ _ (by omega), tabGet_tabSet_other d m b (by omega)]

/-- The bytes written are read back. -/
theorem memBytes_memWrite (d : BitVec 8) (bs : List (BitVec 8)) : ∀ (m : Mem) (a : Nat),
    memBytes d (memWrite d m a bs) a bs.length = bs := by
  induction bs with
  | nil => intro m a; rfl
  | cons b bs ih =>
    intro m a
    have h : tabGet d (memWrite d (tabSet d m a b) (a + 1) bs) a = b := by
      rw [tabGet_memWrite_outside d bs _ _ _ (.inl (Nat.lt_succ_self a))]
      simp
    simp only [memWrite, List.length_cons, memBytes, h, ih]

/-- The number of bytes of a read. -/
@[simp] theorem memBytes_length (d : BitVec 8) (m : Mem) (n : Nat) : ∀ a, (memBytes d m a n).length = n := by
  induction n with
  | zero => intro a; rfl
  | succ n ih => intro a; simp [memBytes, ih]

/-- Taking out a key that is not listed changes nothing. -/
theorem tabDel_of_tabFind_none (t : Tab α) {k : Nat} (h : tabFind t k = none) : tabDel t k = t := by
  induction t with
  | nil => rfl
  | cons p t ih =>
    obtain ⟨a, v⟩ := p
    by_cases ha : a = k
    · simp [tabFind, ha] at h
    · have : tabFind t k = none := by simpa [tabFind, ha] using h
      simp [tabDel, ha, ih this]

end Sys2Proof.Machine
end

