-- ==== Sys2Proof/Laws/Regs.lean ====
section
/-! SUPPORT. Register fields and counters: read after write, and reads under the shared operations. -/

namespace Sys2Proof.Machine

/-- A field that has been written reads the value cut to its width. -/
theorem getF_setF_same (f : Fld) (v : Nat) (s : State) : getF f (setF f v s) = v % 2 ^ f.w := by
  simp [getF, setF]

/-- A write of a field leaves every other field alone. -/
theorem getF_setF_other {f g : Fld} (v : Nat) (s : State) (h : fldKey g ≠ fldKey f) : getF g (setF f v s) = getF g s := by
  exact tabGet_tabSet_other _ _ _ h

/-- A field reads the same in two states with the same registers. -/
theorem getF_congr {s t : State} (h : t.regs = s.regs) (f : Fld) : getF f t = getF f s := by
  simp [getF, h]

/-- A counter reads the same in two states with the same counters. -/
theorem getC_congr {s t : State} (h : t.ctrs = s.ctrs) (k : Nat) : getC k t = getC k s := by
  simp [getC, h]

@[simp] theorem getF_emit (f : Fld) (o : Out) (s : State) : getF f (emit o s) = getF f s := rfl
@[simp] theorem getF_useFree (f : Fld) (s : State) : getF f (useFree s) = getF f s := rfl
@[simp] theorem getF_addC (f : Fld) (k n : Nat) (s : State) : getF f (addC k n s) = getF f s := rfl
@[simp] theorem getF_incC (f : Fld) (k : Nat) (s : State) : getF f (incC k s) = getF f s := rfl
@[simp] theorem getF_clrC (f : Fld) (k : Nat) (s : State) : getF f (clrC k s) = getF f s := rfl
@[simp] theorem getF_startTimer (f : Fld) (k d : Nat) (s : State) : getF f (startTimer k d s) = getF f s := rfl
@[simp] theorem getF_startFirm (f : Fld) (k d : Nat) (s : State) : getF f (startFirm k d s) = getF f s := rfl
@[simp] theorem getF_stopTimer (f : Fld) (k : Nat) (s : State) : getF f (stopTimer k s) = getF f s := rfl
@[simp] theorem getF_expire (f : Fld) (k : Nat) (s : State) : getF f (expire k s) = getF f s := rfl
@[simp] theorem getF_rateMark (f : Fld) (k : Nat) (s : State) : getF f (rateMark k s) = getF f s := rfl
@[simp] theorem getF_msix (f : Fld) (v : Nat) (s : State) : getF f (msix v s) = getF f s := getF_congr (msix_regs v s) f
@[simp] theorem getC_setF (f : Fld) (v k : Nat) (s : State) : getC k (setF f v s) = getC k s := rfl

/-- A counter to which something is added, short of its maximum. -/
theorem getC_addC_same (k n : Nat) (s : State) (h : (getC k s).val + n < 2 ^ 48) :
    getC k (addC k n s) = ⟨(getC k s).val + n, (getC k s).ovf⟩ := by
  by_cases hn : n = 0
  · subst hn
    exact tabGet_tabSet_same ..
  · exact (tabGet_tabSet_same ..).trans ((if_neg hn).trans (if_pos h))

/-- Another counter keeps its value. -/
theorem getC_addC_other {k j : Nat} (n : Nat) (s : State) (h : j ≠ k) : getC j (addC k n s) = getC j s := by
  exact tabGet_tabSet_other _ _ _ h

/-- A timer that has been started is due that long from now. -/
theorem deadline_startTimer (k d : Nat) (s : State) :
    tabFind (startTimer k d s).time.deadlines k = some (s.time.us + d) := by
  simp [startTimer, tabFind_tabPut_same]

/-- A timer that has expired or been stopped does not run. -/
theorem timerOn_expire (k : Nat) (s : State) : timerOn k (expire k s) = false := by
  simp [timerOn, expire, tabFind_tabDel_same]
theorem timerOn_stopTimer (k : Nat) (s : State) : timerOn k (stopTimer k s) = false := by
  simp [timerOn, stopTimer, tabFind_tabDel_same]
theorem timerOn_startTimer (k d : Nat) (s : State) : timerOn k (startTimer k d s) = true := by
  simp [timerOn, deadline_startTimer]

end Sys2Proof.Machine
end

