-- ==== Sys2Proof/Laws/Noted.lean ====
section
/-! SUPPORT. What events, notices, latches and alarms may touch: each of the shared operations that write something down leaves
the rest of the state as it is (`Noted`). -/

namespace Sys2Proof.Machine

theorem Noted.refl (s : State) : Noted s s := by constructor <;> intros <;> rfl

theorem Noted.trans {s t u : State} (h : Noted s t) (k : Noted t u) : Noted s u where
  regs f hl hf := (k.regs f hl hf).trans (h.regs f hl hf)
  ctrs j hj := (k.ctrs j hj).trans (h.ctrs j hj)
  latch := k.latch.trans h.latch
  us := k.us.trans h.us
  runFrom := k.runFrom.trans h.runFrom
  lastEvt := k.lastEvt.trans h.lastEvt
  full := k.full.trans h.full
  timers j h1 h2 := (k.timers j h1 h2).trans (h.timers j h1 h2)
  freeIdx := k.freeIdx.trans h.freeIdx
  clk := k.clk.trans h.clk
  dev := k.dev.trans h.dev
  boxes := k.boxes.trans h.boxes
  queue := k.queue.trans h.queue
  running := k.running.trans h.running
  served := k.served.trans h.served
  romOnly := k.romOnly.trans h.romOnly
  grantor := k.grantor.trans h.grantor
  violations := k.violations.trans h.violations
  stackTab := k.stackTab.trans h.stackTab
  guard := k.guard.trans h.guard
  unlock := k.unlock.trans h.unlock
  dq := k.dq.trans h.dq
  rally := k.rally.trans h.rally
  sites := k.sites.trans h.sites
  gc := k.gc.trans h.gc
  pll := k.pll.trans h.pll
  boot := k.boot.trans h.boot
  fab := k.fab.trans h.fab
  cfg := k.cfg.trans h.cfg
  noc := k.noc.trans h.noc
  dram := k.dram.trans h.dram
  pm := k.pm.trans h.pm
  pending := k.pending.trans h.pending

/-- The registers differ in fields of `noteAddr` only. -/
theorem Noted.ofRegs {s : State} {r : Tab Nat}
    (h : ∀ f : Fld, f.lo < 32 → ¬ noteAddr f.addr → tabGet f.rst r (fldKey f) = getF f s) : Noted s { s with regs := r } :=
  { Noted.refl s with regs := h }

/-- A field among those of `noteAddr` is written. -/
theorem Noted.setNote {f : Fld} (hf : noteAddr f.addr) (hlo : f.lo < 32) (v : Nat) (s : State) : Noted s (setF f v s) := by
  apply Noted.ofRegs
  intro g hl hg
  refine getF_setF_other v s ?_
  intro he
  simp only [fldKey] at he
  have : g.addr = f.addr := by omega
  exact hg (this ▸ hf)

/-- The same field is written in both states. -/
theorem Noted.setF {s t : State} (h : Noted s t) (f : Fld) (v : Nat) : Noted (setF f v s) (setF f v t) := by
  refine { h with regs := ?_ }
  intro g hl hg
  by_cases hk : fldKey g = fldKey f
  · show tabGet g.rst (tabSet f.rst t.regs (fldKey f) _) (fldKey g) = tabGet g.rst (tabSet f.rst s.regs (fldKey f) _) (fldKey g)
    rw [hk]
    unfold tabSet
    split
    · simp [tabGet, tabFind_tabDel_same]
    · simp [tabGet, tabFind_tabPut_same]
  · rw [getF_setF_other v t hk, getF_setF_other v s hk]
    exact h.regs g hl hg

/-- Something leaves the part. -/
theorem Noted.emit (o : Out) (s : State) : Noted s (emit o s) := { Noted.refl s with }
theorem Noted.msix (v : Nat) (s : State) : Noted s (msix v s) := by
  unfold Machine.msix
  split
  · exact Noted.emit _ s
  · exact Noted.refl s
theorem Noted.whenS {f : State → State} (h : ∀ s, Noted s (f s)) (b : Bool) (s : State) : Noted s (whenS b f s) := by
  unfold Machine.whenS
  split
  · exact h s
  · exact Noted.refl s

/-- The Scorebook's own state changes. -/
theorem Noted.ofSb (s : State) (x : Sb) : Noted s { s with sb := x } := { Noted.refl s with }

/-- A page is programmed. -/
theorem Noted.flProgram (a : Nat) (b : List (BitVec 8)) (s : State) : Noted s (flProgram a b s) := by
  refine { Noted.refl s with ctrs := ?_, guard := rfl, unlock := rfl }
  intro k hk
  unfold Machine.flProgram incC
  rw [getC_addC_other]
  · rfl
  · unfold ctFL ctrKey
    intro he
    omega

theorem Noted.flStart (o : FlashOp) (s : State) : Noted s (flStart o s) := { Noted.refl s with guard := rfl, unlock := rfl }
theorem Noted.flSpoilPage (a : Nat) (s : State) : Noted s (flSpoilPage a s) := { Noted.refl s with guard := rfl, unlock := rfl }

theorem Noted.ofTimer {s : State} {d : Tab Nat} (h : ∀ k, k ≠ 1 → k ≠ 2 → tabFind d k = tabFind s.time.deadlines k) :
    Noted s { s with time := { s.time with deadlines := d } } := { Noted.refl s with timers := h }

theorem Noted.bumpF {f : Fld} (hf : noteAddr f.addr) (hlo : f.lo < 32) (s : State) : Noted s (bumpF f s) := by
  unfold Machine.bumpF
  split
  · exact Noted.setNote hf hlo _ s
  · exact Noted.refl s

theorem Noted.sbAppend (r : Rec) (s : State) : Noted s (sbAppend r s) := by
  unfold Machine.sbAppend
  split
  · exact Noted.ofSb s _
  · exact (Noted.ofSb s _).trans (Noted.bumpF (by unfold noteAddr; decide) (by decide) _)

theorem Noted.sbBuffer (r : Rec) (s : State) : Noted s (sbBuffer r s) := by
  have h0 : Noted s (Machine.whenS (sbWatched r.code s) (Machine.setF SB_STATUS_WATCH_EV 1) s) :=
    Noted.whenS (fun s => Noted.setNote (by unfold noteAddr; decide) (by decide) 1 s) _ s
  refine h0.trans ?_
  dsimp only [Machine.sbBuffer]
  generalize Machine.whenS _ _ s = u
  split
  · exact Noted.ofSb _ _
  · split
    · exact Noted.ofSb _ _
    · split
      · exact Noted.ofSb _ _
      · exact Noted.sbAppend r _

theorem Noted.sbOpen (s : State) : Noted s (sbOpen s) :=
  ((Noted.flProgram _ _ s).trans (Noted.ofSb _ _)).trans (Noted.flStart _ _)

theorem Noted.sbProgram (fails : Bool) (s : State) : Noted s (sbProgram fails s) := by
  cases fails
  · exact ((Noted.flProgram _ _ s).trans (Noted.ofSb _ _)).trans ((Noted.whenS (fun s => Noted.setNote (f := SB_STATUS_LOST_EV) (by unfold noteAddr; decide) (by decide) 1 s) _ _).trans
      (Noted.whenS (fun s => Noted.setNote (f := SB_STATUS_WATCH_EV) (by unfold noteAddr; decide) (by decide) 1 s) _ _))
  · have h (a : Nat) (x : Sb) (r : Rec) :
        Noted s (Machine.sbBuffer r (Machine.setF SB_STATUS_WRITE_FAIL 1 { Machine.flSpoilPage a s with sb := x })) :=
      (((Noted.flSpoilPage a s).trans (Noted.ofSb _ x)).trans (Noted.setNote (f := SB_STATUS_WRITE_FAIL) (by unfold noteAddr; decide) (by decide) 1 _)).trans
        (Noted.sbBuffer r _)
    dsimp only [Machine.sbProgram]
    simp only [if_true]
    split
    · exact (h _ _ _).trans (Noted.sbOpen _)
    · exact h _ _ _

theorem Noted.sbPages (all : Bool) (n : Nat) : ∀ s, Noted s (sbPages all n s) := by
  induction n with
  | zero => exact Noted.refl
  | succ n ih =>
    intro s
    unfold Machine.sbPages
    split
    · split
      · exact (Noted.sbOpen s).trans (ih _)
      · exact (Noted.sbProgram false s).trans (ih _)
    · exact Noted.refl s

theorem Noted.sbTimer (s : State) : Noted s (sbTimer s) := by
  unfold Machine.sbTimer
  split
  · exact Noted.ofTimer (fun k h1 _ => tabFind_tabDel_other _ h1)
  · exact Noted.ofTimer (fun k h1 _ => tabFind_tabPut_other _ _ h1)

/-- Pages that are due are programmed. -/
theorem Noted.sbFlush (all : Bool) (s : State) : Noted s (sbFlush all s) := (Noted.sbPages all 70 s).trans (Noted.sbTimer _)

/-- An event is written. -/
theorem Noted.sbEvent (code : Nat) (vs : List (Nat × Nat)) (s : State) : Noted s (sbEvent code vs s) :=
  (Noted.sbBuffer _ s).trans (Noted.sbFlush false _)

theorem Noted.ofMail {s : State} {m : Mail} (h1 : m.boxes = s.mail.boxes) (h2 : m.queue = s.mail.queue)
    (h3 : m.running = s.mail.running) (h4 : m.served = s.mail.served) (h5 : m.romOnly = s.mail.romOnly)
    (h6 : m.grantor = s.mail.grantor) (h7 : m.violations = s.mail.violations) : Noted s { s with mail := m } :=
  { Noted.refl s with
    boxes := h1, queue := h2, running := h3, served := h4, romOnly := h5, grantor := h6, violations := h7 }

theorem Noted.noticeMsi (s : State) : Noted s (noticeMsi s) := by
  unfold Machine.noticeMsi
  split
  · split
    · exact Noted.ofMail rfl rfl rfl rfl rfl rfl rfl
    · refine Noted.trans (t := Machine.startTimer tmMsi8 10 s) ?_ (Noted.msix _ _)
      exact Noted.ofTimer (fun k _ h2 => tabFind_tabPut_other _ _ h2)
  · exact Noted.refl s

theorem ringBox_lt {r : Nat} (h : r < 7) : ringBox r < 14 := by
  unfold ringBox
  split <;> omega

theorem noteAddr_prod {r : Nat} (h : r < 7) : noteAddr (NOTICE_PROD_PROD (ringBox r)).addr := by
  have := ringBox_lt h
  simp only [noteAddr, NOTICE_PROD_PROD]
  omega
theorem noteAddr_drop {r : Nat} (h : r < 7) : noteAddr (NOTICE_DROP_DROPPED (ringBox r)).addr := by
  have := ringBox_lt h
  simp only [noteAddr, NOTICE_DROP_DROPPED]
  omega
theorem noteAddr_latch {w : Nat} (h : w < 16) : noteAddr (WH_LATCH_LATCH w).addr := by
  simp only [noteAddr, WH_LATCH_LATCH]
  omega

theorem lo_prod (r : Nat) : (NOTICE_PROD_PROD r).lo < 32 := by simp [NOTICE_PROD_PROD]
theorem lo_drop (r : Nat) : (NOTICE_DROP_DROPPED r).lo < 32 := by simp [NOTICE_DROP_DROPPED]
theorem lo_latch (w : Nat) : (WH_LATCH_LATCH w).lo < 32 := by simp [WH_LATCH_LATCH]

theorem Noted.ringWrite {r : Nat} (hr : r < 7) (code mb : Nat) (arg : List (BitVec 8)) (s : State) :
    Noted s (ringWrite r code mb arg s) := by
  have h (x : Tab (List (BitVec 8))) (v : Nat) :
      Noted s (Machine.setF (NOTICE_PROD_PROD (ringBox r)) v { s with mail := { s.mail with rings := x } }) :=
    Noted.trans (t := { s with mail := { s.mail with rings := x } }) (Noted.ofMail rfl rfl rfl rfl rfl rfl rfl)
      (Noted.setNote (noteAddr_prod hr) (lo_prod _) v _)
  dsimp only [Machine.ringWrite]
  split
  · exact (h _ _).trans (Noted.noticeMsi _)
  · exact h _ _

theorem Noted.ringOverflow {r : Nat} (hr : r < 7) (s : State) : Noted s (ringOverflow r s) := by
  dsimp only [Machine.ringOverflow]
  split
  · exact (Noted.setNote (noteAddr_drop hr) (lo_drop _) 0 s).trans (Noted.ringWrite hr _ _ _ _)
  · exact Noted.refl s

/-- A notice goes to a ring. -/
theorem Noted.ringPost {r : Nat} (hr : r < 7) (code mb : Nat) (arg : List (BitVec 8)) (s : State) :
    Noted s (ringPost r code mb arg s) := by
  refine (Noted.ringOverflow hr s).trans ?_
  dsimp only [Machine.ringPost]
  generalize Machine.ringOverflow r s = u
  split
  · exact Noted.trans (Noted.whenS (Noted.sbEvent 0x0115 []) _ u) (Noted.bumpF (noteAddr_drop hr) (lo_drop _) _)
  · exact Noted.ringWrite hr _ _ _ _

theorem Noted.forEach {α : Type} {f : α → State → State} {l : List α} (h : ∀ a ∈ l, ∀ s, Noted s (f a s)) :
    ∀ s, Noted s (forEach f l s) := by
  induction l with
  | nil => exact Noted.refl
  | cons a l ih =>
    intro s
    exact (h a (by simp) s).trans (ih (fun b hb => h b (by simp [hb])) _)

theorem mem_natsFrom {lo n x : Nat} : x ∈ natsFrom lo n ↔ lo ≤ x ∧ x < lo + n := by
  induction n generalizing lo with
  | zero => simp [natsFrom]
  | succ n ih => simp only [natsFrom, List.mem_cons, ih]; omega

/-- A notice goes to every ring that takes it. -/
theorem Noted.notice (code mb : Nat) (arg : List (BitVec 8)) (s : State) : Noted s (notice code mb arg s) := by
  refine Noted.forEach ?_ s
  intro r hr s
  have : r < 7 := by have := mem_natsFrom.1 hr; omega
  split
  · exact Noted.ringPost this _ _ _ _
  · exact Noted.refl s

/-- A latch of the Whistle is set. -/
theorem Noted.whRaise {id : Nat} (h : id < 512) (s : State) : Noted s (whRaise id s) :=
  Noted.setNote (f := WH_LATCH_LATCH (id / 32)) (noteAddr_latch (by omega)) (lo_latch _) _ s

/-- FAULT_N follows. -/
theorem Noted.faultFollow (s : State) : Noted s (faultFollow s) := by
  unfold Machine.faultFollow
  split
  · exact Noted.refl s
  · exact (Noted.setNote (f := LJ_STATUS_FAULT_OUT) (by unfold noteAddr; decide) (by decide) _ s).trans (Noted.sbEvent _ _ _)

theorem Noted.ofLj (s : State) (x : Lj) : Noted s { s with lj := x } := { Noted.refl s with }

/-- An alarm whose policy is not SAFE. -/
theorem Noted.alarm {c subject : Nat} {present : Bool} {s : State} (hp : getF (policyFld c) s ≠ 2) :
    Noted s (alarm c subject present s) := by
  have h (v : State → Nat) (vs : List (Nat × Nat)) (b : List (BitVec 8)) :
      Noted s (Machine.notice 0x0006 0xFF b (Machine.sbEvent 0x0C01 vs (Machine.setF LJ_ALARM_LATCH_ALARM
        (v (Machine.whenS present (fun s => Machine.setF LJ_ALARM_ACT_ALARM (withBit (getF LJ_ALARM_ACT_ALARM s) (c - 1)) s) s))
        (Machine.whenS present (fun s => Machine.setF LJ_ALARM_ACT_ALARM (withBit (getF LJ_ALARM_ACT_ALARM s) (c - 1)) s) s)))) :=
    (((Noted.whenS (fun s => Noted.setNote (f := LJ_ALARM_ACT_ALARM) (by unfold noteAddr; decide) (by decide) _ s) present s).trans
      (Noted.setNote (by unfold noteAddr; decide) (by decide) _ _)).trans (Noted.sbEvent _ _ _)).trans (Noted.notice _ _ _ _)
  unfold Machine.alarm
  simp only [hp, if_false]
  refine Noted.trans ?_ (Noted.faultFollow _)
  split
  · exact (h (fun u => withBit (getF LJ_ALARM_LATCH_ALARM u) (c - 1)) _ _).trans (Noted.ofLj _ _)
  · exact h (fun u => withBit (getF LJ_ALARM_LATCH_ALARM u) (c - 1)) _ _

theorem Noted.alarmGone (c : Nat) (s : State) : Noted s (alarmGone c s) := Noted.setNote (by unfold noteAddr; decide) (by decide) _ s

/-- GUARANTEE follows, where its alarm's policy is not SAFE. -/
theorem Noted.guaranteeFollow {s : State} (hp : getF (policyFld 0x13) s ≠ 2) : Noted s (guaranteeFollow s) := by
  dsimp only [Machine.guaranteeFollow]
  split
  · exact Noted.refl s
  · split
    · exact ((Noted.setNote (f := LJ_STATUS_GUARANTEE) (by unfold noteAddr; decide) (by decide) _ s).trans (Noted.sbEvent _ _ _)).trans (Noted.alarmGone _ _)
    · have h := (Noted.setNote (f := LJ_STATUS_GUARANTEE) (by unfold noteAddr; decide) (by decide) 0 s).trans (Noted.sbEvent 0x0C09 [(4, condNow s)] _)
      refine h.trans (Noted.alarm ?_)
      rw [h.regs _ (by decide) (by unfold noteAddr; decide)]
      exact hp

/-- The Whistle follows the levels. -/
theorem Noted.whFollow (t : Nat) (s : State) : Noted s (whFollow t s) := by
  dsimp only [Machine.whFollow]
  split
  · exact Noted.refl s
  · split
    · refine Noted.trans ?_ (Noted.whenS (Noted.msix 9) _ _)
      exact { Noted.refl s with stackTab := rfl }
    · exact { Noted.refl s with stackTab := rfl }

theorem Noted.whSettle (s : State) : Noted s (whSettle s) := Noted.forEach (fun t _ s => Noted.whFollow t s) s

end Sys2Proof.Machine
end

