-- ==== Sys2Proof/Laws/Whistle.lean ====
section
/-! SUPPORT. How every command ends: `whSettle` touches REQ, what it has seen, and what leaves the part; nothing else. -/

namespace Sys2Proof.Machine

/-- The Whistle's own view of its targets and what leaves the part, replaced: every change that `whSettle` makes is of this form. -/
def whView (s : State) (req seen : Nat) (out : List Out) : State :=
  { s with wh := { s.wh with req := req, seen := seen }, out := out }

theorem whFollow_shape (t : Nat) (s : State) : ∃ req seen out, whFollow t s = whView s req seen out := by
  dsimp only [whFollow]
  split
  · exact ⟨s.wh.req, s.wh.seen, s.out, rfl⟩
  · split
    · unfold whenS
      split
      · unfold msix
        split
        · exact ⟨_, _, _, rfl⟩
        · exact ⟨_, _, s.out, rfl⟩
      · exact ⟨_, _, s.out, rfl⟩
    · exact ⟨_, s.wh.seen, s.out, rfl⟩

/-- All that `whSettle` does to a state. -/
theorem whSettle_shape (s : State) : ∃ req seen out, whSettle s = whView s req seen out := by
  have h : ∀ (l : List Nat) (s : State), ∃ req seen out, forEach whFollow l s = whView s req seen out := by
    intro l
    induction l with
    | nil => intro s; exact ⟨s.wh.req, s.wh.seen, s.out, rfl⟩
    | cons a l ih =>
      intro s
      obtain ⟨r, n, o, h1⟩ := whFollow_shape a s
      obtain ⟨r', n', o', h2⟩ := ih (whView s r n o)
      exact ⟨r', n', o', by rw [forEach, h1, h2]; rfl⟩
  exact h _ s

/-- REQ as the levels give it does not depend on what the Whistle last presented, nor on what has left the part. -/
theorem whReq_whView (t : Nat) (s : State) (req seen : Nat) (out : List Out) : whReq t (whView s req seen out) = whReq t s := rfl

@[simp] theorem whSettle_regs (s : State) : (whSettle s).regs = s.regs := by
  obtain ⟨_, _, _, h⟩ := whSettle_shape s
  rw [h]
  rfl
@[simp] theorem whSettle_ctrs (s : State) : (whSettle s).ctrs = s.ctrs := by
  obtain ⟨_, _, _, h⟩ := whSettle_shape s
  rw [h]
  rfl
@[simp] theorem whSettle_latch (s : State) : (whSettle s).latch = s.latch := by
  obtain ⟨_, _, _, h⟩ := whSettle_shape s
  rw [h]
  rfl
@[simp] theorem whSettle_time (s : State) : (whSettle s).time = s.time := by
  obtain ⟨_, _, _, h⟩ := whSettle_shape s
  rw [h]
  rfl
@[simp] theorem whSettle_freeIdx (s : State) : (whSettle s).freeIdx = s.freeIdx := by
  obtain ⟨_, _, _, h⟩ := whSettle_shape s
  rw [h]
  rfl
@[simp] theorem whSettle_clk (s : State) : (whSettle s).clk = s.clk := by
  obtain ⟨_, _, _, h⟩ := whSettle_shape s
  rw [h]
  rfl
@[simp] theorem whSettle_dev (s : State) : (whSettle s).dev = s.dev := by
  obtain ⟨_, _, _, h⟩ := whSettle_shape s
  rw [h]
  rfl
@[simp] theorem whSettle_mail (s : State) : (whSettle s).mail = s.mail := by
  obtain ⟨_, _, _, h⟩ := whSettle_shape s
  rw [h]
  rfl
@[simp] theorem whSettle_sb (s : State) : (whSettle s).sb = s.sb := by
  obtain ⟨_, _, _, h⟩ := whSettle_shape s
  rw [h]
  rfl
@[simp] theorem whSettle_flash (s : State) : (whSettle s).flash = s.flash := by
  obtain ⟨_, _, _, h⟩ := whSettle_shape s
  rw [h]
  rfl
@[simp] theorem whSettle_lj (s : State) : (whSettle s).lj = s.lj := by
  obtain ⟨_, _, _, h⟩ := whSettle_shape s
  rw [h]
  rfl
@[simp] theorem whSettle_dq (s : State) : (whSettle s).dq = s.dq := by
  obtain ⟨_, _, _, h⟩ := whSettle_shape s
  rw [h]
  rfl
@[simp] theorem whSettle_rally (s : State) : (whSettle s).rally = s.rally := by
  obtain ⟨_, _, _, h⟩ := whSettle_shape s
  rw [h]
  rfl
@[simp] theorem whSettle_sites (s : State) : (whSettle s).sites = s.sites := by
  obtain ⟨_, _, _, h⟩ := whSettle_shape s
  rw [h]
  rfl
@[simp] theorem whSettle_gc (s : State) : (whSettle s).gc = s.gc := by
  obtain ⟨_, _, _, h⟩ := whSettle_shape s
  rw [h]
  rfl
@[simp] theorem whSettle_pll (s : State) : (whSettle s).pll = s.pll := by
  obtain ⟨_, _, _, h⟩ := whSettle_shape s
  rw [h]
  rfl
@[simp] theorem whSettle_boot (s : State) : (whSettle s).boot = s.boot := by
  obtain ⟨_, _, _, h⟩ := whSettle_shape s
  rw [h]
  rfl
@[simp] theorem whSettle_fab (s : State) : (whSettle s).fab = s.fab := by
  obtain ⟨_, _, _, h⟩ := whSettle_shape s
  rw [h]
  rfl
@[simp] theorem whSettle_cfg (s : State) : (whSettle s).cfg = s.cfg := by
  obtain ⟨_, _, _, h⟩ := whSettle_shape s
  rw [h]
  rfl
@[simp] theorem whSettle_noc (s : State) : (whSettle s).noc = s.noc := by
  obtain ⟨_, _, _, h⟩ := whSettle_shape s
  rw [h]
  rfl
@[simp] theorem whSettle_dram (s : State) : (whSettle s).dram = s.dram := by
  obtain ⟨_, _, _, h⟩ := whSettle_shape s
  rw [h]
  rfl
@[simp] theorem whSettle_pm (s : State) : (whSettle s).pm = s.pm := by
  obtain ⟨_, _, _, h⟩ := whSettle_shape s
  rw [h]
  rfl
@[simp] theorem whSettle_pending (s : State) : (whSettle s).pending = s.pending := by
  obtain ⟨_, _, _, h⟩ := whSettle_shape s
  rw [h]
  rfl
@[simp] theorem getF_whSettle (f : Fld) (s : State) : getF f (whSettle s) = getF f s := getF_congr (whSettle_regs s) f
@[simp] theorem getC_whSettle (k : Nat) (s : State) : getC k (whSettle s) = getC k s := getC_congr (whSettle_ctrs s) k
@[simp] theorem boxOf_whSettle (m : Nat) (s : State) : boxOf m (whSettle s) = boxOf m s := by simp [boxOf]
@[simp] theorem whSettle_stacks (s : State) : (whSettle s).wh.stackTab = s.wh.stackTab := by
  obtain ⟨_, _, _, h⟩ := whSettle_shape s
  rw [h]
  rfl

/-- A command that ends in `fin` answers a next state. -/
theorem fin_next (s : State) : fin s = .next (whSettle s) := rfl
theorem finG_next (s : State) : finG s = .next (whSettle (guaranteeFollow s)) := rfl

end Sys2Proof.Machine
end

