-- ==== Sys2Proof/Laws/Mail.lean ====
section
/-! SUPPORT. The path of a mailbox command (R139 to R150): what concluding a request writes, and that a request which asks a sheet runs it. -/

namespace Sys2Proof.Machine

theorem seqPop_shape (s : State) : ∃ q, seqPop s = { s with mail := { s.mail with queue := q } } := by
  unfold seqPop
  split
  · exact ⟨s.mail.queue, rfl⟩
  · exact ⟨_, rfl⟩

/-! Taking a request out of the sequencer changes the sequencer's queue alone. -/

@[simp] theorem seqPop_regs (s : State) : (seqPop s).regs = s.regs := by
  obtain ⟨_, h⟩ := seqPop_shape s
  rw [h]
@[simp] theorem seqPop_ctrs (s : State) : (seqPop s).ctrs = s.ctrs := by
  obtain ⟨_, h⟩ := seqPop_shape s
  rw [h]
@[simp] theorem seqPop_latch (s : State) : (seqPop s).latch = s.latch := by
  obtain ⟨_, h⟩ := seqPop_shape s
  rw [h]
@[simp] theorem seqPop_time (s : State) : (seqPop s).time = s.time := by
  obtain ⟨_, h⟩ := seqPop_shape s
  rw [h]
@[simp] theorem seqPop_freeIdx (s : State) : (seqPop s).freeIdx = s.freeIdx := by
  obtain ⟨_, h⟩ := seqPop_shape s
  rw [h]
@[simp] theorem seqPop_clk (s : State) : (seqPop s).clk = s.clk := by
  obtain ⟨_, h⟩ := seqPop_shape s
  rw [h]
@[simp] theorem seqPop_dev (s : State) : (seqPop s).dev = s.dev := by
  obtain ⟨_, h⟩ := seqPop_shape s
  rw [h]
@[simp] theorem seqPop_wh (s : State) : (seqPop s).wh = s.wh := by
  obtain ⟨_, h⟩ := seqPop_shape s
  rw [h]
@[simp] theorem seqPop_sb (s : State) : (seqPop s).sb = s.sb := by
  obtain ⟨_, h⟩ := seqPop_shape s
  rw [h]
@[simp] theorem seqPop_flash (s : State) : (seqPop s).flash = s.flash := by
  obtain ⟨_, h⟩ := seqPop_shape s
  rw [h]
@[simp] theorem seqPop_lj (s : State) : (seqPop s).lj = s.lj := by
  obtain ⟨_, h⟩ := seqPop_shape s
  rw [h]
@[simp] theorem seqPop_dq (s : State) : (seqPop s).dq = s.dq := by
  obtain ⟨_, h⟩ := seqPop_shape s
  rw [h]
@[simp] theorem seqPop_rally (s : State) : (seqPop s).rally = s.rally := by
  obtain ⟨_, h⟩ := seqPop_shape s
  rw [h]
@[simp] theorem seqPop_sites (s : State) : (seqPop s).sites = s.sites := by
  obtain ⟨_, h⟩ := seqPop_shape s
  rw [h]
@[simp] theorem seqPop_gc (s : State) : (seqPop s).gc = s.gc := by
  obtain ⟨_, h⟩ := seqPop_shape s
  rw [h]
@[simp] theorem seqPop_pll (s : State) : (seqPop s).pll = s.pll := by
  obtain ⟨_, h⟩ := seqPop_shape s
  rw [h]
@[simp] theorem seqPop_boot (s : State) : (seqPop s).boot = s.boot := by
  obtain ⟨_, h⟩ := seqPop_shape s
  rw [h]
@[simp] theorem seqPop_fab (s : State) : (seqPop s).fab = s.fab := by
  obtain ⟨_, h⟩ := seqPop_shape s
  rw [h]
@[simp] theorem seqPop_cfg (s : State) : (seqPop s).cfg = s.cfg := by
  obtain ⟨_, h⟩ := seqPop_shape s
  rw [h]
@[simp] theorem seqPop_noc (s : State) : (seqPop s).noc = s.noc := by
  obtain ⟨_, h⟩ := seqPop_shape s
  rw [h]
@[simp] theorem seqPop_dram (s : State) : (seqPop s).dram = s.dram := by
  obtain ⟨_, h⟩ := seqPop_shape s
  rw [h]
@[simp] theorem seqPop_pm (s : State) : (seqPop s).pm = s.pm := by
  obtain ⟨_, h⟩ := seqPop_shape s
  rw [h]
@[simp] theorem seqPop_out (s : State) : (seqPop s).out = s.out := by
  obtain ⟨_, h⟩ := seqPop_shape s
  rw [h]
@[simp] theorem seqPop_pending (s : State) : (seqPop s).pending = s.pending := by
  obtain ⟨_, h⟩ := seqPop_shape s
  rw [h]
@[simp] theorem getF_seqPop (f : Fld) (s : State) : getF f (seqPop s) = getF f s := getF_congr (seqPop_regs s) f
@[simp] theorem getC_seqPop (k : Nat) (s : State) : getC k (seqPop s) = getC k s := getC_congr (seqPop_ctrs s) k
@[simp] theorem boxOf_seqPop (m : Nat) (s : State) : boxOf m (seqPop s) = boxOf m s := by
  obtain ⟨q, h⟩ := seqPop_shape s
  rw [h]
  rfl
@[simp] theorem seqPop_romOnly (s : State) : (seqPop s).mail.romOnly = s.mail.romOnly := by
  obtain ⟨q, h⟩ := seqPop_shape s
  rw [h]
@[simp] theorem seqPop_running (s : State) : (seqPop s).mail.running = s.mail.running := by
  obtain ⟨q, h⟩ := seqPop_shape s
  rw [h]

/-- A request that asks a sheet, and whose command does not wait, is concluded with what the sheet answers. -/
theorem runSheet_asks {sh : Sheet} {m : Nat} {r : Req} {s : State} (h : Asks sh m r s)
    (hw : (sh.run r (seqPop s)).1.status ≠ stWait) :
    runSheet sh m s = conclude r (sh.run r (seqPop s)).1 (sh.run r (seqPop s)).2 := by
  simp only [runSheet, h.head, h.mb, h.opcode, and_self, if_true, runReq, h.gate, seqPop_romOnly, h.rom, Bool.false_and,
    Bool.false_eq_true, if_false, h.free, hw]

theorem boxOf_boxSet_same (m : Nat) (x : MBox) (s : State) : boxOf m (boxSet m x s) = x := by simp [boxOf, boxSet]
theorem boxOf_boxSet_other {m k : Nat} (x : MBox) (s : State) (h : k ≠ m) : boxOf k (boxSet m x s) = boxOf k s :=
  tabGet_tabSet_other _ _ _ h
@[simp] theorem getF_boxSet (f : Fld) (m : Nat) (x : MBox) (s : State) : getF f (boxSet m x s) = getF f s := rfl
@[simp] theorem boxOf_setF (k : Nat) (f : Fld) (v : Nat) (s : State) : boxOf k (setF f v s) = boxOf k s := rfl
@[simp] theorem boxOf_msix (k v : Nat) (s : State) : boxOf k (msix v s) = boxOf k s := by simp [boxOf]

/-- The answer of R140 does not depend on the mailboxes, on registers or on what has left the part. -/
theorem rspBytes_congr (r : Req) (st o : Nat) (p : List (BitVec 8)) {s t : State} (h : t.dev = s.dev) :
    rspBytes r st o p t = rspBytes r st o p s := by
  simp only [rspBytes, h]

/-- A request's number and length are those of 16-bit fields, and its mailbox is one of the fourteen. -/
structure ReqOk (r : Req) : Prop where
  mb : r.mb < 14
  seq : r.seq < 65536

/-- The response, MB_LAST and MB_STATUS as responding writes them, before vector m leaves. -/
def responded (r : Req) (st o : Nat) (p : List (BitVec 8)) (s : State) : State :=
  setF (MB_STATUS_BUSY r.mb) 0 (setF (MB_STATUS_RSP_READY r.mb) 1 (setF (MB_LAST_STATUS r.mb) st (setF (MB_LAST_SEQ r.mb) r.seq
    (boxSet r.mb { boxOf r.mb s with rsp := rspBytes r st o p s } s))))

theorem respond_shape (r : Req) (st o : Nat) (p : List (BitVec 8)) (s : State) :
    ∃ out, respond r st o p s = { responded r st o p s with out := out } := by
  show ∃ out, whenS _ _ (responded r st o p s) = _
  unfold whenS msix
  split
  · split
    · exact ⟨_, rfl⟩
    · exact ⟨(responded r st o p s).out, rfl⟩
  · exact ⟨(responded r st o p s).out, rfl⟩

theorem getF_responded (r : Req) (st o : Nat) (p : List (BitVec 8)) (s : State) (f : Fld) (hl : f.lo < 32)
    (h1 : f.addr ≠ (MB_STATUS_BUSY r.mb).addr) (h2 : f.addr ≠ (MB_LAST_SEQ r.mb).addr) :
    getF f (responded r st o p s) = getF f s := by
  simp only [MB_STATUS_BUSY, MB_LAST_SEQ] at h1 h2
  unfold responded
  rw [getF_setF_other, getF_setF_other, getF_setF_other, getF_setF_other, getF_boxSet]
  all_goals
    simp only [fldKey, MB_STATUS_BUSY, MB_STATUS_RSP_READY, MB_LAST_STATUS, MB_LAST_SEQ]
    omega

/-- Responding changes the mailbox's buffers, MB_STATUS and MB_LAST, and what leaves the part. -/
theorem respond_sealed (r : Req) (st o : Nat) (p : List (BitVec 8)) (s : State) : Sealed r.mb s (respond r st o p s) := by
  obtain ⟨out, h⟩ := respond_shape r st o p s
  rw [h]
  exact {
    regs := fun f hl h1 h2 => getF_responded r st o p s f hl h1 h2
    boxes := fun k hk => boxOf_boxSet_other _ s hk
    req := by
      show (boxOf r.mb (boxSet r.mb _ s)).req = _
      rw [boxOf_boxSet_same]
    rest := ⟨_, _, s.wh.req, s.wh.seen, out, rfl⟩ }

/-- What a mailbox reads after responding. -/
theorem respond_reads (r : Req) (st o : Nat) (p : List (BitVec 8)) (s : State) (hr : r.seq < 65536) (hs : st < 65536) :
    boxOf r.mb (respond r st o p s) = { boxOf r.mb s with rsp := rspBytes r st o p s } ∧
    getF (MB_STATUS_BUSY r.mb) (respond r st o p s) = 0 ∧ getF (MB_STATUS_RSP_READY r.mb) (respond r st o p s) = 1 ∧
    getF (MB_LAST_SEQ r.mb) (respond r st o p s) = r.seq ∧ getF (MB_LAST_STATUS r.mb) (respond r st o p s) = st := by
  obtain ⟨out, h⟩ := respond_shape r st o p s
  rw [h]
  refine ⟨boxOf_boxSet_same r.mb _ s, ?_, ?_, ?_, ?_⟩
  · show getF _ (responded r st o p s) = 0
    unfold responded
    rw [getF_setF_same]
    rfl
  · show getF _ (responded r st o p s) = 1
    unfold responded
    rw [getF_setF_other, getF_setF_same]
    · rfl
    · simp only [fldKey, MB_STATUS_BUSY, MB_STATUS_RSP_READY]; omega
  · show getF _ (responded r st o p s) = r.seq
    unfold responded
    rw [getF_setF_other, getF_setF_other, getF_setF_other, getF_setF_same]
    · exact Nat.mod_eq_of_lt hr
    all_goals simp only [fldKey, MB_STATUS_BUSY, MB_STATUS_RSP_READY, MB_LAST_STATUS, MB_LAST_SEQ]; omega
  · show getF _ (responded r st o p s) = st
    unfold responded
    rw [getF_setF_other, getF_setF_other, getF_setF_same]
    · exact Nat.mod_eq_of_lt hs
    all_goals simp only [fldKey, MB_STATUS_BUSY, MB_STATUS_RSP_READY, MB_LAST_STATUS]; omega

theorem Sealed.trans {m : Nat} {s t u : State} (h : Sealed m s t) (k : Sealed m t u) : Sealed m s u where
  regs f hl h1 h2 := (k.regs f hl h1 h2).trans (h.regs f hl h1 h2)
  boxes j hj := (k.boxes j hj).trans (h.boxes j hj)
  req := k.req.trans h.req
  rest := by
    obtain ⟨_, _, _, _, _, h⟩ := h.rest
    obtain ⟨_, _, _, _, _, k⟩ := k.rest
    rw [k, h]
    exact ⟨_, _, _, _, _, rfl⟩

theorem Sealed.refl (m : Nat) (s : State) : Sealed m s s :=
  ⟨fun _ _ _ _ => rfl, fun _ _ => rfl, rfl, s.regs, s.mail.boxes, s.wh.req, s.wh.seen, s.out, rfl⟩

/-- The Whistle follows after an answer. -/
theorem Sealed.whSettle (m : Nat) (s : State) : Sealed m s (whSettle s) where
  regs f _ _ _ := getF_whSettle f s
  boxes k _ := boxOf_whSettle k s
  req := by rw [boxOf_whSettle]
  rest := by
    obtain ⟨_, _, _, h⟩ := whSettle_shape s
    rw [h]
    exact ⟨s.regs, s.mail.boxes, _, _, _, rfl⟩

/-- A result is remembered. -/
theorem remember_sealed (r : Req) (st : Nat) (p : List (BitVec 8)) (b : Bool) (s : State) : Sealed r.mb s (remember r st p b s) where
  regs _ _ _ _ := rfl
  boxes _ hk := boxOf_boxSet_other _ s hk
  req := by
    show (boxOf r.mb (boxSet r.mb _ s)).req = _
    rw [boxOf_boxSet_same]
  rest := ⟨s.regs, _, s.wh.req, s.wh.seen, s.out, rfl⟩

/-- A request concluded with an answer that ends it. -/
theorem conclude_sealed (r : Req) (st : Nat) (p : List (BitVec 8)) (s : State) : Sealed r.mb s (conclude r ⟨st, p, none⟩ s) :=
  (remember_sealed r st p false s).trans (respond_sealed r st st p _)

/-- A request concluded with ACCEPTED. -/
theorem accept_sealed (r : Req) (st : Nat) (args : List Nat) (data : List (BitVec 8)) (s : State) :
    Sealed r.mb (withRunning r args data s) (conclude r ⟨st, [], some (args, data)⟩ s) :=
  (remember_sealed r st [] true _).trans (respond_sealed r st st [] _)

/-- Remembering a result and responding answers the request. -/
theorem remember_answered (r : Req) (st : Nat) (p : List (BitVec 8)) (b : Bool) (s : State) (hr : r.seq < 65536) (hs : st < 65536) :
    Answered r st p b (respond r st st p (remember r st p b s)) := by
  have h := respond_reads r st st p (remember r st p b s) hr hs
  have hb : boxOf r.mb (remember r st p b s) = { boxOf r.mb s with
      hist := (⟨r.seq, r.opcode, r.crc, st, p, b⟩ :: (boxOf r.mb s).hist).take 16 } := boxOf_boxSet_same r.mb _ s
  have hd : (respond r st st p (remember r st p b s)).dev = (remember r st p b s).dev := by
    obtain ⟨_, h⟩ := respond_shape r st st p (remember r st p b s)
    rw [h]
    rfl
  refine ⟨?_, h.2.1, h.2.2.1, h.2.2.2.1, h.2.2.2.2, ?_⟩
  · rw [h.1, rspBytes_congr r st st p hd]
  · rw [h.1, hb]
    rfl

/-- The Whistle's view does not disturb an answer. -/
theorem Answered.whSettle {r : Req} {st : Nat} {p : List (BitVec 8)} {b : Bool} {s : State} (h : Answered r st p b s) :
    Answered r st p b (whSettle s) := by
  refine ⟨?_, ?_, ?_, ?_, ?_, ?_⟩
  · rw [boxOf_whSettle, h.rsp, rspBytes_congr r st st p (whSettle_dev s)]
  all_goals simp only [getF_whSettle, boxOf_whSettle]
  · exact h.busy
  · exact h.ready
  · exact h.lastSeq
  · exact h.lastStatus
  · exact h.hist

/-- The number of a byte list is below the power of its length. -/
theorem leNat_lt (l : List (BitVec 8)) : leNat l < 256 ^ l.length := by
  induction l with
  | nil => simp [leNat]
  | cons b l ih =>
    have := b.isLt
    simp only [leNat, List.length_cons, Nat.pow_succ]
    omega

theorem fieldAt_lt (b : List (BitVec 8)) (off n : Nat) : fieldAt b off n < 256 ^ n := by
  refine Nat.lt_of_lt_of_le (leNat_lt _) ?_
  exact Nat.pow_le_pow_right (by decide) (by simp only [List.length_take]; omega)

/-- A request at the front of the sequencer is read from its mailbox's buffer. -/
theorem headReq_some {r : Req} {s : State} (h : headReq s = some r) : ∃ m lost, r = reqParse m lost s := by
  unfold headReq at h
  split at h
  · cases h
  · split at h
    · cases h
    · exact ⟨_, _, (Option.some.inj h).symm⟩

theorem Asks.seq_lt {sh : Sheet} {m : Nat} {r : Req} {s : State} (h : Asks sh m r s) : r.seq < 65536 := by
  obtain ⟨m, lost, rfl⟩ := headReq_some h.head
  exact fieldAt_lt _ 2 2

/-- A sheet that is asked and answers with an end: the next state, its answer, and its frame. -/
theorem runSheet_answers {sh : Sheet} {m : Nat} {r : Req} {s u : State} {st : Nat} {p : List (BitVec 8)} (h : Asks sh m r s)
    (hrun : sh.run r (seqPop s) = (⟨st, p, none⟩, u)) (hst : st < 0xFFFF) :
    Answered r st p false (runSheet sh m s) ∧ Sealed m u (runSheet sh m s) := by
  have hw : (sh.run r (seqPop s)).1.status ≠ stWait := by
    rw [hrun]
    show st ≠ 0xFFFF
    omega
  rw [runSheet_asks h hw, hrun]
  exact ⟨remember_answered r st p false u h.seq_lt (by omega), h.mb ▸ conclude_sealed r st p u⟩

/-- A sheet that is asked and accepts: its answer, and its frame. -/
theorem runSheet_accepts {sh : Sheet} {m : Nat} {r : Req} {s u : State} {args : List Nat} {data : List (BitVec 8)} (h : Asks sh m r s)
    (hrun : sh.run r (seqPop s) = (replyAccepted args data, u)) :
    Answered r stAccepted [] true (runSheet sh m s) ∧ Sealed m (withRunning r args data u) (runSheet sh m s) := by
  have hw : (sh.run r (seqPop s)).1.status ≠ stWait := by
    rw [hrun]
    show (1 : Nat) ≠ 0xFFFF
    decide
  rw [runSheet_asks h hw, hrun]
  exact ⟨remember_answered r stAccepted [] true _ h.seq_lt (by decide), h.mb ▸ accept_sealed r stAccepted args data u⟩

/-- Notes do not disturb an answer. -/
theorem Answered.noted {r : Req} {st : Nat} {p : List (BitVec 8)} {b : Bool} {s t : State} (h : Answered r st p b s) (hm : r.mb < 14)
    (k : Noted s t) : Answered r st p b t := by
  have hb : boxOf r.mb t = boxOf r.mb s := by simp only [boxOf, k.boxes]
  refine ⟨?_, ?_, ?_, ?_, ?_, ?_⟩
  · rw [hb, h.rsp, rspBytes_congr r st st p k.dev]
  · rw [k.regs _ (by simp [MB_STATUS_BUSY]) (by simp only [noteAddr, MB_STATUS_BUSY]; omega)]; exact h.busy
  · rw [k.regs _ (by simp [MB_STATUS_RSP_READY]) (by simp only [noteAddr, MB_STATUS_RSP_READY]; omega)]; exact h.ready
  · rw [k.regs _ (by simp [MB_LAST_SEQ]) (by simp only [noteAddr, MB_LAST_SEQ]; omega)]; exact h.lastSeq
  · rw [k.regs _ (by simp [MB_LAST_STATUS]) (by simp only [noteAddr, MB_LAST_STATUS]; omega)]; exact h.lastStatus
  · rw [hb]; exact h.hist

end Sys2Proof.Machine
end

