-- ==== Sys2Proof/Laws/Answers.lean ====
section
/-! SUPPORT. How a meaning's last step becomes a claim: every command's meaning is `fin v`, `finG v` or `.next s`, and a mailbox
command's is one of these over `runSheet`. With these lemmas a result statement reduces to what the sheet's `run` makes of the state. -/

namespace Sys2Proof.Machine

/-- A meaning that ends in `fin v` does `u` where `v` differs from `u` by notes. -/
theorem does_fin {i : Instr} {s v u : State} (h : exec i s = fin v) (n : Noted u v) : Does i s u :=
  ⟨_, h, n.trans (Noted.whSettle _)⟩

/-- The same for one that also lets the guarantee follow. -/
theorem does_finG {i : Instr} {s v u : State} (h : exec i s = finG v) (n : Noted u v) (hp : NotSafe 0x13 v) : Does i s u :=
  ⟨_, h, (n.trans (Noted.guaranteeFollow hp)).trans (Noted.whSettle _)⟩

/-- Equal states differ by no notes. -/
theorem noted_of_eq {s t : State} (h : t = s) : Noted s t := h ▸ Noted.refl _

/-- An answer sealed in mailbox `m` before the Whistle settles tells of `u`. -/
theorem told_fin {m : Nat} {u v x : State} (n : Noted u v) (h : Sealed m v x) : Told m u (whSettle x) :=
  ⟨v, x, n, h, Noted.whSettle _⟩

/-- A sheet that passes its checks and answers OK with `p` leaves `u` and that answer. -/
theorem oks_fin {i : Instr} {sh : Sheet} {m : Nat} {r : Req} {s u v : State} {p q : List (BitVec 8)}
    (he : exec i s = fin (runSheet sh m s)) (h : Asks sh m r s) (hr : sh.run r (seqPop s) = (replyOk p, v)) (n : Noted u v)
    (hp : p = q) : Oks i m r q s u := by
  subst hp
  have := runSheet_answers h (st := stOk) (p := p) (u := v) hr (by decide)
  exact ⟨_, he, this.1.whSettle, told_fin n this.2⟩

/-- A sheet that passes its checks and accepts leaves `u`, the command under way, and that answer. -/
theorem accepts_fin {i : Instr} {sh : Sheet} {m : Nat} {r : Req} {s u v : State} {a c : List Nat} {b d : List (BitVec 8)}
    (he : exec i s = fin (runSheet sh m s)) (h : Asks sh m r s) (hr : sh.run r (seqPop s) = (replyAccepted a b, v))
    (n : Noted (withRunning r c d u) (withRunning r a b v)) : Accepts i m r c d s u := by
  have := runSheet_accepts h (u := v) hr
  exact ⟨_, he, this.1.whSettle, told_fin n this.2⟩

/-- `oks_fin` for a meaning that also lets the guarantee follow. -/
theorem oks_finG {i : Instr} {sh : Sheet} {m : Nat} {r : Req} {s u v : State} {p q : List (BitVec 8)}
    (he : exec i s = finG (runSheet sh m s)) (h : Asks sh m r s) (hr : sh.run r (seqPop s) = (replyOk p, v)) (n : Noted u v)
    (hp : p = q) (hm : m < 14) (hs : NotSafe 0x13 (runSheet sh m s)) : Oks i m r q s u := by
  subst hp
  have := runSheet_answers h (st := stOk) (p := p) (u := v) hr (by decide)
  exact ⟨_, he, (this.1.noted (h.mb ▸ hm) (Noted.guaranteeFollow hs)).whSettle, v, _, n, this.2,
    (Noted.guaranteeFollow hs).trans (Noted.whSettle _)⟩

end Sys2Proof.Machine
end

