-- ==== Sys2Proof/Laws/Bytes.lean ====
section
/-! SUPPORT. Little-endian bytes: lengths, and what a field of a sequence of fields reads (R2). -/

namespace Sys2Proof.Machine

@[simp] theorem leBytes_length (n v : Nat) : (leBytes n v).length = n := by
  induction n generalizing v with
  | zero => rfl
  | succ n ih => simp [leBytes, ih]

/-- The bytes of a number read back as the number, cut to their width. -/
@[simp] theorem leNat_leBytes (n v : Nat) : leNat (leBytes n v) = v % 256 ^ n := by
  induction n generalizing v with
  | zero => simp [leBytes, leNat, Nat.mod_one]
  | succ n ih =>
    simp only [leBytes, leNat, ih, BitVec.toNat_ofNat]
    have h := Nat.mod_mul (x := v) (a := 256) (b := 256 ^ n)
    rw [show (256 : Nat) ^ (n + 1) = 256 * 256 ^ n from Nat.pow_succ', h]

/-- A field inside the first part of a sequence. -/
theorem fieldAt_left (a b : List (BitVec 8)) (off n : Nat) (h : off + n ≤ a.length) : fieldAt (a ++ b) off n = fieldAt a off n := by
  unfold fieldAt
  rw [List.drop_append_of_le_length (by omega), List.take_append_of_le_length (by simp; omega)]

/-- A field beyond the first part of a sequence. -/
theorem fieldAt_right (a b : List (BitVec 8)) (off n : Nat) (h : a.length ≤ off) :
    fieldAt (a ++ b) off n = fieldAt b (off - a.length) n := by
  unfold fieldAt
  rw [List.drop_append, List.drop_of_length_le h, List.nil_append]

/-- A whole field. -/
theorem fieldAt_leBytes (n v : Nat) : fieldAt (leBytes n v) 0 n = v % 256 ^ n := by
  unfold fieldAt
  rw [List.drop_zero, List.take_of_length_le (by simp), leNat_leBytes]

/-- The first field of a sequence. -/
theorem fieldAt_first (n v : Nat) (b : List (BitVec 8)) : fieldAt (leBytes n v ++ b) 0 n = v % 256 ^ n := by
  rw [fieldAt_left _ _ _ _ (by simp), fieldAt_leBytes]

/-- A field behind another. -/
theorem fieldAt_skip (k v off n : Nat) (b : List (BitVec 8)) (h : k ≤ off) :
    fieldAt (leBytes k v ++ b) off n = fieldAt b (off - k) n := by
  rw [fieldAt_right _ _ _ _ (by simpa using h), leBytes_length]

end Sys2Proof.Machine
end

