-- ==== Sys2Proof/WellFormed.lean ====
section
/-! DEFINITION. What a command's operands must satisfy beyond their types: lists of the length that the hardware has, each member of
a cycle named once, values in the range that a measurement can give. The meanings are total; a command that is not well formed is one
that nothing outside the part can bring about. -/

namespace Sys2Proof.WellFormed

/-- No member of a list appears twice. -/
def once {α : Type} [DecidableEq α] : List α → Bool
  | [] => true
  | a :: l => !l.contains a && once l

/-- A site's answer (R101 to R105): a serial number of 16 bytes where an optical module answers, a record of 256 bytes. -/
def site (x : SiteIn) : Bool :=
  decide (x.serial.length = if x.optical.isSome then 16 else 0) &&
    match x.imr with
    | none => true
    | some b => decide (b.length = 256)

/-- A poll names each site once, with well-formed answers. -/
def poll (x : PollIn) : Bool := once (x.sites.map (·.1)) && x.sites.all (fun p => site p.2)

/-- A core's general registers 0 to 31 (R397). -/
def core (x : CoreIn) : Bool := decide (x.regs.length = 32)

/-- A monitor reading fits 15 bits and a sign (R28). -/
def reading (x : RefReading) : Bool := decide (-32768 ≤ x.offset) && decide (x.offset < 32768)

/-- An initiator request (R202): a write brings 32 bytes and 32 byte enables for each beat, a read none. -/
def fabReq (q : FabReq) : Bool :=
  if q.write then decide (q.data.length = 32 * (q.len.val + 1)) && decide (q.be.length = q.len.val + 1)
  else decide (q.data = []) && decide (q.be = [])

/-- A frame that the fabric offers: 1 to 30 blocks (R314, R315). -/
def fabTx (t : FabTx) : Bool := decide (1 ≤ t.blocks.length) && decide (t.blocks.length ≤ 30)

/-- A command is well formed. -/
def wf : Instr → Bool
  | .slotBoundary i => once (i.counts.map (·.lane)) && once (i.rxPhase.map (·.1))
  | .refWindowEnd a b _ => reading a && reading b
  | .modulePoll x => poll x
  | .moduleRecheck _ x => poll x
  | .moduleImrWrite _ _ _ x => site x
  | .moduleRead _ d _ => match d with | some b => decide (b.length ≤ 128) | none => true
  | .mbDoorbellRing l => once l && decide (l ≠ [])
  | .expertAccess w _ len d => decide (d.length = if w then len.toNat else 0) && decide (1 ≤ len.toNat)
  | .csrAccess l => once (l.map (fun q => (q.src, q.addr)))
  | .fabricInitiatorRequest _ q => fabReq q
  | .tileRamScrubRead _ l => once (l.map (·.1))
  | .deepRamScrubRead _ l => once (l.map (·.1))
  | .rallyTxFrame _ t => fabTx t
  | .debugRun _ _ x => core x
  | .waitInstruction _ _ x => core x
  | .haltReq _ x => core x
  | .step _ _ x => core x
  | .breakpointMatch _ x => core x
  | .watchMatch _ _ x => core x
  | .temperatureRead l => decide (l.length = 16)
  | .railSample l => decide (l.length = 24)
  | .refereeRestartComplete l _ => once l
  | .fabricTargetResponse _ _ _ d => decide (d.length % 32 = 0)
  | _ => true

end Sys2Proof.WellFormed
end

