-- ==== Sys2Proof/Tests/Slice0.lean ====
section
/-! SUPPORT. The model's own tests: ill-formed commands are refused, values that the spec works out come out, and for every statement
of Certificates/Slice0/Obligations.lean with hypotheses a witness of each of its clauses. -/

namespace Sys2Proof.Tests

set_option Elab.async false

open Sys2Proof Sys2Proof.Machine

/-! ### Small states -/

/-- A mailbox whose request buffer holds a request with its CRC, and which is the one the sequencer serves next. -/
def asking (m op : Nat) (p : List (BitVec 8)) (s : State) : State :=
  let h := leBytes 2 op ++ leBytes 2 7 ++ leBytes 2 p.length ++ leBytes 2 0 ++ leBytes 4 9 ++ leBytes 4 0
  let b := h ++ padTo (roundUp p.length 4) p
  let s := boxSet m { boxOf m s with req := memWrite 0 [] 0 (b ++ crc32cBytes b) } s
  { s with mail := { s.mail with served := true, queue := ⟨m, false⟩ :: s.mail.queue } }

/-- The request that leaves the sequencer now. -/
def front (s : State) : Req := (headReq s).getD ⟨0, 0, 0, 0, 0, 0, false, false, [], false⟩

/-- `Asks`, as a test. -/
def asksB (sh : Sheet) (m : Nat) (s : State) : Bool :=
  let r := front s
  decide (headReq s = some r) && decide (r.mb = m) && decide (r.opcode = sh.op) && (match gateOf r (seqPop s) with | .pass => true | _ => false) &&
    decide (s.mail.romOnly = false) && (sheetRefusal sh r (seqPop s)).isNone

theorem asks_of {sh : Sheet} {m : Nat} {s : State} (h : asksB sh m s = true) : Asks sh m (front s) s := by
  unfold asksB at h
  simp only [Bool.and_eq_true, decide_eq_true_eq, Option.isNone_iff_eq_none] at h
  obtain ⟨⟨⟨⟨⟨h1, h2⟩, h3⟩, h4⟩, h5⟩, h6⟩ := h
  refine ⟨h1, h2, h3, ?_, h5, h6⟩
  split at h4
  · assumption
  · cases h4

/-- Fields written one after another. -/
def put (l : List (Fld × Nat)) (s : State) : State := l.foldl (fun s p => setF p.1 p.2 s) s

/-- A payload: each value with its width in bytes. -/
def pay (l : List (Nat × Nat)) : List (BitVec 8) := (l.map fun p => leBytes p.1 p.2).flatten

/-- Reset, with DEVICE_STATE at a value. -/
def at_ (d : DevState) : State := { State.reset with dev := { State.reset.dev with state := d } }

/-- Powered and out of reset. -/
def powered : State := { State.reset with boot := { State.reset.boot with power := 2 } }

/-- A timer that runs. -/
def timing (k : Nat) (s : State) : State := startTimer k 100 s

/-- A command that runs. -/
def running (a : Async) (s : State) : State := { s with mail := { s.mail with running := [a] } }

/-- The state that a command leads to. -/
def nx (i : Instr) (s : State) : State := match exec i s with | .next t => t | _ => s

/-- A request whose reserved word is not 0. -/
def askingReserved : State :=
  let h := leBytes 2 1 ++ leBytes 6 0 ++ leBytes 4 0 ++ [1, 0, 0, 0]
  let s := boxSet 5 ⟨memWrite 0 [] 0 (h ++ crc32cBytes h), [], []⟩ State.reset
  { s with mail := { s.mail with served := true, queue := [⟨5, false⟩] } }

/-! ### Ill-formed commands, one for each check, are refused -/

/-- A monitor reading in range. -/
def goodReading : RefReading := ⟨0, false⟩

/-- Ill-formed answers of a site, and a core's state with a register too few. -/
def badSite : SiteIn := ⟨false, some 0, [], 0, 0, none⟩
def badCore : CoreIn := ⟨[], 0, List.replicate 31 0, 0⟩
def badPoll : PollIn := ⟨[(0, badSite)], 0, 0⟩

theorem test_ill_formed_refused : ([
  .slotBoundary ⟨true, none, [], [⟨1, 0, 0, 0⟩, ⟨1, 0, 0, 0⟩]⟩, .slotBoundary ⟨true, none, [(1, 0), (1, 0)], []⟩,
  .refWindowEnd ⟨32768, false⟩ goodReading true, .refWindowEnd goodReading ⟨-32769, false⟩ true,
  .modulePoll ⟨[(0, ⟨true, none, [], 0, 0, none⟩), (0, ⟨true, none, [], 0, 0, none⟩)], 0, 0⟩, .modulePoll badPoll,
  .moduleRecheck 0 badPoll, .moduleImrWrite 0 true true badSite, .moduleImrWrite 0 true true ⟨false, none, [], 0, 0, some []⟩,
  .moduleRead 0 (some (List.replicate 129 0)) false, .mbDoorbellRing [0, 0], .mbDoorbellRing [],
  .expertAccess true 0 4 [], .expertAccess false 0 0 [], .csrAccess [⟨1, true, 8, false, 0⟩, ⟨1, false, 8, false, 0⟩],
  .fabricInitiatorRequest 0 ⟨true, 0, 0, 0, [], []⟩, .fabricInitiatorRequest 0 ⟨false, 0, 0, 0, [1], []⟩] : List Instr).all (fun c => !WellFormed.wf c) = true := by
  decide +kernel

theorem test_ill_formed_too_refused : ([
  .tileRamScrubRead 0 [(1, 0), (1, 0)], .deepRamScrubRead 0 [(1, 0), (1, 0)], .rallyTxFrame 0 ⟨[], true, true, 0, false⟩,
  .rallyTxFrame 0 ⟨List.replicate 31 0, true, true, 0, false⟩, .debugRun 0 true badCore, .waitInstruction 0 0 badCore,
  .haltReq 0 badCore, .step 0 none badCore, .breakpointMatch 0 badCore, .watchMatch 0 ⟨0, 0, true, 0⟩ badCore,
  .temperatureRead [], .railSample [], .refereeRestartComplete [1, 1] ⟨0, []⟩, .fabricTargetResponse 0 0 0 [1]] : List Instr).all (fun c => !WellFormed.wf c) = true := by
  decide +kernel

theorem test_well_formed_accepted :
    WellFormed.wf (.refWindowEnd goodReading ⟨-32768, true⟩ true) = true ∧ WellFormed.wf (.haltReq 0 ⟨[], 0, List.replicate 32 0, 0⟩) = true := by
  decide +kernel

/-! ### Values that the spec works out -/

/-- The bytes of "123456789". -/
def digits : List (BitVec 8) := [0x31, 0x32, 0x33, 0x34, 0x35, 0x36, 0x37, 0x38, 0x39]

/-- spec/05: the check value of CRC-32C. -/
theorem test_crc32c_check_value : crc32c digits = 0xE3069283 := by decide +kernel

/-- R313: the check value of CRC-16. -/
theorem test_crc16_check_value : crc16Of 0x1021 digits 0xFFFF = 0x29B1 := by decide +kernel

/-- spec/01, the century day: 2100 is no leap year, 2000 is, and 2023-02-29 is no date. -/
theorem test_century_day :
    calStep ⟨2100, 2, 28, 23, 59, 59⟩ = ⟨2100, 3, 1, 0, 0, 0⟩ ∧ calStep ⟨2000, 2, 28, 23, 59, 59⟩ = ⟨2000, 2, 29, 0, 0, 0⟩ ∧
      calOk ⟨2023, 2, 29, 12, 0, 0⟩ = false := by
  decide +kernel

/-- spec/03, finding balls for the Tamsel card. -/
theorem test_balls :
    ballAt 18 6 = .ltx 37 false ∧ ballAt 19 6 = .ltx 37 true ∧ ballAt 20 6 = .gnd ∧ ballAt 2 5 = .lref 4 false ∧
      ballAt 16 48 = .lrx 100 true ∧ ballAt 39 20 = .ioHp 7 39 := by
  decide +kernel

/-- R228: at 250 MHz the swap window lasts 5 slots. -/
theorem test_swap_window_slots :
    swapSlots (put [(GC_CFG_REF_REF_KHZ, 250000), (GC_CFG_REF_SLOT_MUL_M1, 0), (GC_CFG_REF_SLOT_DIV_M1, 0)] State.reset) = 5 := by
  decide +kernel

/-- spec/10, a Tamsel tower lane: 26.136 Gb/s from 132 MHz with QM = 99, QN = 0 and RATE_D = 0. -/
theorem test_tower_lane_rate :
    (rateOf 37 0 (put [(QUAD_REF_REF_KHZ 9, 132000), (QUAD_CTRL_QM 9, 99), (QUAD_CTRL_QN 9, 0)] State.reset)) = (4 * 26136000, 4) := by
  decide +kernel

/-- spec/08, cluster primitives: reservations 0 to 3 from regions 10 to 13 to region 75. -/
def primitives : State :=
  put ((natsFrom 0 4).flatMap fun n => [(TRES_CFG0_SRC n, 10 + n), (TRES_CFG0_DEST n, 75), (TRES_CFG0_QUOTA n, 1)]) State.reset

theorem test_primitive_bounds :
    (natsFrom 0 4).map (fun n => pathBound (natsFrom 0 4) n primitives) = [100, 100, 111, 111] := by
  decide +kernel

theorem test_primitive_routers : [10, 11, 12, 13, 75].map regionRouter = [13, 13, 14, 14, 45] := by decide +kernel

/-- spec/13, nested service on P2: sources 142 at 8, 437 at 12 and 212 at 20 for target 3, threshold 4. -/
def readout : State :=
  put [(WH_THRESH_THRESH 3, 4), (WH_PRIO_PRIO 142, 8), (WH_PRIO_PRIO 437, 12), (WH_PRIO_PRIO 212, 20), (WH_EN_EN 3 (142 / 32), 2 ^ (142 % 32)),
    (WH_EN_EN 3 (437 / 32), 2 ^ (437 % 32)), (WH_LATCH_LATCH (142 / 32), 2 ^ (142 % 32)), (WH_LATCH_LATCH (437 / 32), 2 ^ (437 % 32))] State.reset

/-- Steps 2 and 4 with both sources pending: the higher one first, and the lower one then waits. -/
theorem test_claim_takes_the_highest : whStack 3 (nx (.whClaim 91 3) readout) = [(437, 12)] := by decide +kernel

theorem test_claim_of_a_lower_one_finds_none :
    whStack 3 (nx (.whClaim 91 3) (nx (.whClaim 91 3) readout)) = [(437, 12)] := by
  decide +kernel

/-- Step 9: COMPLETE of an ID that is not on top changes no stack and sets STACK_FAULT. -/
theorem test_wrong_complete :
    whStack 3 (nx (.whComplete 91 3 142) (whSetStack 3 [(437, 12), (142, 8)] readout)) = [(437, 12), (142, 8)] ∧
      getF (WH_TSTATUS_STACK_FAULT 3) (nx (.whComplete 91 3 142) (whSetStack 3 [(437, 12), (142, 8)] readout)) = 1 := by
  decide +kernel

/-- Step 10: COMPLETE of the top ID pops it. -/
theorem test_right_complete :
    whStack 3 (nx (.whComplete 91 3 437) (whSetStack 3 [(437, 12), (142, 8)] readout)) = [(142, 8)] := by
  decide +kernel

/-- The table gives no row bits, and no word spells a command. -/
theorem test_no_word_spells_a_command : decodeTableWord 32 0 = none ∧ (State.reset.withFetchWord 32 0).pending = [] := by
  decide +kernel

/-! ### Witnesses of the hypotheses of every statement, clause by clause -/

set_option maxRecDepth 20000 in
/-- A request for GAUGE_LIMITS that passes: its thresholds pass on either grade. -/
theorem gaugeAsked : Asks sheetGaugeLimits 13 (front (asking 13 0x0B07 [60, 70, 80, 0] State.reset)) (asking 13 0x0B07 [60, 70, 80, 0] State.reset) := by
  refine ⟨by decide +kernel, by decide +kernel, by decide +kernel, ?_, by decide +kernel, ?_⟩
  · have h : (match gateOf (front (asking 13 0x0B07 [60, 70, 80, 0] State.reset)) (seqPop (asking 13 0x0B07 [60, 70, 80, 0] State.reset)) with
        | .pass => true | _ => false) = true := by decide +kernel
    split at h
    · assumption
    · cases h
  · generalize hr : front (asking 13 0x0B07 [60, 70, 80, 0] State.reset) = r
    have h0 : arg r 0 1 = 60 := by subst hr; decide +kernel
    have h1 : arg r 1 1 = 70 := by subst hr; decide +kernel
    have h2 : arg r 2 1 = 80 := by subst hr; decide +kernel
    have h3 : arg r 3 1 = 0 := by subst hr; decide +kernel
    have h4 : r.len = 4 := by subst hr; decide +kernel
    have h5 : r.mb = 13 := by subst hr; decide +kernel
    have h6 : r.lost = false := by subst hr; decide +kernel
    have ht : tlimOk 60 70 80 = true := by unfold tlimOk tlimReset LJ_TLIM_WARN LJ_TLIM_LIMIT LJ_TLIM_CRIT; by_cases h : Config.partCode = 3 <;> simp [h]
    simp [sheetRefusal, sheetGaugeLimits, plainSheet, argsLen, h0, h1, h2, h3, h4, h5, h6, ht]

set_option maxRecDepth 20000 in
theorem witness_StepRunsFront :
    (∃ s : State, ∃ c, ∃ rest, s.pending = c :: rest) ∧
    (∃ s : State, s.pending = []) :=
  ⟨⟨{ State.reset with pending := [.allRailsGood] }, .allRailsGood, [], rfl⟩,
   ⟨State.reset, rfl⟩⟩


set_option maxRecDepth 20000 in
theorem witness_ReqFollowsKept :
    (∃ s : State, ∃ t, ReqFollows s ∧ step s = .next t) :=
  ⟨State.reset, _, by unfold ReqFollows; decide +kernel, rfl⟩

set_option maxRecDepth 20000 in
theorem witness_QueueLeftAlone :
    (∃ i, ∃ s : State, ∃ t, exec i s = .next t) :=
  ⟨Instr.bypass, State.reset, _, rfl⟩

set_option maxRecDepth 20000 in
theorem witness_MemoryFormKept :
    (∃ s : State, ∃ t, MemOk s ∧ step s = .next t) :=
  ⟨State.reset, _, by unfold MemOk; decide +kernel, rfl⟩

set_option maxRecDepth 20000 in
theorem witness_ResetState :
    (∃ t, t < 6) ∧
    (∃ g, g < 7) ∧
    (∃ m, m < 14) ∧
    (∃ i, i < 512) ∧
    (∃ c, 1 ≤ c ∧ c ≤ 22) ∧
    (∃ p, p ∈ [(GC_CTRL_RUN, 0), (LJ_STATUS_FAULT_OUT, 1), (LJ_STATUS_GUARANTEE, 0), (LJ_TLIM_WARN, if Config.partCode = 3 then 100 else 95),
      (LJ_ALARM_ACT_ALARM, 0), (LJ_ALARM_LATCH_ALARM, 0), (FL_STATUS_ERR, 0), (LJ_TEMP_MAX 0, 0x800), (LJ_RAIL_MIN_MV 0, 0xFFFF)]) :=
  ⟨⟨5, by decide +kernel⟩,
   ⟨6, by decide +kernel⟩,
   ⟨13, by decide +kernel⟩,
   ⟨511, by decide +kernel⟩,
   ⟨22, by decide +kernel, by decide +kernel⟩,
   ⟨_, List.mem_cons_self⟩⟩

set_option maxRecDepth 20000 in
theorem witness_BallCounts :
    (∃ p, p ∈ [((fun b => match b with | .ltx _ _ => true | .lrx _ _ => true | _ => false : Ball → Bool), 512),
      (fun b => match b with | .lref _ _ => true | _ => false, 32),
      (fun b => match b with | .pcieTx _ _ => true | .pcieRx _ _ => true | _ => false, 32),
      (fun b => match b with | .ddrDq _ _ _ => true | .ddrDqs _ _ _ _ => true | .ddrCa _ _ _ => true | .ddrCs _ _ _ => true | .ddrCk _ _ _ => true | .ddrReset _ => true | .ddrAlert _ => true | _ => false, 632), (fun b => b.userIo.isSome, 616), (fun b => match b with | .dedicated _ => true | .vbatt => true | _ => false, 40), (fun b => decide (b = .vccint), 144), (fun b => decide (b = .gnd), 474), (fun b => decide (b = .vddq 0), 11), (fun b => decide (b = .vddq 1), 11), (fun b => decide (b = .vddq 2), 11), (fun b => decide (b = .vddq 3), 11), (fun b => match b with | .vddq _ => true | _ => false, 44), (fun b => match b with | .vccio _ => true | _ => false, 76), (fun b => decide (b = .avcc), 46), (fun b => decide (b = .avtt), 46), (fun b => decide (b = .vccaux), 4), (fun b => decide (b = .vccfl), 2), (fun b => decide (b ≠ .none), 2700)] ++ ((List.range 14).map fun k => (fun b => decide (b = .vccio k), if k < 10 then 6 else 4)) ++ ((List.range 4).map fun c => (fun b => match b with | .ddrDq k _ _ => decide (k = c) | .ddrDqs k _ _ _ => decide (k = c) | .ddrCa k _ _ => decide (k = c) | .ddrCs k _ _ => decide (k = c) | .ddrCk k _ _ => decide (k = c) | .ddrReset k => decide (k = c) | .ddrAlert k => decide (k = c) | _ => false, 158))) :=
  ⟨_, List.mem_append_left _ List.mem_cons_self⟩

set_option maxRecDepth 20000 in
theorem witness_BestSource :
    (∃ s : State, ∃ t, whHeld t s = false) :=
  ⟨State.reset, 2, by decide +kernel⟩

set_option maxRecDepth 20000 in
theorem witness_CompleteRule :
    (∃ n : BitVec 7, ∃ t : Fin 6, ∃ i : BitVec 9, whNodeMay t n.toNat = true ∧ (i.toNat = 0 ∨ i.toNat = 511)) ∧
    (∃ s : State, ∃ n : BitVec 7, ∃ t : Fin 6, ∃ i : BitVec 9, ∃ p, ∃ l, whNodeMay t n.toNat = true ∧ i.toNat ≠ 0 ∧ i.toNat ≠ 511 ∧
      whStack t s = (i.toNat, p) :: l ∧ ((∀ k, k ≠ t.val → ∀ e ∈ whStack k s, e.1 ≠ i.toNat)) ∧ ((∀ e ∈ l, e.1 ≠ i.toNat)) ∧
      tabSorted s.wh.stackTab = true) ∧
    (∃ s : State, ∃ n : BitVec 7, ∃ t : Fin 6, ∃ i : BitVec 9, whNodeMay t n.toNat = true ∧ i.toNat ≠ 0 ∧ i.toNat ≠ 511 ∧ ((∀ p l,
      whStack t s ≠ (i.toNat, p) :: l)) ∧ NotSafe 0x0E s) :=
  ⟨⟨89, 1, 511, by decide +kernel, by decide +kernel⟩,
   ⟨whSetStack 1 [(37, 3)] (put [(WH_PRIO_PRIO 37, 3), (WH_EN_EN 1 1, 32), (WH_LATCH_LATCH 1, 32)] State.reset), 89, 1, 37, 3, [],
     by decide +kernel, by decide +kernel, by decide +kernel, by decide +kernel, (by
    intro k hk e he
    have h : (whSetStack 1 [(37, 3)] (put [(WH_PRIO_PRIO 37, 3), (WH_EN_EN 1 1, 32), (WH_LATCH_LATCH 1, 32)] State.reset)).wh.stackTab = [(1, [(37, 3)])] := by
      decide +kernel
    have hk : ¬ 1 = k := fun x => hk x.symm
    unfold whStack at he
    rw [h] at he
    simp [tabGet, tabFind, hk] at he), by decide +kernel, by decide +kernel⟩,
   ⟨State.reset, 89, 1, 37, by decide +kernel, by decide +kernel, by decide +kernel, (by
    intro p l h
    have e : whStack 1 State.reset = [] := by decide +kernel
    cases e.symm.trans h), by unfold NotSafe; decide +kernel⟩⟩

set_option maxRecDepth 20000 in
theorem witness_LimitsRule :
    (∃ v : BitVec 32, (v.toNat % 256 < v.toNat / 2 ^ 8 % 256 ∧ v.toNat / 2 ^ 8 % 256 < v.toNat / 2 ^ 16 % 256 ∧
      v.toNat % 256 ≤ (if Config.partCode = 3 then 100 else 95) ∧ v.toNat / 2 ^ 8 % 256 ≤ (if Config.partCode = 3 then 105 else 100) ∧
      v.toNat / 2 ^ 16 % 256 ≤ (if Config.partCode = 3 then 115 else 110))) ∧
    (∃ v : BitVec 32, ¬(v.toNat % 256 < v.toNat / 2 ^ 8 % 256 ∧ v.toNat / 2 ^ 8 % 256 < v.toNat / 2 ^ 16 % 256 ∧
      v.toNat % 256 ≤ (if Config.partCode = 3 then 100 else 95) ∧ v.toNat / 2 ^ 8 % 256 ≤ (if Config.partCode = 3 then 105 else 100) ∧
      v.toNat / 2 ^ 16 % 256 ≤ (if Config.partCode = 3 then 115 else 110))) :=
  ⟨⟨0x6E645F, by refine ⟨by decide, by decide, ?_, ?_, ?_⟩ <;> split <;> decide⟩,
   ⟨0x6E6464, by rintro ⟨h, _⟩; revert h; decide⟩⟩

set_option maxRecDepth 20000 in
theorem witness_CellsAndSlices :
    (∃ x : SliceIn, x.op = 0) ∧
    (∃ x : SliceIn, x.op = 1 ∧ x.neg = false) ∧
    (∃ c : SliceCfg, ∃ x : SliceIn, ∃ o : SliceOut, x.op = 1 ∧ x.neg = false ∧ (slice c false false true x o).excHi = false) ∧
    (∃ c : SliceCfg, ∃ x : SliceIn, x.op = 7 ∧ x.neg = false ∧ c.uSigned = true ∧ c.vSigned = true ∧ c.clamp = true) :=
  ⟨⟨⟨0, false, 5, 6, 0, 0, 0, 0, 0⟩, by decide +kernel⟩,
   ⟨⟨1, false, 5, 6, 0, 0, 0, 0, 0⟩, by decide +kernel, by decide +kernel⟩,
   ⟨⟨true, true, true, 0, none⟩, ⟨1, false, 5, 6, 0, 0, 0, 0, 0⟩, ⟨0, false, false, false⟩, by decide +kernel, by decide +kernel,
     by decide +kernel⟩,
   ⟨⟨true, true, true, 0, none⟩, ⟨7, false, 5, 6, 0, 0, 0, 0, 0⟩, by decide +kernel, by decide +kernel, by decide +kernel, by decide +kernel,
     by decide +kernel⟩⟩

set_option maxRecDepth 20000 in
theorem witness_ClockPorts :
    (∃ s : State, ∃ c,
      c = Cal.mk (getF CAL_SET1_YEAR s) (getF CAL_SET1_MONTH s) (getF CAL_SET0_DAY s) (getF CAL_SET0_HOUR s) (getF CAL_SET0_MIN s) (getF CAL_SET0_SEC s)) ∧
    (∃ s : State, s.boot.power = 2 ∧ s.pll.xtalBad = false ∧ getF CAL_NOW1_CAL_END s = 0 ∧ calOk (calNow s) = true ∧ calNow s ≠ ⟨2399, 12, 31, 23,
      59, 59⟩) ∧
    (∃ s : State, (s.gc.acts.any (fun a => decide (a.1 = 4) && decide (a.2.2 = 0))) = true) ∧
    (∃ s : State, ∃ idx : Fin 4096, ∃ e, s.gc.entries = [(idx.val, e)] ∧ getF GC_CTRL_RUN s = 1 ∧ e.en = true ∧ e.turn = s.clk.turn ∧
      e.slot = s.clk.slot ∧ e.action = 0) ∧
    (∃ s : State, ∃ g : Fin 32, ∃ c : BitVec 8, getF (GCLK_SEL_DONE g) s = 1 ∧ gclkTakes g c.toNat s = true ∧ getF (GCLK_SEL_SRC g) s ≠ c.toNat) ∧
    (∃ s : State, ∃ g : Fin 32, ∃ c : BitVec 8, getF (GCLK_SEL_DONE g) s = 1 ∧ gclkTakes g c.toNat s = true ∧ getF (GCLK_SEL_SRC g) s = c.toNat) ∧
    (∃ s : State, ∃ g : Fin 32, ∃ c : BitVec 8, getF (GCLK_SEL_DONE g) s = 1 ∧ gclkTakes g c.toNat s = false) ∧
    (∃ s : State, ∃ r : Fin 80, ∃ l : Fin 24, ∃ c : BitVec 8, getF (RCLK_SEL_DONE r l) s = 1 ∧ rclkOk c.toNat = true ∧
      getF (RCLK_SEL_SRC r l) s ≠ c.toNat) ∧
    (∃ c : BitVec 8, rclkOk c.toNat = false) ∧
    (∃ s : State, ∃ g : Fin 32, getF (GCLK_SEL_DONE g) s = 0 ∧ tabFind s.pll.switching g = none) ∧
    (∃ s : State, ∃ r : Fin 80, ∃ l : Fin 24, ∃ code, getF (RCLK_SEL_DONE r l) s = 0 ∧
      tabFind s.pll.switching (64 + 32 * r.val + l.val) = some code) :=
  ⟨⟨put [(CAL_SET1_YEAR, 2024), (CAL_SET1_MONTH, 2), (CAL_SET0_DAY, 29)] State.reset, _, rfl⟩,
   ⟨put [(CAL_NOW1_YEAR, 2023), (CAL_NOW1_MONTH, 12), (CAL_NOW0_DAY, 31), (CAL_NOW0_HOUR, 23), (CAL_NOW0_MIN, 59), (CAL_NOW0_SEC, 59)] powered,
     by decide +kernel, by decide +kernel, by decide +kernel, by decide +kernel, by decide +kernel⟩,
   ⟨{ State.reset with gc := { State.reset.gc with acts := [(4, 0, 0), (1, 2, 0)] } }, by decide +kernel⟩,
   ⟨{ put [(GC_CTRL_RUN, 1)] State.reset with gc := { State.reset.gc with entries := [(7, ⟨0, 0, 0, 0, true, false, false, 0, 0, 0⟩)] } }, 7, ⟨0,
     0, 0, 0, true, false, false, 0, 0, 0⟩, by decide +kernel, by decide +kernel, by decide +kernel, by decide +kernel, by decide +kernel,
     by decide +kernel⟩,
   ⟨State.reset, 31, 0x82, by decide +kernel, by decide +kernel, by decide +kernel⟩,
   ⟨put [(GCLK_SEL_SRC 31, 0x82)] State.reset, 31, 0x82, by decide +kernel, by decide +kernel, by decide +kernel⟩,
   ⟨State.reset, 3, 0xFE, by decide +kernel, by decide +kernel⟩,
   ⟨State.reset, 79, 23, 35, by decide +kernel, by decide +kernel, by decide +kernel⟩,
   ⟨36, by decide +kernel⟩,
   ⟨put [(GCLK_SEL_DONE 5, 0)] State.reset, 5, by decide +kernel, by decide +kernel⟩,
   ⟨{ put [(RCLK_SEL_DONE 79 23, 0)] State.reset with pll := { State.reset.pll with switching := [(64 + 32 * 79 + 23, 5)] } }, 79, 23, 5,
     by decide +kernel, by decide +kernel⟩⟩

set_option maxRecDepth 20000 in
theorem witness_ClockCommands :
    (∃ s : State, ∃ mb : Fin 14, ∃ r : Req, Asks sheetClockStatus mb r s) ∧
    (∃ s : State, ∃ mb : Fin 14, ∃ r : Req, Asks sheetClockConfigure mb r s) ∧
    (∃ s : State, ∃ mb : Fin 14, ∃ r : Req, Asks sheetClockSelect mb r s) ∧
    (∃ s : State, ∃ mb : Fin 14, ∃ r : Req, Asks sheetClockRun mb r s ∧ NotSafe 0x13 s ∧ arg r 0 1 = 0) ∧
    (∃ s : State, ∃ mb : Fin 14, ∃ r : Req, Asks sheetClockRun mb r s ∧ NotSafe 0x13 s ∧ arg r 0 1 = 1 ∧ refState s = 0) ∧
    (∃ s : State, ∃ mb : Fin 14, ∃ r : Req, Asks sheetTurnSet mb r s) ∧
    (∃ s : State, ∃ mb : Fin 14, ∃ r : Req, Asks sheetPlaybookWrite mb r s ∧ isSet GC_CTRL_RUN s = false) ∧
    (∃ s : State, ∃ mb : Fin 14, ∃ r : Req, Asks sheetPlaybookRead mb r s) ∧
    (∃ s : State, ∃ mb : Fin 14, ∃ r : Req, Asks sheetPlaybookDisarm mb r s ∧ isSet GC_CTRL_RUN s = false) ∧
    (∃ s : State, ∃ mb : Fin 14, ∃ r : Req, ∃ c, Asks sheetCalSet mb r s ∧
      c = Cal.mk (arg r 0 2) (arg r 2 1) (arg r 3 1) (arg r 4 1) (arg r 5 1) (arg r 6 1) ∧ calOk c = true) ∧
    (∃ s : State, ∃ mb : Fin 14, ∃ r : Req, ∃ c, Asks sheetCalSet mb r s ∧
      c = Cal.mk (arg r 0 2) (arg r 2 1) (arg r 3 1) (arg r 4 1) (arg r 5 1) (arg r 6 1) ∧ calOk c = false) ∧
    (∃ s : State, ∃ mb : Fin 14, ∃ r : Req, Asks sheetCalGet mb r s) :=
  ⟨⟨asking 13 0x0301 [] State.reset, 13, front (asking 13 0x0301 [] State.reset), asks_of (by decide +kernel)⟩,
   ⟨asking 0 0x0302 (pay [(1,0),(1,1),(2,3563),(4,40078),(1,0),(1,0),(2,50),(2,200),(1,3),(1,127)]) State.reset, 0,
     front (asking 0 0x0302 (pay [(1,0),(1,1),(2,3563),(4,40078),(1,0),(1,0),(2,50),(2,200),(1,3),(1,127)]) State.reset),
     asks_of (by decide +kernel)⟩,
   ⟨asking 0 0x0303 [0, 1] State.reset, 0, front (asking 0 0x0303 [0, 1] State.reset), asks_of (by decide +kernel)⟩,
   ⟨asking 0 0x0304 [0] State.reset, 0, front (asking 0 0x0304 [0] State.reset), asks_of (by decide +kernel), by unfold NotSafe; decide +kernel,
     by decide +kernel⟩,
   ⟨asking 8 0x0304 [1] State.reset, 8, front (asking 8 0x0304 [1] State.reset), asks_of (by decide +kernel), by unfold NotSafe; decide +kernel,
     by decide +kernel, by decide +kernel⟩,
   ⟨asking 8 0x0305 [1, 2, 3, 4, 5, 6] State.reset, 8, front (asking 8 0x0305 [1, 2, 3, 4, 5, 6] State.reset), asks_of (by decide +kernel)⟩,
   ⟨asking 8 0x0310 (pay [(2,4095),(2,0),(6,5),(2,1),(1,0),(1,0),(1,1),(1,0),(2,0),(2,0)]) State.reset, 8,
     front (asking 8 0x0310 (pay [(2,4095),(2,0),(6,5),(2,1),(1,0),(1,0),(1,1),(1,0),(2,0),(2,0)]) State.reset), asks_of (by decide +kernel),
     by decide +kernel⟩,
   ⟨asking 8 0x0311 [0xFF, 0xF] State.reset, 8, front (asking 8 0x0311 [0xFF, 0xF] State.reset), asks_of (by decide +kernel)⟩,
   ⟨asking 8 0x0312 [0, 0, 1, 0] State.reset, 8, front (asking 8 0x0312 [0, 0, 1, 0] State.reset), asks_of (by decide +kernel), by decide +kernel⟩,
   ⟨asking 8 0x0D01 (pay [(2,2024),(1,2),(1,29),(1,1),(1,2),(1,3),(1,0)]) State.reset, 8,
     front (asking 8 0x0D01 (pay [(2,2024),(1,2),(1,29),(1,1),(1,2),(1,3),(1,0)]) State.reset), _, asks_of (by decide +kernel), rfl,
     by decide +kernel⟩,
   ⟨asking 8 0x0D01 (pay [(2,2023),(1,2),(1,29),(1,1),(1,2),(1,3),(1,0)]) State.reset, 8,
     front (asking 8 0x0D01 (pay [(2,2023),(1,2),(1,29),(1,1),(1,2),(1,3),(1,0)]) State.reset), _, asks_of (by decide +kernel), rfl,
     by decide +kernel⟩,
   ⟨asking 8 0x0D02 [] State.reset, 8, front (asking 8 0x0D02 [] State.reset), asks_of (by decide +kernel)⟩⟩

set_option maxRecDepth 20000 in
theorem witness_PllCommands :
    (∃ s : State, ∃ mb : Fin 14, ∃ r : Req, Asks sheetPllStatus mb r s) ∧
    (∃ s : State, ∃ mb : Fin 14, ∃ r : Req, Asks (sheetPllConfigure none) mb r s) ∧
    (∃ s : State, ∃ mb : Fin 14, ∃ r : Req, Asks (sheetPllConfigure none) mb r s ∧ arg r 1 1 = 0) ∧
    (∃ s : State, ∃ mb : Fin 14, ∃ r : Req, Asks (sheetPllConfigure none) mb r s ∧ arg r 1 1 = 1) ∧
    (∃ s : State, ∃ mb : Fin 14, ∃ r : Req, ∃ e, Asks (sheetPllConfigure (some e)) mb r s ∧ arg r 1 1 = 1 ∧ pllFam (arg r 0 1) = .general) ∧
    (∃ s : State, ∃ mb : Fin 14, ∃ r : Req, Asks sheetPllPhaseSet mb r s) ∧
    (∃ s : State, ∃ mb : Fin 14, ∃ r : Req, Asks sheetPllSpread mb r s) ∧
    (∃ s : State, ∃ mb : Fin 14, ∃ r : Req, Asks sheetClockRoute mb r s ∧ arg r 0 1 = 0 ∧ getF (GCLK_SEL_DONE (arg r 1 1)) s = 1 ∧
      getF (GCLK_SEL_SRC (arg r 1 1)) s ≠ arg r 3 1) ∧
    (∃ s : State, ∃ mb : Fin 14, ∃ r : Req, Asks sheetClockRoute mb r s ∧ arg r 0 1 = 1 ∧ getF (RCLK_SEL_DONE (arg r 2 1) (arg r 1 1)) s = 1 ∧
      getF (RCLK_SEL_SRC (arg r 2 1) (arg r 1 1)) s ≠ arg r 3 1) :=
  ⟨⟨asking 8 0x0320 [62] State.reset, 8, front (asking 8 0x0320 [62] State.reset), asks_of (by decide +kernel)⟩,
   ⟨asking 8 0x0321 (pay [(1,25),(1,1),(1,0),(1,9),(1,0),(1,25),(1,0),(1,0)] ++ List.replicate 24 0) State.reset, 8,
     front (asking 8 0x0321 (pay [(1,25),(1,1),(1,0),(1,9),(1,0),(1,25),(1,0),(1,0)] ++ List.replicate 24 0) State.reset),
     asks_of (by decide +kernel)⟩,
   ⟨asking 8 0x0321 (pay [(1,25),(1,0),(1,0),(1,9),(1,0),(1,25),(1,0),(1,0)] ++ List.replicate 24 0) State.reset, 8,
     front (asking 8 0x0321 (pay [(1,25),(1,0),(1,0),(1,9),(1,0),(1,25),(1,0),(1,0)] ++ List.replicate 24 0) State.reset),
     asks_of (by decide +kernel), by decide +kernel⟩,
   ⟨asking 8 0x0321 (pay [(1,25),(1,1),(1,0),(1,9),(1,0),(1,25),(1,0),(1,0)] ++ List.replicate 24 0) State.reset, 8,
     front (asking 8 0x0321 (pay [(1,25),(1,1),(1,0),(1,9),(1,0),(1,25),(1,0),(1,0)] ++ List.replicate 24 0) State.reset),
     asks_of (by decide +kernel), by decide +kernel⟩,
   ⟨asking 8 0x0321 (pay [(1,25),(1,1),(1,0),(1,9),(1,0),(1,25),(1,0),(1,0)] ++ List.replicate 24 0) State.reset, 8,
     front (asking 8 0x0321 (pay [(1,25),(1,1),(1,0),(1,9),(1,0),(1,25),(1,0),(1,0)] ++ List.replicate 24 0) State.reset), 3,
     asks_of (by decide +kernel), by decide +kernel, by decide +kernel⟩,
   ⟨asking 8 0x0324 [3, 3, 63] State.reset, 8, front (asking 8 0x0324 [3, 3, 63] State.reset), asks_of (by decide +kernel)⟩,
   ⟨asking 8 0x0322 (pay [(1,25),(1,1),(1,50),(1,0),(2,315)]) State.reset, 8,
     front (asking 8 0x0322 (pay [(1,25),(1,1),(1,50),(1,0),(2,315)]) State.reset), asks_of (by decide +kernel)⟩,
   ⟨asking 8 0x0323 [0, 31, 0, 0x82] State.reset, 8, front (asking 8 0x0323 [0, 31, 0, 0x82] State.reset), asks_of (by decide +kernel),
     by decide +kernel, by decide +kernel, by decide +kernel⟩,
   ⟨asking 8 0x0323 [1, 23, 79, 35] State.reset, 8, front (asking 8 0x0323 [1, 23, 79, 35] State.reset), asks_of (by decide +kernel),
     by decide +kernel, by decide +kernel, by decide +kernel⟩⟩

set_option maxRecDepth 20000 in
theorem witness_GameClockRuns :
    (∃ s : State, refState s = 0 ∧ NotSafe 0x13 s) ∧
    (∃ s : State, isSet GC_CTRL_RUN s = true ∧ ((s.dev.state = .live ∨ s.dev.state = .quiesce)) ∧ NotSafe 0x13 s) ∧
    (∃ s : State, isSet GC_CTRL_RUN s = true ∧ settleSlot s = s ∧ takeover s = s) ∧
    (∃ s : State, ∃ r : Fin 2, ∃ f : Fin 64, isSet GC_CTRL_RUN s = true ∧ isSet GC_CTRL_INPUT s = false ∧ refActive s = r.val ∧
      ((refState s = 2 ∨ refState s = 3)) ∧ s.gc.realign = false ∧ isSet GC_STATUS_MARKER_LOST s = false ∧ -1 ≤ markerOffset (atFine f s) ∧
      markerOffset (atFine f s) ≤ 1) ∧
    (∃ s : State, ∃ r : Fin 2, ∃ f : Fin 64, isSet GC_CTRL_RUN s = true ∧ isSet GC_CTRL_INPUT s = false ∧ refActive s = r.val ∧
      ((refState s = 2 ∨ refState s = 3)) ∧ s.gc.realign = false ∧ s.gc.slips = 0 ∧ markerOffset (atFine f s) < -64) ∧
    (∃ s : State, ∃ r : Fin 2, ∃ f : Fin 64, isSet GC_CTRL_RUN s = true ∧ isSet GC_CTRL_INPUT s = false ∧ refActive s = r.val ∧
      ((refState s = 2 ∨ refState s = 3)) ∧ s.gc.realign = false ∧ 2 ≤ s.gc.slips ∧ s.gc.slipAt = markerOffset (atFine f s) ∧
      1 < markerOffset (atFine f s) ∧ settleSlot s = s ∧ takeover s = s ∧ isSet GC_TURN_LOAD1_ARM s = false) ∧
    (∃ s : State, isSet GC_CTRL_RUN s = true ∧ ((refState s = 2 ∨ refState s = 3)) ∧ isSet GC_STATUS_MARKER_LOST s = false ∧ s.gc.misses < 15) ∧
    (∃ s : State, isSet GC_CTRL_RUN s = true ∧ ((refState s = 2 ∨ refState s = 3)) ∧ isSet GC_STATUS_MARKER_LOST s = false ∧ 15 ≤ s.gc.misses) ∧
    (∃ s : State, ∃ L : Fin 128, ∃ fr : TimeFrame, ∃ f : Fin 64, timingRef L s = some (refActive s) ∧ isSet GC_CTRL_INPUT s = true ∧
      isSet GC_CTRL_RUN s = true ∧ ((refState s = 2 ∨ refState s = 3)) ∧ s.gc.realign = false ∧ fr.crcOk = true ∧ bitOf fr.flags.toNat 1 = true ∧
      fr.slotsM1.toNat = getF GC_CFG_SLOTS_SLOTS_M1 s ∧ isSet GC_STATUS_MARKER_LOST s = false ∧ -1 ≤ markerOffset (atFine f s) ∧
      markerOffset (atFine f s) ≤ 1) ∧
    (∃ s : State, ∃ L : Fin 128, ∃ fr : TimeFrame, timingRef L s = some (refActive s) ∧ isSet GC_CTRL_INPUT s = true ∧ isSet GC_CTRL_RUN s = true ∧
      ((refState s = 2 ∨ refState s = 3)) ∧ s.gc.realign = false ∧ fr.crcOk = false ∧ isSet GC_STATUS_MARKER_LOST s = true) ∧
    (∃ s : State, s.pll.xtalBad = false ∧ isSet GC_CTRL_RUN s = false ∧ NotSafe 0x13 s) ∧
    (∃ s : State, timerOn 7 s = true ∧ refState s = 1) ∧
    (∃ s : State, timerOn 7 s = true ∧ refState s = 1 ∧ getF CLK_STATUS_GC_TPLL s < 2) :=
  ⟨⟨State.reset, by decide +kernel, by unfold NotSafe; decide +kernel⟩,
   ⟨put [(GC_CTRL_RUN, 1)] (at_ .live), by decide +kernel, by decide +kernel, by unfold NotSafe; decide +kernel⟩,
   ⟨put [(GC_CTRL_RUN, 1), (GC_STATUS_REF_STATE, 2), (GC_CFG_SLOTS_SLOTS_M1, 99)] State.reset, by decide +kernel, by decide +kernel,
     by decide +kernel⟩,
   ⟨put [(GC_CTRL_RUN, 1), (GC_STATUS_REF_STATE, 2), (GC_CFG_SLOTS_SLOTS_M1, 99)] State.reset, 0, 1, by decide +kernel, by decide +kernel,
     by decide +kernel, by decide +kernel, by decide +kernel, by decide +kernel, by decide +kernel, by decide +kernel⟩,
   ⟨{ put [(GC_CTRL_RUN, 1), (GC_STATUS_REF_STATE, 2), (GC_CFG_SLOTS_SLOTS_M1, 99)] State.reset with clk := ⟨5, 98, 0⟩ }, 0, 63, by decide +kernel,
     by decide +kernel, by decide +kernel, by decide +kernel, by decide +kernel, by decide +kernel, by decide +kernel⟩,
   ⟨{ put [(GC_CTRL_RUN, 1), (GC_STATUS_REF_STATE, 2), (GC_CFG_SLOTS_SLOTS_M1, 99)] State.reset with clk := ⟨5, 1, 0⟩, gc := { State.reset.gc with slips := 2, slipAt := 65 } }, 0, 1, by decide +kernel, by decide +kernel, by decide +kernel, by decide +kernel, by decide +kernel, by decide +kernel, by decide +kernel, by decide +kernel, by decide +kernel, by decide +kernel, by decide +kernel⟩,
   ⟨put [(GC_CTRL_RUN, 1), (GC_STATUS_REF_STATE, 2), (GC_CFG_SLOTS_SLOTS_M1, 99)] State.reset, by decide +kernel, by decide +kernel,
     by decide +kernel, by decide +kernel⟩,
   ⟨{ put [(GC_CTRL_RUN, 1), (GC_STATUS_REF_STATE, 2), (GC_CFG_SLOTS_SLOTS_M1, 99)] State.reset with gc := { State.reset.gc with misses := 15 } },
     by decide +kernel, by decide +kernel, by decide +kernel, by decide +kernel⟩,
   ⟨put [(GC_CTRL_INPUT, 1), (GC_CFG_LANE_TLANE_A, 127)] (put [(GC_CTRL_RUN, 1), (GC_STATUS_REF_STATE, 2), (GC_CFG_SLOTS_SLOTS_M1,
     99)] State.reset), 127, ⟨true, 0, 99, 2⟩, 1, by decide +kernel, by decide +kernel, by decide +kernel, by decide +kernel, by decide +kernel,
     by decide +kernel, by decide +kernel, by decide +kernel, by decide +kernel, by decide +kernel, by decide +kernel⟩,
   ⟨put [(GC_CTRL_INPUT, 1), (GC_CFG_LANE_TLANE_A, 127), (GC_STATUS_MARKER_LOST, 1)] (put [(GC_CTRL_RUN, 1), (GC_STATUS_REF_STATE, 2),
     (GC_CFG_SLOTS_SLOTS_M1, 99)] State.reset), 127, ⟨false, 0, 99, 2⟩, by decide +kernel, by decide +kernel, by decide +kernel, by decide +kernel,
     by decide +kernel, by decide +kernel, by decide +kernel⟩,
   ⟨State.reset, by decide +kernel, by decide +kernel, by unfold NotSafe; decide +kernel⟩,
   ⟨timing 7 (put [(GC_STATUS_REF_STATE, 1)] State.reset), by decide +kernel, by decide +kernel⟩,
   ⟨timing 7 (put [(GC_STATUS_REF_STATE, 1)] State.reset), by decide +kernel, by decide +kernel, by decide +kernel⟩⟩

set_option maxRecDepth 20000 in
theorem witness_ReferenceWindows :
    (∃ s : State, s.pll.xtalBad = false ∧ isSet GC_CTRL_RUN s = true ∧ getF GC_CTRL_SRC_MODE s = 0 ∧ refActive s = 0) :=
  ⟨put [(GC_CTRL_RUN, 1), (GC_STATUS_REF_STATE, 2), (GC_CFG_SLOTS_SLOTS_M1, 99)] State.reset, by decide +kernel, by decide +kernel,
    by decide +kernel, by decide +kernel⟩

set_option maxRecDepth 20000 in
theorem witness_PllRows :
    (∃ s : State, ∃ e : BitVec 8, xtalGood e.toNat = false ∧ s.pll.xtalBad = false ∧ NotSafe 0x03 s ∧ NotSafe 0x13 s) ∧
    (∃ s : State, ∃ p : Fin 63, ∃ e : BitVec 8, isSet (PLL_CTRL_EN p) s = true ∧ getF (PLL_STATUS_STATE p) s = 1 ∧ pllFam p = .timing ∧
      phaseWithin e = true) ∧
    (∃ s : State, ∃ p : Fin 63, ∃ e : BitVec 8, isSet (PLL_CTRL_EN p) s = true ∧ getF (PLL_STATUS_STATE p) s = 1 ∧ pllFam p = .timing ∧
      phaseWithin e = false ∧ tabGet 0 s.pll.fails p = 0) ∧
    (∃ s : State, ∃ p : Fin 63, isSet (PLL_CTRL_EN p) s = true ∧ getF (PLL_STATUS_STATE p) s = 1 ∧
      (pllFam p = .dram ∨ pllFam p = .pcie ∨ pllFam p = .system ∨ (pllFam p = .general ∧ isSet (PLL_STATUS_FREQ_BAD p) s = false))) ∧
    (∃ s : State, ∃ p : Fin 63, isSet (PLL_CTRL_EN p) s = true ∧ getF (PLL_STATUS_STATE p) s = 2 ∧ NotSafe 0x13 s ∧
      (pllFam p = .general ∨ pllFam p = .timing)) ∧
    (∃ s : State, ∃ p : Fin 63, ∃ m : BitVec 26, ∃ n : BitVec 26, 2 ≤ p.val ∧ s.pll.xtalBad = false ∧ isSet (PLL_CTRL_EN p) s = true ∧
      pllLocked p s = true ∧ NotSafe 0x13 s ∧ bandOk (getF (PLL_SSC_MODE p) s) (getF (PLL_SSC_DEPTH p) s) m.toNat ((pllNominal p s).getD (n.toNat,
      1)) = true) ∧
    (∃ s : State, ∃ m, s.pll.faulty = some m ∧ getF (PLL_STATUS_STATE m) s = 2 ∧ getF CLK_STATUS_GC_TPLL s ≠ m) ∧
    (∃ s : State, ∃ second : Bool, ∃ p, p = (if second then 3 else 2) ∧ getF (PLL_STATUS_STATE p) s = 2 ∧ isSet (PLL_PHASE_PHASE_OK p) s = false) ∧
    (∃ s : State, ∃ p : Fin 63, isSet (PLL_CTRL_EN p) s = true ∧ (pllFam p = .general ∨ pllFam p = .timing ∨ pllFam p = .system) ∧
      NotSafe 0x13 s) :=
  ⟨⟨State.reset, 0, by decide +kernel, by decide +kernel, by unfold NotSafe; decide +kernel, by unfold NotSafe; decide +kernel⟩,
   ⟨put [(PLL_CTRL_EN 2, 1), (PLL_STATUS_STATE 2, 1)] State.reset, 2, 12, by decide +kernel, by decide +kernel, by decide +kernel,
     by decide +kernel⟩,
   ⟨put [(PLL_CTRL_EN 3, 1), (PLL_STATUS_STATE 3, 1)] State.reset, 3, 13, by decide +kernel, by decide +kernel, by decide +kernel,
     by decide +kernel, by decide +kernel⟩,
   ⟨put [(PLL_CTRL_EN 25, 1), (PLL_STATUS_STATE 25, 1)] State.reset, 25, by decide +kernel, by decide +kernel, by decide +kernel⟩,
   ⟨put [(PLL_CTRL_EN 25, 1), (PLL_STATUS_STATE 25, 2)] State.reset, 25, by decide +kernel, by decide +kernel, by unfold NotSafe; decide +kernel,
     by decide +kernel⟩,
   ⟨{ put [(PLL_CTRL_EN 30, 1), (PLL_STATUS_STATE 30, 2)] State.reset with pll := { State.reset.pll with locked := [30] } }, 30, 100000, 100000,
     by decide +kernel, by decide +kernel, by decide +kernel, by decide +kernel, by unfold NotSafe; decide +kernel, by decide +kernel⟩,
   ⟨{ put [(PLL_STATUS_STATE 1, 2)] State.reset with pll := { State.reset.pll with faulty := some 1 } }, 1, by decide +kernel, by decide +kernel,
     by decide +kernel⟩,
   ⟨put [(PLL_STATUS_STATE 3, 2)] State.reset, true, _, rfl, by decide +kernel, by decide +kernel⟩,
   ⟨put [(PLL_CTRL_EN 25, 1), (PLL_STATUS_STATE 25, 2)] State.reset, 25, by decide +kernel, by decide +kernel, by unfold NotSafe; decide +kernel⟩⟩

set_option maxRecDepth 20000 in
theorem witness_PowerAndResets :
    (∃ s : State, s.boot.power = 0) ∧
    (∃ s : State, s.boot.power = 2) ∧
    (∃ s : State, s.boot.power = 2 ∧ s.boot.removal = false ∧ s.lj.restarting = true ∧ enabledPorts s = [] ∧ s.flash.ops = []) ∧
    (∃ s : State, timerOn 13 s = true ∧ s.boot.power = 2) ∧
    (∃ s : State, ∃ rails : BitVec 23, ∃ k, lowestRail rails.toNat = some k ∧ s.boot.power = 2) ∧
    (∃ s : State, timerOn 10 s = true) ∧
    (∃ s : State, s.boot.power ≠ 2) ∧
    (∃ s : State, s.boot.power = 1 ∧ timerOn 12 s = true ∧ s.flash.page = [] ∧ s.flash.mem = [] ∧ s.flash.ops = []) ∧
    (∃ s : State, s.boot.power = 2 ∧ NotSafe 0x13 s) ∧
    (∃ s : State, s.lj.restarting = true ∧ s.lj.restartKind = 1 ∧ s.dev.state = .live ∧ s.boot.stage = 0 ∧ s.boot.removal = false ∧
      s.mail.romOnly = false ∧ getF LJ_REFEREE_RESTARTS s < 100 ∧ NotSafe 0x01 s ∧ NotSafe 0x13 s) :=
  ⟨⟨State.reset, by decide +kernel⟩,
   ⟨put [(GC_CTRL_RUN, 1)] powered, by decide +kernel⟩,
   ⟨{ powered with lj := { State.reset.lj with restarting := true } }, by decide +kernel, by decide +kernel, by decide +kernel, by decide +kernel,
     by decide +kernel⟩,
   ⟨timing 13 (put [(GC_CTRL_RUN, 1)] powered), by decide +kernel, by decide +kernel⟩,
   ⟨put [(GC_CTRL_RUN, 1)] powered, 4, 2, by decide +kernel, by decide +kernel⟩,
   ⟨timing 10 powered, by decide +kernel⟩,
   ⟨State.reset, by decide +kernel⟩,
   ⟨timing 12 { State.reset with boot := { State.reset.boot with power := 1 } }, by decide +kernel, by decide +kernel, by decide +kernel,
     by decide +kernel, by decide +kernel⟩,
   ⟨powered, by decide +kernel, by unfold NotSafe; decide +kernel⟩,
   ⟨{ at_ .live with lj := { State.reset.lj with restarting := true, restartKind := 1 } }, by decide +kernel, by decide +kernel, by decide +kernel,
     by decide +kernel, by decide +kernel, by decide +kernel, by decide +kernel, by unfold NotSafe; decide +kernel,
     by unfold NotSafe; decide +kernel⟩⟩

set_option maxRecDepth 20000 in
theorem witness_PcieLink :
    (∃ s : State, s.boot.power = 2 ∧ s.boot.perst = false) ∧
    (∃ s : State, ∃ low, s.boot.power ≠ 2 ∧ low ≠ s.boot.perst) ∧
    (∃ s : State, s.boot.power = 2 ∧ s.boot.linkUp = true) ∧
    (∃ s : State, s.boot.power = 2 ∧ s.boot.perst = false ∧ s.boot.linkUp = false) ∧
    (∃ s : State, timerOn 11 s = true ∧ s.boot.ids = none) :=
  ⟨⟨{ powered with boot := { powered.boot with linkUp := true } }, by decide +kernel, by decide +kernel⟩,
   ⟨State.reset, true, by decide +kernel, by decide +kernel⟩,
   ⟨{ powered with boot := { powered.boot with linkUp := true } }, by decide +kernel, by decide +kernel⟩,
   ⟨powered, by decide +kernel, by decide +kernel, by decide +kernel⟩,
   ⟨timing 11 powered, by decide +kernel, by decide +kernel⟩⟩

set_option maxRecDepth 20000 in
theorem witness_HuddleAndLive :
    (∃ s : State, s.boot.stage = 2 ∧ timerOn 5 s = true) ∧
    (∃ s : State, huddleDue s = true) ∧
    (∃ s : State, s.dev.state = .huddle ∧ timerOn 6 s = true ∧ s.boot.huddle = none) ∧
    (∃ s : State, (s.dev.state = .staged ∨ s.dev.state = .live ∨ s.dev.state = .quiesce ∨ s.dev.state = .safe ∨ s.dev.state = .hold)) ∧
    (∃ s : State, autoDue s = true ∧ s.dev.state = .staged ∧ s.dev.prev = .huddle ∧ enabledPorts s = [] ∧ isSet BOOT_STATUS_AUTOLIVE_OFF s = true) ∧
    (∃ s : State, autoDue s = true ∧ s.dev.state = .staged ∧ s.dev.prev = .huddle ∧ enabledPorts s = [] ∧
      isSet BOOT_STATUS_AUTOLIVE_OFF s = false ∧ s.dev.onAt = none ∧ s.dev.onNext = none) ∧
    (∃ s : State, onAtDue s = true ∧ enabledPorts s = []) :=
  ⟨⟨timing 5 { at_ .load with boot := { powered.boot with stage := 2 } }, by decide +kernel, by decide +kernel⟩,
   ⟨{ put [(HUDDLE_STATUS_LINE, 1), (GC_CTRL_RUN, 1)] (at_ .huddle) with boot := { powered.boot with huddle := some 1 } }, by decide +kernel⟩,
   ⟨timing 6 (at_ .huddle), by decide +kernel, by decide +kernel, by decide +kernel⟩,
   ⟨at_ .live, by decide +kernel⟩,
   ⟨put [(BOOT_STATUS_AUTOLIVE_OFF,
     1)] { put [(GC_CTRL_RUN, 1)] (at_ .staged) with boot := { powered.boot with header := pay [(8, 0), (4, 2)] }, dev := { (at_ .staged).dev with prev := .huddle } }, by decide +kernel, by decide +kernel, by decide +kernel, by decide +kernel, by decide +kernel⟩,
   ⟨{ put [(GC_CTRL_RUN, 1)] (at_ .staged) with boot := { powered.boot with header := pay [(8, 0), (4, 2)] }, dev := { (at_ .staged).dev with prev := .huddle } }, by decide +kernel, by decide +kernel, by decide +kernel, by decide +kernel, by decide +kernel, by decide +kernel, by decide +kernel⟩,
   ⟨{ put [(GC_CTRL_RUN, 1)] (at_ .staged) with dev := { (at_ .staged).dev with onAt := some 0 } }, by decide +kernel, by decide +kernel⟩⟩

set_option maxRecDepth 20000 in
theorem witness_DeviceQueries :
    (∃ s : State, ∃ mb : Fin 14, ∃ r : Req, Asks sheetDeviceInfo mb r s) ∧
    (∃ s : State, ∃ mb : Fin 14, ∃ r : Req, Asks sheetDeviceStatus mb r s) ∧
    (∃ s : State, ∃ mb : Fin 14, ∃ r : Req, Asks sheetEcho mb r s) ∧
    (∃ s : State, ∃ mb : Fin 14, ∃ r : Req, Asks sheetNoticeMask mb r s) :=
  ⟨⟨asking 5 0x0101 ([]) (State.reset), 5, front (asking 5 0x0101 ([]) (State.reset)), asks_of (by decide +kernel)⟩,
   ⟨asking 5 0x0102 ([]) (State.reset), 5, front (asking 5 0x0102 ([]) (State.reset)), asks_of (by decide +kernel)⟩,
   ⟨asking 5 0x010C ([1, 2, 3]) (State.reset), 5, front (asking 5 0x010C ([1, 2, 3]) (State.reset)), asks_of (by decide +kernel)⟩,
   ⟨asking 5 0x010B ([0, 0, 0, 0]) (State.reset), 5, front (asking 5 0x010B ([0, 0, 0, 0]) (State.reset)), asks_of (by decide +kernel)⟩⟩

set_option maxRecDepth 20000 in
theorem witness_OutputCommands :
    (∃ s : State, ∃ mb : Fin 14, ∃ r : Req, Asks sheetOutputsOn mb r s ∧ s.dev.onAt = none) ∧
    (∃ s : State, ∃ mb : Fin 14, ∃ r : Req, Asks sheetOutputsOn mb r s ∧ s.dev.onAt = none ∧ arg r 0 1 = 1) ∧
    (∃ s : State, ∃ mb : Fin 14, ∃ r : Req, Asks sheetOutputsOn mb r s ∧ s.dev.onAt = none ∧ arg r 0 1 = 0) ∧
    (∃ s : State, ∃ mb : Fin 14, ∃ r : Req, Asks sheetOutputsOff mb r s ∧ s.dev.onAt = none ∧ s.dev.onNext = none ∧ s.dev.state ≠ .live ∧
      s.dev.state ≠ .quiesce) ∧
    (∃ s : State, ∃ mb : Fin 14, ∃ r : Req, Asks sheetOutputsOff mb r s ∧ s.dev.onAt = none ∧ s.dev.onNext = none ∧ s.dev.state = .live ∧
      enabledPorts s = []) ∧
    (∃ s : State, ∃ mb : Fin 14, ∃ r : Req, Asks sheetQuiesce mb r s ∧ s.dev.state = .live) ∧
    (∃ s : State, s.dev.state = .quiesce ∧ atSlotBoundary s = true ∧ enabledPorts s = []) ∧
    (∃ s : State, s.dev.state = .quiesce ∧ timerOn 3 s = true ∧ enabledPorts s = []) ∧
    (∃ s : State, ∃ mb : Fin 14, ∃ r : Req, Asks sheetDeviceReset mb r s ∧ timerOn 10 s = false) :=
  ⟨⟨asking 5 0x0103 (pay [(2, 1), (6, 2)]) (at_ .staged), 5, front (asking 5 0x0103 (pay [(2, 1), (6, 2)]) (at_ .staged)),
    asks_of (by decide +kernel), by decide +kernel⟩,
   ⟨asking 5 0x0103 (pay [(2, 1), (6, 2)]) (at_ .staged), 5, front (asking 5 0x0103 (pay [(2, 1), (6, 2)]) (at_ .staged)),
     asks_of (by decide +kernel), by decide +kernel, by decide +kernel⟩,
   ⟨asking 5 0x0103 (pay [(2, 0), (6, 2)]) (at_ .staged), 5, front (asking 5 0x0103 (pay [(2, 0), (6, 2)]) (at_ .staged)),
     asks_of (by decide +kernel), by decide +kernel, by decide +kernel⟩,
   ⟨asking 5 0x0104 ([]) (at_ .safe), 5, front (asking 5 0x0104 ([]) (at_ .safe)), asks_of (by decide +kernel), by decide +kernel,
     by decide +kernel, by decide +kernel, by decide +kernel⟩,
   ⟨asking 5 0x0104 ([]) (at_ .live), 5, front (asking 5 0x0104 ([]) (at_ .live)), asks_of (by decide +kernel), by decide +kernel,
     by decide +kernel, by decide +kernel, by decide +kernel⟩,
   ⟨asking 5 0x0105 ([0, 0]) (at_ .live), 5, front (asking 5 0x0105 ([0, 0]) (at_ .live)), asks_of (by decide +kernel), by decide +kernel⟩,
   ⟨put [(GC_CTRL_RUN, 1)] (at_ .quiesce), by decide +kernel, by decide +kernel, by decide +kernel⟩,
   ⟨timing 3 (at_ .quiesce), by decide +kernel, by decide +kernel, by decide +kernel⟩,
   ⟨asking 8 0x0106 ([10, 0]) (State.reset), 8, front (asking 8 0x0106 ([10, 0]) (State.reset)), asks_of (by decide +kernel), by decide +kernel⟩⟩

set_option maxRecDepth 20000 in
theorem witness_ClaimsAndGrant :
    (∃ s : State, ∃ mb : Fin 14, ∃ r : Req, Asks sheetClaim mb r s ∧ ((∀ g < 7, bitOf (arg r 0 1) g = true → groupTaken mb g s = false))) ∧
    (∃ s : State, ∃ mb : Fin 14, ∃ r : Req, ∃ g, Asks sheetClaim mb r s ∧ arg r 1 1 = 0 ∧ g < 7 ∧ bitOf (arg r 0 1) g = true ∧
      groupTaken mb g s = true) ∧
    (∃ s : State, ∃ mb : Fin 14, ∃ r : Req, Asks sheetRelease mb r s) ∧
    (∃ s : State, ∃ g : Fin 7, ∃ m, timerOn (0x2000 + g.val) s = true ∧ ownerOf g s = m ∧ m < 14 ∧ s.dev.onNext ≠ some m) ∧
    (∃ s : State, ∃ mb : Fin 14, ∃ r : Req, Asks sheetExpertGrant mb r s) ∧
    (∃ s : State, ∃ mb : Fin 14, ∃ r : Req, Asks sheetExpertRevoke mb r s ∧ grantHeld s = true ∧ s.mail.grantor < 14) ∧
    (∃ s : State, ∃ mb : Fin 14, ∃ r : Req, Asks sheetExpertRevoke mb r s ∧ grantHeld s = false) :=
  ⟨⟨asking 5 0x0107 ([65, 0, 100, 0]) (State.reset), 5, front (asking 5 0x0107 ([65, 0, 100, 0]) (State.reset)), asks_of (by decide +kernel),
    by decide +kernel⟩,
   ⟨asking 5 0x0107 ([65, 0, 100, 0]) (put [(ownerFld 6, 3)] State.reset), 5, front (asking 5 0x0107 ([65, 0, 100, 0]) (put [(ownerFld 6,
     3)] State.reset)), 6, asks_of (by decide +kernel), by decide +kernel, by decide +kernel, by decide +kernel, by decide +kernel⟩,
   ⟨asking 5 0x0108 ([65]) (put [(ownerFld 6, 5)] State.reset), 5, front (asking 5 0x0108 ([65]) (put [(ownerFld 6, 5)] State.reset)),
     asks_of (by decide +kernel)⟩,
   ⟨timing 0x2006 (put [(ownerFld 6, 13)] State.reset), 6, 13, by decide +kernel, by decide +kernel, by decide +kernel, by decide +kernel⟩,
   ⟨asking 13 0x0109 ([2, 31, 0, 0]) (State.reset), 13, front (asking 13 0x0109 ([2, 31, 0, 0]) (State.reset)), asks_of (by decide +kernel)⟩,
   ⟨asking 13 0x010A ([]) (put [(MB_EXPERT_GRANTED 0, 1)] State.reset), 13, front (asking 13 0x010A ([]) (put [(MB_EXPERT_GRANTED 0,
     1)] State.reset)), asks_of (by decide +kernel), by decide +kernel, by decide +kernel⟩,
   ⟨asking 0 0x010A ([]) (State.reset), 0, front (asking 0 0x010A ([]) (State.reset)), asks_of (by decide +kernel), by decide +kernel⟩⟩

set_option maxRecDepth 20000 in
theorem witness_RegisterAccesses :
    (∃ s : State, ∃ n : BitVec 7, NotSafe 0x13 s ∧ 80 ≤ n.toNat) ∧
    (∃ s : State, ∃ a : BitVec 40, NotSafe 0x13 s ∧ a.toNat < 2 ^ 38 ∧ a.toNat % 4 ≠ 0) ∧
    (∃ s : State, ∃ a : BitVec 40, NotSafe 0x13 s ∧ a.toNat < 2 ^ 38 ∧ a.toNat % 4 = 0 ∧ csrBlock a.toNat = false) ∧
    (∃ s : State, ∃ n : BitVec 7, ∃ a : BitVec 40, NotSafe 0x13 s ∧ a.toNat < 2 ^ 38 ∧ a.toNat % 4 = 0 ∧ n.toNat < 80 ∧
      getF (FP_CTRL_CSR_EN n.toNat) s = 0) ∧
    (∃ s : State, NotSafe 0x13 s) ∧
    (∃ s : State, ∃ g : Fin 80, ∃ q : CsrReq, NotSafe 0x13 s ∧ 80 ≤ q.src.toNat ∧ q.addr.toNat = (RGN_CFG_FENCE_POLICY g).addr ∧ q.write = false ∧
      q.eight = false) ∧
    (∃ s : State, ∃ g : Fin 80, ∃ q : CsrReq, ∃ p : CsrReq, ∃ l, NotSafe 0x13 s ∧ 80 ≤ q.src.toNat ∧ q.src.toNat < p.src.toNat ∧ q.addr = p.addr ∧
      q.addr.toNat = (RGN_CFG_FENCE_POLICY g).addr ∧ q.write = true ∧ p.write = true ∧ q.eight = false ∧ p.eight = false ∧ q.data.toNat % 4 ≠ 3 ∧
      p.data.toNat % 4 ≠ 3 ∧ l ∈ [[q, p], [p, q]]) :=
  ⟨⟨State.reset, 88, by unfold NotSafe; decide +kernel, by decide +kernel⟩,
   ⟨State.reset, 0x3F00000001, by unfold NotSafe; decide +kernel, by decide +kernel, by decide +kernel⟩,
   ⟨State.reset, 0x3EFFFFFFFC, by unfold NotSafe; decide +kernel, by decide +kernel, by decide +kernel, by decide +kernel⟩,
   ⟨State.reset, 79, 0x3F00100000, by unfold NotSafe; decide +kernel, by decide +kernel, by decide +kernel, by decide +kernel, by decide +kernel⟩,
   ⟨State.reset, by unfold NotSafe; decide +kernel⟩,
   ⟨State.reset, 79, ⟨88, false, BitVec.ofNat 40 (RGN_CFG_FENCE_POLICY 79).addr, false, 0⟩, by unfold NotSafe; decide +kernel, by decide +kernel,
     by decide +kernel, by decide +kernel, by decide +kernel⟩,
   ⟨State.reset, 79, ⟨80, true, BitVec.ofNat 40 (RGN_CFG_FENCE_POLICY 79).addr, false, 1⟩, ⟨88, true,
     BitVec.ofNat 40 (RGN_CFG_FENCE_POLICY 79).addr, false, 2⟩, [⟨80, true, BitVec.ofNat 40 (RGN_CFG_FENCE_POLICY 79).addr, false, 1⟩, ⟨88, true,
     BitVec.ofNat 40 (RGN_CFG_FENCE_POLICY 79).addr, false, 2⟩], by unfold NotSafe; decide +kernel, by decide +kernel, by decide +kernel,
     by decide +kernel, by decide +kernel, by decide +kernel, by decide +kernel, by decide +kernel, by decide +kernel, by decide +kernel,
     by decide +kernel, by decide +kernel⟩⟩

set_option maxRecDepth 20000 in
theorem witness_PacketsAndTags :
    (∃ s : State, ∃ k, ∃ n : BitVec 7, ∃ v : Fin 4, NotSafe 0x13 s ∧ s.noc.net = [k] ∧ pathWorks k s = true ∧
      ((n.toNat ≠ k.dest ∨ v.val ≠ opVc k.op))) ∧
    (∃ s : State, ∃ k, ∃ d, NotSafe 0x13 s ∧ s.noc.net = [k] ∧ pathWorks k s = true ∧ k.dest = 87 ∧ k.op = opRdRsp ∧ k.status = 0 ∧ k.bad = [] ∧
      k.data = leBytes 32 d ∧ tabFind s.noc.tags (64 * 87 + k.tag) = some ⟨opRd, 4, 0, s.time.us⟩) ∧
    (∃ s : State, ∃ k, ∃ d, NotSafe 0x13 s ∧ s.noc.net = [k] ∧ pathWorks k s = true ∧ k.dest = 84 ∧ k.op = opWr ∧ k.len = 0 ∧ k.bad = [0] ∧
      k.data = leBytes 32 d) ∧
    (∃ s : State, ∃ g : Fin 80, ∃ j : BitVec 6, ∃ f, NotSafe 0x13 s ∧ tabFind s.fab.tags (64 * g.val + j.toNat) = some f) ∧
    (∃ s : State, ∃ j : BitVec 6, ∃ f, NotSafe 0x13 s ∧ tabFind s.noc.tags (64 * 87 + j.toNat) = some f) ∧
    (∃ s : State, ∃ x : BitVec 30, ∃ n : BitVec 10, ∃ tag, s.boot.linkUp = true ∧ n.toNat ≠ 0 ∧
      (getF (MB_EXPERT_WIN_BASE 0) s * 2 ^ 30 + x.toNat) % 4096 + n.toNat ≤ 4096 ∧
      ((getF (MB_EXPERT_WIN_BASE 0) s * 2 ^ 30 + x.toNat) % 32 + n.toNat + 31) / 32 ≤ 16 ∧
      expertBad (getF (MB_EXPERT_WIN_BASE 0) s * 2 ^ 30 + x.toNat) n.toNat false s = false ∧ pcieTag s = some tag) ∧
    (∃ s : State, ∃ w : Bool, ∃ x : BitVec 30, ∃ n : BitVec 10, s.boot.linkUp = true ∧ n.toNat ≠ 0 ∧
      (getF (MB_EXPERT_WIN_BASE 0) s * 2 ^ 30 + x.toNat) % 4096 + n.toNat ≤ 4096 ∧
      ((getF (MB_EXPERT_WIN_BASE 0) s * 2 ^ 30 + x.toNat) % 32 + n.toNat + 31) / 32 ≤ 16 ∧ ((grantHeld s = false ∨ (w = true ∧
      getF (MB_EXPERT_WRITE 0) s = 0))) ∧ getF (EXPERT_VIOL_COUNT 0) s < 65536) :=
  ⟨⟨{ State.reset with noc := { State.reset.noc with net := [(⟨87, 84, opRdRsp, 0, false, 5, 0, 0, 0, 0, 0, 0, 0, 0, leBytes 32 9, [], 0⟩ : Pkt)] } }, (⟨87, 84, opRdRsp, 0, false, 5, 0, 0, 0, 0, 0, 0, 0, 0, leBytes 32 9, [], 0⟩ : Pkt), 3, 0, by unfold NotSafe; decide +kernel, by decide +kernel, by decide +kernel, by decide +kernel⟩,
   ⟨{ State.reset with noc := { State.reset.noc with net := [(⟨87, 84, opRdRsp, 0, false, 5, 0, 0, 0, 0, 0, 0, 0, 0, leBytes 32 9, [], 0⟩ : Pkt)], tags := [(64 * 87 + 5, ⟨opRd, 4, 0, 0⟩)] } }, (⟨87, 84, opRdRsp, 0, false, 5, 0, 0, 0, 0, 0, 0, 0, 0, leBytes 32 9, [], 0⟩ : Pkt), 9, by unfold NotSafe; decide +kernel, by decide +kernel, by decide +kernel, by decide +kernel, by decide +kernel, by decide +kernel, by decide +kernel, by decide +kernel, by decide +kernel⟩,
   ⟨{ State.reset with noc := { State.reset.noc with net := [(⟨84, 87, opWr, 0, false, 5, 0, 0, 0x3000000000, 0, 0, 0, 0, 0, leBytes 32 9, [0], 0⟩ : Pkt)] } }, (⟨84, 87, opWr, 0, false, 5, 0, 0, 0x3000000000, 0, 0, 0, 0, 0, leBytes 32 9, [0], 0⟩ : Pkt), 9, by unfold NotSafe; decide +kernel, by decide +kernel, by decide +kernel, by decide +kernel, by decide +kernel, by decide +kernel, by decide +kernel, by decide +kernel⟩,
   ⟨{ State.reset with fab := { State.reset.fab with tags := [(64 * 79 + 63, ⟨opRd, 1, 0, 0⟩)] } }, 79, 63, ⟨opRd, 1, 0, 0⟩,
     by unfold NotSafe; decide +kernel, by decide +kernel⟩,
   ⟨{ State.reset with noc := { State.reset.noc with tags := [(64 * 87 + 63, ⟨opRd, 4, 0, 0⟩)] } }, 63, ⟨opRd, 4, 0, 0⟩,
     by unfold NotSafe; decide +kernel, by decide +kernel⟩,
   ⟨{ put [(MB_EXPERT_GRANTED 0, 1), (MB_EXPERT_SCOPE 0, 31), (MB_EXPERT_WIN_BASE 0, 0)] State.reset with boot := { State.reset.boot with linkUp := true } }, 64, 4, 0, by decide +kernel, by decide +kernel, by decide +kernel, by decide +kernel, by decide +kernel, by decide +kernel⟩,
   ⟨{ put [(EXPERT_VIOL_COUNT 0, 0xFFFF)] State.reset with boot := { State.reset.boot with linkUp := true } }, false, 64, 4, by decide +kernel,
     by decide +kernel, by decide +kernel, by decide +kernel, by decide +kernel, by decide +kernel⟩⟩

set_option maxRecDepth 20000 in
theorem witness_RequestsAndDoorbells :
    (∃ s : State, ∃ mb : Fin 14, ∃ r : Req, ∃ st, ∃ o, ∃ p, headReq s = some r ∧ r.mb = mb.val ∧ gateOf r s = .answer st o p ∧ st < 65536) ∧
    (∃ r : Req, 4192 < r.len) ∧
    (∃ r : Req, r.len ≤ 4192 ∧ r.crcOk = false) ∧
    (∃ s : State, ∃ r : Req, ∃ h, r.len ≤ 4192 ∧ r.crcOk = true ∧ histFind r s = some h ∧ h.opcode = r.opcode ∧ h.crc = r.crc ∧ h.running = false) ∧
    (∃ s : State, ∃ r : Req, ∃ h, r.len ≤ 4192 ∧ r.crcOk = true ∧ histFind r s = some h ∧ h.opcode = r.opcode ∧ h.crc = r.crc ∧ h.running = true) ∧
    (∃ s : State, ∃ r : Req, ∃ h, r.len ≤ 4192 ∧ r.crcOk = true ∧ histFind r s = some h ∧ (h.opcode ≠ r.opcode ∨ h.crc ≠ r.crc)) ∧
    (∃ s : State, ∃ mb : Fin 14, ∃ r : Req, headReq s = some r ∧ r.mb = mb.val ∧ r.len ≤ 4192 ∧ r.crcOk = true ∧ histFind r s = none ∧
      r.seq < 65536 ∧ r.zeroOk = false) ∧
    (∃ s : State, ∃ mb : Fin 14, ∃ r : Req, headReq s = some r ∧ r.mb = mb.val ∧ r.len ≤ 4192 ∧ r.crcOk = true ∧ histFind r s = none ∧
      r.seq < 65536 ∧ r.zeroOk = true ∧ s.mail.romOnly = false ∧ opcodes.contains r.opcode = false) ∧
    (∃ s : State, ∃ mb : Fin 14, ∃ r : Req, headReq s = some r ∧ r.mb = mb.val ∧ r.len ≤ 4192 ∧ r.crcOk = true ∧ histFind r s = none ∧
      r.seq < 65536 ∧ r.zeroOk = true ∧ s.mail.romOnly = true ∧ romServes r = false) ∧
    (∃ s : State, ∃ m : Fin 14, getF (MB_STATUS_BUSY m) s = 0) ∧
    (∃ s : State, ∃ m : Fin 14, getF (MB_STATUS_BUSY m) s = 1) ∧
    (∃ s : State, ∃ m : Fin 14, ∃ n : Fin 14, m ≠ n ∧ getF (MB_STATUS_BUSY m) s = 0 ∧ getF (MB_STATUS_BUSY n) s = 0 ∧ ringOpcode m s = 0x0104 ∧
      ringOpcode n s = 0x0103) ∧
    (∃ s : State, ∃ n : Fin 14, n.val ≠ 8 ∧ getF (MB_STATUS_BUSY 8) s = 0 ∧ getF (MB_STATUS_BUSY n) s = 0 ∧ safetyClass (ringOpcode 8 s) = false ∧
      safetyClass (ringOpcode n s) = false) :=
  ⟨⟨{ asking 5 0x0101 [1] State.reset with mail := { (asking 5 0x0101 [1] State.reset).mail with boxes := [(5, ⟨memWrite 0 [] 0 [1, 1, 7], [], []⟩)] } }, 5, front ({ asking 5 0x0101 [1] State.reset with mail := { (asking 5 0x0101 [1] State.reset).mail with boxes := [(5, ⟨memWrite 0 [] 0 [1, 1, 7], [], []⟩)] } }), stBadCrc, stBadCrc, [], by decide +kernel, by decide +kernel, by decide +kernel, by decide +kernel⟩,
   ⟨⟨0, 0, 0, 4193, 0, 0, true, true, [], false⟩, by decide +kernel⟩,
   ⟨⟨0, 0, 0, 4192, 0, 0, false, true, [], false⟩, by decide +kernel, by decide +kernel⟩,
   ⟨boxSet 0 ⟨[], [], [⟨7, 1, 2, 3, [4], false⟩]⟩ State.reset, ⟨0, 1, 7, 0, 0, 2, true, true, [], false⟩, ⟨7, 1, 2, 3, [4], false⟩,
     by decide +kernel, by decide +kernel, by decide +kernel, by decide +kernel, by decide +kernel, by decide +kernel⟩,
   ⟨boxSet 0 ⟨[], [], [⟨7, 1, 2, 3, [4], true⟩]⟩ State.reset, ⟨0, 1, 7, 0, 0, 2, true, true, [], false⟩, ⟨7, 1, 2, 3, [4], true⟩,
     by decide +kernel, by decide +kernel, by decide +kernel, by decide +kernel, by decide +kernel, by decide +kernel⟩,
   ⟨boxSet 0 ⟨[], [], [⟨7, 1, 2, 3, [4], true⟩]⟩ State.reset, ⟨0, 1, 7, 0, 0, 3, true, true, [], false⟩, ⟨7, 1, 2, 3, [4], true⟩,
     by decide +kernel, by decide +kernel, by decide +kernel, by decide +kernel⟩,
   ⟨askingReserved, 5, front (askingReserved), by decide +kernel, by decide +kernel, by decide +kernel, by decide +kernel, by decide +kernel,
     by decide +kernel, by decide +kernel⟩,
   ⟨asking 5 0x1234 ([]) (State.reset), 5, front (asking 5 0x1234 ([]) (State.reset)), by decide +kernel, by decide +kernel, by decide +kernel,
     by decide +kernel, by decide +kernel, by decide +kernel, by decide +kernel, by decide +kernel, by decide +kernel⟩,
   ⟨{ asking 13 0x0301 [] State.reset with mail := { (asking 13 0x0301 [] State.reset).mail with romOnly := true } }, 13,
     front ({ asking 13 0x0301 [] State.reset with mail := { (asking 13 0x0301 [] State.reset).mail with romOnly := true } }), by decide +kernel,
     by decide +kernel, by decide +kernel, by decide +kernel, by decide +kernel, by decide +kernel, by decide +kernel, by decide +kernel,
     by decide +kernel⟩,
   ⟨State.reset, 13, by decide +kernel⟩,
   ⟨put [(MB_STATUS_BUSY 13, 1)] State.reset, 13, by decide +kernel⟩,
   ⟨boxSet 13 ⟨memWrite 0 [] 0 [4, 1], [], []⟩ (boxSet 0 ⟨memWrite 0 [] 0 [3, 1], [], []⟩ (State.reset)), 13, 0, by decide +kernel,
     by decide +kernel, by decide +kernel, by decide +kernel, by decide +kernel⟩,
   ⟨State.reset, 0, by decide +kernel, by decide +kernel, by decide +kernel, by decide +kernel, by decide +kernel⟩⟩

set_option maxRecDepth 20000 in
theorem witness_MailboxRows :
    (∃ s : State, ∃ m : Fin 14, ∃ v : BitVec 32,
      ringSize (boxRing m) < (getF (NOTICE_PROD_PROD (ringBox (boxRing m))) s + 2 ^ 32 - v.toNat) % 2 ^ 32) ∧
    (∃ s : State, ∃ m : Fin 14, ∃ v : BitVec 32,
      (getF (NOTICE_PROD_PROD (ringBox (boxRing m))) s + 2 ^ 32 - v.toNat) % 2 ^ 32 ≤ ringSize (boxRing m)) ∧
    (∃ s : State, timerOn tmMsi8 s = true ∧ s.mail.msiOwed = true) ∧
    (∃ s : State, timerOn tmMsi8 s = true ∧ s.mail.msiOwed = false) ∧
    (∃ s : State, timerOn tmMsi8 s = false) ∧
    (∃ s : State, ∃ a : BitVec 7, ∃ o : BitVec 16, NotSafe 0x13 s ∧ a.toNat = getF MID_MGMT_TADDR s ∧ o.toNat < 0x1080 ∧
      getF (MB_STATUS_BUSY 8) s = 0) ∧
    (∃ s : State, ∃ a : BitVec 7, ∃ o : BitVec 16, NotSafe 0x13 s ∧ a.toNat = getF MID_MGMT_TADDR s ∧ o.toNat < 0x1080 ∧
      getF (MB_STATUS_BUSY 8) s = 1) ∧
    (∃ s : State, ∃ a : BitVec 7, NotSafe 0x13 s ∧ a.toNat ≠ getF MID_MGMT_TADDR s) ∧
    (∃ s : State, ∃ a : BitVec 7, ∃ o : BitVec 16, ∃ n : Nat, a.toNat = getF MID_MGMT_TADDR s ∧ o.toNat + n ≤ 0x1080) :=
  ⟨⟨State.reset, 13, 1, by decide +kernel⟩,
   ⟨put [(NOTICE_PROD_PROD (ringBox (boxRing 13)), 5)] State.reset, 13, 5, by decide +kernel⟩,
   ⟨(fun s : State => { s with mail := { s.mail with msiOwed := true } }) (timing tmMsi8 State.reset), by decide +kernel, by decide +kernel⟩,
   ⟨timing tmMsi8 State.reset, by decide +kernel, by decide +kernel⟩,
   ⟨State.reset, by decide +kernel⟩,
   ⟨State.reset, BitVec.ofNat 7 (getF MID_MGMT_TADDR State.reset), 0x107F, by unfold NotSafe; decide +kernel, by decide +kernel, by decide +kernel,
     by decide +kernel⟩,
   ⟨put [(MB_STATUS_BUSY 8, 1)] State.reset, BitVec.ofNat 7 (getF MID_MGMT_TADDR State.reset), 0x107F, by unfold NotSafe; decide +kernel,
     by decide +kernel, by decide +kernel, by decide +kernel⟩,
   ⟨State.reset, 1, by unfold NotSafe; decide +kernel, by decide +kernel⟩,
   ⟨State.reset, BitVec.ofNat 7 (getF MID_MGMT_TADDR State.reset), 0x1070, 16, by decide +kernel, by decide +kernel⟩⟩

set_option maxRecDepth 20000 in
theorem witness_ImageCommands :
    (∃ s : State, ∃ mb : Fin 14, ∃ r : Req, Asks sheetImageStatus mb r s) ∧
    (∃ s : State, ∃ mb : Fin 14, ∃ r : Req, Asks sheetImageSlotInfo mb r s ∧ s.flash.page = [] ∧ s.flash.mem = [] ∧ guardPending s = false) ∧
    (∃ s : State, ∃ mb : Fin 14, ∃ r : Req, Asks sheetImageWriteBegin mb r s ∧ s.boot.removal = false) ∧
    (∃ s : State, ∃ mb : Fin 14, ∃ r : Req, Asks (sheetImageWriteData none) mb r s ∧ s.boot.removal = false ∧ arg r 8 4 = 256 ∧
      flPage s (slotBase (arg r 0 1) + arg r 4 4) = 0) ∧
    (∃ s : State, ∃ mb : Fin 14, ∃ r : Req, Asks sheetImageCommit mb r s ∧ arg r 4 4 ≠ 0) ∧
    (∃ s : State, ∃ mb : Fin 14, ∃ r : Req, Asks sheetImageBoot mb r s) ∧
    (∃ s : State, ∃ mb : Fin 14, ∃ r : Req, Asks sheetImageKeyLoad mb r s) ∧
    (∃ s : State, ∃ mb : Fin 14, ∃ r : Req, Asks sheetImageKeyClear mb r s) ∧
    (∃ s : State, ∃ mb : Fin 14, ∃ r : Req, Asks (sheetImageEfuseProgram true) mb r s) ∧
    (∃ s : State, ∃ mb : Fin 14, ∃ seq : BitVec 16, ∃ a, ∃ n, ∃ q, s.mail.running = [a] ∧ a.mb = mb.val ∧ a.seq = seq.toNat ∧ a.opcode = 0x0205 ∧
      a.args = [n, q] ∧ n < 3 ∧ jobBusy (0x0205 + 65536 * n) s = false ∧ s.flash.page = [] ∧ s.flash.mem = [] ∧ guardPending s = false ∧
      NotSafe 0x13 s) :=
  ⟨⟨asking 5 0x0201 ([]) (State.reset), 5, front (asking 5 0x0201 ([]) (State.reset)), asks_of (by decide +kernel)⟩,
   ⟨asking 5 0x0202 ([1]) (State.reset), 5, front (asking 5 0x0202 ([1]) (State.reset)), asks_of (by decide +kernel), by decide +kernel,
     by decide +kernel, by decide +kernel⟩,
   ⟨asking 5 0x0203 (pay [(4, 1), (4, 65536)]) (at_ .staged), 5, front (asking 5 0x0203 (pay [(4, 1), (4, 65536)]) (at_ .staged)),
     asks_of (by decide +kernel), by decide +kernel⟩,
   ⟨asking 5 0x0204 (pay [(4, 1), (4, 0), (4, 256), (256, 77)]) ({ at_ .staged with boot := { (at_ .staged).boot with open_ := [(1, 512)] } }), 5,
     front (asking 5 0x0204 (pay [(4, 1), (4, 0), (4, 256), (256,
     77)]) ({ at_ .staged with boot := { (at_ .staged).boot with open_ := [(1, 512)] } })), asks_of (by decide +kernel), by decide +kernel,
     by decide +kernel, by decide +kernel⟩,
   ⟨asking 5 0x0205 (pay [(4, 1), (4, 9)]) ({ at_ .staged with boot := { (at_ .staged).boot with open_ := [(1, 512)] } }), 5,
     front (asking 5 0x0205 (pay [(4, 1), (4, 9)]) ({ at_ .staged with boot := { (at_ .staged).boot with open_ := [(1, 512)] } })),
     asks_of (by decide +kernel), by decide +kernel⟩,
   ⟨asking 5 0x0206 ([1, 0]) (at_ .hold), 5, front (asking 5 0x0206 ([1, 0]) (at_ .hold)), asks_of (by decide +kernel)⟩,
   ⟨asking 13 0x0207 (pay [(32, 5)]) (State.reset), 13, front (asking 13 0x0207 (pay [(32, 5)]) (State.reset)), asks_of (by decide +kernel)⟩,
   ⟨asking 13 0x0208 ([]) (State.reset), 13, front (asking 13 0x0208 ([]) (State.reset)), asks_of (by decide +kernel)⟩,
   ⟨asking 13 0x0209 (pay [(1, 6), (1, 0), (2, 0), (48, 1)]) (State.reset), 13, front (asking 13 0x0209 (pay [(1, 6), (1, 0), (2, 0), (48,
     1)]) (State.reset)), asks_of (by decide +kernel)⟩,
   ⟨boxSet 5 ⟨[], [], [⟨7, 0x0205, 2, 3, [], true⟩]⟩ (running ⟨5, 7, 0x0205, [1, 9], []⟩ (at_ .staged)), 5, 7, ⟨5, 7, 0x0205, [1, 9], []⟩, 1, 9,
     by decide +kernel, by decide +kernel, by decide +kernel, by decide +kernel, by decide +kernel, by decide +kernel, by decide +kernel,
     by decide +kernel, by decide +kernel, by decide +kernel, by unfold NotSafe; decide +kernel⟩⟩

set_option maxRecDepth 20000 in
theorem witness_FlashCommands :
    (∃ s : State, ∃ mb : Fin 14, ∃ r : Req, Asks sheetFlashStatus mb r s) ∧
    (∃ s : State, ∃ mb : Fin 14, ∃ r : Req, Asks (sheetFlashRead flGood) mb r s ∧ s.flash.page = [] ∧ s.flash.ops = [] ∧ guardPending s = false) ∧
    (∃ s : State, ∃ mb : Fin 14, ∃ r : Req, Asks (sheetFlashProgram none) mb r s ∧ flOwnBusy s = false ∧
      flXipBlocks (flBank (arg r 0 4)) s = false ∧ s.boot.removal = false ∧ arg r 4 4 = 256 ∧ flPage s (arg r 0 4) = 0) ∧
    (∃ s : State, ∃ mb : Fin 14, ∃ r : Req, Asks sheetFlashErase mb r s ∧ flOwnBusy s = false ∧ flXipBlocks (flBank (arg r 0 4)) s = false ∧
      s.boot.removal = false ∧ arg r 4 1 = 1 ∧ flBusy (flBank (arg r 0 4)) s = false) ∧
    (∃ s : State, ∃ mb : Fin 14, ∃ r : Req, Asks sheetFlashSectorInfo mb r s ∧ flOwnBusy s = false) ∧
    (∃ s : State, ∃ mb : Fin 14, ∃ r : Req, Asks sheetFlashGuardSet mb r s) ∧
    (∃ s : State, ∃ mb : Fin 14, ∃ r : Req, Asks sheetFlashGuardSet mb r s ∧ guardLevel s < arg r 0 1) ∧
    (∃ s : State, ∃ mb : Fin 14, ∃ r : Req, Asks sheetFlashGuardSet mb r s ∧ arg r 0 1 = guardLevel s) ∧
    (∃ s : State, ∃ mb : Fin 14, ∃ r : Req, Asks sheetFlashGuardSet mb r s ∧ arg r 0 1 < guardLevel s ∧ guardLevel s = 1) :=
  ⟨⟨asking 5 0x0801 ([]) (State.reset), 5, front (asking 5 0x0801 ([]) (State.reset)), asks_of (by decide +kernel)⟩,
   ⟨asking 5 0x0802 (pay [(4, 0xFF40000), (2, 16)]) (State.reset), 5, front (asking 5 0x0802 (pay [(4, 0xFF40000), (2, 16)]) (State.reset)),
     asks_of (by decide +kernel), by decide +kernel, by decide +kernel, by decide +kernel⟩,
   ⟨asking 9 0x0803 (pay [(4, 0xFF40000), (4, 256), (256, 7)]) (State.reset), 9, front (asking 9 0x0803 (pay [(4, 0xFF40000), (4, 256), (256,
     7)]) (State.reset)), asks_of (by decide +kernel), by decide +kernel, by decide +kernel, by decide +kernel, by decide +kernel,
     by decide +kernel⟩,
   ⟨asking 9 0x0804 (pay [(4, 0xFF40000), (1, 1)]) (State.reset), 9, front (asking 9 0x0804 (pay [(4, 0xFF40000), (1, 1)]) (State.reset)),
     asks_of (by decide +kernel), by decide +kernel, by decide +kernel, by decide +kernel, by decide +kernel, by decide +kernel⟩,
   ⟨asking 5 0x0805 (pay [(4, 0xFF40000)]) (State.reset), 5, front (asking 5 0x0805 (pay [(4, 0xFF40000)]) (State.reset)),
     asks_of (by decide +kernel), by decide +kernel⟩,
   ⟨asking 13 0x0806 (pay [(2, 0), (2, 0x4D45)]) (State.reset), 13, front (asking 13 0x0806 (pay [(2, 0), (2, 0x4D45)]) (State.reset)),
     asks_of (by decide +kernel)⟩,
   ⟨asking 13 0x0806 (pay [(2, 1), (2, 0)]) (State.reset), 13, front (asking 13 0x0806 (pay [(2, 1), (2, 0)]) (State.reset)),
     asks_of (by decide +kernel), by decide +kernel⟩,
   ⟨asking 13 0x0806 (pay [(2, 0), (2, 0x4D45)]) (State.reset), 13, front (asking 13 0x0806 (pay [(2, 0), (2, 0x4D45)]) (State.reset)),
     asks_of (by decide +kernel), by decide +kernel⟩,
   ⟨asking 13 0x0806 (pay [(2, 0), (2, 0x4D45)]) ({ State.reset with flash := { State.reset.flash with guard := [] } }), 13,
     front (asking 13 0x0806 (pay [(2, 0), (2, 0x4D45)]) ({ State.reset with flash := { State.reset.flash with guard := [] } })),
     asks_of (by decide +kernel), by decide +kernel, by decide +kernel⟩⟩

set_option maxRecDepth 20000 in
theorem witness_FlashRegisters :
    (∃ s : State, ∃ v : BitVec 32, isSet FL_STATUS_LOCKOUT s = false ∧ s.flash.unlock = 0 ∧ v.toNat = 0x1F26) ∧
    (∃ s : State, ∃ node : BitVec 7, ∃ v : BitVec 32, isSet FL_STATUS_LOCKOUT s = false ∧ s.flash.unlock = 1 ∧ v.toNat = 0xE5D9 ∧
      s.flash.unlockBy = node.toNat) ∧
    (∃ s : State, ∃ v : BitVec 32, isSet FL_STATUS_LOCKOUT s = false ∧ s.flash.unlock = 0 ∧ v.toNat ≠ 0x1F26 ∧ s.flash.wrongKeys ≠ 15) ∧
    (∃ s : State, ∃ v : BitVec 32, isSet FL_STATUS_LOCKOUT s = false ∧ s.flash.unlock = 0 ∧ v.toNat ≠ 0x1F26 ∧ s.flash.wrongKeys = 15) ∧
    (∃ s : State, isSet FL_STATUS_LOCKOUT s = true) ∧
    (∃ s : State, timerOn 15 s = true) ∧
    (∃ s : State, ∃ node : BitVec 7, ∃ u, s.flash.unlock = 2 ∧ s.flash.unlockBy = node.toNat ∧
      u = flErr 0 (stopTimer 15 { s with flash := { s.flash with unlock := 0 } }) ∧ flRefusal node.toNat 1 u = 0 ∧
      flBusy (flBank (getF FL_ADDR_ADDR s)) s = false) ∧
    (∃ s : State, ∃ node : BitVec 7, ∃ u, s.flash.unlock = 2 ∧ s.flash.unlockBy = node.toNat ∧
      u = flErr 0 (stopTimer 15 { s with flash := { s.flash with unlock := 0 } }) ∧ flRefusal node.toNat 2 u = 0 ∧
      flBusy (flBank (getF FL_ADDR_ADDR s)) s = false) ∧
    (∃ s : State, ∃ node : BitVec 7, ∃ u, s.flash.unlock = 2 ∧ s.flash.unlockBy = node.toNat ∧
      u = flErr 0 (stopTimer 15 { s with flash := { s.flash with unlock := 0 } }) ∧ flRefusal node.toNat 3 u = 0 ∧
      flBusy (flBank (getF FL_ADDR_ADDR s)) s = false) ∧
    (∃ s : State, ∃ node : BitVec 7, ∃ u, s.flash.unlock = 2 ∧ s.flash.unlockBy = node.toNat ∧
      u = flErr 0 (stopTimer 15 { s with flash := { s.flash with unlock := 0 } }) ∧ flRefusal node.toNat 4 u = 0 ∧
      flBusy (flBank (getF FL_ADDR_ADDR s)) s = false ∧ s.flash.page = [] ∧ guardPending s = false) ∧
    (∃ s : State, ∃ node : BitVec 7, ∃ u, s.flash.unlock = 2 ∧ s.flash.unlockBy = node.toNat ∧
      u = flErr 0 (stopTimer 15 { s with flash := { s.flash with unlock := 0 } }) ∧ flRefusal node.toNat 5 u = 0 ∧
      flBusy (flBank (getF FL_ADDR_ADDR s)) s = false) ∧
    (∃ s : State, ∃ node : BitVec 7, ∃ u, ∃ code : BitVec 8, s.flash.unlock = 2 ∧ s.flash.unlockBy = node.toNat ∧
      u = flErr 0 (stopTimer 15 { s with flash := { s.flash with unlock := 0 } }) ∧ ((code.toNat = 0 ∨ 5 < code.toNat)) ∧ flOwnBusy s = false) ∧
    (∃ s : State, s.flash.unlock = 0) :=
  ⟨⟨State.reset, 0x1F26, by decide +kernel, by decide +kernel, by decide +kernel⟩,
   ⟨(fun s : State => { s with flash := { s.flash with unlock := 1, unlockBy := 88, wrongKeys := 0 } }) (State.reset), 88, 0xE5D9,
     by decide +kernel, by decide +kernel, by decide +kernel, by decide +kernel⟩,
   ⟨State.reset, 5, by decide +kernel, by decide +kernel, by decide +kernel, by decide +kernel⟩,
   ⟨(fun s : State => { s with flash := { s.flash with unlock := 0, unlockBy := 0, wrongKeys := 15 } }) (State.reset), 5, by decide +kernel,
     by decide +kernel, by decide +kernel, by decide +kernel⟩,
   ⟨put [(FL_STATUS_LOCKOUT, 1)] State.reset, by decide +kernel⟩,
   ⟨timing 15 ((fun s : State => { s with flash := { s.flash with unlock := 2, unlockBy := 88, wrongKeys := 0 } }) (State.reset)),
     by decide +kernel⟩,
   ⟨(fun s : State => { s with flash := { s.flash with unlock := 2, unlockBy := 88, wrongKeys := 0 } }) (put [(FL_ADDR_ADDR,
     0xFF40000)] State.reset), 88, _, by decide +kernel, by decide +kernel, rfl, by decide +kernel, by decide +kernel⟩,
   ⟨(fun s : State => { s with flash := { s.flash with unlock := 2, unlockBy := 88, wrongKeys := 0 } }) (put [(FL_ADDR_ADDR,
     0xFF40000)] State.reset), 88, _, by decide +kernel, by decide +kernel, rfl, by decide +kernel, by decide +kernel⟩,
   ⟨(fun s : State => { s with flash := { s.flash with unlock := 2, unlockBy := 88, wrongKeys := 0 } }) (put [(FL_ADDR_ADDR,
     0xFF40000)] State.reset), 88, _, by decide +kernel, by decide +kernel, rfl, by decide +kernel, by decide +kernel⟩,
   ⟨(fun s : State => { s with flash := { s.flash with unlock := 2, unlockBy := 88, wrongKeys := 0 } }) (put [(FL_ADDR_ADDR,
     0xFF40000)] State.reset), 88, _, by decide +kernel, by decide +kernel, rfl, by decide +kernel, by decide +kernel, by decide +kernel,
     by decide +kernel⟩,
   ⟨(fun s : State => { s with flash := { s.flash with unlock := 2, unlockBy := 88, wrongKeys := 0 } }) (put [(FL_ADDR_ADDR,
     0xFF40000)] State.reset), 88, _, by decide +kernel, by decide +kernel, rfl, by decide +kernel, by decide +kernel⟩,
   ⟨(fun s : State => { s with flash := { s.flash with unlock := 2, unlockBy := 88, wrongKeys := 0 } }) (put [(FL_ADDR_ADDR,
     0xFF40000)] State.reset), 88, _, 9, by decide +kernel, by decide +kernel, rfl, by decide +kernel, by decide +kernel⟩,
   ⟨State.reset, by decide +kernel⟩⟩

set_option maxRecDepth 20000 in
theorem witness_FlashOperations :
    (∃ s : State, ∃ b : Fin 2, ∃ a, ∃ d, tabFind s.flash.ops b.val = some ⟨1, 1, a, d, [], 0, 0⟩ ∧ s.flash.massStep = 0 ∧ s.flash.waiting = [] ∧
      ((b.val = 0 ∨ s.sb.waiting = [] ∧ s.sb.commitDue = false))) ∧
    (∃ s : State, ∃ b : Fin 2, ∃ a, ∃ d, tabFind s.flash.ops b.val = some ⟨1, 1, a, d, [], 0, 0⟩ ∧ s.flash.massStep = 0 ∧ s.flash.waiting = []) ∧
    (∃ s : State, ∃ b : Fin 2, ∃ a, tabFind s.flash.ops b.val = some ⟨1, 2, a, [], [], 0, 0⟩ ∧ s.flash.massStep = 0 ∧ s.flash.waiting = [] ∧
      s.sb.waiting = [] ∧ s.sb.commitDue = false) ∧
    (∃ s : State, ∃ a, ∃ l, s.mail.running = [a] ∧ a.opcode = 0x0806 ∧ a.args = [l] ∧ (l = 1 ∨ l = 2) ∧ ((∀ g ∈ s.flash.guard,
      g.seq < 2 ^ 32 - 1))) ∧
    (∃ s : State, ∃ node : BitVec 7, ∃ a : BitVec 28, ∃ n : Fin 16,
      flWindowAllows node.toNat (a.toNat / 32 * 32) (min (32 * (n.val + 1)) (0x10000000 - a.toNat / 32 * 32)) s = true ∧ s.flash.ops = [] ∧
      s.flash.page = [] ∧ guardPending s = false) ∧
    (∃ s : State, ∃ node : BitVec 7, ∃ a : BitVec 28, ∃ n : Fin 16,
      flWindowAllows node.toNat (a.toNat / 32 * 32) (min (32 * (n.val + 1)) (0x10000000 - a.toNat / 32 * 32)) s = false) ∧
    (∃ s : State, ∃ c : Fin 4, ∃ a : BitVec 28, tabFind (coreOf c s).icache (a.toNat / 4 * 4) = none ∧
      flWindowAllows (89 + c.val) (a.toNat / 4 * 4) 4 s = true ∧ s.flash.ops = [] ∧ s.flash.page = [] ∧ guardPending s = false) :=
  ⟨⟨{ State.reset with flash := { State.reset.flash with ops := [(1, ⟨1, 1, 0xFF40000, [1, 2], [], 0, 0⟩)] } }, 1, 0xFF40000, [1, 2],
    by decide +kernel, by decide +kernel, by decide +kernel, by decide +kernel⟩,
   ⟨{ State.reset with flash := { State.reset.flash with ops := [(1, ⟨1, 1, 0xFF40000, [1, 2], [], 0, 0⟩)] } }, 1, 0xFF40000, [1, 2],
     by decide +kernel, by decide +kernel, by decide +kernel⟩,
   ⟨{ State.reset with flash := { State.reset.flash with ops := [(1, ⟨1, 2, 0xFF40000, [], [], 0, 0⟩)] } }, 1, 0xFF40000, by decide +kernel,
     by decide +kernel, by decide +kernel, by decide +kernel, by decide +kernel⟩,
   ⟨running ⟨13, 7, 0x0806, [1], []⟩ State.reset, ⟨13, 7, 0x0806, [1], []⟩, 1, by decide +kernel, by decide +kernel, by decide +kernel,
     by decide +kernel, by decide +kernel⟩,
   ⟨State.reset, 88, 0x1234, 3, by decide +kernel, by decide +kernel, by decide +kernel, by decide +kernel⟩,
   ⟨{ State.reset with flash := { State.reset.flash with guard := [] } }, 79, 0x1234, 3, by decide +kernel⟩,
   ⟨State.reset, 2, 0xFF40006, by decide +kernel, by decide +kernel, by decide +kernel, by decide +kernel, by decide +kernel⟩⟩

set_option maxRecDepth 20000 in
theorem witness_IcpCommands :
    (∃ s : State, icpTakes s = true) ∧
    (∃ s : State, icpTakes s = false) ∧
    (∃ s : State, ∃ g : BitVec 7, icpTakes s = true ∧ s.cfg.load = none ∧ g.toNat < 80 ∧ loadsPermitted s = true) ∧
    (∃ s : State, ∃ g : BitVec 7, icpTakes s = true ∧ s.cfg.load = none ∧ g.toNat < 80 ∧ loadsPermitted s = false) ∧
    (∃ s : State, ∃ g : BitVec 7, icpTakes s = true ∧ s.cfg.load = none ∧ g.toNat < 80) ∧
    (∃ s : State, ∃ g : BitVec 7, ∃ lk : Bool, ∃ turn : BitVec 48, ∃ slot : BitVec 16, icpTakes s = true ∧ g.toNat < 80 ∧
      isSet GC_CTRL_RUN s = false ∧ pbCheck (swapEntry g.toNat turn.toNat slot.toNat lk) s = 0) ∧
    (∃ s : State, ∃ g : BitVec 7, ∃ lk : Bool, ∃ turn : BitVec 48, ∃ slot : BitVec 16, icpTakes s = true ∧ g.toNat < 80 ∧
      isSet GC_CTRL_RUN s = false ∧ pbCheck (swapEntry g.toNat turn.toNat slot.toNat lk) s ≠ 0) ∧
    (∃ s : State, ∃ g : BitVec 7, ∃ f : Fin 4096, ∃ sh : Bool, icpTakes s = true ∧ g.toNat < 80 ∧ f.val < 2304 ∧
      readbackOk g.toNat (natOfBool sh) s = true ∧ ((sh = true → shadowState g.toNat s ≠ 1)) ∧ s.cfg.flips = []) ∧
    (∃ s : State, ∃ g : BitVec 7, ∃ f : Fin 4096, ∃ sh : Bool, icpTakes s = true ∧ g.toNat < 80 ∧ f.val < 2304 ∧
      readbackOk g.toNat (natOfBool sh) s = false) ∧
    (∃ s : State, ∃ g : BitVec 7, icpTakes s = true ∧ g.toNat < 80) ∧
    (∃ s : State, ∃ l, s.cfg.load = some l ∧ l.src = 4 ∧ l.active = false ∧ l.region < 80 ∧ isSet ICP_CTRL_EN s = true ∧
      getF ICP_CTRL_REGION s < 80 ∧ fpState (getF ICP_CTRL_REGION s) s ≠ 3 ∧ fpState (getF ICP_CTRL_REGION s) s ≠ 4) :=
  ⟨⟨put [(ICP_CTRL_EN, 1), (ICP_CTRL_REGION, 3), (FP_STATUS_STATE 3, 1)] (at_ .staged), by decide +kernel⟩,
   ⟨State.reset, by decide +kernel⟩,
   ⟨put [(ICP_CTRL_EN, 1), (ICP_CTRL_REGION, 3), (FP_STATUS_STATE 3, 1)] (at_ .staged), 79, by decide +kernel, by decide +kernel,
     by decide +kernel, by decide +kernel⟩,
   ⟨put [(ICP_CTRL_EN, 1), (ICP_CTRL_REGION, 3), (FP_STATUS_STATE 3, 1), (CFG_CTRL_READBACK_EN, 0)] State.reset, 79, by decide +kernel,
     by decide +kernel, by decide +kernel, by decide +kernel⟩,
   ⟨put [(ICP_CTRL_EN, 1), (ICP_CTRL_REGION, 3), (FP_STATUS_STATE 3, 1)] (at_ .staged), 79, by decide +kernel, by decide +kernel,
     by decide +kernel⟩,
   ⟨put [(ICP_CTRL_EN, 1), (ICP_CTRL_REGION, 3), (FP_STATUS_STATE 3, 1)] (at_ .staged), 79, true, 9, 2, by decide +kernel, by decide +kernel,
     by decide +kernel, by decide +kernel⟩,
   ⟨put [(ICP_CTRL_EN, 1), (ICP_CTRL_REGION, 3), (FP_STATUS_STATE 3, 1)] (at_ .staged), 79, true, 0, 0, by decide +kernel, by decide +kernel,
     by decide +kernel, by decide +kernel⟩,
   ⟨put [(ICP_CTRL_EN, 1), (ICP_CTRL_REGION, 3), (FP_STATUS_STATE 3, 1), (CFG_CTRL_READBACK_EN, 1)] (at_ .staged), 79, 2303, true,
     by decide +kernel, by decide +kernel, by decide +kernel, by decide +kernel, by decide +kernel, by decide +kernel⟩,
   ⟨put [(ICP_CTRL_EN, 1), (ICP_CTRL_REGION, 3), (FP_STATUS_STATE 3, 1), (CFG_CTRL_READBACK_EN, 0)] State.reset, 79, 2303, true, by decide +kernel,
     by decide +kernel, by decide +kernel, by decide +kernel⟩,
   ⟨put [(ICP_CTRL_EN, 1), (ICP_CTRL_REGION, 3), (FP_STATUS_STATE 3, 1)] (at_ .staged), 79, by decide +kernel, by decide +kernel⟩,
   ⟨(fun s : State => { s with cfg := { s.cfg with load := some ⟨79, false, 4, 0x3F, 0, 0, []⟩ } }) (put [(ICP_CTRL_EN, 1), (ICP_CTRL_REGION, 3),
     (FP_STATUS_STATE 3, 1)] (at_ .staged)), ⟨79, false, 4, 0x3F, 0, 0, []⟩, by decide +kernel, by decide +kernel, by decide +kernel,
     by decide +kernel, by decide +kernel, by decide +kernel, by decide +kernel, by decide +kernel⟩⟩

set_option maxRecDepth 20000 in
theorem witness_LoadsAndSwaps :
    (∃ s : State, ∃ l, s.cfg.load = some l ∧ l.src = 4 ∧ l.active = false ∧ l.region < 80 ∧ loadFed l = true) ∧
    (∃ s : State, ∃ l, s.cfg.load = some l ∧ l.src = 4 ∧ l.active = false ∧ l.region < 80 ∧ loadFed l = true ∧
      regionHdrOk l.region s.boot.build (l.data.take 1024) = false) ∧
    (∃ s : State, s.cfg.load = none) ∧
    (∃ s : State, ∃ i : Fin 4096, ∃ n, isSet GC_CTRL_RUN s = true ∧ slotsUntil (pbOf i.val s) s = some n ∧ (pbOf i.val s).en = true ∧
      (pbOf i.val s).action = 5 ∧ n ≤ getF CFG_CTRL_DRAIN_LEAD s ∧
      tabFind s.fab.drains (pbOf i.val s).arg ≠ some ((pbOf i.val s).turn * 65536 + (pbOf i.val s).slot) ∧ (pbOf i.val s).arg < 80 ∧
      fpState (pbOf i.val s).arg s = 1 ∧ shadowState (pbOf i.val s).arg s = 2) ∧
    (∃ s : State, isSet GC_CTRL_RUN s = false) ∧
    (∃ s : State, ∃ g : Fin 80, s.fab.window = [(g.val, 0)] ∧ fpCause g s = 2 ∧ tabFind s.fab.heldPops g.val = none) :=
  ⟨⟨(fun s : State => { s with cfg := { s.cfg with load := some ⟨79, false, 4, 0x3F, 0, 0, List.replicate 1024 0⟩ } }) (State.reset), ⟨79, false,
    4, 0x3F, 0, 0, List.replicate 1024 0⟩, by decide +kernel, by decide +kernel, by decide +kernel, by decide +kernel, by decide +kernel⟩,
   ⟨(fun s : State => { s with cfg := { s.cfg with load := some ⟨79, false, 4, 0x3F, 0, 0, List.replicate 1024 0⟩ } }) (State.reset), ⟨79, false,
     4, 0x3F, 0, 0, List.replicate 1024 0⟩, by decide +kernel, by decide +kernel, by decide +kernel, by decide +kernel, by decide +kernel,
     by decide +kernel⟩,
   ⟨State.reset, by decide +kernel⟩,
   ⟨pbPut 4095 (swapEntry 79 0 5 false) (put [(GC_CTRL_RUN, 1), (FP_STATUS_STATE 79, 1), (RGN_STATUS_SHADOW_STATE 79, 2)] (at_ .live)), 4095, 5,
     by decide +kernel, by decide +kernel, by decide +kernel, by decide +kernel, by decide +kernel, by decide +kernel, by decide +kernel,
     by decide +kernel, by decide +kernel⟩,
   ⟨State.reset, by decide +kernel⟩,
   ⟨(fun s : State => { s with fab := { s.fab with window := [(79, 0)] } }) (put [(FP_STATUS_CAUSE 79, 2), (FP_STATUS_STATE 79, 2)] (at_ .live)),
     79, by decide +kernel, by decide +kernel, by decide +kernel⟩⟩

set_option maxRecDepth 20000 in
theorem witness_ScrubberRows :
    (∃ s : State, NotSafe 0x13 s) ∧
    (∃ s : State, NotSafe 0x13 s ∧ isSet SCRUB_CTRL_ACTIVE_EN s = true ∧ s.cfg.flips = [] ∧ s.cfg.activePos + 1 < 184320 ∧
      tabFind s.fab.window (s.cfg.activePos / 2304) = none) ∧
    (∃ s : State, ∃ m : BitVec 4640, NotSafe 0x13 s ∧ isSet SCRUB_CTRL_ACTIVE_EN s = true ∧ s.cfg.flips = [] ∧ s.cfg.activePos + 1 < 184320 ∧
      tabFind s.fab.window (s.cfg.activePos / 2304) = none ∧ frameFind m.toNat (freeNat s) = .corrected) ∧
    (∃ s : State, ∃ m : BitVec 4640, ∃ k, ∃ g, NotSafe 0x13 s ∧ getF (RGN_CFG_FENCE_POLICY g) s ≠ 2 ∧ isSet SCRUB_CTRL_ACTIVE_EN s = true ∧
      s.cfg.flips = [] ∧ s.cfg.repairs = [] ∧ s.cfg.activePos + 1 < 184320 ∧ g = s.cfg.activePos / 2304 ∧ tabFind s.fab.window g = none ∧
      frameFind m.toNat (freeNat s) = .uncorrectable k ∧ fpCause g s = 0) ∧
    (∃ s : State, ∃ x, NotSafe 0x13 s ∧ NotSafe 9 s ∧ s.cfg.repairs = [x] ∧ x.started = false ∧ isSet SCRUB_CTRL_REPAIR_EN s = false ∧
      x.region < 80 ∧ x.plane = planeIn x.region 0 s) ∧
    (∃ s : State, ∃ g : Fin 80, s.cfg.autoRelease = [128 + g.val] ∧ fpCause g s = 3 ∧ repairDone g s = true) ∧
    (∃ s : State, NotSafe 0x13 s ∧ NotSafe 7 s) ∧
    (∃ s : State, NotSafe 0x13 s ∧ NotSafe 7 s ∧ timerOn tmScrub s = true) ∧
    (∃ s : State, NotSafe 0x13 s ∧ NotSafe 7 s ∧ timerOn tmScrub s = false) :=
  ⟨⟨State.reset, by unfold NotSafe; decide +kernel⟩,
   ⟨(fun s : State => { s with cfg := { s.cfg with activePos := 2304 * 79 } }) (put [(SCRUB_CTRL_ACTIVE_EN, 1)] State.reset),
     by unfold NotSafe; decide +kernel, by decide +kernel, by decide +kernel, by decide +kernel, by decide +kernel⟩,
   ⟨(fun s : State => { s with cfg := { s.cfg with activePos := 2304 * 79 } }) (put [(SCRUB_CTRL_ACTIVE_EN, 1)] State.reset), 1,
     by unfold NotSafe; decide +kernel, by decide +kernel, by decide +kernel, by decide +kernel, by decide +kernel, by decide +kernel⟩,
   ⟨(fun s : State => { s with cfg := { s.cfg with activePos := 2304 * 79 + 5 } }) (put [(SCRUB_CTRL_ACTIVE_EN, 1)] State.reset), 1 + 2 ^ 64, 1, _,
     by unfold NotSafe; decide +kernel, by decide +kernel, by decide +kernel, by decide +kernel, by decide +kernel, by decide +kernel, rfl,
     by decide +kernel, by decide +kernel, by decide +kernel⟩,
   ⟨put [(SCRUB_CTRL_REPAIR_EN, 0), (RGN_STATUS_REPAIR_PENDING 79,
     1)] ((fun s : State => { s with cfg := { s.cfg with repairs := [⟨0, 79, 5, 0, false, false⟩] } }) (State.reset)), ⟨0, 79, 5, 0, false, false⟩,
     by unfold NotSafe; decide +kernel, by unfold NotSafe; decide +kernel, by decide +kernel, by decide +kernel, by decide +kernel,
     by decide +kernel, by decide +kernel⟩,
   ⟨(fun s : State => { s with cfg := { s.cfg with autoRelease := [207] } }) (put [(FP_STATUS_CAUSE 79, 3), (FP_STATUS_STATE 79, 3)] State.reset),
     79, by decide +kernel, by decide +kernel, by decide +kernel⟩,
   ⟨State.reset, by unfold NotSafe; decide +kernel, by unfold NotSafe; decide +kernel⟩,
   ⟨timing tmScrub State.reset, by unfold NotSafe; decide +kernel, by unfold NotSafe; decide +kernel, by decide +kernel⟩,
   ⟨State.reset, by unfold NotSafe; decide +kernel, by unfold NotSafe; decide +kernel, by decide +kernel⟩⟩

set_option maxRecDepth 20000 in
theorem witness_RegionCommands :
    (∃ s : State, ∃ mb : Fin 14, ∃ r : Req, Asks sheetRegionStatus mb r s) ∧
    (∃ s : State, ∃ mb : Fin 14, ∃ r : Req, Asks sheetRegionLoad mb r s ∧ s.cfg.load = none ∧ arg r 1 1 = 0 ∧ arg r 2 1 = 1) ∧
    (∃ s : State, ∃ mb : Fin 14, ∃ r : Req, Asks sheetRegionClear mb r s ∧ s.cfg.load = none) ∧
    (∃ s : State, ∃ mb : Fin 14, ∃ r : Req, Asks sheetRegionSwapAt mb r s ∧ isSet GC_CTRL_RUN s = false) ∧
    (∃ s : State, ∃ mb : Fin 14, ∃ r : Req, Asks (sheetRegionStoreWrite none) mb r s ∧ s.cfg.load = none ∧ s.boot.removal = false ∧ arg r 0 1 = 0) ∧
    (∃ s : State, ∃ mb : Fin 14, ∃ r : Req, Asks sheetRegionReadback mb r s ∧ readbackOk (argRegion r) (arg r 1 1) s = true ∧ s.cfg.flips = []) ∧
    (∃ s : State, ∃ mb : Fin 14, ∃ r : Req, Asks sheetRegionReadback mb r s ∧ readbackOk (argRegion r) (arg r 1 1) s = false) ∧
    (∃ s : State, ∃ mb : Fin 14, ∃ r : Req, Asks sheetRegionVerify mb r s ∧ s.cfg.flips = []) ∧
    (∃ s : State, ∃ mb : Fin 14, ∃ r : Req, Asks sheetRegionFencePolicy mb r s ∧ argRegion r < 80) ∧
    (∃ s : State, ∃ mb : Fin 14, ∃ r : Req, Asks sheetScrubStatus mb r s) ∧
    (∃ s : State, ∃ mb : Fin 14, ∃ r : Req, Asks sheetScrubConfigure mb r s ∧ NotSafe 0x13 s) :=
  ⟨⟨asking 5 0x0701 ([79]) (State.reset), 5, front (asking 5 0x0701 ([79]) (State.reset)), asks_of (by decide +kernel)⟩,
   ⟨asking 5 0x0702 (pay [(1, 79), (1, 0), (2, 1), (8, 4096), (4, 2048)]) (at_ .staged), 5, front (asking 5 0x0702 (pay [(1, 79), (1, 0), (2, 1),
     (8, 4096), (4, 2048)]) (at_ .staged)), asks_of (by decide +kernel), by decide +kernel, by decide +kernel, by decide +kernel⟩,
   ⟨asking 5 0x0703 ([79]) (State.reset), 5, front (asking 5 0x0703 ([79]) (State.reset)), asks_of (by decide +kernel), by decide +kernel⟩,
   ⟨asking 5 0x0704 (pay [(1, 79), (1, 1), (2, 4095), (6, 9), (2, 2)]) (put [(RGN_STATUS_SHADOW_STATE 79, 2), (CFG_CTRL_READBACK_EN,
     1)] State.reset), 5, front (asking 5 0x0704 (pay [(1, 79), (1, 1), (2, 4095), (6, 9), (2, 2)]) (put [(RGN_STATUS_SHADOW_STATE 79, 2),
     (CFG_CTRL_READBACK_EN, 1)] State.reset)), asks_of (by decide +kernel), by decide +kernel⟩,
   ⟨asking 5 0x0705 (pay [(1, 0), (1, 36), (2, 0), (4, 0), (4, 65536)]) (State.reset), 5, front (asking 5 0x0705 (pay [(1, 0), (1, 36), (2, 0), (4,
     0), (4, 65536)]) (State.reset)), asks_of (by decide +kernel), by decide +kernel, by decide +kernel, by decide +kernel⟩,
   ⟨asking 5 0x0706 (pay [(1, 79), (1, 1), (2, 2303)]) (put [(RGN_STATUS_SHADOW_STATE 79, 2), (CFG_CTRL_READBACK_EN, 1)] State.reset), 5,
     front (asking 5 0x0706 (pay [(1, 79), (1, 1), (2, 2303)]) (put [(RGN_STATUS_SHADOW_STATE 79, 2), (CFG_CTRL_READBACK_EN, 1)] State.reset)),
     asks_of (by decide +kernel), by decide +kernel, by decide +kernel⟩,
   ⟨asking 5 0x0706 (pay [(1, 79), (1, 1), (2, 2303)]) (put [(CFG_CTRL_READBACK_EN, 0)] State.reset), 5, front (asking 5 0x0706 (pay [(1, 79), (1,
     1), (2, 2303)]) (put [(CFG_CTRL_READBACK_EN, 0)] State.reset)), asks_of (by decide +kernel), by decide +kernel⟩,
   ⟨asking 5 0x0707 ([79, 1]) (State.reset), 5, front (asking 5 0x0707 ([79, 1]) (State.reset)), asks_of (by decide +kernel), by decide +kernel⟩,
   ⟨asking 5 0x0708 ([79, 2]) (State.reset), 5, front (asking 5 0x0708 ([79, 2]) (State.reset)), asks_of (by decide +kernel), by decide +kernel⟩,
   ⟨asking 5 0x0710 ([]) (State.reset), 5, front (asking 5 0x0710 ([]) (State.reset)), asks_of (by decide +kernel)⟩,
   ⟨asking 5 0x0711 ([3, 1]) (State.reset), 5, front (asking 5 0x0711 ([3, 1]) (State.reset)), asks_of (by decide +kernel),
     by unfold NotSafe; decide +kernel⟩⟩

set_option maxRecDepth 20000 in
theorem witness_FabricCommands :
    (∃ s : State, ∃ mb : Fin 14, ∃ r : Req, Asks sheetFabricPortStatus mb r s) ∧
    (∃ s : State, ∃ mb : Fin 14, ∃ r : Req, Asks sheetFabricPortIsolate mb r s ∧ arg r 1 1 = 0 ∧ fpCause (arg r 0 1) s = 0) ∧
    (∃ s : State, ∃ mb : Fin 14, ∃ r : Req, Asks sheetFabricMemErrors mb r s) ∧
    (∃ s : State, ∃ mb : Fin 14, ∃ r : Req, Asks sheetFabricRegionPower mb r s ∧ arg r 1 1 = 1) ∧
    (∃ s : State, ∃ mb : Fin 14, ∃ r : Req, Asks sheetFabricRegionPower mb r s ∧ arg r 1 1 = 0 ∧ s.cfg.load = none) ∧
    (∃ s : State, ∃ g : Fin 80, fpCause g s = 0 ∨ fpCause g s = 2) ∧
    (∃ s : State, ∃ g : Fin 80, fpCause g s = 4 ∨ fpCause g s = 3 ∨ fpCause g s = 1) ∧
    (∃ s : State, ∃ g : Fin 80, fpCause g s = 1) ∧
    (∃ s : State, ∃ g : Fin 80, fpCause g s = 3 ∧ repairDone g s = false) ∧
    (∃ s : State, s.fab.lineHeld ≠ []) ∧
    (∃ s : State, s.fab.lineHeld = []) ∧
    (∃ s : State, ∃ g : Fin 80, s.fab.waking.contains g.val = true) :=
  ⟨⟨asking 5 0x0740 ([79]) (State.reset), 5, front (asking 5 0x0740 ([79]) (State.reset)), asks_of (by decide +kernel)⟩,
   ⟨asking 5 0x0741 ([79, 0]) (State.reset), 5, front (asking 5 0x0741 ([79, 0]) (State.reset)), asks_of (by decide +kernel), by decide +kernel,
     by decide +kernel⟩,
   ⟨asking 5 0x0742 ([79, 1]) (State.reset), 5, front (asking 5 0x0742 ([79, 1]) (State.reset)), asks_of (by decide +kernel)⟩,
   ⟨asking 5 0x0743 ([79, 1]) ({ State.reset with fab := { State.reset.fab with off := [79] } }), 5, front (asking 5 0x0743 ([79,
     1]) ({ State.reset with fab := { State.reset.fab with off := [79] } })), asks_of (by decide +kernel), by decide +kernel⟩,
   ⟨asking 5 0x0743 ([79, 0]) (put [(FP_STATUS_STATE 79, 3), (FP_STATUS_CAUSE 79, 1)] State.reset), 5, front (asking 5 0x0743 ([79,
     0]) (put [(FP_STATUS_STATE 79, 3), (FP_STATUS_CAUSE 79, 1)] State.reset)), asks_of (by decide +kernel), by decide +kernel, by decide +kernel⟩,
   ⟨put [(FP_STATUS_CAUSE 79, 2)] State.reset, 79, by decide +kernel⟩,
   ⟨put [(FP_STATUS_CAUSE 79, 3)] State.reset, 79, by decide +kernel⟩,
   ⟨put [(FP_STATUS_CAUSE 79, 1), (FP_STATUS_STATE 79, 3)] State.reset, 79, by decide +kernel⟩,
   ⟨put [(FP_STATUS_CAUSE 79, 3), (RGN_STATUS_REPAIR_PENDING 79, 1)] State.reset, 79, by decide +kernel, by decide +kernel⟩,
   ⟨{ State.reset with fab := { State.reset.fab with lineHeld := [(3, 1)] } }, by decide +kernel⟩,
   ⟨State.reset, by decide +kernel⟩,
   ⟨{ State.reset with fab := { State.reset.fab with off := [79], waking := [79] } }, 79, by decide +kernel⟩⟩

set_option maxRecDepth 20000 in
theorem witness_FabricTraffic :
    (∃ s : State, ∃ g : Fin 80, ∃ q : FabReq, fpState g s = 1 ∧ tabFind s.fab.tags (64 * g.val + q.tag.val) = none ∧ q.write = false ∧
      q.addr.toNat % 32 = 0 ∧ q.addr.toNat % 4096 + 32 * (q.len.val + 1) ≤ 4096 ∧ q.addr.toNat < 0x2000000000) ∧
    (∃ s : State, ∃ g : Fin 80, ∃ q : FabReq, fpState g s = 1 ∧ tabFind s.fab.tags (64 * g.val + q.tag.val) = none ∧ q.write = false ∧
      q.addr.toNat % 32 ≠ 0 ∧ q.addr.toNat < 0x3F00000000) ∧
    (∃ s : State, ∃ g : Fin 80, ∃ k, fpTargets g s = [⟨k, none, false⟩] ∧ fpState g s = 1) ∧
    (∃ s : State, ∃ g : Fin 80, ∃ k, ∃ u, fpTargets g s = [⟨k, some u, false⟩] ∧ k.op = opRd) ∧
    (∃ s : State, ∃ g : Fin 80, ∃ k, ∃ u, fpTargets g s = [⟨k, some u, true⟩]) ∧
    (∃ s : State, ∃ g : Fin 80, ∃ k, ∃ u, fpTargets g s = [⟨k, some u, false⟩] ∧ k.op = opWr) :=
  ⟨⟨put [(FP_STATUS_STATE 79, 1)] State.reset, 79, ⟨false, 0x1FFFFFF000, 15, 63, [], []⟩, by decide +kernel, by decide +kernel, by decide +kernel,
    by decide +kernel, by decide +kernel, by decide +kernel⟩,
   ⟨put [(FP_STATUS_STATE 79, 1)] State.reset, 79, ⟨false, 0x1001, 15, 63, [], []⟩, by decide +kernel, by decide +kernel, by decide +kernel,
     by decide +kernel, by decide +kernel⟩,
   ⟨fpSetTargets 79 [⟨(⟨79, 87, opRd, 0, false, 5, 0, 0, 0, 0, 0, 0, 0, 0, [], [], 0⟩ : Pkt), none, false⟩] (put [(FP_STATUS_STATE 79,
     1)] State.reset), 79, (⟨79, 87, opRd, 0, false, 5, 0, 0, 0, 0, 0, 0, 0, 0, [], [], 0⟩ : Pkt), by decide +kernel, by decide +kernel⟩,
   ⟨fpSetTargets 79 [⟨(⟨79, 87, opRd, 0, false, 5, 0, 0, 0, 0, 0, 0, 0, 0, [], [], 0⟩ : Pkt), some 0, false⟩] (put [(FP_STATUS_STATE 79,
     1)] State.reset), 79, (⟨79, 87, opRd, 0, false, 5, 0, 0, 0, 0, 0, 0, 0, 0, [], [], 0⟩ : Pkt), 0, by decide +kernel, by decide +kernel⟩,
   ⟨fpSetTargets 79 [⟨(⟨79, 87, opRd, 0, false, 5, 0, 0, 0, 0, 0, 0, 0, 0, [], [], 0⟩ : Pkt), some 0, true⟩] (put [(FP_STATUS_STATE 79,
     1)] State.reset), 79, (⟨79, 87, opRd, 0, false, 5, 0, 0, 0, 0, 0, 0, 0, 0, [], [], 0⟩ : Pkt), 0, by decide +kernel⟩,
   ⟨fpSetTargets 79 [⟨(⟨79, 87, opWr, 0, false, 5, 0, 0, 0, 0, 0, 0, 0, 0, leBytes 32 9, [], 0⟩ : Pkt), some 0, false⟩] (put [(FP_STATUS_STATE 79,
     1), (FP_CTRL_TGT_TIMEOUT 79, 100)] State.reset), 79, (⟨79, 87, opWr, 0, false, 5, 0, 0, 0, 0, 0, 0, 0, 0, leBytes 32 9, [], 0⟩ : Pkt), 0,
     by decide +kernel, by decide +kernel⟩⟩

set_option maxRecDepth 20000 in
theorem witness_RegionMemories :
    (∃ s : State, ∃ g : Fin 80, ∃ p : TilePort, s.fab.off.contains g.val = false ∧ s.fab.hold = false ∧ p.write = true ∧ p.shape.val = 7 ∧
      p.mode.val = 1 ∧ p.addr.toNat < 512) ∧
    (∃ s : State, ∃ g : Fin 80, ∃ b : Fin 64, ∃ p : TilePort, ∃ d, s.fab.off.contains g.val = false ∧ p.write = false ∧ p.shape.val = 7 ∧
      p.addr.toNat < 512 ∧ tileRow g b p.addr.toNat s = .ecc d 0) ∧
    (∃ s : State, ∃ g : Fin 80, isSet (MEM_CTRL_TR_SCRUB_EN g) s = true ∧ s.fab.off.contains g.val = false) ∧
    (∃ s : State, ∃ g : Fin 80, ∃ be : BitVec 8, be ≠ 0 ∧ s.fab.hold = false ∧ s.fab.off.contains g.val = false) ∧
    (∃ s : State, ∃ g : Fin 80, ∃ b : Fin 16, ∃ w : BitVec 15, ∃ d, s.fab.off.contains g.val = false ∧ deepWord g b w.toNat s = ⟨d, 0⟩) ∧
    (∃ s : State, ∃ g : Fin 80, isSet (MEM_CTRL_DR_SCRUB_EN g) s = true ∧ s.fab.off.contains g.val = false ∧ NotSafe 0x13 s ∧
      ramPos (2 * g.val + 1) s < 32767 ∧ ((∀ b < 16, (deepWord g b (ramPos (2 * g.val + 1) s) s).flips = 0))) :=
  ⟨⟨State.reset, 79, ⟨7, true, 0, 511, 5, 1⟩, by decide +kernel, by decide +kernel, by decide +kernel, by decide +kernel, by decide +kernel,
    by decide +kernel⟩,
   ⟨{ State.reset with fab := { State.reset.fab with tile := [(tileKey 79 63 511, .ecc 9 0)] } }, 79, 63, ⟨7, false, 0, 511, 5, 1⟩, 9,
     by decide +kernel, by decide +kernel, by decide +kernel, by decide +kernel, by decide +kernel⟩,
   ⟨put [(MEM_CTRL_TR_SCRUB_EN 79, 1)] { State.reset with fab := { State.reset.fab with ramPos := [(158, 511)] } }, 79, by decide +kernel,
     by decide +kernel⟩,
   ⟨State.reset, 79, 0x81, by decide +kernel, by decide +kernel, by decide +kernel⟩,
   ⟨State.reset, 79, 15, 32767, (deepWord 79 15 32767 State.reset).data, by decide +kernel, by decide +kernel⟩,
   ⟨put [(MEM_CTRL_DR_SCRUB_EN 79, 1)] State.reset, 79, by decide +kernel, by decide +kernel, by unfold NotSafe; decide +kernel, by decide +kernel,
     by decide +kernel⟩⟩

set_option maxRecDepth 20000 in
theorem witness_DugoutRows :
    (∃ s : State, ∃ g : Fin 80, ∃ c : CellIn, fifServes g s = true ∧ getF (QCFG_EN c.queue) s = 0) ∧
    (∃ s : State, ∃ g : Fin 80, ∃ c : CellIn, fifServes g s = true ∧ getF (QCFG_EN c.queue) s = 1 ∧ getF (QFLAGS_DISCARD c.queue) s = 0 ∧
      dqFull c.queue s = false ∧ dqPlace c.queue s = some 0 ∧ ((∀ x ∈ dqCells c.queue s, x.place = 0))) ∧
    (∃ s : State, ∃ g : Fin 80, ∃ c : CellIn, fifServes g s = true ∧ getF (QCFG_EN c.queue) s = 1 ∧ getF (QFLAGS_DISCARD c.queue) s = 0 ∧
      dqFull c.queue s = true ∧ getF (QCFG_POLICY c.queue) s = 0) ∧
    (∃ s : State, ∃ g : Fin 80, fifServes g s = false) ∧
    (∃ s : State, ∃ g : Fin 80, ∃ q : Fin 4096, ∃ c, ∃ l, fifServes g s = true ∧ (tabGet [] s.fab.heldPops g).length < 8 ∧
      fabConsumes g q s = true ∧ dqCells q s = c :: l ∧ dqReleased q s ≠ 0 ∧ c.place < 2) ∧
    (∃ s : State, ∃ g : Fin 80, ∃ q : Fin 4096, fifServes g s = true ∧ (tabGet [] s.fab.heldPops g).length < 8 ∧ fabConsumes g q s = true ∧
      dqCells q s = []) ∧
    (∃ s : State, ∃ g : Fin 80, ∃ c, fifServes g s = true ∧ tabGet [] s.fab.heldPops g = [c] ∧ c.data ≠ []) ∧
    (∃ s : State, ∃ q : Fin 4096, getF (QCFG_EN q) s = 1 ∧ dqTimed q s = true) ∧
    (∃ s : State, ∃ q : Fin 4096, getF (QCFG_EN q) s = 0) ∧
    (∃ s : State, ∃ q : Fin 4096, chunkFirst (dqCells q s) = none) ∧
    (∃ s : State, ∃ q : Fin 4096, ∃ k, ∃ n, NotSafe 0x0A s ∧ chunkFirst (dqCells q s) = some (k, n) ∧
      cellsOnChip (dqCells q s) + n ≤ getF (QDEPTH_RESERVE q) s ∧ drUp (drChannel (spillData s + 256 * k)) s = true ∧
      drUp (drChannel (spillMeta s + 64 * k)) s = true) ∧
    (∃ s : State, NotSafe 0x0B s ∧ NotSafe 0x13 s) :=
  ⟨⟨put [(DQ_FIF_EN 79, 1), (FP_STATUS_STATE 79, 1)] State.reset, 79, ⟨4095, 5, 7, true, true⟩, by decide +kernel, by decide +kernel⟩,
   ⟨{ put [(DQ_FIF_EN 79, 1), (FP_STATUS_STATE 79, 1), (QCFG_EN 4095, 1), (QDEPTH_DEPTH_MAX 4095, 9), (QDEPTH_RESERVE 4095, 8)] State.reset with dq := { State.reset.dq with cells := [(4095, [⟨[1, 2], true, true, false, 0, 0, 0, 0⟩])] } }, 79, ⟨4095, 5, 7, true, true⟩, by decide +kernel, by decide +kernel, by decide +kernel, by decide +kernel, by decide +kernel, by decide +kernel⟩,
   ⟨{ put [(DQ_FIF_EN 79, 1), (FP_STATUS_STATE 79, 1), (QCFG_EN 4095, 1), (QDEPTH_DEPTH_MAX 4095, 1), (QDEPTH_RESERVE 4095, 8), (QCFG_PKT_MODE 4095, 1)] State.reset with dq := { State.reset.dq with cells := [(4095, [⟨[1, 2], true, true, false, 0, 0, 0, 0⟩])] } }, 79, ⟨4095, 5, 7, true, true⟩, by decide +kernel, by decide +kernel, by decide +kernel, by decide +kernel, by decide +kernel⟩,
   ⟨State.reset, 79, by decide +kernel⟩,
   ⟨{ put [(DQ_FIF_EN 79, 1), (FP_STATUS_STATE 79, 1), (QCFG_CONS_ID 4095, 79), (QCFG_EN 4095, 1)] State.reset with dq := { State.reset.dq with cells := [(4095, [⟨[1, 2], true, true, false, 0, 0, 0, 0⟩])] } }, 79, 4095, ⟨[1, 2], true, true, false, 0, 0, 0, 0⟩, [], by decide +kernel, by decide +kernel, by decide +kernel, by decide +kernel, by decide +kernel, by decide +kernel⟩,
   ⟨put [(DQ_FIF_EN 79, 1), (FP_STATUS_STATE 79, 1), (QCFG_CONS_ID 4095, 79)] State.reset, 79, 4095, by decide +kernel, by decide +kernel,
     by decide +kernel, by decide +kernel⟩,
   ⟨(fun s : State => { s with fab := { s.fab with heldPops := [(79, [⟨[1, 2], true, true, false, 0, 0, 0, 4095⟩])] } }) (put [(DQ_FIF_EN 79, 1),
     (FP_STATUS_STATE 79, 1)] State.reset), 79, ⟨[1, 2], true, true, false, 0, 0, 0, 4095⟩, by decide +kernel, by decide +kernel,
     by decide +kernel⟩,
   ⟨{ put [(QCFG_EN 4095, 1), (QCFG_CLASS 4095, 1)] State.reset with dq := { State.reset.dq with cells := [(4095, [⟨[1, 2], true, true, false, 0, 0, 0, 0⟩])] } }, 4095, by decide +kernel, by decide +kernel⟩,
   ⟨State.reset, 4095, by decide +kernel⟩,
   ⟨State.reset, 4095, by decide +kernel⟩,
   ⟨{ put [(QCFG_EN 4095, 1), (QCFG_SPILL_EN 4095, 1), (QDEPTH_RESERVE 4095, 8), (DRC_STATUS_STATE 0, 3)] State.reset with dq := { State.reset.dq with cells := [(4095, [⟨[1, 2], true, true, false, 0, 0, 0, 7⟩])], chunks := [5] } }, 4095, 5, 1, by unfold NotSafe; decide +kernel, by decide +kernel, by decide +kernel, by decide +kernel, by decide +kernel⟩,
   ⟨{ put [(QCFG_EN 4095, 1)] State.reset with dq := { State.reset.dq with cells := [(4095, [⟨[1, 2], true, true, false, 0, 0, 0, 0⟩])] } },
     by unfold NotSafe; decide +kernel, by unfold NotSafe; decide +kernel⟩⟩

set_option maxRecDepth 20000 in
theorem witness_QueueCommands :
    (∃ s : State, ∃ mb : Fin 14, ∃ r : Req, Asks sheetQueueConfigure mb r s) ∧
    (∃ s : State, ∃ mb : Fin 14, ∃ r : Req, Asks sheetQueueStatus mb r s) ∧
    (∃ s : State, ∃ mb : Fin 14, ∃ r : Req, Asks sheetQueueFlush mb r s) ∧
    (∃ s : State, ∃ mb : Fin 14, ∃ r : Req, Asks sheetQueueRelease mb r s) ∧
    (∃ s : State, ∃ mb : Fin 14, ∃ r : Req, Asks sheetDugoutStatus mb r s) ∧
    (∃ s : State, ∃ mb : Fin 14, ∃ r : Req, Asks sheetDugoutSpillSet mb r s) :=
  ⟨⟨asking 5 0x0501 (pay [(2, 4095), (2, 0), (4, 0x10000041), (4, 0x80010), (4, 0x20004), (8, 0)]) (State.reset), 5,
    front (asking 5 0x0501 (pay [(2, 4095), (2, 0), (4, 0x10000041), (4, 0x80010), (4, 0x20004), (8, 0)]) (State.reset)),
    asks_of (by decide +kernel)⟩,
   ⟨asking 5 0x0502 (pay [(2, 4095), (2, 3)]) (State.reset), 5, front (asking 5 0x0502 (pay [(2, 4095), (2, 3)]) (State.reset)),
     asks_of (by decide +kernel)⟩,
   ⟨asking 5 0x0503 (pay [(2, 4094), (2, 2)]) (State.reset), 5, front (asking 5 0x0503 (pay [(2, 4094), (2, 2)]) (State.reset)),
     asks_of (by decide +kernel)⟩,
   ⟨asking 5 0x0504 (pay [(2,
     4095)]) ({ put [(QCFG_EN 4095, 1), (QCFG_CLASS 4095, 1)] State.reset with dq := { State.reset.dq with cells := [(4095, [⟨[1, 2], true, true, false, 0, 0, 0, 0⟩])] } }), 5, front (asking 5 0x0504 (pay [(2, 4095)]) ({ put [(QCFG_EN 4095, 1), (QCFG_CLASS 4095, 1)] State.reset with dq := { State.reset.dq with cells := [(4095, [⟨[1, 2], true, true, false, 0, 0, 0, 0⟩])] } })), asks_of (by decide +kernel)⟩,
   ⟨asking 5 0x0505 ([]) (State.reset), 5, front (asking 5 0x0505 ([]) (State.reset)), asks_of (by decide +kernel)⟩,
   ⟨asking 5 0x0506 (pay [(8, 4096), (8, 0x2000), (4, 0)]) (State.reset), 5, front (asking 5 0x0506 (pay [(8, 4096), (8, 0x2000), (4,
     0)]) (State.reset)), asks_of (by decide +kernel)⟩⟩

set_option maxRecDepth 20000 in
theorem witness_LaneRows :
    (∃ s : State, ∃ L : Fin 128, laneRaw L s = true ∧ laneLocked L s = false) ∧
    (∃ s : State, ∃ L : Fin 128, laneRaw L s = true ∧ laneLocked L s = true) ∧
    (∃ s : State, ∃ L : Fin 128, laneRaw L s = false) ∧
    (∃ s : State, ∃ L : Fin 128, portsOfLane L s = []) ∧
    (∃ s : State, ∃ L : Fin 128, laneLocked L s = true) ∧
    (∃ s : State, ∃ L : Fin 128, laneLocked L s = false) ∧
    (∃ s : State, ∃ L : Fin 128, s.rally.eye.contains L.val = true) ∧
    (∃ s : State, ∃ L : Fin 128, s.rally.eye.contains L.val = false) ∧
    (∃ s : State, ∃ L : Fin 128, portsOfLane L s = [] ∧ getF (LANE_STATUS_LOCK_STATE L) s = 1 ∧ quadLocked (L.val / 4) s = true ∧
      laneRaw L s = false) ∧
    (∃ s : State, ∃ L : Fin 128, portsOfLane L s = [] ∧ getF (LANE_STATUS_LOCK_STATE L) s = 2 ∧ laneRaw L s = false ∧
      s.rally.latSet.contains L.val = false) ∧
    (∃ s : State, ∃ L : Fin 128, portsOfLane L s = [] ∧ getF (LANE_STATUS_LOCK_STATE L) s = 2 ∧ laneRaw L s = false ∧
      s.rally.latSet.contains L.val = true ∧ getF (LANE_LATREF_LAT_REF L) s ≠ 462) ∧
    (∃ s : State, ∃ L : Fin 128, portsOfLane L s = [] ∧ laneLocked L s = true ∧ laneRaw L s = false) ∧
    (∃ s : State, ∃ L : Fin 128, portsOfLane L s = [] ∧ getF (LANE_STATUS_LOCK_STATE L) s ≠ 0) ∧
    (∃ s : State, ∃ L : Fin 128, getF (LANE_STATUS_LOCK_STATE L) s = 0) :=
  ⟨⟨put [(LANE_CTRL_MODE 127, 2), (LANE_SLIP_SLIP_POS 127, 15)] (State.reset), 127, by decide +kernel, by decide +kernel⟩,
   ⟨put [(LANE_CTRL_MODE 127, 2), (LANE_SLIP_SLIP_POS 127, 15), (LANE_STATUS_LOCK_STATE 127, 3)] (State.reset), 127, by decide +kernel,
     by decide +kernel⟩,
   ⟨State.reset, 127, by decide +kernel⟩,
   ⟨(fun s : State => { s with rally := { s.rally with latSet := [127, 3] } }) (State.reset), 127, by decide +kernel⟩,
   ⟨put [(LANE_STATUS_LOCK_STATE 127, 3)] (State.reset), 127, by decide +kernel⟩,
   ⟨State.reset, 127, by decide +kernel⟩,
   ⟨(fun s : State => { s with rally := { s.rally with eye := [127] } }) (State.reset), 127, by decide +kernel⟩,
   ⟨State.reset, 127, by decide +kernel⟩,
   ⟨put [(LANE_STATUS_LOCK_STATE 127, 1), (QUAD_STATUS_STATE 31, 2)] (State.reset), 127, by decide +kernel, by decide +kernel, by decide +kernel,
     by decide +kernel⟩,
   ⟨put [(LANE_STATUS_LOCK_STATE 127, 2)] (State.reset), 127, by decide +kernel, by decide +kernel, by decide +kernel, by decide +kernel⟩,
   ⟨(fun s : State => { s with rally := { s.rally with latSet := [127] } }) (put [(LANE_STATUS_LOCK_STATE 127, 2), (LANE_LATREF_LAT_REF 127,
     400)] (State.reset)), 127, by decide +kernel, by decide +kernel, by decide +kernel, by decide +kernel, by decide +kernel⟩,
   ⟨put [(LANE_STATUS_LOCK_STATE 127, 3), (LANE_SLIP_SLIP_POS 127, 3)] (State.reset), 127, by decide +kernel, by decide +kernel, by decide +kernel⟩,
   ⟨put [(LANE_STATUS_LOCK_STATE 127, 3)] (State.reset), 127, by decide +kernel, by decide +kernel⟩,
   ⟨State.reset, 127, by decide +kernel⟩⟩

set_option maxRecDepth 20000 in
theorem witness_LaneCommands :
    (∃ s : State, ∃ mb : Fin 14, ∃ r : Req, Asks sheetLaneStatus mb r s) ∧
    (∃ s : State, ∃ mb : Fin 14, ∃ r : Req, Asks sheetLaneConfigure mb r s) ∧
    (∃ s : State, ∃ mb : Fin 14, ∃ r : Req, ∃ k : Fin 64, Asks (sheetLaneSlipSearch (some k)) mb r s ∧ k.val < laneW (arg r 0 1) s ∧
      getF (LANE_SLIP_SLIP_POS (arg r 0 1)) s < laneW (arg r 0 1) s) ∧
    (∃ s : State, ∃ mb : Fin 14, ∃ r : Req, Asks (sheetLaneSlipSearch none) mb r s ∧
      getF (LANE_SLIP_SLIP_POS (arg r 0 1)) s < laneW (arg r 0 1) s) ∧
    (∃ s : State, ∃ mb : Fin 14, ∃ r : Req, ∃ es, Asks (sheetLaneEyeScan es) mb r s) ∧
    (∃ s : State, ∃ mb : Fin 14, ∃ r : Req, Asks (sheetQuadConfigure true) mb r s ∧ arg r 5 1 = 1) ∧
    (∃ s : State, ∃ mb : Fin 14, ∃ r : Req, Asks (sheetQuadConfigure false) mb r s ∧ arg r 5 1 = 1) ∧
    (∃ s : State, ∃ mb : Fin 14, ∃ r : Req, ∃ b : Bool, Asks (sheetQuadConfigure b) mb r s ∧ arg r 5 1 = 0) :=
  ⟨⟨asking 5 0x0401 ([127]) (State.reset), 5, front (asking 5 0x0401 ([127]) (State.reset)), asks_of (by decide +kernel)⟩,
   ⟨asking 5 0x0402 (pay [(4, 127), (4, 0x80105), (4, 0x20), (4, 0xC00)]) (put [(QUAD_REF_REF_KHZ 31, 100000), (QUAD_CTRL_QM 31,
     100)] (State.reset)), 5, front (asking 5 0x0402 (pay [(4, 127), (4, 0x80105), (4, 0x20), (4, 0xC00)]) (put [(QUAD_REF_REF_KHZ 31, 100000),
     (QUAD_CTRL_QM 31, 100)] (State.reset))), asks_of (by decide +kernel)⟩,
   ⟨asking 5 0x0403 (pay [(1, 127), (1, 1), (18, 0)]) (put [(LANE_CTRL_MODE 127, 2), (LANE_SLIP_SLIP_POS 127, 15), (LANE_STATUS_LOCK_STATE 127,
     3)] (State.reset)), 5, front (asking 5 0x0403 (pay [(1, 127), (1, 1), (18, 0)]) (put [(LANE_CTRL_MODE 127, 2), (LANE_SLIP_SLIP_POS 127, 15),
     (LANE_STATUS_LOCK_STATE 127, 3)] (State.reset))), 15, asks_of (by decide +kernel), by decide +kernel, by decide +kernel⟩,
   ⟨asking 5 0x0403 (pay [(1, 127), (1, 1), (18, 0)]) (put [(LANE_CTRL_MODE 127, 2), (LANE_SLIP_SLIP_POS 127, 15), (LANE_STATUS_LOCK_STATE 127,
     3)] (State.reset)), 5, front (asking 5 0x0403 (pay [(1, 127), (1, 1), (18, 0)]) (put [(LANE_CTRL_MODE 127, 2), (LANE_SLIP_SLIP_POS 127, 15),
     (LANE_STATUS_LOCK_STATE 127, 3)] (State.reset))), asks_of (by decide +kernel), by decide +kernel⟩,
   ⟨asking 5 0x0404 ([127, 0, 1, 1, 255, 1, 2, 16]) (put [(LANE_STATUS_LOCK_STATE 127, 3), (QUAD_REF_REF_KHZ 31, 100000), (QUAD_CTRL_QM 31,
     100)] (State.reset)), 5, front (asking 5 0x0404 ([127, 0, 1, 1, 255, 1, 2, 16]) (put [(LANE_STATUS_LOCK_STATE 127, 3), (QUAD_REF_REF_KHZ 31,
     100000), (QUAD_CTRL_QM 31, 100)] (State.reset))), [7, 8, 9], asks_of (by decide +kernel)⟩,
   ⟨asking 5 0x0410 (pay [(1, 31), (3, 0), (1, 100), (1, 1), (2, 0), (4, 100000)]) (State.reset), 5, front (asking 5 0x0410 (pay [(1, 31), (3, 0),
     (1, 100), (1, 1), (2, 0), (4, 100000)]) (State.reset)), asks_of (by decide +kernel), by decide +kernel⟩,
   ⟨asking 5 0x0410 (pay [(1, 31), (3, 0), (1, 100), (1, 1), (2, 0), (4, 100000)]) (State.reset), 5, front (asking 5 0x0410 (pay [(1, 31), (3, 0),
     (1, 100), (1, 1), (2, 0), (4, 100000)]) (State.reset)), asks_of (by decide +kernel), by decide +kernel⟩,
   ⟨asking 5 0x0410 (pay [(1, 31), (3, 0), (1, 100), (1, 0), (2, 0), (4, 100000)]) (State.reset), 5, front (asking 5 0x0410 (pay [(1, 31), (3, 0),
     (1, 100), (1, 0), (2, 0), (4, 100000)]) (State.reset)), true, asks_of (by decide +kernel), by decide +kernel⟩⟩

set_option maxRecDepth 20000 in
theorem witness_PortCommands :
    (∃ s : State, ∃ mb : Fin 14, ∃ r : Req, Asks sheetPortConfigure mb r s ∧ getF (RP_CTRL_EN (arg r 0 1)) s ≤ 1) ∧
    (∃ s : State, ∃ mb : Fin 14, ∃ r : Req, Asks sheetPortStatus mb r s) ∧
    (∃ s : State, ∃ mb : Fin 14, ∃ r : Req, Asks sheetPortControl mb r s ∧ arg r 1 1 = 0) ∧
    (∃ s : State, ∃ mb : Fin 14, ∃ r : Req, Asks sheetPortControl mb r s ∧ arg r 1 1 = 1) ∧
    (∃ s : State, ∃ mb : Fin 14, ∃ r : Req, Asks sheetPortControl mb r s ∧ arg r 1 1 = 3) :=
  ⟨⟨asking 5 0x0420 (pay [(4, 127), (4, 0xA0021), (4, 0x08280FFF)]) (State.reset), 5, front (asking 5 0x0420 (pay [(4, 127), (4, 0xA0021), (4,
    0x08280FFF)]) (State.reset)), asks_of (by decide +kernel), by decide +kernel⟩,
   ⟨asking 5 0x0421 ([127]) (State.reset), 5, front (asking 5 0x0421 ([127]) (State.reset)), asks_of (by decide +kernel)⟩,
   ⟨asking 5 0x0422 ([127, 0]) (put [(RP_CTRL_EN 127, 1)] (State.reset)), 5, front (asking 5 0x0422 ([127, 0]) (put [(RP_CTRL_EN 127,
     1)] (State.reset))), asks_of (by decide +kernel), by decide +kernel⟩,
   ⟨asking 5 0x0422 ([127, 1]) (put [(RP_CTRL_EN 127, 1)] (State.reset)), 5, front (asking 5 0x0422 ([127, 1]) (put [(RP_CTRL_EN 127,
     1)] (State.reset))), asks_of (by decide +kernel), by decide +kernel⟩,
   ⟨asking 5 0x0422 ([127, 3]) (put [(RP_CTRL_EN 127, 1)] (State.reset)), 5, front (asking 5 0x0422 ([127, 3]) (put [(RP_CTRL_EN 127,
     1)] (State.reset))), asks_of (by decide +kernel), by decide +kernel⟩⟩

set_option maxRecDepth 20000 in
theorem witness_RallyFrames :
    (∃ s : State, ∃ p : Fin 128, rallyRx p false s = false) ∧
    (∃ s : State, ∃ p : Fin 128, ∃ b, ∃ f, rallyRx p false s = true ∧ isSet (RP_CTRL_RX_DST p) s = true ∧ frameParse false b = .good f ∧
      f.kind = 0 ∧ (portOf p s).adopt = false ∧ f.seq = getF (RP_SEQ_RX_EXP p) s) ∧
    (∃ s : State, ∃ p : Fin 128, ∃ b, ∃ f, rallyRx p false s = true ∧ isSet (RP_CTRL_RX_DST p) s = true ∧ frameParse false b = .badCrc f) ∧
    (∃ s : State, ∃ p : Fin 128, ∃ b, rallyRx p false s = true ∧ isSet (RP_CTRL_RX_DST p) s = true ∧ frameParse false b = .broken) ∧
    (∃ s : State, ∃ p : Fin 128, ∃ b, ∃ f, rallyRx p true s = true ∧ frameParse true b = .good f ∧ f.ack = none ∧ f.kind = 0 ∧
      f.seq = getF (RP_SEQ_RX_EXP p) s % 4096 ∧ raFits p f s = true) ∧
    (∃ s : State, ∃ p : Fin 128, ∃ b, ∃ f, rallyRx p true s = true ∧ frameParse true b = .good f ∧ f.ack = none ∧ f.kind = 0 ∧
      f.seq = getF (RP_SEQ_RX_EXP p) s % 4096 ∧ raFits p f s = false) ∧
    (∃ s : State, ∃ p : Fin 128, ∃ b, ∃ f, ∃ n, rallyRx p true s = true ∧ frameParse true b = .good f ∧ f.ack = none ∧ f.kind = 0 ∧
      n = (getF (RP_SEQ_RX_EXP p) s % 4096 + 4096 - f.seq) % 4096 ∧ 1 ≤ n ∧ n ≤ 256) ∧
    (∃ s : State, ∃ p : Fin 128, ∃ b, ∃ f, ∃ n, rallyRx p true s = true ∧ frameParse true b = .good f ∧ f.ack = none ∧ f.kind = 0 ∧
      n = (getF (RP_SEQ_RX_EXP p) s % 4096 + 4096 - f.seq) % 4096 ∧ 256 < n) ∧
    (∃ s : State, ∃ p : Fin 128, ∃ b : BitVec 64, rallyRx p true s = true ∧ b.toNat % 256 = 0xAC ∧
      fieldAt (leBytes 8 b.toNat) 6 2 ≠ blockCrc (leBytes 8 b.toNat)) ∧
    (∃ s : State, ∃ p : Fin 128, ∃ b : BitVec 64, ∃ a, rallyRx p true s = true ∧ b.toNat % 256 = 0xAC ∧
      fieldAt (leBytes 8 b.toNat) 6 2 = blockCrc (leBytes 8 b.toNat) ∧ a = fieldAt (leBytes 8 b.toNat) 2 2 % 4096 ∧
      (a + 4096 - (portOf p s).oldest) % 4096 < unacked p s) ∧
    (∃ s : State, ∃ p : Fin 128, ∃ b : BitVec 64, ∃ a, rallyRx p true s = true ∧ b.toNat % 256 = 0xAC ∧
      fieldAt (leBytes 8 b.toNat) 6 2 = blockCrc (leBytes 8 b.toNat) ∧ a = fieldAt (leBytes 8 b.toNat) 2 2 % 4096 ∧
      unacked p s ≤ (a + 4096 - (portOf p s).oldest) % 4096) ∧
    (∃ s : State, ∃ p : Fin 128, timerOn (tmReplay p) s = true ∧ getF (RP_STATUS_STATE p) s = 4 ∧
      (portOf p s).expiries + 1 < getF (RP_CFG_RA_RETRY p) s) ∧
    (∃ s : State, ∃ p : Fin 128, timerOn (tmReplay p) s = true ∧ getF (RP_STATUS_STATE p) s = 4 ∧
      getF (RP_CFG_RA_RETRY p) s ≤ (portOf p s).expiries + 1) ∧
    (∃ s : State, ∃ p : Fin 128, ∃ x : SyncIn, rallyRx p true s = true ∧ x.crcOk = true ∧ x.rallyA = true ∧ getF (RP_STATUS_STATE p) s = 3) ∧
    (∃ x : SyncIn, (x.crcOk = false ∨ x.rallyA = false)) ∧
    (∃ s : State, ∃ p : Fin 128, getF (RP_STATUS_STATE p) s = 4 ∧ isSet (RP_CTRL_TX_SRC p) s = true ∧ s.dev.state ≠ .quiesce ∧
      isSet (RP_CTRL_RALLY_A p) s = false) ∧
    (∃ s : State, ∃ p : Fin 128, getF (RP_STATUS_STATE p) s ≠ 4) :=
  ⟨⟨State.reset, 127, by decide +kernel⟩,
   ⟨put [(RP_CTRL_EN 127, 1), (RP_STATUS_RX_UP 127, 1), (RP_CTRL_RX_DST 127, 1), (RP_SEQ_RX_EXP 127, 9)] (State.reset), 127,
     frameSeal false ⟨false, 0, true, true, false, 3, 4, none, 9, [1, 2, 3]⟩, ⟨false, 0, true, true, false, 3, 4, none, 9, [1, 2, 3]⟩,
     by decide +kernel, by decide +kernel, by decide +kernel, by decide +kernel, by decide +kernel, by decide +kernel⟩,
   ⟨put [(RP_CTRL_EN 127, 1), (RP_STATUS_RX_UP 127, 1), (RP_CTRL_RX_DST 127, 1), (RP_SEQ_RX_EXP 127, 9)] (State.reset), 127, frameSeal true ⟨false,
     0, true, true, false, 3, 4, none, 9, [1, 2, 3]⟩, ⟨false, 0, true, true, false, 3, 4, none, 9, [1, 2, 3]⟩, by decide +kernel,
     by decide +kernel, by decide +kernel⟩,
   ⟨put [(RP_CTRL_EN 127, 1), (RP_STATUS_RX_UP 127, 1), (RP_CTRL_RX_DST 127, 1), (RP_SEQ_RX_EXP 127, 9)] (State.reset), 127, [1],
     by decide +kernel, by decide +kernel, by decide +kernel⟩,
   ⟨put [(RP_CTRL_EN 127, 1), (RP_STATUS_RX_UP 127, 1), (RP_CTRL_RALLY_A 127, 1), (RP_SEQ_RX_EXP 127, 4095)] (State.reset), 127,
     frameSeal false ⟨true, 0, true, true, false, 3, 4, none, 4095, [1, 2, 3]⟩, ⟨true, 0, true, true, false, 3, 4, none, 4095, [1, 2, 3]⟩,
     by decide +kernel, by decide +kernel, by decide +kernel, by decide +kernel, by decide +kernel, by decide +kernel⟩,
   ⟨put [(RP_CTRL_EN 127, 1), (RP_STATUS_RX_UP 127, 1), (RP_CTRL_RALLY_A 127, 1), (RP_SEQ_RX_EXP 127, 4095),
     (QDEPTH_DEPTH_MAX (getF (RP_CFG_RX_QUEUE 127) State.reset), 0)] (State.reset), 127, frameSeal false ⟨true, 0, true, true, false, 3, 4, none,
     4095, [1, 2, 3]⟩, ⟨true, 0, true, true, false, 3, 4, none, 4095, [1, 2, 3]⟩, by decide +kernel, by decide +kernel, by decide +kernel,
     by decide +kernel, by decide +kernel, by decide +kernel⟩,
   ⟨put [(RP_CTRL_EN 127, 1), (RP_STATUS_RX_UP 127, 1), (RP_CTRL_RALLY_A 127, 1), (RP_SEQ_RX_EXP 127, 4095)] (State.reset), 127,
     frameSeal false ⟨true, 0, true, true, false, 3, 4, none, 3839, [1, 2, 3]⟩, ⟨true, 0, true, true, false, 3, 4, none, 3839, [1, 2, 3]⟩, _,
     by decide +kernel, by decide +kernel, by decide +kernel, by decide +kernel, rfl, by decide +kernel, by decide +kernel⟩,
   ⟨put [(RP_CTRL_EN 127, 1), (RP_STATUS_RX_UP 127, 1), (RP_CTRL_RALLY_A 127, 1), (RP_SEQ_RX_EXP 127, 4095)] (State.reset), 127,
     frameSeal false ⟨true, 0, true, true, false, 3, 4, none, 3838, [1, 2, 3]⟩, ⟨true, 0, true, true, false, 3, 4, none, 3838, [1, 2, 3]⟩, _,
     by decide +kernel, by decide +kernel, by decide +kernel, by decide +kernel, rfl, by decide +kernel⟩,
   ⟨put [(RP_CTRL_EN 127, 1), (RP_STATUS_RX_UP 127, 1), (RP_CTRL_RALLY_A 127, 1), (RP_SEQ_RX_EXP 127, 4095)] (State.reset), 127,
     BitVec.ofNat 64 (leNat ([0xAC, 0] ++ leBytes 2 5 ++ [0, 0, 0, 0])), by decide +kernel, by decide +kernel, by decide +kernel⟩,
   ⟨portUpd 127 (fun x => { x with oldest := 4090, replay := [⟨4090, [1], false⟩, ⟨4095, [2], false⟩] }) (put [(RP_CTRL_EN 127, 1),
     (RP_STATUS_RX_UP 127, 1), (RP_CTRL_RALLY_A 127, 1), (RP_SEQ_RX_EXP 127, 4095), (RP_SEQ_TX_NEXT 127, 2)] (State.reset)), 127,
     BitVec.ofNat 64 (leNat (blockSeal ([0xAC, 0] ++ leBytes 2 4095 ++ [0, 0]))), _, by decide +kernel, by decide +kernel, by decide +kernel, rfl,
     by decide +kernel⟩,
   ⟨portUpd 127 (fun x => { x with oldest := 4090, replay := [⟨4090, [1], false⟩, ⟨4095, [2], false⟩] }) (put [(RP_CTRL_EN 127, 1),
     (RP_STATUS_RX_UP 127, 1), (RP_CTRL_RALLY_A 127, 1), (RP_SEQ_RX_EXP 127, 4095), (RP_SEQ_TX_NEXT 127, 2)] (State.reset)), 127,
     BitVec.ofNat 64 (leNat (blockSeal ([0xAC, 0] ++ leBytes 2 5 ++ [0, 0]))), _, by decide +kernel, by decide +kernel, by decide +kernel, rfl,
     by decide +kernel⟩,
   ⟨timing (tmReplay 127) (portUpd 127 (fun x => { x with replay := [⟨4090, [1], false⟩] }) (put [(RP_CTRL_EN 127, 1), (RP_STATUS_RX_UP 127, 1),
     (RP_CTRL_RALLY_A 127, 1), (RP_SEQ_RX_EXP 127, 4095), (RP_STATUS_STATE 127, 4), (RP_CFG_RA_RETRY 127, 2)] (at_ .live))), 127,
     by decide +kernel, by decide +kernel, by decide +kernel⟩,
   ⟨timing (tmReplay 127) (portUpd 127 (fun x => { x with replay := [⟨4090, [1], false⟩] }) (put [(RP_CTRL_EN 127, 1), (RP_STATUS_RX_UP 127, 1),
     (RP_CTRL_RALLY_A 127, 1), (RP_SEQ_RX_EXP 127, 4095), (RP_STATUS_STATE 127, 4), (RP_CFG_RA_RETRY 127, 1)] (at_ .live))), 127,
     by decide +kernel, by decide +kernel, by decide +kernel⟩,
   ⟨put [(RP_CTRL_EN 127, 1), (RP_STATUS_RX_UP 127, 1), (RP_CTRL_RALLY_A 127, 1), (RP_SEQ_RX_EXP 127, 4095), (RP_STATUS_STATE 127, 3)] (at_ .live),
     127, ⟨true, true, 5, 6, true⟩, by decide +kernel, by decide +kernel, by decide +kernel, by decide +kernel⟩,
   ⟨⟨true, false, 5, 6, true⟩, by decide +kernel⟩,
   ⟨put [(RP_CTRL_EN 127, 1), (RP_STATUS_RX_UP 127, 1), (RP_CTRL_RX_DST 127, 1), (RP_SEQ_RX_EXP 127, 9), (RP_STATUS_STATE 127, 4),
     (RP_CTRL_TX_SRC 127, 1)] (at_ .live), 127, by decide +kernel, by decide +kernel, by decide +kernel, by decide +kernel⟩,
   ⟨State.reset, 127, by decide +kernel⟩⟩

set_option maxRecDepth 20000 in
theorem witness_RallyPortStates :
    (∃ s : State, ∃ p : Fin 128, portReady p s = true ∧ getF (RP_STATUS_STATE p) s ≠ 4) ∧
    (∃ s : State, ∃ p : Fin 128, portReady p s = false) ∧
    (∃ s : State, ∃ p : Fin 128, ∃ c, isSet (RP_CTRL_EN p) s = true ∧ getF (RP_STATUS_STATE p) s = 4 ∧ rxUpNow p s = isSet (RP_STATUS_RX_UP p) s ∧
      portCauseNow p s = some c) ∧
    (∃ s : State, ∃ p : Fin 128, isSet (RP_CTRL_EN p) s = true ∧ getF (RP_STATUS_STATE p) s = 4 ∧ rxUpNow p s = isSet (RP_STATUS_RX_UP p) s ∧
      portCauseNow p s = none) ∧
    (∃ s : State, ∃ p : Fin 128, timerOn (tmHold p) s = true ∧ (portOf p s).holding = true) ∧
    (∃ s : State, ∃ p : Fin 128, timerOn (tmHold p) s = false) ∧
    (∃ s : State, ∃ p : Fin 128, deskewing p s = false) ∧
    (∃ s : State, ∃ p : Fin 128, deskewing p s = true ∧ (portOf p s).deskewRef = none) ∧
    (∃ s : State, ∃ p : Fin 128, deskewing p s = true) ∧
    (∃ s : State, ∃ p : Fin 128, ∃ k : Fin 4, (portOf p s).deskewed = true ∧ k.val < portWidth p s) ∧
    (∃ s : State, ∃ p : Fin 128, ∃ k : Fin 4, (portOf p s).deskewed = true ∧ k.val < portWidth p s ∧ tabGet 0 (portOf p s).amMissed k = 0) ∧
    (∃ s : State, ∃ p : Fin 128, ∃ k : Fin 4, (portOf p s).deskewed = true ∧ k.val < portWidth p s ∧ tabGet 0 (portOf p s).amMissed k = 1) :=
  ⟨⟨put [(RP_CTRL_EN 127, 1), (LANE_STATUS_LOCK_STATE 127, 3), (QUAD_STATUS_STATE 31, 2), (LANE_CTRL_TX_EN 127, 1)] (at_ .live), 127,
    by decide +kernel, by decide +kernel⟩,
   ⟨State.reset, 127, by decide +kernel⟩,
   ⟨put [(RP_CTRL_EN 127, 1), (RP_STATUS_RX_UP 127, 1), (RP_STATUS_STATE 127, 4), (LANE_STATUS_LOCK_STATE 127, 3), (QUAD_STATUS_STATE 31, 2),
     (LANE_CTRL_TX_EN 127, 1), (RP_CTRL_POLICY 127, 1), (RP_CTRL_HOLD_MS 127, 7)] (State.reset), 127, 5, by decide +kernel, by decide +kernel,
     by decide +kernel, by decide +kernel⟩,
   ⟨put [(RP_CTRL_EN 127, 1), (RP_STATUS_RX_UP 127, 1), (RP_STATUS_STATE 127, 4), (LANE_STATUS_LOCK_STATE 127, 3), (QUAD_STATUS_STATE 31, 2),
     (LANE_CTRL_TX_EN 127, 1)] (at_ .live), 127, by decide +kernel, by decide +kernel, by decide +kernel, by decide +kernel⟩,
   ⟨timing (tmHold 127) (portUpd 127 (fun x => { x with holding := true }) (put [(RP_CTRL_EN 127, 1), (RP_STATUS_RX_UP 127, 1)] (State.reset))),
     127, by decide +kernel, by decide +kernel⟩,
   ⟨State.reset, 127, by decide +kernel⟩,
   ⟨State.reset, 124, by decide +kernel⟩,
   ⟨put [(RP_CTRL_EN 124, 1), (RP_CTRL_LANES 124, 2), (LANE_STATUS_LOCK_STATE 124, 3), (LANE_STATUS_LOCK_STATE 125, 3),
     (LANE_STATUS_LOCK_STATE 126, 3), (LANE_STATUS_LOCK_STATE 127, 3)] (State.reset), 124, by decide +kernel, by decide +kernel⟩,
   ⟨put [(RP_CTRL_EN 124, 1), (RP_CTRL_LANES 124, 2), (LANE_STATUS_LOCK_STATE 124, 3), (LANE_STATUS_LOCK_STATE 125, 3),
     (LANE_STATUS_LOCK_STATE 126, 3), (LANE_STATUS_LOCK_STATE 127, 3)] (State.reset), 124, by decide +kernel⟩,
   ⟨portUpd 124 (fun x => { x with deskewed := true }) (put [(RP_CTRL_EN 124, 1), (RP_CTRL_LANES 124, 2), (LANE_STATUS_LOCK_STATE 124, 3),
     (LANE_STATUS_LOCK_STATE 125, 3), (LANE_STATUS_LOCK_STATE 126, 3), (LANE_STATUS_LOCK_STATE 127, 3)] (State.reset)), 124, 3, by decide +kernel,
     by decide +kernel⟩,
   ⟨portUpd 124 (fun x => { x with deskewed := true }) (put [(RP_CTRL_EN 124, 1), (RP_CTRL_LANES 124, 2), (LANE_STATUS_LOCK_STATE 124, 3),
     (LANE_STATUS_LOCK_STATE 125, 3), (LANE_STATUS_LOCK_STATE 126, 3), (LANE_STATUS_LOCK_STATE 127, 3)] (State.reset)), 124, 3, by decide +kernel,
     by decide +kernel, by decide +kernel⟩,
   ⟨portUpd 124 (fun x => { x with deskewed := true, amMissed := [(3, 1)] }) (put [(RP_CTRL_EN 124, 1), (RP_CTRL_LANES 124, 2),
     (LANE_STATUS_LOCK_STATE 124, 3), (LANE_STATUS_LOCK_STATE 125, 3), (LANE_STATUS_LOCK_STATE 126, 3), (LANE_STATUS_LOCK_STATE 127,
     3)] (State.reset)), 124, 3, by decide +kernel, by decide +kernel, by decide +kernel⟩⟩

set_option maxRecDepth 20000 in
theorem witness_TimedChannel :
    (∃ s : State, ∃ n : Fin 32, isSet (TRES_CFG1_EN n) s = false ∧ tresOwnRange n s = true ∧ tresFits (tresWith n s) s = true) ∧
    (∃ s : State, ∃ n : Fin 32, isSet (TRES_CFG1_EN n) s = false ∧ tresOwnRange n s = true ∧ tresFits (tresWith n s) s = false) ∧
    (∃ s : State, ∃ g : Fin 80, ∃ n : Fin 32, ∃ d : BitVec 7, fpState g s = 1 ∧
      (isSet (TRES_CFG1_EN n) s = false ∨ getF (TRES_CFG0_SRC n) s ≠ g.val ∨ getF (TRES_CFG0_DEST n) s ≠ d.toNat)) ∧
    (∃ s : State, ∃ g : Fin 80, ∃ n : Fin 32, ∃ d : BitVec 7, fpState g s = 1 ∧ isSet (TRES_CFG1_EN n) s = true ∧
      getF (TRES_CFG0_SRC n) s = g.val ∧ getF (TRES_CFG0_DEST n) s = d.toNat ∧ tabGet 0 s.noc.windows n ≠ 0 ∧
      tabGet 0 s.noc.used n < getF (TRES_CFG0_QUOTA n) s) ∧
    (∃ s : State, ∃ g : Fin 80, ∃ n : Fin 32, ∃ d : BitVec 7, fpState g s = 1 ∧ isSet (TRES_CFG1_EN n) s = true ∧
      getF (TRES_CFG0_SRC n) s = g.val ∧ getF (TRES_CFG0_DEST n) s = d.toNat ∧ tabGet 0 s.noc.windows n = 0) ∧
    (∃ s : State, ∃ g : Fin 80, fpState g s ≠ 1) ∧
    (∃ s : State, ∃ n : Fin 32, ∃ k, s.noc.flying = [k] ∧ k.res = n.val ∧ (fpState k.dest s = 3 ∨ fpState k.dest s = 4)) ∧
    (∃ s : State, ∃ n : Fin 32, ∃ k, s.noc.flying = [k] ∧ k.res = n.val ∧ fpState k.dest s = 1 ∧ 0 ≤ timedPast k s) ∧
    (∃ s : State, ∃ n : Fin 32, ∃ k, s.noc.flying = [k] ∧ k.res = n.val ∧ fpState k.dest s = 1 ∧ timedPast k s < 0 ∧ s.noc.held = [] ∧
      k.ecc = true) ∧
    (∃ s : State, ∃ g : Fin 80, ∃ k, s.noc.held = [k] ∧ s.noc.shown = [] ∧ k.dest = g.val ∧ 0 ≤ timedPast k s) ∧
    (∃ s : State, ∃ g : Fin 80, ∃ k, s.noc.held = [k] ∧ s.noc.shown = [] ∧ k.dest = g.val ∧ timedPast k s < 0) :=
  ⟨⟨put [(TRES_CFG0_SRC 31, 0), (TRES_CFG0_DEST 31, 79), (TRES_CFG0_QUOTA 31, 2), (TRES_CFG0_DELAY 31, 30), (TRES_CFG1_DURATION 31,
    5)] (State.reset), 31, by decide +kernel, by decide +kernel, by decide +kernel⟩,
   ⟨put [(TRES_CFG0_SRC 31, 0), (TRES_CFG0_DEST 31, 79), (TRES_CFG0_QUOTA 31, 2), (TRES_CFG0_DELAY 31, 1), (TRES_CFG1_DURATION 31,
     5)] (State.reset), 31, by decide +kernel, by decide +kernel, by decide +kernel⟩,
   ⟨put [(FP_STATUS_STATE 79, 1)] (State.reset), 79, 31, 0, by decide +kernel, by decide +kernel⟩,
   ⟨(fun s : State => { s with noc := { s.noc with windows := [(31, 3)] } }) (put [(TRES_CFG0_SRC 31, 0), (TRES_CFG0_DEST 31, 79),
     (TRES_CFG0_QUOTA 31, 2), (TRES_CFG0_DELAY 31, 255), (TRES_CFG1_DURATION 31, 5), (TRES_CFG1_EN 31, 1), (FP_STATUS_STATE 0, 1),
     (FP_STATUS_STATE 79, 1)] (State.reset)), 0, 31, 79, by decide +kernel, by decide +kernel, by decide +kernel, by decide +kernel,
     by decide +kernel, by decide +kernel⟩,
   ⟨put [(TRES_CFG0_SRC 31, 0), (TRES_CFG0_DEST 31, 79), (TRES_CFG0_QUOTA 31, 2), (TRES_CFG0_DELAY 31, 255), (TRES_CFG1_DURATION 31, 5),
     (TRES_CFG1_EN 31, 1), (FP_STATUS_STATE 0, 1), (FP_STATUS_STATE 79, 1)] (State.reset), 0, 31, 79, by decide +kernel, by decide +kernel,
     by decide +kernel, by decide +kernel, by decide +kernel⟩,
   ⟨State.reset, 0, by decide +kernel⟩,
   ⟨(fun s : State => { s with noc := { s.noc with flying := [({ pktZero with dest := 79, src := 0, op := opTimed, res := 31, era := 0, ecc := true, data := leBytes 32 9 } : Pkt)] } }) (put [(FP_STATUS_STATE 79, 3)] (State.reset)), 31, ({ pktZero with dest := 79, src := 0, op := opTimed, res := 31, era := 0, ecc := true, data := leBytes 32 9 } : Pkt), by decide +kernel, by decide +kernel, by decide +kernel⟩,
   ⟨(fun s : State => { s with noc := { s.noc with flying := [({ pktZero with dest := 79, src := 0, op := opTimed, res := 31, era := 0, ecc := true, data := leBytes 32 9 } : Pkt)] } }) (put [(FP_STATUS_STATE 79, 1)] (State.reset)), 31, ({ pktZero with dest := 79, src := 0, op := opTimed, res := 31, era := 0, ecc := true, data := leBytes 32 9 } : Pkt), by decide +kernel, by decide +kernel, by decide +kernel, by decide +kernel⟩,
   ⟨(fun s : State => { s with noc := { s.noc with flying := [({ pktZero with dest := 79, src := 0, op := opTimed, res := 31, era := 2, ecc := true, data := leBytes 32 9 } : Pkt)] } }) (put [(FP_STATUS_STATE 79, 1)] (State.reset)), 31, ({ pktZero with dest := 79, src := 0, op := opTimed, res := 31, era := 2, ecc := true, data := leBytes 32 9 } : Pkt), by decide +kernel, by decide +kernel, by decide +kernel, by decide +kernel, by decide +kernel, by decide +kernel⟩,
   ⟨(fun s : State => { s with noc := { s.noc with held := [({ pktZero with dest := 79, src := 0, op := opTimed, res := 31, era := 0, ecc := true, data := leBytes 32 9 } : Pkt)] } }) (State.reset), 79, ({ pktZero with dest := 79, src := 0, op := opTimed, res := 31, era := 0, ecc := true, data := leBytes 32 9 } : Pkt), by decide +kernel, by decide +kernel, by decide +kernel, by decide +kernel⟩,
   ⟨(fun s : State => { s with noc := { s.noc with held := [({ pktZero with dest := 79, src := 0, op := opTimed, res := 31, era := 2, ecc := true, data := leBytes 32 9 } : Pkt)] } }) (State.reset), 79, ({ pktZero with dest := 79, src := 0, op := opTimed, res := 31, era := 2, ecc := true, data := leBytes 32 9 } : Pkt), by decide +kernel, by decide +kernel, by decide +kernel, by decide +kernel⟩⟩

set_option maxRecDepth 20000 in
theorem witness_LinkRows :
    (∃ s : State, ∃ n : Fin 48, ∃ p : Fin 8, ∃ v : Fin 4, ∃ x, x = linkOf n p s ∧ linkThere n p = true ∧ listGet 0 x.credits v ≠ 0 ∧
      x.kept.length < 8 ∧ x.since = none ∧ x.sendL = x.wantL) ∧
    (∃ s : State, ∃ n : Fin 48, ∃ p : Fin 8, ∃ v : Fin 4, ∃ x, x = linkOf n p s ∧ linkThere n p = true ∧ listGet 0 x.credits v ≠ 0 ∧
      x.kept.length < 8 ∧ x.naked = false) ∧
    (∃ s : State, ∃ n : Fin 48, ∃ p : Fin 8, ∃ l, ∃ v, ∃ rs, (linkOf n p s).returns = (l, false) :: rs ∧ (linkOf n p s).kept = [(l, v)]) ∧
    (∃ s : State, ∃ n : Fin 48, ∃ p : Fin 8, ∃ r, ∃ rs, (linkOf n p s).returns = r :: rs) ∧
    (∃ s : State, ∃ n : Fin 48, ∃ p : Fin 8, ∃ v : Fin 4, ∃ x, x = linkOf n p s ∧ listGet 0 x.queued v ≠ 0) ∧
    (∃ s : State, ∃ n : Fin 48, ∃ p : Fin 8, (linkOf n p s).kept ≠ [] ∧ (linkOf n p s).since = none) ∧
    (∃ s : State, ∃ n : Fin 48, ∃ p : Fin 8, ∃ u, NotSafe 0x0C s ∧ NotSafe 0x13 s ∧ (linkOf n p s).since = some u ∧ (linkOf n p s).failed = false) ∧
    (∃ s : State, ∃ n : Fin 48, ∃ p : Fin 8, ∃ v : Fin 4, ∃ x, NotSafe 0x13 s ∧ x = linkOf n p s ∧ linkThere n p = true ∧ linkTransit x v = 0 ∧
      isSet NOC_CTRL_AUDIT_EN s = true ∧ listGet 0 x.credits v = 8 - listGet 0 x.queued v) ∧
    (∃ s : State, ∃ n : Fin 48, ∃ p : Fin 8, ∃ v : Fin 4, ∃ x, NotSafe 0x13 s ∧ x = linkOf n p s ∧ linkThere n p = true ∧ linkTransit x v = 0 ∧
      isSet NOC_CTRL_AUDIT_EN s = true ∧ listGet 0 x.credits v < 8 - listGet 0 x.queued v) :=
  ⟨⟨linkSet 47 2 { linkInit with sendL := 15, wantL := 15, credits := [8, 8, 8, 1] } (State.reset), 47, 2, 3, _, rfl, by decide +kernel,
    by decide +kernel, by decide +kernel, by decide +kernel, by decide +kernel⟩,
   ⟨linkSet 47 2 { linkInit with sendL := 15, wantL := 15 } (State.reset), 47, 2, 3, _, rfl, by decide +kernel, by decide +kernel,
     by decide +kernel, by decide +kernel⟩,
   ⟨linkSet 47 2 { linkInit with returns := [(15, false)], kept := [(15, 3)] } (State.reset), 47, 2, 15, 3, [], by decide +kernel,
     by decide +kernel⟩,
   ⟨linkSet 47 2 { linkInit with returns := [(15, true)] } (State.reset), 47, 2, (15, true), [], by decide +kernel⟩,
   ⟨linkSet 47 2 { linkInit with queued := [0, 0, 0, 8], credits := [8, 8, 8, 0] } (State.reset), 47, 2, 3, _, rfl, by decide +kernel⟩,
   ⟨linkSet 47 2 { linkInit with kept := [(15, 3)] } (State.reset), 47, 2, by decide +kernel, by decide +kernel⟩,
   ⟨linkSet 47 2 { linkInit with kept := [(15, 3)], since := some 0 } (State.reset), 47, 2, 0, by unfold NotSafe; decide +kernel,
     by unfold NotSafe; decide +kernel, by decide +kernel, by decide +kernel⟩,
   ⟨linkSet 47 2 { linkInit with queued := [0, 0, 0, 3], credits := [8, 8, 8, 5] } (put [(NOC_CTRL_AUDIT_EN, 1)] (State.reset)), 47, 2, 3, _,
     by unfold NotSafe; decide +kernel, rfl, by decide +kernel, by decide +kernel, by decide +kernel, by decide +kernel⟩,
   ⟨linkSet 47 2 { linkInit with credits := [8, 8, 8, 7] } (put [(NOC_CTRL_AUDIT_EN, 1)] (State.reset)), 47, 2, 3, _,
     by unfold NotSafe; decide +kernel, rfl, by decide +kernel, by decide +kernel, by decide +kernel, by decide +kernel⟩⟩

set_option maxRecDepth 20000 in
theorem witness_NocCommands :
    (∃ s : State, ∃ mb : Fin 14, ∃ r : Req, Asks sheetNocStatus mb r s) ∧
    (∃ s : State, ∃ mb : Fin 14, ∃ r : Req, Asks sheetNocQosSet mb r s) ∧
    (∃ s : State, ∃ mb : Fin 14, ∃ r : Req, Asks sheetProbeSet mb r s) ∧
    (∃ s : State, ∃ mb : Fin 14, ∃ r : Req, Asks sheetProbeRead mb r s) ∧
    (∃ s : State, ∃ mb : Fin 14, ∃ r : Req, Asks sheetProbeTraceRead mb r s) ∧
    (∃ s : State, ∃ mb : Fin 14, ∃ r : Req, Asks sheetTimedResSet mb r s) ∧
    (∃ s : State, ∃ mb : Fin 14, ∃ r : Req, Asks sheetTimedResStatus mb r s) :=
  ⟨⟨asking 5 0x0C20 ([1]) (put [(NOC_STATUS_MISROUTE, 1)] (State.reset)), 5, front (asking 5 0x0C20 ([1]) (put [(NOC_STATUS_MISROUTE,
    1)] (State.reset))), asks_of (by decide +kernel)⟩,
   ⟨asking 5 0x0C21 ([127, 15]) (State.reset), 5, front (asking 5 0x0C21 ([127, 15]) (State.reset)), asks_of (by decide +kernel)⟩,
   ⟨asking 5 0x0C22 (pay [(4, 31), (4, 0x2F09), (4, 0xFFFFFFFF), (4, 5), (4, 6)]) (State.reset), 5, front (asking 5 0x0C22 (pay [(4, 31), (4,
     0x2F09), (4, 0xFFFFFFFF), (4, 5), (4, 6)]) (State.reset)), asks_of (by decide +kernel)⟩,
   ⟨asking 5 0x0C23 ([31]) (State.reset), 5, front (asking 5 0x0C23 ([31]) (State.reset)), asks_of (by decide +kernel)⟩,
   ⟨asking 5 0x0C24 (pay [(2, 2047), (2,
     2)]) ((fun s : State => { s with noc := { s.noc with trace := [(0, [1, 2]), (2047, [3])] } }) (State.reset)), 5,
     front (asking 5 0x0C24 (pay [(2, 2047), (2,
     2)]) ((fun s : State => { s with noc := { s.noc with trace := [(0, [1, 2]), (2047, [3])] } }) (State.reset))), asks_of (by decide +kernel)⟩,
   ⟨asking 5 0x0330 (pay [(1, 31), (1, 0), (1, 79), (1, 2), (1, 30), (1, 1), (2, 5), (4, 1)]) (State.reset), 5, front (asking 5 0x0330 (pay [(1,
     31), (1, 0), (1, 79), (1, 2), (1, 30), (1, 1), (2, 5), (4, 1)]) (State.reset)), asks_of (by decide +kernel)⟩,
   ⟨asking 5 0x0331 ([31]) (State.reset), 5, front (asking 5 0x0331 ([31]) (State.reset)), asks_of (by decide +kernel)⟩⟩

set_option maxRecDepth 20000 in
theorem witness_PasserRows :
    (∃ s : State, ∃ n : Fin 16, isSet (PASS_CTRL_EN n) s = false) ∧
    (∃ s : State, ∃ n : Fin 16, isSet (PASS_CTRL_EN n) s = true ∧ (passOf n s).ops = [] ∧ (passOf n s).desc = none ∧
      (passOf n s).aborting = false ∧ getF (PASS_STATUS_STATE n) s ≠ 3) ∧
    (∃ s : State, ∃ n : Fin 16, (passOf n s).ops = []) ∧
    (∃ s : State, ∃ n : Fin 16, (passOf n s).ops ≠ []) ∧
    (∃ s : State, ∃ n : Fin 16, ∃ d, passStopped n s = false ∧ (passOf n s).desc = none ∧ (passOf n s).ops = [] ∧
      getF (PASS_IDX_PROD n) s ≠ getF (PASS_IDX_CONS n) s ∧ nodeOf (passAt n (getF (PASS_IDX_CONS n) s) s) = some d) ∧
    (∃ s : State, ∃ n : Fin 16, ∃ d, (passOf n s).desc = some d ∧ getF (PASS_STATUS_STATE n) s = 2 ∧ passStopped n s = false ∧ descDue d s = true) ∧
    (∃ s : State, ∃ n : Fin 16, ∃ d, (passOf n s).desc = some d ∧ descDue d s = false) ∧
    (∃ s : State, ∃ n : Fin 16, ∃ d, ∃ a, (passOf n s).desc = some d ∧ (passOf n s).started = true ∧ (passOf n s).ops = [] ∧
      descLen d ≤ (passOf n s).off ∧ (passOf n s).worst = 0 ∧ (passOf n s).aborting = false ∧ (passOf n s).copy = false ∧
      getF (PASS_CTRL_RING_LOG2 n) s ≤ 12 ∧ nodeOf ((passAt n (passOf n s).index s + 22) / 32 * 32) = some a) ∧
    (∃ s : State, ∃ n : Fin 16, (passOf n s).ops = [] ∧ (passOf n s).aborting = false ∧ (((passOf n s).worst ≠ 0 ∨ (passOf n s).badDesc = true)) ∧
      (passOf n s).copy = false ∧ getF (PASS_STATUS_STATE n) s ≠ 3) ∧
    (∃ s : State, ∃ mb : Fin 14, ∃ r : Req, Asks sheetPasserCopy mb r s ∧ isSet (PASS_CTRL_EN (arg r 0 1)) s = true) ∧
    (∃ s : State, ∃ mb : Fin 14, ∃ r : Req, Asks sheetPasserCopy mb r s ∧ isSet (PASS_CTRL_EN (arg r 0 1)) s = false) ∧
    (∃ s : State, ∃ mb : Fin 14, ∃ r : Req, Asks sheetPasserStatus mb r s) :=
  ⟨⟨State.reset, 15, by decide +kernel⟩,
   ⟨put [(PASS_CTRL_EN 15, 1), (PASS_CTRL_RING_LOG2 15, 12)] (State.reset), 15, by decide +kernel, by decide +kernel, by decide +kernel,
     by decide +kernel, by decide +kernel⟩,
   ⟨put [(PASS_CTRL_EN 15, 1), (PASS_CTRL_RING_LOG2 15, 12)] (State.reset), 15, by decide +kernel⟩,
   ⟨passUpd 15 (fun _ => { passInit with ops := [⟨0, 0, 32, false, 0⟩] }) (put [(PASS_CTRL_EN 15, 1), (PASS_CTRL_RING_LOG2 15, 12)] (State.reset)),
     15, by decide +kernel⟩,
   ⟨put [(PASS_CTRL_EN 15, 1), (PASS_CTRL_RING_LOG2 15, 12), (PASS_IDX_PROD 15, 1)] (State.reset), 15, 80, by decide +kernel, by decide +kernel,
     by decide +kernel, by decide +kernel, by decide +kernel⟩,
   ⟨passUpd 15 (fun _ => { passInit with desc := some (leBytes 8 0x40 ++ leBytes 8 0x80 ++ leBytes 4 64 ++ leBytes 1 0 ++ leBytes 3 0 ++ leBytes 6 0 ++ leBytes 2 0) }) (put [(PASS_CTRL_EN 15, 1), (PASS_CTRL_RING_LOG2 15, 12), (PASS_STATUS_STATE 15, 2)] (State.reset)), 15, leBytes 8 0x40 ++ leBytes 8 0x80 ++ leBytes 4 64 ++ leBytes 1 0 ++ leBytes 3 0 ++ leBytes 6 0 ++ leBytes 2 0, by decide +kernel, by decide +kernel, by decide +kernel, by decide +kernel⟩,
   ⟨passUpd 15 (fun _ => { passInit with desc := some (leBytes 8 0x40 ++ leBytes 8 0x80 ++ leBytes 4 64 ++ leBytes 1 0 ++ leBytes 3 0 ++ leBytes 6 9 ++ leBytes 2 0) }) (put [(PASS_CTRL_EN 15, 1), (PASS_CTRL_RING_LOG2 15, 12), (PASS_STATUS_STATE 15, 2)] (State.reset)), 15, leBytes 8 0x40 ++ leBytes 8 0x80 ++ leBytes 4 64 ++ leBytes 1 0 ++ leBytes 3 0 ++ leBytes 6 9 ++ leBytes 2 0, by decide +kernel, by decide +kernel⟩,
   ⟨passUpd 15 (fun _ => { passInit with desc := some (leBytes 8 0x40 ++ leBytes 8 0x80 ++ leBytes 4 64 ++ leBytes 1 1 ++ leBytes 3 0 ++ leBytes 6 0 ++ leBytes 2 0), started := true, off := 64, index := 4095 }) (put [(PASS_CTRL_EN 15, 1), (PASS_CTRL_RING_LOG2 15, 12)] (State.reset)), 15, leBytes 8 0x40 ++ leBytes 8 0x80 ++ leBytes 4 64 ++ leBytes 1 1 ++ leBytes 3 0 ++ leBytes 6 0 ++ leBytes 2 0, 80, by decide +kernel, by decide +kernel, by decide +kernel, by decide +kernel, by decide +kernel, by decide +kernel, by decide +kernel, by decide +kernel, by decide +kernel⟩,
   ⟨passUpd 15 (fun _ => { passInit with worst := 2, index := 4095 }) (put [(PASS_CTRL_EN 15, 1), (PASS_CTRL_RING_LOG2 15, 12)] (State.reset)), 15,
     by decide +kernel, by decide +kernel, by decide +kernel, by decide +kernel, by decide +kernel⟩,
   ⟨asking 5 0x0620 (pay [(1, 15), (1, 0), (2, 0), (8, 64), (8, 128), (4, 64)]) (put [(PASS_CTRL_EN 15, 1), (PASS_CTRL_RING_LOG2 15,
     12)] (State.reset)), 5, front (asking 5 0x0620 (pay [(1, 15), (1, 0), (2, 0), (8, 64), (8, 128), (4, 64)]) (put [(PASS_CTRL_EN 15, 1),
     (PASS_CTRL_RING_LOG2 15, 12)] (State.reset))), asks_of (by decide +kernel), by decide +kernel⟩,
   ⟨asking 5 0x0620 (pay [(1, 15), (1, 1), (2, 0), (8, 0xFFFFFFFFFFFFFFFF), (8, 128), (4, 0xFFFFFF)]) (State.reset), 5,
     front (asking 5 0x0620 (pay [(1, 15), (1, 1), (2, 0), (8, 0xFFFFFFFFFFFFFFFF), (8, 128), (4, 0xFFFFFF)]) (State.reset)),
     asks_of (by decide +kernel), by decide +kernel⟩,
   ⟨asking 5 0x0621 ([15]) (State.reset), 5, front (asking 5 0x0621 ([15]) (State.reset)), asks_of (by decide +kernel)⟩⟩

set_option maxRecDepth 20000 in
theorem witness_DramCommands :
    (∃ s : State, ∃ mb : Fin 14, ∃ r : Req, Asks sheetDramStatus mb r s) ∧
    (∃ s : State, ∃ mb : Fin 14, ∃ r : Req, Asks sheetDramErrors mb r s ∧ arg r 1 1 = 0) ∧
    (∃ s : State, ∃ mb : Fin 14, ∃ r : Req, Asks sheetDramErrors mb r s ∧ arg r 1 1 = 2) ∧
    (∃ s : State, ∃ mb : Fin 14, ∃ r : Req, Asks sheetDramQosSet mb r s ∧ drArg r < 4 ∧ arg r 1 1 < 128) ∧
    (∃ s : State, ∃ mb : Fin 14, ∃ r : Req, Asks sheetDramQosSet mb r s ∧ drArg r < 4 ∧ arg r 1 1 = 0xFF) ∧
    (∃ s : State, ∃ mb : Fin 14, ∃ r : Req, Asks sheetDramPatrol mb r s ∧ NotSafe 0x13 s) ∧
    (∃ s : State, ∃ mb : Fin 14, ∃ r : Req, Asks sheetDramRetrain mb r s ∧ NotSafe 0x13 s ∧ drUp (drArg r) s = false) ∧
    (∃ s : State, ∃ c : Fin 4, ∃ q, drPick c s = some q ∧ drUp c s = true ∧ q.pkt.op = opRd ∧ q.pkt.addr % 32 = 0 ∧ s.dram.errs = [] ∧
      s.dram.poison = [] ∧ (getF (DRC_CFG_ECC_MODE (drChannel q.pkt.addr)) s = 1 ∨ getF (DRC_CFG_ECC_MODE (drChannel q.pkt.addr)) s = 2) ∧
      drChannel q.pkt.addr = drChannel (q.pkt.addr + 32 * q.pkt.len)) ∧
    (∃ s : State, ∃ c : Fin 4, ∃ q, drPick c s = some q ∧ drUp c s = true ∧ q.pkt.op = opWr ∧ q.pkt.addr % 64 = 0 ∧ q.pkt.len = 1 ∧
      q.pkt.beFirst = 2 ^ 32 - 1 ∧ q.pkt.beLast = 2 ^ 32 - 1 ∧ q.pkt.data.length = 64) :=
  ⟨⟨asking 5 0x0601 ([3]) (State.reset), 5, front (asking 5 0x0601 ([3]) (State.reset)), asks_of (by decide +kernel)⟩,
   ⟨asking 5 0x0602 ([3, 0]) (State.reset), 5, front (asking 5 0x0602 ([3, 0]) (State.reset)), asks_of (by decide +kernel), by decide +kernel⟩,
   ⟨asking 5 0x0602 ([3, 2]) (put [(DRC_SUSPECT_SUSPECT 3, 5)] (State.reset)), 5, front (asking 5 0x0602 ([3, 2]) (put [(DRC_SUSPECT_SUSPECT 3,
     5)] (State.reset))), asks_of (by decide +kernel), by decide +kernel⟩,
   ⟨asking 5 0x0603 (pay [(1, 3), (1, 127), (2, 4095)]) (State.reset), 5, front (asking 5 0x0603 (pay [(1, 3), (1, 127), (2,
     4095)]) (State.reset)), asks_of (by decide +kernel), by decide +kernel, by decide +kernel⟩,
   ⟨asking 5 0x0603 (pay [(1, 3), (1, 255), (2, 4095)]) (State.reset), 5, front (asking 5 0x0603 (pay [(1, 3), (1, 255), (2,
     4095)]) (State.reset)), asks_of (by decide +kernel), by decide +kernel, by decide +kernel⟩,
   ⟨asking 5 0x0604 (pay [(1, 3), (1, 1), (1, 255), (1, 0), (2, 4095), (2, 65535)]) (State.reset), 5, front (asking 5 0x0604 (pay [(1, 3), (1, 1),
     (1, 255), (1, 0), (2, 4095), (2, 65535)]) (State.reset)), asks_of (by decide +kernel), by unfold NotSafe; decide +kernel⟩,
   ⟨asking 5 0x0605 ([3, 1]) (put [(DRC_CFG_EN 3, 1)] (State.reset)), 5, front (asking 5 0x0605 ([3, 1]) (put [(DRC_CFG_EN 3, 1)] (State.reset))),
     asks_of (by decide +kernel), by unfold NotSafe; decide +kernel, by decide +kernel⟩,
   ⟨(fun s : State => { s with dram := { s.dram with mem := memWrite 0 [] 0x1800000E20 [1, 2], reqs := [(3, [⟨({ pktZero with dest := 83, src := 79, op := opRd, tag := 5, len := 15, addr := 0x1800000E00 }), 0, 5⟩])] } }) (put [(DRC_STATUS_STATE 3, 3), (DRC_STATUS_SIZE_LOG2 3, 35), (DRC_CFG_ECC_MODE 3, 2)] (State.reset)), 3, ⟨({ pktZero with dest := 83, src := 79, op := opRd, tag := 5, len := 15, addr := 0x1800000E00 }), 0, 5⟩, by decide +kernel, by decide +kernel, by decide +kernel, by decide +kernel, by decide +kernel, by decide +kernel, by decide +kernel, by decide +kernel⟩,
   ⟨(fun s : State => { s with dram := { s.dram with reqs := [(3, [⟨({ pktZero with dest := 83, src := 79, op := opWr, tag := 5, len := 1, addr := 0x1FFFFFFFC0, beFirst := 2 ^ 32 - 1, beLast := 2 ^ 32 - 1, data := leBytes 64 9 }), 0, 5⟩])] } }) (put [(DRC_STATUS_STATE 3, 3), (DRC_STATUS_SIZE_LOG2 3, 35), (DRC_CFG_ECC_MODE 3, 2)] (State.reset)), 3, ⟨({ pktZero with dest := 83, src := 79, op := opWr, tag := 5, len := 1, addr := 0x1FFFFFFFC0, beFirst := 2 ^ 32 - 1, beLast := 2 ^ 32 - 1, data := leBytes 64 9 }), 0, 5⟩, by decide +kernel, by decide +kernel, by decide +kernel, by decide +kernel, by decide +kernel, by decide +kernel, by decide +kernel, by decide +kernel⟩⟩

set_option maxRecDepth 20000 in
theorem witness_DramEvents :
    (∃ s : State, ∃ c : Fin 4, getF (DRC_STATUS_STATE c) s = 1 ∧ s.boot.stage = 0 ∧ s.mail.running = [] ∧ NotSafe 0x13 s) ∧
    (∃ s : State, ∃ c : Fin 4, ∃ n, drUp c s = true ∧ isSet (DRC_PATROL_EN c) s = true ∧ s.dram.errs = [] ∧ s.dram.poison = [] ∧
      tabGet 0 s.dram.patrolAt c = n ∧ n + 1 < drSize c s / 64) ∧
    (∃ s : State, ∃ c : Fin 4, timerOn (0x3000 + c.val) s = true ∧ NotSafe 0x13 s) ∧
    (∃ s : State, ∃ c : Fin 4, drUp c s = true ∧ drReqs c s = []) ∧
    (∃ s : State, ∃ c : Fin 4, ∃ q, drUp c s = true ∧ drReqs c s = [q] ∧ q.target ≤ (s.time.us - q.us) * 100 ∧ tabGet 0 s.dram.postponed c < 4) ∧
    (∃ s : State, ∃ c : Fin 4, ∃ hot, drUp c s = true ∧ (hot ≠ isSet (DRC_STATUS_HOT c) s)) ∧
    (∃ s : State, ∃ c : Fin 4, drUp c s = true) ∧
    (∃ s : State, ∃ c : Fin 4, drUp c s = true ∧ drReqs c s = [] ∧ s.dq.cells = [] ∧ NotSafe 0x13 s) :=
  ⟨⟨(fun s : State => { s with dram := { s.dram with retrainInit := [(3, true)], mem := memWrite 0 [] 0x1800000E20 [1, 2] } }) (put [(DRC_STATUS_STATE 3, 1)] (State.reset)), 3, by decide +kernel, by decide +kernel, by decide +kernel, by unfold NotSafe; decide +kernel⟩,
   ⟨(fun s : State => { s with dram := { s.dram with patrolAt := [(3, 5)] } }) (put [(DRC_STATUS_STATE 3, 3), (DRC_STATUS_SIZE_LOG2 3, 35),
     (DRC_CFG_ECC_MODE 3, 2), (DRC_PATROL_EN 3, 1)] (State.reset)), 3, 5, by decide +kernel, by decide +kernel, by decide +kernel,
     by decide +kernel, by decide +kernel, by decide +kernel⟩,
   ⟨timing 0x3003 State.reset, 3, by decide +kernel, by unfold NotSafe; decide +kernel⟩,
   ⟨(fun s : State => { s with dram := { s.dram with postponed := [(3, 2)] } }) (put [(DRC_STATUS_STATE 3, 3), (DRC_STATUS_SIZE_LOG2 3, 35),
     (DRC_CFG_ECC_MODE 3, 2)] (State.reset)), 3, by decide +kernel, by decide +kernel⟩,
   ⟨(fun s : State => { s with dram := { s.dram with reqs := [(3, [⟨({ pktZero with dest := 83, src := 79, op := opRd, tag := 5, len := 15, addr := 0x1800000E00 }), 0, 0⟩])] } }) (put [(DRC_STATUS_STATE 3, 3), (DRC_STATUS_SIZE_LOG2 3, 35), (DRC_CFG_ECC_MODE 3, 2)] (State.reset)), 3, ⟨({ pktZero with dest := 83, src := 79, op := opRd, tag := 5, len := 15, addr := 0x1800000E00 }), 0, 0⟩, by decide +kernel, by decide +kernel, by decide +kernel, by decide +kernel⟩,
   ⟨put [(DRC_STATUS_STATE 3, 3), (DRC_STATUS_SIZE_LOG2 3, 35), (DRC_CFG_ECC_MODE 3, 2)] (State.reset), 3, true, by decide +kernel,
     by decide +kernel⟩,
   ⟨put [(DRC_STATUS_STATE 3, 3), (DRC_STATUS_SIZE_LOG2 3, 35), (DRC_CFG_ECC_MODE 3, 2)] (State.reset), 3, by decide +kernel⟩,
   ⟨timing 0x3003 (put [(DRC_STATUS_STATE 3, 3), (DRC_STATUS_SIZE_LOG2 3, 35), (DRC_CFG_ECC_MODE 3, 2)] (State.reset)), 3, by decide +kernel,
     by decide +kernel, by decide +kernel, by unfold NotSafe; decide +kernel⟩⟩

set_option maxRecDepth 20000 in
theorem witness_ModuleRows :
    (∃ s : State, timerOn 9 s = true ∧ isSet MID_CTRL_POLL_EN s = false) ∧
    (∃ s : State, ∃ x : PollIn, ∃ n : Fin 4, timerOn 9 s = true ∧ isSet MID_CTRL_POLL_EN s = true ∧ isSet (MID_BUS_EN n) s = true ∧
      bitOf x.stuck.toNat n = true) ∧
    (∃ s : State, ∃ mb : Fin 14, ∃ r : Req, Asks sheetModuleList mb r s) ∧
    (∃ s : State, ∃ mb : Fin 14, ∃ r : Req, ∃ d, Asks (sheetModuleRead (some d) false) mb r s) ∧
    (∃ s : State, ∃ mb : Fin 14, ∃ r : Req, ∃ x, Asks (sheetModuleRecheck x) mb r s ∧ arg r 0 1 < 32 ∧
      siteFails ((x.sites.find? (fun p => decide (p.1.val = arg r 0 1))).map (·.2)) = false) ∧
    (∃ s : State, ∃ mb : Fin 14, ∃ r : Req, Asks sheetModuleAccept mb r s) ∧
    (∃ s : State, ∃ mb : Fin 14, ∃ r : Req, Asks (sheetModuleTxDisable true) mb r s) ∧
    (∃ s : State, ∃ mb : Fin 14, ∃ r : Req, ∃ x, Asks (sheetModuleImrWrite true true x) mb r s) :=
  ⟨⟨put [(MID_CTRL_POLL_EN, 0)] (timing 9 State.reset), by decide +kernel, by decide +kernel⟩,
   ⟨put [(MID_BUS_EN 3, 1), (MID_BUS_SWITCH 3, 1), (MID_BUS_SEG_MASK 3, 255), (MID_CTRL_POLL_EN, 1)] (timing 9 State.reset), ⟨[], 8, 0⟩, 3,
     by decide +kernel, by decide +kernel, by decide +kernel, by decide +kernel⟩,
   ⟨asking 5 0x0A01 ([]) (State.reset), 5, front (asking 5 0x0A01 ([]) (State.reset)), asks_of (by decide +kernel)⟩,
   ⟨asking 5 0x0A02 ([31, 1, 5, 6, 255, 1, 0, 0]) (put [(MID_BUS_EN 3, 1), (MID_BUS_SWITCH 3, 1), (MID_BUS_SEG_MASK 3, 255)] (State.reset)), 5,
     front (asking 5 0x0A02 ([31, 1, 5, 6, 255, 1, 0, 0]) (put [(MID_BUS_EN 3, 1), (MID_BUS_SWITCH 3, 1), (MID_BUS_SEG_MASK 3,
     255)] (State.reset))), [7], asks_of (by decide +kernel)⟩,
   ⟨asking 5 0x0A03 ([31]) (put [(MID_BUS_EN 3, 1), (MID_BUS_SWITCH 3, 1), (MID_BUS_SEG_MASK 3, 255)] (State.reset)), 5,
     front (asking 5 0x0A03 ([31]) (put [(MID_BUS_EN 3, 1), (MID_BUS_SWITCH 3, 1), (MID_BUS_SEG_MASK 3, 255)] (State.reset))), ⟨[(31, ⟨false, none,
     [], 0, 0, none⟩)], 0, 0⟩, asks_of (by decide +kernel), by decide +kernel, by decide +kernel⟩,
   ⟨asking 5 0x0A04 ([31]) (put [(MID_BUS_EN 3, 1), (MID_BUS_SWITCH 3, 1), (MID_BUS_SEG_MASK 3, 255), (MID_SITE_STATE 31, 3)] (State.reset)), 5,
     front (asking 5 0x0A04 ([31]) (put [(MID_BUS_EN 3, 1), (MID_BUS_SWITCH 3, 1), (MID_BUS_SEG_MASK 3, 255), (MID_SITE_STATE 31,
     3)] (State.reset))), asks_of (by decide +kernel)⟩,
   ⟨asking 5 0x0A05 ([31, 1]) (put [(MID_BUS_EN 3, 1), (MID_BUS_SWITCH 3, 1), (MID_BUS_SEG_MASK 3, 255), (MID_SITE_STATE 31, 2)] (State.reset)), 5,
     front (asking 5 0x0A05 ([31, 1]) (put [(MID_BUS_EN 3, 1), (MID_BUS_SWITCH 3, 1), (MID_BUS_SEG_MASK 3, 255), (MID_SITE_STATE 31,
     2)] (State.reset))), asks_of (by decide +kernel)⟩,
   ⟨asking 5 0x0A06 ([31, 248, 8, 0, 1, 2, 3, 4, 5, 6, 7, 8]) (put [(MID_BUS_EN 3, 1), (MID_BUS_SWITCH 3, 1), (MID_BUS_SEG_MASK 3,
     255)] (State.reset)), 5, front (asking 5 0x0A06 ([31, 248, 8, 0, 1, 2, 3, 4, 5, 6, 7, 8]) (put [(MID_BUS_EN 3, 1), (MID_BUS_SWITCH 3, 1),
     (MID_BUS_SEG_MASK 3, 255)] (State.reset))), ⟨false, none, [], 0, 0, none⟩, asks_of (by decide +kernel)⟩⟩

set_option maxRecDepth 20000 in
theorem witness_WhistleRows :
    (∃ n : BitVec 7, ∃ t : Fin 6, whNodeMay t n.toNat = false) ∧
    (∃ s : State, ∃ n : BitVec 7, ∃ t : Fin 6, ∃ i, whNodeMay t n.toNat = true ∧ whHeld t s = false ∧ (whStack t s).length < 16 ∧
      whBest t s = some i) ∧
    (∃ s : State, ∃ n : BitVec 7, ∃ t : Fin 6, whNodeMay t n.toNat = true ∧ whHeld t s = false ∧ (whStack t s).length < 16 ∧ whBest t s = none) ∧
    (∃ s : State, getF (WH_LATCH_LATCH 15) s < 2 ^ 32) ∧
    (∃ w : Fin 16, w.val ≠ 15) ∧
    (∃ s : State, NotSafe 0x0F s) ∧
    (∃ s : State, ∃ mb : Fin 14, ∃ r : Req, Asks sheetWhistleStatus mb r s) ∧
    (∃ s : State, ∃ mb : Fin 14, ∃ r : Req, Asks sheetWhistleSourceSet mb r s) ∧
    (∃ s : State, ∃ mb : Fin 14, ∃ r : Req, ∃ i, Asks sheetWhistleHostClaim mb r s ∧ (whStack 5 s).length < 16 ∧ whBest 5 (seqPop s) = some i) ∧
    (∃ s : State, ∃ mb : Fin 14, ∃ r : Req, ∃ p, ∃ l, Asks sheetWhistleHostComplete mb r s ∧ arg r 0 2 ≠ 0 ∧ arg r 0 2 ≠ 511 ∧
      whStack 5 s = (arg r 0 2, p) :: l) :=
  ⟨⟨92, 5, by decide +kernel⟩,
   ⟨put [(WH_LATCH_LATCH 15, 1073741824), (WH_EN_EN 4 15, 1073741824), (WH_PRIO_PRIO 510, 7)] (State.reset), 92, 4, 510, by decide +kernel,
     by decide +kernel, by decide +kernel, by decide +kernel⟩,
   ⟨State.reset, 87, 5, by decide +kernel, by decide +kernel, by decide +kernel, by decide +kernel⟩,
   ⟨put [(WH_LATCH_LATCH 15, 2147549185)] (State.reset), by decide +kernel⟩,
   ⟨14, by decide +kernel⟩,
   ⟨State.reset, by unfold NotSafe; decide +kernel⟩,
   ⟨asking 5 0x0C30 (pay [(2, 510)]) (put [(WH_LATCH_LATCH 15, 1073741824), (WH_EN_EN 4 15, 1073741824), (WH_PRIO_PRIO 510, 7)] (State.reset)), 5,
     front (asking 5 0x0C30 (pay [(2, 510)]) (put [(WH_LATCH_LATCH 15, 1073741824), (WH_EN_EN 4 15, 1073741824), (WH_PRIO_PRIO 510,
     7)] (State.reset))), asks_of (by decide +kernel)⟩,
   ⟨asking 5 0x0C31 (pay [(2, 509), (2, 2), (1, 31), (1, 0x20), (1, 2), (1, 0)]) (State.reset), 5, front (asking 5 0x0C31 (pay [(2, 509), (2, 2),
     (1, 31), (1, 0x20), (1, 2), (1, 0)]) (State.reset)), asks_of (by decide +kernel)⟩,
   ⟨asking 7 0x0C32 ([]) (put [(WH_LATCH_LATCH 15, 1073741824), (WH_EN_EN 5 15, 1073741824), (WH_PRIO_PRIO 510, 7)] (State.reset)), 7,
     front (asking 7 0x0C32 ([]) (put [(WH_LATCH_LATCH 15, 1073741824), (WH_EN_EN 5 15, 1073741824), (WH_PRIO_PRIO 510, 7)] (State.reset))), 510,
     asks_of (by decide +kernel), by decide +kernel, by decide +kernel⟩,
   ⟨asking 7 0x0C33 (pay [(2, 510)]) (whSetStack 5 [(510, 7)] State.reset), 7, front (asking 7 0x0C33 (pay [(2, 510)]) (whSetStack 5 [(510,
     7)] State.reset)), 7, [], asks_of (by decide +kernel), by decide +kernel, by decide +kernel, by decide +kernel⟩⟩

set_option maxRecDepth 20000 in
theorem witness_PlaymakerRows :
    (∃ s : State, ∃ n : Fin 4, pmSecond n s = false ∧ NotSafe 0x13 s) ∧
    (∃ s : State, ∃ n : Fin 4, pmSecond n s = false ∧ NotSafe 0x13 s ∧ pmState n s = 0 ∧ pmMayRun s = false) ∧
    (∃ s : State, ∃ n : Fin 4, pmSecond n s = false ∧ NotSafe 0x13 s ∧ pmState n s = 0 ∧ pmMayRun s = true ∧
      isSet (PM_CTRL_HALT_ON_RESET n) s = false) ∧
    (∃ s : State, ∃ n : Fin 4, pmSecond n s = false ∧ NotSafe 0x13 s ∧ pmState n s = 0 ∧ pmMayRun s = true ∧
      isSet (PM_CTRL_HALT_ON_RESET n) s = true) ∧
    (∃ s : State, ∃ n : Fin 4, (coreOf n s).beatArm = true ∧ s.clk.fine = 0 ∧ isSet GC_CTRL_RUN s = true ∧ beatAhead n s = false) ∧
    (∃ s : State, ∃ n : Fin 4, (coreOf n s).beatArm = false ∨ beatAhead n s = true) ∧
    (∃ v, v ≠ 0x5A5A) ∧
    (∃ s : State, ∃ n : Fin 4, ∃ v, v = 0x5A5A ∧ wdogCounts n s = true) ∧
    (∃ s : State, ∃ n : Fin 4, NotSafe 0x13 s ∧ timerOn (tmWdog n) s = true ∧ isSet (PM_WDOG_RESTART n) s = false) ∧
    (∃ s : State, ∃ n : Fin 4, ∃ m : BitVec 3, ∃ x : CoreIn, pmState n s = 1 ∧ pmSecond n s = false ∧ x.items = [] ∧
      coreInputs n s &&& m.toNat = 0) ∧
    (∃ s : State, ∃ n : Fin 4, ∃ m : BitVec 3, ∃ x : CoreIn, pmState n s = 1 ∧ pmSecond n s = false ∧ x.items = [] ∧
      coreInputs n s &&& m.toNat ≠ 0) ∧
    (∃ s : State, ∃ n : Fin 4, pmState n s = 2 ∧ pmSecond n s = false ∧ coreInputs n s &&& (coreOf n s).mask ≠ 0) ∧
    (∃ s : State, ∃ n : Fin 4, pmState n s = 2 ∧ pmSecond n s = false ∧ coreInputs n s &&& (coreOf n s).mask = 0) ∧
    (∃ s : State, ∃ p : Fin 2, pairRuns (2 * p.val) s = false) ∧
    (∃ s : State, ∃ p : Fin 2, pairRuns (2 * p.val) s = true ∧ NotSafe 0x0D s ∧ NotSafe 0x13 s) :=
  ⟨⟨put [(PM_STATUS_STATE 3, 1)] (State.reset), 3, by decide +kernel, by unfold NotSafe; decide +kernel⟩,
   ⟨State.reset, 3, by decide +kernel, by unfold NotSafe; decide +kernel, by decide +kernel, by decide +kernel⟩,
   ⟨put [(PM_STATUS_STATE 3, 0), (PM_BOOT_LO_BOOT 3, 64), (PM_BOOT_HI_BOOT 3, 1)] (at_ .staged), 3, by decide +kernel,
     by unfold NotSafe; decide +kernel, by decide +kernel, by decide +kernel, by decide +kernel⟩,
   ⟨put [(PM_STATUS_STATE 3, 0), (PM_CTRL_HALT_ON_RESET 3, 1)] (at_ .staged), 3, by decide +kernel, by unfold NotSafe; decide +kernel,
     by decide +kernel, by decide +kernel, by decide +kernel⟩,
   ⟨(fun s : State => { s with clk := ⟨1, 2, 0⟩ }) (coreUpd 3 (fun c => { c with beatArm := true }) (put [(GC_CTRL_RUN, 1)] (State.reset))), 3,
     by decide +kernel, by decide +kernel, by decide +kernel, by decide +kernel⟩,
   ⟨State.reset, 3, by decide +kernel⟩,
   ⟨5, by decide +kernel⟩,
   ⟨put [(PM_STATUS_STATE 3, 1), (PM_WDOG_EN 3, 1), (PM_WDOG_TIMEOUT_MS 3, 9)] (State.reset), 3, _, rfl, by decide +kernel⟩,
   ⟨timing (tmWdog 3) (put [(PM_STATUS_STATE 3, 1), (PM_WDOG_RESTART 3, 0)] (State.reset)), 3, by unfold NotSafe; decide +kernel,
     by decide +kernel, by decide +kernel⟩,
   ⟨put [(PM_STATUS_STATE 3, 1)] (State.reset), 3, 4, ⟨[], 0x1000, [1, 2], 5⟩, by decide +kernel, by decide +kernel, by decide +kernel,
     by decide +kernel⟩,
   ⟨coreUpd 3 (fun c => { c with beat := true }) (put [(PM_STATUS_STATE 3, 1)] (State.reset)), 3, 4, ⟨[], 0x1000, [1, 2], 5⟩, by decide +kernel,
     by decide +kernel, by decide +kernel, by decide +kernel⟩,
   ⟨coreUpd 3 (fun c => { c with beat := true, mask := 4 }) (put [(PM_STATUS_STATE 3, 2)] (State.reset)), 3, by decide +kernel, by decide +kernel,
     by decide +kernel⟩,
   ⟨put [(PM_STATUS_STATE 3, 2)] (State.reset), 3, by decide +kernel, by decide +kernel, by decide +kernel⟩,
   ⟨State.reset, 1, by decide +kernel⟩,
   ⟨put [(PM_STATUS_PAIRED 2, 1), (PM_STATUS_PAIRED 3, 1), (PM_STATUS_STATE 2, 1), (PM_STATUS_STATE 3, 1)] (State.reset), 1, by decide +kernel,
     by unfold NotSafe; decide +kernel, by unfold NotSafe; decide +kernel⟩⟩

set_option maxRecDepth 20000 in
theorem witness_RunControl :
    (∃ s : State, ∃ n : Fin 4, pmSecond n s = false ∧ pmState n s = 1) ∧
    (∃ s : State, ∃ n : Fin 4, pmSecond n s = false ∧ (pmState n s = 0 ∨ pmState n s = 4)) ∧
    (∃ s : State, ∃ n : Fin 4, pmSecond n s = true) ∧
    (∃ s : State, ∃ n : Fin 4, pmSecond n s = false ∧ pmState n s = 3) ∧
    (∃ s : State, ∃ n : Fin 4, pmSecond n s = false ∧ pmState n s ≠ 3) ∧
    (∃ s : State, ∃ n : Fin 4, ∃ i : BitVec 6, pmSecond n s = false ∧ pmState n s = 3 ∧ i.toNat < 34) ∧
    (∃ s : State, ∃ n : Fin 4, ∃ i : BitVec 6, pmSecond n s = false ∧ pmState n s = 3 ∧ i.toNat < 32) ∧
    (∃ s : State, ∃ n : Fin 4, ∃ x : CoreIn, ∃ k, pmState n s = 1 ∧ pmSecond n s = false ∧ x.items = [] ∧ (coreOf n s).skipBp = false ∧
      (natsFrom 0 8).filter (fun j => bpMatches n j x.pc.toNat s) = [k] ∧ getF (BP_CTRL_ACTION n k) s = 1 ∧ isSet (SEQ_CTRL_EN n) s = false) ∧
    (∃ s : State, ∃ n : Fin 4, ∃ x : CoreIn, pmState n s = 1 ∧ (coreOf n s).skipBp = true ∧ x.items = []) ∧
    (∃ s : State, ∃ n : Fin 4, ∃ d, ∃ x : CoreIn, ∃ u, pmState n s = 1 ∧ pmSecond n s = false ∧ x.items = [] ∧ wpHits n d s = [u] ∧
      unitAction n u s = 1 ∧ isSet (SEQ_CTRL_EN n) s = false) ∧
    (∃ s : State, ∃ n : Fin 4, pmSecond n s = false) ∧
    (∃ s : State, ∃ n : Fin 4, traceOn n s = true) ∧
    (∃ s : State, ∃ n : Fin 4, traceOn n s = false) :=
  ⟨⟨put [(PM_STATUS_STATE 3, 1)] (State.reset), 3, by decide +kernel, by decide +kernel⟩,
   ⟨put [(PM_STATUS_STATE 3, 4)] (State.reset), 3, by decide +kernel, by decide +kernel⟩,
   ⟨put [(PM_STATUS_PAIRED 2, 1), (PM_STATUS_PAIRED 3, 1), (PM_STATUS_STATE 2, 1), (PM_STATUS_STATE 3, 1)] (State.reset), 3, by decide +kernel⟩,
   ⟨coreUpd 3 (fun c => { c with regs := [(5, 6)] }) (put [(PM_STATUS_STATE 3, 3)] (State.reset)), 3, by decide +kernel, by decide +kernel⟩,
   ⟨put [(PM_STATUS_STATE 3, 1)] (State.reset), 3, by decide +kernel, by decide +kernel⟩,
   ⟨coreUpd 3 (fun c => { c with regs := [(33, 0x500000006)] }) (put [(PM_STATUS_STATE 3, 3)] (State.reset)), 3, 33, by decide +kernel,
     by decide +kernel, by decide +kernel⟩,
   ⟨put [(PM_STATUS_STATE 3, 3), (DBG_REGDATA_LO_DATA 3, 5), (DBG_REGDATA_HI_DATA 3, 6)] (State.reset), 3, 31, by decide +kernel,
     by decide +kernel, by decide +kernel⟩,
   ⟨put [(PM_STATUS_STATE 3, 1), (BP_CTRL_EN 3 7, 1), (BP_CTRL_ACTION 3 7, 1), (BP_ADDR_LO_ADDR 3 7, 1024)] (State.reset), 3, ⟨[], 0x1000, [1, 2],
     5⟩, 7, by decide +kernel, by decide +kernel, by decide +kernel, by decide +kernel, by decide +kernel, by decide +kernel, by decide +kernel⟩,
   ⟨coreUpd 3 (fun c => { c with skipBp := true }) (put [(PM_STATUS_STATE 3, 1)] (State.reset)), 3, ⟨[], 0x1000, [1, 2], 5⟩, by decide +kernel,
     by decide +kernel, by decide +kernel⟩,
   ⟨put [(PM_STATUS_STATE 3, 1), (WP_CTRL_EN 3 3, 1), (WP_CTRL_ACTION 3 3, 1), (WP_ADDR_LO_ADDR 3 3, 8192), (WP_CTRL_SIZE 3 3, 3)] (State.reset),
     3, ⟨0x2000, 3, true, 9⟩, ⟨[], 0x1000, [1, 2], 5⟩, 11, by decide +kernel, by decide +kernel, by decide +kernel, by decide +kernel,
     by decide +kernel, by decide +kernel⟩,
   ⟨State.reset, 3, by decide +kernel⟩,
   ⟨put [(TR_CTRL_EN 3, 1), (TR_STATUS_GATE 3, 1)] (State.reset), 3, by decide +kernel⟩,
   ⟨State.reset, 3, by decide +kernel⟩⟩

set_option maxRecDepth 20000 in
theorem witness_JtagAndMemory :
    (∃ a : BitVec 2136, ∃ d : BitVec 2136, ∃ p, p ∈ [(Instr.extest a d, 0x00), (Instr.extestPulse a d, 0x05), (Instr.extestTrain a d, 0x06)]) ∧
    (∃ p, p ∈ [(Instr.highz, 0x03), (Instr.clamp, 0x04)]) ∧
    (∃ s : State, ∃ n : Fin 4, pmSecond n s = false ∧ NotSafe 0x13 s ∧ (coreOf n s).mcmd = none ∧ 0xFFFE000000 ≤ mcmdAddr n s ∧
      mcmdAddr n s < 0xFFFE400000) ∧
    (∃ s : State, NotSafe 0x13 s ∧ jtagLevel s = 2) ∧
    (∃ s : State, ∃ d : BitVec 64, NotSafe 0x13 s ∧ jtagLevel s ≠ 2 ∧ bitsOf d.toNat 48 2 = 1 ∧ bitsOf d.toNat 32 16 < 0x1080 ∧
      getF (MB_STATUS_BUSY 13) s = 0) ∧
    (∃ s : State, ∃ d : BitVec 56, NotSafe 0x13 s ∧ jtagLevel s ≠ 2 ∧ bitOf d.toNat 50 = false ∧ 4 * bitsOf d.toNat 32 18 < 0x40000 ∧
      pmSecond (4 * bitsOf d.toNat 32 18 / 65536) s = false) :=
  ⟨⟨5, 6, (Instr.extestTrain 5 6, 0x06), by decide +kernel⟩,
   ⟨(Instr.clamp, 0x04), by decide +kernel⟩,
   ⟨put [(DBG_MADDR_LO_ADDR 3, 4265607164), (DBG_MADDR_HI_ADDR 3, 255), (DBG_MDATA_DATA 3, 9)] (State.reset), 3, by decide +kernel,
     by unfold NotSafe; decide +kernel, by decide +kernel, by decide +kernel, by decide +kernel⟩,
   ⟨State.reset, by unfold NotSafe; decide +kernel, by decide +kernel⟩,
   ⟨powered, BitVec.ofNat 64 (2 ^ 48 + 0x107C * 2 ^ 32 + 9), by unfold NotSafe; decide +kernel, by decide +kernel, by decide +kernel,
     by decide +kernel, by decide +kernel⟩,
   ⟨(fun s : State => { s with pm := { s.pm with trace := memWrite 0 [] 0x3FFFC [1, 2, 3, 4] } }) (powered), BitVec.ofNat 56 (0xFFFF * 2 ^ 32),
     by unfold NotSafe; decide +kernel, by decide +kernel, by decide +kernel, by decide +kernel, by decide +kernel⟩⟩

set_option maxRecDepth 20000 in
theorem witness_DebugCommands :
    (∃ s : State, ∃ mb : Fin 14, ∃ r : Req, Asks sheetPmStatus mb r s) ∧
    (∃ s : State, ∃ mb : Fin 14, ∃ r : Req, Asks sheetPmStart mb r s ∧ NotSafe 0x13 s ∧ arg r 1 1 = 0) ∧
    (∃ s : State, ∃ mb : Fin 14, ∃ r : Req, Asks sheetPmReset mb r s ∧ NotSafe 0x13 s) ∧
    (∃ s : State, ∃ mb : Fin 14, ∃ r : Req, Asks sheetPmLoad mb r s) ∧
    (∃ s : State, ∃ mb : Fin 14, ∃ r : Req, ∃ x, Asks (sheetDebugRun true x) mb r s) ∧
    (∃ s : State, ∃ mb : Fin 14, ∃ r : Req, ∃ x, Asks (sheetDebugRun false x) mb r s ∧ arg r 1 1 = 0 ∧ pmState (arg r 0 1) s ≠ 3) ∧
    (∃ s : State, ∃ mb : Fin 14, ∃ r : Req, ∃ x, Asks (sheetDebugAccess x) mb r s ∧ NotSafe 0x13 s ∧ arg r 1 1 = 0 ∧ arg r 2 1 = 0 ∧
      arg r 4 8 < 34) ∧
    (∃ s : State, ∃ mb : Fin 14, ∃ r : Req, ∃ x, Asks (sheetDebugAccess x) mb r s ∧ NotSafe 0x13 s ∧ arg r 1 1 = 0 ∧ arg r 2 1 = 1 ∧
      arg r 4 8 < 32) ∧
    (∃ s : State, ∃ mb : Fin 14, ∃ r : Req, ∃ x, Asks (sheetDebugAccess x) mb r s ∧ NotSafe 0x13 s ∧ arg r 1 1 = 1 ∧ arg r 2 1 = 0 ∧
      arg r 12 2 = 4 ∧ 0xFFFE000000 ≤ arg r 4 8 ∧ arg r 4 8 < 0xFFFE400000) ∧
    (∃ s : State, ∃ mb : Fin 14, ∃ r : Req, Asks sheetDebugUnitsSet mb r s) ∧
    (∃ s : State, ∃ mb : Fin 14, ∃ r : Req, Asks sheetTraceAccess mb r s ∧ pmSecond (arg r 0 1) s = false ∧ arg r 1 1 = 0) ∧
    (∃ s : State, ∃ mb : Fin 14, ∃ r : Req, Asks sheetTraceAccess mb r s ∧ pmSecond (arg r 0 1) s = false ∧ arg r 1 1 = 1) :=
  ⟨⟨asking 5 0x0C01 ([3]) (State.reset), 5, front (asking 5 0x0C01 ([3]) (State.reset)), asks_of (by decide +kernel)⟩,
   ⟨asking 5 0x0C02 (pay [(1, 3), (3, 0), (8, 0x1000)]) (at_ .staged), 5, front (asking 5 0x0C02 (pay [(1, 3), (3, 0), (8,
     0x1000)]) (at_ .staged)), asks_of (by decide +kernel), by unfold NotSafe; decide +kernel, by decide +kernel⟩,
   ⟨asking 5 0x0C03 ([3]) (State.reset), 5, front (asking 5 0x0C03 ([3]) (State.reset)), asks_of (by decide +kernel),
     by unfold NotSafe; decide +kernel⟩,
   ⟨asking 5 0x0C04 (pay [(4, 3), (8, 0x1000), (8, 0xFFFE000000), (4, 64)]) (State.reset), 5, front (asking 5 0x0C04 (pay [(4, 3), (8, 0x1000), (8,
     0xFFFE000000), (4, 64)]) (State.reset)), asks_of (by decide +kernel)⟩,
   ⟨asking 5 0x0C05 ([3, 2]) (put [(PM_STATUS_STATE 3, 3)] (State.reset)), 5, front (asking 5 0x0C05 ([3, 2]) (put [(PM_STATUS_STATE 3,
     3)] (State.reset))), ⟨[], 0x1000, [1, 2], 5⟩, asks_of (by decide +kernel)⟩,
   ⟨asking 5 0x0C05 ([3, 0]) (put [(PM_STATUS_STATE 3, 1)] (State.reset)), 5, front (asking 5 0x0C05 ([3, 0]) (put [(PM_STATUS_STATE 3,
     1)] (State.reset))), ⟨[], 0x1000, [1, 2], 5⟩, asks_of (by decide +kernel), by decide +kernel, by decide +kernel⟩,
   ⟨asking 5 0x0C06 (pay [(4, 3), (8, 33), (2, 8), (2, 0)]) (coreUpd 3 (fun c => { c with regs := [(33, 0x500000006)] }) (put [(PM_STATUS_STATE 3,
     3)] (State.reset))), 5, front (asking 5 0x0C06 (pay [(4, 3), (8, 33), (2, 8), (2,
     0)]) (coreUpd 3 (fun c => { c with regs := [(33, 0x500000006)] }) (put [(PM_STATUS_STATE 3, 3)] (State.reset)))), ⟨[], flGood⟩,
     asks_of (by decide +kernel), by unfold NotSafe; decide +kernel, by decide +kernel, by decide +kernel, by decide +kernel⟩,
   ⟨asking 5 0x0C06 (pay [(2, 3), (2, 1), (8, 31), (2, 8), (2, 0), (8, 9)]) (put [(PM_STATUS_STATE 3, 3)] (State.reset)), 5,
     front (asking 5 0x0C06 (pay [(2, 3), (2, 1), (8, 31), (2, 8), (2, 0), (8, 9)]) (put [(PM_STATUS_STATE 3, 3)] (State.reset))), ⟨[], flGood⟩,
     asks_of (by decide +kernel), by unfold NotSafe; decide +kernel, by decide +kernel, by decide +kernel, by decide +kernel⟩,
   ⟨asking 5 0x0C06 (pay [(1, 3), (3, 1), (8, 0xFFFE3FFFFC), (2, 4), (2,
     0)]) ((fun s : State => { s with pm := { s.pm with sharedRam := memWrite 0 [] 0x3FFFFC [1, 2, 3, 4] } }) (put [(PM_STATUS_STATE 3,
     3)] (State.reset))), 5, front (asking 5 0x0C06 (pay [(1, 3), (3, 1), (8, 0xFFFE3FFFFC), (2, 4), (2,
     0)]) ((fun s : State => { s with pm := { s.pm with sharedRam := memWrite 0 [] 0x3FFFFC [1, 2, 3, 4] } }) (put [(PM_STATUS_STATE 3,
     3)] (State.reset)))), ⟨[], flGood⟩, asks_of (by decide +kernel), by unfold NotSafe; decide +kernel, by decide +kernel, by decide +kernel,
     by decide +kernel, by decide +kernel, by decide +kernel⟩,
   ⟨asking 5 0x0C07 (pay ([(4, 3)] ++ ((List.range 67).map fun i => (4,
     if i < 32 then (if i % 4 = 3 then 1 else 0) else if i < 64 then (if i % 8 = 7 then 3 else 0) else if i = 64 then 1 else 0)))) (State.reset),
     5, front (asking 5 0x0C07 (pay ([(4, 3)] ++ ((List.range 67).map fun i => (4,
     if i < 32 then (if i % 4 = 3 then 1 else 0) else if i < 64 then (if i % 8 = 7 then 3 else 0) else if i = 64 then 1 else 0)))) (State.reset)),
     asks_of (by decide +kernel)⟩,
   ⟨asking 5 0x0C08 (pay [(4, 3), (4, 65535), (2,
     2)]) ((fun s : State => { s with pm := { s.pm with trace := memWrite 0 [] 0x3FFFC [1, 2, 3, 4] } }) (State.reset)), 5,
     front (asking 5 0x0C08 (pay [(4, 3), (4, 65535), (2,
     2)]) ((fun s : State => { s with pm := { s.pm with trace := memWrite 0 [] 0x3FFFC [1, 2, 3, 4] } }) (State.reset))),
     asks_of (by decide +kernel), by decide +kernel, by decide +kernel⟩,
   ⟨asking 5 0x0C08 (pay [(1, 3), (3, 1), (4, 0), (2, 0)]) (State.reset), 5, front (asking 5 0x0C08 (pay [(1, 3), (3, 1), (4, 0), (2,
     0)]) (State.reset)), asks_of (by decide +kernel), by decide +kernel, by decide +kernel⟩⟩

set_option maxRecDepth 20000 in
theorem witness_ScorebookRows :
    (∃ s : State, ∃ mb : Fin 14, ∃ r : Req, Asks sheetRecordStatus mb r s) ∧
    (∃ s : State, ∃ mb : Fin 14, ∃ r : Req, ∃ x, ∃ l, Asks (sheetRecordRead false) mb r s ∧ s.sb.waiting = x :: l ∧ l.length < 512 ∧
      s.sb.next < 2 ^ 32 ∧ arg r 0 4 = sbFirstWaiting s ∧
      (sbFirstWaiting s + 2 ^ 32 - s.sb.oldest) % 2 ^ 32 ≤ (s.sb.next + 2 ^ 32 - s.sb.oldest) % 2 ^ 32) ∧
    (∃ s : State, ∃ mb : Fin 14, ∃ r : Req, Asks (sheetRecordRead true) mb r s) ∧
    (∃ s : State, ∃ mb : Fin 14, ∃ r : Req, Asks sheetRecordMark mb r s ∧ s.sb.waiting = [] ∧ s.sb.tallies = [] ∧ s.sb.known = []) ∧
    (∃ s : State, ∃ mb : Fin 14, ∃ r : Req, Asks sheetRecordWatch mb r s) ∧
    (∃ s : State, timerOn 1 s = false) ∧
    (∃ s : State, timerOn 1 s = true ∧ s.sb.live = true ∧ flBusy 1 s = false ∧ s.sb.page < 256) ∧
    (∃ s : State, timerOn 1 s = true ∧ s.sb.live = true ∧ flBusy 1 s = false ∧ s.sb.page < 256 ∧ s.sb.dropped = 0 ∧ s.sb.waiting.length ≤ 8) ∧
    (∃ s : State, s.sb.tallies = []) ∧
    (∃ s : State, ∃ x, s.sb.tallies = [x] ∧ s.sb.waiting = []) ∧
    (∃ s : State, timerOn 8 s = false) ∧
    (∃ s : State, timerOn 8 s = true ∧ s.sb.waiting = [] ∧ s.sb.tallies = [] ∧ s.sb.live = true ∧ flBusy 1 s = false) :=
  ⟨⟨asking 5 0x0901 ([]) (State.reset), 5, front (asking 5 0x0901 ([]) (State.reset)), asks_of (by decide +kernel)⟩,
   ⟨asking 5 0x0902 (pay [(4, 4), (1, 100), (3,
     0)]) ((fun s : State => { s with sb := { s.sb with waiting := [⟨0x0B11, 0, 1, 2, 3, 4, 5, 0, 6, 0⟩], next := 5, oldest := 1 } }) (State.reset)), 5, front (asking 5 0x0902 (pay [(4, 4), (1, 100), (3, 0)]) ((fun s : State => { s with sb := { s.sb with waiting := [⟨0x0B11, 0, 1, 2, 3, 4, 5, 0, 6, 0⟩], next := 5, oldest := 1 } }) (State.reset))), ⟨0x0B11, 0, 1, 2, 3, 4, 5, 0, 6, 0⟩, [], asks_of (by decide +kernel), by decide +kernel, by decide +kernel, by decide +kernel, by decide +kernel, by decide +kernel⟩,
   ⟨asking 5 0x0902 (pay [(4, 4), (1, 100), (3, 0)]) (State.reset), 5, front (asking 5 0x0902 (pay [(4, 4), (1, 100), (3, 0)]) (State.reset)),
     asks_of (by decide +kernel)⟩,
   ⟨asking 5 0x0903 ([1, 2, 3, 4, 5, 6]) (State.reset), 5, front (asking 5 0x0903 ([1, 2, 3, 4, 5, 6]) (State.reset)), asks_of (by decide +kernel),
     by decide +kernel, by decide +kernel, by decide +kernel⟩,
   ⟨asking 5 0x0904 (pay [(2, 0x100), (2, 0xFFFF)]) (State.reset), 5, front (asking 5 0x0904 (pay [(2, 0x100), (2, 0xFFFF)]) (State.reset)),
     asks_of (by decide +kernel)⟩,
   ⟨State.reset, by decide +kernel⟩,
   ⟨(fun s : State => { s with sb := { s.sb with live := true, page := 255, sector := 127, waiting := [⟨0x0B11, 0, 1, 2, 3, 4, 5, 0, 6, 0⟩] } }) (timing 1 State.reset), by decide +kernel, by decide +kernel, by decide +kernel, by decide +kernel⟩,
   ⟨(fun s : State => { s with sb := { s.sb with live := true, page := 255, sector := 127, waiting := [⟨0x0B11, 0, 1, 2, 3, 4, 5, 0, 6, 0⟩] } }) (timing 1 State.reset), by decide +kernel, by decide +kernel, by decide +kernel, by decide +kernel, by decide +kernel, by decide +kernel⟩,
   ⟨State.reset, by decide +kernel⟩,
   ⟨(fun s : State => { s with sb := { s.sb with tallies := [⟨0x0B11, 3, 5, 9, ⟨0x0B11, 0, 1, 2, 3, 4, 5, 0, 6, 0⟩, 1000⟩] } }) (State.reset),
     ⟨0x0B11, 3, 5, 9, ⟨0x0B11, 0, 1, 2, 3, 4, 5, 0, 6, 0⟩, 1000⟩, by decide +kernel, by decide +kernel⟩,
   ⟨State.reset, by decide +kernel⟩,
   ⟨(fun s : State => { s with sb := { s.sb with live := true, cseq := 0xFFFFFFFE, cpage := 4095 } }) (timing 8 State.reset), by decide +kernel,
     by decide +kernel, by decide +kernel, by decide +kernel, by decide +kernel⟩⟩

set_option maxRecDepth 20000 in
theorem witness_SafetyCommands :
    (∃ s : State, ∃ mb : Fin 14, ∃ r : Req, Asks sheetSafetyStatus mb r s) ∧
    (∃ s : State, ∃ mb : Fin 14, ∃ r : Req, Asks sheetSafetyClear mb r s) ∧
    (∃ s : State, ∃ mb : Fin 14, ∃ r : Req, Asks sheetSafeEnter mb r s ∧ getF (policyFld 0x16) s = 2 ∧ NotSafe 0x13 s ∧
      (s.dev.state = .staged ∨ s.dev.state = .live ∨ s.dev.state = .quiesce)) ∧
    (∃ s : State, ∃ mb : Fin 14, ∃ r : Req, Asks sheetSafeExit mb r s ∧ s.dev.state = .safe ∧ safeBlocks s = 0) ∧
    (∃ s : State, ∃ mb : Fin 14, ∃ r : Req, Asks sheetSafeExit mb r s ∧ (s.dev.state ≠ .safe ∨ safeBlocks s ≠ 0)) ∧
    (∃ s : State, ∃ mb : Fin 14, ∃ r : Req, Asks sheetSafetyPolicy mb r s) ∧
    (∃ s : State, ∃ mb : Fin 14, ∃ r : Req, Asks sheetGaugeRead mb r s) ∧
    (∃ s : State, ∃ mb : Fin 14, ∃ r : Req, Asks sheetGaugeLimits mb r s) :=
  ⟨⟨asking 5 0x0B01 ([]) (State.reset), 5, front (asking 5 0x0B01 ([]) (State.reset)), asks_of (by decide +kernel)⟩,
   ⟨asking 5 0x0B02 (pay [(4, 0x200005)]) (put [(LJ_ALARM_LATCH_ALARM, 3145733), (LJ_ALARM_ACT_ALARM, 4)] (State.reset)), 5,
     front (asking 5 0x0B02 (pay [(4, 0x200005)]) (put [(LJ_ALARM_LATCH_ALARM, 3145733), (LJ_ALARM_ACT_ALARM, 4)] (State.reset))),
     asks_of (by decide +kernel)⟩,
   ⟨asking 5 0x0B03 ([1, 2]) (at_ .live), 5, front (asking 5 0x0B03 ([1, 2]) (at_ .live)), asks_of (by decide +kernel), by decide +kernel,
     by unfold NotSafe; decide +kernel, by decide +kernel⟩,
   ⟨asking 13 0x0B04 ([]) (at_ .safe), 13, front (asking 13 0x0B04 ([]) (at_ .safe)), asks_of (by decide +kernel), by decide +kernel,
     by decide +kernel⟩,
   ⟨asking 13 0x0B04 ([]) (at_ .live), 13, front (asking 13 0x0B04 ([]) (at_ .live)), asks_of (by decide +kernel), by decide +kernel⟩,
   ⟨asking 13 0x0B05 ([1, 2]) (State.reset), 13, front (asking 13 0x0B05 ([1, 2]) (State.reset)), asks_of (by decide +kernel)⟩,
   ⟨asking 5 0x0B06 ([]) (State.reset), 5, front (asking 5 0x0B06 ([]) (State.reset)), asks_of (by decide +kernel)⟩,
   ⟨asking 13 0x0B07 ([60, 70, 80, 0]) (State.reset), 13, front (asking 13 0x0B07 ([60, 70, 80, 0]) (State.reset)), gaugeAsked⟩⟩

set_option maxRecDepth 20000 in
theorem witness_LineJudgeRows :
    (∃ s : State, ∃ c : Fin 22, NotSafe (c.val + 1) s ∧ NotSafe 0x13 s) ∧
    (∃ s : State, ∃ c : Fin 22, getF (policyFld (c.val + 1)) s = 2 ∧ NotSafe 0x13 s ∧
      (s.dev.state = .staged ∨ s.dev.state = .live ∨ s.dev.state = .quiesce)) ∧
    (∃ s : State, ∃ l : List (BitVec 12), NotSafe 0x10 s ∧ NotSafe 0x13 s ∧ l.length ≤ 16 ∧ ((∀ v ∈ l,
      signedOf v.toNat 12 ≤ 4 * getF LJ_TLIM_CRIT s))) ∧
    (∃ s : State, ∃ v : BitVec 12, NotSafe 0x10 s ∧ NotSafe 0x13 s ∧ getF (policyFld 0x11) s = 2 ∧ s.dev.state = .staged ∧
      bitOf (tempState 0 2 s) 0 = false ∧ bitOf (tempState 0 2 s) 1 = true ∧ 4 * getF LJ_TLIM_CRIT s < signedOf v.toNat 12) ∧
    (∃ s : State, ∃ l : List (BitVec 16), NotSafe 0x12 s ∧ NotSafe 0x13 s ∧ l.length ≤ 24) ∧
    (∃ s : State, ∃ x : SelfTestIn, NotSafe 0x13 s ∧ x.ok = true) ∧
    (∃ s : State, ∃ x : SelfTestIn, NotSafe 0x13 s ∧ NotSafe 0x15 s ∧ x.ok = false ∧ getF LJ_STATUS_SELFTEST_FAIL s = 0) ∧
    (∃ s : State, NotSafe 0x13 s ∧ NotSafe 0x14 s ∧ getF LJ_STATUS_GUARANTEE s ≤ 1) :=
  ⟨⟨put [(policyFld 22, 1)] (State.reset), 21, by unfold NotSafe; decide +kernel, by unfold NotSafe; decide +kernel⟩,
   ⟨put [(policyFld 22, 2)] (at_ .live), 21, by decide +kernel, by unfold NotSafe; decide +kernel, by decide +kernel⟩,
   ⟨{ State.reset with regs := [(fldKey LJ_TLIM_WARN, 90), (fldKey LJ_TLIM_LIMIT, 95), (fldKey LJ_TLIM_CRIT, 100)], lj := { State.reset.lj with temp := [(46, 2)] } }, List.replicate 15 0x100 ++ [0x17D], by unfold NotSafe; decide +kernel, by unfold NotSafe; decide +kernel, by decide +kernel, by decide +kernel⟩,
   ⟨{ State.reset with regs := [(fldKey LJ_TLIM_WARN, 90), (fldKey LJ_TLIM_LIMIT, 95), (fldKey LJ_TLIM_CRIT, 100)], lj := { State.reset.lj with temp := [(2, 2)] }, dev := { State.reset.dev with state := .staged } }, 0x7FF, by unfold NotSafe; decide +kernel, by unfold NotSafe; decide +kernel, by decide +kernel, by decide +kernel, by decide +kernel, by decide +kernel, by decide +kernel⟩,
   ⟨{ State.reset with lj := { State.reset.lj with rail := [(22, 1)] } }, List.replicate 22 900 ++ [1, 5], by unfold NotSafe; decide +kernel,
     by unfold NotSafe; decide +kernel, by decide +kernel⟩,
   ⟨State.reset, ⟨true, true, true⟩, by unfold NotSafe; decide +kernel, by decide +kernel⟩,
   ⟨State.reset, ⟨false, true, true⟩, by unfold NotSafe; decide +kernel, by unfold NotSafe; decide +kernel, by decide +kernel, by decide +kernel⟩,
   ⟨State.reset, by unfold NotSafe; decide +kernel, by unfold NotSafe; decide +kernel, by decide +kernel⟩⟩

end Sys2Proof.Tests
end

section
/-! SUPPORT. What a mailbox command's checks leave known of its request and of the state (R142), and what an answer leaves alone. -/

namespace Sys2Proof.Machine

/-- A sheet that refuses nothing has passed steps 6 to 8 of R142. -/
theorem sheetRefusal_none {sh : Sheet} {r : Req} {s : State} (h : sheetRefusal sh r s = none) :
    sh.args r s = none ∧ sh.state r s = none := by
  unfold sheetRefusal at h
  split at h
  · cases h
  · split at h
    · cases h
    · split at h
      · cases h
      · split at h
        · cases h
        · exact ⟨‹_›, ‹_›⟩

theorem Asks.args {sh : Sheet} {m : Nat} {r : Req} {s : State} (h : Asks sh m r s) : sh.args r (seqPop s) = none :=
  (sheetRefusal_none h.free).1

theorem Asks.state {sh : Sheet} {m : Nat} {r : Req} {s : State} (h : Asks sh m r s) : sh.state r (seqPop s) = none :=
  (sheetRefusal_none h.free).2

/-- Step 6 of R142 has passed: the length and the field values are the sheet's. -/
theorem argsLen_none {n : Nat} {ok : Req → Bool} {r : Req} (h : argsLen n ok r = none) : r.len = n ∧ ok r = true := by
  unfold argsLen at h
  split at h
  · assumption
  · cases h

/-! An answer and the Whistle leave every block but the mailbox's own as it is. -/

theorem Sealed.time {m : Nat} {s t : State} (h : Sealed m s t) : t.time = s.time := by
  obtain ⟨_, _, _, _, _, rfl⟩ := h.rest
  rfl
theorem Sealed.dev {m : Nat} {s t : State} (h : Sealed m s t) : t.dev = s.dev := by
  obtain ⟨_, _, _, _, _, rfl⟩ := h.rest
  rfl
theorem Sealed.fab {m : Nat} {s t : State} (h : Sealed m s t) : t.fab = s.fab := by
  obtain ⟨_, _, _, _, _, rfl⟩ := h.rest
  rfl
theorem Sealed.cfg {m : Nat} {s t : State} (h : Sealed m s t) : t.cfg = s.cfg := by
  obtain ⟨_, _, _, _, _, rfl⟩ := h.rest
  rfl

/-- A sheet that is asked and answers with an end: the state `t` reached holds the answer, and is `u` but for it. -/
theorem runs_answered {i : Instr} {sh : Sheet} {m : Nat} {r : Req} {s u : State} {p : List (BitVec 8)}
    (he : exec i s = fin (runSheet sh m s)) (h : Asks sh m r s) (hrun : sh.run r (seqPop s) = (replyOk p, u)) :
    ∃ t, Runs i s t ∧ Answered r stOk p false t ∧ Sealed m u t := by
  obtain ⟨ha, hs⟩ := runSheet_answers h (st := stOk) hrun (by decide)
  exact ⟨_, he, ha.whSettle, hs.trans (Sealed.whSettle m _)⟩

/-- The same for a sheet that accepts. -/
theorem runs_accepted {i : Instr} {sh : Sheet} {m : Nat} {r : Req} {s u : State} {args : List Nat} {data : List (BitVec 8)}
    (he : exec i s = fin (runSheet sh m s)) (h : Asks sh m r s) (hrun : sh.run r (seqPop s) = (replyAccepted args data, u)) :
    ∃ t, Runs i s t ∧ Answered r stAccepted [] true t ∧ Sealed m (withRunning r args data u) t := by
  obtain ⟨ha, hs⟩ := runSheet_accepts h hrun
  exact ⟨_, he, ha.whSettle, hs.trans (Sealed.whSettle m _)⟩

/-- A sheet that is asked and waits (R147) leaves what its run leaves, without an answer. -/
theorem runSheet_waits {sh : Sheet} {m : Nat} {r : Req} {s u : State} (h : Asks sh m r s)
    (hrun : sh.run r (seqPop s) = (replySt stWait, u)) : runSheet sh m s = u := by
  simp only [runSheet, h.head, h.mb, h.opcode, and_self, if_true, runReq, h.gate, seqPop_romOnly, h.rom, Bool.false_and,
    Bool.false_eq_true, if_false, h.free, hrun, replySt]

end Sys2Proof.Machine
end

section
/-! SUPPORT. Notes leave the list of enabled ports as it is: no register of theirs is an RP_CTRL (R321). -/

namespace Sys2Proof.Machine

theorem filterMap_tabDel {α β : Type} {g : Nat × α → Option β} {k : Nat} (h : ∀ v, g (k, v) = none) (t : Tab α) :
    (tabDel t k).filterMap g = t.filterMap g := by
  induction t with
  | nil => rfl
  | cons p t ih =>
    obtain ⟨a, v⟩ := p
    by_cases ha : a = k
    · subst ha
      simp [tabDel, ih, h]
    · simp [tabDel, ha, ih, List.filterMap_cons]

theorem filterMap_tabIns {α β : Type} {g : Nat × α → Option β} {k : Nat} {v : α} (h : g (k, v) = none) (t : Tab α) :
    (tabIns k v t).filterMap g = t.filterMap g := by
  induction t with
  | nil => simp [tabIns, h]
  | cons p t ih =>
    obtain ⟨a, u⟩ := p
    by_cases ha : k < a
    · simp [tabIns, ha, List.filterMap_cons, h]
    · simp [tabIns, ha, List.filterMap_cons, ih]

theorem filterMap_tabSet {α β : Type} [DecidableEq α] {g : Nat × α → Option β} {k : Nat} (h : ∀ v, g (k, v) = none) (d v : α)
    (t : Tab α) : (tabSet d t k v).filterMap g = t.filterMap g := by
  unfold tabSet
  split
  · exact filterMap_tabDel h t
  · rw [tabPut, filterMap_tabIns (h v), filterMap_tabDel h]

theorem enabledPorts_congr {s t : State} (h : t.regs = s.regs) : enabledPorts t = enabledPorts s := by
  simp only [enabledPorts, h]

/-- No register of `noteAddr` is an RP_CTRL. -/
theorem rpKeyPort_note {f : Fld} (hf : noteAddr f.addr) (hl : f.lo < 32) : rpKeyPort (fldKey f) = none := by
  have ha : fldKey f / 32 = f.addr := by simp only [fldKey]; omega
  unfold rpKeyPort
  rw [ha, if_neg]
  simp only [noteAddr] at hf
  omega

theorem enabledPorts_setNote {f : Fld} (hf : noteAddr f.addr) (hl : f.lo < 32) (v : Nat) (s : State) :
    enabledPorts (setF f v s) = enabledPorts s :=
  filterMap_tabSet (fun v => by simp [rpKeyPort_note hf hl]) _ _ _

theorem enabledPorts_bumpNote {f : Fld} (hf : noteAddr f.addr) (hl : f.lo < 32) (s : State) :
    enabledPorts (bumpF f s) = enabledPorts s := by
  unfold bumpF
  split
  · exact enabledPorts_setNote hf hl _ s
  · rfl

theorem enabledPorts_whenS {f : State → State} (h : ∀ s, enabledPorts (f s) = enabledPorts s) (b : Bool) (s : State) :
    enabledPorts (whenS b f s) = enabledPorts s := by
  unfold whenS
  split
  · exact h s
  · rfl

/-- What each step of a loop leaves alone, the loop leaves alone. -/
theorem forEach_keeps {α β : Type} (g : State → β) {f : α → State → State} {l : List α} (h : ∀ a ∈ l, ∀ s, g (f a s) = g s)
    (s : State) : g (forEach f l s) = g s := by
  induction l generalizing s with
  | nil => rfl
  | cons a l ih => exact (ih (fun b hb => h b (by simp [hb])) _).trans (h a (by simp) s)

/-- The Scorebook's event bits are notes. -/
theorem enabledPorts_sbStatus {f : Fld} (h : f.addr = 0x3F00A00004) (hl : f.lo < 32) (v : Nat) (s : State) :
    enabledPorts (setF f v s) = enabledPorts s := enabledPorts_setNote (.inl h) hl v s

theorem enabledPorts_sbAppend (r : Rec) (s : State) : enabledPorts (sbAppend r s) = enabledPorts s := by
  unfold sbAppend
  split
  · rfl
  · exact enabledPorts_bumpNote (f := SB_STATUS_LOST) (.inl rfl) (by decide) _

theorem enabledPorts_sbBuffer (r : Rec) (s : State) : enabledPorts (sbBuffer r s) = enabledPorts s := by
  rw [← enabledPorts_whenS (enabledPorts_sbStatus (f := SB_STATUS_WATCH_EV) rfl (by decide) 1) (sbWatched r.code s) s]
  dsimp only [sbBuffer]
  generalize whenS _ _ s = u
  split
  · rfl
  · split
    · rfl
    · split
      · rfl
      · exact enabledPorts_sbAppend r u

theorem enabledPorts_sbOpen (s : State) : enabledPorts (sbOpen s) = enabledPorts s := rfl

theorem enabledPorts_sbProgram (s : State) : enabledPorts (sbProgram false s) = enabledPorts s := by
  dsimp only [sbProgram]
  rw [if_neg (by decide), enabledPorts_whenS (enabledPorts_sbStatus (f := SB_STATUS_WATCH_EV) rfl (by decide) 1),
    enabledPorts_whenS (enabledPorts_sbStatus (f := SB_STATUS_LOST_EV) rfl (by decide) 1)]
  rfl

theorem enabledPorts_sbPages (all : Bool) (n : Nat) (s : State) : enabledPorts (sbPages all n s) = enabledPorts s := by
  induction n generalizing s with
  | zero => rfl
  | succ n ih =>
    unfold sbPages
    split
    · split
      · rw [ih, enabledPorts_sbOpen]
      · rw [ih, enabledPorts_sbProgram]
    · rfl

theorem enabledPorts_sbTimer (s : State) : enabledPorts (sbTimer s) = enabledPorts s := by
  unfold sbTimer
  split <;> rfl

@[simp] theorem enabledPorts_sbEvent (code : Nat) (vs : List (Nat × Nat)) (s : State) :
    enabledPorts (sbEvent code vs s) = enabledPorts s := by
  rw [sbEvent, sbFlush, enabledPorts_sbTimer, enabledPorts_sbPages, enabledPorts_sbBuffer]

theorem enabledPorts_noticeMsi (s : State) : enabledPorts (noticeMsi s) = enabledPorts s := by
  unfold noticeMsi
  split
  · split
    · rfl
    · exact enabledPorts_congr (msix_regs _ _)
  · rfl

theorem enabledPorts_ringWrite {r : Nat} (hr : r < 7) (code mb : Nat) (arg : List (BitVec 8)) (s : State) :
    enabledPorts (ringWrite r code mb arg s) = enabledPorts s := by
  have h (x : Tab (List (BitVec 8))) (v : Nat) :
      enabledPorts (setF (NOTICE_PROD_PROD (ringBox r)) v { s with mail := { s.mail with rings := x } }) = enabledPorts s :=
    enabledPorts_setNote (noteAddr_prod hr) (lo_prod _) v _
  dsimp only [ringWrite]
  split
  · rw [enabledPorts_noticeMsi, h]
  · exact h _ _

theorem enabledPorts_ringOverflow {r : Nat} (hr : r < 7) (s : State) : enabledPorts (ringOverflow r s) = enabledPorts s := by
  dsimp only [ringOverflow]
  split
  · rw [enabledPorts_ringWrite hr, enabledPorts_setNote (noteAddr_drop hr) (lo_drop _)]
  · rfl

theorem enabledPorts_ringPost {r : Nat} (hr : r < 7) (code mb : Nat) (arg : List (BitVec 8)) (s : State) :
    enabledPorts (ringPost r code mb arg s) = enabledPorts s := by
  rw [← enabledPorts_ringOverflow hr s]
  dsimp only [ringPost]
  generalize ringOverflow r s = u
  split
  · rw [enabledPorts_bumpNote (noteAddr_drop hr) (lo_drop _), enabledPorts_whenS (enabledPorts_sbEvent _ _)]
  · exact enabledPorts_ringWrite hr _ _ _ _

@[simp] theorem enabledPorts_notice (code mb : Nat) (arg : List (BitVec 8)) (s : State) :
    enabledPorts (notice code mb arg s) = enabledPorts s := by
  refine forEach_keeps enabledPorts (fun r hr s => ?_) s
  have : r < 7 := by have := mem_natsFrom.1 hr; omega
  split
  · exact enabledPorts_ringPost this _ _ _ _
  · rfl

@[simp] theorem enabledPorts_faultFollow (s : State) : enabledPorts (faultFollow s) = enabledPorts s := by
  unfold faultFollow
  split
  · rfl
  · exact (enabledPorts_sbEvent _ _ _).trans
      (enabledPorts_setNote (f := LJ_STATUS_FAULT_OUT) (by unfold noteAddr; decide) (by decide) _ s)

@[simp] theorem enabledPorts_setDevState (d : DevState) (c : Nat) (s : State) : enabledPorts (setDevState d c s) = enabledPorts s := by
  dsimp only [setDevState]
  rw [enabledPorts_faultFollow, enabledPorts_notice, enabledPorts_sbEvent]
  rfl

end Sys2Proof.Machine
end

section
/-! SUPPORT. The device state's moves (R14, R326): what a change of DEVICE_STATE, STAGED entry and the end of a drain leave of the
device's own record, where no port is enabled. -/

namespace Sys2Proof.Machine

/-- A change of DEVICE_STATE moves the device's own record; all else is notes. -/
theorem setDevState_noted (d : DevState) (c : Nat) (s : State) :
    ∃ x : Dev, x.state = d ∧ x.cause = c ∧ Noted { s with dev := x } (setDevState d c s) := by
  refine ⟨_, ?_, ?_, ((Noted.sbEvent 0x0110 [(1, c)] _).trans (Noted.notice _ _ _ _)).trans (Noted.faultFollow _)⟩ <;> rfl

@[simp] theorem setDevState_state (d : DevState) (c : Nat) (s : State) : (setDevState d c s).dev.state = d := by
  obtain ⟨x, hd, -, n⟩ := setDevState_noted d c s
  rw [n.dev, hd]

@[simp] theorem setDevState_cause (d : DevState) (c : Nat) (s : State) : (setDevState d c s).dev.cause = c := by
  obtain ⟨x, -, hc, n⟩ := setDevState_noted d c s
  rw [n.dev, hc]

@[simp] theorem setDevState_us (d : DevState) (c : Nat) (s : State) : (setDevState d c s).time.us = s.time.us := by
  obtain ⟨x, -, -, n⟩ := setDevState_noted d c s
  exact n.us

/-- With no port enabled, STAGED entry is the change of DEVICE_STATE with the pins off. -/
theorem enterStaged_noPorts {s : State} (h : enabledPorts s = []) (c : Nat) :
    enterStaged c s = pinsOff (setDevState .staged c s) := by
  rw [enterStaged, portsFollow, enabledPorts_setDevState, h]
  rfl

/-- With no port enabled, STAGED entry leaves the device in STAGED for its cause. -/
theorem enterStaged_dev {s : State} (h : enabledPorts s = []) (c : Nat) :
    (enterStaged c s).dev.state = .staged ∧ (enterStaged c s).dev.cause = c := by
  rw [enterStaged_noPorts h]
  exact ⟨setDevState_state _ _ _, setDevState_cause _ _ _⟩

/-- Outputs are off in STAGED (R16). -/
theorem outputsOn_staged {s : State} (h : s.dev.state = .staged) : outputsOn s = false := by
  simp [outputsOn, h]

theorem ringWrite_dev (r code mb : Nat) (arg : List (BitVec 8)) (s : State) : (ringWrite r code mb arg s).dev = s.dev := by
  dsimp only [ringWrite]
  split
  · exact (Noted.noticeMsi _).dev
  · rfl

theorem ringOverflow_dev (r : Nat) (s : State) : (ringOverflow r s).dev = s.dev := by
  dsimp only [ringOverflow]
  split
  · exact ringWrite_dev _ _ _ _ _
  · rfl

/-- A notice to any ring, one that no mailbox has too, leaves the device state alone. -/
theorem ringPost_dev (r code mb : Nat) (arg : List (BitVec 8)) (s : State) : (ringPost r code mb arg s).dev = s.dev := by
  rw [← ringOverflow_dev r s]
  dsimp only [ringPost]
  generalize ringOverflow r s = u
  split
  · rw [bumpF_dev]
    exact (Noted.whenS (Noted.sbEvent _ _) _ u).dev
  · exact ringWrite_dev _ _ _ _ _

@[simp] theorem asyncEnd_dev (op st detail : Nat) (p : List (BitVec 8)) (s : State) : (asyncEnd op st detail p s).dev = s.dev := by
  unfold asyncEnd
  split
  · rfl
  · exact ringPost_dev _ _ _ _ _

@[simp] theorem endDrain_dev (st : Nat) (s : State) : (endDrain st s).dev = s.dev := asyncEnd_dev 0x0105 st 0 [] s

/-- A drain that has ended has no timer. -/
theorem timerOn_endDrain (st : Nat) (s : State) : timerOn 3 (endDrain st s) = false := timerOn_stopTimer tmDrain _

/-- A drain that ends in STAGED with no port enabled: the device state, the timer of DRAIN_MS and the outputs. -/
theorem endDrain_enterStaged {s : State} (h : enabledPorts s = []) (st c : Nat) :
    (whSettle (endDrain st (enterStaged c s))).dev.state = .staged ∧ (whSettle (endDrain st (enterStaged c s))).dev.cause = c ∧
      timerOn 3 (whSettle (endDrain st (enterStaged c s))) = false ∧ outputsOn (whSettle (endDrain st (enterStaged c s))) = false := by
  obtain ⟨hstate, hcause⟩ := enterStaged_dev h c
  rw [← endDrain_dev st, ← whSettle_dev] at hstate hcause
  refine ⟨hstate, hcause, ?_, outputsOn_staged hstate⟩
  rw [timerOn, whSettle_time]
  exact timerOn_endDrain st _

/-- With no OUTPUTS_ON pending there is none to cancel. -/
theorem cancelOn_none {s : State} (hat : s.dev.onAt = none) (hnext : s.dev.onNext = none) : cancelOn s = s := by
  simp only [cancelOn, endNext, hnext, hat]

end Sys2Proof.Machine
end

section
/-! The outputs' commands and the drain (R14, R16, R172, R326), clause by clause. -/

namespace Sys2Proof.Machine

/-- OUTPUTS_ON runs in STAGED alone. -/
theorem outputsOn_asks_staged {m : Nat} {r : Req} {s : State} (h : Asks sheetOutputsOn m r s) : s.dev.state = .staged := by
  have hst : (if (seqPop s).dev.state = .staged then none else some stWrongState) = none := h.state
  rw [seqPop_dev] at hst
  by_contra hne
  rw [if_neg hne] at hst
  cases hst

/-- OUTPUTS_ON of MODE 1 is accepted and waits for its turn (R172). -/
theorem outputsOn_mode1 {s : State} {mb : Fin 14} {r : Req} (h : Asks sheetOutputsOn mb r s) (hat : s.dev.onAt = none)
    (hm : arg r 0 1 = 1) :
    Accepts (.outputsOn mb) mb r [] [] s { seqPop s with dev := { s.dev with onAt := some (arg r 2 6) } } := by
  have hrun : sheetOutputsOn.run r (seqPop s) =
      (replyAccepted [] [], { seqPop s with dev := { s.dev with onAt := some (arg r 2 6) } }) := by
    simp [sheetOutputsOn, plainSheet, hat, hm]
  exact accepts_fin rfl h hrun (Noted.refl _)

/-- OUTPUTS_ON of MODE 0 holds the sequencer for its mailbox (R172; log entry 62). -/
theorem outputsOn_mode0 {s : State} {mb : Fin 14} {r : Req} (h : Asks sheetOutputsOn mb r s) (hat : s.dev.onAt = none)
    (hm : arg r 0 1 = 0) : Does (.outputsOn mb) s { seqPop s with dev := { s.dev with onNext := some mb } } := by
  have hrun : sheetOutputsOn.run r (seqPop s) =
      (replySt stWait, { seqPop s with dev := { s.dev with onNext := some mb } }) := by
    simp [sheetOutputsOn, plainSheet, hat, hm, h.mb]
  exact does_fin rfl (noted_of_eq (runSheet_waits h hrun))

/-- OUTPUTS_OFF where outputs are off and no OUTPUTS_ON is pending only answers. -/
theorem outputsOff_idle {s : State} {mb : Fin 14} {r : Req} (h : Asks sheetOutputsOff mb r s) (hat : s.dev.onAt = none)
    (hnext : s.dev.onNext = none) (hl : s.dev.state ≠ .live) (hq : s.dev.state ≠ .quiesce) :
    Oks (.outputsOff mb) mb r [] s (seqPop s) := by
  have hrun : sheetOutputsOff.run r (seqPop s) = (replyOk [], seqPop s) := by
    simp only [sheetOutputsOff, plainSheet, cancelOn_none (s := seqPop s) (by simpa using hat) (by simpa using hnext), seqPop_dev]
  exact oks_fin rfl h hrun (Noted.refl _) rfl

/-- OUTPUTS_OFF in LIVE leads to STAGED, with outputs off (R14, R16). -/
theorem outputsOff_live {s : State} {mb : Fin 14} {r : Req} (h : Asks sheetOutputsOff mb r s) (hat : s.dev.onAt = none)
    (hnext : s.dev.onNext = none) (hl : s.dev.state = .live) (hp : enabledPorts s = []) :
    ∃ t, Runs (.outputsOff mb) s t ∧ Answered r stOk [] false t ∧ t.dev.state = .staged ∧ t.dev.cause = 1 ∧ outputsOn t = false := by
  have hrun : sheetOutputsOff.run r (seqPop s) = (replyOk [], enterStaged 1 (seqPop s)) := by
    simp only [sheetOutputsOff, plainSheet, cancelOn_none (s := seqPop s) (by simpa using hat) (by simpa using hnext), seqPop_dev, hl]
  obtain ⟨t, hruns, hans, hsealed⟩ := runs_answered (i := .outputsOff mb) rfl h hrun
  obtain ⟨hstate, hcause⟩ := enterStaged_dev ((enabledPorts_congr (seqPop_regs s)).trans hp) 1
  rw [← hsealed.dev] at hstate hcause
  exact ⟨t, hruns, hans, hstate, hcause, outputsOn_staged hstate⟩

/-- QUIESCE in LIVE starts the drain and its timer (R326). -/
theorem quiesce_live {s : State} {mb : Fin 14} {r : Req} (h : Asks sheetQuiesce mb r s) (hl : s.dev.state = .live) :
    ∃ t, Runs (.quiesce mb) s t ∧ Answered r stAccepted [] true t ∧ t.dev.state = .quiesce ∧
      tabFind t.time.deadlines 3 = some (s.time.us + (if arg r 0 2 = 0 then 100 else arg r 0 2) * 1000) := by
  have hrun : sheetQuiesce.run r (seqPop s) =
      (replyAccepted [] [], startFirm tmDrain (drainMs r * 1000) (setDevState .quiesce 1 (seqPop s))) := by
    simp [sheetQuiesce, plainSheet, hl]
  obtain ⟨t, hruns, hans, hsealed⟩ := runs_accepted (i := .quiesce mb) rfl h hrun
  refine ⟨t, hruns, hans, ?_, ?_⟩
  · rw [hsealed.dev]
    exact setDevState_state .quiesce 1 (seqPop s)
  · rw [hsealed.time]
    have hdue := deadline_startTimer tmDrain (drainMs r * 1000) (setDevState .quiesce 1 (seqPop s))
    rw [setDevState_us, seqPop_time] at hdue
    exact hdue

/-- DRAIN_COMPLETE at a slot boundary leads to STAGED (R326). -/
theorem drainComplete_staged {s : State} (hq : s.dev.state = .quiesce) (hb : atSlotBoundary s = true) (hp : enabledPorts s = []) :
    ∃ t, Runs .drainComplete s t ∧ t.dev.state = .staged ∧ t.dev.cause = 4 ∧ timerOn 3 t = false ∧ outputsOn t = false := by
  have hall : allDrained s = true := by simp [allDrained, hp]
  have hrun : exec .drainComplete s = fin (endDrain stOk (enterStaged 4 s)) := congrArg fin (if_pos ⟨hq, hb, hall⟩)
  exact ⟨_, hrun, endDrain_enterStaged hp stOk 4⟩

/-- The drain's timeout forces outputs off (R14). -/
theorem quiesceDrainTimeout_staged {s : State} (hq : s.dev.state = .quiesce) (ht : timerOn 3 s = true) (hp : enabledPorts s = []) :
    ∃ t, Runs .quiesceDrainTimeout s t ∧ t.dev.state = .staged ∧ t.dev.cause = 6 ∧ timerOn 3 t = false ∧ outputsOn t = false := by
  have hrun : exec .quiesceDrainTimeout s = fin (endDrain stTimeout (enterStaged 6 (expire tmDrain s))) :=
    congrArg fin (if_pos ⟨hq, ht⟩)
  exact ⟨_, hrun, endDrain_enterStaged (s := expire tmDrain s) hp stTimeout 6⟩

/-- DEVICE_RESET with none due yet arms the reset (R83). -/
theorem deviceReset_arms {s : State} {mb : Fin 14} {r : Req} (h : Asks sheetDeviceReset mb r s) (ht : timerOn 10 s = false) :
    Oks (.deviceReset mb) mb r [] s
      (startTimer 10 (arg r 0 2 * 1000) { seqPop s with dev := { s.dev with resetDue := true } }) := by
  have hnone : tabFind s.time.deadlines 10 = none := by simpa [timerOn] using ht
  have hrun : sheetDeviceReset.run r (seqPop s) =
      (replyOk [], startTimer 10 (arg r 0 2 * 1000) { seqPop s with dev := { s.dev with resetDue := true } }) := by
    simp [sheetDeviceReset, plainSheet, hnone, tmReset]
  exact oks_fin rfl h hrun (Noted.refl _) rfl

/-- Settles O22: each clause is the lemma of its command above. -/
theorem outputCommands : Obligations.OutputCommands := by
  unfold Obligations.OutputCommands
  exact ⟨fun _ _ _ h hat => ⟨outputsOn_asks_staged h, outputsOn_mode1 h hat, outputsOn_mode0 h hat⟩,
    fun _ _ _ h hat hnext => ⟨outputsOff_idle h hat hnext, outputsOff_live h hat hnext⟩,
    fun _ _ _ => quiesce_live, fun _ => drainComplete_staged, fun _ => quiesceDrainTimeout_staged,
    fun _ _ _ => deviceReset_arms⟩

end Sys2Proof.Machine
end

section
/-! SUPPORT. Cutting a range of keys out of a table, and clearing register fields in a row. -/

namespace Sys2Proof.Machine

theorem tabFind_eq_none {α : Type} {t : Tab α} {k : Nat} (h : ∀ p ∈ t, p.1 ≠ k) : tabFind t k = none := by
  induction t with
  | nil => rfl
  | cons p t ih =>
    simp only [tabFind, h p (by simp), if_false]
    exact ih fun q hq => h q (by simp [hq])

/-- No key of the range that was cut is listed. -/
theorem tabFind_tabCut_inside {α : Type} {lo hi k : Nat} (t : Tab α) (h : lo ≤ k) (h' : k < hi) :
    tabFind (tabCut lo hi t) k = none := by
  refine tabFind_eq_none fun p hp => ?_
  have := (List.mem_filter.1 hp).2
  simp only [Bool.or_eq_true, decide_eq_true_eq] at this
  omega

/-- Keys outside the range that was cut read as before. -/
theorem tabFind_tabCut_outside {α : Type} {lo hi k : Nat} (t : Tab α) (h : k < lo ∨ hi ≤ k) :
    tabFind (tabCut lo hi t) k = tabFind t k := by
  induction t with
  | nil => rfl
  | cons p t ih =>
    obtain ⟨a, v⟩ := p
    rw [tabCut] at ih ⊢
    by_cases ha : a = k
    · subst ha
      simp [tabFind, h]
    · by_cases hc : (decide (a < lo) || decide (hi ≤ a)) = true <;> simp [tabFind, hc, ha, ih]

theorem leBytes_zero (n : Nat) : leBytes n 0 = List.replicate n 0 := by
  induction n with
  | zero => rfl
  | succ n ih => simp [leBytes, ih, List.replicate_succ]

/-- A clear field with reset value 0 stays clear where any field is cleared. -/
theorem getF_setF_zero {f : Fld} (hf : f.rst = 0) (g : Fld) {s : State} (h : getF f s = 0) : getF f (setF g 0 s) = 0 := by
  by_cases hk : fldKey f = fldKey g
  · by_cases hg : g.rst = 0
    · simp [getF, setF, tabSet, hk, hg, hf]
    · simp [getF, setF, tabSet, hk, Ne.symm hg]
  · rw [getF_setF_other _ _ hk, h]

/-- Clearing a row of fields clears each of them whose reset value is 0. -/
theorem getF_clearAll {f : Fld} (hf : f.rst = 0) {l : List Fld} {s : State} (h : f ∈ l ∨ getF f s = 0) :
    getF f (forEach (fun g s => setF g 0 s) l s) = 0 := by
  induction l generalizing s with
  | nil => exact h.resolve_left (by simp)
  | cons g l ih =>
    refine ih ?_
    rcases h with hm | hz
    · rcases List.mem_cons.1 hm with rfl | hm
      · exact .inr (by simp [getF_setF_same])
      · exact .inl hm
    · exact .inr (getF_setF_zero hf g hz)

end Sys2Proof.Machine
end

section
/-! SUPPORT. What leaves the regions alone: their registers (RGN_, FP_, MEM_, POWER) and the fabric's own state. Notes, answers and
packets that enter the network do. -/

namespace Sys2Proof.Machine

/-- The addresses of the regions' own registers (spec/06, spec/07). -/
def regionAddr (a : Nat) : Prop := 0x3F00810000 ≤ a ∧ a < 0x3F00825000

/-- Two states have the same region registers and the same fabric. -/
structure RegionsKept (s t : State) : Prop where
  regs : ∀ f : Fld, f.lo < 32 → regionAddr f.addr → getF f t = getF f s
  fab : t.fab = s.fab

theorem RegionsKept.ofEq {s t : State} (hr : t.regs = s.regs) (hf : t.fab = s.fab) : RegionsKept s t :=
  ⟨fun f _ _ => getF_congr hr f, hf⟩

theorem RegionsKept.refl (s : State) : RegionsKept s s := .ofEq rfl rfl

theorem RegionsKept.trans {s t u : State} (h : RegionsKept s t) (k : RegionsKept t u) : RegionsKept s u :=
  ⟨fun f hl ha => (k.regs f hl ha).trans (h.regs f hl ha), k.fab.trans h.fab⟩

theorem Noted.regionsKept {s t : State} (h : Noted s t) : RegionsKept s t :=
  ⟨fun f hl ha => h.regs f hl (by simp only [noteAddr, regionAddr] at ha ⊢; omega), h.fab⟩

theorem Sealed.regionsKept {m : Nat} {s t : State} (h : Sealed m s t) (hm : m < 14) : RegionsKept s t := by
  refine ⟨fun f hl ha => h.regs f hl ?_ ?_, h.fab⟩
  all_goals
    simp only [regionAddr, MB_STATUS_BUSY, MB_LAST_SEQ] at ha ⊢
    omega

theorem RegionsKept.noted {s t u : State} (h : RegionsKept s t) (n : Noted t u) : RegionsKept s u := h.trans n.regionsKept

/-- A register outside the regions' own is written. -/
theorem RegionsKept.setF {s t : State} (h : RegionsKept s t) {f : Fld} (ha : ¬ regionAddr f.addr) (hl : f.lo < 32) (v : Nat) :
    RegionsKept s (setF f v t) := by
  refine h.trans ⟨fun g hg hr => getF_setF_other v t fun he => ?_, rfl⟩
  have : g.addr = f.addr := by simp only [fldKey] at he; omega
  exact ha (this ▸ hr)

/-- The network's own state changes. -/
theorem RegionsKept.ofNoc (s : State) (x : Noc) : RegionsKept s { s with noc := x } := .ofEq rfl rfl

theorem RegionsKept.forEach {α : Type} {f : α → State → State} {l : List α} (h : ∀ a ∈ l, ∀ s, RegionsKept s (f a s)) (s : State) :
    RegionsKept s (forEach f l s) := by
  induction l generalizing s with
  | nil => exact .refl s
  | cons a l ih => exact (h a (by simp) s).trans (ih (fun b hb => h b (by simp [hb])) _)

theorem not_regionAddr_ptraceStatus : ¬ regionAddr 0x3F00580804 := by simp [regionAddr]

/-- A rate-limited event is written, or not. -/
theorem RegionsKept.oncePerSecond {s t : State} (h : RegionsKept s t) (k code : Nat) (vs : List (Nat × Nat)) :
    RegionsKept s (oncePerSecond k (sbEvent code vs) t) := by
  unfold Machine.oncePerSecond atMostOnce
  split
  · exact (h.trans (u := rateMark k t) (.ofEq rfl rfl)).noted (Noted.sbEvent code vs _)
  · exact h

/-- A probe writes its trace record. -/
theorem RegionsKept.traceWrite (p : Nat) (k : Pkt) (s : State) : RegionsKept s (traceWrite p k s) := by
  have hw (x : Noc) (v : Nat) : RegionsKept s (Machine.setF PTRACE_STATUS_WPTR v (useFree { s with noc := x })) :=
    RegionsKept.setF (s := s) (t := useFree { s with noc := x }) (.ofEq rfl rfl) (f := PTRACE_STATUS_WPTR) not_regionAddr_ptraceStatus
      (by decide) v
  dsimp only [Machine.traceWrite]
  split
  · exact .refl s
  · split
    · exact hw _ _
    · split
      · exact (((hw _ 0).setF (f := PTRACE_STATUS_WRAPPED) not_regionAddr_ptraceStatus (by decide) 1).noted
          (Noted.whRaise (id := 104) (by decide) _)).oncePerSecond _ _ _
      · exact (hw _ _).setF (f := PTRACE_STATUS_FULL) not_regionAddr_ptraceStatus (by decide) _

theorem RegionsKept.probeThreshold {p : Nat} (hp : p < 32) (s : State) : RegionsKept s (probeThreshold p s) := by
  have hid : probeSource p < 512 := by unfold probeSource; omega
  dsimp only [Machine.probeThreshold]
  split
  · exact (RegionsKept.ofNoc s _).noted (Noted.whRaise hid _)
  · exact .refl s

/-- Probes count and trace a packet that passes them. -/
theorem RegionsKept.probesSee (k : Pkt) (s : State) : RegionsKept s (probesSee k s) := by
  dsimp only [Machine.probesSee]
  generalize hu : Machine.forEach _ _ s = u
  have hcount : RegionsKept s u := by
    rw [← hu]
    refine .forEach (fun p hp s => RegionsKept.trans ?_ (.probeThreshold ?_ _)) s
    · split <;> exact .ofEq rfl rfl
    · have := mem_natsFrom.1 (List.mem_filter.1 (List.mem_filter.1 hp).1).1
      omega
  split
  · exact hcount
  · exact hcount.trans ((RegionsKept.traceWrite _ k u).trans (.ofEq rfl rfl))

/-- A packet enters the network. -/
theorem RegionsKept.inject (k : Pkt) (s : State) : RegionsKept s (inject k s) :=
  (RegionsKept.ofNoc s _).trans (.probesSee _ _)

/-- A target request is answered TARGET_ERROR. -/
theorem RegionsKept.tgtError (x : TReq) (s : State) : RegionsKept s (tgtError x s) := by
  unfold Machine.tgtError
  split
  · exact .refl s
  · exact .inject _ s

end Sys2Proof.Machine
end

section
/-! SUPPORT. A fabric port under isolation and release (R201, R206, R207), and a region's loss of power (R209). -/

namespace Sys2Proof.Machine

theorem RegionsKept.fpState {s t : State} (h : RegionsKept s t) {g : Nat} (hg : g < 80) : fpState g t = fpState g s :=
  h.regs _ (by simp [FP_STATUS_STATE]) (by simp only [regionAddr, FP_STATUS_STATE]; omega)

theorem RegionsKept.fpCause {s t : State} (h : RegionsKept s t) {g : Nat} (hg : g < 80) : fpCause g t = fpCause g s :=
  h.regs _ (by simp [FP_STATUS_CAUSE]) (by simp only [regionAddr, FP_STATUS_CAUSE]; omega)

theorem RegionsKept.fpTargets {s t : State} (h : RegionsKept s t) (g : Nat) : fpTargets g t = fpTargets g s := by
  simp only [Machine.fpTargets, h.fab]

theorem RegionsKept.fpEra {s t : State} (h : RegionsKept s t) (g : Nat) : fpEra g t = fpEra g s := by
  simp only [Machine.fpEra, h.fab]

/-! Setting STATE and CAUSE of one port. -/

theorem fpState_fpSet_same (g st c : Nat) (s : State) : fpState g (fpSet g st c s) = st % 8 := by
  rw [fpState, fpSet, getF_setF_other _ _ (by simp only [fldKey, FP_STATUS_STATE, FP_STATUS_CAUSE]; omega), getF_setF_same]
  rfl

theorem fpCause_fpSet_same (g st c : Nat) (s : State) : fpCause g (fpSet g st c s) = c % 8 := by
  rw [fpCause, fpSet, getF_setF_same]
  rfl

/-- Every field outside FP_STATUS of the port reads as before. -/
theorem getF_fpSet_other {f : Fld} {g : Nat} (st c : Nat) (s : State) (h : f.addr ≠ (FP_STATUS_STATE g).addr) (hl : f.lo < 32) :
    getF f (fpSet g st c s) = getF f s := by
  simp only [FP_STATUS_STATE] at h
  rw [fpSet, getF_setF_other, getF_setF_other]
  all_goals
    simp only [fldKey, FP_STATUS_STATE, FP_STATUS_CAUSE]
    omega

theorem fpTargets_fpSetTargets_same (g : Nat) (l : List TReq) (s : State) : fpTargets g (fpSetTargets g l s) = l := by
  simp [fpTargets, fpSetTargets]

theorem fpTargets_fpSetTargets_other {g a : Nat} (l : List TReq) (s : State) (h : a ≠ g) :
    fpTargets a (fpSetTargets g l s) = fpTargets a s := by
  simp [fpTargets, fpSetTargets, h]

theorem popsDiscard_regs (r : Nat) (s : State) : (popsDiscard r s).regs = s.regs := by
  refine forEach_keeps State.regs (fun c _ s => ?_) _
  split <;> rfl

/-- Discarding pops changes the fabric in the pops it holds alone. -/
theorem popsDiscard_fab (r : Nat) (s : State) : ∃ x, (popsDiscard r s).fab = { s.fab with heldPops := x } := by
  refine ⟨_, (forEach_keeps State.fab (fun c _ s => ?_) _)⟩
  split <;> rfl

/-- Isolation has begun at port `g` with cause `c` (R201, R207): the port is ISOLATED, its requests have ended, responses of the period
before are void, and no other port has changed. -/
structure IsolatedBy (c g : Nat) (s t : State) : Prop where
  state : fpState g t = 3
  cause : fpCause g t = c
  targets : fpTargets g t = []
  era : fpEra g t = fpEra g s + 1
  others : ∀ h < 80, h ≠ g → fpState h t = fpState h s ∧ fpTargets h t = fpTargets h s

/-- An isolation outlives what leaves the regions alone. -/
theorem IsolatedBy.kept {c g : Nat} {s t u : State} (h : IsolatedBy c g s t) (hg : g < 80) (k : RegionsKept t u) : IsolatedBy c g s u where
  state := (k.fpState hg).trans h.state
  cause := (k.fpCause hg).trans h.cause
  targets := (k.fpTargets g).trans h.targets
  era := (k.fpEra g).trans h.era
  others a ha hne := ⟨(k.fpState ha).trans (h.others a ha hne).1, (k.fpTargets a).trans (h.others a ha hne).2⟩

/-- Discarding the pops that a region holds does not touch an isolation. -/
theorem IsolatedBy.popsDiscard {c g : Nat} {s t : State} (h : IsolatedBy c g s t) (r : Nat) : IsolatedBy c g s (popsDiscard r t) := by
  obtain ⟨x, hx⟩ := popsDiscard_fab r t
  have hreg (f : Fld) : getF f (Machine.popsDiscard r t) = getF f t := getF_congr (popsDiscard_regs r t) f
  have htgt (a : Nat) : fpTargets a (Machine.popsDiscard r t) = fpTargets a t := by simp only [fpTargets, hx]
  have hera : fpEra g (Machine.popsDiscard r t) = fpEra g t := by simp only [fpEra, hx]
  exact ⟨(hreg _).trans h.state, (hreg _).trans h.cause, (htgt g).trans h.targets, hera.trans h.era,
    fun a ha hne => ⟨(hreg _).trans (h.others a ha hne).1, (htgt a).trans (h.others a ha hne).2⟩⟩

/-- The first steps of an isolation: FP_STATUS, a new period, no target requests. -/
theorem isolatedBy_fpSet {c g : Nat} (hc : c < 8) (s : State) :
    IsolatedBy c g s (fpSetTargets g [] { fpSet g fpIsolated c s with fab := { s.fab with era := tabUpd 0 s.fab.era g (· + 1) } }) where
  state := fpState_fpSet_same g fpIsolated c s
  cause := (fpCause_fpSet_same g fpIsolated c s).trans (Nat.mod_eq_of_lt hc)
  targets := fpTargets_fpSetTargets_same g [] _
  era := by simp [fpEra, fpSetTargets, tabUpd]
  others a _ hne := ⟨getF_fpSet_other fpIsolated c s (by simp only [FP_STATUS_STATE]; omega) (by simp [FP_STATUS_STATE]),
    fpTargets_fpSetTargets_other [] { fpSet g fpIsolated c s with fab := _ } hne⟩

/-- Isolation for COMMAND begins where nothing isolates the port, or a swap does (R201). -/
theorem fabIsolate_command {g : Nat} {s : State} (hg : g < 80) (h : fpCause g s = 0 ∨ fpCause g s = 2) :
    IsolatedBy 1 g s (fabIsolate g fcCommand s) := by
  rw [fabIsolate, if_neg (by simp only [fcAsleep, fcCommand, fcFence]; omega)]
  have htgt := (isolatedBy_fpSet (g := g) (c := fcCommand) (by decide) s).kept hg
    (.forEach (l := fpTargets g s) (fun x _ => RegionsKept.tgtError x) _)
  exact (htgt.popsDiscard g).kept hg (Noted.whenS (Noted.sbEvent _ _) _ _).regionsKept

/-- FENCE and ASLEEP are not overridden by COMMAND (R201; log entry 74), nor does COMMAND begin again. -/
theorem fabIsolate_command_held {g : Nat} {s : State} (h : fpCause g s = 4 ∨ fpCause g s = 3 ∨ fpCause g s = 1) :
    fabIsolate g fcCommand s = s := by
  rw [fabIsolate, if_pos (by simp only [fcAsleep, fcCommand, fcFence]; omega)]

theorem fpFree_lt (g : Nat) (s : State) : fpFree g s < 8 := by
  unfold fpFree
  split <;> decide

/-- Isolation has ended at port `g` (R207): the port has its free state, it is not fenced, and its tags are free. -/
structure ReleasedAt (g free : Nat) (t : State) : Prop where
  cause : fpCause g t = 0
  state : fpState g t = free
  fenced : getF (RGN_STATUS_FENCED g) t = 0
  tags : ∀ k < 64, tabFind t.fab.tags (64 * g + k) = none

theorem ReleasedAt.kept {g free : Nat} {s t : State} (h : ReleasedAt g free s) (hg : g < 80) (k : RegionsKept s t) :
    ReleasedAt g free t where
  cause := (k.fpCause hg).trans h.cause
  state := (k.fpState hg).trans h.state
  fenced := (k.regs _ (by simp [RGN_STATUS_FENCED]) (by simp only [regionAddr, RGN_STATUS_FENCED]; omega)).trans h.fenced
  tags := by rw [k.fab]; exact h.tags

/-- The steps of a release that touch the port's own fields. -/
theorem releasedAt_fpSet {g : Nat} (hg : g < 80) (s : State) :
    ReleasedAt g (fpFree g s) (fpFreeTags g (fpSet g (fpFree g s) fcNone (setF (RGN_STATUS_FENCED g) 0 s))) where
  cause := fpCause_fpSet_same g (fpFree g s) fcNone _
  state := (fpState_fpSet_same g (fpFree g s) fcNone _).trans (Nat.mod_eq_of_lt (fpFree_lt g s))
  fenced := by
    refine (getF_fpSet_other (fpFree g s) fcNone _ ?_ (by simp [RGN_STATUS_FENCED])).trans (getF_setF_same _ 0 s)
    simp only [RGN_STATUS_FENCED, FP_STATUS_STATE]
    omega
  tags k hk := tabFind_tabCut_inside _ (by omega) (by omega)

/-- A release ends the isolation, whether or not the region has been loaded meanwhile (R224). -/
theorem fabRelease_released {g : Nat} (hg : g < 80) (s : State) : ReleasedAt g (fpFree g s) (fabRelease g s) := by
  dsimp only [fabRelease]
  generalize hu : whenS (s.fab.fresh.contains g) _ s = u
  have hfree : fpFree g u = fpFree g s := by
    rw [← hu, whenS]
    split <;> rfl
  have hrel := releasedAt_fpSet hg u
  rw [hfree] at hrel ⊢
  refine hrel.kept hg (RegionsKept.noted ?_ (Noted.sbEvent _ _ _))
  split
  · exact .refl _
  · exact (Noted.alarmGone _ _).regionsKept

/-- Region `g` has lost power (R209): its port is ASLEEP, POWER.ON reads 0, and both planes are clear. -/
structure PoweredOff (g : Nat) (t : State) : Prop where
  state : fpState g t = 4
  cause : fpCause g t = 4
  power : getF (POWER_ON g) t = 0
  off : t.fab.off.contains g = true
  frames : ∀ p < 2, ∀ f < 2304, frameBytes p g f t = List.replicate 512 0

theorem PoweredOff.kept {g : Nat} {s t : State} (h : PoweredOff g s) (hg : g < 80) (k : RegionsKept s t) (hc : t.cfg = s.cfg) :
    PoweredOff g t where
  state := (k.fpState hg).trans h.state
  cause := (k.fpCause hg).trans h.cause
  power := (k.regs _ (by simp [POWER_ON]) (by simp only [regionAddr, POWER_ON]; omega)).trans h.power
  off := by rw [k.fab]; exact h.off
  frames p hp f hf := by rw [frameBytes, hc]; exact h.frames p hp f hf

/-- Clearing a plane takes its frames, and those of no other plane, out of the table. -/
theorem planeClear_frames (p r : Nat) (s : State) :
    (planeClear p r s).cfg.frames = tabCut (frameKey p r 0) (frameKey p (r + 1) 0) s.cfg.frames := rfl

/-- A frame of either plane is zero once both planes of its region have been cleared (R213). -/
theorem planesClear_frame {p g f : Nat} (hp : p < 2) (hf : f < 2304) (s : State) :
    tabFind (planeClear 1 g (planeClear 0 g s)).cfg.frames (frameKey p g f) = none := by
  rw [planeClear_frames, planeClear_frames]
  have hcases : p = 0 ∨ p = 1 := by omega
  rcases hcases with rfl | rfl
  · rw [tabFind_tabCut_outside _ (.inl (by simp only [frameKey]; omega))]
    exact tabFind_tabCut_inside _ (by simp only [frameKey]; omega) (by simp only [frameKey]; omega)
  · exact tabFind_tabCut_inside _ (by simp only [frameKey]; omega) (by simp only [frameKey]; omega)

/-- A region that loses power while no load runs (R209). -/
theorem regionOff_poweredOff {g : Nat} {s : State} (hg : g < 80) (hl : s.cfg.load = none) : PoweredOff g (regionOff g s) := by
  have hload : loadOff g s = s := by simp only [loadOff, hl]
  dsimp only [regionOff]
  rw [hload]
  refine PoweredOff.kept ?_ hg (Noted.sbEvent _ _ _).regionsKept (Noted.sbEvent _ _ _).cfg
  exact {
    state := fpState_fpSet_same g fpAsleep fcAsleep _
    cause := fpCause_fpSet_same g fpAsleep fcAsleep _
    power := (getF_fpSet_other fpAsleep fcAsleep _ (by simp only [POWER_ON, FP_STATUS_STATE]; omega) (by simp [POWER_ON])).trans
      (getF_setF_same _ 0 _)
    off := by simp [fpSet]
    frames := fun p hp f hf => by
      have hnone := planesClear_frame (g := g) hp hf s
      exact (congrArg (fun x : Option Nat => leBytes 512 (x.getD 0)) hnone).trans (leBytes_zero 512) }

end Sys2Proof.Machine
end

section
/-! The FABRIC commands, FP_CTRL and the user lines (R7, R184, R191, R201, R207, R209, R212), clause by clause. -/

namespace Sys2Proof.Machine

/-- A sheet whose fields are a region and a bit takes regions below 80 alone. -/
theorem region_lt_of_args {r : Req} (h : argsLen 2 (fun r => decide (arg r 0 1 < 80) && decide (arg r 1 1 ≤ 1)) r = none) :
    arg r 0 1 < 80 := by
  have := (argsLen_none h).2
  simp only [Bool.and_eq_true, decide_eq_true_eq] at this
  exact this.1

theorem fabricPortIsolate_region {m : Nat} {r : Req} {s : State} (h : Asks sheetFabricPortIsolate m r s) : arg r 0 1 < 80 :=
  region_lt_of_args h.args

theorem fabricMemErrors_region {m : Nat} {r : Req} {s : State} (h : Asks sheetFabricMemErrors m r s) : arg r 0 1 < 80 :=
  region_lt_of_args h.args

theorem fabricRegionPower_region {m : Nat} {r : Req} {s : State} (h : Asks sheetFabricRegionPower m r s) : arg r 0 1 < 80 :=
  region_lt_of_args h.args

/-- FABRIC_PORT_STATUS answers the port's registers. -/
theorem fabricPortStatus_answers {s : State} {mb : Fin 14} {r : Req} (h : Asks sheetFabricPortStatus mb r s) :
    ∃ p, Oks (.fabricPortStatus mb) mb r p s (seqPop s) ∧ p.length = 20 ∧
      fieldAt p 0 1 = fpState (arg r 0 1) s % 256 ∧ fieldAt p 1 1 = fpCause (arg r 0 1) s % 256 ∧
      fieldAt p 2 1 = fpOutstanding (arg r 0 1) s % 256 ∧ fieldAt p 3 1 = getF (POWER_ON (arg r 0 1)) s % 256 := by
  refine ⟨_, oks_fin rfl h rfl (Noted.refl _) rfl, ?_, ?_, ?_, ?_, ?_⟩
  · simp [ctrBytes]
  all_goals simp [List.append_assoc, fieldAt_skip, fieldAt_first, fpState, fpCause, fpOutstanding]

/-- FABRIC_PORT_ISOLATE isolates a port that nothing isolates, and answers its new state (R201, R207). -/
theorem fabricPortIsolate_isolates {s : State} {mb : Fin 14} {r : Req} (h : Asks sheetFabricPortIsolate mb r s)
    (ha : arg r 1 1 = 0) (hc : fpCause (arg r 0 1) s = 0) :
    ∃ t, Runs (.fabricPortIsolate mb) s t ∧ Answered r stOk [3] false t ∧ IsolatedBy 1 (arg r 0 1) s t := by
  have hg := fabricPortIsolate_region h
  have hpop : RegionsKept s (seqPop s) := .ofEq (seqPop_regs s) (seqPop_fab s)
  have hiso := fabIsolate_command (s := seqPop s) hg (.inl ((hpop.fpCause hg).trans hc))
  have hrun : sheetFabricPortIsolate.run r (seqPop s) = (replyOk [3], fabIsolate (arg r 0 1) fcCommand (seqPop s)) := by
    simp only [sheetFabricPortIsolate, plainSheet, ha, if_true, hiso.state]
    rfl
  obtain ⟨t, hruns, hans, hsealed⟩ := runs_answered (i := .fabricPortIsolate mb) rfl h hrun
  refine ⟨t, hruns, hans, ?_⟩
  have hend := hiso.kept hg (hsealed.regionsKept mb.isLt)
  exact { hend with
    era := hend.era.trans (congrArg (· + 1) (hpop.fpEra _))
    others := fun a ha hne => ⟨(hend.others a ha hne).1.trans (hpop.fpState ha), (hend.others a ha hne).2.trans (hpop.fpTargets a)⟩ }

/-- What FABRIC_MEM_ERRORS answers, and what it leaves: all as it was for CLEAR = 0, the logs and their bits clear for CLEAR = 1. -/
theorem fabricMemErrors_run (r : Req) (s : State) : ∃ p u, sheetFabricMemErrors.run r s = (replyOk p, u) ∧ p.length = 36 ∧
    (∀ i < 4, fieldAt p (6 * i) 6 = (getC (ctFP (arg r 0 1) (2 + i)) s).val % 2 ^ 48) ∧ (arg r 1 1 = 0 → u = s) ∧
    (arg r 1 1 = 1 → getF (DR_UE_LOG_VALID (arg r 0 1)) u = 0 ∧ getF (TR_UE_LOG_VALID (arg r 0 1)) u = 0 ∧
      getF (FP_STATUS_DR_UE (arg r 0 1)) u = 0) := by
  refine ⟨_, _, rfl, ?_, ?_, fun h => if_pos h, fun h => ?_⟩
  · simp [natsFrom, ctrBytes]
  · intro i hi
    interval_cases i <;> simp [natsFrom, ctrBytes, List.append_assoc, fieldAt_skip, fieldAt_first]
  · rw [if_neg (by omega)]
    exact ⟨getF_clearAll rfl (.inl (by simp)), getF_clearAll rfl (.inl (by simp)), getF_clearAll rfl (.inl (by simp))⟩

/-- FABRIC_MEM_ERRORS answers the four counts, and clears the logs where it is asked to (R184, R191). -/
theorem fabricMemErrors_answers {s : State} {mb : Fin 14} {r : Req} (h : Asks sheetFabricMemErrors mb r s) : ∃ p, p.length = 36 ∧
    (∀ i < 4, fieldAt p (6 * i) 6 = (getC (ctFP (arg r 0 1) (2 + i)) s).val % 2 ^ 48) ∧
    (arg r 1 1 = 0 → Oks (.fabricMemErrors mb) mb r p s (seqPop s)) ∧
    (arg r 1 1 = 1 → ∃ t, Runs (.fabricMemErrors mb) s t ∧ Answered r stOk p false t ∧ getF (DR_UE_LOG_VALID (arg r 0 1)) t = 0 ∧
      getF (TR_UE_LOG_VALID (arg r 0 1)) t = 0 ∧ getF (FP_STATUS_DR_UE (arg r 0 1)) t = 0) := by
  have hg := fabricMemErrors_region h
  obtain ⟨p, u, hrun, hlen, hcounts, hkeep, hclear⟩ := fabricMemErrors_run r (seqPop s)
  refine ⟨p, hlen, fun i hi => by simpa using hcounts i hi, fun ha => ?_, fun ha => ?_⟩
  · exact oks_fin rfl h hrun (noted_of_eq (hkeep ha)) rfl
  · obtain ⟨t, hruns, hans, hsealed⟩ := runs_answered (i := .fabricMemErrors mb) rfl h hrun
    obtain ⟨hdr, htr, hue⟩ := hclear ha
    have hreg := (hsealed.regionsKept mb.isLt).regs
    refine ⟨t, hruns, hans, (hreg _ ?_ ?_).trans hdr, (hreg _ ?_ ?_).trans htr, (hreg _ ?_ ?_).trans hue⟩
    all_goals
      simp only [regionAddr, DR_UE_LOG_VALID, TR_UE_LOG_VALID, FP_STATUS_DR_UE]
      omega

/-- FABRIC_REGION_POWER on begins to power a region that is off (R209). -/
theorem fabricRegionPower_on {s : State} {mb : Fin 14} {r : Req} (h : Asks sheetFabricRegionPower mb r s) (ha : arg r 1 1 = 1) :
    s.fab.off.contains (arg r 0 1) = true ∧ Oks (.fabricRegionPower mb) mb r [] s
      { seqPop s with fab := { s.fab with waking := arg r 0 1 :: s.fab.waking } } := by
  have hok : (s.fab.off.contains (arg r 0 1) && !s.fab.waking.contains (arg r 0 1)) = true := by
    by_contra hno
    have hst := h.state
    simp only [sheetFabricRegionPower, plainSheet, ha, one_ne_zero, if_false, seqPop_fab, hno] at hst
    cases hst
  have hrun : sheetFabricRegionPower.run r (seqPop s) =
      (replyOk [], { seqPop s with fab := { s.fab with waking := arg r 0 1 :: s.fab.waking } }) := by
    simp [sheetFabricRegionPower, plainSheet, ha]
  exact ⟨((Bool.and_eq_true_iff).1 hok).1, oks_fin rfl h hrun (Noted.refl _) rfl⟩

/-- FABRIC_REGION_POWER off takes a region's power while no load runs (R209). -/
theorem fabricRegionPower_off {s : State} {mb : Fin 14} {r : Req} (h : Asks sheetFabricRegionPower mb r s) (ha : arg r 1 1 = 0)
    (hl : s.cfg.load = none) :
    ∃ t, Runs (.fabricRegionPower mb) s t ∧ Answered r stOk [] false t ∧ PoweredOff (arg r 0 1) t := by
  have hg := fabricRegionPower_region h
  have hrun : sheetFabricRegionPower.run r (seqPop s) = (replyOk [], regionOff (arg r 0 1) (seqPop s)) := by
    simp [sheetFabricRegionPower, plainSheet, ha]
  obtain ⟨t, hruns, hans, hsealed⟩ := runs_answered (i := .fabricRegionPower mb) rfl h hrun
  exact ⟨t, hruns, hans, (regionOff_poweredOff hg (by simpa using hl)).kept hg (hsealed.regionsKept mb.isLt) hsealed.cfg⟩

/-- FP_CTRL.ISOLATE isolates a port that nothing but a swap isolates (R201). -/
theorem fpIsolate_isolates {s : State} {g : Fin 80} (h : fpCause g s = 0 ∨ fpCause g s = 2) :
    ∃ t, Runs (.fpIsolate g) s t ∧ IsolatedBy 1 g s t :=
  ⟨_, rfl, (fabIsolate_command g.isLt h).kept g.isLt (Noted.whSettle _).regionsKept⟩

/-- FP_CTRL.ISOLATE has no effect on a port that is ASLEEP, fenced or isolated by command (R201; log entry 74). -/
theorem fpIsolate_held {s : State} {g : Fin 80} (h : fpCause g s = 4 ∨ fpCause g s = 3 ∨ fpCause g s = 1) : Does (.fpIsolate g) s s :=
  does_fin rfl (noted_of_eq (fabIsolate_command_held h))

/-- FP_CTRL.RELEASE frees a port that is isolated by command (R207). -/
theorem fpRelease_releases {s : State} {g : Fin 80} (h : fpCause g s = 1) :
    ∃ t, Runs (.fpRelease g) s t ∧ ReleasedAt g (fpFree g s) t := by
  have hrel : portRelease g s = fabRelease g s := by simp [portRelease, releaseRefused, h, fcNone]
  refine ⟨_, rfl, ?_⟩
  rw [hrel]
  exact (fabRelease_released g.isLt s).kept g.isLt (Noted.whSettle _).regionsKept

/-- FP_CTRL.RELEASE of a fenced port is refused while its repair is not complete (R207). -/
theorem fpRelease_refused {s : State} {g : Fin 80} (h : fpCause g s = 3) (hr : repairDone g s = false) :
    Does (.fpRelease g) s (setF (FP_STATUS_CFG_REJECT g) 1 s) :=
  does_fin rfl (noted_of_eq (by simp [portRelease, releaseRefused, h, hr, fcNone, fpReject]))

/-- A COMMIT arms the held user lines (R7, R212). -/
theorem fabUserCommit_arms {s : State} (h : s.fab.lineHeld ≠ []) :
    Does .fabUserCommit s (setF FAB_USER_COMMIT_ARMED 1 (setF FAB_USER_COMMIT_HELD 0 { s with fab := { s.fab with
      lineArmed := s.fab.lineHeld.foldl (fun t p => tabPut t p.1 p.2) s.fab.lineArmed, lineHeld := [] } })) :=
  does_fin rfl (noted_of_eq (if_neg h))

/-- A COMMIT with nothing held has no effect (R7). -/
theorem fabUserCommit_idle {s : State} (h : s.fab.lineHeld = []) : Does .fabUserCommit s s :=
  does_fin rfl (noted_of_eq (if_pos h))

/-- A region that is powered again returns ISOLATED with cause COMMAND (R209). -/
theorem regionPowerOnComplete_isolated {s : State} {g : Fin 80} (h : s.fab.waking.contains g.val = true) :
    Does (.regionPowerOnComplete g) s (setF (FP_STATUS_CAUSE g) 1 (setF (FP_STATUS_STATE g) 3 (setF (POWER_ON g) 1 { s with
      fab := { s.fab with off := s.fab.off.filter (· ≠ g.val), waking := s.fab.waking.filter (· ≠ g.val) } }))) := by
  refine does_fin rfl ?_
  rw [regionOn, if_pos h]
  exact Noted.sbEvent 0x0335 [] _

/-- Settles O36: each clause is the lemma of its command above. -/
theorem fabricCommands : Obligations.FabricCommands := by
  unfold Obligations.FabricCommands
  refine ⟨⟨fun _ _ _ => fabricPortStatus_answers, fun s mb r h ha hc => ?_, fun _ _ _ => fabricMemErrors_answers, fun s mb r h =>
    ⟨fabricRegionPower_on h, fun ha hl => ?_⟩⟩, fun s g h => ?_, fun _ _ => fpIsolate_held, fun s g h => ?_, fun _ _ => fpRelease_refused,
    fun _ => fabUserCommit_arms, fun _ => fabUserCommit_idle, fun _ _ => regionPowerOnComplete_isolated⟩
  · obtain ⟨t, hruns, hans, hiso⟩ := fabricPortIsolate_isolates h ha hc
    exact ⟨t, hruns, hans, hiso.state, hiso.cause, hiso.targets, hiso.era⟩
  · obtain ⟨t, hruns, hans, hoff⟩ := fabricRegionPower_off h ha hl
    exact ⟨t, hruns, hans, hoff.state, hoff.cause, hoff.power, hoff.off, hoff.frames⟩
  · obtain ⟨t, hruns, hiso⟩ := fpIsolate_isolates h
    exact ⟨t, hruns, hiso.state, hiso.cause, hiso.targets, hiso.era,
      fun a hne => hiso.others a a.isLt (fun he => hne (Fin.ext he))⟩
  · obtain ⟨t, hruns, hrel⟩ := fpRelease_releases h
    exact ⟨t, hruns, hrel.cause, hrel.state, hrel.fenced, hrel.tags⟩

end Sys2Proof.Machine
end

section
/-! SUPPORT. The calendar (R40, R41) and the Playbook's entries (R34 to R38): what is put there is read back. -/

namespace Sys2Proof.Machine

theorem calOk_iff (c : Cal) : calOk c = true ↔ 2000 ≤ c.year ∧ c.year ≤ 2399 ∧ 1 ≤ c.month ∧ c.month ≤ 12 ∧ 1 ≤ c.day ∧
    c.day ≤ monthDays c.year c.month ∧ c.hour ≤ 23 ∧ c.minute ≤ 59 ∧ c.second ≤ 59 := by
  simp [calOk, and_assoc]

theorem monthDays_bounds (y m : Nat) : 28 ≤ monthDays y m ∧ monthDays y m ≤ 31 := by
  unfold monthDays
  split
  · split <;> omega
  · split <;> omega

/-- A valid date that has been put into the calendar is its present value: each part fits its field. -/
theorem calNow_calPut {c : Cal} (h : calOk c = true) (s : State) : calNow (calPut c s) = c := by
  obtain ⟨-, hyear, -, hmonth, -, hday, hhour, hminute, hsecond⟩ := (calOk_iff c).1 h
  have := monthDays_bounds c.year c.month
  simp (disch := decide) only [calNow, calPut, getF_setF_same, getF_setF_other]
  obtain ⟨year, month, day, hour, minute, second⟩ := c
  simp only [CAL_NOW1_YEAR, CAL_NOW1_MONTH, CAL_NOW0_DAY, CAL_NOW0_HOUR, CAL_NOW0_MIN, CAL_NOW0_SEC, Cal.mk.injEq] at *
  omega

/-- The calendar's six fields alone make its present value. -/
theorem calNow_congr {s t : State}
    (h : ∀ f : Fld, f.lo < 32 → (f.addr = 0x3F00100200 ∨ f.addr = 0x3F00100204 ∧ f.lo < 28) → getF f t = getF f s) :
    calNow t = calNow s := by
  simp only [calNow, Cal.mk.injEq]
  refine ⟨h _ ?_ ?_, h _ ?_ ?_, h _ ?_ ?_, h _ ?_ ?_, h _ ?_ ?_, h _ ?_ ?_⟩ <;> decide

/-- Notes leave the calendar alone. -/
theorem Noted.calNow {s t : State} (n : Noted s t) : calNow t = calNow s := by
  refine calNow_congr fun f hl ha => n.regs f hl ?_
  simp only [noteAddr]
  omega

/-- A valid date but the last one is followed by a valid date (R40, R43). -/
theorem calStep_ok {c : Cal} (h : calOk c = true) (hlast : c ≠ ⟨2399, 12, 31, 23, 59, 59⟩) : calOk (calStep c) = true := by
  rw [calOk_iff] at h ⊢
  have hfirst (y m : Nat) : 1 ≤ monthDays y m := by have := (monthDays_bounds y m).1; omega
  obtain ⟨year, month, day, hour, minute, second⟩ := c
  simp only [ne_eq, Cal.mk.injEq] at h hlast
  unfold calStep
  split
  · dsimp only at *; omega
  split
  · dsimp only at *; omega
  split
  · dsimp only at *; omega
  split
  · dsimp only at *; omega
  split
  · have := hfirst year (month + 1)
    dsimp only at *; omega
  · have hdec : month = 12 := by dsimp only at *; omega
    subst hdec
    have hdays : monthDays year 12 = 31 := rfl
    have := hfirst (year + 1) 1
    dsimp only at *; omega

theorem pbOf_pbPut_same (i : Nat) (e : PbEntry) (s : State) : pbOf i (pbPut i e s) = e := tabGet_tabSet_same _ _ _ _

theorem pbOf_pbPut_other {i j : Nat} (e : PbEntry) (s : State) (h : j ≠ i) : pbOf j (pbPut i e s) = pbOf j s :=
  tabGet_tabSet_other _ _ _ h

/-- While the clock is stopped no entry falls due. -/
theorem pbResolveAll_stopped {s : State} (h : isSet GC_CTRL_RUN s = false) : pbResolveAll s = s := by
  simp [pbResolveAll, h]

/-- A SUPPRESSED entry is counted and does nothing (R37). -/
theorem pbResolve_suppressed {i : Nat} {s : State} (h : pbSuppressed (pbOf i s) s = true) :
    pbResolve i s = incC (ctGC 5) (pbPut i (pbAfter 2 (pbOf i s)) s) := by
  simp [pbResolve, h]

/-- An entry of action 0 that is neither suppressed nor beyond the slot's limit fires, and has no effect of its own (R35, R37). -/
theorem pbResolve_noAction {i : Nat} {s : State} (ha : (pbOf i s).action = 0) (h : pbSuppressed (pbOf i s) s = false)
    (hf : s.gc.fired < 16) :
    pbResolve i s = pbPut i (pbAfter 1 (pbOf i s)) { s with gc := { s.gc with fired := s.gc.fired + 1 } } := by
  have hlimit : ¬(16 ≤ s.gc.fired) := by omega
  simp [pbResolve, h, ha, hlimit, pbAct]

/-- An entry that stands alone in the Playbook and is due resolves alone (R38). -/
theorem pbResolveTo_single {i : Nat} {e : PbEntry} {s : State} (h : s.gc.entries = [(i, e)]) (hdue : pbDue i s = true) :
    pbResolveTo i s = pbResolve i s := by
  simp [pbResolveTo, h, forEach, hdue]

/-- PB_CMD.WRITE of a permitted entry stores it after the present slot's entries (R36, R39). -/
theorem pbCmdWrite_permitted {s : State} (h : pbCheck (pbParse (pbData s)) s = 0) :
    pbCmdWrite s = setF PB_CMD_ERR 0 (pbPut (getF PB_INDEX_IDX s) (pbParse (pbData s)) (pbResolveAll s)) := by
  simp [pbCmdWrite, pbWrite, h]

/-- PB_CMD.WRITE of another entry leaves its error code alone (R36). -/
theorem pbCmdWrite_refused {s : State} (h : pbCheck (pbParse (pbData s)) s ≠ 0) :
    pbCmdWrite s = setF PB_CMD_ERR (pbCheck (pbParse (pbData s)) s) s := by
  simp [pbCmdWrite, pbWrite, h]

/-- PB_CMD.READ puts the entry's 16 bytes into PB_DATA0 to PB_DATA3 (R34). -/
theorem pbCmdRead_data {n : Nat} (hn : n < 4) (s : State) :
    getF (PB_DATA_DATA n) (pbCmdRead s) = fieldAt (pbBytes (pbOf (getF PB_INDEX_IDX s) s)) (4 * n) 4 := by
  simp only [pbCmdRead, natsFrom, forEach]
  generalize pbBytes _ = b
  have hlt := fieldAt_lt b (4 * n) 4
  interval_cases n <;> simp (disch := decide) only [getF_setF_same, getF_setF_other] <;> exact Nat.mod_eq_of_lt hlt

/-- PB_CMD.READ leaves the Playbook alone. -/
theorem pbCmdRead_gc (s : State) : (pbCmdRead s).gc = s.gc := by
  rw [pbCmdRead, setF_gc]
  exact forEach_keeps State.gc (fun _ _ _ => setF_gc _ _ _) s

/-- A valid date is loaded, with the 1 Hz divider restarted (R41, R42). -/
theorem calSet_loads {c : Cal} (h : calOk c = true) (s : State) : ∃ t, calSet c s = (true, t) ∧
    Noted { setF CAL_NOW1_CAL_END 0 (setF CAL_NOW1_CAL_VALID 1 (calPut c s)) with
      gc := { s.gc with calDue := s.time.us + 1000000 } } t :=
  ⟨_, if_pos h, Noted.sbEvent _ _ _⟩

/-- Another date is refused with BAD_DATE (R41). -/
theorem calSet_refuses {c : Cal} (h : calOk c = false) (s : State) : calSet c s = (false, setF CAL_NOW1_BAD_DATE 1 s) :=
  if_neg (by simp [h])

/-- After a load the calendar shows the date as valid, and not ended. -/
theorem calSet_shows {c : Cal} (h : calOk c = true) {s t : State} {x : Gc}
    (n : Noted { setF CAL_NOW1_CAL_END 0 (setF CAL_NOW1_CAL_VALID 1 (calPut c s)) with gc := x } t) :
    calNow t = c ∧ getF CAL_NOW1_CAL_VALID t = 1 ∧ getF CAL_NOW1_CAL_END t = 0 := by
  have hreg (f : Fld) (hl : f.lo < 32) (ha : ¬ noteAddr f.addr) :
      getF f t = getF f (setF CAL_NOW1_CAL_END 0 (setF CAL_NOW1_CAL_VALID 1 (calPut c s))) := n.regs f hl ha
  refine ⟨Eq.trans (calNow_congr fun f hl ha => ?_) (calNow_calPut h s), ?_, ?_⟩
  · rw [hreg f hl (by simp only [noteAddr]; omega), getF_setF_other, getF_setF_other]
    all_goals
      simp only [fldKey, CAL_NOW1_CAL_END, CAL_NOW1_CAL_VALID]
      omega
  · rw [hreg _ (by decide) (by unfold noteAddr; decide), getF_setF_other _ _ (by decide), getF_setF_same]
    rfl
  · rw [hreg _ (by decide) (by unfold noteAddr; decide), getF_setF_same]
    rfl

/-- A second of a running calendar steps it (R40, R43). -/
theorem calendarTick_steps {s : State} (hp : s.boot.power = 2) (hx : s.pll.xtalBad = false) (he : getF CAL_NOW1_CAL_END s = 0)
    (hok : calOk (calNow s) = true) (hlast : calNow s ≠ ⟨2399, 12, 31, 23, 59, 59⟩) :
    calNow (calendarTick s) = calStep (calNow s) := by
  have hgo (x : Time) (y : Gc) : isSet CAL_NOW1_CAL_END { s with time := x, gc := y } = false := by
    show decide (getF CAL_NOW1_CAL_END s = 1) = false
    rw [he]
    rfl
  have hnow (x : Time) (y : Gc) : calNow { s with time := x, gc := y } = calNow s := rfl
  simp only [calendarTick, hx, hp, hgo, hnow, hlast, ne_eq, not_true_eq_false, decide_false, Bool.or_self, Bool.false_eq_true, if_false]
  exact calNow_calPut (calStep_ok hok hlast) _

/-- A THROTTLE action whose slots are over is taken out; what leaves the part is a note (R35). -/
theorem throttleEnd_ends {s : State} (h : s.gc.acts.any (fun a => decide (a.1 = 4) && decide (a.2.2 = 0)) = true) :
    Noted { s with gc := { s.gc with acts := s.gc.acts.filter (fun a => decide (a.1 ≠ 4) || decide (a.2.2 ≠ 0)) } } (throttleEnd s) := by
  rw [throttleEnd, if_pos h]
  dsimp only
  split
  · exact Noted.refl _
  · exact Noted.emit _ _

end Sys2Proof.Machine
end

section
/-! The ports of the Game Clock and of the clock lines (R24, R34 to R43, R66 to R68), clause by clause. -/

namespace Sys2Proof.Machine

/-- PLAYBOOK_ENTRY_DUE of an entry that stands alone and is due (R37, R38). -/
theorem playbookEntryDue_runs {s : State} {idx : Fin 4096} {e : PbEntry} (hent : s.gc.entries = [(idx.val, e)])
    (hrun : getF GC_CTRL_RUN s = 1) (hen : e.en = true) (hturn : e.turn = s.clk.turn) (hslot : e.slot = s.clk.slot) :
    pbOf idx s = e ∧ exec (.playbookEntryDue idx) s = fin (pbResolve idx s) := by
  have hof : pbOf idx s = e := by simp [pbOf, hent, tabGet, tabFind]
  have hdue : pbDue idx s = true := by simp [pbDue, hof, hen, hturn, hslot]
  have hgo : (isSet GC_CTRL_RUN s && pbDue idx s) = true := by simp [isSet, hrun, hdue]
  exact ⟨hof, congrArg fin ((if_pos hgo).trans (pbResolveTo_single hent hdue))⟩

/-- A line that is not switching takes another source, with DONE = 0 (R68). -/
theorem lineSelect_takes {kind r l code : Nat} {s : State} (hd : getF (lineDone kind r l) s = 1)
    (hne : getF (lineSrc kind r l) s ≠ code) :
    lineSelect kind r l code s = setF (lineDone kind r l) 0 (setF (lineSrc kind r l) code s) := by
  rw [lineSelect, if_pos hd, if_neg hne]

/-- A line that is not switching keeps the source it has (R68). -/
theorem lineSelect_keeps {kind r l code : Nat} {s : State} (hd : getF (lineDone kind r l) s = 1)
    (heq : getF (lineSrc kind r l) s = code) : lineSelect kind r l code s = s := by
  rw [lineSelect, if_pos hd, if_pos heq]

/-- DONE rises once the line follows its source (R68). -/
theorem lineSwitched_done {kind r l : Nat} {s : State} (hd : getF (lineDone kind r l) s = 0)
    (hw : tabFind s.pll.switching (lineKey kind r l) = none) : lineSwitched kind r l s = setF (lineDone kind r l) 1 s := by
  rw [lineSwitched, if_neg (by omega), hw]

/-- A change that waited begins when the one before it ends (R68). -/
theorem lineSwitched_next {kind r l code : Nat} {s : State} (hd : getF (lineDone kind r l) s = 0)
    (hw : tabFind s.pll.switching (lineKey kind r l) = some code) :
    lineSwitched kind r l s = { s with pll := { s.pll with switching := tabDel s.pll.switching (lineKey kind r l) } } := by
  rw [lineSwitched, if_neg (by omega), hw]

/-- A refused clock line write sets CFG_REJECT (R8). -/
theorem clkReject_noted (s : State) : Noted (setF CLK_STATUS_CFG_REJECT 1 s) (clkReject s) := Noted.whRaise (by decide) _

theorem gclkSelWrite_takes {s : State} {g : Fin 32} {c : BitVec 8} (hd : getF (GCLK_SEL_DONE g) s = 1)
    (ht : gclkTakes g c.toNat s = true) (hne : getF (GCLK_SEL_SRC g) s ≠ c.toNat) :
    Does (.gclkSelWrite g c) s (setF (GCLK_SEL_DONE g) 0 (setF (GCLK_SEL_SRC g) c.toNat s)) :=
  does_fin rfl (noted_of_eq ((if_pos ht).trans (lineSelect_takes (kind := 0) (r := 0) hd hne)))

theorem gclkSelWrite_keeps {s : State} {g : Fin 32} {c : BitVec 8} (hd : getF (GCLK_SEL_DONE g) s = 1)
    (ht : gclkTakes g c.toNat s = true) (heq : getF (GCLK_SEL_SRC g) s = c.toNat) : Does (.gclkSelWrite g c) s s :=
  does_fin rfl (noted_of_eq ((if_pos ht).trans (lineSelect_keeps (kind := 0) (r := 0) hd heq)))

theorem gclkSelWrite_refused {s : State} {g : Fin 32} {c : BitVec 8} (ht : gclkTakes g c.toNat s = false) :
    Does (.gclkSelWrite g c) s (setF CLK_STATUS_CFG_REJECT 1 s) :=
  does_fin (v := clkReject s) (congrArg fin (if_neg (by simp [ht]))) (clkReject_noted s)

theorem rclkSelWrite_takes {s : State} {r : Fin 80} {l : Fin 24} {c : BitVec 6} (hd : getF (RCLK_SEL_DONE r l) s = 1)
    (ht : rclkOk c.toNat = true) (hne : getF (RCLK_SEL_SRC r l) s ≠ c.toNat) :
    Does (.rclkSelWrite r l c) s (setF (RCLK_SEL_DONE r l) 0 (setF (RCLK_SEL_SRC r l) c.toNat s)) :=
  does_fin rfl (noted_of_eq ((if_pos ht).trans (lineSelect_takes (kind := 1) hd hne)))

theorem rclkSelWrite_refused {s : State} {r : Fin 80} {l : Fin 24} {c : BitVec 6} (ht : rclkOk c.toNat = false) :
    Does (.rclkSelWrite r l c) s (setF CLK_STATUS_CFG_REJECT 1 s) :=
  does_fin (v := clkReject s) (congrArg fin (if_neg (by simp [ht]))) (clkReject_noted s)

/-- Settles O12: each clause is the lemma of its port above. -/
theorem clockPorts : Obligations.ClockPorts := by
  unfold Obligations.ClockPorts
  refine ⟨⟨fun s => ⟨_, rfl, fun h => ?_, fun h => ?_⟩, fun s => ⟨_, rfl, ?_, ?_, fun n hn => ?_⟩,
    fun s c hc => ⟨_, rfl, fun h => ?_, fun h => ?_⟩,
    fun s turnHi => ⟨_, rfl, Noted.whSettle _⟩, fun s hp hx he hok hlast => ⟨_, rfl, ?_⟩,
    fun s h => ⟨_, rfl, (throttleEnd_ends h).trans (Noted.whSettle _)⟩, fun s idx e hent hrun hen hturn hslot hact => ?_⟩,
    fun s g c hd => ⟨gclkSelWrite_takes hd, gclkSelWrite_keeps hd, gclkSelWrite_refused⟩,
    fun s r l c => ⟨rclkSelWrite_takes, rclkSelWrite_refused⟩,
    fun s g hd hw => does_fin rfl (noted_of_eq (lineSwitched_done (kind := 0) (r := 0) hd hw)),
    fun s r l code hd hw => does_fin rfl (noted_of_eq (lineSwitched_next (kind := 1) hd hw))⟩
  · exact pbCmdWrite_permitted h ▸ Noted.whSettle _
  · exact pbCmdWrite_refused h ▸ Noted.whSettle _
  · exact (getF_whSettle _ _).trans (getF_setF_same _ _ _)
  · exact (whSettle_gc _).trans (pbCmdRead_gc s)
  · exact (getF_whSettle _ _).trans (pbCmdRead_data hn s)
  · subst hc
    obtain ⟨t, ht, n⟩ := calSet_loads h s
    have n' := n.trans (Noted.whSettle t)
    obtain ⟨hnow, hvalid, hend⟩ := calSet_shows h n'
    rw [calLoad, ht]
    exact ⟨hnow, hvalid, hend, n'.gc⟩
  · subst hc
    rw [calLoad, calSet_refuses h]
    exact Noted.whSettle _
  · exact (Noted.whSettle _).calNow.trans (calendarTick_steps hp hx he hok hlast)
  · obtain ⟨rfl, hexec⟩ := playbookEntryDue_runs hent hrun hen hturn hslot
    refine ⟨_, hexec, fun hs => ?_, fun hs hf => ?_⟩
    · exact pbResolve_suppressed hs ▸ Noted.whSettle _
    · exact pbResolve_noAction hact hs hf ▸ Noted.whSettle _

end Sys2Proof.Machine
end

section
/-! SUPPORT. Answers other than OK, the registers of the PLLs, and starting and stopping the Game Clock (R28, R51). -/

namespace Sys2Proof.Machine

/-- A sheet that passes its checks and answers an end with `p` leaves `u` and that answer. -/
theorem replies_fin {i : Instr} {sh : Sheet} {m : Nat} {r : Req} {s u v : State} {st : Nat} {p : List (BitVec 8)}
    (he : exec i s = fin (runSheet sh m s)) (h : Asks sh m r s) (hr : sh.run r (seqPop s) = (⟨st, p, none⟩, v)) (hst : st < 0xFFFF)
    (n : Noted u v) : Replies i m r st p s u := by
  obtain ⟨hans, hsealed⟩ := runSheet_answers h hr hst
  exact ⟨_, he, hans.whSettle, told_fin n hsealed⟩

theorem Sealed.gc {m : Nat} {s t : State} (h : Sealed m s t) : t.gc = s.gc := by
  obtain ⟨_, _, _, _, _, rfl⟩ := h.rest
  rfl

/-- An answer does not touch the policy of the guarantee's alarm. -/
theorem Sealed.notSafe {m : Nat} {s t : State} (h : Sealed m s t) (hm : m < 14) (hs : NotSafe 0x13 s) : NotSafe 0x13 t := by
  unfold NotSafe
  rw [h.regs _ (by decide)]
  · exact hs
  all_goals
    have : (policyFld 0x13).addr = 0x3F00F00014 := rfl
    simp only [MB_STATUS_BUSY, MB_LAST_SEQ]
    omega

/-- `oks_fin` for a meaning that also lets the guarantee follow, with the premise on the state that the sheet's run leaves. -/
theorem oks_guarantee {i : Instr} {sh : Sheet} {m : Nat} {r : Req} {s u v : State} {p : List (BitVec 8)}
    (he : exec i s = finG (runSheet sh m s)) (h : Asks sh m r s) (hr : sh.run r (seqPop s) = (replyOk p, v)) (n : Noted u v)
    (hm : m < 14) (hs : NotSafe 0x13 v) : Oks i m r p s u :=
  oks_finG he h hr n rfl hm ((runSheet_answers h (st := stOk) hr (by decide)).2.notSafe hm hs)

/-- The addresses of CLK_STATUS and of the PLLs' registers (spec/02). -/
def pllAddr (a : Nat) : Prop := 0x3F00200000 ≤ a ∧ a < 0x3F00202000

/-- Registers outside the PLLs' own, under the operations on a PLL. -/
theorem getF_setF_pll {f g : Fld} (v : Nat) (s : State) (hl : f.lo < 32) (hg : g.lo < 32) (hf : ¬ pllAddr f.addr) (ha : pllAddr g.addr) :
    getF f (setF g v s) = getF f s := by
  refine getF_setF_other v s fun he => ?_
  have : f.addr = g.addr := by simp only [fldKey] at he; omega
  exact hf (this ▸ ha)

@[simp] theorem getF_pllFails (f : Fld) (p n : Nat) (s : State) : getF f (pllFails p n s) = getF f s := rfl
@[simp] theorem getF_pllLockedSet (f : Fld) (p : Nat) (b : Bool) (s : State) : getF f (pllLockedSet p b s) = getF f s := rfl

theorem getF_pllRelock {f : Fld} (hl : f.lo < 32) (hf : ¬ pllAddr f.addr) {p : Nat} (hp : p < 63) (s : State) :
    getF f (pllRelock p s) = getF f s := by
  rw [pllRelock, getF_setF_pll, getF_setF_pll, getF_pllLockedSet]
  all_goals
    simp only [pllAddr, PLL_PHASE_PHASE_OK, PLL_STATUS_STATE] at *
    omega

theorem getF_pllStart {f : Fld} (hl : f.lo < 32) (hf : ¬ pllAddr f.addr) {p : Nat} (hp : p < 63) (s : State) :
    getF f (pllStart p s) = getF f s := by
  rw [pllStart, getF_pllFails, getF_pllRelock hl hf hp, getF_setF_pll]
  all_goals
    simp only [pllAddr, PLL_CTRL_EN] at *
    omega

theorem getF_pllStop {f : Fld} (hl : f.lo < 32) (hf : ¬ pllAddr f.addr) {p : Nat} (hp : p < 63) (s : State) :
    getF f (pllStop p s) = getF f s := by
  rw [pllStop, getF_pllFails, getF_setF_pll, getF_setF_pll, getF_setF_pll, getF_setF_pll, getF_pllLockedSet]
  all_goals
    simp only [pllAddr, PLL_STATUS_FREQ_BAD, PLL_PHASE_PHASE_OK, PLL_STATUS_STATE, PLL_CTRL_EN] at *
    omega

/-- A start from FREERUN stays in FREERUN: the count and both timing PLLs run (R28; log entry 63). -/
theorem gcStart_freerun {s : State} (h : refState s = 0) : gcStart s = pllStart 1 (pllStart 0 (setF GC_CTRL_RUN 1
    (stopTimer 7 { s with gc := { s.gc with realign := false, revert := false, count := 0, misses := 0, slips := 0 } }))) := by
  have hsame : setRef rsFreerun (stopTimer tmAcquire { s with gc := { s.gc with
      realign := false, revert := false, count := 0, misses := 0, slips := 0 } }) = stopTimer 7 { s with gc := { s.gc with
      realign := false, revert := false, count := 0, misses := 0, slips := 0 } } := if_pos h.symm
  rw [gcStart, hsame]

/-- Starting the Game Clock from FREERUN, and stopping it, leave the policies of the alarms alone. -/
theorem NotSafe.gcStart {s : State} (h : refState s = 0) (hs : NotSafe 0x13 s) : NotSafe 0x13 (gcStart s) := by
  unfold NotSafe
  rw [gcStart_freerun h, getF_pllStart (by decide) (by unfold pllAddr; decide) (by decide),
    getF_pllStart (by decide) (by unfold pllAddr; decide) (by decide), getF_setF_other _ _ (by decide)]
  exact hs

theorem NotSafe.gcStop {s : State} (hs : NotSafe 0x13 s) : NotSafe 0x13 (gcStop s) := by
  unfold NotSafe Machine.gcStop standbyFollow setB
  rw [getF_setF_other _ _ (by decide), getF_pllStop (by decide) (by unfold pllAddr; decide) (by decide),
    getF_pllStop (by decide) (by unfold pllAddr; decide) (by decide), getF_setF_other _ _ (by decide)]
  exact hs

end Sys2Proof.Machine
end

section
/-! SUPPORT. Bytes of a number in parts, and clearing EN of a row of Playbook entries. -/

namespace Sys2Proof.Machine

theorem leBytes_split (m n v : Nat) : leBytes (m + n) v = leBytes m v ++ leBytes n (v / 256 ^ m) := by
  induction m generalizing v with
  | zero => simp [leBytes]
  | succ m ih => rw [Nat.succ_add, leBytes, leBytes, ih, List.cons_append, Nat.div_div_eq_div_mul, Nat.pow_succ']

theorem tabFind_mem {α : Type} {t : Tab α} {k : Nat} {v : α} (h : tabFind t k = some v) : (k, v) ∈ t := by
  induction t with
  | nil => cases h
  | cons p t ih =>
    obtain ⟨a, w⟩ := p
    by_cases ha : a = k
    · simp only [tabFind, ha, if_true, Option.some.injEq] at h
      simp [ha, h]
    · simp only [tabFind, ha, if_false] at h
      exact List.mem_cons_of_mem _ (ih h)

/-- An armed entry is listed: an entry never written is not armed. -/
theorem pbOf_mem {i : Nat} {s : State} (h : (pbOf i s).en = true) : (i, pbOf i s) ∈ s.gc.entries := by
  unfold pbOf tabGet at h ⊢
  cases hf : tabFind s.gc.entries i with
  | none => simp [hf, pbInit] at h
  | some e => exact tabFind_mem hf

/-- The armed entries among `n` from `lo` on. -/
def armedIn (lo n : Nat) (s : State) : List Nat :=
  (s.gc.entries.filter (fun p => decide (lo ≤ p.1) && decide (p.1 < lo + n) && p.2.en)).map (·.1)

theorem range_of_mem_armedIn {lo n i : Nat} {s : State} (h : i ∈ armedIn lo n s) : lo ≤ i ∧ i < lo + n := by
  obtain ⟨p, hp, rfl⟩ := List.mem_map.1 h
  have := (List.mem_filter.1 hp).2
  simp only [Bool.and_eq_true, decide_eq_true_eq] at this
  exact this.1

theorem mem_armedIn {lo n i : Nat} {s : State} (hlo : lo ≤ i) (hhi : i < lo + n) (h : (pbOf i s).en = true) : i ∈ armedIn lo n s :=
  List.mem_map.2 ⟨_, List.mem_filter.2 ⟨pbOf_mem h, by simp [hlo, hhi, h]⟩, rfl⟩

/-- Disarming a row of entries clears their EN, and leaves the others alone. -/
theorem pbOf_disarmed (i : Nat) (l : List Nat) (s : State) :
    pbOf i (forEach (fun i s => pbPut i { pbOf i s with en := false } s) l s) =
      if i ∈ l then { pbOf i s with en := false } else pbOf i s := by
  induction l generalizing s with
  | nil => rfl
  | cons a l ih =>
    rw [forEach, ih]
    by_cases ha : i = a
    · subst ha
      simp [pbOf_pbPut_same]
    · simp [pbOf_pbPut_other _ _ ha, ha]

end Sys2Proof.Machine
end

section
/-! The commands of the Game Clock, the Playbook and the calendar (R17, R20, R24, R28, R34 to R42), clause by clause. -/

namespace Sys2Proof.Machine

/-- CLOCK_STATUS answers the reference state, the count and the monitor's readings. -/
theorem clockStatus_answers {s : State} {mb : Fin 14} {r : Req} (h : Asks sheetClockStatus mb r s) :
    ∃ p, Oks (.clockStatus mb) mb r p s (seqPop s) ∧ p.length = 28 ∧
      fieldAt p 0 1 = refState s % 256 ∧ fieldAt p 1 1 = refActive s % 256 ∧ fieldAt p 2 1 = getF GC_STATUS_TQ s % 256 ∧
      fieldAt p 4 4 = getF GC_EPOCH_PHASE_EPOCH s % 2 ^ 32 ∧ fieldAt p 8 6 = s.clk.turn % 2 ^ 48 ∧ fieldAt p 14 2 = s.clk.slot % 65536 ∧
      fieldAt p 16 1 = s.clk.fine % 256 ∧ fieldAt p 20 2 = getF (GC_MON_OFFSET 0) s % 65536 := by
  refine ⟨_, oks_fin rfl h rfl (Noted.refl _) rfl, ?_, ?_, ?_, ?_, ?_, ?_, ?_, ?_, ?_⟩
  · simp [natsFrom]
  case refine_9 =>
    simp only [natsFrom, List.map_cons, List.flatten_cons, leBytes_split 2 2, List.append_assoc]
    simp [fieldAt_skip, fieldAt_first]
    omega
  all_goals simp [List.append_assoc, fieldAt_skip, fieldAt_first, refState, refActive]

/-- CLOCK_CONFIGURE runs while the clock is stopped, with arguments that the fields hold (R17). -/
theorem clockConfigure_asks {m : Nat} {r : Req} {s : State} (h : Asks sheetClockConfigure m r s) :
    isSet GC_CTRL_RUN s = false ∧ clockArgsOk r.payload = true := by
  refine ⟨?_, (argsLen_none (n := 16) (ok := fun r => clockArgsOk r.payload) h.args).2⟩
  have hst : (if isSet GC_CTRL_RUN (seqPop s) then some stWrongState else none) = none := h.state
  by_contra hrun
  rw [Bool.not_eq_false] at hrun
  simp only [isSet, getF_seqPop] at hst hrun
  rw [if_pos hrun] at hst
  cases hst

/-- The settings that CLOCK_CONFIGURE writes are read back. -/
theorem clockWrite_reads {r : Req} (h : clockArgsOk r.payload = true) (s : State) :
    getF GC_CFG_SLOTS_SLOTS_M1 (clockWrite r.payload s) = arg r 2 2 ∧ getF GC_CFG_REF_REF_KHZ (clockWrite r.payload s) = arg r 4 4 ∧
    getF GC_CFG_REF_SLOT_MUL_M1 (clockWrite r.payload s) = arg r 8 1 ∧ getF GC_CFG_REF_SLOT_DIV_M1 (clockWrite r.payload s) = arg r 9 1 ∧
    getF GC_CFG_LANE_TLANE_B (clockWrite r.payload s) = arg r 15 1 := by
  have hslots := fieldAt_lt r.payload 2 2
  simp only [clockArgsOk, Bool.and_eq_true, decide_eq_true_eq] at h
  simp (disch := decide) only [clockWrite, getF_setF_same, getF_setF_other, arg]
  simp only [GC_CFG_SLOTS_SLOTS_M1, GC_CFG_REF_REF_KHZ, GC_CFG_REF_SLOT_MUL_M1, GC_CFG_REF_SLOT_DIV_M1, GC_CFG_LANE_TLANE_B]
  omega

/-- CLOCK_SELECT sets SRC_MODE and REVERTIVE, and answers the present state: the change comes at a window's end (R28). -/
theorem clockSelect_sets {s : State} {mb : Fin 14} {r : Req} (h : Asks sheetClockSelect mb r s) :
    Oks (.clockSelect mb) mb r (leBytes 1 (refState s)) s
      (setF GC_CTRL_REVERTIVE (arg r 1 1) (setF GC_CTRL_SRC_MODE (arg r 0 1) (seqPop s))) := by
  refine oks_fin rfl h rfl (Noted.refl _) (congrArg (leBytes 1) ?_)
  rw [refState, getF_setF_other _ _ (by decide), getF_setF_other _ _ (by decide), getF_seqPop]
  rfl

/-- A stop is refused in LIVE and QUIESCE. -/
theorem gcStopRefused_iff (s : State) : gcStopRefused s = true ↔ s.dev.state = .live ∨ s.dev.state = .quiesce := by
  unfold gcStopRefused
  split <;> simp_all

/-- CLOCK_RUN of 0 stops the count and both timing PLLs, outside LIVE and QUIESCE (R28, R33; log entry 63). -/
theorem clockRun_stops {s : State} {mb : Fin 14} {r : Req} (h : Asks sheetClockRun mb r s) (hs : NotSafe 0x13 s) (ha : arg r 0 1 = 0) :
    s.dev.state ≠ .live ∧ s.dev.state ≠ .quiesce ∧ Oks (.clockRun mb) mb r [] s
      (standbyFollow (pllStop 1 (pllStop 0 (setF GC_CTRL_RUN 0 (stopTimer 7 (seqPop s)))))) := by
  have hok : ¬ gcStopRefused (seqPop s) = true := by
    intro href
    have hst := h.state
    simp only [sheetClockRun, ha, href, and_self, if_true] at hst
    cases hst
  rw [gcStopRefused_iff, seqPop_dev, not_or] at hok
  have hrun : sheetClockRun.run r (seqPop s) = (replyOk [], gcStop (seqPop s)) := by simp [sheetClockRun, plainSheet, ha]
  exact ⟨hok.1, hok.2, oks_guarantee rfl h hrun (Noted.refl _) mb.isLt (NotSafe.gcStop (by simpa [NotSafe] using hs))⟩

/-- CLOCK_RUN of 1 in FREERUN starts the count and both timing PLLs (R28; log entry 63). -/
theorem clockRun_starts {s : State} {mb : Fin 14} {r : Req} (h : Asks sheetClockRun mb r s) (hs : NotSafe 0x13 s) (ha : arg r 0 1 = 1)
    (hfree : refState s = 0) : Oks (.clockRun mb) mb r [] s (pllStart 1 (pllStart 0 (setF GC_CTRL_RUN 1 (stopTimer 7
      { seqPop s with gc := { s.gc with realign := false, revert := false, count := 0, misses := 0, slips := 0 } })))) := by
  have hfree' : refState (seqPop s) = 0 := by simpa [refState] using hfree
  have hrun : sheetClockRun.run r (seqPop s) = (replyOk [], gcStart (seqPop s)) := by simp [sheetClockRun, plainSheet, ha]
  have hstart := gcStart_freerun hfree'
  rw [seqPop_gc] at hstart
  exact oks_guarantee rfl h hrun (noted_of_eq hstart) mb.isLt (NotSafe.gcStart hfree' (by simpa [NotSafe] using hs))

/-- TURN_SET arms the turn load, where the reference brings no turn numbers (R24). -/
theorem turnSet_arms {s : State} {mb : Fin 14} {r : Req} (h : Asks sheetTurnSet mb r s) :
    isSet GC_CTRL_INPUT s = false ∧ Oks (.turnSet mb) mb r [] s
      (setF GC_TURN_LOAD1_ARM 1 (setF GC_TURN_LOAD1_TURN_HI (arg r 0 6 / 2 ^ 32) (setF GC_TURN_LOAD0_TURN_LO (arg r 0 6) (seqPop s)))) := by
  refine ⟨?_, oks_fin rfl h rfl (Noted.refl _) rfl⟩
  have hst : (if isSet GC_CTRL_INPUT (seqPop s) then some stWrongState else none) = none := h.state
  by_contra hin
  rw [Bool.not_eq_false] at hin
  simp only [isSet, getF_seqPop] at hst hin
  rw [if_pos hin] at hst
  cases hst

/-- PLAYBOOK_WRITE of a permitted entry stores it (R36, R39). -/
theorem playbookWrite_stores {s : State} {mb : Fin 14} {r : Req} (h : Asks sheetPlaybookWrite mb r s)
    (hstop : isSet GC_CTRL_RUN s = false) :
    Oks (.playbookWrite mb) mb r [] s (pbPut (arg r 0 2) (pbParse (r.payload.drop 4)) (seqPop s)) := by
  have hargs := (argsLen_none (n := 20) (ok := fun r => decide (arg r 0 2 ≤ 4095) &&
    decide (pbCheck (pbParse (r.payload.drop 4)) (seqPop s) = 0)) h.args).2
  simp only [Bool.and_eq_true, decide_eq_true_eq] at hargs
  have hwrite : (pbWrite (arg r 0 2) (r.payload.drop 4) (seqPop s)).2 = pbPut (arg r 0 2) (pbParse (r.payload.drop 4)) (seqPop s) := by
    simp [pbWrite, hargs.2, pbResolveAll_stopped (s := seqPop s) (by simpa [isSet] using hstop)]
  exact oks_fin rfl h rfl (noted_of_eq hwrite) rfl

/-- PLAYBOOK_READ answers the entry's 16 bytes (R34). -/
theorem playbookRead_answers {s : State} {mb : Fin 14} {r : Req} (h : Asks sheetPlaybookRead mb r s) :
    Oks (.playbookRead mb) mb r (pbBytes (pbOf (arg r 0 2) s)) s (seqPop s) :=
  oks_fin rfl h rfl (Noted.refl _) (by simp [pbOf])

/-- PLAYBOOK_DISARM clears EN of the range it names, and of no other entry (R39). -/
theorem playbookDisarm_disarms {s : State} {mb : Fin 14} {r : Req} (h : Asks sheetPlaybookDisarm mb r s)
    (hstop : isSet GC_CTRL_RUN s = false) :
    ∃ p t, Runs (.playbookDisarm mb) s t ∧ Answered r stOk p false t ∧ p.length = 2 ∧
      (∀ i, arg r 0 2 ≤ i → i < arg r 0 2 + arg r 2 2 → (pbOf i t).en = false) ∧
      ∀ i, i < arg r 0 2 ∨ arg r 0 2 + arg r 2 2 ≤ i → pbOf i t = pbOf i s := by
  have hrun : sheetPlaybookDisarm.run r (seqPop s) = (replyOk (leBytes 2 (armedIn (arg r 0 2) (arg r 2 2) (seqPop s)).length),
      forEach (fun i s => pbPut i { pbOf i s with en := false } s) (armedIn (arg r 0 2) (arg r 2 2) (seqPop s)) (seqPop s)) := by
    simp only [sheetPlaybookDisarm, plainSheet, pbResolveAll_stopped (s := seqPop s) (by simpa [isSet] using hstop)]
    rfl
  obtain ⟨t, hruns, hans, hsealed⟩ := runs_answered (i := .playbookDisarm mb) rfl h hrun
  have hof (i : Nat) : pbOf i t = if i ∈ armedIn (arg r 0 2) (arg r 2 2) (seqPop s) then { pbOf i s with en := false } else pbOf i s := by
    have hpop : pbOf i (seqPop s) = pbOf i s := by simp [pbOf]
    rw [← hpop, ← pbOf_disarmed, pbOf, hsealed.gc]
    rfl
  refine ⟨_, t, hruns, hans, leBytes_length _ _, fun i hlo hhi => ?_, fun i hout => ?_⟩
  · rw [hof]
    split
    · rfl
    · next hnot =>
      by_contra hen
      exact hnot (mem_armedIn hlo hhi (by simpa [pbOf] using hen))
  · rw [hof, if_neg fun hmem => by have := range_of_mem_armedIn hmem; omega]

/-- CAL_SET of a valid date loads it (R41, R42). -/
theorem calSet_replies {s : State} {mb : Fin 14} {r : Req} {c : Cal} (h : Asks sheetCalSet mb r s)
    (hc : c = Cal.mk (arg r 0 2) (arg r 2 1) (arg r 3 1) (arg r 4 1) (arg r 5 1) (arg r 6 1)) :
    (calOk c = true → Oks (.calSet mb) mb r [] s { setF CAL_NOW1_CAL_END 0 (setF CAL_NOW1_CAL_VALID 1 (calPut c (seqPop s))) with
      gc := { s.gc with calDue := s.time.us + 1000000 } }) ∧
    (calOk c = false → Replies (.calSet mb) mb r stBadDate [] s (setF CAL_NOW1_BAD_DATE 1 (seqPop s))) := by
  have hrun : sheetCalSet.run r (seqPop s) =
      (if (calSet c (seqPop s)).1 then replyOk [] else replySt stBadDate, (calSet c (seqPop s)).2) := by rw [hc]; rfl
  refine ⟨fun hok => ?_, fun hbad => ?_⟩
  · obtain ⟨t, ht, n⟩ := calSet_loads hok (seqPop s)
    rw [ht, if_pos rfl] at hrun
    rw [seqPop_gc, seqPop_time] at n
    exact oks_fin rfl h hrun n rfl
  · rw [calSet_refuses hbad] at hrun
    exact replies_fin rfl h hrun (by decide) (Noted.refl _)

/-- CAL_GET answers the calendar's present value (R40). -/
theorem calGet_answers {s : State} {mb : Fin 14} {r : Req} (h : Asks sheetCalGet mb r s) :
    ∃ p, Oks (.calGet mb) mb r p s (seqPop s) ∧ p.length = 8 ∧
      fieldAt p 0 2 = (calNow s).year % 65536 ∧ fieldAt p 2 1 = (calNow s).month % 256 ∧ fieldAt p 3 1 = (calNow s).day % 256 ∧
      fieldAt p 6 1 = (calNow s).second % 256 := by
  refine ⟨_, oks_fin rfl h rfl (Noted.refl _) rfl, ?_, ?_, ?_, ?_, ?_⟩
  · simp
  all_goals simp [List.append_assoc, fieldAt_skip, fieldAt_first, calNow]

/-- Settles O13: each clause is the lemma of its command above. -/
theorem clockCommands : Obligations.ClockCommands := by
  unfold Obligations.ClockCommands
  exact ⟨⟨fun _ _ _ => clockStatus_answers,
    fun s mb r h => ⟨(clockConfigure_asks h).1, oks_fin rfl h rfl (Noted.refl _) rfl, clockWrite_reads (clockConfigure_asks h).2 s⟩,
    fun _ _ _ => clockSelect_sets, fun _ _ _ h hs => ⟨clockRun_stops h hs, clockRun_starts h hs⟩, fun _ _ _ => turnSet_arms⟩,
    fun _ _ _ => playbookWrite_stores, fun _ _ _ => playbookRead_answers, fun _ _ _ => playbookDisarm_disarms,
    fun _ _ _ _ => calSet_replies, fun _ _ _ => calGet_answers⟩

end Sys2Proof.Machine
end

section
/-! SUPPORT. A change of the reference state (R26, R28): what it writes, and that all else it does is notes. -/

namespace Sys2Proof.Machine

theorem getC_incC_congr {s t : State} {k : Nat} (h : getC k t = getC k s) : getC k (incC k t) = getC k (incC k s) := by
  unfold incC addC
  dsimp only
  rw [h]
  exact (tabGet_tabSet_same _ _ _ _).trans (tabGet_tabSet_same _ _ _ _).symm

/-- Counting on top of notes. -/
theorem Noted.incC {s t : State} (n : Noted s t) {k : Nat} (hk : k / 64 ≠ 0x3F00900030) : Noted (incC k s) (incC k t) := by
  refine { n with ctrs := fun j hj => ?_ }
  by_cases h : j = k
  · subst h
    exact getC_incC_congr (n.ctrs j hj)
  · exact (getC_addC_other 1 t h).trans ((n.ctrs j hj).trans (getC_addC_other 1 s h).symm)

theorem timedLapse_shape (s : State) : ∃ x, timedLapse s = { s with noc := x } := by
  unfold timedLapse
  split
  · exact ⟨s.noc, rfl⟩
  · exact ⟨_, rfl⟩

@[simp] theorem getF_timedLapse (f : Fld) (s : State) : getF f (timedLapse s) = getF f s := by
  obtain ⟨_, h⟩ := timedLapse_shape s
  rw [h]
  rfl

@[simp] theorem getC_timedLapse (k : Nat) (s : State) : getC k (timedLapse s) = getC k s := by
  obtain ⟨_, h⟩ := timedLapse_shape s
  rw [h]
  rfl

@[simp] theorem timedLapse_boot (s : State) : (timedLapse s).boot = s.boot := by
  obtain ⟨_, h⟩ := timedLapse_shape s
  rw [h]

@[simp] theorem timedLapse_time (s : State) : (timedLapse s).time = s.time := by
  obtain ⟨_, h⟩ := timedLapse_shape s
  rw [h]

/-- What a change to reference state `st` writes of GC_STATUS, and the windows that lapse with its TQ (R26, R267). -/
def refWritten (st : Nat) (s : State) : State :=
  timedLapse (setF GC_STATUS_TQ (tqOf st s) (setB GC_STATUS_HOLDOVER (decide (st = rsPending) || decide (st = rsHoldover))
    (setB GC_STATUS_DRIFT_WARN (decide (st = rsDrifting)) (setF GC_STATUS_REF_STATE st s))))

/-- The same with the count of HOLDOVER entries, which the return from QUALIFY is not (R26). -/
def refEntered (st : Nat) (s : State) : State :=
  if st = rsHoldover ∧ refState s ≠ rsQualify then incC (ctGC 3) (refWritten st s) else refWritten st s

theorem tqOf_lt (st : Nat) (s : State) : tqOf st s < 4 := by
  unfold tqOf
  repeat' split
  all_goals omega

theorem getF_refEntered_other {f : Fld} (hl : f.lo < 32) (hf : f.addr ≠ 0x3F00100020) (st : Nat) (s : State) :
    getF f (refEntered st s) = getF f s := by
  have hw : getF f (refWritten st s) = getF f s := by
    rw [refWritten, getF_timedLapse, getF_setF_other, setB, getF_setF_other, setB, getF_setF_other, getF_setF_other]
    all_goals
      simp only [fldKey, GC_STATUS_TQ, GC_STATUS_HOLDOVER, GC_STATUS_DRIFT_WARN, GC_STATUS_REF_STATE]
      omega
  unfold refEntered
  split
  · exact hw
  · exact hw

theorem refState_refEntered {st : Nat} (h : st < 8) (s : State) : refState (refEntered st s) = st := by
  have hw : refState (refWritten st s) = st := by
    simp (disch := decide) only [refState, refWritten, getF_timedLapse, setB, getF_setF_other, getF_setF_same]
    exact Nat.mod_eq_of_lt h
  unfold refEntered
  split
  · exact hw
  · exact hw

theorem tq_refEntered (st : Nat) (s : State) : getF GC_STATUS_TQ (refEntered st s) = tqOf st s := by
  have hw : getF GC_STATUS_TQ (refWritten st s) = tqOf st s := by
    rw [refWritten, getF_timedLapse, getF_setF_same]
    exact Nat.mod_eq_of_lt (tqOf_lt st s)
  unfold refEntered
  split
  · exact hw
  · exact hw

theorem refEntered_boot (st : Nat) (s : State) : (refEntered st s).boot = s.boot := by
  unfold refEntered
  split
  · exact timedLapse_boot _
  · exact timedLapse_boot _

theorem refEntered_time (st : Nat) (s : State) : (refEntered st s).time = s.time := by
  unfold refEntered
  split
  · exact timedLapse_time _
  · exact timedLapse_time _

/-- The boot sequence does not wait for a lock, or the TQ is not one that ends its wait (R128). -/
def BootStays (tq : Nat) (s : State) : Prop := s.boot.stage = 2 → tq ≠ 1 ∧ tq ≠ 2

theorem bootTq_stays {s : State} (h : BootStays (getF GC_STATUS_TQ s) s) : bootTq s = s := by
  refine if_neg fun hgo => ?_
  have := h hgo.1
  simp [tqGood, this.1, this.2] at hgo

/-- All that a change of the reference state does, but for notes, where it does not end the boot's wait for a lock. -/
theorem setRef_noted {st : Nat} {s : State} (hne : st ≠ refState s) (hb : BootStays (tqOf st s) s) :
    Noted (refEntered st s) (setRef st s) := by
  have hwritten : Noted (refWritten st s) (whRaise 20 (sbEvent 0x0201 [] (refWritten st s))) :=
    (Noted.sbEvent _ _ _).trans (Noted.whRaise (by decide) _)
  have hstays {u : State} (n : Noted (refEntered st s) u) : Noted (refEntered st s) (bootTq u) := by
    rw [bootTq_stays]
    · exact n
    · unfold BootStays
      rw [n.boot, n.regs _ (by decide) (by unfold noteAddr; decide), tq_refEntered, refEntered_boot]
      exact hb
  rw [setRef, if_neg hne]
  refine hstays ?_
  unfold refEntered
  split
  · exact (hwritten.incC (by decide)).trans (Noted.sbEvent _ _ _)
  · exact hwritten

theorem setRef_same {st : Nat} {s : State} (h : st = refState s) : setRef st s = s := if_pos h

theorem refState_setRef {st : Nat} {s : State} (hst : st < 8) (hb : BootStays (tqOf st s) s) : refState (setRef st s) = st := by
  by_cases h : st = refState s
  · rw [setRef_same h]
    exact h.symm
  · exact ((setRef_noted h hb).regs _ (by decide) (by unfold noteAddr; decide)).trans (refState_refEntered hst s)

theorem tq_setRef {st : Nat} {s : State} (hne : st ≠ refState s) (hb : BootStays (tqOf st s) s) :
    getF GC_STATUS_TQ (setRef st s) = tqOf st s :=
  ((setRef_noted hne hb).regs _ (by decide) (by unfold noteAddr; decide)).trans (tq_refEntered st s)

theorem getF_setRef_other {f : Fld} (hl : f.lo < 32) (hn : ¬ noteAddr f.addr) (hf : f.addr ≠ 0x3F00100020) {st : Nat} {s : State}
    (hb : BootStays (tqOf st s) s) : getF f (setRef st s) = getF f s := by
  by_cases h : st = refState s
  · rw [setRef_same h]
  · exact ((setRef_noted h hb).regs _ hl hn).trans (getF_refEntered_other hl hf st s)

/-- Entry into HOLDOVER from a state that is not QUALIFY counts once (R26). -/
theorem getC_setRef_holdover {s : State} (hne : refState s ≠ rsHoldover) (hq : refState s ≠ rsQualify)
    (hb : BootStays (tqOf rsHoldover s) s) : getC (ctGC 3) (setRef rsHoldover s) = getC (ctGC 3) (incC (ctGC 3) s) := by
  have hctr : getC (ctGC 3) (refWritten rsHoldover s) = getC (ctGC 3) s := by
    rw [refWritten, getC_timedLapse]
    rfl
  rw [(setRef_noted (Ne.symm hne) hb).ctrs _ (by decide), refEntered, if_pos ⟨rfl, hq⟩, getC_incC_congr hctr]

end Sys2Proof.Machine
end

section
/-! SUPPORT. The readings of a monitor window (R28): what storing them writes, and what the classes of both references then read. -/

namespace Sys2Proof.Machine

/-- The readings of both references are stored at a window's end. -/
def windowRead (a b : RefReading) (s : State) : State := readingStore 1 b (readingStore 0 a s)

theorem readingClass_lt (x : RefReading) (s : State) : readingClass x s < 4 := by
  unfold readingClass
  repeat' split
  all_goals omega

/-- The windows in a row within WARN that reading `x` of reference `r` leaves, at most 100. -/
def runAfter (r : Nat) (x : RefReading) (s : State) : Nat :=
  min 100 (if readingClass x s = 0 then refRun r s + 1 else 0)

/-- The monitor register of reference `r` after reading `x`. -/
def readingWritten (r : Nat) (x : RefReading) (s : State) : State :=
  setB (GC_MON_HEALTHY r) (decide (16 ≤ runAfter r x s)) (setF (GC_MON_CLASS r) (readingClass x s)
    (setF (GC_MON_OFFSET r) (unsignedOf (max (-32767) (min 32767 x.offset)) 16) s))

theorem readingStore_zero (x : RefReading) (s : State) :
    readingStore 0 x s = { readingWritten 0 x s with gc := { s.gc with runA := runAfter 0 x s } } := rfl

theorem getF_readingWritten_other {f : Fld} {r : Nat} (hl : f.lo < 32) (hf : f.addr ≠ 0x3F00100028 + r * 4) (x : RefReading) (s : State) :
    getF f (readingWritten r x s) = getF f s := by
  rw [readingWritten, setB, getF_setF_other, getF_setF_other, getF_setF_other]
  all_goals
    simp only [fldKey, GC_MON_HEALTHY, GC_MON_CLASS, GC_MON_OFFSET]
    omega

/-- The windows' thresholds are those of the window's start: storing a reading does not change a class. -/
theorem readingClass_congr {s t : State} (hw : t.gc.warn = s.gc.warn) (hm : t.gc.limit = s.gc.limit) (x : RefReading) :
    readingClass x t = readingClass x s := by
  simp only [readingClass, hw, hm]

/-- Fields outside the monitor registers keep their values. -/
theorem getF_windowRead_other {f : Fld} (hl : f.lo < 32) (h0 : f.addr ≠ 0x3F00100028) (h1 : f.addr ≠ 0x3F0010002C) (a b : RefReading)
    (s : State) : getF f (windowRead a b s) = getF f s :=
  (getF_readingWritten_other hl (r := 1) h1 b _).trans (getF_readingWritten_other hl (r := 0) h0 a s)

/-- The class of reference A after the window. -/
theorem refClass_windowRead (a b : RefReading) (s : State) : refClass 0 (windowRead a b s) = readingClass a s := by
  have hother : refClass 0 (windowRead a b s) = getF (GC_MON_CLASS 0) (readingWritten 0 a s) :=
    getF_readingWritten_other (r := 1) (by decide) (by decide) b _
  rw [hother, readingWritten, setB, getF_setF_other _ _ (by decide), getF_setF_same]
  exact Nat.mod_eq_of_lt (readingClass_lt a s)

/-- Reference B is not HEALTHY after a window that was not within WARN. -/
theorem refHealthy_windowRead {b : RefReading} {s : State} (a : RefReading) (h : readingClass b s ≠ 0) :
    refHealthy 1 (windowRead a b s) = false := by
  have hrun : runAfter 1 b (readingStore 0 a s) = 0 := by
    have hc : readingClass b (readingStore 0 a s) ≠ 0 := by
      rwa [readingClass_congr (s := s) (by rw [readingStore_zero]) (by rw [readingStore_zero])]
    simp [runAfter, hc]
  have hread : getF (GC_MON_HEALTHY 1) (windowRead a b s) = 0 := by
    show getF (GC_MON_HEALTHY 1) (readingWritten 1 b (readingStore 0 a s)) = 0
    rw [readingWritten, setB, getF_setF_same, hrun]
    rfl
  simp [refHealthy, isSet, hread]

/-- At a window's end with XTAL_IN good and the clock running, the state machine steps and the thresholds are taken anew (R28). -/
theorem refWindowEnd_running {s : State} (hx : s.pll.xtalBad = false) (hrun : isSet GC_CTRL_RUN s = true) (a b : RefReading) (ok : Bool) :
    ∃ x : Gc, x.beyond = (refStep ok (windowRead a b s)).gc.beyond ∧
      refWindowEnd a b ok s = { refStep ok (windowRead a b s) with gc := x } := by
  have hrun' : isSet GC_CTRL_RUN (readingStore 1 b (readingStore 0 a s)) = true := by
    rw [← hrun, isSet, isSet]
    exact congrArg (fun n => decide (n = 1)) (getF_windowRead_other (by decide) (by decide) (by decide) a b s)
  refine ⟨{ (refStep ok (windowRead a b s)).gc with
    warn := getF GC_CFG_MON_WARN_PPM (refStep ok (windowRead a b s))
    limit := getF GC_CFG_MON_LIMIT_PPM (refStep ok (windowRead a b s)) }, rfl, ?_⟩
  simp only [refWindowEnd, hx, hrun', Bool.false_eq_true, if_false, if_true]
  rfl

end Sys2Proof.Machine
end

section
/-! The state of the active reference at a window's end (R28), state by state. -/

namespace Sys2Proof.Machine

/-- A state of the reference machine that a window leaves: the guarantee's policy is as it was. -/
structure RefLeft (st : Nat) (s t : State) : Prop where
  state : refState t = st
  policy : getF (policyFld 0x13) t = getF (policyFld 0x13) s

theorem RefLeft.ofSetRef {st : Nat} {s : State} (hst : st < 8) (hb : s.boot.stage ≠ 2) : RefLeft st s (setRef st s) where
  state := refState_setRef hst fun h => absurd h hb
  policy := getF_setRef_other (by decide) (by unfold noteAddr; decide) (by decide) fun h => absurd h hb

/-- The Game Clock's own state is not what a state and a policy read. -/
theorem RefLeft.withGc {st : Nat} {s t : State} (h : RefLeft st s t) (x : Gc) : RefLeft st s { t with gc := x } := ⟨h.state, h.policy⟩

theorem trackWindow_beyond {s : State} (hm : getF GC_CTRL_SRC_MODE s = 0) (hc : 2 ≤ refClass (refActive s) s) :
    ∃ x, trackWindow s = setRef rsPending { s with gc := x } := by
  simp only [trackWindow, forcedOther, hm, hc]
  exact ⟨_, rfl⟩

theorem trackWindow_within {s : State} (hm : getF GC_CTRL_SRC_MODE s = 0) (hc : ¬ 2 ≤ refClass (refActive s) s) :
    ∃ x, trackWindow s = { setRef (if refClass (refActive s) s = 1 then rsDrifting else rsLocked) s with gc := x } := by
  simp only [trackWindow, forcedOther, hm, hc]
  exact ⟨_, rfl⟩

/-- LOCKED or DRIFTING under AUTO: the class of the window says which state follows. -/
theorem trackWindow_auto {s : State} (hm : getF GC_CTRL_SRC_MODE s = 0) (hb : s.boot.stage ≠ 2) :
    RefLeft (if refClass (refActive s) s = 0 then 2 else if refClass (refActive s) s = 1 then 3 else 4) s (trackWindow s) := by
  by_cases hc : 2 ≤ refClass (refActive s) s
  · obtain ⟨x, hx⟩ := trackWindow_beyond hm hc
    rw [hx, if_neg (by omega), if_neg (by omega)]
    have hleft := RefLeft.ofSetRef (st := rsPending) (s := { s with gc := x }) (by decide) hb
    exact ⟨hleft.state, hleft.policy⟩
  · obtain ⟨x, hx⟩ := trackWindow_within hm hc
    have hst : (if refClass (refActive s) s = 0 then 2 else if refClass (refActive s) s = 1 then 3 else 4) =
        if refClass (refActive s) s = 1 then rsDrifting else rsLocked := by
      have : refClass (refActive s) s = 0 ∨ refClass (refActive s) s = 1 := by omega
      rcases this with h | h <;> rw [h] <;> rfl
    rw [hx, hst]
    exact (RefLeft.ofSetRef (by split <;> decide) hb).withGc x

/-- The members of the pair that lost lock while the loop was open lock again (R30). -/
def membersRelock (s : State) : State :=
  forEach (fun p s => if getF (PLL_STATUS_STATE p) s = 3 then pllRelock p s else s) (natsFrom 0 2) s

theorem getF_membersRelock {f : Fld} (hl : f.lo < 32) (hf : ¬ pllAddr f.addr) (s : State) :
    getF f (membersRelock s) = getF f s := by
  refine forEach_keeps (getF f) (fun p hp s => ?_) s
  have := mem_natsFrom.1 hp
  split
  · exact getF_pllRelock hl hf (by omega) s
  · rfl

/-- Notes, and the relock of the pair, leave a state and a policy as they are. -/
theorem RefLeft.relocked {st : Nat} {s t u : State} (h : RefLeft st s t) (n : Noted t u) : RefLeft st s (membersRelock u) where
  state := (getF_membersRelock (by decide) (by unfold pllAddr; decide) u).trans
    ((n.regs _ (by decide) (by unfold noteAddr; decide)).trans h.state)
  policy := (getF_membersRelock (by decide) (by unfold pllAddr; decide) u).trans
    ((n.regs _ (by decide) (by unfold noteAddr; decide)).trans h.policy)

theorem pendingWindow_within {s : State} (hc : refClass (refActive s) s ≤ 1) (ok : Bool) : ∃ x, pendingWindow ok s =
    { membersRelock (sbEvent 0x020B [] (setRef (if refClass (refActive s) s = 1 then rsDrifting else rsLocked) s)) with gc := x } := by
  simp only [pendingWindow, hc, if_true]
  exact ⟨_, rfl⟩

/-- PENDING with a reading within LIMIT: the loop closes again. -/
theorem pendingWindow_returns {s : State} (hb : s.boot.stage ≠ 2) (hc : refClass (refActive s) s ≤ 1) (ok : Bool) :
    RefLeft (if refClass (refActive s) s = 1 then 3 else 2) s (pendingWindow ok s) := by
  obtain ⟨x, hx⟩ := pendingWindow_within hc ok
  rw [hx]
  exact ((RefLeft.ofSetRef (by split <;> decide) hb).relocked (Noted.sbEvent _ _ _)).withGc x

/-- PENDING with a second reading beyond LIMIT stays. -/
theorem pendingWindow_stays {s : State} (hc : 2 ≤ refClass (refActive s) s) (hn : s.gc.beyond = 1) (ok : Bool) :
    pendingWindow ok s = { s with gc := { s.gc with beyond := 2 } } := by
  simp only [pendingWindow, hn]
  rw [if_neg (by omega), if_pos (by decide)]

/-- PENDING with a third reading beyond LIMIT enters HOLDOVER where the other reference is not HEALTHY. -/
theorem pendingWindow_holds {s : State} (hc : 2 ≤ refClass (refActive s) s) (hn : s.gc.beyond = 2)
    (hh : refHealthy (1 - refActive s) s = false) (ok : Bool) :
    pendingWindow ok s = setRef rsHoldover { s with gc := { s.gc with beyond := 0 } } := by
  simp only [pendingWindow, hn, hh, Bool.and_false]
  rw [if_neg (by omega), if_neg (by decide), if_neg (by decide)]

theorem Noted.boundMet (c : Nat) (s : State) : Noted s (boundMet c s) := Noted.ofLj s _

/-- What the step of a window's end on the readings leaves is what the command leaves, but for notes, where the guarantee's alarm
only notes. -/
theorem refWindowEnd_noted {s u : State} (hx : s.pll.xtalBad = false) (hrun : isSet GC_CTRL_RUN s = true) {a b : RefReading} {ok : Bool}
    (hu : refStep ok (windowRead a b s) = u) (hs : NotSafe 0x13 u) : ∃ x : Gc, x.beyond = u.gc.beyond ∧
    Noted { u with gc := x } (whSettle (guaranteeFollow (boundMet 2 (refWindowEnd a b ok s)))) := by
  obtain ⟨x, hbeyond, hend⟩ := refWindowEnd_running hx hrun a b ok
  rw [hu] at hbeyond hend
  refine ⟨x, hbeyond, ?_⟩
  rw [hend]
  exact ((Noted.boundMet 2 _).trans (Noted.guaranteeFollow (s := boundMet 2 { u with gc := x }) hs)).trans (Noted.whSettle _)

/-- A window's end in state `st` of the reference machine. -/
theorem windowEnd_refState {s w u : State} {st : Nat} (hx : s.pll.xtalBad = false) (hrun : isSet GC_CTRL_RUN s = true)
    {a b : RefReading} {ok : Bool} (hs : NotSafe 0x13 s) (hw : windowRead a b s = w) (hu : refStep ok w = u) (h : RefLeft st w u) :
    ∃ x : Gc, x.beyond = u.gc.beyond ∧ Noted { u with gc := x } (whSettle (guaranteeFollow (boundMet 2 (refWindowEnd a b ok s)))) ∧
      refState (whSettle (guaranteeFollow (boundMet 2 (refWindowEnd a b ok s)))) = st := by
  subst hw
  have hs' : NotSafe 0x13 u := by
    unfold NotSafe
    rw [h.policy, getF_windowRead_other (by decide) (by decide) (by decide)]
    exact hs
  obtain ⟨x, hbeyond, n⟩ := refWindowEnd_noted hx hrun hu hs'
  exact ⟨x, hbeyond, n, (n.regs _ (by decide) (by unfold noteAddr; decide)).trans h.state⟩

/-- The third window in a row beyond LIMIT, with the other reference not HEALTHY: HOLDOVER with TQ 3, counted once. -/
theorem setRef_holdover {s : State} (hb : s.boot.stage ≠ 2) (h : refState s = 4) :
    RefLeft 5 s (setRef rsHoldover s) ∧ getF GC_STATUS_TQ (setRef rsHoldover s) = 3 ∧
      getC (ctGC 3) (setRef rsHoldover s) = getC (ctGC 3) (incC (ctGC 3) s) := by
  have hstays : BootStays (tqOf rsHoldover s) s := fun h => absurd h hb
  have hne : refState s ≠ rsHoldover := by rw [h]; decide
  exact ⟨.ofSetRef (by decide) hb, tq_setRef hne.symm hstays, getC_setRef_holdover hne (by rw [h]; decide) hstays⟩

/-- Settles O16: the state machine's step on the readings of the window, state by state; the guarantee's alarm only notes. -/
theorem referenceWindows : Obligations.ReferenceWindows := by
  unfold Obligations.ReferenceWindows
  intro s a b ok hx hrun hm hact
  refine ⟨_, rfl, fun hb hs => ?_⟩
  have hkeep (f : Fld) (hl : f.lo < 32) (h0 : f.addr ≠ 0x3F00100028) (h1 : f.addr ≠ 0x3F0010002C) :
      getF f (windowRead a b s) = getF f s := getF_windowRead_other hl h0 h1 a b s
  have hstate : refState (windowRead a b s) = refState s := hkeep _ (by decide) (by decide) (by decide)
  have hactive : refActive (windowRead a b s) = 0 := (hkeep _ (by decide) (by decide) (by decide)).trans hact
  have hmode : getF GC_CTRL_SRC_MODE (windowRead a b s) = 0 := (hkeep _ (by decide) (by decide) (by decide)).trans hm
  have hclass : refClass (refActive (windowRead a b s)) (windowRead a b s) = readingClass a s := by
    rw [hactive, refClass_windowRead]
  have hboot : (windowRead a b s).boot.stage ≠ 2 := hb
  have hbeyond : (windowRead a b s).gc.beyond = s.gc.beyond := rfl
  have hctr : getC (ctGC 3) (windowRead a b s) = getC (ctGC 3) s := rfl
  have hother (h : readingClass b s ≠ 0) : refHealthy (1 - refActive (windowRead a b s)) (windowRead a b s) = false := by
    rw [hactive]
    exact refHealthy_windowRead a h
  rw [← hstate, ← hclass, ← hbeyond, getC_incC_congr hctr.symm]
  generalize hw : windowRead a b s = w at *
  refine ⟨fun h => ?_, fun h hc => ?_, fun h hc hn => ?_, fun h hc hn hb' => ?_⟩
  · have hstep : refStep ok w = trackWindow w := by rcases h with h | h <;> simp only [refStep, h]
    obtain ⟨-, -, -, hend⟩ := windowEnd_refState hx hrun hs hw hstep (trackWindow_auto hmode hboot)
    exact hend
  · have hstep : refStep ok w = pendingWindow ok w := by simp only [refStep, h]
    obtain ⟨-, -, -, hend⟩ := windowEnd_refState hx hrun hs hw hstep (pendingWindow_returns hboot hc ok)
    exact hend
  · have hstep : refStep ok w = { w with gc := { w.gc with beyond := 2 } } := by
      simp only [refStep, h]
      exact pendingWindow_stays hc hn ok
    obtain ⟨x, hx2, n, hend⟩ := windowEnd_refState hx hrun hs hw hstep ⟨h, rfl⟩
    exact ⟨hend, (congrArg Gc.beyond n.gc).trans hx2⟩
  · have hstep : refStep ok w = setRef rsHoldover { w with gc := { w.gc with beyond := 0 } } := by
      simp only [refStep, h]
      exact pendingWindow_holds hc hn (hother hb') ok
    obtain ⟨hleft, htq, hcount⟩ := setRef_holdover (s := { w with gc := { w.gc with beyond := 0 } }) hboot h
    obtain ⟨x, -, n, hend⟩ := windowEnd_refState hx hrun hs hw hstep ⟨hleft.state, hleft.policy⟩
    exact ⟨hend, (n.regs _ (by decide) (by unfold noteAddr; decide)).trans htq, (n.ctrs _ (by decide)).trans hcount⟩

end Sys2Proof.Machine
end

section
/-! SUPPORT. The count S.T.F under the operations that act at a slot boundary: the Dugout's, the ports', the mailboxes' and the reference
machine's leave it alone. -/

namespace Sys2Proof.Machine

/-- What a step leaves alone, doing it under a condition leaves alone. -/
theorem whenS_keeps {β : Type} (g : State → β) {f : State → State} (h : ∀ s, g (f s) = g s) (b : Bool) (s : State) :
    g (whenS b f s) = g s := by
  unfold whenS
  split
  · exact h s
  · rfl

/-! Notes and answers. -/

@[simp] theorem sbEvent_clk (code : Nat) (vs : List (Nat × Nat)) (s : State) : (sbEvent code vs s).clk = s.clk := (Noted.sbEvent _ _ _).clk
@[simp] theorem notice_clk (code mb : Nat) (arg : List (BitVec 8)) (s : State) : (notice code mb arg s).clk = s.clk := (Noted.notice _ _ _ _).clk
@[simp] theorem whRaise_clk (id : Nat) (s : State) : (whRaise id s).clk = s.clk := rfl
@[simp] theorem oncePerSecond_clk (k code : Nat) (vs : List (Nat × Nat)) (s : State) :
    (oncePerSecond k (sbEvent code vs) s).clk = s.clk := by
  unfold oncePerSecond atMostOnce
  split
  · simp
  · rfl

@[simp] theorem setDevState_clk (d : DevState) (c : Nat) (s : State) : (setDevState d c s).clk = s.clk := by
  obtain ⟨_, -, -, n⟩ := setDevState_noted d c s
  exact n.clk

theorem ringWrite_clk (r code mb : Nat) (arg : List (BitVec 8)) (s : State) : (ringWrite r code mb arg s).clk = s.clk := by
  dsimp only [ringWrite]
  split
  · exact (Noted.noticeMsi _).clk
  · rfl

theorem ringOverflow_clk (r : Nat) (s : State) : (ringOverflow r s).clk = s.clk := by
  dsimp only [ringOverflow]
  split
  · exact ringWrite_clk _ _ _ _ _
  · rfl

theorem ringPost_clk (r code mb : Nat) (arg : List (BitVec 8)) (s : State) : (ringPost r code mb arg s).clk = s.clk := by
  rw [← ringOverflow_clk r s]
  dsimp only [ringPost]
  generalize ringOverflow r s = u
  split
  · rw [bumpF_clk]
    exact whenS_keeps State.clk (sbEvent_clk _ _) _ u
  · exact ringWrite_clk _ _ _ _ _

@[simp] theorem asyncEnd_clk (op st detail : Nat) (p : List (BitVec 8)) (s : State) : (asyncEnd op st detail p s).clk = s.clk := by
  unfold asyncEnd
  split
  · rfl
  · exact ringPost_clk _ _ _ _ _

theorem respond_clk (r : Req) (st o : Nat) (p : List (BitVec 8)) (s : State) : (respond r st o p s).clk = s.clk := by
  obtain ⟨_, h⟩ := respond_shape r st o p s
  rw [h]
  rfl

@[simp] theorem conclude_clk (r : Req) (p : Reply) (s : State) : (conclude r p s).clk = s.clk := by
  obtain ⟨st, b, keep⟩ := p
  cases keep with
  | none => exact respond_clk _ _ _ _ _
  | some x => exact respond_clk _ _ _ _ _

@[simp] theorem endNext_clk (p : Reply) (s : State) : (endNext p s).clk = s.clk := by
  unfold endNext
  split
  · rfl
  · dsimp only
    split
    · exact conclude_clk _ _ _
    · rfl

/-! The Dugout. -/

@[simp] theorem qevt_clk (q bit : Nat) (s : State) : (qevt q bit s).clk = s.clk := rfl
@[simp] theorem dqRemove_clk (q n : Nat) (s : State) : (dqRemove q n s).clk = s.clk := rfl
@[simp] theorem dqSetCells_clk (q : Nat) (l : List Cell) (s : State) : (dqSetCells q l s).clk = s.clk := rfl

@[simp] theorem dqDepthEvents_clk (q before : Nat) (s : State) : (dqDepthEvents q before s).clk = s.clk := by
  dsimp only [dqDepthEvents]
  refine (whenS_keeps State.clk (fun s => ?_) _ _).trans ((whenS_keeps State.clk (fun s => ?_) _ _).trans
    ((whenS_keeps State.clk (fun s => ?_) _ _).trans (whenS_keeps State.clk (fun s => ?_) _ _)))
  all_goals simp

@[simp] theorem dqAge_clk (q : Nat) (s : State) : (dqAge q s).clk = s.clk := by
  simp only [dqAge]
  split
  · rfl
  · split
    · rfl
    · simp

@[simp] theorem dqAgeAll_clk (s : State) : (dqAgeAll s).clk = s.clk := forEach_keeps State.clk (fun _ _ _ => dqAge_clk _ _) s

@[simp] theorem dqFlushN_clk (q n : Nat) (s : State) : (dqFlushN q n s).clk = s.clk := by
  simp only [dqFlushN]
  split
  · rfl
  · simp

@[simp] theorem dqFlush_clk (q : Nat) (s : State) : (dqFlush q s).clk = s.clk := dqFlushN_clk _ _ _

@[simp] theorem dqDropNew_clk (q : Nat) (d : Bool) (s : State) : (dqDropNew q d s).clk = s.clk :=
  whenS_keeps State.clk (setF_clk _ _) _ _

@[simp] theorem spillWrite_clk (q : Nat) (s : State) : (spillWrite q s).clk = s.clk := by
  simp only [spillWrite]
  split
  · rfl
  · split
    · rfl
    · rfl

@[simp] theorem dqLand_clk (q before place : Nat) (c : Cell) (s : State) : (dqLand q before place c s).clk = s.clk := by
  simp [dqLand]

@[simp] theorem dqPushFull_clk (q : Nat) (c : Cell) (s : State) : (dqPushFull q c s).2.clk = s.clk := by
  simp only [dqPushFull]
  split
  · simp
  · split
    · split
      · simp
      · split
        · simp
        · split <;> simp
    · rfl

@[simp] theorem dqPush_clk (q : Nat) (c : Cell) (s : State) : (dqPush q c s).2.clk = s.clk := by
  simp only [dqPush, dqPushAt]
  split
  · simp
  · split
    · simp
    · split
      · simp
      · split <;> simp

theorem dqPortDown_clk (p : Nat) (hold : Bool) (begun : Option Nat) (s : State) : (dqPortDown p hold begun s).clk = s.clk := by
  dsimp only [dqPortDown]
  rw [whenS_keeps State.clk (sbEvent_clk _ _)]
  refine (forEach_keeps State.clk (fun q _ s => ?_) _).trans ?_
  · split <;> simp
  · split <;> simp

/-! Ports. -/

@[simp] theorem portUpd_clk (p : Nat) (f : Port → Port) (s : State) : (portUpd p f s).clk = s.clk := rfl
@[simp] theorem portEvent_clk (p : Nat) (f : Fld) (s : State) : (portEvent p f s).clk = s.clk := rfl
@[simp] theorem replayEmpty_clk (p : Nat) (s : State) : (replayEmpty p s).clk = s.clk := rfl

@[simp] theorem rxCell_clk (p : Nat) (b : List (BitVec 8)) (eop poison : Bool) (s : State) : (rxCell p b eop poison s).clk = s.clk := by
  simp [rxCell]

@[simp] theorem portRx_clk (p : Nat) (s : State) : (portRx p s).clk = s.clk := by
  have hcut (s : State) : (rxCut p s).clk = s.clk := by
    unfold rxCut rxAbort
    dsimp only
    split
    · rfl
    · split
      · split <;> simp
      · rfl
  unfold portRx
  split
  · rfl
  · split
    · rfl
    · simp [hcut]

@[simp] theorem portDown_clk (p cause : Nat) (s : State) : (portDown p cause s).clk = s.clk := by
  simp only [portDown, setF_clk]
  split <;> simp [dqPortDown_clk]

@[simp] theorem portsFollow_clk (s : State) : (portsFollow s).clk = s.clk := by
  refine forEach_keeps State.clk (fun p _ s => ?_) s
  dsimp only [portFollow]
  split
  · split <;> simp
  · simp

/-! The device's moves and the reference machine. -/

@[simp] theorem enterLive_clk (cause : Nat) (s : State) : (enterLive cause s).clk = s.clk := by
  simp only [enterLive, endNext_clk, portsFollow_clk, setDevState_clk]
  split
  · exact asyncEnd_clk _ _ _ _ _
  · rfl

@[simp] theorem onRealign_clk (s : State) : (onRealign s).clk = s.clk := by
  unfold onRealign
  split
  · rfl
  · split
    · split
      · exact enterLive_clk _ _
      · rfl
    · split
      · exact asyncEnd_clk _ _ _ _ _
      · rfl

@[simp] theorem bootTq_clk (s : State) : (bootTq s).clk = s.clk := by
  unfold bootTq
  split
  · simp [bootHuddle]
  · rfl

@[simp] theorem setRef_clk (st : Nat) (s : State) : (setRef st s).clk = s.clk := by
  have hlapse (u : State) : (timedLapse u).clk = u.clk := by
    obtain ⟨_, h⟩ := timedLapse_shape u
    rw [h]
  simp only [setRef]
  split
  · rfl
  · rw [bootTq_clk]
    split <;> simp [hlapse]

@[simp] theorem pllRelock_clk (p : Nat) (s : State) : (pllRelock p s).clk = s.clk := rfl

@[simp] theorem acquire_clk (r : Nat) (s : State) : (acquire r s).clk = s.clk := by
  simp only [acquire, setRef_clk, startTimer_clk, pllRelock_clk]
  split <;> simp

/-! What a slot and a turn begin with. -/

@[simp] theorem slotStart_clk (s : State) : (slotStart s).clk = s.clk := by
  dsimp only [slotStart]
  exact forEach_keeps State.clk (fun _ _ _ => emit_clk _ _) s

@[simp] theorem turnWrap_clk (s : State) : (turnWrap s).clk = s.clk := by simp [turnWrap]

@[simp] theorem coreUpd_clk (n : Nat) (f : Core → Core) (s : State) : (coreUpd n f s).clk = s.clk := rfl

@[simp] theorem turnBoundary_clk (s : State) : (turnBoundary s).clk = s.clk := by
  have htrace (u : State) : (traceTurn u).clk = u.clk := forEach_keeps State.clk (fun _ _ _ => coreUpd_clk _ _ _) u
  have hlines (u : State) : (userLinesApply u).clk = u.clk :=
    forEach_keeps State.clk (fun _ _ _ => (setF_clk _ _ _).trans (setF_clk _ _ _)) _
  simp only [turnBoundary, htrace, dqAgeAll_clk]
  split
  · exact (acquire_clk _ _).trans (hlines s)
  · exact hlines s

@[simp] theorem timedEpoch_clk (s : State) : (timedEpoch s).clk = s.clk := by
  simp only [timedEpoch]
  split
  · rfl
  · simp

@[simp] theorem rePhase_clk (s : State) : (rePhase s).clk = s.clk := by
  refine forEach_keeps State.clk (fun p _ s => ?_) s
  split <;> rfl

@[simp] theorem huddleSample_clk (high : Bool) (s : State) : (huddleSample high s).clk = s.clk := by
  unfold huddleSample
  split <;> rfl

end Sys2Proof.Machine
end

section
/-! SUPPORT. What falls due within a slot (R35, R38, R227 to R231, R238, R265) leaves the count, and the
registers of the Game Clock, as they are. -/

namespace Sys2Proof.Machine

/-- Two states have the same count and the same registers below those of the clocks: DEVICE, boot and Game Clock (R9). -/
structure CountKept (s t : State) : Prop where
  clk : t.clk = s.clk
  regs : ∀ f : Fld, f.lo < 32 → f.addr < 0x3F00200000 → getF f t = getF f s

theorem CountKept.refl (s : State) : CountKept s s := ⟨rfl, fun _ _ _ => rfl⟩

theorem CountKept.trans {s t u : State} (h : CountKept s t) (k : CountKept t u) : CountKept s u :=
  ⟨k.clk.trans h.clk, fun f hl ha => (k.regs f hl ha).trans (h.regs f hl ha)⟩

/-! A state's parts other than the count and the registers change. -/

theorem CountKept.withGc {s t : State} (h : CountKept s t) (x : Gc) : CountKept s { t with gc := x } := ⟨h.clk, h.regs⟩
theorem CountKept.withFab {s t : State} (h : CountKept s t) (x : Fab) : CountKept s { t with fab := x } := ⟨h.clk, h.regs⟩
theorem CountKept.withCfg {s t : State} (h : CountKept s t) (x : Cfg) : CountKept s { t with cfg := x } := ⟨h.clk, h.regs⟩
theorem CountKept.withFabCfg {s t : State} (h : CountKept s t) (x : Fab) (y : Cfg) : CountKept s { t with fab := x, cfg := y } :=
  ⟨h.clk, h.regs⟩
theorem CountKept.withNoc {s t : State} (h : CountKept s t) (x : Noc) : CountKept s { t with noc := x } := ⟨h.clk, h.regs⟩
theorem CountKept.withDq {s t : State} (h : CountKept s t) (x : Dq) : CountKept s { t with dq := x } := ⟨h.clk, h.regs⟩
theorem CountKept.incC {s t : State} (h : CountKept s t) (k : Nat) : CountKept s (incC k t) := ⟨h.clk, h.regs⟩

theorem Noted.countKept {s t : State} (n : Noted s t) : CountKept s t :=
  ⟨n.clk, fun f hl ha => n.regs f hl (by simp only [noteAddr]; omega)⟩

/-- Notes follow. -/
theorem CountKept.noted {s t u : State} (h : CountKept s t) (n : Noted t u) : CountKept s u := h.trans n.countKept

/-- A register of the clocks, or of a block above them, is written. -/
theorem CountKept.setF {s t : State} (h : CountKept s t) {g : Fld} (hg : 0x3F00200000 ≤ g.addr) (v : Nat) : CountKept s (setF g v t) :=
  h.trans ⟨rfl, fun f hl ha => getF_setF_other v t (by simp only [fldKey]; omega)⟩

theorem CountKept.forEach {α : Type} {f : α → State → State} {l : List α} (h : ∀ a ∈ l, ∀ s, CountKept s (f a s)) (s : State) :
    CountKept s (forEach f l s) := by
  induction l generalizing s with
  | nil => exact .refl s
  | cons a l ih => exact (h a (by simp) s).trans (ih (fun b hb => h b (by simp [hb])) _)

theorem CountKept.fpSet {s t : State} (h : CountKept s t) (r st c : Nat) : CountKept s (fpSet r st c t) :=
  (h.setF (g := FP_STATUS_STATE r) (by simp only [FP_STATUS_STATE]; omega) st).setF (g := FP_STATUS_CAUSE r)
    (by simp only [FP_STATUS_CAUSE]; omega) c

/-! Regions. -/

theorem CountKept.swapDrain {s t : State} (h : CountKept s t) (r : Nat) : CountKept s (swapDrain r t) := by
  unfold Machine.swapDrain
  split
  · exact h.fpSet r _ _
  · exact h

theorem CountKept.swapBack {s t : State} (h : CountKept s t) (r : Nat) : CountKept s (swapBack r t) := by
  unfold Machine.swapBack
  split
  · exact h.fpSet r _ _
  · exact h

theorem CountKept.popsDeliver {s t : State} (h : CountKept s t) (r : Nat) : CountKept s (popsDeliver r t) := by
  dsimp only [Machine.popsDeliver]
  refine (h.withFab _).trans (.forEach (fun c _ u => ?_) _)
  split
  · exact (Noted.emit _ _).countKept
  · exact ((CountKept.refl u).incC _).noted (Noted.emit _ _)

theorem CountKept.fabRelease (r : Nat) (s : State) : CountKept s (fabRelease r s) := by
  dsimp only [Machine.fabRelease]
  generalize hu : Machine.whenS (s.fab.fresh.contains r) _ s = u
  have hload : CountKept s u := by
    rw [← hu]
    unfold Machine.whenS
    split
    · exact ((CountKept.refl s).withFab _).withFab _
    · exact .refl s
  have hfree : CountKept s (fpFreeTags r (Machine.fpSet r (fpFree r u) fcNone (Machine.setF (RGN_STATUS_FENCED r) 0 u))) :=
    (((hload.setF (g := RGN_STATUS_FENCED r) (by simp only [RGN_STATUS_FENCED]; omega) 0).fpSet r _ _).withFab _)
  refine CountKept.noted ?_ (Noted.sbEvent _ _ _)
  split
  · exact hfree
  · exact hfree.noted (Noted.alarmGone _ _)

theorem CountKept.swapEnd (r : Nat) (s : State) : CountKept s (swapEnd r s) := by
  have hswaps (t : State) : CountKept t (addF (RGN_SWAPS_SWAPS r) 1 t) :=
    (CountKept.refl t).setF (g := RGN_SWAPS_SWAPS r) (by simp only [RGN_SWAPS_SWAPS]; omega) _
  dsimp only [Machine.swapEnd]
  generalize hu : addF (RGN_SWAPS_SWAPS r) 1 _ = u
  have hcount : CountKept s u := by
    rw [← hu]
    exact .trans (.withFabCfg (.refl s) _ _) (hswaps _)
  refine CountKept.noted ?_ (Noted.sbEvent _ _ _)
  split
  · exact ((hcount.fpSet r _ _).popsDeliver r).noted (Noted.sbEvent _ _ _)
  · exact hcount

/-- A refused or late swap: the port returns, and the refusal is shown (R229). -/
theorem CountKept.swapFire (r : Nat) (s : State) : CountKept s (swapFire r s) := by
  have hrefuse {t : State} (h : CountKept s t) (f : Fld) (hf : 0x3F00200000 ≤ f.addr) (code : Nat) (vs : List (Nat × Nat)) :
      CountKept s (Machine.whRaise 40 (Machine.sbEvent code vs (Machine.setF f 1 t))) :=
    ((h.setF hf 1).noted (Noted.sbEvent _ _ _)).noted (Noted.whRaise (by decide) _)
  dsimp only [Machine.swapFire]
  split
  · exact hrefuse ((CountKept.refl s).swapBack r) _ (by decide) _ _
  · split
    · exact hrefuse ((CountKept.refl s).swapBack r) _ (by decide) _ _
    · refine CountKept.noted (CountKept.setF (g := RGN_STATUS_ACTIVE_PLANE r) ?_ (by simp only [RGN_STATUS_ACTIVE_PLANE]; omega) _)
        (Noted.sbEvent _ _ _)
      exact ((CountKept.refl s).fpSet r _ _).withFab _

/-! The Playbook. -/

theorem CountKept.pbMiss (i : Nat) (s : State) : CountKept s (pbMiss i s) := by
  have hput : CountKept s (Machine.incC (ctGC 4) (pbPut i (pbAfter 3 (pbOf i s)) s)) := ((CountKept.refl s).withGc _).incC _
  exact (hput.noted (Noted.sbEvent 0x0208 [] _)).noted (Noted.whRaise (by decide) _)

/-- A line or a pin is driven. -/
theorem CountKept.actBegin (kind line n : Nat) (s : State) : CountKept s (actBegin kind line n s) :=
  ((CountKept.refl s).withGc _).noted (Noted.emit _ _)

theorem CountKept.pbAct (i : Nat) (e : PbEntry) (s : State) : CountKept s (pbAct i e s) := by
  unfold Machine.pbAct
  split
  · exact .actBegin _ _ _ s
  · split
    · exact .refl s
    · exact .actBegin _ _ _ s
  · exact .actBegin _ _ _ s
  · exact .actBegin _ _ _ s
  · exact ((CountKept.refl s).withGc _).trans (.swapFire _ _)
  · unfold dqRelease
    split
    · exact (CountKept.refl s).withDq _
    · exact .refl s
  · unfold timedOpen
    split
    · exact (Noted.sbEvent _ _ s).countKept
    · split
      · exact .refl s
      · exact (CountKept.refl s).withNoc _
  · exact ((Noted.whRaise (by decide) s).trans (Noted.notice _ _ _ _)).countKept
  · exact .refl s

theorem CountKept.pbResolve (i : Nat) (s : State) : CountKept s (pbResolve i s) := by
  dsimp only [Machine.pbResolve]
  split
  · exact ((CountKept.refl s).withGc _).incC _
  · split
    · exact .pbMiss i s
    · exact (((CountKept.refl s).withGc _).withGc _).trans (.pbAct _ _ _)

theorem CountKept.pbResolveAll (s : State) : CountKept s (pbResolveAll s) := by
  unfold Machine.pbResolveAll
  split
  · refine .forEach (fun i _ u => ?_) s
    split
    · exact .pbResolve i u
    · exact .refl u
  · exact .refl s

/-! A slot's work. -/

theorem CountKept.drainsEnd (s : State) : CountKept s (drainsEnd s) := by
  refine .forEach (fun p _ u => ?_) s
  split
  · exact ((CountKept.refl u).withFab _).swapBack _
  · exact .refl u

/-- The body of `drainBegin`, as an equation between functions: applied to a state, `rfl` would have the kernel evaluate `slotsUntil`
on numerals of 48 bits. -/
theorem drainBegin_eq : drainBegin = fun i s =>
    match slotsUntil (pbOf i s) s with
    | none => s
    | some n =>
      if (pbOf i s).en && decide ((pbOf i s).action = 5) && decide (n ≤ getF CFG_CTRL_DRAIN_LEAD s) &&
          decide (tabFind s.fab.drains (pbOf i s).arg ≠ some ((pbOf i s).turn * 65536 + (pbOf i s).slot)) then
        swapDrain (pbOf i s).arg { s with fab := { s.fab with
          drains := tabPut s.fab.drains (pbOf i s).arg ((pbOf i s).turn * 65536 + (pbOf i s).slot) } }
      else s := rfl

theorem CountKept.drainBegin (i : Nat) (s : State) : CountKept s (drainBegin i s) := by
  rw [drainBegin_eq]
  beta_reduce
  split
  · exact .refl s
  · split
    · exact ((CountKept.refl s).withFab _).swapDrain _
    · exact .refl s

theorem CountKept.drainsBegin (s : State) : CountKept s (drainsBegin s) := by
  unfold Machine.drainsBegin
  split
  · exact .forEach (fun i _ u => .drainBegin i u) s
  · exact .refl s

theorem CountKept.throttleEnd (s : State) : CountKept s (throttleEnd s) := by
  dsimp only [Machine.throttleEnd]
  split
  · split
    · exact (CountKept.refl s).withGc _
    · exact ((CountKept.refl s).withGc _).noted (Noted.emit _ _)
  · exact .refl s

theorem CountKept.swapEnds (s : State) : CountKept s (swapEnds s) := by
  refine .forEach (fun p _ u => ?_) s
  split
  · exact .swapEnd _ u
  · exact .refl u

theorem CountKept.autoReleases (s : State) : CountKept s (autoReleases s) := by
  refine ((CountKept.refl s).withCfg _).trans (.forEach (fun r _ u => ?_) _)
  split
  · exact .fabRelease _ u
  · exact .refl u

/-- Away from a turn boundary nothing falls due there. -/
theorem boundaryDue_between {s : State} (h : atBoundary s = false) : boundaryDue s = s := by
  simp [boundaryDue, huddleDue, onAtDue, autoDue, h]

/-- What falls due within a slot, away from a turn boundary. -/
theorem CountKept.settleSlot {s : State} (h : atBoundary s = false) : CountKept s (settleSlot s) := by
  rw [Machine.settleSlot, boundaryDue_between h]
  have hopen : CountKept s (timedDue (timedCloses (Machine.swapEnds (Machine.autoReleases s)))) :=
    (((CountKept.autoReleases s).trans (.swapEnds _)).withNoc _).withNoc _
  exact (((hopen.trans (.throttleEnd _)).trans (.drainsBegin _)).trans (.pbResolveAll _)).trans (.drainsEnd _)

theorem CountKept.takeover {s t : State} (h : CountKept s t) : CountKept s (takeover t) := by
  unfold Machine.takeover
  split
  · split
    · exact (h.setF (g := CLK_STATUS_GC_TPLL) (by decide) _).setF (g := CLK_STATUS_TAKEOVER) (by decide) _
    · exact h
  · exact h

end Sys2Proof.Machine
end

section
/-! SUPPORT. Markers and realignment (R22 to R25). -/

namespace Sys2Proof.Machine

/-- Realignment to the nearest turn, with no turn number loaded (R24). -/
theorem realign_clk {s : State} (hb : atBoundary s = false) (harm : isSet GC_TURN_LOAD1_ARM s = false) :
    (realign none s).clk = ⟨if 2 * s.clk.slot < slotsPerTurn s then s.clk.turn else (s.clk.turn + 1) % 2 ^ 48, 0, 0⟩ := by
  have hkept : CountKept s (takeover (settleSlot s)) := (CountKept.settleSlot hb).takeover
  unfold realign
  generalize takeover (settleSlot s) = u at hkept
  have harm' : isSet GC_TURN_LOAD1_ARM u = false := by
    rw [isSet, hkept.regs _ (by decide) (by decide)]
    exact harm
  have hslots : slotsPerTurn u = slotsPerTurn s := congrArg (· + 1) (hkept.regs _ (by decide) (by decide))
  simp only [onRealign_clk, rePhase_clk, timedEpoch_clk, turnBoundary_clk, slotStart_clk, apply_ite State.clk, turnWrap_clk, ite_self,
    emit_clk, addF_clk, harm', hslots, hkept.clk, decide_eq_true_eq, Bool.false_eq_true, if_false]

/-- A count more than one fine step past a turn's start is not at a turn boundary. -/
theorem atBoundary_of_late {s : State} (h : 1 < markerOffset s) : atBoundary s = false := by
  by_contra hb
  simp only [atBoundary, Bool.not_eq_false, Bool.and_eq_true, decide_eq_true_eq] at hb
  obtain ⟨⟨hslot, hfine⟩, -⟩ := hb
  simp [markerOffset, slotsPerTurn, hslot, hfine] at h

/-- A marker of a locked reference is judged by its offset (R22). -/
theorem marker_judged {s : State} (hst : refState s = 2 ∨ refState s = 3) (hr : s.gc.realign = false) (frame : Option Nat) :
    marker frame s =
      if -1 ≤ markerOffset s ∧ markerOffset s ≤ 1 then markerGood frame s else markerSlip frame s :=
  (if_neg (by simp [hr])).trans (if_pos hst)

/-- A marker in place clears the slips and the misses. -/
theorem marker_good {s : State} (hst : refState s = 2 ∨ refState s = 3) (hr : s.gc.realign = false)
    (hl : isSet GC_STATUS_MARKER_LOST s = false) (hlo : -1 ≤ markerOffset s) (hhi : markerOffset s ≤ 1) (frame : Option Nat) :
    marker frame s = { s with gc := { s.gc with slips := 0, misses := 0 } } := by
  have hlost : isSet GC_STATUS_MARKER_LOST { s with gc := { s.gc with slips := 0, misses := 0 } } ≠ true :=
    fun h => absurd (h.symm.trans hl) (by decide)
  rw [marker_judged hst hr, if_pos ⟨hlo, hhi⟩]
  exact if_neg hlost

/-- The first marker far out is counted as a slip, and its offset is kept. -/
theorem markerSlip_first {s : State} (hs : s.gc.slips = 0) (ho : markerOffset s < -64) (frame : Option Nat) :
    markerSlip frame s = incC (ctGC 1) (setF GC_STATUS_SLIP 1 { s with gc := { s.gc with slips := 1, slipAt := markerOffset s } }) := by
  have hnear : ¬ (-64 ≤ markerOffset s ∧ markerOffset s ≤ 64) := by omega
  have hsame : (decide (0 < (incC (ctGC 1) (setF GC_STATUS_SLIP 1 s)).gc.slips)) = false := by
    rw [show (incC (ctGC 1) (setF GC_STATUS_SLIP 1 s)).gc.slips = 0 from hs]
    rfl
  simp only [markerSlip, hsame, hnear, Bool.false_and, Bool.false_eq_true, if_false]
  rfl

/-- The third marker in a row at one offset realigns. -/
theorem markerSlip_third {s : State} (hs : 2 ≤ s.gc.slips) (ho : s.gc.slipAt = markerOffset s) (frame : Option Nat) :
    ∃ x, markerSlip frame s = realign frame { incC (ctGC 1) (setF GC_STATUS_SLIP 1 s) with gc := x } := by
  have hgc : (incC (ctGC 1) (setF GC_STATUS_SLIP 1 s)).gc = s.gc := rfl
  have hpos : 0 < s.gc.slips := by omega
  have hk : 3 ≤ s.gc.slips + 1 := by omega
  simp only [markerSlip, hgc, ho, hpos, sub_self, decide_true, Bool.and_true, if_true, hk, show (-1 : Int) ≤ 0 by decide,
    show (0 : Int) ≤ 1 by decide]
  exact ⟨_, rfl⟩

/-- Realigned by a third slip to a late marker. -/
theorem markerSlip_clk {s : State} (hs : 2 ≤ s.gc.slips) (ho : s.gc.slipAt = markerOffset s) (hlate : 1 < markerOffset s)
    (harm : isSet GC_TURN_LOAD1_ARM s = false) :
    (markerSlip none s).clk = ⟨if 2 * s.clk.slot < slotsPerTurn s then s.clk.turn else (s.clk.turn + 1) % 2 ^ 48, 0, 0⟩ := by
  obtain ⟨x, h⟩ := markerSlip_third hs ho none
  have hreg {f : Fld} (hf : fldKey f ≠ fldKey GC_STATUS_SLIP) :
      getF f { incC (ctGC 1) (setF GC_STATUS_SLIP 1 s) with gc := x } = getF f s := getF_setF_other 1 s hf
  have hslots : slotsPerTurn { incC (ctGC 1) (setF GC_STATUS_SLIP 1 s) with gc := x } = slotsPerTurn s :=
    congrArg (· + 1) (hreg (by decide))
  have hoff : markerOffset { incC (ctGC 1) (setF GC_STATUS_SLIP 1 s) with gc := x } = markerOffset s := by
    simp only [markerOffset, hslots]
    rfl
  have harm' : isSet GC_TURN_LOAD1_ARM { incC (ctGC 1) (setF GC_STATUS_SLIP 1 s) with gc := x } = false := by
    rw [isSet, hreg (by decide)]
    exact harm
  rw [h, realign_clk (atBoundary_of_late (hlate.trans_eq hoff.symm)) harm', hslots]
  rfl

/-- A missed marker, but for the sixteenth in a row (R25). -/
theorem markerMiss_counts {s : State} (hst : refState s = 2 ∨ refState s = 3)
    (h : s.gc.misses < 15 ∨ isSet GC_STATUS_MARKER_LOST s = true) :
    markerMiss s = incC (ctGC 0) { s with gc := { s.gc with misses := s.gc.misses + 1 } } := by
  refine (if_pos hst).trans (if_neg fun hlost => ?_)
  obtain ⟨hmany, hnot⟩ := hlost
  rcases h with h | h
  · have : 16 ≤ s.gc.misses + 1 := hmany
    omega
  · exact absurd (h.symm.trans hnot) (by decide)

/-- The sixteenth missed marker in a row sets MARKER_LOST (R25). -/
theorem markerMiss_lost {s : State} (hst : refState s = 2 ∨ refState s = 3) (hm : 15 ≤ s.gc.misses)
    (hl : isSet GC_STATUS_MARKER_LOST s = false) :
    markerMiss s = sbEvent 0x0206 [] (whRaise 21 (setF GC_STATUS_MARKER_LOST 1
      (incC (ctGC 0) { s with gc := { s.gc with misses := s.gc.misses + 1 } }))) :=
  (if_pos hst).trans (if_pos ⟨Nat.succ_le_succ hm, hl⟩)

end Sys2Proof.Machine
end

section
/-! O15. The Game Clock's rows (R18 to R28). -/

namespace Sys2Proof.Machine

theorem gcRunWrite_starts {s : State} (h : refState s = 0) (hs : NotSafe 0x13 s) : Does (.gcRunWrite true) s
    (pllStart 1 (pllStart 0 (setF GC_CTRL_RUN 1 (stopTimer 7 { s with gc := { s.gc with
      realign := false, revert := false, count := 0, misses := 0, slips := 0 } })))) :=
  does_finG rfl (noted_of_eq (gcStart_freerun h)) (NotSafe.gcStart h hs)

/-- A stop is refused in LIVE and QUIESCE: CFG_REJECT is set. -/
theorem gcRunWrite_refused {s : State} (hrun : isSet GC_CTRL_RUN s = true) (hdev : s.dev.state = .live ∨ s.dev.state = .quiesce)
    (hs : NotSafe 0x13 s) : Does (.gcRunWrite false) s (setF GC_STATUS_CFG_REJECT 1 s) := by
  have hreject : gcRunWrite false s = gcReject s := by
    simp [gcRunWrite, hrun, (gcStopRefused_iff s).2 hdev]
  have hn : Noted (setF GC_STATUS_CFG_REJECT 1 s) (gcReject s) := Noted.whRaise (by decide) _
  have hs' : NotSafe 0x13 (gcReject s) := by
    unfold NotSafe
    rw [hn.regs _ (by decide) (by unfold noteAddr; decide), getF_setF_other _ _ (by decide)]
    exact hs
  exact does_finG (congrArg finG hreject) hn hs'

/-- The count after a slot boundary (R20, R21). -/
theorem slotAdvance_clk (s : State) :
    (slotAdvance s).clk = if s.clk.slot < getF GC_CFG_SLOTS_SLOTS_M1 s then ⟨s.clk.turn, s.clk.slot + 1, 0⟩
      else ⟨(s.clk.turn + 1) % 2 ^ 48, 0, 0⟩ := by
  unfold slotAdvance
  split
  · rw [slotStart_clk]
  · dsimp only
    rw [turnBoundary_clk, slotStart_clk]
    split
    · rw [turnWrap_clk]
    · rfl

theorem slotBoundary_counts {s : State} (hrun : isSet GC_CTRL_RUN s = true) (hset : settleSlot s = s) (htake : takeover s = s) :
    ∃ t, Runs (.slotBoundary ⟨false, none, [], []⟩) s t ∧
      t.clk = if s.clk.slot < getF GC_CFG_SLOTS_SLOTS_M1 s then ⟨s.clk.turn, s.clk.slot + 1, 0⟩
        else ⟨(s.clk.turn + 1) % 2 ^ 48, 0, 0⟩ := by
  refine ⟨_, rfl, ?_⟩
  have hboundary : slotBoundary ⟨false, none, [], []⟩ s = huddleSample false (pairCompare none (slotAdvance s)) := by
    simp [slotBoundary, hrun, hset, htake, forEach]
  rw [(Noted.whSettle _).clk, hboundary, huddleSample_clk, ← slotAdvance_clk s]
  rfl

/-- A marker reaches a running count on its reference's pins. -/
theorem exec_markerArrival {s : State} {r : Fin 2} (hrun : isSet GC_CTRL_RUN s = true) (hin : isSet GC_CTRL_INPUT s = false)
    (hact : refActive s = r.val) (f : Fin 64) : exec (.markerArrival r f) s = fin (marker none (atFine f s)) := by
  have hof : markersOf false r.val s = true := by simp [markersOf, hrun, hin, hact]
  exact congrArg fin (if_pos hof)

theorem markerArrival_judged {s : State} {r : Fin 2} {f : Fin 64} (hrun : isSet GC_CTRL_RUN s = true)
    (hin : isSet GC_CTRL_INPUT s = false) (hact : refActive s = r.val) (hst : refState s = 2 ∨ refState s = 3)
    (hr : s.gc.realign = false) :
    (isSet GC_STATUS_MARKER_LOST s = false → -1 ≤ markerOffset (atFine f s) → markerOffset (atFine f s) ≤ 1 →
      Does (.markerArrival r f) s { atFine f s with gc := { s.gc with slips := 0, misses := 0 } }) ∧
    (s.gc.slips = 0 → markerOffset (atFine f s) < -64 →
      Does (.markerArrival r f) s (incC (ctGC 1) (setF GC_STATUS_SLIP 1 { atFine f s with gc := { s.gc with
        slips := 1, slipAt := markerOffset (atFine f s) } }))) ∧
    (2 ≤ s.gc.slips → s.gc.slipAt = markerOffset (atFine f s) → 1 < markerOffset (atFine f s) →
      settleSlot s = s → takeover s = s → isSet GC_TURN_LOAD1_ARM s = false → ∃ t, Runs (.markerArrival r f) s t ∧
        t.clk = ⟨if 2 * s.clk.slot < slotsPerTurn s then s.clk.turn else (s.clk.turn + 1) % 2 ^ 48, 0, 0⟩) := by
  have he := exec_markerArrival hrun hin hact f
  have hslip (ho : ¬ (-1 ≤ markerOffset (atFine f s) ∧ markerOffset (atFine f s) ≤ 1)) :
      marker none (atFine f s) = markerSlip none (atFine f s) :=
    (marker_judged (s := atFine f s) hst hr none).trans (if_neg ho)
  refine ⟨fun hl hlo hhi => ?_, fun hs ho => ?_, fun hs hat hlate _ _ harm => ?_⟩
  · exact does_fin he (noted_of_eq (marker_good (s := atFine f s) hst hr hl hlo hhi none))
  · exact does_fin he (noted_of_eq ((hslip (by omega)).trans (markerSlip_first (s := atFine f s) hs ho none)))
  · refine ⟨_, he, ?_⟩
    rw [(Noted.whSettle _).clk, hslip (by omega)]
    exact markerSlip_clk (s := atFine f s) hs hat hlate harm

theorem markerMiss_does {s : State} (hrun : isSet GC_CTRL_RUN s = true) (hst : refState s = 2 ∨ refState s = 3)
    (hl : isSet GC_STATUS_MARKER_LOST s = false) :
    (s.gc.misses < 15 → Does .markerMiss s (incC (ctGC 0) { s with gc := { s.gc with misses := s.gc.misses + 1 } })) ∧
    (15 ≤ s.gc.misses → Does .markerMiss s (setF GC_STATUS_MARKER_LOST 1
      (incC (ctGC 0) { s with gc := { s.gc with misses := s.gc.misses + 1 } }))) := by
  have he : exec .markerMiss s = fin (markerMiss s) := congrArg fin (if_pos hrun)
  refine ⟨fun hm => ?_, fun hm => ?_⟩
  · exact does_fin he (noted_of_eq (markerMiss_counts hst (.inl hm)))
  · refine does_fin he ?_
    rw [markerMiss_lost hst hm hl]
    exact (Noted.whRaise (by decide) _).trans (Noted.sbEvent _ _ _)

/-- A TIME frame on the active reference's lane: a good one is a marker that carries its turn, a bad one counts and is missed (R19). -/
theorem exec_timeFrame {s : State} {L : Fin 128} (hlane : timingRef L s = some (refActive s)) (hin : isSet GC_CTRL_INPUT s = true)
    (hrun : isSet GC_CTRL_RUN s = true) (fr : TimeFrame) (f : Fin 64) :
    exec (.timeFrame L fr f) s =
      fin (if timeFrameOk fr s then marker (some fr.turn.toNat) (atFine f s) else markerMiss (incC (ctGC 6) s)) := by
  have hact : refActive (incC (ctGC 6) s) = refActive s := rfl
  refine congrArg fin ?_
  simp [timeFrame, hlane, hin, hrun, hact]

theorem timeFrame_does {s : State} {L : Fin 128} {fr : TimeFrame} {f : Fin 64} (hlane : timingRef L s = some (refActive s))
    (hin : isSet GC_CTRL_INPUT s = true) (hrun : isSet GC_CTRL_RUN s = true) (hst : refState s = 2 ∨ refState s = 3)
    (hr : s.gc.realign = false) :
    (fr.crcOk = true → bitOf fr.flags.toNat 1 = true → fr.slotsM1.toNat = getF GC_CFG_SLOTS_SLOTS_M1 s →
      isSet GC_STATUS_MARKER_LOST s = false → -1 ≤ markerOffset (atFine f s) → markerOffset (atFine f s) ≤ 1 →
      Does (.timeFrame L fr f) s { atFine f s with gc := { s.gc with slips := 0, misses := 0 } }) ∧
    (fr.crcOk = false → isSet GC_STATUS_MARKER_LOST s = true → Does (.timeFrame L fr f) s
      (incC (ctGC 0) { incC (ctGC 6) s with gc := { s.gc with misses := s.gc.misses + 1 } })) := by
  have he := exec_timeFrame hlane hin hrun fr f
  refine ⟨fun hcrc hvalid hslots hl hlo hhi => ?_, fun hcrc hl => ?_⟩
  · have hok : timeFrameOk fr s = true := by simp [timeFrameOk, hcrc, hvalid, hslots]
    rw [hok] at he
    exact does_fin he (noted_of_eq (marker_good (s := atFine f s) hst hr hl hlo hhi _))
  · have hbad : timeFrameOk fr s = false := by simp [timeFrameOk, hcrc]
    rw [hbad] at he
    exact does_fin he (noted_of_eq (markerMiss_counts (s := incC (ctGC 6) s) hst (.inr hl)))

/-- While the clock is stopped a window's end stores the readings and takes the thresholds over (R28). -/
theorem refWindowEnd_stopped {s : State} (hx : s.pll.xtalBad = false) (hrun : isSet GC_CTRL_RUN s = false) (hs : NotSafe 0x13 s)
    (a b : RefReading) (ok : Bool) :
    Does (.refWindowEnd a b ok) s { readingStore 1 b (readingStore 0 a s) with
      gc := { (readingStore 1 b (readingStore 0 a s)).gc with
        warn := getF GC_CFG_MON_WARN_PPM s, limit := getF GC_CFG_MON_LIMIT_PPM s } } := by
  have hkeep (f : Fld) (hl : f.lo < 32) (h0 : f.addr ≠ 0x3F00100028) (h1 : f.addr ≠ 0x3F0010002C) :
      getF f (readingStore 1 b (readingStore 0 a s)) = getF f s := getF_windowRead_other hl h0 h1 a b s
  have hstop : isSet GC_CTRL_RUN (readingStore 1 b (readingStore 0 a s)) = false := by
    rw [isSet, hkeep _ (by decide) (by decide) (by decide)]
    exact hrun
  have hend : refWindowEnd a b ok s = { readingStore 1 b (readingStore 0 a s) with
      gc := { (readingStore 1 b (readingStore 0 a s)).gc with
        warn := getF GC_CFG_MON_WARN_PPM s, limit := getF GC_CFG_MON_LIMIT_PPM s } } := by
    simp only [refWindowEnd, hx, hstop, Bool.false_eq_true, if_false, hkeep GC_CFG_MON_WARN_PPM (by decide) (by decide) (by decide),
      hkeep GC_CFG_MON_LIMIT_PPM (by decide) (by decide) (by decide)]
  have hs' : NotSafe 0x13 (boundMet 2 (refWindowEnd a b ok s)) := by
    rw [hend]
    exact fun h => hs ((hkeep _ (by decide) (by decide) (by decide)).symm.trans h)
  exact does_finG rfl (hend ▸ Noted.boundMet 2 _) hs'

/-- ACQUIRE that fails leads to HOLDOVER where the clock has been locked, else to FREERUN (R28). -/
theorem acquireFail_state {s : State} (h : refState s = 1) :
    refState (acquireFail s) = (if s.gc.locked then 5 else 0) ∧ tabFind (acquireFail s).time.deadlines 7 = none ∧
      getF GC_STATUS_TQ (acquireFail s) = (if s.gc.locked then 3 else 0) := by
  let u := stopTimer tmAcquire { s with gc := { s.gc with realign := false } }
  have hevent : Noted u (sbEvent 0x0204 [(1, 1)] u) := Noted.sbEvent _ _ _
  have hfail : acquireFail s = setRef (if s.gc.locked then 5 else 0) (sbEvent 0x0204 [(1, 1)] u) := rfl
  generalize sbEvent 0x0204 [(1, 1)] u = v at hevent hfail
  have hv : refState v = 1 := (hevent.regs _ (by decide) (by unfold noteAddr; decide)).trans h
  have htimer : tabFind v.time.deadlines 7 = none := (hevent.timers 7 (by decide) (by decide)).trans (tabFind_tabDel_same _ _)
  rw [hfail]
  have hends {st : Nat} (hst : st = 5 ∨ st = 0) : refState (setRef st v) = st ∧ tabFind (setRef st v).time.deadlines 7 = none ∧
      getF GC_STATUS_TQ (setRef st v) = tqOf st v := by
    have hne : st ≠ refState v := by omega
    have hb : BootStays (tqOf st v) v := by
      intro _
      rcases hst with rfl | rfl <;> simp [tqOf]
    refine ⟨refState_setRef (by omega) hb, ?_, tq_setRef hne hb⟩
    rw [(setRef_noted hne hb).timers 7 (by decide) (by decide), refEntered_time, htimer]
  cases s.gc.locked
  · exact hends (.inr rfl)
  · exact hends (.inl rfl)

theorem acquireTimeout_runs {s : State} (ht : timerOn 7 s = true) (h : refState s = 1) : ∃ t,
    Runs .acquireTimeout s t ∧ refState t = (if s.gc.locked then 5 else 0) ∧ tabFind t.time.deadlines 7 = none ∧
      getF GC_STATUS_TQ t = (if s.gc.locked then 3 else 0) := by
  have hgo : (timerOn tmAcquire s && decide (refState s = rsAcquire)) = true := by simp [tmAcquire, rsAcquire, ht, h]
  have he : exec .acquireTimeout s = fin (acquireFail (expire tmAcquire s)) := congrArg fin (if_pos hgo)
  obtain ⟨hstate, htimer, htq⟩ := acquireFail_state (s := expire tmAcquire s) h
  have hn := Noted.whSettle (acquireFail (expire tmAcquire s))
  exact ⟨_, he, (hn.regs _ (by decide) (by unfold noteAddr; decide)).trans hstate,
    (hn.timers 7 (by decide) (by decide)).trans htimer, (hn.regs _ (by decide) (by unfold noteAddr; decide)).trans htq⟩

/-- The lock of the timing PLL that drives the clock. -/
def tpllLocked (m : Nat) (s : State) : State :=
  addF (PLL_PHASE_LOCK_COUNT m) 1 (setF (PLL_PHASE_PHASE_OK m) 1 (setF (PLL_STATUS_STATE m) 2 (pllLockedSet m true
    (stopTimer tmAcquire { s with gc := { s.gc with realign := true } }))))

theorem tpllLocked_regs (m : Nat) (s : State) : getF (PLL_STATUS_STATE m) (tpllLocked m s) = 2 ∧
    getF (PLL_PHASE_PHASE_OK m) (tpllLocked m s) = 1 ∧
    getF (PLL_PHASE_LOCK_COUNT m) (tpllLocked m s) = (getF (PLL_PHASE_LOCK_COUNT m) s + 1) % 65536 := by
  have hphase : fldKey (PLL_PHASE_PHASE_OK m) ≠ fldKey (PLL_PHASE_LOCK_COUNT m) := by
    simp only [fldKey, PLL_PHASE_PHASE_OK, PLL_PHASE_LOCK_COUNT]; omega
  have hcount : fldKey (PLL_STATUS_STATE m) ≠ fldKey (PLL_PHASE_LOCK_COUNT m) := by
    simp only [fldKey, PLL_STATUS_STATE, PLL_PHASE_LOCK_COUNT]; omega
  have hstate : fldKey (PLL_STATUS_STATE m) ≠ fldKey (PLL_PHASE_PHASE_OK m) := by
    simp only [fldKey, PLL_STATUS_STATE, PLL_PHASE_PHASE_OK]; omega
  unfold tpllLocked addF
  refine ⟨?_, ?_, ?_⟩
  · rw [getF_setF_other _ _ hcount, getF_setF_other _ _ hstate, getF_setF_same]
    rfl
  · rw [getF_setF_other _ _ hphase, getF_setF_same]
    rfl
  · rw [getF_setF_same, getF_setF_other _ _ hphase.symm, getF_setF_other _ _ hcount.symm]
    rfl

/-- The timing PLL locks: the count realigns at the next marker (R23, R28). -/
theorem tpllLock_runs {s : State} (ht : timerOn 7 s = true) (h : refState s = 1)
    (hlt : getF CLK_STATUS_GC_TPLL s < 2) : ∃ t, Runs .tpllLock s t ∧ t.gc.realign = true ∧
    getF (PLL_STATUS_STATE (getF CLK_STATUS_GC_TPLL s)) t = 2 ∧ getF (PLL_PHASE_PHASE_OK (getF CLK_STATUS_GC_TPLL s)) t = 1 ∧
    getF (PLL_PHASE_LOCK_COUNT (getF CLK_STATUS_GC_TPLL s)) t =
      (getF (PLL_PHASE_LOCK_COUNT (getF CLK_STATUS_GC_TPLL s)) s + 1) % 65536 := by
  have hgo : (timerOn tmAcquire s && decide (refState s = rsAcquire)) = true := by simp [tmAcquire, rsAcquire, ht, h]
  have he : exec .tpllLock s = fin (standbyFollow (tpllLocked (getF CLK_STATUS_GC_TPLL s) s)) := congrArg fin (if_pos hgo)
  generalize getF CLK_STATUS_GC_TPLL s = m at he hlt ⊢
  obtain ⟨hstate, hphase, hcount⟩ := tpllLocked_regs m s
  have hn := Noted.whSettle (standbyFollow (tpllLocked m s))
  have hkeep {f : Fld} (hl : f.lo < 32) (hlo : 0x3F00200128 ≤ f.addr) (hhi : f.addr < 0x3F00202000) :
      getF f (whSettle (standbyFollow (tpllLocked m s))) = getF f (tpllLocked m s) := by
    rw [hn.regs f hl (by unfold noteAddr; omega)]
    exact getF_setF_other _ _ (by simp only [fldKey, CLK_STATUS_STANDBY_OK]; omega)
  have hstatus : 0x3F00200128 ≤ 0x3F00200128 + m * 0x40 ∧ 0x3F00200128 + m * 0x40 < 0x3F00202000 := by omega
  have hregs : 0x3F00200128 ≤ 0x3F0020012C + m * 0x40 ∧ 0x3F0020012C + m * 0x40 < 0x3F00202000 := by omega
  exact ⟨_, he, congrArg Gc.realign hn.gc, (hkeep (by decide : 0 < 32) hstatus.1 hstatus.2).trans hstate,
    (hkeep (by decide : 8 < 32) hregs.1 hregs.2).trans hphase, (hkeep (by decide : 16 < 32) hregs.1 hregs.2).trans hcount⟩

/-- Settles O15, row by row. -/
theorem gameClockRuns : Obligations.GameClockRuns := by
  unfold Obligations.GameClockRuns
  exact ⟨fun _ => gcRunWrite_starts,
    fun _ => gcRunWrite_refused,
    fun _ => slotBoundary_counts,
    fun _ _ _ => markerArrival_judged,
    fun _ => markerMiss_does,
    fun _ _ _ _ => timeFrame_does,
    fun _ a b ok hx hrun hs => refWindowEnd_stopped hx hrun hs a b ok,
    fun _ => acquireTimeout_runs,
    fun _ => tpllLock_runs⟩

end Sys2Proof.Machine
end

section
/-! SUPPORT. Notes, and the alarms' policies, under the operations on a PLL (R51, R65). -/

namespace Sys2Proof.Machine

theorem pllFam_notPair {p : Nat} (h : pllFam p ≠ .gameClock) : 2 ≤ p := by
  by_contra hlt
  exact h (if_pos (by omega))

/-! Notes before an operation on a PLL are notes after it. -/

theorem Noted.pllLockedSet {s t : State} (n : Noted s t) (p : Nat) (b : Bool) : Noted (pllLockedSet p b s) (pllLockedSet p b t) :=
  { n with pll := by simp only [Machine.pllLockedSet, n.pll] }

theorem Noted.pllRelock {s t : State} (n : Noted s t) (p : Nat) : Noted (pllRelock p s) (pllRelock p t) :=
  ((n.pllLockedSet p false).setF _ 1).setF _ 0

theorem Noted.lolFollow {s t : State} (n : Noted s t) : Noted (lolFollow s) (lolFollow t) := by
  have hany : (natsFrom 0 63).any (fun p => isSet (PLL_STATUS_LOL p) t) = (natsFrom 0 63).any (fun p => isSet (PLL_STATUS_LOL p) s) := by
    rw [Bool.eq_iff_iff, List.any_eq_true, List.any_eq_true]
    refine exists_congr fun p => and_congr_right fun hp => ?_
    have hp63 := (mem_natsFrom.1 hp).2
    rw [isSet, n.regs _ (by simp [PLL_STATUS_LOL]) (by simp only [noteAddr, PLL_STATUS_LOL]; omega), isSet]
  simp only [Machine.lolFollow, hany]
  exact n.setF _ _

theorem pllAddr_clkStatus : pllAddr 0x3F00200000 := by
  unfold pllAddr
  decide

/-! The policy of an alarm under notes and under writes of the PLLs' registers. -/

theorem policyFld_addr (c : Nat) : (policyFld c).addr = 0x3F00F00010 ∨ (policyFld c).addr = 0x3F00F00014 := by
  unfold policyFld
  split
  · exact .inl rfl
  · exact .inr rfl

theorem policyFld_lo {c : Nat} (hc : c ≤ 22) : (policyFld c).lo < 32 := by
  unfold policyFld
  split <;> dsimp only <;> omega

theorem NotSafe.noted {c : Nat} {s t : State} (h : NotSafe c s) (hc : c ≤ 22) (n : Noted s t) : NotSafe c t := by
  have ha := policyFld_addr c
  unfold NotSafe
  rw [n.regs _ (policyFld_lo hc) (by unfold noteAddr; omega)]
  exact h

theorem NotSafe.setPll {c : Nat} {s : State} (h : NotSafe c s) (hc : c ≤ 22) {g : Fld} (hg : pllAddr g.addr) (hl : g.lo < 32) (v : Nat) :
    NotSafe c (setF g v s) := by
  have ha := policyFld_addr c
  unfold NotSafe
  rw [getF_setF_pll v s (policyFld_lo hc) hl (by unfold pllAddr; omega) hg]
  exact h

theorem NotSafe.pllRelock {c : Nat} {s : State} (h : NotSafe c s) (hc : c ≤ 22) {p : Nat} (hp : p < 63) : NotSafe c (pllRelock p s) := by
  have ha := policyFld_addr c
  unfold NotSafe
  rw [getF_pllRelock (policyFld_lo hc) (by unfold pllAddr; omega) hp]
  exact h

/-- `does_finG` with the premise on the state that is claimed. -/
theorem does_guarantee {i : Instr} {s v u : State} (h : exec i s = finG v) (n : Noted u v) (hs : NotSafe 0x13 u) : Does i s u :=
  does_finG h n (hs.noted (by decide) n)

end Sys2Proof.Machine
end

section
/-! SUPPORT. What a lock, its phase check and a loss of lock make of a PLL (R51, R58, R60, R64, R65). -/

namespace Sys2Proof.Machine

/-- CLK_STATUS and the count of bad windows once XTAL_IN is faulty (R47). -/
def xtalFaulty (s : State) : State :=
  setF CLK_STATUS_SYS_ON_RCO 1 (setF CLK_STATUS_XTAL_FAULT 1
    (setF CLK_STATUS_XTAL_OK 0 { s with pll := { s.pll with xtalBad := true, badMs := 1, good := 0 } }))

theorem NotSafe.xtalFaulty {c : Nat} {s : State} (h : NotSafe c s) (hc : c ≤ 22) : NotSafe c (xtalFaulty s) := by
  have h0 : NotSafe c { s with pll := { s.pll with xtalBad := true, badMs := 1, good := 0 } } := h
  exact ((h0.setPll hc pllAddr_clkStatus (by decide) 0).setPll hc pllAddr_clkStatus (by decide) 1).setPll hc pllAddr_clkStatus
    (by decide) 1

/-- XTAL_IN's failure relocks both SPLLs; the rest of it is notes, where its alarm's policy is not SAFE (R47). -/
theorem xtalFail_noted {s : State} (h : NotSafe 0x03 s) : Noted (pllRelock 5 (pllRelock 4 (xtalFaulty s))) (xtalFail s) := by
  have hwritten : Noted (xtalFaulty s) (sbEvent 0x0213 [] (whRaise 37 (xtalFaulty s))) :=
    (Noted.whRaise (by decide) _).trans (Noted.sbEvent _ _ _)
  exact ((hwritten.trans (Noted.alarm ((h.xtalFaulty (by decide)).noted (by decide) hwritten))).pllRelock 4).pllRelock 5

/-- A PLL that is locking is locked once its detector reports it (R51). -/
def pllDeclared (p : Nat) (s : State) : State := setF (PLL_STATUS_STATE p) 2 (pllLockedSet p true s)

section
variable {p : Nat} {s : State} (hen : isSet (PLL_CTRL_EN p) s = true) (hst : getF (PLL_STATUS_STATE p) s = 1) (e : BitVec 8)
include hen hst

/-- A lock of TPLL2 or TPLL3 is checked for its phase (R58). -/
theorem pllLock_timing (hf : pllFam p = .timing) : pllLock p e s = phaseLock p e (pllDeclared p s) := by
  simp [pllLock, hen, hst, hf, pllDeclared]

/-- A GPLL declares lock, unless it is out of its band (R52, R64). -/
theorem pllLock_general (hf : pllFam p = .general) (hbad : isSet (PLL_STATUS_FREQ_BAD p) s = false) : pllLock p e s = pllDeclared p s := by
  have hband : isSet (PLL_STATUS_FREQ_BAD p) (pllLockedSet p true s) = false := hbad
  simp [pllLock, hen, hst, hf, hband, pllDeclared]

/-- A lock of a PLL whose family does no more than note it. -/
theorem pllLock_plain (hf : pllFam p = .dram ∨ pllFam p = .pcie ∨ pllFam p = .system ∨
    (pllFam p = .general ∧ isSet (PLL_STATUS_FREQ_BAD p) s = false)) : Noted (pllDeclared p s) (pllLock p e s) := by
  rcases hf with hf | hf | hf | ⟨hf, hbad⟩
  · exact noted_of_eq (by simp [pllLock, hen, hst, hf, pllDeclared])
  · exact noted_of_eq (by simp [pllLock, hen, hst, hf, pllDeclared])
  · have hgone : pllLock p e s = alarmGone 0x06 (pllDeclared p s) := by simp [pllLock, hen, hst, hf, pllDeclared]
    exact hgone ▸ Noted.alarmGone _ _
  · exact noted_of_eq (pllLock_general hen hst e hf hbad)

end

/-- A phase within 12 ps: PHASE_OK and LOCK_COUNT (R58, R60). -/
theorem phaseLock_within {e : BitVec 8} (h : phaseWithin e = true) (p : Nat) (s : State) : phaseLock p e s =
    pllFails p 0 (addF (PLL_PHASE_LOCK_COUNT p) 1 (setF (PLL_PHASE_PHASE_OK p) 1 (setF (PLL_PHASE_ERR_PS p) e.toNat s))) :=
  if_pos h

/-- The first phase beyond 12 ps: the PLL relocks (R60). -/
theorem phaseLock_firstFailure {e : BitVec 8} (h : phaseWithin e = false) {p : Nat} {s : State} (hn : tabGet 0 s.pll.fails p = 0) :
    phaseLock p e s = pllRelock p (setF (PLL_PHASE_PHASE_OK p) 0 (pllFails p 1 (setF (PLL_PHASE_ERR_PS p) e.toNat s))) := by
  have hone : tabGet 0 (setF (PLL_PHASE_ERR_PS p) e.toNat s).pll.fails p + 1 = 1 := congrArg (· + 1) hn
  simp only [phaseLock, h, hone]
  rfl

/-- A GPLL or TPLL2 or TPLL3 that loses lock sets LOL and relocks (R65). -/
theorem pllLose_relocks {p : Nat} (hf : pllFam p = .general ∨ pllFam p = .timing) (both : Bool) (s : State) :
    Noted (pllRelock p (lolFollow (setF (PLL_STATUS_LOL p) 1 s))) (pllLose p both s) := by
  have hp : ¬ p < 2 := by
    have := pllFam_notPair (p := p) (by rcases hf with hf | hf <;> simp [hf])
    omega
  have hsrc : pllSource p = 33 ∨ pllSource p = 32 := by
    rcases hf with hf | hf <;> simp [pllSource, hf]
  have hfeeds (u : State) : pllFeeds p u = u := by
    rcases hf with hf | hf <;> simp [pllFeeds, hf]
  have hsrc0 : ¬ pllSource p = 0 := by omega
  simp only [pllLose, hp, hsrc0, if_false, hfeeds]
  exact ((Noted.sbEvent 0x0210 [(2, p)] _).lolFollow.trans (Noted.whRaise (by omega) _)).pllRelock p

/-- A window in its band stores the frequency; a gated PLL is then locked (R64). -/
theorem monitorWindow_inBand {p mean nominal : Nat} {s : State} (hp : 2 ≤ p) (hx : s.pll.xtalBad = false)
    (hen : isSet (PLL_CTRL_EN p) s = true) (hlock : pllLocked p s = true)
    (hband : bandOk (getF (PLL_SSC_MODE p) s) (getF (PLL_SSC_DEPTH p) s) mean ((pllNominal p s).getD (nominal, 1)) = true) :
    monitorWindow p mean nominal s = whenS (decide (getF (PLL_STATUS_STATE p) s = 1)) (setF (PLL_STATUS_STATE p) 2)
      (setF (PLL_STATUS_FREQ_BAD p) 0 (setF (PLL_FREQ_FREQ_10KHZ p) (mean / 10) s)) := by
  have hgo : ¬ (decide (p < 2) || s.pll.xtalBad || !isSet (PLL_CTRL_EN p) s || !pllLocked p s) = true := by
    simp only [hx, hen, hlock, Bool.not_true, Bool.or_false, decide_eq_true_eq]
    omega
  have hmode : getF (PLL_SSC_MODE p) (setF (PLL_FREQ_FREQ_10KHZ p) (mean / 10) s) = getF (PLL_SSC_MODE p) s :=
    getF_setF_other _ _ (by simp only [fldKey, PLL_SSC_MODE, PLL_FREQ_FREQ_10KHZ]; omega)
  have hdepth : getF (PLL_SSC_DEPTH p) (setF (PLL_FREQ_FREQ_10KHZ p) (mean / 10) s) = getF (PLL_SSC_DEPTH p) s :=
    getF_setF_other _ _ (by simp only [fldKey, PLL_SSC_DEPTH, PLL_FREQ_FREQ_10KHZ]; omega)
  have hstate : getF (PLL_STATUS_STATE p) (setF (PLL_STATUS_FREQ_BAD p) 0 (setF (PLL_FREQ_FREQ_10KHZ p) (mean / 10) s)) =
      getF (PLL_STATUS_STATE p) s := by
    rw [getF_setF_other, getF_setF_other]
    all_goals
      simp only [fldKey, PLL_STATUS_STATE, PLL_STATUS_FREQ_BAD, PLL_FREQ_FREQ_10KHZ]
      omega
  rw [monitorWindow, if_neg hgo]
  dsimp only
  rw [hmode, hdepth, if_pos hband, hstate]
  simp only [whenS, decide_eq_true_eq]

end Sys2Proof.Machine
end

section
/-! O17. The rows of the PLLs (R47, R51, R56, R59, R60, R64, R65), clause by clause. -/

namespace Sys2Proof.Machine

/-- A bad window of XTAL_IN: XTAL_FAULT, the RC oscillator, and both SPLLs relock (R47). -/
theorem xtalWindowEnd_fails {s : State} {e : BitVec 20} (he : xtalGood e.toNat = false) (hx : s.pll.xtalBad = false)
    (h3 : NotSafe 0x03 s) (h13 : NotSafe 0x13 s) :
    Does (.xtalWindowEnd e) s (pllRelock 5 (pllRelock 4 (xtalFaulty s))) := by
  have hfail : xtalWindow e.toNat s = xtalFail s := by simp [xtalWindow, he, hx]
  exact does_guarantee (congrArg finG hfail) (xtalFail_noted h3)
    (((h13.xtalFaulty (by decide)).pllRelock (by decide) (by decide)).pllRelock (by decide) (by decide))

/-- PLL_LOCK of a PLL that locks (R51, R58, R60). -/
theorem pllLock_locks {s : State} {p : Fin 63} (e : BitVec 8) (hen : isSet (PLL_CTRL_EN p) s = true)
    (hst : getF (PLL_STATUS_STATE p) s = 1) :
    (pllFam p = .timing → phaseWithin e = true → Does (.pllLock p e) s
      (pllFails p 0 (addF (PLL_PHASE_LOCK_COUNT p) 1 (setF (PLL_PHASE_PHASE_OK p) 1 (setF (PLL_PHASE_ERR_PS p) e.toNat
        (setF (PLL_STATUS_STATE p) 2 (pllLockedSet p true s))))))) ∧
    (pllFam p = .timing → phaseWithin e = false → tabGet 0 s.pll.fails p = 0 → Does (.pllLock p e) s
      (pllRelock p (setF (PLL_PHASE_PHASE_OK p) 0 (pllFails p 1 (setF (PLL_PHASE_ERR_PS p) e.toNat
        (setF (PLL_STATUS_STATE p) 2 (pllLockedSet p true s))))))) ∧
    (pllFam p = .dram ∨ pllFam p = .pcie ∨ pllFam p = .system ∨ (pllFam p = .general ∧ isSet (PLL_STATUS_FREQ_BAD p) s = false) →
      Does (.pllLock p e) s (setF (PLL_STATUS_STATE p) 2 (pllLockedSet p true s))) := by
  refine ⟨fun hf hw => ?_, fun hf hw hn => ?_, fun hf => ?_⟩
  · exact does_fin rfl (noted_of_eq ((pllLock_timing hen hst e hf).trans (phaseLock_within hw _ _)))
  · exact does_fin rfl (noted_of_eq ((pllLock_timing hen hst e hf).trans (phaseLock_firstFailure hw hn)))
  · exact does_fin rfl (pllLock_plain hen hst e hf)

/-- PLL_LOSS_OF_LOCK of a locked GPLL or timing PLL (R65). -/
theorem pllLossOfLock_relocks {s : State} {p : Fin 63} (both : Bool) (hen : isSet (PLL_CTRL_EN p) s = true)
    (hst : getF (PLL_STATUS_STATE p) s = 2) (hs : NotSafe 0x13 s) (hf : pllFam p = .general ∨ pllFam p = .timing) :
    Does (.pllLossOfLock p both) s (pllRelock p (lolFollow (setF (PLL_STATUS_LOL p) 1 s))) := by
  have hgo : (isSet (PLL_CTRL_EN p) s && decide (getF (PLL_STATUS_STATE p) s = 2)) = true := by simp [hen, hst]
  have hlol : NotSafe 0x13 (setF (PLL_STATUS_LOL p) 1 s) :=
    hs.setPll (by decide) (by simp only [pllAddr, PLL_STATUS_LOL]; omega) (by simp [PLL_STATUS_LOL]) 1
  have hany : NotSafe 0x13 (lolFollow (setF (PLL_STATUS_LOL p) 1 s)) := hlol.setPll (by decide) pllAddr_clkStatus (by decide) _
  exact does_guarantee (congrArg finG (if_pos hgo)) (pllLose_relocks hf both s) (hany.pllRelock (by decide) p.isLt)

/-- CLOCK_MONITOR_WINDOW of a locked PLL that runs in its band (R64). -/
theorem clockMonitorWindow_inBand {s : State} {p : Fin 63} {m n : BitVec 26} (hp : 2 ≤ p.val) (hx : s.pll.xtalBad = false)
    (hen : isSet (PLL_CTRL_EN p) s = true) (hlock : pllLocked p s = true) (hs : NotSafe 0x13 s)
    (hband : bandOk (getF (PLL_SSC_MODE p) s) (getF (PLL_SSC_DEPTH p) s) m.toNat ((pllNominal p s).getD (n.toNat, 1)) = true) :
    Does (.clockMonitorWindow p m n) s (whenS (decide (getF (PLL_STATUS_STATE p) s = 1)) (setF (PLL_STATUS_STATE p) 2)
      (setF (PLL_STATUS_FREQ_BAD p) 0 (setF (PLL_FREQ_FREQ_10KHZ p) (m.toNat / 10) s))) := by
  refine does_guarantee (congrArg finG (monitorWindow_inBand hp hx hen hlock hband)) (Noted.refl _) ?_
  have hfreq : NotSafe 0x13 (setF (PLL_FREQ_FREQ_10KHZ p) (m.toNat / 10) s) :=
    hs.setPll (by decide) (by simp only [pllAddr, PLL_FREQ_FREQ_10KHZ]; omega) (by simp [PLL_FREQ_FREQ_10KHZ]) _
  have hgood : NotSafe 0x13 (setF (PLL_STATUS_FREQ_BAD p) 0 (setF (PLL_FREQ_FREQ_10KHZ p) (m.toNat / 10) s)) :=
    hfreq.setPll (by decide) (by simp only [pllAddr, PLL_STATUS_FREQ_BAD]; omega) (by simp [PLL_STATUS_FREQ_BAD]) 0
  unfold whenS
  split
  · exact hgood.setPll (by decide) (by simp only [pllAddr, PLL_STATUS_STATE]; omega) (by simp [PLL_STATUS_STATE]) 2
  · exact hgood

/-- STANDBY_RETURN of a faulty member that is locked again and does not drive the clock (R56). -/
theorem standbyReturn_restores {s : State} {m : Nat} (hm : s.pll.faulty = some m) (hst : getF (PLL_STATUS_STATE m) s = 2)
    (hne : getF CLK_STATUS_GC_TPLL s ≠ m) :
    Does .standbyReturn s (setF CLK_STATUS_STANDBY_OK 1 { s with pll := { s.pll with faulty := none } }) := by
  have hback : standbyReturn s =
      alarmGone 0x04 (setF CLK_STATUS_STANDBY_OK 1 { s with pll := { s.pll with faulty := none } }) := by
    rw [standbyReturn, hm]
    exact if_pos ⟨hst, hne⟩
  exact does_fin (congrArg fin hback) (Noted.alarmGone _ _)

/-- RE_PHASE_COMPLETE of a locked timing PLL that is re-phasing (R58, R59). -/
theorem rePhaseComplete_stores {s : State} {second : Bool} {p : Nat} (e : BitVec 8) (hp : p = if second then 3 else 2)
    (hst : getF (PLL_STATUS_STATE p) s = 2) (hph : isSet (PLL_PHASE_PHASE_OK p) s = false) :
    Does (.rePhaseComplete second e) s
      (addF (PLL_PHASE_LOCK_COUNT p) 1 (setB (PLL_PHASE_PHASE_OK p) (phaseWithin e) (setF (PLL_PHASE_ERR_PS p) e.toNat s))) := by
  subst hp
  exact does_fin rfl (noted_of_eq (if_pos ⟨hst, hph⟩))

/-- PLL_RELOCK of a running PLL that feeds nothing else (R51). -/
theorem pllRelock_relocks {s : State} {p : Fin 63} (hen : isSet (PLL_CTRL_EN p) s = true)
    (hf : pllFam p = .general ∨ pllFam p = .timing ∨ pllFam p = .system) (hs : NotSafe 0x13 s) :
    Does (.pllRelock p) s (pllRelock p s) := by
  have hwrite : pllRelockWrite p s = pllRelock p s := by
    rcases hf with hf | hf | hf <;> simp [pllRelockWrite, hen, hf, pllFeeds]
  exact does_guarantee (congrArg finG hwrite) (Noted.refl _) (hs.pllRelock (by decide) p.isLt)

/-- Settles O17: each clause is the lemma of its row above. -/
theorem pllRows : Obligations.PllRows := by
  unfold Obligations.PllRows
  exact ⟨fun _ _ => xtalWindowEnd_fails,
    fun _ _ e => pllLock_locks e,
    fun _ _ both => pllLossOfLock_relocks both,
    fun _ _ _ _ => clockMonitorWindow_inBand,
    fun _ _ => standbyReturn_restores,
    fun _ _ e _ => rePhaseComplete_stores e,
    fun _ _ => pllRelock_relocks⟩

end Sys2Proof.Machine
end

section
/-! SUPPORT. What stopping, configuring and starting a PLL leaves in its registers (R50 to R53, R57). -/

namespace Sys2Proof.Machine

/-- PLL_STATUS of a PLL reads as before where the PLL's other registers are written. -/
theorem getF_status_setF {f g : Fld} {p : Nat} (hf : f.addr = 0x3F00200128 + p * 0x40) (hl : f.lo < 32)
    (hg : g.addr ≠ 0x3F00200128 + p * 0x40) (hlo : g.lo < 32) (v : Nat) (s : State) : getF f (setF g v s) = getF f s :=
  getF_setF_other _ _ (by simp only [fldKey]; omega)

theorem isSet_freqBad_pllStop (p : Nat) (s : State) : isSet (PLL_STATUS_FREQ_BAD p) (pllStop p s) = false := by
  simp [isSet, pllStop, getF_setF_same]

/-- The settings of a PLL_CONFIGURE request are in PLL_CTRL, PLL_DIV and PLL_OUT: PLL_STATUS reads as before. -/
theorem getF_status_pllSettings {f : Fld} {r : Req} (hf : f.addr = 0x3F00200128 + arg r 0 1 * 0x40) (hl : f.lo < 32) (s : State) :
    getF f (pllSettings r s) = getF f s := by
  have hout (n : Nat) (hn : n < 6) (s : State) : getF f (pllOutRec r (arg r 0 1) n s) = getF f s := by
    simp only [pllOutRec]
    rw [getF_status_setF hf hl, getF_status_setF hf hl, getF_status_setF hf hl, getF_status_setF hf hl]
    all_goals
      simp only [PLL_OUT_TDIV_M1, PLL_OUT_TMUL_M1, PLL_OUT_OEN, PLL_OUT_DIV_M1]
      omega
  have houts {k : Nat} (hk : k ≤ 6) (s : State) : getF f (forEach (pllOutRec r (arg r 0 1)) (natsFrom 0 k) s) = getF f s :=
    forEach_keeps (getF f) (fun n hn s => hout n (by have := mem_natsFrom.1 hn; omega) s) s
  unfold pllSettings
  dsimp only
  split
  all_goals
    rw [houts (by decide)]
    repeat rw [getF_status_setF hf hl]
  all_goals
    simp only [PLL_CTRL_SRC, PLL_CTRL_PIN, PLL_DIV_N_M1, PLL_DIV_M_INT, PLL_DIV_M_FRAC, PLL_CTRL_LOL_ACTION]
    omega

/-- A PLL that has been started is enabled and locks; FREQ_BAD is as it was (R51, R64). -/
theorem pllStart_status (p : Nat) (s : State) : isSet (PLL_CTRL_EN p) (pllStart p s) = true ∧
    getF (PLL_STATUS_STATE p) (pllStart p s) = 1 ∧ isSet (PLL_STATUS_FREQ_BAD p) (pllStart p s) = isSet (PLL_STATUS_FREQ_BAD p) s := by
  refine ⟨?_, ?_, ?_⟩
  · rw [isSet, pllStart, getF_pllFails, pllRelock, getF_setF_other, getF_setF_other, getF_pllLockedSet, getF_setF_same]
    · rfl
    all_goals
      simp only [fldKey, PLL_CTRL_EN, PLL_STATUS_STATE, PLL_PHASE_PHASE_OK]
      omega
  · rw [pllStart, getF_pllFails, pllRelock, getF_setF_other, getF_setF_same]
    · rfl
    · simp only [fldKey, PLL_STATUS_STATE, PLL_PHASE_PHASE_OK]
      omega
  · rw [isSet, pllStart, getF_pllFails, pllRelock, getF_setF_other, getF_setF_other, getF_pllLockedSet, getF_setF_other, isSet]
    all_goals
      simp only [fldKey, PLL_CTRL_EN, PLL_STATUS_FREQ_BAD, PLL_STATUS_STATE, PLL_PHASE_PHASE_OK]
      omega

/-- The PLL of a PLL_CONFIGURE request with EN = 1, as it starts to lock with its new settings. -/
def pllConfigured (r : Req) (s : State) : State := pllStart (arg r 0 1) (pllSettings r (pllStop (arg r 0 1) s))

/-- A GPLL that is configured afresh is not gated: its lock is a plain one. -/
theorem pllLock_configured {r : Req} (hf : pllFam (arg r 0 1) = .general) (e : BitVec 8) (s : State) :
    pllLock (arg r 0 1) e (pllConfigured r s) = pllDeclared (arg r 0 1) (pllConfigured r s) := by
  obtain ⟨hen, hst, hbad⟩ := pllStart_status (arg r 0 1) (pllSettings r (pllStop (arg r 0 1) s))
  refine pllLock_general hen hst e hf (hbad.trans ?_)
  rw [isSet, getF_status_pllSettings rfl (by simp [PLL_STATUS_FREQ_BAD])]
  exact isSet_freqBad_pllStop _ s

end Sys2Proof.Machine
end

section
/-! O14. The commands of the PLLs and of the clock lines (R50 to R53, R57, R58, R61, R66 to R68), clause by clause. -/

namespace Sys2Proof.Machine

/-- PLL_STATUS answers the PLL's registers. -/
theorem pllStatusQuery_answers {s : State} {mb : Fin 14} {r : Req} (h : Asks sheetPllStatus mb r s) :
    arg r 0 1 ≤ 62 ∧ ∃ p, Oks (.pllStatusQuery mb) mb r p s (seqPop s) ∧ p.length = 12 ∧
      fieldAt p 0 1 = getF (PLL_STATUS_STATE (arg r 0 1)) s % 256 ∧ fieldAt p 2 1 = getF (PLL_PHASE_ERR_PS (arg r 0 1)) s % 256 ∧
      fieldAt p 4 2 = getF (PLL_PHASE_LOCK_COUNT (arg r 0 1)) s % 65536 ∧
      fieldAt p 8 4 = getF (PLL_FREQ_FREQ_10KHZ (arg r 0 1)) s % 2 ^ 32 := by
  have hp := (argsLen_none (n := 1) (ok := fun r => decide (arg r 0 1 ≤ 62)) h.args).2
  refine ⟨of_decide_eq_true hp, _, oks_fin rfl h rfl (Noted.refl _) rfl, by simp, ?_, ?_, ?_, ?_⟩
  all_goals simp [List.append_assoc, fieldAt_skip, fieldAt_first, fieldAt_leBytes]

theorem pllConfigure_notLive {lock : Option (BitVec 8)} {m : Nat} {r : Req} {s : State} (h : Asks (sheetPllConfigure lock) m r s) :
    s.dev.state ≠ .live := by
  intro hl
  have hst := h.state
  simp [sheetPllConfigure, hl] at hst

/-- PLL_CONFIGURE with EN = 0 stops the PLL and stores its settings (R50, R57). -/
theorem pllConfigure_stops {s : State} {mb : Fin 14} {r : Req} {lock : Option (BitVec 8)} (h : Asks (sheetPllConfigure lock) mb r s)
    (ha : arg r 1 1 = 0) :
    Oks (.pllConfigure mb lock) mb r [0] s (pllSettings r (pllStop (arg r 0 1) (seqPop s))) := by
  have hrun : (sheetPllConfigure lock).run r (seqPop s) = (replyOk [0], pllSettings r (pllStop (arg r 0 1) (seqPop s))) := if_pos ha
  exact oks_fin rfl h hrun (Noted.refl _) rfl

/-- PLL_CONFIGURE with EN = 1 of a PLL that does not lock in time answers TIMEOUT; the PLL goes on locking (R51). -/
theorem pllConfigure_timesOut {s : State} {mb : Fin 14} {r : Req} (h : Asks (sheetPllConfigure none) mb r s) (ha : arg r 1 1 = 1) :
    Replies (.pllConfigure mb none) mb r stTimeout [] s (pllConfigured r (seqPop s)) := by
  have hrun : (sheetPllConfigure none).run r (seqPop s) = (replySt stTimeout, pllConfigured r (seqPop s)) := if_neg (by omega)
  exact replies_fin rfl h hrun (by decide) (Noted.refl _)

/-- PLL_CONFIGURE with EN = 1 of a GPLL that locks in time answers LOCKED (R51). -/
theorem pllConfigure_locks {s : State} {mb : Fin 14} {r : Req} {e : BitVec 8} (h : Asks (sheetPllConfigure (some e)) mb r s)
    (ha : arg r 1 1 = 1) (hf : pllFam (arg r 0 1) = .general) :
    Oks (.pllConfigure mb (some e)) mb r [2] s (pllDeclared (arg r 0 1) (pllConfigured r (seqPop s))) := by
  have hlock := pllLock_configured hf e (seqPop s)
  have hstate : getF (PLL_STATUS_STATE (arg r 0 1)) (pllDeclared (arg r 0 1) (pllConfigured r (seqPop s))) = 2 := getF_setF_same _ _ _
  have hrun : (sheetPllConfigure (some e)).run r (seqPop s) =
      (replyOk (leBytes 1 (getF (PLL_STATUS_STATE (arg r 0 1)) (pllLock (arg r 0 1) e (pllConfigured r (seqPop s))))),
        pllLock (arg r 0 1) e (pllConfigured r (seqPop s))) := if_neg (by omega)
  rw [hlock, hstate] at hrun
  exact oks_fin rfl h hrun (Noted.refl _) rfl

/-- A sheet that refuses an enabled PLL is asked with the PLL stopped. -/
theorem pllStopped_of_asks {sh : Sheet} {m : Nat} {r : Req} {s : State} (h : Asks sh m r s)
    (hst : sh.state r (seqPop s) = if isSet (PLL_CTRL_EN (arg r 0 1)) (seqPop s) then some stWrongState else none) :
    isSet (PLL_CTRL_EN (arg r 0 1)) s = false := by
  have hnone := hst.symm.trans h.state
  simpa [isSet] using hnone

/-- PLL_PHASE_SET sets the fine phase of an output of TPLL2 or TPLL3 while it is stopped (R58). -/
theorem pllPhaseSet_sets {s : State} {mb : Fin 14} {r : Req} (h : Asks sheetPllPhaseSet mb r s) :
    isSet (PLL_CTRL_EN (arg r 0 1)) s = false ∧ (arg r 0 1 = 2 ∨ arg r 0 1 = 3) ∧
    Oks (.pllPhaseSet mb) mb r [] s (setF (PLL_OUT_PHASE_FINE (arg r 0 1) (arg r 1 1)) (arg r 2 1) (seqPop s)) := by
  have hargs := (argsLen_none (n := 3) (ok := fun r => (decide (arg r 0 1 = 2) || decide (arg r 0 1 = 3)) && decide (arg r 1 1 ≤ 3) &&
    decide (arg r 2 1 ≤ 63)) h.args).2
  simp only [Bool.and_eq_true, Bool.or_eq_true, decide_eq_true_eq] at hargs
  exact ⟨pllStopped_of_asks h rfl, hargs.1.1, oks_fin rfl h rfl (Noted.refl _) rfl⟩

/-- PLL_SPREAD sets the spread of a stopped PLL (R61). -/
theorem pllSpread_sets {s : State} {mb : Fin 14} {r : Req} (h : Asks sheetPllSpread mb r s) :
    isSet (PLL_CTRL_EN (arg r 0 1)) s = false ∧ Oks (.pllSpread mb) mb r [] s
      (setF (PLL_SSC_RATE (arg r 0 1)) (arg r 4 2) (setF (PLL_SSC_DEPTH (arg r 0 1)) (arg r 2 1)
        (setF (PLL_SSC_MODE (arg r 0 1)) (arg r 1 1) (seqPop s)))) :=
  ⟨pllStopped_of_asks h rfl, oks_fin rfl h rfl (Noted.refl _) rfl⟩

/-- CLOCK_ROUTE is asked with a source that its line takes (R66, R67). -/
theorem clockRoute_asks {m : Nat} {r : Req} {s : State} (h : Asks sheetClockRoute m r s) :
    (arg r 0 1 = 0 → gclkTakes (arg r 1 1) (arg r 3 1) (seqPop s) = true) ∧ (arg r 0 1 = 1 → rclkOk (arg r 3 1) = true) := by
  have hargs := (argsLen_none (n := 4) (ok := fun r =>
    if arg r 0 1 = 0 then decide (arg r 1 1 < 32) && decide (arg r 2 1 = 0) && gclkTakes (arg r 1 1) (arg r 3 1) (seqPop s)
    else decide (arg r 0 1 = 1) && decide (arg r 1 1 < 24) && decide (arg r 2 1 < 80) && rclkOk (arg r 3 1)) h.args).2
  refine ⟨fun ha => ?_, fun ha => ?_⟩
  all_goals
    simp only [ha, if_true, Nat.one_ne_zero, if_false, Bool.and_eq_true] at hargs
    exact hargs.2

/-- CLOCK_ROUTE of a global line that is not switching: its new source, with DONE = 0 (R66, R68). -/
theorem clockRoute_global {s : State} {mb : Fin 14} {r : Req} (h : Asks sheetClockRoute mb r s) (ha : arg r 0 1 = 0)
    (hd : getF (GCLK_SEL_DONE (arg r 1 1)) s = 1) (hne : getF (GCLK_SEL_SRC (arg r 1 1)) s ≠ arg r 3 1) :
    Oks (.clockRoute mb) mb r [] s
      (setF (GCLK_SEL_DONE (arg r 1 1)) 0 (setF (GCLK_SEL_SRC (arg r 1 1)) (arg r 3 1) (seqPop s))) := by
  have hwrite : gclkWrite (arg r 1 1) (arg r 3 1) (seqPop s) =
      setF (GCLK_SEL_DONE (arg r 1 1)) 0 (setF (GCLK_SEL_SRC (arg r 1 1)) (arg r 3 1) (seqPop s)) :=
    (if_pos ((clockRoute_asks h).1 ha)).trans
      (lineSelect_takes (kind := 0) (r := 0) ((getF_seqPop _ s).trans hd) fun heq => hne ((getF_seqPop _ s).symm.trans heq))
  exact oks_fin rfl h rfl (noted_of_eq ((if_pos ha).trans hwrite)) rfl

/-- CLOCK_ROUTE of a region's line that is not switching: its new source, with DONE = 0 (R67, R68). -/
theorem clockRoute_region {s : State} {mb : Fin 14} {r : Req} (h : Asks sheetClockRoute mb r s) (ha : arg r 0 1 = 1)
    (hd : getF (RCLK_SEL_DONE (arg r 2 1) (arg r 1 1)) s = 1) (hne : getF (RCLK_SEL_SRC (arg r 2 1) (arg r 1 1)) s ≠ arg r 3 1) :
    Oks (.clockRoute mb) mb r [] s (setF (RCLK_SEL_DONE (arg r 2 1) (arg r 1 1)) 0
      (setF (RCLK_SEL_SRC (arg r 2 1) (arg r 1 1)) (arg r 3 1) (seqPop s))) := by
  have hwrite : rclkWrite (arg r 2 1) (arg r 1 1) (arg r 3 1) (seqPop s) =
      setF (RCLK_SEL_DONE (arg r 2 1) (arg r 1 1)) 0 (setF (RCLK_SEL_SRC (arg r 2 1) (arg r 1 1)) (arg r 3 1) (seqPop s)) :=
    (if_pos ((clockRoute_asks h).2 ha)).trans
      (lineSelect_takes (kind := 1) ((getF_seqPop _ s).trans hd) fun heq => hne ((getF_seqPop _ s).symm.trans heq))
  exact oks_fin rfl h rfl (noted_of_eq ((if_neg (by omega)).trans hwrite)) rfl

/-- Settles O14: each clause is the lemma of its command above. -/
theorem pllCommands : Obligations.PllCommands := by
  unfold Obligations.PllCommands
  exact ⟨fun _ _ _ => pllStatusQuery_answers,
    fun _ _ _ h => ⟨pllConfigure_notLive h, pllConfigure_stops h, pllConfigure_timesOut h⟩,
    fun _ _ _ _ => pllConfigure_locks,
    fun _ _ _ => pllPhaseSet_sets,
    fun _ _ _ => pllSpread_sets,
    fun _ _ _ h => ⟨clockRoute_global h, clockRoute_region h⟩⟩

end Sys2Proof.Machine
end

section
/-! What State.reset holds (O6): registers at their reset values, and every other part empty. -/

namespace Sys2Proof.Machine

/-- No register is listed at reset, so each reads its reset value (R3). -/
@[simp] theorem getF_reset (f : Fld) : getF f State.reset = f.rst := rfl

/-- No source is pending and enabled at reset: REQ is 0 for every target, as the Whistle holds it (R376). -/
theorem reqFollows_reset : ReqFollows State.reset := by
  unfold ReqFollows
  decide +kernel

theorem memOk_reset : MemOk State.reset := ⟨rfl, rfl, rfl, rfl, rfl⟩

/-- The priorities at reset (R374): source 2 alone has one. -/
theorem whPrio_reset (i : Nat) : whPrio i State.reset = if i = 2 then 31 else 0 := by
  simp only [whPrio, getF_reset, WH_PRIO_PRIO]
  split
  · rw [if_neg (by omega)]
  · rfl

theorem policyFld_rst (c : Nat) : (policyFld c).rst = alarmDefault c := by
  unfold policyFld
  split <;> rfl

/-- Settles O6: the registers read their reset values, and what lies beyond them is empty. -/
theorem resetState : Obligations.ResetState := by
  unfold Obligations.ResetState
  refine ⟨getF_reset, reqFollows_reset, memOk_reset, rfl, rfl, rfl, rfl, rfl, fun _ _ => rfl, fun _ _ => rfl, fun _ _ => rfl,
    fun i _ => whPrio_reset i, rfl, fun c _ _ => policyFld_rst c, ?_⟩
  simp only [List.forall_mem_cons, getF_reset]
  exact ⟨rfl, rfl, rfl, rfl, rfl, rfl, rfl, rfl, rfl, by simp⟩

end Sys2Proof.Machine
end

section
/-! The ball counts of the K52 map (R99). The map is walked once, into a tally of what its balls carry; each count is then read from
the tally. -/

namespace Sys2Proof.Machine

/-- The balls of `n` rows from `row` on, of 52 columns each. -/
def ballsOf (row n : Nat) : List Ball := (List.range' row n).flatMap fun r => (List.range' 1 52).map (ballAt r)

theorem rowCount_eq_countP (p : Ball → Bool) (row c n : Nat) : rowCount p row c n = ((List.range' c n).map (ballAt row)).countP p := by
  induction n generalizing c with
  | zero => rfl
  | succ n ih =>
    rw [rowCount, ih, List.range'_succ, List.map_cons, List.countP_cons, Nat.add_comm]
    cases p (ballAt row c) <;> rfl

theorem ballCount_eq_countP (p : Ball → Bool) (row n : Nat) : ballCount p row n = (ballsOf row n).countP p := by
  induction n generalizing row with
  | zero => rfl
  | succ n ih =>
    rw [ballCount, ih, rowCount_eq_countP, ballsOf, ballsOf, List.range'_succ (s := row), List.flatMap_cons, List.countP_append]

/-- One ball for all those that R99 counts as one kind: a ball's number within its kind is left out. -/
def Ball.kind : Ball → Ball
  | .ltx _ _ => .ltx 0 false
  | .lrx _ _ => .ltx 0 false
  | .lref _ _ => .lref 0 false
  | .pcieTx _ _ => .pcieTx 0 false
  | .pcieRx _ _ => .pcieTx 0 false
  | .ddrDq c _ _ => .ddrReset c
  | .ddrDqs c _ _ _ => .ddrReset c
  | .ddrCa c _ _ => .ddrReset c
  | .ddrCs c _ _ => .ddrReset c
  | .ddrCk c _ _ => .ddrReset c
  | .ddrAlert c => .ddrReset c
  | .ioHp _ _ => .ioHp 0 0
  | .ioHd _ _ => .ioHp 0 0
  | .dedicated _ => .vbatt
  | b => b

/-- A tally with one more ball. -/
def tallyAdd (b : Ball) : List (Ball × Nat) → List (Ball × Nat)
  | [] => [(b, 1)]
  | (a, n) :: l => if a = b then (a, n + 1) :: l else (a, n) :: tallyAdd b l

/-- How many balls of a tally satisfy a predicate. -/
def tallyCount (p : Ball → Bool) (l : List (Ball × Nat)) : Nat := (l.map fun e => if p e.1 then e.2 else 0).sum

theorem tallyCount_tallyAdd (p : Ball → Bool) (b : Ball) (l : List (Ball × Nat)) :
    tallyCount p (tallyAdd b l) = tallyCount p l + if p b then 1 else 0 := by
  induction l with
  | nil => simp [tallyAdd, tallyCount]
  | cons e l ih =>
    obtain ⟨a, n⟩ := e
    by_cases h : a = b
    · subst h
      cases hp : p a <;> simp [tallyAdd, tallyCount, hp, Nat.add_right_comm]
    · simp only [tallyAdd, if_neg h]
      simp only [tallyCount, List.map_cons, List.sum_cons] at ih ⊢
      rw [ih, Nat.add_assoc]

/-- The tally of the kinds of some balls. -/
def tallyOf (l : List Ball) : List (Ball × Nat) := l.foldr (fun b t => tallyAdd b.kind t) []

/-- A predicate that does not tell balls of one kind apart is counted from the tally. -/
theorem countP_eq_tallyCount {p : Ball → Bool} (h : ∀ b, p b = p b.kind) (l : List Ball) : l.countP p = tallyCount p (tallyOf l) := by
  induction l with
  | nil => rfl
  | cons b l ih =>
    have hcons : tallyOf (b :: l) = tallyAdd b.kind (tallyOf l) := rfl
    rw [List.countP_cons, ih, hcons, tallyCount_tallyAdd, ← h b]

/-- The tally of the whole map (R91 to R98), kinds in the order in which the walk from the last ball back meets them. -/
def mapTally : List (Ball × Nat) :=
  [(.none, 4), (.avtt, 46), (.avcc, 46), (.gnd, 474), (.vddq 3, 11), (.ddrReset 3, 158), (.lref 0 false, 32), (.ltx 0 false, 512),
   (.vddq 2, 11), (.ddrReset 2, 158), (.ioHp 0 0, 616), (.vccio 13, 4), (.vccint, 144), (.vccio 9, 6), (.vccio 8, 6), (.vccio 7, 6),
   (.vccio 6, 6), (.vccio 5, 6), (.vccio 12, 4), (.vccio 11, 4), (.vccio 4, 6), (.vccio 3, 6), (.vccio 2, 6), (.vccio 1, 6),
   (.vccio 0, 6), (.vccio 10, 4), (.vccaux, 4), (.vbatt, 40), (.vccfl, 2), (.pcieTx 0 false, 32), (.vddq 1, 11), (.ddrReset 1, 158),
   (.vddq 0, 11), (.ddrReset 0, 158)]

set_option maxRecDepth 20000 in
theorem tallyOf_map : tallyOf (ballsOf 1 52) = mapTally := by decide +kernel

/-- A count of the map that does not tell balls of one kind apart. -/
theorem ballCount_map {p : Ball → Bool} (h : ∀ b, p b = p b.kind) : ballCount p 1 52 = tallyCount p mapTally := by
  rw [ballCount_eq_countP, countP_eq_tallyCount h, tallyOf_map]

/-- Settles O7: no predicate of the list tells balls of one kind apart, and the tally has the counts. -/
theorem ballCounts : Obligations.BallCounts := by
  unfold Obligations.BallCounts
  intro p hp
  have hcount : tallyCount p.1 mapTally = p.2 := by
    revert p
    decide +kernel
  refine (ballCount_map fun b => ?_).trans hcount
  clear hcount
  simp only [List.mem_append, List.mem_cons, List.mem_map, List.not_mem_nil, or_false] at hp
  rcases hp with ((rfl | rfl | rfl | rfl | rfl | rfl | rfl | rfl | rfl | rfl | rfl | rfl | rfl | rfl | rfl | rfl | rfl | rfl | rfl) |
    ⟨k, -, rfl⟩) | ⟨k, -, rfl⟩ <;> cases b <;> rfl

end Sys2Proof.Machine
end

section
/-! SUPPORT. Registers at different addresses, and what has left the part when the Whistle settles. -/

namespace Sys2Proof.Machine

/-- A write leaves the registers at other addresses alone. -/
theorem getF_setF_addr {f g : Fld} (hf : f.lo < 32) (hg : g.lo < 32) (h : f.addr ≠ g.addr) (v : Nat) (s : State) :
    getF f (setF g v s) = getF f s :=
  getF_setF_other v s (by simp only [fldKey]; omega)

/-- A write outside LJ_POLICY leaves the alarms' policies as they are (R440). -/
theorem NotSafe.setF {c : Nat} {s : State} (h : NotSafe c s) (hc : c ≤ 22) {g : Fld} (hl : g.lo < 32)
    (hg : g.addr ≠ 0x3F00F00010 ∧ g.addr ≠ 0x3F00F00014) (v : Nat) : NotSafe c (setF g v s) := by
  have ha := policyFld_addr c
  unfold NotSafe
  rw [getF_setF_addr (policyFld_lo hc) hl (by omega)]
  exact h

theorem mem_out_msix {o : Out} {s : State} (h : o ∈ s.out) (v : Nat) : o ∈ (msix v s).out := by
  unfold msix
  split
  · exact List.mem_append_left _ h
  · exact h

/-- A vector leaves the part while the link is up (R148). -/
theorem msix_mem_out {s : State} (h : s.boot.linkUp = true) (v : Nat) : .msix v ∈ (msix v s).out := by
  simp [msix, h]

theorem mem_out_whFollow {o : Out} {s : State} (h : o ∈ s.out) (t : Nat) : o ∈ (whFollow t s).out := by
  dsimp only [whFollow]
  split
  · exact h
  · split
    · unfold whenS
      split
      · refine mem_out_msix ?_ 9
        exact h
      · exact h
    · exact h

/-- What has left the part stays so when the Whistle settles. -/
theorem mem_out_whSettle {o : Out} {s : State} (h : o ∈ s.out) : o ∈ (whSettle s).out := by
  have hall (l : List Nat) : ∀ s : State, o ∈ s.out → o ∈ (forEach whFollow l s).out := by
    induction l with
    | nil => exact fun _ h => h
    | cons a l ih => exact fun s h => ih _ (mem_out_whFollow h a)
  exact hall _ s h

end Sys2Proof.Machine
end

section
/-! The consumers of notice rings, the MSI-X interval and the management I2C bus (R113, R136, R138, R161, R162), clause by clause. -/

namespace Sys2Proof.Machine

theorem boxRing_lt {m : Nat} (h : m < 14) : boxRing m < 7 := by
  unfold boxRing
  split <;> omega

/-- NOTICE_CONS takes no index further than the ring's size behind the producer (R161). -/
theorem noticeCons_bad {s : State} {m : Fin 14} {v : BitVec 32}
    (h : ringSize (boxRing m) < (getF (NOTICE_PROD_PROD (ringBox (boxRing m))) s + 2 ^ 32 - v.toNat) % 2 ^ 32) :
    Does (.noticeConsWrite m v) s (setF (MB_STATUS_CONS_BAD m) 1 s) :=
  does_fin rfl (noted_of_eq (if_pos (by rwa [Nat.mod_eq_of_lt v.isLt])))

/-- NOTICE_CONS takes any other index; an OVERFLOW that is owed is then written (R161). -/
theorem noticeCons_taken {s : State} {m : Fin 14} {v : BitVec 32}
    (h : (getF (NOTICE_PROD_PROD (ringBox (boxRing m))) s + 2 ^ 32 - v.toNat) % 2 ^ 32 ≤ ringSize (boxRing m)) :
    Does (.noticeConsWrite m v) s (setF (NOTICE_CONS_CONS (ringBox (boxRing m))) v.toNat s) := by
  have htaken : consWrite m v.toNat s = ringOverflow (boxRing m) (setF (NOTICE_CONS_CONS (ringBox (boxRing m))) v.toNat s) :=
    if_neg (by rw [Nat.mod_eq_of_lt v.isLt]; omega)
  exact does_fin (congrArg fin htaken) (Noted.ringOverflow (boxRing_lt m.isLt) _)

/-- The end of vector 8's interval with a vector owed: it is sent while the link is up, and the interval runs again (R162). -/
theorem msiIntervalEnd_owed {s : State} (ht : timerOn tmMsi8 s = true) (ho : s.mail.msiOwed = true) :
    ∃ t, Runs .noticeMsiIntervalEnd s t ∧ Noted (expire tmMsi8 s) t ∧ t.mail.msiOwed = false ∧ timerOn tmMsi8 t = true ∧
      (s.boot.linkUp = true → .msix 8 ∈ t.out) := by
  have hend : msiEnd s =
      msix 8 (startTimer tmMsi8 10 { expire tmMsi8 s with mail := { s.mail with msiOwed := false } }) := by
    rw [msiEnd, if_pos ht]
    exact if_pos ho
  have hmail : Noted (expire tmMsi8 s) { expire tmMsi8 s with mail := { s.mail with msiOwed := false } } :=
    Noted.ofMail rfl rfl rfl rfl rfl rfl rfl
  have htimer {u : State} : Noted u (startTimer tmMsi8 10 u) := Noted.ofTimer fun k _ h => tabFind_tabPut_other _ _ h
  refine ⟨_, congrArg fin hend, ((hmail.trans htimer).trans (Noted.msix 8 _)).trans (Noted.whSettle _), ?_, ?_, fun hl => ?_⟩
  · simp
  · rw [timerOn, whSettle_time, msix_time]
    exact timerOn_startTimer tmMsi8 10 _
  · refine mem_out_whSettle (msix_mem_out ?_ 8)
    exact hl

/-- The same with none owed. -/
theorem msiIntervalEnd_idle {s : State} (ht : timerOn tmMsi8 s = true) (ho : s.mail.msiOwed = false) :
    Does .noticeMsiIntervalEnd s (expire tmMsi8 s) := by
  refine does_fin rfl (noted_of_eq ?_)
  rw [msiEnd, if_pos ht]
  exact if_neg (by simp [ho])

/-- Without the interval's timer its end is no event (log entry 2). -/
theorem msiIntervalEnd_off {s : State} (ht : timerOn tmMsi8 s = false) : Does .noticeMsiIntervalEnd s s :=
  does_fin rfl (noted_of_eq (if_neg (by simp [ht])))

/-- A byte written over I2C into the request buffer goes where a byte of the window goes (R138, R143). -/
theorem mgmtI2cWrite_byte {s : State} {a : BitVec 7} {o : BitVec 16} {b : BitVec 8} (ha : a.toNat = getF MID_MGMT_TADDR s)
    (ho : o.toNat < 0x1080) : exec (.mgmtI2cWrite a o [b]) s = finG (reqPut 8 o.toNat b s) := by
  have hput : i2cPut [b] o.toNat (i2cBase o.toNat s) s = reqPut 8 o.toNat b s := if_pos ho
  have hhere : i2cHere a s = true := decide_eq_true ha
  exact congrArg finG ((if_pos hhere).trans hput)

theorem mgmtI2cWrite_stores {s : State} {a : BitVec 7} {o : BitVec 16} {b : BitVec 8} (hs : NotSafe 0x13 s)
    (ha : a.toNat = getF MID_MGMT_TADDR s) (ho : o.toNat < 0x1080) (hb : getF (MB_STATUS_BUSY 8) s = 0) :
    Does (.mgmtI2cWrite a o [b]) s (boxSet 8 { boxOf 8 s with req := tabSet 0 (boxOf 8 s).req o.toNat b } s) :=
  does_guarantee (mgmtI2cWrite_byte ha ho) (noted_of_eq (if_neg (by simp [isSet, hb]))) hs

theorem mgmtI2cWrite_busy {s : State} {a : BitVec 7} {o : BitVec 16} {b : BitVec 8} (hs : NotSafe 0x13 s)
    (ha : a.toNat = getF MID_MGMT_TADDR s) (ho : o.toNat < 0x1080) (hb : getF (MB_STATUS_BUSY 8) s = 1) :
    Does (.mgmtI2cWrite a o [b]) s (setF (MB_STATUS_WR_WHILE_BUSY 8) 1 s) :=
  does_guarantee (mgmtI2cWrite_byte ha ho) (noted_of_eq (if_pos (by simp [isSet, hb]))) (hs.setF (by decide) (by decide) (by decide) 1)

/-- A transfer to another address is not this device's (R113). -/
theorem mgmtI2cWrite_elsewhere {s : State} {a : BitVec 7} {o : BitVec 16} {l : List (BitVec 8)} (hs : NotSafe 0x13 s)
    (ha : a.toNat ≠ getF MID_MGMT_TADDR s) : Does (.mgmtI2cWrite a o l) s s :=
  does_guarantee rfl (noted_of_eq (if_neg (by simp [i2cHere, ha]))) hs

/-- A read within the request buffer returns its bytes (R136, R138). -/
theorem i2cGet_request {s : State} {n off : Nat} (h : off + n ≤ 0x1080) : i2cGet s off n = memBytes 0 (boxOf 8 s).req off n := by
  induction n generalizing off with
  | zero => rfl
  | succ n ih =>
    rw [i2cGet, if_pos (by omega), winByte, if_pos (by omega), memBytes]
    cases n with
    | zero => rfl
    | succ n => rw [Nat.mod_eq_of_lt (by omega), ih (by omega)]

theorem mgmtI2cRead_returns {s : State} {a : BitVec 7} {o : BitVec 16} {n : Nat} (ha : a.toNat = getF MID_MGMT_TADDR s)
    (ho : o.toNat + n ≤ 0x1080) :
    ∃ t, Runs (.mgmtI2cRead a o n) s t ∧ Noted s t ∧ .i2cData (memBytes 0 (boxOf 8 s).req o.toNat n) ∈ t.out := by
  have hrun : exec (.mgmtI2cRead a o n) s = fin (emit (.i2cData (memBytes 0 (boxOf 8 s).req o.toNat n)) s) := by
    rw [← i2cGet_request ho]
    exact congrArg fin (if_pos (decide_eq_true ha))
  exact ⟨_, hrun, (Noted.emit _ s).trans (Noted.whSettle _), mem_out_whSettle (by simp)⟩

/-- Settles O27: each clause is the lemma of its row above. -/
theorem mailboxRows : Obligations.MailboxRows := by
  unfold Obligations.MailboxRows
  exact ⟨fun _ _ _ => ⟨noticeCons_bad, noticeCons_taken⟩, fun _ ht => ⟨msiIntervalEnd_owed ht, msiIntervalEnd_idle ht⟩,
    fun _ => msiIntervalEnd_off, fun _ _ _ _ hs ha ho => ⟨mgmtI2cWrite_stores hs ha ho, mgmtI2cWrite_busy hs ha ho⟩,
    fun _ _ _ _ hs => mgmtI2cWrite_elsewhere hs, fun _ _ _ _ => mgmtI2cRead_returns⟩

end Sys2Proof.Machine
end

section
/-! SUPPORT. What writing records and notices leaves alone, beyond `Noted`: latched alarms stay latched, the Referee's restart goes on,
and a notice may go to a ring that no mailbox has. -/

namespace Sys2Proof.Machine

/-- The registers that a record, a notice to any ring or an alarm may change: those of `noteAddr`, and NOTICE_PROD and NOTICE_DROP of
any ring number. -/
def logAddr (a : Nat) : Prop := noteAddr a ∨ a % 0x2000 = 0x1F90 ∨ a % 0x2000 = 0x1F98

/-- Two states differ by no more than records, notices to any ring and alarms that do not lead to SAFE. -/
structure Logged (s t : State) : Prop where
  regs : ∀ f : Fld, f.lo < 32 → ¬ logAddr f.addr → getF f t = getF f s
  latched : ∀ c < 22, bitOf (getF LJ_ALARM_LATCH_ALARM s) c = true → bitOf (getF LJ_ALARM_LATCH_ALARM t) c = true
  restarting : t.lj.restarting = s.lj.restarting
  timers : ∀ k, 2 < k → tabFind t.time.deadlines k = tabFind s.time.deadlines k
  boot : t.boot = s.boot
  dev : t.dev = s.dev
  boxes : t.mail.boxes = s.mail.boxes
  served : t.mail.served = s.mail.served
  romOnly : t.mail.romOnly = s.mail.romOnly
  running : t.mail.running = s.mail.running

theorem Logged.refl (s : State) : Logged s s :=
  ⟨fun _ _ _ => rfl, fun _ _ h => h, rfl, fun _ _ => rfl, rfl, rfl, rfl, rfl, rfl, rfl⟩

theorem Logged.trans {s t u : State} (h : Logged s t) (k : Logged t u) : Logged s u where
  regs f hl hf := (k.regs f hl hf).trans (h.regs f hl hf)
  latched c hc hb := k.latched c hc (h.latched c hc hb)
  restarting := k.restarting.trans h.restarting
  timers j hj := (k.timers j hj).trans (h.timers j hj)
  boot := k.boot.trans h.boot
  dev := k.dev.trans h.dev
  boxes := k.boxes.trans h.boxes
  served := k.served.trans h.served
  romOnly := k.romOnly.trans h.romOnly
  running := k.running.trans h.running

/-- Notes that leave the alarms' latches and the Line Judge's own state alone. -/
theorem Noted.logged {s t : State} (n : Noted s t)
    (hj : (t.lj, getF LJ_ALARM_LATCH_ALARM t) = (s.lj, getF LJ_ALARM_LATCH_ALARM s)) : Logged s t where
  regs f hl hf := n.regs f hl fun h => hf (.inl h)
  latched c _ hb := by rw [(Prod.mk.inj hj).2]; exact hb
  restarting := by rw [(Prod.mk.inj hj).1]
  timers k hk := n.timers k (by omega) (by omega)
  boot := n.boot
  dev := n.dev
  boxes := n.boxes
  served := n.served
  romOnly := n.romOnly
  running := n.running

/-- The Line Judge's own state and the alarms' latches, which records and notices leave alone. -/
def judged (s : State) : Lj × Nat := (s.lj, getF LJ_ALARM_LATCH_ALARM s)

theorem judged_setF {f : Fld} (h : fldKey LJ_ALARM_LATCH_ALARM ≠ fldKey f) (v : Nat) (s : State) : judged (setF f v s) = judged s := by
  rw [judged, getF_setF_other v s h, setF_lj, judged]

theorem judged_bumpF {f : Fld} (h : fldKey LJ_ALARM_LATCH_ALARM ≠ fldKey f) (s : State) : judged (bumpF f s) = judged s := by
  unfold bumpF
  split
  · exact judged_setF h _ s
  · rfl

theorem judged_sbAppend (r : Rec) (s : State) : judged (sbAppend r s) = judged s := by
  unfold sbAppend
  split
  · rfl
  · exact judged_bumpF (by decide) _

theorem judged_sbBuffer (r : Rec) (s : State) : judged (sbBuffer r s) = judged s := by
  rw [← whenS_keeps judged (judged_setF (f := SB_STATUS_WATCH_EV) (by decide) 1) (sbWatched r.code s) s]
  dsimp only [sbBuffer]
  generalize whenS _ _ s = u
  split
  · rfl
  · split
    · rfl
    · split
      · rfl
      · exact judged_sbAppend r u

theorem judged_sbProgram (s : State) : judged (sbProgram false s) = judged s := by
  dsimp only [sbProgram]
  rw [if_neg (by decide), whenS_keeps judged (judged_setF (f := SB_STATUS_WATCH_EV) (by decide) 1),
    whenS_keeps judged (judged_setF (f := SB_STATUS_LOST_EV) (by decide) 1)]
  rfl

theorem judged_sbPages (all : Bool) (n : Nat) (s : State) : judged (sbPages all n s) = judged s := by
  induction n generalizing s with
  | zero => rfl
  | succ n ih =>
    unfold sbPages
    split
    · split
      · exact ih _
      · rw [ih, judged_sbProgram]
    · rfl

theorem judged_sbFlush (all : Bool) (s : State) : judged (sbFlush all s) = judged s := by
  rw [← judged_sbPages all 70 s]
  unfold sbFlush sbTimer
  split <;> rfl

theorem Logged.sbEvent (code : Nat) (vs : List (Nat × Nat)) (s : State) : Logged s (sbEvent code vs s) :=
  (Noted.sbEvent code vs s).logged ((judged_sbFlush _ _).trans (judged_sbBuffer _ _))

theorem Logged.noticeMsi (s : State) : Logged s (noticeMsi s) := by
  refine (Noted.noticeMsi s).logged ?_
  unfold Machine.noticeMsi
  split
  · split
    · rfl
    · rw [msix_lj, getF_msix]
      rfl
  · rfl

/-- A register of `logAddr` other than the latch is written. -/
theorem Logged.setF {f : Fld} (hf : logAddr f.addr) (hl : f.lo < 32) (hk : f.addr ≠ LJ_ALARM_LATCH_ALARM.addr) (v : Nat) (s : State) :
    Logged s (setF f v s) :=
  { Logged.refl s with
    regs := fun g hg hn => getF_setF_addr hg hl (fun he => hn (he ▸ hf)) v s
    latched := fun c _ hb => by rwa [getF_setF_addr (by decide) hl (Ne.symm hk)] }

theorem Logged.bumpF {f : Fld} (hf : logAddr f.addr) (hl : f.lo < 32) (hk : f.addr ≠ LJ_ALARM_LATCH_ALARM.addr) (s : State) :
    Logged s (bumpF f s) := by
  unfold Machine.bumpF
  split
  · exact Logged.setF hf hl hk _ s
  · exact Logged.refl s

theorem Logged.whenS {f : State → State} (h : ∀ s, Logged s (f s)) (b : Bool) (s : State) : Logged s (whenS b f s) := by
  unfold Machine.whenS
  split
  · exact h s
  · exact Logged.refl s

theorem Logged.forEach {α : Type} {f : α → State → State} {l : List α} (h : ∀ a ∈ l, ∀ s, Logged s (f a s)) (s : State) :
    Logged s (forEach f l s) := by
  induction l generalizing s with
  | nil => exact .refl s
  | cons a l ih => exact (h a (by simp) s).trans (ih (fun b hb => h b (by simp [hb])) _)

theorem Logged.setProd (r v : Nat) (s : State) : Logged s (Machine.setF (NOTICE_PROD_PROD r) v s) :=
  Logged.setF (.inr (.inl (by simp only [NOTICE_PROD_PROD]; omega))) (lo_prod r)
    (by simp only [NOTICE_PROD_PROD, LJ_ALARM_LATCH_ALARM]; omega) v s

theorem logAddr_drop (r : Nat) : logAddr (NOTICE_DROP_DROPPED r).addr := .inr (.inr (by simp only [NOTICE_DROP_DROPPED]; omega))

theorem drop_ne_latch (r : Nat) : (NOTICE_DROP_DROPPED r).addr ≠ LJ_ALARM_LATCH_ALARM.addr := by
  simp only [NOTICE_DROP_DROPPED, LJ_ALARM_LATCH_ALARM]
  omega

theorem Logged.ringWrite (r code mb : Nat) (arg : List (BitVec 8)) (s : State) : Logged s (ringWrite r code mb arg s) := by
  have h (x : Tab (List (BitVec 8))) (v : Nat) :
      Logged s (Machine.setF (NOTICE_PROD_PROD (ringBox r)) v { s with mail := { s.mail with rings := x } }) :=
    Logged.trans (t := { s with mail := { s.mail with rings := x } }) { Logged.refl s with } (Logged.setProd _ v _)
  dsimp only [Machine.ringWrite]
  split
  · exact (h _ _).trans (Logged.noticeMsi _)
  · exact h _ _

theorem Logged.ringOverflow (r : Nat) (s : State) : Logged s (ringOverflow r s) := by
  dsimp only [Machine.ringOverflow]
  split
  · exact (Logged.setF (logAddr_drop _) (lo_drop _) (drop_ne_latch _) 0 s).trans (Logged.ringWrite _ _ _ _ _)
  · exact Logged.refl s

/-- A notice goes to any ring. -/
theorem Logged.ringPost (r code mb : Nat) (arg : List (BitVec 8)) (s : State) : Logged s (ringPost r code mb arg s) := by
  refine (Logged.ringOverflow r s).trans ?_
  dsimp only [Machine.ringPost]
  generalize Machine.ringOverflow r s = u
  split
  · exact (Logged.whenS (Logged.sbEvent 0x0115 []) _ u).trans (Logged.bumpF (logAddr_drop _) (lo_drop _) (drop_ne_latch _) _)
  · exact Logged.ringWrite _ _ _ _ _

theorem Logged.notice (code mb : Nat) (arg : List (BitVec 8)) (s : State) : Logged s (notice code mb arg s) := by
  refine Logged.forEach (fun r _ s => ?_) s
  split
  · exact Logged.ringPost _ _ _ _ _
  · exact Logged.refl s

theorem Logged.faultFollow (s : State) : Logged s (faultFollow s) := by
  unfold Machine.faultFollow
  split
  · exact Logged.refl s
  · exact (Logged.setF (f := LJ_STATUS_FAULT_OUT) (.inl (by unfold noteAddr; decide)) (by decide) (by decide) _ s).trans
      (Logged.sbEvent _ _ _)

theorem bitOf_eq_testBit (v i : Nat) : bitOf v i = v.testBit i := by
  rw [bitOf, Nat.testBit_eq_decide_div_mod_eq]

/-- An alarm's latch is taken, and no other is lost. -/
theorem Logged.latch (c : Nat) (s : State) :
    Logged s (Machine.setF LJ_ALARM_LATCH_ALARM (withBit (getF LJ_ALARM_LATCH_ALARM s) c) s) :=
  { Logged.refl s with
    regs := fun g hg hn => by
      have hlatch : logAddr LJ_ALARM_LATCH_ALARM.addr := .inl (by unfold noteAddr; decide)
      exact getF_setF_addr (g := LJ_ALARM_LATCH_ALARM) hg (by decide) (fun he => hn (he ▸ hlatch)) _ s
    latched := fun k hk hb => by
      have hw : k < LJ_ALARM_LATCH_ALARM.w := hk
      rw [bitOf_eq_testBit] at hb ⊢
      simp [getF_setF_same, Nat.testBit_mod_two_pow, withBit, hb, hw] }

/-- The device states from which an alarm may lead to SAFE (R443). -/
def maySafe (s : State) : Prop := s.dev.state = .staged ∨ s.dev.state = .live ∨ s.dev.state = .quiesce

theorem enterSafe_idle {s : State} (h : ¬ maySafe s) (c : Nat) : enterSafe c s = s := by
  unfold maySafe at h
  unfold enterSafe
  split <;> simp_all

/-- An alarm that does not lead to SAFE: its policy is another, or the device state is one that SAFE is not entered from. -/
theorem Logged.alarm {c : Nat} {s : State} (h : NotSafe c s ∨ ¬ maySafe s) (subject : Nat) (present : Bool) :
    Logged s (alarm c subject present s) ∧ (1 ≤ c → c ≤ 22 → bitOf (getF LJ_ALARM_LATCH_ALARM (alarm c subject present s)) (c - 1) = true) := by
  dsimp only [Machine.alarm]
  generalize hu : Machine.whenS present _ s = u
  have hact : Logged s u := by
    rw [← hu]
    exact Logged.whenS (fun s => Logged.setF (f := LJ_ALARM_ACT_ALARM) (.inl (by unfold noteAddr; decide)) (by decide) (by decide) _ s) _ s
  generalize hv : Machine.setF LJ_ALARM_LATCH_ALARM _ u = v
  have hlatch : Logged u v := hv ▸ Logged.latch (c - 1) u
  have htaken : 1 ≤ c → c ≤ 22 → bitOf (getF LJ_ALARM_LATCH_ALARM v) (c - 1) = true := by
    intro h1 h22
    have hw : c - 1 < LJ_ALARM_LATCH_ALARM.w := by
      show c - 1 < 22
      omega
    rw [← hv, bitOf_eq_testBit, getF_setF_same]
    simp [Nat.testBit_mod_two_pow, withBit, hw]
  generalize hw : Machine.notice _ _ _ _ = w
  have hnote : Logged v w := hw ▸ (Logged.sbEvent _ _ v).trans (Logged.notice _ _ _ _)
  generalize hx : (if getF (policyFld c) s = 1 then _ else w) = x
  have hfault : Logged w x := by
    rw [← hx]
    split
    · exact { Logged.refl w with }
    · exact Logged.refl w
  generalize hy : (if getF (policyFld c) s = 2 then _ else x) = y
  have hsafe : Logged x y := by
    rw [← hy]
    split
    · exact { Logged.refl x with }
    · exact Logged.refl x
  have hfollow : Logged y (Machine.faultFollow y) := Logged.faultFollow y
  have hrest := (hnote.trans hfault).trans (hsafe.trans hfollow)
  have hall := (hact.trans hlatch).trans hrest
  have hidle : (if getF (policyFld c) s = 2 then enterSafe c (Machine.faultFollow y) else Machine.faultFollow y) = Machine.faultFollow y := by
    split
    · rcases h with hp | hi
      · exact absurd ‹_› hp
      · exact enterSafe_idle (by rwa [maySafe, hall.dev]) c
    · rfl
  rw [hidle]
  exact ⟨hall, fun h1 h22 => hrest.latched _ (by omega) (htaken h1 h22)⟩

/-- GUARANTEE follows, where its alarm does not lead to SAFE. -/
theorem Logged.guaranteeFollow {s : State} (h : NotSafe 0x13 s ∨ ¬ maySafe s) : Logged s (guaranteeFollow s) := by
  have hset (v : Nat) : Logged s (Machine.setF LJ_STATUS_GUARANTEE v s) :=
    Logged.setF (f := LJ_STATUS_GUARANTEE) (.inl (by unfold noteAddr; decide)) (by decide) (by decide) v s
  dsimp only [Machine.guaranteeFollow]
  split
  · exact Logged.refl s
  · split
    · exact ((hset 1).trans (Logged.sbEvent _ _ _)).trans
        (Logged.setF (f := LJ_ALARM_ACT_ALARM) (.inl (by unfold noteAddr; decide)) (by decide) (by decide) _ _)
    · have hlow := (hset 0).trans (Logged.sbEvent 0x0C09 [(4, condNow s)] _)
      refine hlow.trans (Logged.alarm ?_ _ _).1
      rw [NotSafe, hlow.regs _ (by decide) (by simp only [logAddr, noteAddr]; decide), maySafe, hlow.dev]
      exact h

theorem Logged.whSettle (s : State) : Logged s (whSettle s) :=
  (Noted.whSettle s).logged (by rw [whSettle_lj, getF_whSettle])

/-- A change of DEVICE_STATE moves the device's own record, but no pending OUTPUTS_ON. -/
theorem setDevState_logged (d : DevState) (c : Nat) (s : State) :
    ∃ x : Dev, x.state = d ∧ x.onAt = s.dev.onAt ∧ Logged { s with dev := x } (setDevState d c s) := by
  refine ⟨_, ?_, ?_, ((Logged.sbEvent 0x0110 [(1, c)] _).trans (Logged.notice _ _ _ _)).trans (Logged.faultFollow _)⟩ <;> rfl

end Sys2Proof.Machine
end

section
/-! SUPPORT. Start-up's registers, the Line Judge's, and what the device holds beside its mailboxes, under the resets of mailboxes. -/

namespace Sys2Proof.Machine

/-- The registers of start-up and the Huddle, and those of the Line Judge beyond the alarms (spec/04, spec/16). -/
def steadyAddr (a : Nat) : Prop := (0x3F0080F000 ≤ a ∧ a < 0x3F0080F020) ∨ (0x3F00F00010 ≤ a ∧ a < 0x3F00F01000)

/-- What resets of mailboxes and cores leave alone: those registers, start-up, the device state with its pending OUTPUTS_ON of MODE 1,
how mailboxes are served, the commands that run, the Referee's restart and its timers. -/
structure Steady (s t : State) : Prop where
  regs : ∀ f : Fld, f.lo < 32 → steadyAddr f.addr → getF f t = getF f s
  restarting : t.lj.restarting = s.lj.restarting
  timers : ∀ k, 2 < k → k < 0x1000 → tabFind t.time.deadlines k = tabFind s.time.deadlines k
  boot : t.boot = s.boot
  state : t.dev.state = s.dev.state
  onAt : t.dev.onAt = s.dev.onAt
  served : t.mail.served = s.mail.served
  romOnly : t.mail.romOnly = s.mail.romOnly
  running : t.mail.running = s.mail.running

theorem Steady.refl (s : State) : Steady s s :=
  ⟨fun _ _ _ => rfl, rfl, fun _ _ _ => rfl, rfl, rfl, rfl, rfl, rfl, rfl⟩

theorem Steady.trans {s t u : State} (h : Steady s t) (k : Steady t u) : Steady s u where
  regs f hl hf := (k.regs f hl hf).trans (h.regs f hl hf)
  restarting := k.restarting.trans h.restarting
  timers j hj hj' := (k.timers j hj hj').trans (h.timers j hj hj')
  boot := k.boot.trans h.boot
  state := k.state.trans h.state
  onAt := k.onAt.trans h.onAt
  served := k.served.trans h.served
  romOnly := k.romOnly.trans h.romOnly
  running := k.running.trans h.running

theorem Logged.steady {s t : State} (h : Logged s t) : Steady s t where
  regs f hl hf := h.regs f hl (by simp only [steadyAddr] at hf; simp only [logAddr, noteAddr]; omega)
  restarting := h.restarting
  timers k hk _ := h.timers k hk
  boot := h.boot
  state := by rw [h.dev]
  onAt := by rw [h.dev]
  served := h.served
  romOnly := h.romOnly
  running := h.running

/-- Another register is written. -/
theorem Steady.setF {f : Fld} (hf : ¬ steadyAddr f.addr) (hl : f.lo < 32) (v : Nat) (s : State) : Steady s (setF f v s) :=
  { Steady.refl s with regs := fun _ hg hs => getF_setF_addr hg hl (fun he => hf (he ▸ hs)) v s }

theorem Steady.stopTimer {k : Nat} (h : k ≤ 2 ∨ 0x1000 ≤ k) (s : State) : Steady s (stopTimer k s) :=
  { Steady.refl s with timers := fun j _ _ => tabFind_tabDel_other _ (by omega) }

theorem Steady.forEach {α : Type} {f : α → State → State} {l : List α} (h : ∀ a ∈ l, ∀ s, Steady s (f a s)) (s : State) :
    Steady s (forEach f l s) := by
  induction l generalizing s with
  | nil => exact .refl s
  | cons a l ih => exact (h a (by simp) s).trans (ih (fun b hb => h b (by simp [hb])) _)

theorem ownerFld_lo {g : Nat} (h : g < 7) : (ownerFld g).lo < 32 := by
  simp only [ownerFld]
  omega

/-- The registers of the mailboxes and of their claims are others (spec/05). -/
theorem not_steadyAddr_mail {a : Nat} (h : 0x3F00C00000 ≤ a) (h' : a ≤ 0x3F00C30000) : ¬ steadyAddr a := by
  simp only [steadyAddr]
  omega

theorem claimDrop_steady {g : Nat} (h : g < 7) (s : State) : Steady s (claimDrop g s) :=
  (Steady.setF (f := ownerFld g) (not_steadyAddr_mail (by simp [ownerFld, CLAIM_OWNER_OWNER0]) (by simp [ownerFld, CLAIM_OWNER_OWNER0]))
    (ownerFld_lo h) 0xF s).trans (Steady.stopTimer (.inr (by simp [tmLease]; omega)) _)

/-- The groups that mailbox `m` holds become free. -/
def claimsDrop (m : Nat) (l : List Nat) (s : State) : State :=
  forEach (fun g s => if ownerOf g s = m then claimDrop g s else s) l s

theorem claimsDrop_steady (m : Nat) {l : List Nat} (h : ∀ g ∈ l, g < 7) (s : State) : Steady s (claimsDrop m l s) := by
  refine Steady.forEach (fun g hg s => ?_) s
  split
  · exact claimDrop_steady (h g hg) s
  · exact .refl s

theorem mem_range7 : ∀ g ∈ natsFrom 0 7, g < 7 := fun g hg => by
  have := mem_natsFrom.1 hg
  omega

/-- A mailbox's state once its claims are gone: its buffers and what waits for it. -/
def boxEmptied (m : Nat) (s : State) : State :=
  boxSet m boxInit { s with
    mail := { s.mail with queue := s.mail.queue.filter (fun q => decide (q.mb ≠ m)) }
    dev := { s.dev with onNext := s.dev.onNext.map (fun k => if k = m then 64 + m else k) } }

/-- MB_STATUS of a mailbox as its reset leaves it (R153). -/
def statusReset (m : Nat) (s : State) : State :=
  setF (MB_STATUS_RESET_SEEN m) 1 (setF (MB_STATUS_RSP_READY m) 0 (setF (MB_STATUS_BUSY m) 0 s))

theorem mailboxReset_eq (m : Nat) (s : State) :
    mailboxReset m s = sbEvent 0x0114 [] (statusReset m (claimsDrop m (natsFrom 0 7) (boxEmptied m s))) := rfl

theorem mbStatus_steady {m : Nat} (h : m < 14) : ¬ steadyAddr (MB_STATUS_BUSY m).addr := by
  refine not_steadyAddr_mail ?_ ?_ <;> simp only [MB_STATUS_BUSY] <;> omega

theorem statusReset_steady {m : Nat} (h : m < 14) (s : State) : Steady s (statusReset m s) :=
  ((Steady.setF (f := MB_STATUS_BUSY m) (mbStatus_steady h) (by simp [MB_STATUS_BUSY]) 0 s).trans
    (Steady.setF (f := MB_STATUS_RSP_READY m) (mbStatus_steady h) (by simp [MB_STATUS_RSP_READY]) 0 _)).trans
    (Steady.setF (f := MB_STATUS_RESET_SEEN m) (mbStatus_steady h) (by simp [MB_STATUS_RESET_SEEN]) 1 _)

theorem mailboxReset_steady {m : Nat} (h : m < 14) (s : State) : Steady s (mailboxReset m s) := by
  have hempty : Steady s (boxEmptied m s) := { Steady.refl s with }
  rw [mailboxReset_eq]
  exact ((hempty.trans (claimsDrop_steady m mem_range7 _)).trans (statusReset_steady h _)).trans (Logged.sbEvent _ _ _).steady

theorem ringEmpty_steady (s : State) : Steady s (ringEmpty s) :=
  (Steady.setF (f := NOTICE_CONS_CONS 0) (not_steadyAddr_mail (by decide) (by decide)) (by decide) _ s).trans
    (Steady.setF (f := NOTICE_DROP_DROPPED 0) (not_steadyAddr_mail (by decide) (by decide)) (by decide) 0 _)

/-- The BAR2 grant's registers are cleared (R165). -/
def grantCleared (s : State) : State :=
  setF (MB_EXPERT_SCOPE 0) 0 (setF (MB_EXPERT_WRITE 0) 0 (setF (MB_EXPERT_GRANTED 0) 0 s))

theorem grantEnd_logged {s : State} (h : grantHeld s = true) : Logged (grantCleared s) (grantEnd s) := by
  have hpost : Logged (grantCleared s) (ringPost 1 0x0007 0xFF [] (ringPost 0 0x0007 0xFF [] (sbEvent 0x0112 [] (grantCleared s)))) :=
    ((Logged.sbEvent _ _ _).trans (Logged.ringPost _ _ _ _ _)).trans (Logged.ringPost _ _ _ _ _)
  rw [grantEnd, if_pos h]
  dsimp only
  split
  · exact hpost
  · exact hpost.trans (Logged.ringPost _ _ _ _ _)

theorem grantEnd_none {s : State} (h : ¬ grantHeld s = true) : grantEnd s = s := if_neg h

theorem grantEnd_steady (s : State) : Steady s (grantEnd s) := by
  by_cases h : grantHeld s = true
  · have haddr : ¬ steadyAddr (MB_EXPERT_GRANTED 0).addr := not_steadyAddr_mail (by decide) (by decide)
    exact (((Steady.setF (f := MB_EXPERT_GRANTED 0) haddr (by decide) 0 s).trans
      (Steady.setF (f := MB_EXPERT_WRITE 0) haddr (by decide) 0 _)).trans
      (Steady.setF (f := MB_EXPERT_SCOPE 0) haddr (by decide) 0 _)).trans (grantEnd_logged h).steady
  · rw [grantEnd_none h]
    exact .refl s

/-- No grant is held once it has ended. -/
theorem granted_grantEnd (s : State) : getF (MB_EXPERT_GRANTED 0) (grantEnd s) ≠ 1 := by
  by_cases h : grantHeld s = true
  · rw [(grantEnd_logged h).regs _ (by decide) (by simp only [logAddr, noteAddr]; decide), grantCleared, getF_setF_other _ _ (by decide),
      getF_setF_other _ _ (by decide), getF_setF_same]
    decide
  · rw [grantEnd_none h]
    simpa [grantHeld, isSet] using h

theorem whFlush_logged (t : Nat) (s : State) : Logged s (whFlush t s) :=
  Logged.trans (t := whSetStack t [] s) { Logged.refl s with } (Logged.sbEvent _ _ _)

end Sys2Proof.Machine
end

section
/-! SUPPORT. A mailbox after its reset (R153), and what leaves it so. -/

namespace Sys2Proof.Machine

/-- A mailbox that has been reset: buffers and history cleared, RESET_SEEN, no request and no response, no claim. -/
structure BoxClear (m : Nat) (t : State) : Prop where
  box : boxOf m t = boxInit
  seen : getF (MB_STATUS_RESET_SEEN m) t = 1
  busy : getF (MB_STATUS_BUSY m) t = 0
  ready : getF (MB_STATUS_RSP_READY m) t = 0
  owners : ∀ g < 7, ownerOf g t ≠ m

/-- Two states agree in mailbox `m`: its buffers, MB_STATUS, and all claims. -/
structure BoxKept (m : Nat) (s t : State) : Prop where
  box : boxOf m t = boxOf m s
  regs : ∀ f : Fld, f.lo < 32 → f.addr = (MB_STATUS_BUSY m).addr ∨ f.addr = CLAIM_OWNER_OWNER0.addr → getF f t = getF f s

theorem BoxKept.trans {m : Nat} {s t u : State} (h : BoxKept m s t) (k : BoxKept m t u) : BoxKept m s u :=
  ⟨k.box.trans h.box, fun f hl hf => (k.regs f hl hf).trans (h.regs f hl hf)⟩

theorem BoxKept.refl (m : Nat) (s : State) : BoxKept m s s := ⟨rfl, fun _ _ _ => rfl⟩

theorem Logged.boxKept {s t : State} (h : Logged s t) (m : Nat) : BoxKept m s t := by
  refine ⟨by simp only [boxOf, h.boxes], fun f hl hf => h.regs f hl ?_⟩
  simp only [MB_STATUS_BUSY, CLAIM_OWNER_OWNER0] at hf
  simp only [logAddr, noteAddr]
  omega

theorem BoxKept.setF {m : Nat} {f : Fld} (hl : f.lo < 32) (h1 : f.addr ≠ (MB_STATUS_BUSY m).addr) (h2 : f.addr ≠ CLAIM_OWNER_OWNER0.addr)
    (v : Nat) (s : State) : BoxKept m s (setF f v s) :=
  ⟨rfl, fun g hg ha => getF_setF_addr hg hl (by omega) v s⟩

theorem BoxClear.kept {m : Nat} {s t : State} (h : BoxClear m s) (k : BoxKept m s t) : BoxClear m t where
  box := k.box.trans h.box
  seen := (k.regs (MB_STATUS_RESET_SEEN m) (by simp [MB_STATUS_RESET_SEEN]) (.inl rfl)).trans h.seen
  busy := (k.regs (MB_STATUS_BUSY m) (by simp [MB_STATUS_BUSY]) (.inl rfl)).trans h.busy
  ready := (k.regs (MB_STATUS_RSP_READY m) (by simp [MB_STATUS_RSP_READY]) (.inl rfl)).trans h.ready
  owners g hg := by
    rw [ownerOf, k.regs _ (ownerFld_lo hg) (.inr rfl)]
    exact h.owners g hg

theorem ownerOf_claimDrop (g h : Nat) (s : State) : ownerOf h (claimDrop g s) = if h = g then 0xF else ownerOf h s := by
  split
  · next heq => rw [heq, ownerOf, claimDrop, getF_stopTimer, getF_setF_same]; rfl
  · next hne => rw [ownerOf, claimDrop, getF_stopTimer, getF_setF_other _ _ (by simp only [fldKey, ownerFld]; omega), ownerOf]

/-- Dropping the claims of mailbox `m` frees its groups and no other. -/
theorem ownerOf_claimsDrop {m : Nat} (hm : m ≠ 0xF) (l : List Nat) (h : Nat) (s : State) :
    ownerOf h (claimsDrop m l s) = if h ∈ l ∧ ownerOf h s = m then 0xF else ownerOf h s := by
  induction l generalizing s with
  | nil => simp [claimsDrop, forEach]
  | cons g l ih =>
    have hcons : claimsDrop m (g :: l) s = claimsDrop m l (if ownerOf g s = m then claimDrop g s else s) := rfl
    rw [hcons, ih]
    by_cases hg : ownerOf g s = m
    · rw [if_pos hg, ownerOf_claimDrop]
      by_cases hh : h = g
      · simp [hh, hg, Ne.symm hm]
      · simp [hh]
    · rw [if_neg hg]
      by_cases hh : h = g
      · simp [hh, hg]
      · simp [hh]

theorem claimsDrop_box (m k : Nat) (l : List Nat) (s : State) : boxOf k (claimsDrop m l s) = boxOf k s := by
  refine forEach_keeps (boxOf k) (fun g _ s => ?_) s
  split <;> rfl

/-- Dropping claims writes CLAIM_OWNER alone. -/
theorem getF_claimsDrop {f : Fld} (hf : f.lo < 32) (h : f.addr ≠ CLAIM_OWNER_OWNER0.addr) (m : Nat) {l : List Nat} (hl : ∀ g ∈ l, g < 7)
    (s : State) : getF f (claimsDrop m l s) = getF f s := by
  refine forEach_keeps (getF f) (fun g hg s => ?_) s
  split
  · exact (getF_stopTimer _ _ _).trans (getF_setF_addr hf (ownerFld_lo (hl g hg)) h 0xF s)
  · rfl

/-- Registers at other addresses than the mailbox's MB_STATUS read as before. -/
theorem getF_statusReset {f : Fld} {m : Nat} (hl : f.lo < 32) (h : f.addr ≠ (MB_STATUS_BUSY m).addr) (s : State) :
    getF f (statusReset m s) = getF f s :=
  ((getF_setF_addr (g := MB_STATUS_RESET_SEEN m) hl (by simp [MB_STATUS_RESET_SEEN]) h 1 _).trans
    (getF_setF_addr (g := MB_STATUS_RSP_READY m) hl (by simp [MB_STATUS_RSP_READY]) h 0 _)).trans
    (getF_setF_addr (g := MB_STATUS_BUSY m) hl (by simp [MB_STATUS_BUSY]) h 0 s)

theorem statusReset_reads (m : Nat) (s : State) : getF (MB_STATUS_RESET_SEEN m) (statusReset m s) = 1 ∧
    getF (MB_STATUS_BUSY m) (statusReset m s) = 0 ∧ getF (MB_STATUS_RSP_READY m) (statusReset m s) = 0 := by
  refine ⟨?_, ?_, ?_⟩
  · rw [statusReset, getF_setF_same]
    rfl
  · rw [statusReset, getF_setF_other, getF_setF_other, getF_setF_same]
    · rfl
    all_goals simp only [fldKey, MB_STATUS_BUSY, MB_STATUS_RSP_READY, MB_STATUS_RESET_SEEN]; omega
  · rw [statusReset, getF_setF_other, getF_setF_same]
    · rfl
    · simp only [fldKey, MB_STATUS_RSP_READY, MB_STATUS_RESET_SEEN]; omega

theorem ownerOf_statusReset {m g : Nat} (hm : m < 14) (hg : g < 7) (s : State) : ownerOf g (statusReset m s) = ownerOf g s := by
  refine getF_statusReset (ownerFld_lo hg) ?_ s
  simp only [ownerFld, CLAIM_OWNER_OWNER0, MB_STATUS_BUSY]
  omega

theorem boxOf_statusReset (m k : Nat) (s : State) : boxOf k (statusReset m s) = boxOf k s := rfl
theorem boxOf_boxEmptied_same (m : Nat) (s : State) : boxOf m (boxEmptied m s) = boxInit := boxOf_boxSet_same m boxInit _
theorem boxOf_boxEmptied_other {m k : Nat} (h : k ≠ m) (s : State) : boxOf k (boxEmptied m s) = boxOf k s :=
  boxOf_boxSet_other boxInit _ h

/-- A mailbox's reset (R153). -/
theorem mailboxReset_clear {m : Nat} (hm : m < 14) (s : State) : BoxClear m (mailboxReset m s) := by
  rw [mailboxReset_eq]
  refine BoxClear.kept ?_ ((Logged.sbEvent _ _ _).boxKept m)
  obtain ⟨hseen, hbusy, hready⟩ := statusReset_reads m (claimsDrop m (natsFrom 0 7) (boxEmptied m s))
  refine ⟨?_, hseen, hbusy, hready, fun g hg => ?_⟩
  · rw [boxOf_statusReset, claimsDrop_box, boxOf_boxEmptied_same]
  · rw [ownerOf_statusReset hm hg, ownerOf_claimsDrop (by omega)]
    split
    · omega
    · next hn => exact fun he => hn ⟨mem_natsFrom.2 (by omega), he⟩

/-- The reset of another mailbox leaves the buffers alone. -/
theorem mailboxReset_box {m k : Nat} (h : m ≠ k) (s : State) : boxOf m (mailboxReset k s) = boxOf m s := by
  rw [mailboxReset_eq, ((Logged.sbEvent _ _ _).boxKept m).box, boxOf_statusReset, claimsDrop_box, boxOf_boxEmptied_other h]

/-- A mailbox that has been reset stays so when another one is. -/
theorem BoxClear.mailboxReset {m k : Nat} {s : State} (h : BoxClear m s) (hm : m < 14) (hk : k < 14) (hne : m ≠ k) :
    BoxClear m (mailboxReset k s) := by
  have hbox := (mailboxReset_box hne s).trans h.box
  rw [mailboxReset_eq] at hbox ⊢
  have hstatus {f : Fld} (hl : f.lo < 32) (ha : f.addr = (MB_STATUS_BUSY m).addr) :
      getF f (statusReset k (claimsDrop k (natsFrom 0 7) (boxEmptied k s))) = getF f s := by
    simp only [MB_STATUS_BUSY] at ha
    rw [getF_statusReset hl (by simp only [MB_STATUS_BUSY]; omega),
      getF_claimsDrop hl (by simp only [CLAIM_OWNER_OWNER0]; omega) k mem_range7]
    rfl
  refine BoxClear.kept ⟨(((Logged.sbEvent _ _ _).boxKept m).box.symm.trans hbox), ?_, ?_, ?_, fun g hg => ?_⟩
    ((Logged.sbEvent _ _ _).boxKept m)
  · exact (hstatus (f := MB_STATUS_RESET_SEEN m) (by simp [MB_STATUS_RESET_SEEN]) rfl).trans h.seen
  · exact (hstatus (f := MB_STATUS_BUSY m) (by simp [MB_STATUS_BUSY]) rfl).trans h.busy
  · exact (hstatus (f := MB_STATUS_RSP_READY m) (by simp [MB_STATUS_RSP_READY]) rfl).trans h.ready
  · rw [ownerOf_statusReset hk hg, ownerOf_claimsDrop (by omega)]
    split
    · omega
    · exact h.owners g hg

/-- Of mailboxes that are reset in turn, each has been reset. -/
theorem mailboxesReset_clear {l : List Nat} (hl : ∀ k ∈ l, k < 14) {m : Nat} (hm : m < 14) {s : State} (h : m ∈ l ∨ BoxClear m s) :
    BoxClear m (forEach mailboxReset l s) := by
  induction l generalizing s with
  | nil => exact h.resolve_left (by simp)
  | cons k l ih =>
    refine ih (fun j hj => hl j (by simp [hj])) ?_
    by_cases hk : m = k
    · exact .inr (hk ▸ mailboxReset_clear hm s)
    · rcases h with hmem | hclear
      · exact .inl ((List.mem_cons.1 hmem).resolve_left hk)
      · exact .inr (hclear.mailboxReset hm (hl k (by simp)) hk)

/-- What follows the resets of the host mailboxes leaves every mailbox as it is. -/
theorem hostReset_kept (m : Nat) (s : State) : BoxKept m (forEach mailboxReset (natsFrom 0 8) s) (hostReset s) := by
  have hset (f : Fld) (hl : f.lo < 32) (ha : f.addr = 0x3F00C01F94 ∨ f.addr = 0x3F00C01F98 ∨ f.addr = 0x3F00C01FA0) (v : Nat) (u : State) :
      BoxKept m u (setF f v u) :=
    BoxKept.setF hl (by simp only [MB_STATUS_BUSY]; omega) (by simp only [CLAIM_OWNER_OWNER0]; omega) v u
  have hring (u : State) : BoxKept m u (ringEmpty u) :=
    (hset (NOTICE_CONS_CONS 0) (by decide) (.inl rfl) _ u).trans (hset (NOTICE_DROP_DROPPED 0) (by decide) (.inr (.inl rfl)) 0 _)
  have hgrant (u : State) : BoxKept m u (grantEnd u) := by
    by_cases h : grantHeld u = true
    · refine BoxKept.trans (t := grantCleared u) ?_ ((grantEnd_logged h).boxKept m)
      exact ((hset (MB_EXPERT_GRANTED 0) (by decide) (.inr (.inr rfl)) 0 u).trans
        (hset (MB_EXPERT_WRITE 0) (by decide) (.inr (.inr rfl)) 0 _)).trans (hset (MB_EXPERT_SCOPE 0) (by decide) (.inr (.inr rfl)) 0 _)
    · rw [grantEnd_none h]
      exact .refl m u
  dsimp only [hostReset]
  generalize forEach mailboxReset (natsFrom 0 8) s = u
  exact ((((whFlush_logged 5 u).boxKept m).trans (hring _)).trans ((Logged.notice _ _ _ _).boxKept m)).trans (hgrant _)

theorem hostReset_steady (s : State) : Steady s (hostReset s) := by
  have hboxes : Steady s (forEach mailboxReset (natsFrom 0 8) s) :=
    Steady.forEach (fun m hm s => mailboxReset_steady (by have := mem_natsFrom.1 hm; omega) s) s
  exact (((hboxes.trans (whFlush_logged 5 _).steady).trans (ringEmpty_steady _)).trans (Logged.notice _ _ _ _).steady).trans
    (grantEnd_steady _)

/-- The host mailboxes have been reset, the others keep their buffers, and no grant is held (R153, R165). -/
theorem hostReset_clear {m : Nat} (hm : m < 8) (s : State) : BoxClear m (hostReset s) := by
  refine BoxClear.kept ?_ (hostReset_kept m s)
  refine mailboxesReset_clear (fun k hk => ?_) (by omega) (.inl (mem_natsFrom.2 (by omega)))
  have := mem_natsFrom.1 hk
  omega

theorem hostReset_box {m : Nat} (hm : 8 ≤ m) (s : State) : boxOf m (hostReset s) = boxOf m s := by
  rw [(hostReset_kept m s).box]
  refine forEach_keeps (boxOf m) (fun k hk s => mailboxReset_box ?_ s) s
  have := mem_natsFrom.1 hk
  omega

theorem granted_hostReset (s : State) : getF (MB_EXPERT_GRANTED 0) (hostReset s) ≠ 1 := granted_grantEnd _

end Sys2Proof.Machine
end

section
/-! PERST_N, the PCIe link and the default IDs (R84, R127, R153), clause by clause. -/

namespace Sys2Proof.Machine

/-- PERST_N falls while the device runs: the endpoint and MB0 to MB7 are reset (R84, R153). -/
theorem perstN_falls {s : State} (hp : s.boot.power = 2) (hn : s.boot.perst = false) :
    ∃ t, Runs (.perstN true) s t ∧ t.boot.perst = true ∧ t.boot.linkUp = false ∧ t.boot.ids = none ∧ timerOn 11 t = false ∧
      ∀ m < 8, boxOf m t = boxInit ∧ getF (MB_STATUS_RESET_SEEN m) t = 1 ∧ getF (MB_STATUS_BUSY m) t = 0 ∧
        getF (MB_STATUS_RSP_READY m) t = 0 ∧ ∀ g < 7, ownerOf g t ≠ m := by
  obtain ⟨u, hu⟩ : ∃ u, u = stopTimer tmPcieId { s with boot := { s.boot with perst := true, ids := none, linkUp := false } } := ⟨_, rfl⟩
  have hrun : exec (.perstN true) s = fin (hostReset u) := by
    show fin (perstN true s) = _
    simp [perstN, hn, hp, hu, linkDown, stopTimer]
  have hend := (hostReset_steady u).trans (Logged.whSettle _).steady
  refine ⟨_, hrun, ?_, ?_, ?_, ?_, fun m hm => ?_⟩
  · rw [hend.boot, hu]; rfl
  · rw [hend.boot, hu]; rfl
  · rw [hend.boot, hu]; rfl
  · rw [timerOn, hend.timers 11 (by decide) (by decide), hu]
    exact timerOn_stopTimer 11 _
  · have hclear := (hostReset_clear hm u).kept ((Logged.whSettle _).boxKept m)
    exact ⟨hclear.box, hclear.seen, hclear.busy, hclear.ready, hclear.owners⟩

/-- Before the internal reset is released PERST_N is only a level (R84). -/
theorem perstN_off {s : State} {low : Bool} (hp : s.boot.power ≠ 2) (hl : low ≠ s.boot.perst) :
    Does (.perstN low) s { s with boot := { s.boot with perst := low } } :=
  does_fin rfl (noted_of_eq ((if_neg hl).trans (if_pos hp)))

/-- The link goes down, or a function-level reset comes, through which the link stays up (R153; log entry 82). -/
theorem pcieLinkDown_resets {s : State} {fn : Bool} (hp : s.boot.power = 2) (hl : s.boot.linkUp = true) :
    ∃ t, Runs (.pcieLinkDown fn) s t ∧ t.boot.linkUp = fn ∧
      (∀ m < 8, boxOf m t = boxInit ∧ getF (MB_STATUS_RESET_SEEN m) t = 1 ∧ getF (MB_STATUS_BUSY m) t = 0) ∧
      (∀ m, 8 ≤ m → boxOf m t = boxOf m s) ∧ getF (MB_EXPERT_GRANTED 0) t ≠ 1 := by
  obtain ⟨u, hu⟩ : ∃ u, u = { s with boot := { s.boot with linkUp := fn } } := ⟨_, rfl⟩
  have hstate : (if fn then hostReset s else linkDown s) = hostReset u := by
    cases fn
    · rw [hu]
      rfl
    · have hsame : u = s := by rw [hu, ← hl]
      rw [hsame]
      rfl
  have hrun : exec (.pcieLinkDown fn) s = fin (hostReset u) := by
    rw [← hstate]
    exact congrArg fin (if_neg (by simp [hp, hl]))
  refine ⟨_, hrun, ?_, fun m hm => ?_, fun m hm => ?_, ?_⟩
  · rw [whSettle_boot, (hostReset_steady u).boot, hu]
  · have hclear := (hostReset_clear hm u).kept ((Logged.whSettle _).boxKept m)
    exact ⟨hclear.box, hclear.seen, hclear.busy⟩
  · rw [boxOf_whSettle, hostReset_box hm, hu]
    rfl
  · rw [getF_whSettle]
    exact granted_hostReset u

/-- A link that comes up has its PLL locked (R49, R65; log entry 63); a vector 9 that REQ_5 asks for is sent (R382). -/
theorem pcieLinkUp_notes {s : State} (hp : s.boot.power = 2) (hn : s.boot.perst = false) (hl : s.boot.linkUp = false) :
    Does .pcieLinkUp s (pciePllOn { s with boot := { s.boot with linkUp := true } }) := by
  have hup : linkUp s = whenS (isSet WH_CTRL_FWD_EN (pciePllOn { s with boot := { s.boot with linkUp := true } }) &&
      bitOf (pciePllOn { s with boot := { s.boot with linkUp := true } }).wh.req 5) (msix 9)
      (pciePllOn { s with boot := { s.boot with linkUp := true } }) := if_neg (by simp [hp, hn, hl])
  exact does_fin (congrArg fin hup) (Noted.whenS (Noted.msix 9) _ _)

/-- The IDs fall back to those of the eFuses (R127). -/
theorem pcieIdDefault_fromFuses {s : State} (ht : timerOn 11 s = true) (hi : s.boot.ids = none) :
    Does .pcieIdDefaultTimeout s { expire 11 s with boot := { s.boot with
      ids := some (tabGet 0 s.boot.fuses 5, tabGet 0 s.boot.fuses 6, tabGet 0 s.boot.fuses 7) } } := by
  have hnone : ¬ (expire 11 s).boot.ids.isSome = true := by simp [hi]
  exact does_fin rfl (noted_of_eq ((if_pos ht).trans (if_neg hnone)))

/-- Settles O19: each clause is the lemma of its row above. -/
theorem pcieLink : Obligations.PcieLink := by
  unfold Obligations.PcieLink
  exact ⟨fun _ => perstN_falls, fun _ _ => perstN_off, fun _ _ => pcieLinkDown_resets, fun _ => pcieLinkUp_notes,
    fun _ => pcieIdDefault_fromFuses⟩

end Sys2Proof.Machine
end

section
/-! MODULE_ACCEPT over a port whose RX_QUEUE is wider than its field (R112, R316): the counterexample to O52. Obligations.ModuleRows
speaks of every `State`, and a `State` may hold a value in a register that no write of its field leaves there. -/

namespace Sys2Proof.Machine

/-- A queue number beyond RP_CFG.RX_QUEUE's 12 bits, whose QEVT register (R286) has the address of MID_SITE 6's STATE (R109). -/
def aliasQueue : Nat := 146436

/-- Site 31 is in MISMATCH; port 0 is enabled and still shown as receiving, and queue `aliasQueue`, which it feeds, counts as enabled
with room for a cell. -/
def aliasRegs : Tab Nat :=
  [(MID_SITE_STATE 31, 3), (RP_CTRL_EN 0, 1), (RP_STATUS_RX_UP 0, 1), (QCFG_EN aliasQueue, 1), (QDEPTH_DEPTH_MAX aliasQueue, 1),
    (RP_CFG_RX_QUEUE 0, aliasQueue)].foldl (fun l p => tabPut l (fldKey p.1) p.2) State.reset.regs

/-- The request MODULE_ACCEPT of site 31, without its CRC: opcode, SEQ 7, length 1, TAG 9, and the payload padded to a word. -/
def acceptBytes : List (BitVec 8) := leBytes 2 0x0A04 ++ leBytes 2 7 ++ leBytes 4 1 ++ leBytes 4 9 ++ leBytes 4 0 ++ [31, 0, 0, 0]

/-- `aliasRegs` with port 0 inside a packet, and the request at the head of the sequencer's queue. -/
def acceptState : State :=
  let s := portUpd 0 (fun x => { x with inPkt := true }) { State.reset with regs := aliasRegs }
  let s := boxSet 5 { boxInit with req := memWrite 0 [] 0 (acceptBytes ++ crc32cBytes acceptBytes) } s
  { s with mail := { s.mail with served := true, queue := [⟨5, false⟩] } }

theorem acceptState_asks : Asks sheetModuleAccept 5 (reqParse 5 false acceptState) acceptState where
  head := by decide +kernel
  mb := rfl
  opcode := by decide +kernel
  gate := by decide +kernel
  rom := rfl
  free := by decide +kernel

/-- MODULE_ACCEPT of site 31 lets the ports follow; port 0 loses its receiver, ends the packet in its queue, and the queue's NE event
lands in the STATE of site 6. -/
theorem acceptState_siteSix : getF (MID_SITE_STATE 6) (runSheet sheetModuleAccept 5 acceptState) = 1 ∧
    getF (MID_SITE_STATE 6) acceptState = 0 := by
  decide +kernel

/-- Refutes O52: in its MODULE_ACCEPT clause the STATE of another site is said to stay, and in `acceptState` that of site 6 goes from 0
to 1. -/
theorem not_moduleRows : ¬ Obligations.ModuleRows := by
  unfold Obligations.ModuleRows
  rintro ⟨-, -, -, -, -, -, accept, -, -⟩
  obtain ⟨-, t, runs, -, -, -, -, others⟩ := accept acceptState 5 _ acceptState_asks
  have reached : whSettle (runSheet sheetModuleAccept 5 acceptState) = t := Host.Outcome.next.inj runs
  have kept := others 6 (by decide) (by decide +kernel)
  rw [← reached, getF_whSettle] at kept
  obtain ⟨after, before⟩ := acceptState_siteSix
  omega

end Sys2Proof.Machine
end

section
/-! SUPPORT. The device's reset: what it keeps of the flash and of start-up, and what its registers read (R80 to R83, R365). -/

namespace Sys2Proof.Machine

/-- Operations cut by a reset touch the flash alone. -/
theorem flInterrupt_keeps {β : Type} (g : State → β) (h : ∀ (s : State) (x : Flash), g { s with flash := x } = g s) (b : Bool) (s : State) :
    g (flInterrupt b s) = g s := by
  have hcut (o : FlashOp) (s : State) : g (flCut o s) = g s := by
    refine (h (if o.code = 1 then flSpoilPage o.addr s else flSpoilSector o.addr s) _).trans ?_
    split
    · exact h s _
    · exact forEach_keeps g (fun _ _ s => h s _) s
  refine (h _ _).trans (forEach_keeps g (fun p _ s => hcut p.2 s) s)

theorem flInterrupt_boot (b : Bool) (s : State) : (flInterrupt b s).boot = s.boot := flInterrupt_keeps (·.boot) (fun _ _ => rfl) b s

theorem flInterrupt_pending (b : Bool) (s : State) : (flInterrupt b s).pending = s.pending :=
  flInterrupt_keeps (·.pending) (fun _ _ => rfl) b s

theorem flInterrupt_mem {s : State} (h : s.flash.ops = []) (b : Bool) : (flInterrupt b s).flash.mem = s.flash.mem := by
  unfold flInterrupt
  rw [h]
  rfl

/-- After the device's reset every register but MB8's RESET_SEEN reads its reset value. -/
theorem getF_deviceReset {f : Fld} (hl : f.lo < 32) (h : f.addr ≠ (MB_STATUS_RESET_SEEN 8).addr) (c : Nat) (s : State) :
    getF f (deviceReset c s) = f.rst :=
  getF_setF_addr hl (by decide) h 1 _

theorem deviceReset_fuses (c : Nat) (s : State) : (deviceReset c s).boot.fuses = s.boot.fuses :=
  Eq.trans (b := (flInterrupt s.boot.vbattLow s).boot.fuses) rfl (congrArg Boot.fuses (flInterrupt_boot _ s))

theorem deviceReset_key (c : Nat) (s : State) : (deviceReset c s).boot.vbattKey = s.boot.vbattKey :=
  Eq.trans (b := (flInterrupt s.boot.vbattLow s).boot.vbattKey) rfl (congrArg Boot.vbattKey (flInterrupt_boot _ s))

theorem deviceReset_causes (c : Nat) (s : State) : (deviceReset c s).boot.causes = if s.boot.vbattLow then 0 else c :=
  Eq.trans (b := if (flInterrupt s.boot.vbattLow s).boot.vbattLow then 0 else c) rfl
    <| congrArg (fun b : Boot => if b.vbattLow then 0 else c) (flInterrupt_boot _ s)

/-- The device's reset, for its cause (R80 to R83). -/
theorem deviceReset_resetBy (c : Nat) (s : State) : ResetBy c s (deviceReset c s) where
  regs _ hl hseen _ := getF_deviceReset hl hseen c s
  state := rfl
  causes := deviceReset_causes c s
  fuses := deviceReset_fuses c s
  key := deviceReset_key c s
  flash h := flInterrupt_mem h _
  clock := rfl
  pending := flInterrupt_pending s.boot.vbattLow s

theorem ResetBy.whSettle {c : Nat} {s t : State} (h : ResetBy c s t) : ResetBy c s (whSettle t) where
  regs f hl h1 h2 := (getF_whSettle f t).trans (h.regs f hl h1 h2)
  state := by rw [whSettle_dev, h.state]
  causes := by rw [whSettle_boot, h.causes]
  fuses := by rw [whSettle_boot, h.fuses]
  key := by rw [whSettle_boot, h.key]
  flash ho := by rw [whSettle_flash, h.flash ho]
  clock := by rw [whSettle_clk, h.clock]
  pending := by rw [whSettle_pending, h.pending]

/-- From a powered state, what leads to the rails' loss resets the device for its cause. -/
theorem resetToOff_runs {i : Instr} {c : Nat} {s u : State} (hu : u.boot.power = 2) (h : exec i s = fin (resetToOff c u)) :
    ∃ t, Runs i s t ∧ ResetBy c u t ∧ t.boot.power = 0 := by
  rw [resetToOff, if_pos hu] at h
  refine ⟨_, h, (deviceReset_resetBy c u).whSettle, ?_⟩
  rw [whSettle_boot]
  rfl

/-- What is in flash, and what a timer says, does not matter to a reset's account. -/
theorem ResetBy.expire {c k : Nat} {s t : State} (h : ResetBy c (expire k s) t) : ResetBy c s t :=
  ⟨h.regs, h.state, h.causes, h.fuses, h.key, h.flash, h.clock, h.pending⟩

end Sys2Proof.Machine
end

section
/-! SUPPORT. The Scorebook closes its tallies (R331): notes only. -/

namespace Sys2Proof.Machine

theorem Noted.sbClose (t : Tally) (s : State) : Noted s (sbClose t s) := by
  have hwatch (b : Bool) (u : State) : Noted u (Machine.whenS b (Machine.setF SB_STATUS_WATCH_EV 1) u) :=
    Noted.whenS (fun s => Noted.setNote (by unfold noteAddr; decide) (by decide) 1 s) b u
  exact (Noted.sbAppend _ s).trans (hwatch _ _)

theorem Noted.sbCloseAll (s : State) : Noted s (sbCloseAll s) :=
  (Noted.ofSb s _).trans (Noted.forEach (fun t _ s => Noted.sbClose t s) _)

end Sys2Proof.Machine
end

section
/-! The rails, the resets, the removal warning and VBATT (R77 to R83), clause by clause. -/

namespace Sys2Proof.Machine

theorem allRailsGood_does {s : State} (h : s.boot.power = 0) : Does .allRailsGood s
    (startTimer 12 2000 (setF HUDDLE_STATUS_LINE 0 { s with boot := { s.boot with power := 1 } })) :=
  does_fin rfl (noted_of_eq (if_pos h))

theorem porNReset_resets {s : State} (h : s.boot.power = 2) : ∃ t, Runs .porNReset s t ∧ ResetBy 1 s t ∧ t.boot.power = 0 :=
  resetToOff_runs h (congrArg fin (if_neg (by omega)))

theorem removalReset_resets {s : State} (ht : timerOn 13 s = true) (h : s.boot.power = 2) :
    ∃ t, Runs .removalReset s t ∧ ResetBy 2 s t ∧ t.boot.power = 0 := by
  obtain ⟨t, runs, reset, off⟩ := resetToOff_runs (i := .removalReset) (s := s) (u := expire 13 s) (c := 2) h (congrArg fin (if_pos ht))
  exact ⟨t, runs, reset.expire, off⟩

/-- Rails that fall reset the device for the lowest of them, or for the removal that was under way (R81). -/
theorem brownOut_resets {s : State} {rails : BitVec 23} {k : Nat} (hk : lowestRail rails.toNat = some k) (h : s.boot.power = 2) :
    ∃ t, Runs (.brownOut rails) s t ∧ t.boot.power = 0 ∧ ResetBy (if s.boot.removal then 2 else 3 + 256 * k) s t := by
  have hfall : brownOut rails.toNat s = resetToOff (if s.boot.removal then 2 else 3 + 256 * k) s := by
    rw [brownOut, hk]
    exact if_neg (by omega)
  obtain ⟨t, runs, reset, off⟩ := resetToOff_runs (i := .brownOut rails) h (congrArg fin hfall)
  exact ⟨t, runs, off, reset⟩

theorem flPowerFall_idle {s : State} (h : s.flash.ops = []) : flPowerFall s = { s with flash := { s.flash with waiting := [] } } := by
  simp only [flPowerFall, h, forEach]

/-- PGOOD_IN falls while the Referee restarts: the removal warning without its commit (R82, R434). -/
theorem pgoodInFall_warns {s : State} (h : s.boot.power = 2) (hr : s.boot.removal = false) (hj : s.lj.restarting = true)
    (hp : enabledPorts s = []) (ho : s.flash.ops = []) :
    Does .pgoodInFall s { startTimer 13 5000 (setF HUDDLE_STATUS_RELEASED 1 (pinsOff { s with boot := { s.boot with removal := true } }))
      with flash := { s.flash with waiting := [] } } := by
  refine does_fin rfl (noted_of_eq ?_)
  rw [pgoodFall, if_neg (by simp [h, hr]), if_neg (by omega)]
  dsimp only
  have hports : portsFollow (startTimer tmRemoval 5000 { s with boot := { s.boot with removal := true } }) =
      startTimer tmRemoval 5000 { s with boot := { s.boot with removal := true } } :=
    congrArg (fun l => forEach portFollow l _) hp
  rw [hports, flPowerFall_idle]
  · exact if_pos hj
  · exact ho

/-- DEVICE_RESET's delay ends (R83): the Scorebook's records go to flash, the device is reset for cause 4 and the rails are good. -/
theorem deviceResetExpiry_resets {s : State} (ht : timerOn 10 s = true) : ∃ t, Runs .deviceResetExpiry s t ∧ t.boot.power = 1 ∧
    timerOn 12 t = true ∧ t.dev.state = .cold ∧ t.boot.causes = (if s.boot.vbattLow then 0 else 4) ∧ t.boot.fuses = s.boot.fuses ∧
    getF HUDDLE_STATUS_LINE t = 0 ∧ ∀ f : Fld, f.lo < 32 → f.addr ≠ (MB_STATUS_RESET_SEEN 8).addr → f.addr ≠ HUDDLE_STATUS_LINE.addr →
      getF f t = f.rst := by
  generalize hu : sbFlush true (sbCloseAll (sbBuffer (recNow 0x0116 [] (expire 10 s)) (expire 10 s))) = u
  have hboot : u.boot = s.boot := by
    rw [← hu]
    exact (((Noted.sbBuffer _ _).trans (Noted.sbCloseAll _)).trans (Noted.sbFlush true _)).boot
  refine ⟨whSettle (railsGood (deviceReset 4 u)), hu ▸ congrArg fin (if_pos ht), ?_, ?_, ?_, ?_, ?_, ?_, fun f hl hseen hline => ?_⟩
  · rw [whSettle_boot]
    rfl
  · rw [timerOn, whSettle_time]
    exact timerOn_startTimer 12 2000 _
  · rw [whSettle_dev]
    rfl
  · rw [whSettle_boot, ← hboot]
    exact deviceReset_causes 4 u
  · rw [whSettle_boot, ← hboot]
    exact deviceReset_fuses 4 u
  · rw [getF_whSettle]
    show getF HUDDLE_STATUS_LINE (startTimer 12 2000 (setF HUDDLE_STATUS_LINE 0 _)) = 0
    rw [getF_startTimer, getF_setF_same]
    rfl
  · rw [getF_whSettle]
    exact (getF_setF_addr (g := HUDDLE_STATUS_LINE) hl (by decide) hline 0 _).trans (getF_deviceReset hl hseen 4 u)

theorem vbattLoss_powered {s : State} (h : s.boot.power = 2) :
    Does .vbattLoss s { s with boot := { s.boot with vbattKey := none, vbattLow := true } } :=
  does_fin rfl (noted_of_eq (if_pos h))

theorem vbattLoss_unpowered {s : State} (h : s.boot.power ≠ 2) : Does .vbattLoss s { s with
    boot := { s.boot with vbattKey := none, vbattLow := true, causes := 0 }, flash := { s.flash with latched := [] } } :=
  does_fin rfl (noted_of_eq (if_neg h))

end Sys2Proof.Machine
end

section
/-! SUPPORT. Resets of the Playmakers, and HOLD (R121, R132): what they leave of start-up and of the mailboxes' service. -/

namespace Sys2Proof.Machine

theorem Steady.unlessSteady {f : State → State} (h : ∀ s, Steady s (f s)) (p : Prop) [Decidable p] (s : State) :
    Steady s (if p then s else f s) := by
  split
  · exact .refl s
  · exact h s

theorem coreReset_steady {n : Nat} (h : n < 4) (s : State) : Steady s (coreReset n s) := by
  have hpm (x : Pm) (u : State) : Steady u { u with pm := x } := { Steady.refl u with }
  have htimer := Steady.stopTimer (k := tmWdog n) (.inr (by unfold tmWdog; omega)) s
  have hset (f : Fld) (hl : f.lo < 32) (hf : f.addr < 0x3F0080F000 ∨ (0x3F0080F020 ≤ f.addr ∧ f.addr < 0x3F00F00000)) (v : Nat) (u : State) :
      Steady u (setF f v u) := Steady.setF (by unfold steadyAddr; omega) hl v u
  have hstate (u : State) := hset (PM_STATUS_STATE n) (by simp [PM_STATUS_STATE]) (by simp only [PM_STATUS_STATE]; omega) 0 u
  have hrun (u : State) := hset (PM_CTRL_RUN n) (by simp [PM_CTRL_RUN]) (by simp only [PM_CTRL_RUN]; omega) 0 u
  have hhalted (u : State) := hset (DBG_STATUS_HALTED n) (by simp [DBG_STATUS_HALTED]) (by simp only [DBG_STATUS_HALTED]; omega) 0 u
  have hcause (u : State) := hset (DBG_STATUS_CAUSE n) (by simp [DBG_STATUS_CAUSE]) (by simp only [DBG_STATUS_CAUSE]; omega) 0 u
  have hunit (u : State) := hset (DBG_STATUS_UNIT n) (by simp [DBG_STATUS_UNIT]) (by simp only [DBG_STATUS_UNIT]; omega) 0 u
  have hmark (v : Nat) (u : State) := hset FL_XIP_MARK (by decide) (.inr (by decide)) v u
  unfold coreReset
  dsimp only
  refine Steady.trans ?_ (mailboxReset_steady (by omega) _)
  refine Steady.trans ?_ (whFlush_logged _ _).steady
  refine Steady.trans ?_ (hmark _ _)
  refine Steady.trans ?_ (hunit _)
  refine Steady.trans ?_ (hcause _)
  refine Steady.trans ?_ (hhalted _)
  refine Steady.trans ?_ (hrun _)
  refine Steady.trans ?_ (hstate _)
  exact { htimer with }

theorem pmResetAll_steady (s : State) : Steady s (pmResetAll s) := by
  have hcores : Steady s (forEach (fun n s => if pmState n s = 0 then s else coreReset n s) (natsFrom 0 4) s) :=
    Steady.forEach (fun n hn s => Steady.unlessSteady (coreReset_steady (by have := mem_natsFrom.1 hn; omega)) _ s) s
  refine hcores.trans (Steady.unlessSteady (fun u => ?_) _ _)
  exact Steady.setF (by unfold steadyAddr; decide) (by decide) _ u

/-- HOLD has been entered: HUDDLE_N is released, start-up is over, and the rest of start-up is kept. -/
structure Held (s t : State) : Prop where
  regs : ∀ f : Fld, f.lo < 32 → steadyAddr f.addr → f.addr ≠ HUDDLE_STATUS_RELEASED.addr → getF f t = getF f s
  released : getF HUDDLE_STATUS_RELEASED t = 1
  state : t.dev.state = .hold
  stage : t.boot.stage = 0
  power : t.boot.power = s.boot.power
  bootsel : t.boot.bootsel = s.boot.bootsel
  served : t.mail.served = s.mail.served
  romOnly : t.mail.romOnly = s.mail.romOnly

theorem Held.before {s t u : State} (h : Logged s t) (k : Held t u) : Held s u where
  regs f hl hf hr := (k.regs f hl hf hr).trans (h.steady.regs f hl hf)
  released := k.released
  state := k.state
  stage := k.stage
  power := k.power.trans (by rw [h.boot])
  bootsel := k.bootsel.trans (by rw [h.boot])
  served := k.served.trans h.served
  romOnly := k.romOnly.trans h.romOnly

theorem Held.after {s t u : State} (h : Held s t) (k : Steady t u) : Held s u where
  regs f hl hf hr := (k.regs f hl hf).trans (h.regs f hl hf hr)
  released := (k.regs _ (by decide) (by unfold steadyAddr; decide)).trans h.released
  state := k.state.trans h.state
  stage := by rw [k.boot, h.stage]
  power := by rw [k.boot, h.power]
  bootsel := by rw [k.boot, h.bootsel]
  served := k.served.trans h.served
  romOnly := k.romOnly.trans h.romOnly

theorem enterHold_held (c : Nat) (s : State) : Held s (enterHold c s) := by
  obtain ⟨x, hx, -, hlog⟩ := setDevState_logged .hold c s
  have hsteady := hlog.steady
  have hpower : (setDevState .hold c s).boot.power = s.boot.power := by rw [hsteady.boot]
  have hbootsel : (setDevState .hold c s).boot.bootsel = s.boot.bootsel := by rw [hsteady.boot]
  unfold enterHold
  exact {
    regs := fun f hl hf hr => (getF_setF_addr (g := HUDDLE_STATUS_RELEASED) hl (by decide) hr 1 _).trans (hsteady.regs f hl hf)
    released := getF_setF_same HUDDLE_STATUS_RELEASED 1 _
    state := hsteady.state.trans hx
    stage := rfl
    power := hpower
    bootsel := hbootsel
    served := hsteady.served
    romOnly := hsteady.romOnly }

theorem holdEnter_held (c : Nat) (s : State) : Held s (holdEnter c s) := (enterHold_held c s).after (pmResetAll_steady _)

end Sys2Proof.Machine
end

section
/-! The boot ROM over a blank flash (R114, R115, R121, R149). -/

namespace Sys2Proof.Machine

/-- Pages outside the sectors of a mass erase (R368) read as they are. -/
theorem flRead_blank {s : State} (hp : s.flash.page = []) {a n : Nat}
    (hfw : ∀ p ∈ natsFrom (a / 256) ((a + n - 1) / 256 + 1 - a / 256), flMassSector (p / 256) = false) :
    flRead a n flGood s = (⟨flBytes a n s, none⟩, s) := by
  have hdefined : (natsFrom (a / 256) ((a + n - 1) / 256 + 1 - a / 256)).any (fun p => flPageVague p s) = false := by
    refine List.any_eq_false.2 fun p hmem => ?_
    simp [flPageVague, hfw p hmem, hp, tabGet, tabFind]
  have hpage (b : Nat) : flPage s b = 0 := by simp [flPage, hp, tabGet, tabFind]
  unfold flRead
  simp only [hdefined, hpage, if_true, Bool.false_eq_true, if_false]

/-- A blank flash reads as ones. -/
theorem flBytes_blank {s : State} (hm : s.flash.mem = []) (a n : Nat) : (flBytes a n s).all (fun b => decide (b = 0xFF)) = true := by
  unfold flBytes
  rw [hm]
  induction n generalizing a with
  | zero => rfl
  | succ n ih => exact (Bool.and_eq_true _ _).mpr ⟨rfl, ih (a + 1)⟩

/-- A firmware slot of a blank flash is EMPTY (R114). -/
theorem romCheck_blank {s : State} (hm : s.flash.mem = []) (hp : s.flash.page = []) {n : Nat} (hn : n = 3 ∨ n = 4) :
    romCheck n s = ((1, 0), s) := by
  have hcommit : flRead (commitAddr n) 256 flGood s = (⟨flBytes (commitAddr n) 256 s, none⟩, s) := by
    refine flRead_blank hp ?_
    rcases hn with rfl | rfl <;> decide +kernel
  have hheader : flRead (slotBase n) (slotHdrLen n) flGood s = (⟨flBytes (slotBase n) (slotHdrLen n) s, none⟩, s) := by
    refine flRead_blank hp ?_
    rcases hn with rfl | rfl <;> decide +kernel
  have hempty (h : List (BitVec 8)) : commitOf n (flBytes (commitAddr n) 256 s) h = .empty := if_pos (flBytes_blank hm _ _)
  have hhead : slotHead n s = ((.empty, flBytes (commitAddr n) 256 s, flBytes (slotBase n) (slotHdrLen n) s), s) := by
    simp [slotHead, slotRead, hcommit, hheader, hempty]
  simp [romCheck, hhead]

theorem romReject_logged (n c : Nat) (s : State) : Logged s (romReject n c s) := by
  unfold romReject
  split
  · exact .refl s
  · exact Logged.sbEvent _ _ _

/-- The ROM's findings over a blank flash: both slots EMPTY, and only MB13 served (R115, R149). -/
def romEmpty (s : State) : State :=
  let u := setF BOOT_REASON_FW1 1 (setF BOOT_REASON_FW0 1 s)
  { u with mail := { u.mail with served := true, romOnly := true } }

/-- What the ROM writes down of them. -/
def romNoted (s : State) : State :=
  romReject 4 1 (romReject 3 1 (if (guardBest s.flash.guard).isNone then sbEvent 0x080C [] s else s))

theorem romNoted_logged (s : State) : Logged s (romNoted s) := by
  have hguard : Logged s (if (guardBest s.flash.guard).isNone then sbEvent 0x080C [] s else s) := by
    split
    · exact Logged.sbEvent _ _ _
    · exact .refl s
  exact (hguard.trans (romReject_logged 3 1 _)).trans (romReject_logged 4 1 _)

theorem romRun_blank {s : State} (hm : s.flash.mem = []) (hp : s.flash.page = []) : romRun s = holdEnter 0 (romNoted (romEmpty s)) := by
  unfold romRun
  simp only [romCheck_blank hm hp (.inl rfl), romCheck_blank hm hp (.inr rfl)]
  rfl

/-- Start-up has stopped. -/
theorem bootRun_stopped {s : State} (h : s.boot.stage = 0) (bad n : Nat) (d : List Bool) : bootRun bad n d s = s := by
  cases n with
  | zero => rfl
  | succ n => simp [bootRun, h]

theorem bootRun_rom {s : State} (h : s.boot.stage = 3) (bad n : Nat) (d : List Bool) :
    bootRun bad (n + 1) d s = bootRun bad n d (romRun s) := by
  simp [bootRun, h]

theorem idsWait_keeps {β : Type} (g : State → β) (h : ∀ (s : State) (x : Time), g { s with time := x } = g s) (s : State) :
    g (idsWait s) = g s := by
  unfold idsWait
  split
  · rfl
  · exact h s _

/-- The release of the internal reset powers the device, latches BOOTSEL and starts the boot ROM (R121). -/
theorem resetRelease_boot (sel : Nat) (s : State) : (resetRelease sel s).boot = { s.boot with power := 2, bootsel := sel, stage := 3 } :=
  idsWait_keeps (·.boot) (fun _ _ => rfl) _

theorem resetRelease_flash (sel : Nat) (s : State) : (resetRelease sel s).flash = s.flash := idsWait_keeps (·.flash) (fun _ _ => rfl) _

/-- Without firmware in either slot the boot enters HOLD and serves MB13 alone (R114, R115, R121, R149). -/
theorem internalResetRelease_holds {s : State} {sel : BitVec 2} {x : BootIn} (hpow : s.boot.power = 1) (ht : timerOn 12 s = true)
    (hp : s.flash.page = []) (hm : s.flash.mem = []) : ∃ t, Runs (.internalResetRelease sel x) s t ∧ t.boot.power = 2 ∧
      t.boot.bootsel = sel.toNat ∧ t.dev.state = .hold ∧ t.mail.served = true ∧ t.mail.romOnly = true ∧ getF BOOT_REASON_FW0 t = 1 ∧
      getF BOOT_REASON_FW1 t = 1 ∧ getF HUDDLE_STATUS_RELEASED t = 1 := by
  generalize hu : resetRelease sel.toNat s = u
  have hboot : u.boot = { s.boot with power := 2, bootsel := sel.toNat, stage := 3 } := hu ▸ resetRelease_boot sel.toNat s
  have hflash : u.flash = s.flash := hu ▸ resetRelease_flash sel.toNat s
  have hrom : romRun u = holdEnter 0 (romNoted (romEmpty u)) := romRun_blank (hflash ▸ hm) (hflash ▸ hp)
  have hheld : Held (romEmpty u) (romRun u) := hrom ▸ (holdEnter_held 0 _).before (romNoted_logged _)
  have hgo : bootGo x u = romRun u :=
    (bootRun_rom (by rw [hboot]) _ 15 _).trans (bootRun_stopped hheld.stage _ _ _)
  have hidle : ¬ maySafe (romRun u) := by simp [maySafe, hheld.state]
  have hend := hheld.after ((Logged.guaranteeFollow (.inr hidle)).trans (Logged.whSettle _)).steady
  refine ⟨_, ?_, ?_, ?_, hend.state, hend.served, hend.romOnly, ?_, ?_, hend.released⟩
  · exact (congrArg finG (if_pos ⟨hpow, ht⟩)).trans (congrArg finG (hu ▸ hgo))
  · rw [hend.power]
    exact congrArg Boot.power hboot
  · rw [hend.bootsel]
    exact congrArg Boot.bootsel hboot
  · rw [hend.regs _ (by decide) (by unfold steadyAddr; decide) (by decide)]
    exact (getF_setF_other (f := BOOT_REASON_FW1) 1 _ (by decide)).trans (getF_setF_same BOOT_REASON_FW0 1 u)
  · rw [hend.regs _ (by decide) (by unfold steadyAddr; decide) (by decide)]
    exact getF_setF_same BOOT_REASON_FW1 1 _

end Sys2Proof.Machine
end

section
/-! SUPPORT. What the Referee's fault leaves standing while requests and start-up are abandoned (R434). -/

namespace Sys2Proof.Machine

/-- What a Referee's fault has set is kept: the Line Judge's registers beyond the alarms, the restart under way, a pending OUTPUTS_ON,
the service of mailboxes and the commands that run. -/
structure FaultKept (s t : State) : Prop where
  regs : ∀ f : Fld, f.lo < 32 → 0x3F00F00010 ≤ f.addr → f.addr < 0x3F00F01000 → getF f t = getF f s
  restarting : t.lj.restarting = s.lj.restarting
  onAt : t.dev.onAt = s.dev.onAt
  served : t.mail.served = s.mail.served
  running : t.mail.running = s.mail.running

theorem FaultKept.refl (s : State) : FaultKept s s := ⟨fun _ _ _ _ => rfl, rfl, rfl, rfl, rfl⟩

theorem FaultKept.trans {s t u : State} (h : FaultKept s t) (k : FaultKept t u) : FaultKept s u where
  regs f hl h1 h2 := (k.regs f hl h1 h2).trans (h.regs f hl h1 h2)
  restarting := k.restarting.trans h.restarting
  onAt := k.onAt.trans h.onAt
  served := k.served.trans h.served
  running := k.running.trans h.running

theorem Steady.faultKept {s t : State} (h : Steady s t) : FaultKept s t where
  regs f hl h1 h2 := h.regs f hl (.inr ⟨h1, h2⟩)
  restarting := h.restarting
  onAt := h.onAt
  served := h.served
  running := h.running

theorem FaultKept.setF {f : Fld} (hl : f.lo < 32) (ha : f.addr < 0x3F00F00010) (v : Nat) (s : State) : FaultKept s (setF f v s) :=
  { FaultKept.refl s with regs := fun g hg h1 _ => getF_setF_addr hg hl (by omega) v s }

theorem FaultKept.forEach {α : Type} {f : α → State → State} {l : List α} (h : ∀ a ∈ l, ∀ s, FaultKept s (f a s)) (s : State) :
    FaultKept s (forEach f l s) := by
  induction l generalizing s with
  | nil => exact .refl s
  | cons a l ih => exact (h a (by simp) s).trans (ih (fun b hb => h b (by simp [hb])) _)

theorem planesClear_faultKept (s : State) : FaultKept s (planesClear s) := by
  have halarms (u : State) : FaultKept u (alarmGone 0x08 (alarmGone 0x09 u)) :=
    (FaultKept.setF (f := LJ_ALARM_ACT_ALARM) (by decide) (by decide) _ u).trans (FaultKept.setF (by decide) (by decide) _ _)
  refine FaultKept.trans ?_ (FaultKept.forEach (fun r hr u => ?_) _)
  · refine FaultKept.trans ?_ (halarms _)
    exact { FaultKept.refl s with }
  · have hrow : r < 80 := by
      have := mem_natsFrom.1 hr
      omega
    have hrgn (f : Fld) (hl : f.lo < 32) (ha : f.addr = (RGN_STATUS_FENCED r).addr) (u : State) : FaultKept u (Machine.setF f 0 u) :=
      FaultKept.setF hl (by rw [ha]; simp only [RGN_STATUS_FENCED]; omega) 0 u
    exact ((((hrgn (RGN_STATUS_FENCED r) (by simp [RGN_STATUS_FENCED]) rfl _).trans
      (hrgn (RGN_STATUS_REPAIR_FAILED r) (by simp [RGN_STATUS_REPAIR_FAILED]) rfl _)).trans
      (hrgn (RGN_STATUS_REPAIR_PENDING r) (by simp [RGN_STATUS_REPAIR_PENDING]) rfl _)).trans
      (hrgn (RGN_STATUS_ACTIVE_PLANE r) (by simp [RGN_STATUS_ACTIVE_PLANE]) rfl _)).trans
      (hrgn (RGN_STATUS_SHADOW_STATE r) (by simp [RGN_STATUS_SHADOW_STATE]) rfl _)

theorem fabricClear_faultKept (s : State) : FaultKept s (fabricClear s) := by
  have hfab (x : Fab) (u : State) : FaultKept u { u with fab := x } := { FaultKept.refl u with }
  exact ((planesClear_faultKept s).trans (hfab _ _)).trans (FaultKept.forEach (fun _ _ u => hfab _ u) _)

theorem huddleHold_faultKept (s : State) : FaultKept s (huddleHold s) := by
  refine FaultKept.trans (t := stopTimer tmHuddle (stopTimer tmLock s)) { FaultKept.refl s with } ?_
  exact (FaultKept.setF (by decide) (by decide) 0 _).trans (FaultKept.setF (by decide) (by decide) 0 _)

theorem setDevState_faultKept (d : DevState) (c : Nat) (s : State) : FaultKept s (setDevState d c s) := by
  obtain ⟨x, -, hx, hlog⟩ := setDevState_logged d c s
  exact FaultKept.trans (t := { s with dev := x }) { FaultKept.refl s with onAt := hx } hlog.steady.faultKept

theorem startAgain_faultKept (s : State) : FaultKept s (startAgain s) := by
  have hboot (x : Boot) : FaultKept s { s with boot := x } := { FaultKept.refl s with }
  have hgo (x : Boot) :
      FaultKept s (setDevState .verify 0 (Machine.setF BOOT_STATUS_SLOT 7 (huddleHold (fabricClear { s with boot := x })))) :=
    ((((hboot x).trans (fabricClear_faultKept _)).trans (huddleHold_faultKept _)).trans (FaultKept.setF (by decide) (by decide) 7 _)).trans
      (setDevState_faultKept _ _ _)
  unfold startAgain
  split
  · split
    · exact .refl s
    · exact hgo _
  · exact hgo _
  · exact hgo _
  · exact .refl s

theorem timersAgain_faultKept (s : State) : FaultKept s (timersAgain s) := by
  refine FaultKept.forEach (fun p _ u => ?_) s
  split
  · exact { FaultKept.refl u with }
  · exact .refl u

/-- Before mailboxes stop being served they are all reset, the ring is emptied and a grant ends (R434). -/
theorem boxesAbandoned_steady (s : State) :
    Steady s (grantEnd (notice 0x0003 0xFF [] (ringEmpty (forEach mailboxReset (natsFrom 0 14) s)))) := by
  have hboxes : Steady s (forEach mailboxReset (natsFrom 0 14) s) :=
    Steady.forEach (fun m hm s => mailboxReset_steady (by have := mem_natsFrom.1 hm; omega) s) s
  exact ((hboxes.trans (ringEmpty_steady _)).trans (Logged.notice _ _ _ _).steady).trans (grantEnd_steady _)

theorem getF_mailAbandon {f : Fld} (hl : f.lo < 32) (h : steadyAddr f.addr) (s : State) : getF f (mailAbandon s) = getF f s :=
  (boxesAbandoned_steady s).regs f hl h

theorem mailAbandon_restarting (s : State) : (mailAbandon s).lj.restarting = s.lj.restarting := (boxesAbandoned_steady s).restarting

end Sys2Proof.Machine
end

section
/-! The Referee's fault and its restart (R433 to R435), clause by clause. -/

namespace Sys2Proof.Machine

/-- The Referee's fault is latched and its restart is owed, with KIND. -/
def refereeMarked (kind restartKind : Nat) (s : State) : State :=
  { setF LJ_REFEREE_KIND kind s with
    lj := { s.lj with lastRefFault := some s.time.us, restarting := true, restartKind := restartKind }
    sb := { s.sb with live := false } }

/-- A fault marks the restart, abandons requests and flash work, lets start-up begin again and starts the restart's timer. -/
theorem refereeFault_eq {s : State} (h : s.boot.power = 2) (kind : Nat) : ∃ k, refereeFault kind s =
    startTimer tmRestart 20000 (timersAgain (startAgain (flashAbandon (mailAbandon (whFlush 0 (refereeMarked kind k s)))))) :=
  ⟨_, if_neg (by omega)⟩

/-- A Referee's fault: no mailbox is served, nothing runs and no OUTPUTS_ON is pending until the restart is complete (R434). -/
theorem refereeFault_abandons {s : State} (k : Fin 3) (hp : s.boot.power = 2) (hs : NotSafe 0x13 s) :
    ∃ t, Runs (.refereeFault k) s t ∧ t.mail.served = false ∧ t.mail.running = [] ∧ t.lj.restarting = true ∧
      getF LJ_REFEREE_KIND t = k.val + 1 ∧ timerOn 14 t = true ∧ t.dev.onAt = none := by
  obtain ⟨restartKind, hfault⟩ := refereeFault_eq hp (k.val + 1)
  generalize hu : refereeMarked (k.val + 1) restartKind s = u at hfault
  generalize hv : flashAbandon (mailAbandon (whFlush 0 u)) = v at hfault
  have hregs (f : Fld) (hl : f.lo < 32) (h1 : 0x3F00F00010 ≤ f.addr) (h2 : f.addr < 0x3F00F01000) : getF f v = getF f u := by
    rw [← hv]
    exact (getF_mailAbandon hl (.inr ⟨h1, h2⟩) _).trans ((whFlush_logged 0 u).steady.regs f hl (.inr ⟨h1, h2⟩))
  have hrestarting : v.lj.restarting = true := by
    rw [← hv]
    refine (mailAbandon_restarting _).trans ((whFlush_logged 0 u).restarting.trans ?_)
    rw [← hu]
    rfl
  have hkept : FaultKept v (refereeFault (k.val + 1) s) := by
    rw [hfault]
    exact ((startAgain_faultKept v).trans (timersAgain_faultKept _)).trans { FaultKept.refl _ with }
  have hsafe : NotSafe 0x13 (refereeFault (k.val + 1) s) := by
    have hpolicy : getF (policyFld 0x13) (refereeFault (k.val + 1) s) = getF (policyFld 0x13) s := by
      rw [hkept.regs _ (by decide) (by decide) (by decide), hregs _ (by decide) (by decide) (by decide), ← hu]
      exact getF_setF_addr (g := LJ_REFEREE_KIND) (by decide) (by decide) (by decide) _ s
    unfold NotSafe
    rwa [hpolicy]
  have hend := (Logged.guaranteeFollow (.inl hsafe)).trans (Logged.whSettle _)
  have hall := hkept.trans hend.steady.faultKept
  refine ⟨_, rfl, ?_, ?_, hall.restarting.trans hrestarting, ?_, ?_, ?_⟩
  · rw [hall.served, ← hv]
    rfl
  · rw [hall.running, ← hv]
    rfl
  · rw [hall.regs _ (by decide) (by decide) (by decide), hregs _ (by decide) (by decide) (by decide), ← hu]
    refine (getF_setF_same LJ_REFEREE_KIND _ s).trans (Nat.mod_eq_of_lt ?_)
    show k.val + 1 < 2 ^ 2
    omega
  · rw [timerOn, hend.timers 14 (by decide), hfault]
    exact timerOn_startTimer 14 20000 _
  · rw [hall.onAt, ← hv]
    rfl

theorem recordsLost_logged (bad : List Nat) (s : State) : Logged s (recordsLost bad s) := by
  have hlost (n : Nat) (u : State) : Logged u (bumpF SB_STATUS_LOST u) :=
    Logged.bumpF (f := SB_STATUS_LOST) (.inl (by unfold noteAddr; decide)) (by decide) (by decide) u
  have hsb (x : Sb) : Logged s { s with sb := x } := { Logged.refl s with }
  exact (hsb _).trans (Logged.forEach (fun n _ u => hlost n u) _)

/-- The Referee is back: mailboxes are served again, unless the boot ROM is still to run. -/
def refereeBack (s : State) : State :=
  let u := stopTimer tmRestart { s with lj := { s.lj with restarting := false } }
  { u with
    sb := { u.sb with live := decide (s.boot.stage ≠ 3 ∧ s.mail.romOnly = false) && !guardPending u }
    mail := { u.mail with served := decide (u.boot.stage ≠ 3) } }

/-- The restart is counted and written down with KIND `k`, and its alarm raised (R434, R435). -/
def restartNoted (k : Nat) (bad : List Nat) (s : State) : State :=
  alarm (if k = 1 then 0x01 else 0x02) 0 false (sbEvent 0x0C08 [(1, k)] (bumpF LJ_REFEREE_RESTARTS (recordsLost bad (refereeBack s))))

/-- What may follow: the alarm of a second fault, a removal's commit, and VERIFY again. -/
def restartEnd (again : Bool) (s : State) : State :=
  let s := if again then alarm 0x16 0 false s else s
  let s := if s.boot.removal then removalCommit s else s
  if s.dev.state = .verify ∧ s.boot.stage = 0 then verifyBegin s else s

theorem restartComplete_eq {s : State} (h : s.lj.restarting = true) (bad : List Nat) :
    restartComplete bad s = restartEnd (decide (4 ≤ s.lj.restartKind)) (restartNoted (s.lj.restartKind % 4) bad s) :=
  if_neg (by simp [h])

/-- After a first fault, outside a removal and VERIFY, nothing follows. -/
theorem restartEnd_idle {s : State} (hr : s.boot.removal = false) (hs : s.dev.state ≠ .verify) : restartEnd false s = s := by
  simp [restartEnd, hr, hs]

/-- A restart after a first mismatch in LIVE: RESTARTS counts it, alarm 0x01 is latched, mailboxes are served and the device state is
kept (R434, R435). -/
theorem refereeRestartComplete_resumes {s : State} (x : BootIn) (hr : s.lj.restarting = true) (hk : s.lj.restartKind = 1)
    (hd : s.dev.state = .live) (hg : s.boot.stage = 0) (hrem : s.boot.removal = false) (hn : getF LJ_REFEREE_RESTARTS s < 100)
    (h1 : NotSafe 0x01 s) (h13 : NotSafe 0x13 s) :
    ∃ t, Runs (.refereeRestartComplete [] x) s t ∧ t.mail.served = true ∧ t.lj.restarting = false ∧ t.dev.state = .live ∧
      getF LJ_REFEREE_RESTARTS t = getF LJ_REFEREE_RESTARTS s + 1 ∧ bitOf (getF LJ_ALARM_LATCH_ALARM t) 0 = true := by
  generalize hu : recordsLost [] (refereeBack s) = u
  have hback : Logged (refereeBack s) u := hu ▸ recordsLost_logged [] _
  have hcount : getF LJ_REFEREE_RESTARTS u = getF LJ_REFEREE_RESTARTS s :=
    hback.steady.regs _ (by decide) (by unfold steadyAddr; decide)
  generalize hv : bumpF LJ_REFEREE_RESTARTS u = v
  have hbump : v = setF LJ_REFEREE_RESTARTS (getF LJ_REFEREE_RESTARTS s + 1) u := by
    rw [← hv, bumpF, hcount, if_pos]
    exact lt_of_lt_of_le (Nat.succ_lt_succ hn) (by decide)
  have hpolicy (c : Nat) (hc : c ≤ 22) : getF (policyFld c) v = getF (policyFld c) s := by
    have haddr := policyFld_addr c
    rw [hbump, getF_setF_addr (g := LJ_REFEREE_RESTARTS) (policyFld_lo hc) (by decide) (by simp only [LJ_REFEREE_RESTARTS]; omega)]
    exact hback.steady.regs _ (policyFld_lo hc) (by simp only [steadyAddr]; omega)
  have hevent : Logged v (sbEvent 0x0C08 [(1, 1)] v) := Logged.sbEvent _ _ _
  have hsafe (c : Nat) (hc : c ≤ 22) {w : State} (h : Logged v w) (hs : NotSafe c s) : NotSafe c w := by
    have haddr := policyFld_addr c
    unfold NotSafe
    rwa [h.steady.regs _ (policyFld_lo hc) (by simp only [steadyAddr]; omega), hpolicy c hc]
  have hnoted : restartNoted 1 [] s = alarm 0x01 0 false (sbEvent 0x0C08 [(1, 1)] v) := by rw [← hv, ← hu]; rfl
  obtain ⟨halarm, hlatch⟩ := Logged.alarm (.inl (hsafe 0x01 (by decide) hevent h1)) 0 false
  rw [← hnoted] at halarm hlatch
  have hz := hevent.trans halarm
  have hboot : (restartNoted 1 [] s).boot = s.boot := by
    rw [hz.boot, hbump]
    exact hback.boot
  have hdev : (restartNoted 1 [] s).dev = s.dev := by
    rw [hz.dev, hbump]
    exact hback.dev
  have hcomplete : bootGo x (restartComplete [] s) = restartNoted 1 [] s := by
    have hidle : restartEnd false (restartNoted 1 [] s) = restartNoted 1 [] s :=
      restartEnd_idle (by rw [hboot, hrem]) (by rw [hdev, hd]; decide)
    rw [restartComplete_eq hr, hk]
    refine (congrArg (bootGo x) hidle).trans ?_
    exact bootRun_stopped (by rw [hboot, hg]) _ _ _
  have hend := (Logged.guaranteeFollow (.inl (hsafe 0x13 (by decide) hz h13))).trans (Logged.whSettle _)
  have hall := hz.trans hend
  refine ⟨_, congrArg finG hcomplete, ?_, ?_, ?_, ?_, ?_⟩
  · rw [hall.served, hbump]
    refine hback.served.trans ?_
    simp [refereeBack, hg]
  · rw [hall.restarting, hbump]
    exact hback.restarting
  · rw [hend.dev, hdev, hd]
  · rw [hall.steady.regs _ (by decide) (by unfold steadyAddr; decide), hbump, getF_setF_same]
    refine Nat.mod_eq_of_lt (lt_of_lt_of_le (Nat.succ_lt_succ hn) ?_)
    decide
  · exact hend.latched 0 (by decide) (hlatch (by decide) (by decide))

end Sys2Proof.Machine
end

section
/-! O18, assembled. -/

namespace Sys2Proof.Machine

/-- Settles O18, clause by clause: the rails and the resets by what the device's reset keeps, the empty boot through the ROM's verdict
on a blank flash, and the Referee's fault and restart by what abandoning and writing down leave alone. -/
theorem powerAndResets : Obligations.PowerAndResets := by
  unfold Obligations.PowerAndResets
  refine ⟨⟨fun _ => allRailsGood_does, fun _ => porNReset_resets, fun _ => pgoodInFall_warns, fun _ => removalReset_resets,
    fun _ _ _ => brownOut_resets, fun _ => deviceResetExpiry_resets, fun _ => vbattLoss_powered, fun _ => vbattLoss_unpowered⟩,
    fun _ _ _ hpow ht hp hm _ => internalResetRelease_holds hpow ht hp hm, fun _ k => refereeFault_abandons k,
    fun _ x hr hk hd hg hrem _ => refereeRestartComplete_resumes x hr hk hd hg hrem⟩

end Sys2Proof.Machine
end

section
/-! SUPPORT. What an asynchronous command's end, a change of DEVICE_STATE and STAGED entry write (R14, R130, R150, R171). -/

namespace Sys2Proof.Machine

/-- The device's own record after a move: the transition, its cause and its instant (R14, R171). -/
def devMoved (d : DevState) (c : Nat) (s : State) : Dev :=
  { s.dev with
    state := d, prev := s.dev.state, cause := c, atTurn := s.clk.turn, atSlot := s.clk.slot
    atFine := s.clk.fine, atTq := getF GC_STATUS_TQ s }

/-- A change of DEVICE_STATE moves that record, and else only notes. -/
theorem setDevState_moves (d : DevState) (c : Nat) (s : State) : Noted { s with dev := devMoved d c s } (setDevState d c s) :=
  ((Noted.sbEvent 0x0110 [(1, c)] _).trans (Noted.notice _ _ _ _)).trans (Noted.faultFollow _)

theorem setDevState_dev (d : DevState) (c : Nat) (s : State) : (setDevState d c s).dev = devMoved d c s := (setDevState_moves d c s).dev

@[simp] theorem setDevState_boot (d : DevState) (c : Nat) (s : State) : (setDevState d c s).boot = s.boot := (setDevState_moves d c s).boot

/-- The registers other than those of notes read as before. -/
theorem getF_setDevState {f : Fld} (hl : f.lo < 32) (hf : ¬ noteAddr f.addr) (d : DevState) (c : Nat) (s : State) :
    getF f (setDevState d c s) = getF f s := (setDevState_moves d c s).regs f hl hf

/-- A timer other than the Scorebook's and vector 8's runs on. -/
theorem timerOn_setDevState {k : Nat} (h : 2 < k) (d : DevState) (c : Nat) (s : State) : timerOn k (setDevState d c s) = timerOn k s := by
  rw [timerOn, (setDevState_moves d c s).timers k (by omega) (by omega), timerOn]

theorem getF_sbEvent_steady {f : Fld} (hl : f.lo < 32) (hf : steadyAddr f.addr) (code : Nat) (vs : List (Nat × Nat)) (s : State) :
    getF f (sbEvent code vs s) = getF f s := (Logged.sbEvent code vs s).steady.regs f hl hf

theorem timerOn_sbEvent {k : Nat} (h : 2 < k) (code : Nat) (vs : List (Nat × Nat)) (s : State) :
    timerOn k (sbEvent code vs s) = timerOn k s := by
  rw [timerOn, (Logged.sbEvent code vs s).timers k h, timerOn]

/-- The end of an asynchronous command changes results in the history, and posts a notice. -/
theorem complete_logged (a : Async) (st detail : Nat) (p : List (BitVec 8)) (s : State) :
    Logged (histEnd a st p s) (complete a st detail p s) := Logged.ringPost _ _ _ _ _

/-- The end of a running command, if one runs: it changes the mailboxes, and else only notes. -/
theorem asyncEnd_logged (op st detail : Nat) (p : List (BitVec 8)) (s : State) :
    ∃ x : Mail, Logged { s with mail := x } (asyncEnd op st detail p s) := by
  unfold asyncEnd
  split
  · exact ⟨s.mail, .refl s⟩
  · next a _ =>
    exact ⟨_, complete_logged a st detail p { s with mail := { s.mail with running := s.mail.running.erase a } }⟩

theorem getF_asyncEnd {f : Fld} (hl : f.lo < 32) (hf : ¬ logAddr f.addr) (op st detail : Nat) (p : List (BitVec 8)) (s : State) :
    getF f (asyncEnd op st detail p s) = getF f s := by
  obtain ⟨_, h⟩ := asyncEnd_logged op st detail p s
  exact h.regs f hl hf

theorem timerOn_asyncEnd {k : Nat} (hk : 2 < k) (op st detail : Nat) (p : List (BitVec 8)) (s : State) :
    timerOn k (asyncEnd op st detail p s) = timerOn k s := by
  obtain ⟨_, h⟩ := asyncEnd_logged op st detail p s
  rw [timerOn, h.timers k hk, timerOn]

/-! Notices to any ring leave the list of enabled ports as it is (R321). -/

/-- No register that a notice to any ring writes is an RP_CTRL. -/
theorem rpKeyPort_log {f : Fld} (hf : logAddr f.addr) (hl : f.lo < 32) : rpKeyPort (fldKey f) = none := by
  rcases hf with hn | hring
  · exact rpKeyPort_note hn hl
  · have ha : fldKey f / 32 = f.addr := by simp only [fldKey]; omega
    unfold rpKeyPort
    rw [ha, if_neg]
    omega

theorem enabledPorts_setLog {f : Fld} (hf : logAddr f.addr) (hl : f.lo < 32) (v : Nat) (s : State) :
    enabledPorts (setF f v s) = enabledPorts s :=
  filterMap_tabSet (fun v => by simp [rpKeyPort_log hf hl]) _ _ _

theorem enabledPorts_ringWriteAny (r code mb : Nat) (arg : List (BitVec 8)) (s : State) :
    enabledPorts (ringWrite r code mb arg s) = enabledPorts s := by
  have hprod : logAddr (NOTICE_PROD_PROD (ringBox r)).addr := .inr (.inl (by simp only [NOTICE_PROD_PROD]; omega))
  have hput (x : Tab (List (BitVec 8))) (v : Nat) :
      enabledPorts (setF (NOTICE_PROD_PROD (ringBox r)) v { s with mail := { s.mail with rings := x } }) = enabledPorts s :=
    enabledPorts_setLog hprod (lo_prod _) v _
  dsimp only [ringWrite]
  split
  · rw [enabledPorts_noticeMsi, hput]
  · exact hput _ _

theorem enabledPorts_ringPostAny (r code mb : Nat) (arg : List (BitVec 8)) (s : State) :
    enabledPorts (ringPost r code mb arg s) = enabledPorts s := by
  have hdrop (v : Nat) (u : State) : enabledPorts (setF (NOTICE_DROP_DROPPED (ringBox r)) v u) = enabledPorts u :=
    enabledPorts_setLog (logAddr_drop _) (lo_drop _) v u
  have hover : enabledPorts (ringOverflow r s) = enabledPorts s := by
    dsimp only [ringOverflow]
    split
    · rw [enabledPorts_ringWriteAny, hdrop]
    · rfl
  rw [← hover]
  dsimp only [ringPost]
  generalize ringOverflow r s = u
  split
  · rw [← enabledPorts_whenS (enabledPorts_sbEvent 0x0115 []) (decide (getF (NOTICE_DROP_DROPPED (ringBox r)) u = 0)) u]
    unfold bumpF
    split
    · exact hdrop _ _
    · rfl
  · exact enabledPorts_ringWriteAny _ _ _ _ _

theorem enabledPorts_asyncEnd (op st detail : Nat) (p : List (BitVec 8)) (s : State) :
    enabledPorts (asyncEnd op st detail p s) = enabledPorts s := by
  unfold asyncEnd
  split
  · rfl
  · exact enabledPorts_ringPostAny _ _ _ _ _

/-! Entry to LIVE and the end of the global hold. -/

theorem conclude_dev (r : Req) (p : Reply) (s : State) : (conclude r p s).dev = s.dev := by
  obtain ⟨st, b, keep⟩ := p
  cases keep with
  | none => exact (respond_sealed r st st b _).dev
  | some x => exact (respond_sealed r st st b _).dev

/-- A held OUTPUTS_ON that ends leaves no other trace in the device's own record. -/
theorem endNext_dev (p : Reply) (s : State) : (endNext p s).dev = { s.dev with onNext := none } := by
  unfold endNext
  split
  · next hnone => rw [← hnone]
  · dsimp only
    split
    · exact conclude_dev _ _ _
    · rfl

/-- With no port enabled, no port follows. -/
theorem portsFollow_none {s : State} (h : enabledPorts s = []) : portsFollow s = s := by
  rw [portsFollow, h]
  rfl

/-- LIVE entry with no port enabled: the device is in LIVE for its cause, and no OUTPUTS_ON of MODE 1 is pending (R172). -/
theorem enterLive_dev {s : State} (h : enabledPorts s = []) (c : Nat) :
    (enterLive c s).dev.state = .live ∧ (enterLive c s).dev.cause = c ∧ (enterLive c s).dev.onAt = none := by
  dsimp only [enterLive]
  generalize hv : (if s.dev.onAt.isSome then _ else s) = v
  obtain ⟨hports, hat⟩ : enabledPorts v = [] ∧ v.dev.onAt = none := by
    rw [← hv]
    split
    · exact ⟨(enabledPorts_asyncEnd _ _ _ _ _).trans h, by rw [asyncEnd_dev]⟩
    · exact ⟨h, Option.not_isSome_iff_eq_none.1 ‹_›⟩
  rw [endNext_dev, portsFollow_none ((enabledPorts_setDevState _ _ _).trans hports), setDevState_dev]
  exact ⟨rfl, rfl, hat⟩

/-- LIVE entry with no port enabled and no OUTPUTS_ON pending is the change of DEVICE_STATE alone. -/
theorem enterLive_unasked {s : State} (h : enabledPorts s = []) (hat : s.dev.onAt = none) (hnext : s.dev.onNext = none) (c : Nat) :
    enterLive c s = setDevState .live c s := by
  have hnone : (setDevState .live c s).dev.onNext = none := by rw [setDevState_dev]; exact hnext
  have hports := portsFollow_none ((enabledPorts_setDevState .live c s).trans h)
  simp [enterLive, hat, hports, endNext, hnone]

/-- The end of the global hold writes ports' states alone (R179, R206). -/
theorem holdEnd_keeps {β : Type} (g : State → β) (h : ∀ r v s, g (setF (FP_STATUS_STATE r) v s) = g s) (s : State) :
    g (holdEnd s) = g { s with fab := { s.fab with hold := false } } := by
  refine forEach_keeps g (fun r _ u => ?_) _
  split
  · exact h r fpReady u
  · rfl

@[simp] theorem holdEnd_dev (s : State) : (holdEnd s).dev = s.dev := holdEnd_keeps State.dev (fun _ _ _ => rfl) s
theorem holdEnd_released (s : State) : (holdEnd s).fab.hold = false := holdEnd_keeps (fun u => u.fab.hold) (fun _ _ _ => rfl) s
@[simp] theorem holdEnd_time (s : State) : (holdEnd s).time = s.time := holdEnd_keeps State.time (fun _ _ _ => rfl) s

end Sys2Proof.Machine
end

section
/-! SUPPORT. What resets of mailboxes and cores leave of the last transition's cause and of the fabric (R132, R153, R391). -/

namespace Sys2Proof.Machine

/-- The cause of the last transition, and the fabric's own state. -/
def causeFab (s : State) : Nat × Fab := (s.dev.cause, s.fab)

theorem Noted.causeFab {s t : State} (h : Noted s t) : causeFab t = causeFab s := by
  rw [Machine.causeFab, h.dev, h.fab, Machine.causeFab]

theorem mailboxReset_causeFab (m : Nat) (s : State) : causeFab (mailboxReset m s) = causeFab s := by
  have hclaims (l : List Nat) (u : State) : causeFab (claimsDrop m l u) = causeFab u := by
    refine forEach_keeps causeFab (fun g _ u => ?_) u
    split <;> rfl
  have hstatus (u : State) : causeFab (statusReset m u) = causeFab u := rfl
  rw [mailboxReset_eq, (Noted.sbEvent _ _ _).causeFab, hstatus, hclaims]
  rfl

theorem whFlush_causeFab (t : Nat) (s : State) : causeFab (whFlush t s) = causeFab s :=
  Noted.causeFab (s := whSetStack t [] s) (Noted.sbEvent _ _ _)

theorem coreReset_causeFab (n : Nat) (s : State) : causeFab (coreReset n s) = causeFab s := by
  dsimp only [coreReset]
  rw [mailboxReset_causeFab, whFlush_causeFab]
  simp only [causeFab, setF_dev, setF_fab, stopTimer_dev, stopTimer_fab]

theorem pmResetAll_causeFab (s : State) : causeFab (pmResetAll s) = causeFab s := by
  have hcores : causeFab (forEach (fun n s => if pmState n s = 0 then s else coreReset n s) (natsFrom 0 4) s) = causeFab s := by
    refine forEach_keeps causeFab (fun n _ u => ?_) s
    split
    · rfl
    · exact coreReset_causeFab n u
  rw [← hcores]
  unfold pmResetAll lsFaultFollow
  split
  · rfl
  · exact (Noted.alarmGone 0x0D _).causeFab

/-- HOLD entry notes its cause and leaves the fabric loaded and held (R132). -/
theorem holdEnter_causeFab (c : Nat) (s : State) : causeFab (holdEnter c s) = (c, s.fab) := by
  refine (pmResetAll_causeFab _).trans ?_
  exact (setDevState_moves .hold c s).causeFab

/-- HOLD entry writes RELEASED alone of start-up's registers and the Line Judge's. -/
theorem getF_holdEnter {f : Fld} (hl : f.lo < 32) (hf : steadyAddr f.addr) (hr : fldKey f ≠ fldKey HUDDLE_STATUS_RELEASED) (c : Nat) (s : State) :
    getF f (holdEnter c s) = getF f s := by
  refine ((pmResetAll_steady _).regs f hl hf).trans ((getF_setF_other 1 (setDevState .hold c s) hr).trans ?_)
  exact getF_setDevState hl (by simp only [steadyAddr] at hf; simp only [noteAddr]; omega) _ _ _

end Sys2Proof.Machine
end

section
/-! The Huddle and the ways to LIVE (R128 to R133, R172), clause by clause. -/

namespace Sys2Proof.Machine

/-- BOOT_STATUS and HUDDLE_STATUS as a start without a lock releases them (R128, R129). -/
def lockMissed (s : State) : State :=
  setF HUDDLE_STATUS_SEEN_HIGH 0 (setF HUDDLE_STATUS_RELEASED 1 (setF BOOT_STATUS_AUTOLIVE_OFF 1 (sbEvent 0x010E []
    (setF BOOT_STATUS_NO_LOCK 1 (stopTimer tmLock { s with boot := { s.boot with stage := 0, huddle := none } })))))

theorem lockMissed_noLock (s : State) : getF BOOT_STATUS_NO_LOCK (lockMissed s) = 1 := by
  rw [lockMissed, getF_setF_other _ _ (by decide), getF_setF_other _ _ (by decide), getF_setF_other _ _ (by decide),
    getF_sbEvent_steady (by decide) (by unfold steadyAddr; decide), getF_setF_same]
  rfl

theorem lockMissed_autoliveOff (s : State) : getF BOOT_STATUS_AUTOLIVE_OFF (lockMissed s) = 1 := by
  rw [lockMissed, getF_setF_other _ _ (by decide), getF_setF_other _ _ (by decide), getF_setF_same]
  rfl

theorem lockMissed_released (s : State) : getF HUDDLE_STATUS_RELEASED (lockMissed s) = 1 := by
  rw [lockMissed, getF_setF_other _ _ (by decide), getF_setF_same]
  rfl

theorem timerOn_lockMissed (s : State) : timerOn 5 (lockMissed s) = false := by
  have hset (f : Fld) (v : Nat) (u : State) : timerOn 5 (setF f v u) = timerOn 5 u := rfl
  rw [lockMissed, hset, hset, hset, timerOn_sbEvent (by decide), hset]
  exact timerOn_stopTimer tmLock _

/-- HUDDLE entry after them: the change of DEVICE_STATE, event 0x0104, HUDDLE_TIMEOUT's timer, and the end of an IMAGE_BOOT. -/
theorem bootHuddle_noLock (s : State) : ∃ vs d, bootHuddle true s =
    asyncEnd 0x0206 stOk 0 [] (startFirm tmHuddle d (sbEvent 0x0104 vs (setDevState .huddle 0 (lockMissed s)))) := by
  unfold bootHuddle lockMissed setB
  simp only [if_true, Bool.or_true, Bool.true_or, natOfBool]
  exact ⟨_, _, rfl⟩

/-- What HUDDLE entry after a missed lock leaves: DEVICE_STATE, the registers of start-up, and the two timers. -/
theorem bootHuddle_noLock_enters (s : State) : (bootHuddle true s).dev.state = .huddle ∧
    (∀ f : Fld, f.lo < 32 → steadyAddr f.addr → getF f (bootHuddle true s) = getF f (lockMissed s)) ∧
    timerOn 6 (bootHuddle true s) = true ∧ timerOn 5 (bootHuddle true s) = false := by
  obtain ⟨vs, d, hboot⟩ := bootHuddle_noLock s
  rw [hboot]
  refine ⟨?_, fun f hl hf => ?_, ?_, ?_⟩
  · rw [asyncEnd_dev, startFirm_dev, (Noted.sbEvent _ _ _).dev, setDevState_state]
  · have hlog : ¬ logAddr f.addr := by simp only [steadyAddr] at hf; simp only [logAddr, noteAddr]; omega
    rw [getF_asyncEnd hl hlog, getF_startFirm, getF_sbEvent_steady hl hf, getF_setDevState hl (fun h => hlog (.inl h))]
  · rw [timerOn_asyncEnd (by decide)]
    simp [timerOn, startFirm, startTimer, tmHuddle, tabFind_tabPut_same]
  · have hfirm (u : State) : timerOn 5 (startFirm tmHuddle d u) = timerOn 5 u := by
      simp [timerOn, startFirm, startTimer, tmHuddle, tabFind_tabPut_other]
    rw [timerOn_asyncEnd (by decide), hfirm, timerOn_sbEvent (by decide), timerOn_setDevState (by decide), timerOn_lockMissed]

/-- The wait for lock expires: the Huddle, with NO_LOCK and auto-live off (R129). -/
theorem lockWaitExpiry_huddles {s : State} (hst : s.boot.stage = 2) (ht : timerOn 5 s = true) :
    ∃ t, Runs .lockWaitExpiry s t ∧ t.dev.state = .huddle ∧ getF BOOT_STATUS_NO_LOCK t = 1 ∧ getF BOOT_STATUS_AUTOLIVE_OFF t = 1 ∧
      getF HUDDLE_STATUS_RELEASED t = 1 ∧ timerOn 6 t = true ∧ timerOn 5 t = false := by
  have hrun : exec .lockWaitExpiry s = fin (bootHuddle true (expire tmLock s)) := congrArg fin (if_pos ⟨hst, ht⟩)
  obtain ⟨hstate, hregs, h6, h5⟩ := bootHuddle_noLock_enters (expire tmLock s)
  refine ⟨_, hrun, ?_, ?_, ?_, ?_, ?_, ?_⟩
  · rw [whSettle_dev, hstate]
  · rw [getF_whSettle, hregs _ (by decide) (by unfold steadyAddr; decide), lockMissed_noLock]
  · rw [getF_whSettle, hregs _ (by decide) (by unfold steadyAddr; decide), lockMissed_autoliveOff]
  · rw [getF_whSettle, hregs _ (by decide) (by unfold steadyAddr; decide), lockMissed_released]
  · rwa [timerOn, whSettle_time]
  · rwa [timerOn, whSettle_time]

/-- STAGED entry from the Huddle is due in HUDDLE alone (R130). -/
theorem huddleDue_huddle {s : State} (h : huddleDue s = true) : s.dev.state = .huddle := by
  simp only [huddleDue, Bool.and_eq_true, decide_eq_true_eq] at h
  exact h.1.1

/-- STAGED entry before the global hold ends: HUDDLE_TIMEOUT is stopped and DEVICE_STATE moves. -/
def huddleLeft (s : State) : State :=
  setDevState .staged 5 { stopTimer tmHuddle { s with boot := { s.boot with huddle := none } } with
    dev := { s.dev with stagedTurns := 0, autoSpent := false } }

theorem huddleEntry_eq (s : State) : huddleEntry s = sbEvent 0x0107 [] (setF HUDDLE_TURN1_TURN_HI (s.clk.turn / 2 ^ 32)
    (setF HUDDLE_TURN0_TURN_LO s.clk.turn (holdEnd (huddleLeft s)))) := by
  have hclk : (huddleLeft s).clk = s.clk := setDevState_clk _ _ _
  rw [← hclk]
  rfl

/-- The Huddle line is high long enough: STAGED, with the turn captured and the fabric released (R130). -/
theorem huddleStagedEntry_stages {s : State} (h : huddleDue s = true) :
    ∃ t, Runs .huddleStagedEntry s t ∧ t.dev.state = .staged ∧ t.dev.prev = .huddle ∧ t.fab.hold = false ∧
      getF HUDDLE_TURN0_TURN_LO t = s.clk.turn % 2 ^ 32 ∧ getF HUDDLE_TURN1_TURN_HI t = s.clk.turn / 2 ^ 32 % 65536 ∧
      timerOn 6 t = false := by
  have hrun : exec .huddleStagedEntry s = fin (huddleEntry s) := congrArg fin (if_pos h)
  have hdev : (huddleEntry s).dev = (huddleLeft s).dev := by
    rw [huddleEntry_eq, (Noted.sbEvent _ _ _).dev, setF_dev, setF_dev, holdEnd_dev]
  refine ⟨_, hrun, ?_, ?_, ?_, ?_, ?_, ?_⟩
  · rw [whSettle_dev, hdev]
    exact setDevState_state _ _ _
  · rw [whSettle_dev, hdev, huddleLeft, setDevState_dev]
    exact huddleDue_huddle h
  · rw [whSettle_fab, huddleEntry_eq, (Noted.sbEvent _ _ _).fab, setF_fab, setF_fab, holdEnd_released]
  · rw [getF_whSettle, huddleEntry_eq, getF_sbEvent_steady (by decide) (by unfold steadyAddr; decide), getF_setF_other _ _ (by decide),
      getF_setF_same, HUDDLE_TURN0_TURN_LO]
  · rw [getF_whSettle, huddleEntry_eq, getF_sbEvent_steady (by decide) (by unfold steadyAddr; decide), getF_setF_same]
    rfl
  · rw [timerOn, whSettle_time, ← timerOn, huddleEntry_eq, timerOn_sbEvent (by decide), timerOn, setF_time, setF_time, holdEnd_time,
      ← timerOn, huddleLeft, timerOn_setDevState (by decide)]
    exact timerOn_stopTimer tmHuddle _

/-- No high sample came: HOLD, with the fabric still held (R132). -/
theorem huddleTimeout_holds {s : State} (hs : s.dev.state = .huddle) (ht : timerOn 6 s = true) (hn : s.boot.huddle = none) :
    ∃ t, Runs .huddleTimeout s t ∧ t.dev.state = .hold ∧ t.dev.cause = 6 ∧ getF HUDDLE_STATUS_TIMEOUT t = 1 ∧
      getF HUDDLE_STATUS_RELEASED t = 1 ∧ t.fab.hold = s.fab.hold := by
  generalize hu : sbEvent 0x0108 [] (setF HUDDLE_STATUS_TIMEOUT 1 (expire tmHuddle s)) = u
  have hrun : exec .huddleTimeout s = fin (holdEnter 6 u) := (congrArg fin (if_pos ⟨hs, ht, hn⟩)).trans (by rw [← hu])
  have hheld := holdEnter_held 6 u
  obtain ⟨hcause, hfab⟩ := Prod.mk.inj (holdEnter_causeFab 6 u)
  refine ⟨_, hrun, ?_, ?_, ?_, ?_, ?_⟩
  · rw [whSettle_dev, hheld.state]
  · rw [whSettle_dev, hcause]
  · rw [getF_whSettle, getF_holdEnter (by decide) (by unfold steadyAddr; decide) (by decide), ← hu,
      getF_sbEvent_steady (by decide) (by unfold steadyAddr; decide), getF_setF_same]
    rfl
  · rw [getF_whSettle, hheld.released]
  · rw [whSettle_fab, hfab, ← hu, (Noted.sbEvent _ _ _).fab]
    rfl

/-- From STAGED on a falling line is counted, and nothing else (R131). -/
theorem huddleLineFall_counts {s : State}
    (h : s.dev.state = .staged ∨ s.dev.state = .live ∨ s.dev.state = .quiesce ∨ s.dev.state = .safe ∨ s.dev.state = .hold) :
    Does .huddleLineFall s (bumpF HUDDLE_STATUS_LOW_EVENTS (setF HUDDLE_STATUS_LINE 0 s)) := by
  refine does_fin rfl (noted_of_eq ?_)
  rcases h with h | h | h | h | h <;> simp [huddleFall, h]

/-- Auto-live where it is turned off is only noted (R133). -/
theorem autoLive_suppressed {s : State} (h : autoDue s = true) (hoff : isSet BOOT_STATUS_AUTOLIVE_OFF s = true) :
    Does .autoLive s { s with dev := { s.dev with autoSpent := true } } := by
  have hstep : autoLive s = sbEvent 0x010A [] { s with dev := { s.dev with autoSpent := true } } :=
    if_neg (fun hall => absurd (hoff.symm.trans hall.2.2) (by decide))
  exact does_fin ((congrArg fin (if_pos h)).trans (congrArg fin hstep)) (Noted.sbEvent _ _ _)

/-- Auto-live leads from STAGED to LIVE (R133). -/
theorem autoLive_enters {s : State} (h : autoDue s = true) (hs : s.dev.state = .staged) (hp : s.dev.prev = .huddle)
    (hports : enabledPorts s = []) (hoff : isSet BOOT_STATUS_AUTOLIVE_OFF s = false) (hat : s.dev.onAt = none) (hnext : s.dev.onNext = none) :
    ∃ t, Runs .autoLive s t ∧ t.dev.state = .live ∧ t.dev.cause = 2 ∧ t.dev.prev = .staged ∧ t.dev.atTurn = s.clk.turn ∧
      t.boot = s.boot := by
  have hstep : autoLive s = enterLive 2 { s with dev := { s.dev with autoSpent := true } } := if_pos ⟨hs, hp, hoff⟩
  rw [enterLive_unasked (s := { s with dev := { s.dev with autoSpent := true } }) hports hat hnext] at hstep
  refine ⟨_, (congrArg fin (if_pos h)).trans (congrArg fin hstep), ?_⟩
  rw [whSettle_dev, whSettle_boot, setDevState_boot, setDevState_dev]
  exact ⟨rfl, rfl, hs, rfl, rfl⟩

/-- A waiting OUTPUTS_ON leads to LIVE at its turn (R14, R172). -/
theorem outputsOnAtTurn_enters {s : State} (h : onAtDue s = true) (hports : enabledPorts s = []) :
    ∃ t, Runs .outputsOnAtTurn s t ∧ t.dev.state = .live ∧ t.dev.cause = 1 ∧ t.dev.onAt = none := by
  refine ⟨_, congrArg fin (if_pos h), ?_⟩
  rw [whSettle_dev]
  exact enterLive_dev hports 1

/-- Settles O20: each clause is the lemma of its row above. -/
theorem huddleAndLive : Obligations.HuddleAndLive := by
  unfold Obligations.HuddleAndLive
  exact ⟨fun _ => lockWaitExpiry_huddles, fun _ => huddleStagedEntry_stages, fun _ => huddleTimeout_holds,
    fun _ => huddleLineFall_counts, fun _ h hs hp hports => ⟨autoLive_suppressed h, autoLive_enters h hs hp hports⟩,
    fun _ => outputsOnAtTurn_enters⟩

end Sys2Proof.Machine
end

section
/-! SUPPORT. What a request that passes its checks carries (R139, R142), and reads of a flash that holds nothing (R354). -/

namespace Sys2Proof.Machine

/-- The issuing mailbox is permitted (step 7 of R142). -/
theorem Asks.permit {sh : Sheet} {m : Nat} {r : Req} {s : State} (h : Asks sh m r s) : sh.permit r (seqPop s) = true := by
  have hfree := h.free
  unfold sheetRefusal at hfree
  by_contra hdenied
  rw [Bool.not_eq_true] at hdenied
  simp [h.args, hdenied] at hfree

/-- A request's payload has the LENGTH of its header (R139, R141). -/
theorem Asks.payload_length {sh : Sheet} {m : Nat} {r : Req} {s : State} (h : Asks sh m r s) (hl : r.len ≤ 4192) :
    r.payload.length = r.len := by
  obtain ⟨k, lost, rfl⟩ := headReq_some h.head
  simp only [reqParse] at hl ⊢
  rw [if_pos hl]
  simp only [List.length_take, List.length_drop, reqBytes, memBytes_length, roundUp]
  omega

theorem Sealed.boot {m : Nat} {s t : State} (h : Sealed m s t) : t.boot = s.boot := by
  obtain ⟨_, _, _, _, _, rfl⟩ := h.rest
  rfl

/-- With no page programmed and no mass erase unfinished, a read gives the array's bytes and changes nothing. -/
theorem flRead_unwritten {s : State} (hp : s.flash.page = []) (hg : guardPending s = false) (a n : Nat) :
    flRead a n flGood s = (⟨flBytes a n s, none⟩, s) := by
  have hdefined (l : List Nat) : l.any (fun p => flPageVague p s) = false :=
    List.any_eq_false.2 fun p _ => by simp [flPageVague, hg, hp, tabGet, tabFind]
  have hpage (b : Nat) : flPage s b = 0 := by simp [flPage, hp, tabGet, tabFind]
  unfold flRead
  simp only [hdefined, hpage, if_true, Bool.false_eq_true, if_false]

/-- The bytes of `n` erased places (R354). -/
def erased (n : Nat) : List (BitVec 8) := List.replicate n 0xFF

@[simp] theorem erased_length (n : Nat) : (erased n).length = n := List.length_replicate

/-- A field of erased bytes reads as ones. -/
theorem fieldAt_erased {off k n : Nat} (h : off + k ≤ n) : fieldAt (erased n) off k = leNat (erased k) := by
  rw [fieldAt, erased, List.drop_replicate, List.take_replicate, Nat.min_eq_left (by omega), erased]

theorem flBytes_erased {s : State} (hm : s.flash.mem = []) (a n : Nat) : flBytes a n s = erased n := by
  refine List.eq_replicate_iff.2 ⟨memBytes_length _ _ _ _, fun b hb => ?_⟩
  exact of_decide_eq_true (List.all_eq_true.1 (flBytes_blank hm a n) b hb)

theorem slotRead_erased {s : State} (hp : s.flash.page = []) (hm : s.flash.mem = []) (hg : guardPending s = false) (a n : Nat) :
    slotRead a n s = ((erased n, true), s) := by
  rw [slotRead, flRead_unwritten hp hg, flBytes_erased hm]
  rfl

/-- A slot of an erased flash is EMPTY (R117). -/
theorem slotHead_erased {s : State} (hp : s.flash.page = []) (hm : s.flash.mem = []) (hg : guardPending s = false) (n : Nat) :
    slotHead n s = ((.empty, erased 256, erased (slotHdrLen n)), s) := by
  have hempty (h : List (BitVec 8)) : commitOf n (erased 256) h = .empty := by
    rw [← flBytes_erased hm 0 256]
    exact if_pos (flBytes_blank hm 0 256)
  simp [slotHead, slotRead_erased hp hm hg, hempty]

/-- Erased bytes are no header of a device image (R119). -/
theorem deviceHdrOk_erased (n : Nat) : deviceHdrOk n (erased 4096) = false := by
  have hmagic : fieldAt (erased 4096) 0 4 ≠ 0x36324654 := by
    rw [fieldAt_erased (by decide)]
    decide
  simp [deviceHdrOk, hmagic]

end Sys2Proof.Machine
end

section
/-! The IMAGE commands (R117, R118, R121, R126, R134, R150), command by command. -/

namespace Sys2Proof.Machine

/-- IMAGE_STATUS answers with registers alone. -/
theorem imageStatus_answers {s : State} {mb : Fin 14} {r : Req} (h : Asks sheetImageStatus mb r s) :
    ∃ p, Oks (.imageStatus mb) mb r p s (seqPop s) ∧ p.length = 24 ∧
      fieldAt p 8 4 = getF IMG_VERSION_VERSION s % 2 ^ 32 ∧ fieldAt p 12 4 = keyStatusWord s % 2 ^ 32 ∧
      fieldAt p 16 4 = getF HUDDLE_TURN0_TURN_LO s % 2 ^ 32 ∧ fieldAt p 20 2 = getF HUDDLE_TURN1_TURN_HI s % 65536 := by
  refine ⟨_, oks_fin rfl h rfl (Noted.refl _) rfl, ?_⟩
  have hkeys : keyStatusWord (seqPop s) = keyStatusWord s := by simp [keyStatusWord]
  simp [hkeys, fieldAt_skip, fieldAt_first]

/-- IMAGE_SLOT_INFO over an erased flash: EMPTY, no SEQ, and the header's bytes as they read (R117). -/
theorem imageSlotInfo_empty {s : State} {mb : Fin 14} {r : Req} (h : Asks sheetImageSlotInfo mb r s) (hp : s.flash.page = [])
    (hm : s.flash.mem = []) (hg : guardPending s = false) :
    arg r 0 1 ≤ 4 ∧ ∃ p, Oks (.imageSlotInfo mb) mb r p s (seqPop s) ∧ p.length = 264 ∧ fieldAt p 0 1 = 1 ∧
      fieldAt p 4 4 = 2 ^ 32 - 1 := by
  have hargs : argsLen 1 (fun r => decide (arg r 0 1 ≤ 4)) r = none := h.args
  have hslot : arg r 0 1 ≤ 4 := of_decide_eq_true (argsLen_none hargs).2
  have hhead := slotHead_erased (s := seqPop s) (by simpa using hp) (by simpa using hm) (by simpa [guardPending] using hg) (arg r 0 1)
  have hrun : sheetImageSlotInfo.run r (seqPop s) = (replyOk (leBytes 1 1 ++ leBytes 3 0 ++
      leBytes 4 (fieldAt (erased 256) 4 4) ++ (erased 4096).take 256), seqPop s) := by
    simp only [sheetImageSlotInfo, plainSheet, hhead, slotHdrLen, if_pos (show arg r 0 1 < 64 by omega), commitCode]
  refine ⟨hslot, _, oks_fin rfl h hrun (Noted.refl _) rfl, ?_, ?_, ?_⟩
  · simp
  · simp [fieldAt_first]
  · have hones : leNat (erased 4) = 2 ^ 32 - 1 := by decide
    rw [fieldAt_erased (by decide), hones]
    simp [fieldAt_skip, fieldAt_first]

/-- IMAGE_WRITE_BEGIN starts the erases (R118). -/
theorem imageWriteBegin_accepts {s : State} {mb : Fin 14} {r : Req} (h : Asks sheetImageWriteBegin mb r s) (hrem : s.boot.removal = false) :
    Accepts (.imageWriteBegin mb) mb r [arg r 0 1, 0, arg r 4 4] [] s
      (beginStart (arg r 0 1) (arg r 4 4) (0x0203 + 65536 * arg r 0 1) (seqPop s)) := by
  have hrun : sheetImageWriteBegin.run r (seqPop s) = (replyAccepted [arg r 0 1, 0, arg r 4 4] [],
      beginStart (arg r 0 1) (arg r 4 4) (0x0203 + 65536 * arg r 0 1) (seqPop s)) := if_neg (by simp [hrem])
  exact accepts_fin rfl h hrun (Noted.refl _)

/-- IMAGE_WRITE_DATA programs an erased page (R118). -/
theorem imageWriteData_programs {s : State} {mb : Fin 14} {r : Req} (h : Asks (sheetImageWriteData none) mb r s)
    (hrem : s.boot.removal = false) (hlen : arg r 8 4 = 256) (hpage : flPage s (slotBase (arg r 0 1) + arg r 4 4) = 0) :
    Oks (.imageWriteData mb none) mb r [] s
      (flProgram (slotBase (arg r 0 1) + arg r 4 4) ((r.payload.drop 12).take 256) (seqPop s)) := by
  have herased : flPage (seqPop s) (slotBase (arg r 0 1) + arg r 4 4) = 0 := by simpa [flPage] using hpage
  have hrun : (sheetImageWriteData none).run r (seqPop s) =
      (replyOk [], flProgram (slotBase (arg r 0 1) + arg r 4 4) ((r.payload.drop 12).take 256) (seqPop s)) := by
    simp [sheetImageWriteData, plainSheet, hrem, hlen, slotPages, herased]
  exact oks_fin rfl h hrun (Noted.refl _) rfl

/-- IMAGE_COMMIT with a SEQ is accepted, and its slot is no longer open (R118, R134; log entry 73). -/
theorem imageCommit_accepts {s : State} {mb : Fin 14} {r : Req} (h : Asks sheetImageCommit mb r s) (hseq : arg r 4 4 ≠ 0) :
    Accepts (.imageCommit mb) mb r [arg r 0 1, arg r 4 4] [] s
      { seqPop s with boot := { s.boot with open_ := tabDel s.boot.open_ (arg r 0 1) } } := by
  have hrun : sheetImageCommit.run r (seqPop s) = (replyAccepted [arg r 0 1, arg r 4 4] [],
      { seqPop s with boot := { s.boot with open_ := tabDel s.boot.open_ (arg r 0 1) } }) := by
    simp [sheetImageCommit, plainSheet, commitSeqFor, hseq]
  exact accepts_fin rfl h hrun (Noted.refl _)

/-- Start-up as IMAGE_BOOT leaves it before it runs on: VERIFY, HUDDLE held, and the named slot the only candidate (R116). -/
def bootNamed (r : Req) (s : State) : State :=
  let u := setDevState .verify 1 (huddleHold s)
  { u with boot := { u.boot with
      candidates := [arg r 0 1], fallback := false, byCommand := true, allowAuto := decide (arg r 1 1 = 1), stage := 4, huddle := none } }

theorem bootNamed_holds (r : Req) (s : State) : getF HUDDLE_STATUS_RELEASED (bootNamed r s) = 0 := by
  refine (getF_setDevState (by decide) (by unfold noteAddr; decide) .verify 1 (huddleHold s)).trans ?_
  rw [huddleHold, getF_setF_other _ _ (by decide), getF_setF_same]
  rfl

/-- IMAGE_BOOT from HOLD is accepted, and start-up runs on from VERIFY (R116, R133). -/
theorem imageBoot_verifies {s : State} {mb : Fin 14} {r : Req} (x : BootIn) (h : Asks sheetImageBoot mb r s) :
    s.dev.state = .hold ∧ arg r 0 1 ≤ 2 ∧ ∃ u, Answered r stAccepted [] true u ∧
      u.boot.candidates = [arg r 0 1] ∧ u.boot.stage = 4 ∧ u.boot.byCommand = true ∧ u.boot.fallback = false ∧ u.dev.state = .verify ∧
      getF HUDDLE_STATUS_RELEASED u = 0 ∧ Runs (.imageBoot mb x) s (whSettle (guaranteeFollow (bootGo x u))) := by
  have hhold : s.dev.state = .hold := by
    have hst : (if (seqPop s).dev.state = .hold then none else some stWrongState) = none := h.state
    rw [seqPop_dev] at hst
    by_contra hne
    rw [if_neg hne] at hst
    cases hst
  have hargs : argsLen 2 (fun r => decide (arg r 0 1 ≤ 2) && decide (arg r 1 1 ≤ 1)) r = none := h.args
  have hslot : arg r 0 1 ≤ 2 := of_decide_eq_true (Bool.and_eq_true_iff.1 (argsLen_none hargs).2).1
  have hrun : sheetImageBoot.run r (seqPop s) = (replyAccepted [arg r 0 1] [], bootNamed r (seqPop s)) := rfl
  obtain ⟨hans, hsealed⟩ := runSheet_accepts h hrun
  refine ⟨hhold, hslot, _, hans, ?_, ?_, ?_, ?_, ?_, ?_, rfl⟩
  · rw [hsealed.boot]; rfl
  · rw [hsealed.boot]; rfl
  · rw [hsealed.boot]; rfl
  · rw [hsealed.boot]; rfl
  · rw [hsealed.dev]
    exact setDevState_state .verify 1 _
  · rw [hsealed.regs _ (by decide) (by simp only [HUDDLE_STATUS_RELEASED, MB_STATUS_BUSY]; omega)
      (by simp only [HUDDLE_STATUS_RELEASED, MB_LAST_SEQ]; omega)]
    exact bootNamed_holds r (seqPop s)

/-- Key commands are permitted to MB8 and MB13 (R121). -/
theorem keyMailbox {m : Nat} (h : (decide (m = 8) || decide (m = 13)) = true) : m = 8 ∨ m = 13 := by
  simpa only [Bool.or_eq_true, decide_eq_true_eq] using h

/-- IMAGE_KEY_LOAD stores the key and answers with its check value (R121). -/
theorem imageKeyLoad_stores {s : State} {mb : Fin 14} {r : Req} (h : Asks sheetImageKeyLoad mb r s) :
    (mb.val = 8 ∨ mb.val = 13) ∧ s.boot.efuseOnly = false ∧ r.payload.length = 32 ∧
      Oks (.imageKeyLoad mb) mb r ((Config.aesBlock r.payload (List.replicate 16 0)).take 3) s
        { seqPop s with boot := { s.boot with vbattKey := some r.payload } } := by
  obtain ⟨hmb, hfuse⟩ := Bool.and_eq_true_iff.1 h.permit
  have hargs : argsLen 32 (fun _ => true) r = none := h.args
  obtain ⟨hlen, -⟩ := argsLen_none hargs
  have hkey : sheetImageKeyLoad.run r (seqPop s) = (replyOk ((Config.aesBlock r.payload (List.replicate 16 0)).take 3),
      sbEvent 0x010B [] { seqPop s with boot := { s.boot with vbattKey := some r.payload } }) := by
    simp only [sheetImageKeyLoad, plainSheet, seqPop_boot]
  refine ⟨h.mb ▸ keyMailbox hmb, by simpa using hfuse, (h.payload_length (by omega)).trans hlen, ?_⟩
  exact oks_fin rfl h hkey (Noted.sbEvent _ _ _) rfl

/-- IMAGE_KEY_CLEAR forgets the key (R121). -/
theorem imageKeyClear_forgets {s : State} {mb : Fin 14} {r : Req} (h : Asks sheetImageKeyClear mb r s) :
    (mb.val = 8 ∨ mb.val = 13) ∧ Oks (.imageKeyClear mb) mb r [] s { seqPop s with boot := { s.boot with vbattKey := none } } := by
  have hkey : sheetImageKeyClear.run r (seqPop s) =
      (replyOk [], sbEvent 0x010B [] { seqPop s with boot := { s.boot with vbattKey := none } }) := by
    simp only [sheetImageKeyClear, plainSheet, seqPop_boot]
  exact ⟨h.mb ▸ keyMailbox h.permit, oks_fin rfl h hkey (Noted.sbEvent _ _ _) rfl⟩

/-- IMAGE_EFUSE_PROGRAM programs what was not programmed, and UNANCHORED follows (R121). -/
theorem imageEfuseProgram_programs {s : State} {mb : Fin 14} {r : Req} (h : Asks (sheetImageEfuseProgram true) mb r s) :
    fuseSet (arg r 0 1) (arg r 1 1) s = false ∧ Oks (.imageEfuseProgram mb true) mb r [] s
      (anchorFollow (fusePut (arg r 0 1) (arg r 1 1) (arg r 4 48) (seqPop s))) := by
  obtain ⟨-, hfree⟩ := Bool.and_eq_true_iff.1 h.permit
  have hset : fuseSet (arg r 0 1) (arg r 1 1) (seqPop s) = fuseSet (arg r 0 1) (arg r 1 1) s := by simp only [fuseSet, seqPop_boot]
  have hrun : (sheetImageEfuseProgram true).run r (seqPop s) =
      (replyOk [], sbEvent 0x010C [] (anchorFollow (fusePut (arg r 0 1) (arg r 1 1) (arg r 4 48) (seqPop s)))) := rfl
  exact ⟨by simpa [hset] using hfree, oks_fin rfl h hrun (Noted.sbEvent _ _ _) rfl⟩

/-- The checks of an IMAGE_COMMIT over an erased flash end in HEADER_BAD, reason 3 (R126). -/
theorem commitRun_erased {s : State} {a : Async} {n q : Nat} (ha : a.args = [n, q]) (hn : n < 3) (hb : jobBusy (0x0205 + 65536 * n) s = false)
    (hp : s.flash.page = []) (hm : s.flash.mem = []) (hg : guardPending s = false) : commitRun a false s = asyncDone a stBadArg 3 s := by
  have hread := slotRead_erased hp hm hg (slotBase n) 4096
  simp [commitRun, ha, listGet, hb, hread, hn, deviceHdrOk_erased, slotCheck, reasonStatus]

/-- An asynchronous command that ends leaves those that run; its stored result is no longer marked as running (R150). -/
theorem asyncDone_ends (a : Async) (st detail : Nat) (s : State) :
    (asyncDone a st detail s).mail.running = s.mail.running.erase a ∧
      ∀ h ∈ (boxOf a.mb s).hist, h.seq = a.seq → h.opcode = a.opcode → h.running = true →
        { h with status := st, payload := [], running := false } ∈ (boxOf a.mb (asyncDone a st detail s)).hist := by
  have hlog := complete_logged a st detail [] { s with mail := { s.mail with running := s.mail.running.erase a } }
  refine ⟨hlog.running, fun h hmem hseq hop hrun => ?_⟩
  have hbox := (hlog.boxKept a.mb).box
  rw [asyncDone, hbox, histEnd, boxOf_boxSet_same]
  exact List.mem_map.2 ⟨h, hmem, if_pos ⟨hseq, hop, hrun⟩⟩

/-- The end of an IMAGE_COMMIT whose slot holds no header: it runs no more, and its result is BAD_ARG (R118, R126, R150). -/
theorem asyncCommandComplete_headerBad {s : State} {mb : Fin 14} {seq : BitVec 16} {x : DebugIn} {stop : Option (BitVec 16)} {a : Async}
    {n q : Nat} (hrun : s.mail.running = [a]) (hmb : a.mb = mb.val) (hseq : a.seq = seq.toNat) (hop : a.opcode = 0x0205)
    (hargs : a.args = [n, q]) (hn : n < 3) (hb : jobBusy (0x0205 + 65536 * n) s = false) (hp : s.flash.page = []) (hm : s.flash.mem = [])
    (hg : guardPending s = false) (hs : NotSafe 0x13 s) :
    ∃ t, Runs (.asyncCommandComplete mb seq false x stop) s t ∧ t.mail.running = [] ∧
      ∀ h ∈ (boxOf mb s).hist, h.seq = a.seq → h.opcode = 0x0205 → h.running = true →
        { h with status := stBadArg, payload := [], running := false } ∈ (boxOf mb t).hist := by
  have hstep : exec (.asyncCommandComplete mb seq false x stop) s = finG (asyncDone a stBadArg 3 s) := by
    refine congrArg finG ?_
    rw [← commitRun_erased hargs hn hb hp hm hg]
    simp [asyncCommand, hrun, hmb, hseq, hop]
  obtain ⟨hend, hhist⟩ := asyncDone_ends a stBadArg 3 s
  have hsafe : NotSafe 0x13 (asyncDone a stBadArg 3 s) := by
    have hlog := complete_logged a stBadArg 3 [] { s with mail := { s.mail with running := s.mail.running.erase a } }
    unfold NotSafe
    rw [asyncDone, hlog.regs _ (by decide) (by simp only [logAddr, noteAddr]; decide)]
    exact hs
  have hlog := (Logged.guaranteeFollow (.inl hsafe)).trans (Logged.whSettle _)
  refine ⟨_, hstep, ?_, fun h hmem hq ho hr => ?_⟩
  · rw [hlog.running, hend, hrun]
    simp
  · rw [(hlog.boxKept mb).box, ← hmb]
    exact hhist h (hmb ▸ hmem) hq (ho.trans hop.symm) hr

/-- Settles O28: each clause is the lemma of its command above. -/
theorem imageCommands : Obligations.ImageCommands := by
  unfold Obligations.ImageCommands
  exact ⟨⟨fun _ _ _ => imageStatus_answers, fun _ _ _ => imageSlotInfo_empty, fun _ _ _ => imageWriteBegin_accepts,
    fun _ _ _ => imageWriteData_programs, fun _ _ _ => imageCommit_accepts, fun _ _ _ x => imageBoot_verifies x,
    fun _ _ _ => imageKeyLoad_stores, fun _ _ _ => imageKeyClear_forgets, fun _ _ _ => imageEfuseProgram_programs⟩,
    fun _ _ _ _ _ _ _ _ => asyncCommandComplete_headerBad⟩

end Sys2Proof.Machine
end

section
/-! DEVICE_INFO, DEVICE_STATUS, ECHO and NOTICE_MASK (R162, R170, R171), command by command. -/

namespace Sys2Proof.Machine

/-- A byte of the block of groups in an answer. -/
theorem fieldAt_byteRow (f : Nat → Nat) (tail : List (BitVec 8)) {lo n g : Nat} (h : g < n) :
    fieldAt (((natsFrom lo n).map (fun k => leBytes 1 (f k))).flatten ++ tail) g 1 = f (lo + g) % 256 := by
  induction n generalizing lo g with
  | zero => omega
  | succ n ih =>
    rw [natsFrom, List.map_cons, List.flatten_cons, List.append_assoc]
    cases g with
    | zero => exact fieldAt_first 1 _ _
    | succ g =>
      rw [fieldAt_skip _ _ _ _ _ (by omega), Nat.add_sub_cancel, ih (by omega), Nat.add_right_comm, Nat.add_assoc]

@[simp] theorem ownerOf_seqPop (g : Nat) (s : State) : ownerOf g (seqPop s) = ownerOf g s := getF_seqPop _ s

theorem devCode_lt (d : DevState) : devCode d < 256 := by
  cases d <;> decide

/-- DEVICE_INFO answers with constants, fuses, IDs and time stamps alone (R170). -/
theorem deviceInfo_answers {s : State} {mb : Fin 14} {r : Req} (h : Asks sheetDeviceInfo mb r s) :
    ∃ p, Oks (.deviceInfo mb) mb r p s (seqPop s) ∧ p.length = 44 ∧
      fieldAt p 0 1 = Config.partCode % 256 ∧ fieldAt p 1 1 = 0x42 ∧ fieldAt p 4 4 = 0x2A2601E3 ∧ fieldAt p 8 4 = s.boot.fw % 2 ^ 32 ∧
      fieldAt p 16 1 = guardLevel s % 256 ∧ fieldAt p 17 1 = getF BOOT_STATUS_FW_SLOT s % 256 ∧
      fieldAt p 20 8 = Config.dieId % 2 ^ 64 ∧ fieldAt p 28 2 = (pcieIds s).1 % 65536 ∧ fieldAt p 30 2 = 0x2600 ∧
      fieldAt p 36 4 = opsec s % 2 ^ 32 ∧ fieldAt p 40 4 = s.sb.pcycle % 2 ^ 32 := by
  have hguard : guardLevel (seqPop s) = guardLevel s := by simp only [guardLevel, seqPop_flash]
  have hids : pcieIds (seqPop s) = pcieIds s := by simp only [pcieIds, seqPop_boot]
  have hsec : opsec (seqPop s) = opsec s := by simp only [opsec, seqPop_sb, seqPop_time]
  refine ⟨_, oks_fin rfl h rfl (Noted.refl _) rfl, ?_⟩
  simp [hguard, hids, hsec, fieldAt_skip, fieldAt_first, fieldAt_leBytes]

/-- DEVICE_STATUS answers with the last transition and the owners of the groups (R154, R171). -/
theorem deviceStatus_answers {s : State} {mb : Fin 14} {r : Req} (h : Asks sheetDeviceStatus mb r s) :
    ∃ p, Oks (.deviceStatus mb) mb r p s (seqPop s) ∧ p.length = 24 ∧
      fieldAt p 0 1 = devCode s.dev.state ∧ fieldAt p 1 1 = devCode s.dev.prev ∧ fieldAt p 2 1 = s.dev.cause % 256 ∧
      fieldAt p 4 6 = s.dev.atTurn % 2 ^ 48 ∧ fieldAt p 10 2 = s.dev.atSlot % 65536 ∧
      ∀ g < 7, fieldAt p (16 + g) 1 = ownerByte g s % 256 := by
  have howner (g : Nat) : ownerByte g (seqPop s) = ownerByte g s := by rw [ownerByte, ownerOf_seqPop, ownerByte]
  refine ⟨_, oks_fin rfl h rfl (Noted.refl _) rfl, ?_, ?_, ?_, ?_, ?_, ?_, fun g hg => ?_⟩
  · simp [natsFrom]
  · simp [fieldAt_first, Nat.mod_eq_of_lt (devCode_lt _)]
  · simp [fieldAt_skip, fieldAt_first, Nat.mod_eq_of_lt (devCode_lt _)]
  · simp [fieldAt_skip, fieldAt_first]
  · simp [fieldAt_skip, fieldAt_first]
  · simp [fieldAt_skip, fieldAt_first]
  · simp only [List.append_assoc]
    iterate 9 rw [fieldAt_skip _ _ _ _ _ (by omega)]
    rw [show 16 + g - 1 - 1 - 1 - 1 - 6 - 2 - 1 - 1 - 2 = g by omega, fieldAt_byteRow _ _ hg, Nat.zero_add, howner]

/-- ECHO returns its payload (R170). -/
theorem echo_returns {s : State} {mb : Fin 14} {r : Req} (h : Asks sheetEcho mb r s) :
    r.len ≤ 3808 ∧ Oks (.echo mb) mb r r.payload s (seqPop s) := by
  have hargs : (if r.len ≤ 3808 then none else some stBadArg) = none := h.args
  refine ⟨?_, oks_fin rfl h rfl (Noted.refl _) rfl⟩
  by_contra hlong
  rw [if_neg hlong] at hargs
  cases hargs

/-- NOTICE_MASK answers with the mask as it stands, the fixed bits set (R160, R162). -/
theorem noticeMask_sets {s : State} {mb : Fin 14} {r : Req} (h : Asks sheetNoticeMask mb r s) :
    ∃ p, Oks (.noticeMask mb) mb r p s (maskPut mb (arg r 0 4) (seqPop s)) ∧ fieldAt p 0 4 = (arg r 0 4 % 512 ||| 0x9B) := by
  have hlt : arg r 0 4 % 512 ||| 0x9B < 2 ^ 9 := Nat.or_lt_two_pow (Nat.mod_lt _ (by decide)) (by decide)
  have hmask : getF (NOTICE_MASK_MASK (ringBox (boxRing r.mb))) (maskPut r.mb (arg r 0 4) (seqPop s)) = (arg r 0 4 % 512 ||| 0x9B) :=
    (getF_setF_same _ _ _).trans (Nat.mod_eq_of_lt hlt)
  refine ⟨_, oks_fin rfl h rfl (noted_of_eq (by rw [h.mb])) rfl, ?_⟩
  rw [fieldAt_leBytes, hmask]
  exact Nat.mod_eq_of_lt (by omega)

/-- Settles O21: each clause is the lemma of its command above. -/
theorem deviceQueries : Obligations.DeviceQueries := by
  unfold Obligations.DeviceQueries
  exact ⟨fun _ _ _ => deviceInfo_answers, fun _ _ _ => deviceStatus_answers, fun _ _ _ => echo_returns, fun _ _ _ => noticeMask_sets⟩

end Sys2Proof.Machine
end

section
/-! SUPPORT. What taking and dropping claims makes of the owners, the leases and the mask of a mailbox's groups (R154 to R157). -/

namespace Sys2Proof.Machine

theorem mem_groupsOf {m g : Nat} : g ∈ groupsOf m ↔ g < 7 ∧ bitOf m g = true := by
  rw [groupsOf, List.mem_filter, mem_natsFrom]
  exact and_congr_left fun _ => by omega

/-- A group is free for mailbox `m`: it has no owner, or `m` is the owner. -/
theorem groupTaken_eq_false {m g : Nat} {s : State} : groupTaken m g s = false ↔ ownerOf g s = 0xF ∨ ownerOf g s = m := by
  rw [groupTaken, Bool.and_eq_false_iff, decide_eq_false_iff_not, decide_eq_false_iff_not, not_not, not_not]

theorem ownerOf_setOwner (g h v : Nat) (s : State) : ownerOf h (setF (ownerFld g) v s) = if h = g then v % 16 else ownerOf h s := by
  split
  · next heq => rw [heq]; exact getF_setF_same _ v s
  · next hne => exact getF_setF_other v s (by simp only [fldKey, ownerFld]; omega)

theorem ownerOf_claimTake {m : Nat} (hm : m < 14) (lease g h : Nat) (s : State) :
    ownerOf h (claimTake m lease g s) = if h = g then m else ownerOf h s := by
  have hset : ownerOf h (setF (ownerFld g) m s) = if h = g then m else ownerOf h s := by
    rw [ownerOf_setOwner, Nat.mod_eq_of_lt (by omega)]
  unfold claimTake
  split <;> exact hset

theorem ownerOf_claimsTake {m : Nat} (hm : m < 14) (lease h : Nat) (l : List Nat) (s : State) :
    ownerOf h (forEach (claimTake m lease) l s) = if h ∈ l then m else ownerOf h s := by
  induction l generalizing s with
  | nil => simp [forEach]
  | cons g l ih =>
    rw [forEach, ih, ownerOf_claimTake hm]
    by_cases hg : h = g <;> simp [hg]

/-- A claimed group's timer runs where the claim has a lease (R155). -/
theorem timerOn_claimTake (m lease g h : Nat) (s : State) :
    timerOn (tmLease h) (claimTake m lease g s) = if h = g then decide (lease ≠ 0) else timerOn (tmLease h) s := by
  have hother : h ≠ g → tmLease h ≠ tmLease g := fun hne he => hne (by simp only [tmLease] at he; omega)
  unfold claimTake
  by_cases hl : lease = 0
  · by_cases hg : h = g
    · simp [hl, hg, timerOn_stopTimer]
    · simpa [hl, hg, timerOn, stopTimer] using congrArg Option.isSome (tabFind_tabDel_other _ (hother hg))
  · by_cases hg : h = g
    · simp [hl, hg, timerOn, startFirm, startTimer, tabFind_tabPut_same]
    · simpa [hl, hg, timerOn, startFirm, startTimer] using congrArg Option.isSome (tabFind_tabPut_other _ _ (hother hg))

theorem timerOn_claimsTake (m lease h : Nat) (l : List Nat) (s : State) :
    timerOn (tmLease h) (forEach (claimTake m lease) l s) = if h ∈ l then decide (lease ≠ 0) else timerOn (tmLease h) s := by
  induction l generalizing s with
  | nil => simp [forEach]
  | cons g l ih =>
    rw [forEach, ih, timerOn_claimTake]
    by_cases hg : h = g <;> simp [hg]

theorem ownerOf_claimDrops (h : Nat) (l : List Nat) (s : State) :
    ownerOf h (forEach claimDrop l s) = if h ∈ l then 0xF else ownerOf h s := by
  induction l generalizing s with
  | nil => simp [forEach]
  | cons g l ih =>
    rw [forEach, ih, ownerOf_claimDrop]
    by_cases hg : h = g <;> simp [hg]

/-- Dropping claims starts no timer. -/
theorem timerOn_claimDrops {k : Nat} {s : State} (h : timerOn k s = false) (l : List Nat) :
    timerOn k (forEach claimDrop l s) = false := by
  induction l generalizing s with
  | nil => exact h
  | cons g l ih =>
    refine ih ?_
    by_cases hk : k = tmLease g
    · rw [hk]
      exact timerOn_stopTimer _ _
    · have hfind : tabFind (claimDrop g s).time.deadlines k = tabFind s.time.deadlines k := tabFind_tabDel_other _ hk
      rwa [timerOn, hfind]

/-- A forced claim of groups that nobody else holds takes them from nobody. -/
theorem claimForced_free {m : Nat} {gs : List Nat} {s : State} (h : ∀ g ∈ gs, groupTaken m g s = false) : claimForced m gs s = s := by
  refine forEach_keeps (fun u => u) (fun k hk u => if_pos ?_) s
  have hk14 : k < 14 := by have := mem_natsFrom.1 hk; omega
  by_cases hm : k = m
  · exact .inl hm
  · refine .inr (List.filter_eq_nil_iff.2 fun g hg => ?_)
    have := groupTaken_eq_false.1 (h g hg)
    rw [decide_eq_true_eq]
    omega

/-- A mask built from a list of numbered things has the bits of those that satisfy `p`. -/
theorem testBit_foldlMask (p : Nat → Prop) [DecidablePred p] (l : List Nat) (n i : Nat) :
    (l.foldl (fun n g => if p g then n ||| 2 ^ g else n) n).testBit i = (n.testBit i || decide (i ∈ l ∧ p i)) := by
  induction l generalizing n with
  | nil => simp
  | cons g l ih =>
    rw [List.foldl_cons, ih]
    by_cases hi : i = g
    · subst hi
      by_cases hp : p i <;> simp [hp]
    · by_cases hp : p g
      · simp [hp, hi, Nat.testBit_two_pow_of_ne (Ne.symm hi)]
      · simp [hp, hi]

/-- The byte of an answer that names the groups a mailbox holds. -/
theorem bitOf_groupsHeld {m g : Nat} (hg : g < 7) (s : State) :
    bitOf (fieldAt (leBytes 1 (groupsHeld m s)) 0 1) g = decide (ownerOf g s = m) := by
  rw [fieldAt_leBytes, bitOf_eq_testBit, show 256 ^ 1 = 2 ^ 8 by rfl, Nat.testBit_mod_two_pow, groupsHeld,
    testBit_foldlMask (fun g => ownerOf g s = m)]
  simp [mem_natsFrom, hg, show g < 8 by omega]

/-- An answer leaves the claims alone. -/
theorem Sealed.ownerOf {m g : Nat} {s t : State} (h : Sealed m s t) (hm : m < 14) (hg : g < 7) :
    Machine.ownerOf g t = Machine.ownerOf g s := by
  refine h.regs _ (ownerFld_lo hg) ?_ ?_
  · simp only [ownerFld, CLAIM_OWNER_OWNER0, MB_STATUS_BUSY]; omega
  · simp only [ownerFld, CLAIM_OWNER_OWNER0, MB_LAST_SEQ]; omega

theorem Logged.ownerOf {g : Nat} {s t : State} (h : Logged s t) (hg : g < 7) : Machine.ownerOf g t = Machine.ownerOf g s :=
  h.regs _ (ownerFld_lo hg) (by simp only [ownerFld, CLAIM_OWNER_OWNER0, logAddr, noteAddr]; decide)

/-- Telling a mailbox of a lost claim writes down no more than that (R157). -/
theorem Logged.claimLost (m groups by_ : Nat) (s : State) : Logged s (claimLost m groups by_ s) :=
  (Logged.ringPost _ _ _ _ s).trans (Logged.sbEvent _ _ _)

theorem seqPop_grantor (s : State) : (seqPop s).mail.grantor = s.mail.grantor := by
  obtain ⟨q, h⟩ := seqPop_shape s
  rw [h]

/-- The end of the BAR2 grant clears its registers; the rest of it is notes, where the granting mailbox is one of the fourteen (R165). -/
theorem grantEnd_noted {s : State} (h : grantHeld s = true) (hg : s.mail.grantor < 14) : Noted (grantCleared s) (grantEnd s) := by
  have hpost : Noted (grantCleared s) (ringPost 1 0x0007 0xFF [] (ringPost 0 0x0007 0xFF [] (sbEvent 0x0112 [] (grantCleared s)))) :=
    ((Noted.sbEvent _ _ _).trans (Noted.ringPost (by decide) _ _ _ _)).trans (Noted.ringPost (by decide) _ _ _ _)
  rw [grantEnd, if_pos h]
  dsimp only
  split
  · exact hpost
  · exact hpost.trans (Noted.ringPost (boxRing_lt hg) _ _ _ _)

end Sys2Proof.Machine
end

section
/-! Claims and the BAR2 grant (R154 to R157, R163, R165), command by command. -/

namespace Sys2Proof.Machine

/-- CLAIM of groups that nobody else holds takes them, whatever FLAGS.FORCE says (R155). -/
theorem claim_takes {s : State} {mb : Fin 14} {r : Req} (h : Asks sheetClaim mb r s)
    (hfree : ∀ g < 7, bitOf (arg r 0 1) g = true → groupTaken mb g s = false) :
    ∃ p t, Runs (.claim mb) s t ∧ Answered r stOk p false t ∧ ∀ g < 7,
      (bitOf (arg r 0 1) g = true → ownerOf g t = mb ∧ (timerOn (0x2000 + g) t = decide (arg r 2 2 ≠ 0)) ∧ bitOf (fieldAt p 0 1) g = true) ∧
      (bitOf (arg r 0 1) g = false → ownerOf g t = ownerOf g s) := by
  have hnone : ∀ g ∈ groupsOf (arg r 0 1), groupTaken mb g (seqPop s) = false := fun g hg => by
    obtain ⟨hlt, hbit⟩ := mem_groupsOf.1 hg
    rw [groupTaken, ownerOf_seqPop]
    exact hfree g hlt hbit
  have hany : ((groupsOf (arg r 0 1)).any fun g => groupTaken mb g (seqPop s)) = false := by simpa using hnone
  have hrun : sheetClaim.run r (seqPop s) =
      (replyOk (leBytes 1 (groupsHeld mb (forEach (claimTake mb (arg r 2 2)) (groupsOf (arg r 0 1)) (seqPop s)))),
        forEach (claimTake mb (arg r 2 2)) (groupsOf (arg r 0 1)) (seqPop s)) := by
    simp only [sheetClaim, plainSheet, hany, Bool.false_eq_true, and_false, if_false, claimForced_free hnone, h.mb]
  obtain ⟨t, hruns, hans, hsealed⟩ := runs_answered (i := .claim mb) rfl h hrun
  refine ⟨_, t, hruns, hans, fun g hg => ⟨fun hbit => ⟨?_, ?_, ?_⟩, fun hbit => ?_⟩⟩
  · rw [hsealed.ownerOf mb.isLt hg, ownerOf_claimsTake mb.isLt, if_pos (mem_groupsOf.2 ⟨hg, hbit⟩)]
  · rw [timerOn, hsealed.time]
    exact (timerOn_claimsTake _ _ g _ _).trans (if_pos (mem_groupsOf.2 ⟨hg, hbit⟩))
  · rw [bitOf_groupsHeld hg, ownerOf_claimsTake mb.isLt, if_pos (mem_groupsOf.2 ⟨hg, hbit⟩)]
    exact decide_eq_true rfl
  · rw [hsealed.ownerOf mb.isLt hg, ownerOf_claimsTake mb.isLt, if_neg (by simp [mem_groupsOf, hbit]), ownerOf_seqPop]

/-- CLAIM without FLAGS.FORCE of a group that another mailbox holds is answered OWNED (R155, R156). -/
theorem claim_owned {s : State} {mb : Fin 14} {r : Req} {g : Nat} (h : Asks sheetClaim mb r s) (hforce : arg r 1 1 = 0) (hg : g < 7)
    (hbit : bitOf (arg r 0 1) g = true) (htaken : groupTaken mb g s = true) :
    Replies (.claim mb) mb r stOwned (ownedPayload mb (groupsOf (arg r 0 1)) s) s (seqPop s) := by
  have htakes (k : Nat) : groupTaken mb k (seqPop s) = groupTaken mb k s := by rw [groupTaken, ownerOf_seqPop, groupTaken]
  have howned : ownedPayload mb (groupsOf (arg r 0 1)) (seqPop s) = ownedPayload mb (groupsOf (arg r 0 1)) s := by
    simp only [ownedPayload, htakes, ownerOf_seqPop]
  have hany : ((groupsOf (arg r 0 1)).any fun k => groupTaken mb k (seqPop s)) = true :=
    List.any_eq_true.2 ⟨g, mem_groupsOf.2 ⟨hg, hbit⟩, (htakes g).trans htaken⟩
  have hrun : sheetClaim.run r (seqPop s) = (⟨stOwned, ownedPayload mb (groupsOf (arg r 0 1)) s, none⟩, seqPop s) := by
    simp only [sheetClaim, plainSheet, hforce, h.mb, hany, and_self, if_true, howned]
  exact replies_fin rfl h hrun (by decide) (Noted.refl _)

/-- RELEASE frees the mailbox's own groups of the mask and no other (R157). -/
theorem release_frees {s : State} {mb : Fin 14} {r : Req} (h : Asks sheetRelease mb r s) :
    ∃ p t, Runs (.release mb) s t ∧ Answered r stOk p false t ∧ ∀ g < 7,
      ownerOf g t = if bitOf (arg r 0 1) g = true ∧ ownerOf g s = mb then 0xF else ownerOf g s := by
  have hrun : sheetRelease.run r (seqPop s) =
      (replyOk (leBytes 1 (groupsHeld r.mb (claimsDrop r.mb (groupsOf (arg r 0 1)) (seqPop s)))),
        claimsDrop r.mb (groupsOf (arg r 0 1)) (seqPop s)) := rfl
  obtain ⟨t, hruns, hans, hsealed⟩ := runs_answered (i := .release mb) rfl h hrun
  refine ⟨_, t, hruns, hans, fun g hg => ?_⟩
  rw [hsealed.ownerOf mb.isLt hg, h.mb, ownerOf_claimsDrop (by omega), ownerOf_seqPop]
  simp only [mem_groupsOf, hg, true_and]

/-- A lease that ends frees its group, and no group of another owner (R157; log entry 72). -/
theorem claimLeaseExpiry_frees {s : State} {g : Fin 7} {m : Nat} (ht : timerOn (0x2000 + g.val) s = true) (ho : ownerOf g s = m)
    (hn : s.dev.onNext ≠ some m) : ∃ t, Runs (.claimLeaseExpiry g) s t ∧ ownerOf g t = 0xF ∧ timerOn (0x2000 + g.val) t = false ∧
      ∀ h < 7, ownerOf h s ≠ m → ownerOf h t = ownerOf h s := by
  have hend : leaseEnd g s = claimLost m (groupMask (leaseMates g s)) 0xFF (forEach claimDrop (leaseMates g s) (expire (tmLease g) s)) := by
    have hdue : (timerOn (tmLease g) s && decide (s.dev.onNext ≠ some (ownerOf g s))) = true := by
      rw [ho, Bool.and_eq_true]
      exact ⟨ht, decide_eq_true hn⟩
    rw [leaseEnd, if_pos hdue, ho]
  have hmate : g.val ∈ leaseMates g s := by
    have hon : timerOn (tmLease g) s = true := ht
    simp [leaseMates, mem_natsFrom, hon]
  have hlog := (Logged.claimLost m (groupMask (leaseMates g s)) 0xFF (forEach claimDrop (leaseMates g s) (expire (tmLease g) s))).trans
    (Logged.whSettle _)
  refine ⟨_, congrArg fin hend, ?_, ?_, fun k hk hother => ?_⟩
  · rw [hlog.ownerOf g.isLt, ownerOf_claimDrops, if_pos hmate]
  · rw [timerOn, hlog.timers _ (by omega)]
    exact timerOn_claimDrops (timerOn_expire (tmLease g) s) _
  · have hnot : k ∉ leaseMates g s := by simp [leaseMates, ho, hother]
    rw [hlog.ownerOf hk, ownerOf_claimDrops, if_neg hnot]
    exact getF_expire _ _ s

/-- EXPERT_GRANT, from MB8 and MB13 alone, gives the grant (R163). -/
theorem expertGrant_grants {s : State} {mb : Fin 14} {r : Req} (h : Asks sheetExpertGrant mb r s) :
    (mb.val = 8 ∨ mb.val = 13) ∧ Oks (.expertGrant mb) mb r [] s
      { setF (MB_EXPERT_SCOPE 0) (arg r 1 1) (setF (MB_EXPERT_WRITE 0) (arg r 0 1 - 1) (setF (MB_EXPERT_GRANTED 0) 1 (seqPop s)))
        with mail := { (seqPop s).mail with grantor := mb } } := by
  refine ⟨h.mb ▸ keyMailbox h.permit, oks_fin rfl h rfl ?_ rfl⟩
  rw [h.mb]
  exact Noted.sbEvent _ _ _

/-- EXPERT_REVOKE ends the grant that is held (R165). -/
theorem expertRevoke_revokes {s : State} {mb : Fin 14} {r : Req} (h : Asks sheetExpertRevoke mb r s) (hheld : grantHeld s = true)
    (hg : s.mail.grantor < 14) : Oks (.expertRevoke mb) mb r [] s
      (setF (MB_EXPERT_SCOPE 0) 0 (setF (MB_EXPERT_WRITE 0) 0 (setF (MB_EXPERT_GRANTED 0) 0 (seqPop s)))) :=
  oks_fin rfl h rfl (grantEnd_noted (by simpa [grantHeld, isSet] using hheld) (by rwa [seqPop_grantor])) rfl

/-- EXPERT_REVOKE without a grant only answers. -/
theorem expertRevoke_none {s : State} {mb : Fin 14} {r : Req} (h : Asks sheetExpertRevoke mb r s) (hheld : grantHeld s = false) :
    Oks (.expertRevoke mb) mb r [] s (seqPop s) :=
  oks_fin rfl h rfl (noted_of_eq (grantEnd_none (by simpa [grantHeld, isSet] using hheld))) rfl

/-- Settles O23: each clause is the lemma of its command above. -/
theorem claimsAndGrant : Obligations.ClaimsAndGrant := by
  unfold Obligations.ClaimsAndGrant
  exact ⟨fun _ _ _ => claim_takes, fun _ _ _ _ => claim_owned, fun _ _ _ => release_frees,
    fun _ _ _ ht ho _ => claimLeaseExpiry_frees ht ho, fun _ _ _ => expertGrant_grants,
    fun _ _ _ h => ⟨expertRevoke_revokes h, expertRevoke_none h⟩⟩

end Sys2Proof.Machine
end

section
/-! Requests that no sheet serves (R141, R142, R149 to R151), check by check. -/

namespace Sys2Proof.Machine

/-! The first checks of R142, in their order. -/

theorem gateOf_long {r : Req} (s : State) (h : 4192 < r.len) : gateOf r s = .answer stBadArg stBadArg [] := if_pos h

theorem gateOf_badCrc {r : Req} (s : State) (hl : r.len ≤ 4192) (hc : r.crcOk = false) : gateOf r s = .answer stBadCrc stBadCrc [] := by
  rw [gateOf, if_neg (by omega), hc]
  rfl

theorem gateOf_known {r : Req} {s : State} {h : Hist} (hl : r.len ≤ 4192) (hc : r.crcOk = true) (hh : histFind r s = some h) :
    gateOf r s = if h.opcode = r.opcode ∧ h.crc = r.crc then
      .answer stDuplicate (if h.running then stAccepted else h.status) (if h.running then [] else h.payload)
    else .answer stBadArg stBadArg [] := by
  rw [gateOf, if_neg (by omega), hc, if_neg (by decide), hh]

theorem gateOf_new {r : Req} {s : State} (hl : r.len ≤ 4192) (hc : r.crcOk = true) (hh : histFind r s = none) :
    gateOf r s = if r.zeroOk then .pass else .refuse stBadArg := by
  rw [gateOf, if_neg (by omega), hc, if_neg (by decide), hh]

/-- A request with the number of a stored one is that one again, ended or running, or its number is used twice (R150). -/
theorem gateOf_repeats {r : Req} {s : State} {h : Hist} (hl : r.len ≤ 4192) (hc : r.crcOk = true) (hh : histFind r s = some h) :
    (h.opcode = r.opcode → h.crc = r.crc → h.running = false → gateOf r s = .answer stDuplicate h.status h.payload) ∧
    (h.opcode = r.opcode → h.crc = r.crc → h.running = true → gateOf r s = .answer stDuplicate stAccepted []) ∧
    (h.opcode ≠ r.opcode ∨ h.crc ≠ r.crc → gateOf r s = .answer stBadArg stBadArg []) := by
  rw [gateOf_known hl hc hh]
  refine ⟨fun ho hcrc hrun => ?_, fun ho hcrc hrun => ?_, fun hne => if_neg (not_and_or.2 hne)⟩
  · rw [if_pos ⟨ho, hcrc⟩, hrun]
    rfl
  · rw [if_pos ⟨ho, hcrc⟩, hrun]
    rfl

/-- A request that is refused is answered, and the refusal is stored (R150). -/
theorem replies_refused {s : State} {mb : Fin 14} {r : Req} {st : Nat} (hmb : r.mb = mb.val) (hst : st < 65536) (hseq : r.seq < 65536)
    (hrun : requestRefused mb s = conclude r (replySt st) (seqPop s)) : Replies (.requestRefused mb) mb r st [] s (seqPop s) :=
  ⟨_, congrArg fin hrun, (remember_answered r st [] false (seqPop s) hseq hst).whSettle,
    told_fin (Noted.refl _) (hmb ▸ conclude_sealed r st [] (seqPop s))⟩

section
variable {s : State} {mb : Fin 14} {r : Req} (hhead : headReq s = some r) (hmb : r.mb = mb.val)
include hhead hmb

/-- The request at the front of the sequencer is answered without being stored (R151). -/
theorem requestRefused_answers {st o : Nat} {p : List (BitVec 8)} (hg : gateOf r s = .answer st o p) (hst : st < 65536) :
    ∃ t, Runs (.requestRefused mb) s t ∧ Told mb (seqPop s) t ∧ (boxOf mb t).rsp = rspBytes r st o p t ∧
      (boxOf mb t).hist = (boxOf mb s).hist ∧ getF (MB_STATUS_BUSY mb) t = 0 ∧ getF (MB_STATUS_RSP_READY mb) t = 1 := by
  have hrun : exec (.requestRefused mb) s = fin (respond r st o p (seqPop s)) := by
    refine congrArg fin ?_
    simp only [requestRefused, hhead, hmb, ne_eq, not_true_eq_false, if_false, hg]
  have hseq : r.seq < 65536 := by
    obtain ⟨k, lost, rfl⟩ := headReq_some hhead
    exact fieldAt_lt _ 2 2
  obtain ⟨hbox, hbusy, hready, -, -⟩ := respond_reads r st o p (seqPop s) hseq hst
  have hsealed := respond_sealed r st o p (seqPop s)
  rw [hmb] at hbox hbusy hready hsealed
  refine ⟨_, hrun, told_fin (Noted.refl _) hsealed, ?_, ?_, (getF_whSettle _ _).trans hbusy, (getF_whSettle _ _).trans hready⟩
  · rw [boxOf_whSettle, hbox]
    exact (rspBytes_congr r st o p ((whSettle_dev _).trans hsealed.dev)).symm
  · rw [boxOf_whSettle, hbox, boxOf_seqPop]

/-- The last checks before a sheet: bytes that must be zero, an opcode that no sheet has, and the boot ROM's few commands (R142, R149). -/
theorem requestRefused_refuses (hl : r.len ≤ 4192) (hc : r.crcOk = true) (hh : histFind r s = none) (hseq : r.seq < 65536) :
    (r.zeroOk = false → Replies (.requestRefused mb) mb r stBadArg [] s (seqPop s)) ∧
    (r.zeroOk = true → s.mail.romOnly = false → opcodes.contains r.opcode = false →
      Replies (.requestRefused mb) mb r stBadOpcode [] s (seqPop s)) ∧
    (r.zeroOk = true → s.mail.romOnly = true → romServes r = false → Replies (.requestRefused mb) mb r stWrongState [] s (seqPop s)) := by
  have hgate := gateOf_new hl hc hh
  refine ⟨fun hz => ?_, fun hz hrom hop => ?_, fun hz hrom hserve => ?_⟩
  · refine replies_refused hmb (by decide) hseq ?_
    simp [requestRefused, hhead, hmb, hgate, hz]
  · refine replies_refused hmb (by decide) hseq ?_
    simp only [requestRefused, hhead, hmb, hgate, hz, hrom, hop, ne_eq, not_true_eq_false, Bool.false_and, Bool.false_eq_true, if_false, if_true]
  · refine replies_refused hmb (by decide) hseq ?_
    simp [requestRefused, hhead, hmb, hgate, hz, hrom, hserve]

end

end Sys2Proof.Machine
end

section
/-! Doorbells (R143 to R146), case by case. -/

namespace Sys2Proof.Machine

/-! The order of R144 for one mailbox and for two. -/

theorem rung_one (m : Fin 14) : ringOrder.filter (fun k => [m.val].contains k) = [m.val] := by
  revert m
  decide

theorem rung_two {m n : Fin 14} (h : m ≠ n) : ringOrder.filter (fun k => [n.val, m.val].contains k) = [m.val, n.val] ∨
    ringOrder.filter (fun k => [n.val, m.val].contains k) = [n.val, m.val] := by
  revert m n
  decide

theorem rung_management {n : Fin 14} (h : n.val ≠ 8) : ringOrder.filter (fun k => [n.val, 8].contains k) = [8, n.val] := by
  revert n
  decide

theorem ringOne_mail (m : Nat) (s : State) : (ringOne m s).mail = s.mail := by
  unfold ringOne
  split <;> rfl

theorem ringOne_free {m : Nat} {s : State} (h : getF (MB_STATUS_BUSY m) s = 0) :
    ringOne m s = setF (MB_STATUS_RSP_READY m) 0 (setF (MB_STATUS_BUSY m) 1 s) := if_neg (by simp [isSet, h])

theorem busy_ringOne_same {m : Nat} {s : State} (h : getF (MB_STATUS_BUSY m) s = 0) : getF (MB_STATUS_BUSY m) (ringOne m s) = 1 := by
  rw [ringOne_free h, getF_setF_other, getF_setF_same]
  · rfl
  · simp only [fldKey, MB_STATUS_BUSY, MB_STATUS_RSP_READY]; omega

theorem busy_ringOne_other {m k : Nat} (h : k ≠ m) (s : State) :
    getF (MB_STATUS_BUSY k) (ringOne m s) = getF (MB_STATUS_BUSY k) s := by
  unfold ringOne
  split
  · exact getF_setF_other _ _ (by simp only [fldKey, MB_STATUS_BUSY, MB_STATUS_DB_REJECT]; omega)
  · rw [getF_setF_other _ _ (by simp only [fldKey, MB_STATUS_BUSY, MB_STATUS_RSP_READY]; omega),
      getF_setF_other _ _ (by simp only [fldKey, MB_STATUS_BUSY]; omega)]

/-- Two mailboxes that ring, one after the other, are both busy. -/
theorem busy_ringTwo {m n : Nat} {s : State} (h : m ≠ n) (hm : getF (MB_STATUS_BUSY m) s = 0) (hn : getF (MB_STATUS_BUSY n) s = 0) :
    getF (MB_STATUS_BUSY m) (forEach ringOne [m, n] s) = 1 ∧ getF (MB_STATUS_BUSY n) (forEach ringOne [m, n] s) = 1 :=
  ⟨(busy_ringOne_other h _).trans (busy_ringOne_same hm), busy_ringOne_same ((busy_ringOne_other h.symm s).trans hn)⟩

/-- An OUTPUTS_OFF or a QUIESCE is among the requests that ring (R146). -/
def offAmong (l : List Nat) (s : State) : Bool := l.any (fun m => decide (ringOpcode m s = 0x0104) || decide (ringOpcode m s = 0x0105))

/-- What a request leaves in the sequencer when it rings together with those of `l`. -/
def rungSeq (l : List Nat) (s : State) (m : Nat) : Seq := ⟨m, offAmong l s && decide (ringOpcode m s = 0x0103)⟩

/-- Of the mailboxes `l` that ring, those of `free` are not busy and join the sequencer, SAFETY class first (R143 to R146). -/
theorem ringAll_eq {ms l free : List Nat} {s : State} (hl : ringOrder.filter (fun k => ms.contains k) = l)
    (hfree : l.filter (fun k => !isSet (MB_STATUS_BUSY k) s) = free) : ringAll ms s = { forEach ringOne l s with mail := { s.mail with
      queue := s.mail.queue ++ (free.filter (fun k => safetyClass (ringOpcode k s)) ++
        free.filter (fun k => !safetyClass (ringOpcode k s))).map (rungSeq free s) } } := by
  have hmail : (forEach ringOne l s).mail = s.mail := forEach_keeps State.mail (fun k _ u => ringOne_mail k u) s
  simp only [ringAll, hl, hfree, hmail]
  rfl

/-- None of the mailboxes of a list is busy. -/
theorem filter_free {l : List Nat} {s : State} (h : ∀ k ∈ l, getF (MB_STATUS_BUSY k) s = 0) :
    l.filter (fun k => !isSet (MB_STATUS_BUSY k) s) = l :=
  List.filter_eq_self.2 fun k hk => by simp [isSet, h k hk]

/-- A ring alone, of a mailbox that is not busy (R143). -/
theorem doorbell_joins {s : State} {m : Fin 14} (h : getF (MB_STATUS_BUSY m) s = 0) : Does (.mbDoorbellRing [m]) s
    { setF (MB_STATUS_RSP_READY m) 0 (setF (MB_STATUS_BUSY m) 1 s) with mail := { s.mail with queue := s.mail.queue ++ [⟨m.val, false⟩] } } := by
  have horder : [m.val].filter (fun k => safetyClass (ringOpcode k s)) ++ [m.val].filter (fun k => !safetyClass (ringOpcode k s)) = [m.val] := by
    cases hc : safetyClass (ringOpcode m s) <;> simp [hc]
  have hkept : rungSeq [m.val] s m = ⟨m.val, false⟩ := by
    by_cases hop : ringOpcode m s = 0x0103 <;> simp [rungSeq, offAmong, hop]
  refine does_fin rfl (noted_of_eq ((ringAll_eq (rung_one m) (filter_free (by simpa using h))).trans ?_))
  rw [horder, List.map_singleton, hkept, forEach, forEach, ringOne_free h]

/-- A ring at a busy mailbox only sets DB_REJECT (R143). -/
theorem doorbell_rejected {s : State} {m : Fin 14} (h : getF (MB_STATUS_BUSY m) s = 1) :
    Does (.mbDoorbellRing [m]) s (setF (MB_STATUS_DB_REJECT m) 1 s) := by
  have hbusy : isSet (MB_STATUS_BUSY m) s = true := decide_eq_true h
  refine does_fin rfl (noted_of_eq ((ringAll_eq (free := []) (rung_one m) (by simp [hbusy])).trans ?_))
  simp only [forEach, ringOne, hbusy, if_true, List.filter_nil, List.map_nil, List.append_nil]
  rfl

/-- OUTPUTS_OFF goes before an OUTPUTS_ON of the same cycle, which is lost (R145, R146). -/
theorem doorbell_offFirst {s : State} {m n : Fin 14} (hne : m ≠ n) (hm : getF (MB_STATUS_BUSY m) s = 0) (hn : getF (MB_STATUS_BUSY n) s = 0)
    (hoff : ringOpcode m s = 0x0104) (hon : ringOpcode n s = 0x0103) :
    ∃ t, Runs (.mbDoorbellRing [n, m]) s t ∧ t.mail.queue = s.mail.queue ++ [⟨m.val, false⟩, ⟨n.val, true⟩] ∧
      getF (MB_STATUS_BUSY m) t = 1 ∧ getF (MB_STATUS_BUSY n) t = 1 := by
  have hval : m.val ≠ n.val := fun he => hne (Fin.ext he)
  refine ⟨_, rfl, ?_, ?_⟩
  all_goals simp only [getF_whSettle, whSettle_mail, List.map_cons, List.map_nil]
  · rcases rung_two hne with hl | hl
    · rw [ringAll_eq hl (filter_free (by simp [hm, hn]))]
      simp [hoff, hon, safetyClass, rungSeq, offAmong]
    · rw [ringAll_eq hl (filter_free (by simp [hm, hn]))]
      simp [hoff, hon, safetyClass, rungSeq, offAmong]
  · rcases rung_two hne with hl | hl
    · rw [ringAll_eq hl (filter_free (by simp [hm, hn]))]
      exact busy_ringTwo hval hm hn
    · rw [ringAll_eq hl (filter_free (by simp [hm, hn]))]
      exact (busy_ringTwo hval.symm hn hm).symm

/-- MB8 goes before every other mailbox of its class (R144). -/
theorem doorbell_managementFirst {s : State} {n : Fin 14} (hne : n.val ≠ 8) (h8 : getF (MB_STATUS_BUSY 8) s = 0)
    (hn : getF (MB_STATUS_BUSY n) s = 0) (hc8 : safetyClass (ringOpcode 8 s) = false) (hcn : safetyClass (ringOpcode n s) = false) :
    ∃ t, Runs (.mbDoorbellRing [n, 8]) s t ∧ t.mail.queue = s.mail.queue ++ [⟨8, false⟩, ⟨n.val, false⟩] := by
  have hnone : offAmong [8, n.val] s = false := by
    simp only [safetyClass, Bool.or_eq_false_iff, decide_eq_false_iff_not] at hc8 hcn
    simp [offAmong, hc8, hcn]
  refine ⟨_, rfl, ?_⟩
  rw [whSettle_mail, List.map_cons, List.map_cons, List.map_nil]
  refine (congrArg (fun u => u.mail.queue) (ringAll_eq (s := s) (rung_management hne) (filter_free (by simp [h8, hn])))).trans ?_
  simp [hc8, hcn, rungSeq, hnone]

/-- Settles O26: each clause is the lemma of its case above. -/
theorem requestsAndDoorbells : Obligations.RequestsAndDoorbells := by
  unfold Obligations.RequestsAndDoorbells
  exact ⟨⟨fun _ _ _ hh hm _ _ _ => requestRefused_answers hh hm, fun s _ => gateOf_long s, fun s _ => gateOf_badCrc s,
      fun _ _ _ => gateOf_repeats, fun _ _ _ => requestRefused_refuses⟩,
    fun _ _ => doorbell_joins, fun _ _ => doorbell_rejected, fun _ _ _ => doorbell_offFirst, fun _ _ => doorbell_managementFirst⟩

end Sys2Proof.Machine
end

section
/-! SUPPORT. What has left the part stays so when records, notices and alarms are written, and with it the ends of commands. -/

namespace Sys2Proof.Machine

/-! Records and notices add nothing to what has left the part but MSI-X vectors. -/

theorem sbAppend_out (r : Rec) (s : State) : (sbAppend r s).out = s.out := by
  unfold sbAppend
  split
  · rfl
  · exact bumpF_out _ _

theorem sbBuffer_out (r : Rec) (s : State) : (sbBuffer r s).out = s.out := by
  rw [← whenS_keeps State.out (f := setF SB_STATUS_WATCH_EV 1) (fun _ => rfl) (sbWatched r.code s) s]
  dsimp only [sbBuffer]
  generalize whenS _ _ s = u
  split
  · rfl
  · split
    · rfl
    · split
      · rfl
      · exact sbAppend_out r u

theorem sbProgram_out (s : State) : (sbProgram false s).out = s.out := by
  dsimp only [sbProgram]
  rw [if_neg (by decide), whenS_keeps State.out (f := setF SB_STATUS_WATCH_EV 1) (fun _ => rfl),
    whenS_keeps State.out (f := setF SB_STATUS_LOST_EV 1) (fun _ => rfl)]
  rfl

theorem sbPages_out (all : Bool) (n : Nat) (s : State) : (sbPages all n s).out = s.out := by
  induction n generalizing s with
  | zero => rfl
  | succ n ih =>
    unfold sbPages
    split
    · split
      · exact ih _
      · exact (ih _).trans (sbProgram_out s)
    · rfl

@[simp] theorem sbEvent_out (code : Nat) (vs : List (Nat × Nat)) (s : State) : (sbEvent code vs s).out = s.out := by
  rw [← sbBuffer_out (recNow code vs s) s, ← sbPages_out false 70 (sbBuffer (recNow code vs s) s)]
  rw [sbEvent, sbFlush, sbTimer]
  split <;> rfl

theorem out_sub_of_eq {s t : State} (h : t.out = s.out) : s.out ⊆ t.out := by
  rw [h]
  exact List.Subset.refl _

theorem out_sub_msix (v : Nat) (s : State) : s.out ⊆ (msix v s).out := fun _ h => mem_out_msix h v

theorem out_sub_noticeMsi (s : State) : s.out ⊆ (noticeMsi s).out := by
  unfold noticeMsi
  split
  · split
    · exact List.Subset.refl _
    · exact out_sub_msix 8 (startTimer tmMsi8 10 s)
  · exact List.Subset.refl _

theorem out_sub_ringWrite (r code mb : Nat) (arg : List (BitVec 8)) (s : State) : s.out ⊆ (ringWrite r code mb arg s).out := by
  dsimp only [ringWrite]
  split
  · refine List.Subset.trans ?_ (out_sub_noticeMsi _)
    exact List.Subset.refl _
  · exact List.Subset.refl _

theorem out_sub_ringOverflow (r : Nat) (s : State) : s.out ⊆ (ringOverflow r s).out := by
  dsimp only [ringOverflow]
  split
  · exact out_sub_ringWrite r _ _ _ (setF (NOTICE_DROP_DROPPED (ringBox r)) 0 s)
  · exact List.Subset.refl _

theorem out_sub_ringPost (r code mb : Nat) (arg : List (BitVec 8)) (s : State) : s.out ⊆ (ringPost r code mb arg s).out := by
  refine List.Subset.trans (out_sub_ringOverflow r s) ?_
  dsimp only [ringPost]
  generalize ringOverflow r s = u
  split
  · rw [bumpF_out, whenS_keeps State.out (sbEvent_out 0x0115 [])]
    exact List.Subset.refl _
  · exact out_sub_ringWrite r code mb arg u

theorem out_sub_forEach {α : Type} {f : α → State → State} (h : ∀ a s, s.out ⊆ (f a s).out) (l : List α) (s : State) :
    s.out ⊆ (forEach f l s).out := by
  induction l generalizing s with
  | nil => exact List.Subset.refl _
  | cons a l ih => exact List.Subset.trans (h a s) (ih (f a s))

theorem out_sub_notice (code mb : Nat) (arg : List (BitVec 8)) (s : State) : s.out ⊆ (notice code mb arg s).out := by
  refine out_sub_forEach (fun r u => ?_) _ s
  split
  · exact out_sub_ringPost r code mb arg u
  · exact List.Subset.refl _

@[simp] theorem faultFollow_out (s : State) : (faultFollow s).out = s.out := by
  unfold faultFollow
  split
  · rfl
  · exact sbEvent_out _ _ _

/-- An alarm whose policy is not SAFE. -/
theorem out_sub_alarm {c : Nat} {s : State} (h : NotSafe c s) (subject : Nat) (present : Bool) : s.out ⊆ (alarm c subject present s).out := by
  dsimp only [alarm]
  rw [if_neg h, if_neg h, faultFollow_out]
  generalize hu : whenS present _ s = u
  have hact : u.out = s.out := by
    rw [← hu]
    exact whenS_keeps State.out (f := fun s => setF LJ_ALARM_ACT_ALARM (withBit (getF LJ_ALARM_ACT_ALARM s) (c - 1)) s)
      (fun _ => rfl) present s
  generalize hv : setF LJ_ALARM_LATCH_ALARM _ u = v
  have hlatch : v.out = s.out := by
    rw [← hv, setF_out, hact]
  have hnote : s.out ⊆ (notice 0x0006 0xFF (leBytes 2 c) (sbEvent 0x0C01 [(2, c), (2, subject)] v)).out := by
    rw [← hlatch, ← sbEvent_out 0x0C01 [(2, c), (2, subject)] v]
    exact out_sub_notice _ _ _ _
  split <;> exact hnote

/-- GUARANTEE follows, where its alarm's policy is not SAFE. -/
theorem out_sub_guaranteeFollow {s : State} (h : NotSafe 0x13 s) : s.out ⊆ (guaranteeFollow s).out := by
  dsimp only [guaranteeFollow]
  split
  · exact List.Subset.refl _
  · split
    · exact out_sub_of_eq (sbEvent_out 0x0C0A [] (setF LJ_STATUS_GUARANTEE 1 s))
    · refine List.Subset.trans (out_sub_of_eq (sbEvent_out 0x0C09 _ (setF LJ_STATUS_GUARANTEE 0 s))) (out_sub_alarm ?_ 0 true)
      exact (h.setF (g := LJ_STATUS_GUARANTEE) (by decide) (by decide) (by decide) 0).noted (by decide) (Noted.sbEvent _ _ _)

/-- A meaning that ends in `fin v` reaches a state that differs from `v` by notes, with all that has left the part. -/
theorem runs_fin {i : Instr} {s v : State} (h : exec i s = fin v) : ∃ t, Runs i s t ∧ Noted v t ∧ v.out ⊆ t.out :=
  ⟨_, h, Noted.whSettle v, fun _ => mem_out_whSettle⟩

/-- The same for one that also lets the guarantee follow. -/
theorem runs_finG {i : Instr} {s v : State} (h : exec i s = finG v) (hs : NotSafe 0x13 v) : ∃ t, Runs i s t ∧ Noted v t ∧ v.out ⊆ t.out :=
  ⟨_, h, (Noted.guaranteeFollow hs).trans (Noted.whSettle _),
    List.Subset.trans (out_sub_guaranteeFollow hs) fun _ => mem_out_whSettle⟩

end Sys2Proof.Machine
end

section
/-! SUPPORT. A packet that enters the network passes the probes (R271 to R273): beyond notes they write PTRACE_STATUS, their counts and
their trace, and leave the packets under way and the tags alone. -/

namespace Sys2Proof.Machine

/-- Two states agree in the packets under way, the tags, the Dugout, and every register but those of notes and PTRACE_STATUS. -/
structure Probed (s t : State) : Prop where
  regs : ∀ f : Fld, f.lo < 32 → ¬ noteAddr f.addr → f.addr ≠ PTRACE_STATUS_WPTR.addr → getF f t = getF f s
  dq : t.dq = s.dq
  net : t.noc.net = s.noc.net
  tags : t.noc.tags = s.noc.tags

theorem Probed.refl (s : State) : Probed s s := ⟨fun _ _ _ _ => rfl, rfl, rfl, rfl⟩

theorem Probed.trans {s t u : State} (h : Probed s t) (k : Probed t u) : Probed s u where
  regs f hl hn hp := (k.regs f hl hn hp).trans (h.regs f hl hn hp)
  dq := k.dq.trans h.dq
  net := k.net.trans h.net
  tags := k.tags.trans h.tags

theorem Noted.probed {s t : State} (h : Noted s t) : Probed s t :=
  ⟨fun f hl hn _ => h.regs f hl hn, h.dq, by rw [h.noc], by rw [h.noc]⟩

theorem Probed.setTrace {s t : State} (h : Probed s t) {f : Fld} (ha : f.addr = PTRACE_STATUS_WPTR.addr) (hl : f.lo < 32) (v : Nat) :
    Probed s (setF f v t) :=
  h.trans ⟨fun _ hg _ hp => getF_setF_addr hg hl (fun he => hp (he.trans ha)) v t, rfl, rfl, rfl⟩

theorem Probed.forEach {α : Type} {f : α → State → State} {l : List α} (h : ∀ a ∈ l, ∀ s, Probed s (f a s)) (s : State) :
    Probed s (forEach f l s) := by
  induction l generalizing s with
  | nil => exact .refl s
  | cons a l ih => exact (h a (by simp) s).trans (ih (fun b hb => h b (by simp [hb])) _)

theorem Probed.oncePerSecond {s t : State} (h : Probed s t) (k code : Nat) (vs : List (Nat × Nat)) :
    Probed s (oncePerSecond k (sbEvent code vs) t) := by
  unfold Machine.oncePerSecond atMostOnce
  split
  · exact h.trans (Probed.trans (t := rateMark k t) ⟨fun _ _ _ _ => rfl, rfl, rfl, rfl⟩ (Noted.sbEvent code vs _).probed)
  · exact h

theorem Probed.traceWrite (p : Nat) (k : Pkt) (s : State) : Probed s (traceWrite p k s) := by
  have hrec (x : Tab (List (BitVec 8))) (n : Nat) : Probed s (useFree { s with noc := { s.noc with trace := x, traceSeq := n } }) :=
    ⟨fun _ _ _ _ => rfl, rfl, rfl, rfl⟩
  dsimp only [Machine.traceWrite]
  split
  · exact .refl s
  · split
    · exact (hrec _ _).setTrace (f := PTRACE_STATUS_WPTR) rfl (by decide) _
    · split
      · exact ((((hrec _ _).setTrace (f := PTRACE_STATUS_WPTR) rfl (by decide) 0).setTrace (f := PTRACE_STATUS_WRAPPED) rfl
          (by decide) 1).trans (Noted.whRaise (id := 104) (by decide) _).probed).oncePerSecond _ _ _
      · exact ((hrec _ _).setTrace (f := PTRACE_STATUS_WPTR) rfl (by decide) 0).setTrace (f := PTRACE_STATUS_FULL) rfl (by decide) 1

theorem Probed.probeThreshold {p : Nat} (hp : p < 32) (s : State) : Probed s (probeThreshold p s) := by
  have hid : probeSource p < 512 := by unfold probeSource; omega
  have hraised (x : List Nat) : Probed s { s with noc := { s.noc with raised := x } } := ⟨fun _ _ _ _ => rfl, rfl, rfl, rfl⟩
  dsimp only [Machine.probeThreshold]
  split
  · exact (hraised _).trans (Noted.whRaise hid _).probed
  · exact .refl s

theorem Probed.probesSee (k : Pkt) (s : State) : Probed s (probesSee k s) := by
  dsimp only [Machine.probesSee]
  generalize hu : Machine.forEach _ _ s = u
  have hcount : Probed s u := by
    rw [← hu]
    refine .forEach (fun p hp s => Probed.trans ?_ (.probeThreshold ?_ _)) s
    · split <;> exact ⟨fun _ _ _ _ => rfl, rfl, rfl, rfl⟩
    · have := mem_natsFrom.1 (List.mem_filter.1 (List.mem_filter.1 hp).1).1
      omega
  split
  · exact hcount
  · exact hcount.trans ((Probed.traceWrite _ k u).trans ⟨fun _ _ _ _ => rfl, rfl, rfl, rfl⟩)

/-- A packet as it enters the network: its source's weight and the ECC bit (R251, R259). -/
def stamped (k : Pkt) (s : State) : Pkt := { k with wgt := getF (NOC_QOS_WGT k.src) s, ecc := isSet NOC_CTRL_ECC_EN s }

/-- The network with one more packet. -/
def netWith (k : Pkt) (s : State) : State := { s with noc := { s.noc with net := s.noc.net ++ [stamped k s] } }

theorem Probed.inject (k : Pkt) (s : State) : Probed (netWith k s) (inject k s) := .probesSee _ _

end Sys2Proof.Machine
end

section
/-! SUPPORT. What a packet of one whole flit becomes at its endpoint, what a response at the PCIe endpoint does, and what a tag's timeout
counts (R251 to R255). -/

namespace Sys2Proof.Machine

theorem popCount_zero (n : Nat) : popCount 0 n = 0 := by
  induction n with
  | zero => rfl
  | succ n ih => rw [popCount, Nat.zero_div, ih]

/-- A data flit on which no bit has flipped is the beat as it was sent (R251). -/
theorem flitDecode_whole (node i : Nat) (k : Pkt) (s : State) :
    flitDecode node i 0 k s = ((beatOf k.data i, k.bad.contains i), s) := by
  have hflips : popCount (0 : BitVec 266).toNat 266 = 0 :=
    (congrArg (popCount · 266) BitVec.toNat_zero).trans (popCount_zero 266)
  unfold flitDecode
  rw [if_pos hflips]

theorem flitsDecode_zero (node : Nat) (flips : List (BitVec 266)) (k : Pkt) (s : State) :
    flitsDecode node flips k 0 s = ({ k with data := [], bad := [] }, s) := rfl

/-- The equation of one more data flit: the ones before it are decoded first (R251). -/
theorem flitsDecode_succ (node : Nat) (flips : List (BitVec 266)) (k : Pkt) (n : Nat) (s : State) :
    flitsDecode node flips k (n + 1) s =
      (let r := flitsDecode node flips k n s
       let x := flitDecode node n (listGet 0 flips n) k r.2
       ({ r.1 with data := r.1.data ++ x.1.1, bad := if x.1.2 then r.1.bad ++ [n] else r.1.bad }, x.2)) := by
  -- In parentheses: a bare `rfl` is also checked as a rewriting rule of `simp`, which would count all 266 bits.
  exact (rfl)

/-- Decoding the first data flit alone, on which no bit has flipped. -/
theorem flitsDecode_one (node : Nat) (k : Pkt) (s : State) :
    flitsDecode node [] k 1 s = ({ k with data := beatOf k.data 0, bad := if k.bad.contains 0 then [0] else [] }, s) := by
  rw [flitsDecode_succ, flitsDecode_zero]
  simp only [listGet, flitDecode_whole, List.nil_append]

/-- A packet of one data flit on which no bit has flipped. -/
theorem flitsDecode_whole {k : Pkt} {d : Nat} (hd : k.data = leBytes 32 d) (node : Nat) (s : State) :
    flitsDecode node [] k (k.data.length / 32) s = ({ k with bad := if k.bad.contains 0 then [0] else [] }, s) := by
  have hsize : k.data.length = 32 := by rw [hd, leBytes_length]
  have hbeat : beatOf k.data 0 = k.data := List.take_of_length_le (Nat.le_of_eq hsize)
  have hlen : k.data.length / 32 = 1 := by rw [hsize]
  rw [hlen, flitsDecode_one, hbeat]

/-- The network once its only packet has been accepted. -/
def netEmptied (s : State) : State := { s with noc := { s.noc with net := [] } }

/-- The only packet under way reaches an endpoint: the wrong one, or its own, which decodes its flits and then accepts it. -/
theorem packetDeliver_only {s : State} {k : Pkt} (hnet : s.noc.net = [k]) (hpath : pathWorks k s = true) (n : BitVec 7) (v : Fin 4)
    (e : FlashErr) : packetDeliver ⟨0, n, v, [], e⟩ s =
      if n.toNat ≠ k.dest ∨ v.val ≠ opVc k.op then misroute (netEmptied s)
      else if (k.op = opWr ∨ k.op = opCsrWr) ∧ (flitsDecode k.dest [] k (k.data.length / 32) (netEmptied s)).1.bad ≠ [] then
        poisonedWrite k (flitsDecode k.dest [] k (k.data.length / 32) (netEmptied s)).2
      else (endpoint (flitsDecode k.dest [] k (k.data.length / 32) (netEmptied s)).1 e
        (flitsDecode k.dest [] k (k.data.length / 32) (netEmptied s)).2).getD s := by
  have hget : s.noc.net[0]? = some k := by rw [hnet]; rfl
  have hold : oldestOfItsWay 0 k s = true := by rw [oldestOfItsWay, List.take_zero]; rfl
  have hdrop : { s with noc := { s.noc with net := listDrop s.noc.net 0 } } = netEmptied s := by rw [hnet]; rfl
  simp only [packetDeliver, hget, hold, hpath, hdrop, Bool.not_true, Bool.or_self, Bool.false_eq_true, if_false]
  split
  · rfl
  · split
    · rfl
    · cases endpoint (flitsDecode k.dest [] k (k.data.length / 32) (netEmptied s)).1 e
        (flitsDecode k.dest [] k (k.data.length / 32) (netEmptied s)).2 <;> rfl

/-- A tag of nodes 87 to 92 becomes free. -/
def tagFreed (node tag : Nat) (s : State) : State := { s with noc := { s.noc with tags := tabDel s.noc.tags (64 * node + tag) } }

/-- A response at the PCIe endpoint for a tag in use frees it and answers its access (R254, R255). -/
theorem tagRespond_host {k : Pkt} {s : State} {f : FTag} (h : tabFind s.noc.tags (64 * 87 + k.tag) = some f) :
    tagRespond 87 k s = if rspStatus k ≠ 0 then emit (.accessError (rspStatus k)) (tagFreed 87 k.tag s)
      else if f.op = opRd ∨ f.op = opCsrRd then emit (.readData (fieldAt k.data f.worst f.parts)) (tagFreed 87 k.tag s)
      else emit .accessOk (tagFreed 87 k.tag s) := by
  simp only [tagRespond, h, if_true]
  rfl

/-- Local time has passed a tag's time limit, and the timeout is counted (R255). -/
def timedOut (since : Nat) (s : State) : State :=
  incC (ctNoc 5) { s with time := { s.time with us := max s.time.us (since + getF NOC_CTRL_RSP_TIMEOUT s) } }

theorem timeoutCount_noted (since : Nat) (s : State) : Noted (timedOut since s) (timeoutCount since s) := Noted.whRaise (by decide) _

theorem timeoutCount_notSafe {s : State} (h : NotSafe 0x13 s) (since : Nat) : NotSafe 0x13 (timeoutCount since s) := by
  have hs : NotSafe 0x13 (timedOut since s) := h
  exact hs.noted (by decide) (timeoutCount_noted since s)

theorem not_noteAddr_nocStatus : ¬ noteAddr 0x3F00500004 := by
  unfold noteAddr
  decide

end Sys2Proof.Machine
end

section
/-! Packets at an endpoint, tags that time out and BAR2 accesses (R163, R164, R252 to R255), clause by clause. -/

namespace Sys2Proof.Machine

/-- A packet at the wrong node or channel is dropped and counted (R253). -/
theorem nocPacketDeliver_misroutes {s : State} {k : Pkt} {n : BitVec 7} {v : Fin 4} {e : FlashErr} (hs : NotSafe 0x13 s)
    (hnet : s.noc.net = [k]) (hpath : pathWorks k s = true) (hw : n.toNat ≠ k.dest ∨ v.val ≠ opVc k.op) :
    ∃ t, Runs (.nocPacketDeliver ⟨0, n, v, [], e⟩) s t ∧ t.noc.net = [] ∧ getF NOC_STATUS_MISROUTE t = 1 ∧
      getC (ctNoc 4) t = getC (ctNoc 4) (incC (ctNoc 4) s) := by
  have hnote : Noted (setF NOC_STATUS_MISROUTE 1 (incC (ctNoc 4) (netEmptied s))) (misroute (netEmptied s)) :=
    (Noted.whRaise (id := 68) (by decide) _).trans (Noted.sbEvent _ _ _)
  have hcount : NotSafe 0x13 (incC (ctNoc 4) (netEmptied s)) := hs
  have hsafe := (hcount.setF (g := NOC_STATUS_MISROUTE) (by decide) (by decide) (by decide) 1).noted (by decide) hnote
  have hrun : exec (.nocPacketDeliver ⟨0, n, v, [], e⟩) s = finG (misroute (netEmptied s)) :=
    congrArg finG ((packetDeliver_only hnet hpath n v e).trans (if_pos hw))
  obtain ⟨t, hruns, hend, -⟩ := runs_finG hrun hsafe
  have hall := hnote.trans hend
  refine ⟨t, hruns, by rw [hall.noc]; rfl, ?_, ?_⟩
  · rw [hall.regs _ (by decide) not_noteAddr_nocStatus, getF_setF_same]
    rfl
  · rw [hall.ctrs _ (by decide)]
    rfl

/-- A read response at the PCIe endpoint answers the access that holds its tag (R254, R255). -/
theorem nocPacketDeliver_readData {s : State} {k : Pkt} {e : FlashErr} {d at_ : Nat} (hs : NotSafe 0x13 s) (hnet : s.noc.net = [k])
    (hpath : pathWorks k s = true) (hdest : k.dest = 87) (hop : k.op = opRdRsp) (hst : k.status = 0) (hbad : k.bad = [])
    (hdata : k.data = leBytes 32 d) (htag : tabFind s.noc.tags (64 * 87 + k.tag) = some ⟨opRd, 4, 0, at_⟩) :
    ∃ t, Runs (.nocPacketDeliver ⟨0, 87, 1, [], e⟩) s t ∧ t.noc.net = [] ∧ tabFind t.noc.tags (64 * 87 + k.tag) = none ∧
      .readData (d % 2 ^ 32) ∈ t.out := by
  have hwhole : flitsDecode k.dest [] k (k.data.length / 32) (netEmptied s) = (k, netEmptied s) := by
    rw [flitsDecode_whole hdata, hbad]
    cases k
    cases hbad
    rfl
  have hdatum : fieldAt k.data 0 4 = d % 2 ^ 32 := by
    rw [hdata, leBytes_split 4 28, fieldAt_first]
    norm_num
  have hrsp : tagRespond 87 k (netEmptied s) = emit (.readData (d % 2 ^ 32)) (tagFreed 87 k.tag (netEmptied s)) := by
    rw [tagRespond_host (s := netEmptied s) htag, if_neg (by simp [rspStatus, hbad, hst]), if_pos (.inl rfl), hdatum]
  have hrun : exec (.nocPacketDeliver ⟨0, 87, 1, [], e⟩) s = finG (emit (.readData (d % 2 ^ 32)) (tagFreed 87 k.tag (netEmptied s))) := by
    refine congrArg finG ?_
    rw [packetDeliver_only hnet hpath, if_neg (by simp [hdest, hop, opVc, opRdRsp]), if_neg (by simp [hop, opRdRsp, opWr, opCsrWr]), hwhole]
    simp [endpoint, hdest, hrsp]
  obtain ⟨t, hruns, hend, hout⟩ := runs_finG hrun hs
  refine ⟨t, hruns, by rw [hend.noc]; rfl, ?_, hout (by simp)⟩
  rw [hend.noc]
  exact tabFind_tabDel_same _ _

/-- Poisoned write data is answered POISONED and stored nowhere (R252). -/
theorem nocPacketDeliver_poisoned {s : State} {k : Pkt} {e : FlashErr} {d : Nat} (hs : NotSafe 0x13 s) (hnet : s.noc.net = [k])
    (hpath : pathWorks k s = true) (hdest : k.dest = 84) (hop : k.op = opWr) (hbad : k.bad = [0]) (hdata : k.data = leBytes 32 d) :
    ∃ t, Runs (.nocPacketDeliver ⟨0, 84, 0, [], e⟩) s t ∧ t.dq = s.dq ∧ getF NOC_STATUS_PAYLOAD_UE t = 1 ∧
      ∃ x, t.noc.net = [x] ∧ x.dest = k.src ∧ x.src = 84 ∧ x.op = opWrRsp ∧ x.status = nsPoisoned ∧ x.tag = k.tag ∧ x.data = [] := by
  have hrun : exec (.nocPacketDeliver ⟨0, 84, 0, [], e⟩) s = finG (poisonedWrite k (netEmptied s)) := by
    refine congrArg finG ?_
    rw [packetDeliver_only hnet hpath, if_neg (by simp [hdest, hop, opVc, opWr]), flitsDecode_whole hdata, if_pos]
    simp [hop, hbad]
  generalize hu : sbEvent 0x0402 [] (whRaise 65 (setF NOC_STATUS_PAYLOAD_UE 1 (incC (ctNoc 1) (netEmptied s)))) = u
  have hnote : Noted (setF NOC_STATUS_PAYLOAD_UE 1 (incC (ctNoc 1) (netEmptied s))) u := by
    rw [← hu]
    exact (Noted.whRaise (id := 65) (by decide) _).trans (Noted.sbEvent _ _ _)
  have hanswer : poisonedWrite k (netEmptied s) = inject (respondPkt k opWrRsp nsPoisoned [] []) u := by
    rw [poisonedWrite, hu, refusePkt, hop]
    rfl
  have hprobed := Probed.inject (respondPkt k opWrRsp nsPoisoned [] []) u
  rw [← hanswer] at hprobed
  have hsafe : NotSafe 0x13 (poisonedWrite k (netEmptied s)) := by
    have hcount : NotSafe 0x13 (incC (ctNoc 1) (netEmptied s)) := hs
    have hnoted : NotSafe 0x13 u :=
      (hcount.setF (g := NOC_STATUS_PAYLOAD_UE) (by decide) (by decide) (by decide) 1).noted (by decide) hnote
    have hpolicy := hprobed.regs (policyFld 0x13) (by decide) (by unfold noteAddr; decide) (by decide)
    rw [NotSafe, hpolicy]
    exact hnoted
  obtain ⟨t, hruns, hend, -⟩ := runs_finG hrun hsafe
  have hall := hprobed.trans hend.probed
  refine ⟨t, hruns, ?_, ?_, stamped (respondPkt k opWrRsp nsPoisoned [] []) u, ?_, rfl, hdest, rfl, rfl, rfl, rfl⟩
  · exact hall.dq.trans hnote.dq
  · rw [hall.regs _ (by decide) not_noteAddr_nocStatus (by decide)]
    refine (hnote.regs _ (by decide) not_noteAddr_nocStatus).trans ?_
    rw [getF_setF_same]
    rfl
  · rw [hall.net]
    exact congrArg (fun x : Noc => x.net ++ [stamped (respondPkt k opWrRsp nsPoisoned [] []) u]) hnote.noc

/-- A tag of a fabric port that times out is free, is counted, and is answered TARGET_ERROR (R203, R255). -/
theorem rspTimeout_fabric {s : State} {g : Fin 80} {j : BitVec 6} {f : FTag} (hs : NotSafe 0x13 s)
    (hf : tabFind s.fab.tags (64 * g.val + j.toNat) = some f) :
    ∃ t, Runs (.rspTimeout (BitVec.ofNat 7 g) j) s t ∧ tabFind t.fab.tags (64 * g.val + j.toNat) = none ∧
      f.at_ + getF NOC_CTRL_RSP_TIMEOUT s ≤ t.time.us ∧ getC (ctNoc 5) t = getC (ctNoc 5) (incC (ctNoc 5) s) ∧
      .fabric g 0 j.toNat (statusWorse f.worst nsTargetError) [] ∈ t.out := by
  have hnode : (BitVec.ofNat 7 g.val).toNat = g.val := by
    rw [BitVec.toNat_ofNat]
    omega
  generalize hw : { s with fab := { s.fab with tags := tabDel s.fab.tags (64 * g.val + j.toNat) } } = w
  have hrun : exec (.rspTimeout (BitVec.ofNat 7 g) j) s =
      finG (emit (.fabric g 0 j.toNat (statusWorse f.worst nsTargetError) []) (timeoutCount f.at_ w)) := by
    refine congrArg finG ?_
    rw [hnode, rspTimeout, if_pos g.isLt, hf, ← hw]
  have hsafe : NotSafe 0x13 w := by
    rw [← hw]
    exact hs
  obtain ⟨t, hruns, hend, hout⟩ := runs_finG hrun (timeoutCount_notSafe hsafe f.at_)
  have hall := (timeoutCount_noted f.at_ w).trans ((Noted.emit _ _).trans hend)
  refine ⟨t, hruns, ?_, ?_, ?_, hout (by simp)⟩
  · rw [hall.fab, ← hw]
    exact tabFind_tabDel_same _ _
  · rw [hall.us, ← hw]
    exact Nat.le_max_right _ _
  · rw [hall.ctrs _ (by decide), ← hw]
    rfl

/-- A tag of the PCIe endpoint that times out is free, is counted, and its access is answered TARGET_ERROR (R255). -/
theorem rspTimeout_host {s : State} {j : BitVec 6} {f : FTag} (hs : NotSafe 0x13 s)
    (hf : tabFind s.noc.tags (64 * 87 + j.toNat) = some f) :
    ∃ t, Runs (.rspTimeout 87 j) s t ∧ tabFind t.noc.tags (64 * 87 + j.toNat) = none ∧
      getC (ctNoc 5) t = getC (ctNoc 5) (incC (ctNoc 5) s) ∧ .accessError nsTargetError ∈ t.out := by
  have hrsp := tagRespond_host (k := { pktZero with tag := j.toNat, status := nsTargetError }) (s := timeoutCount f.at_ s) hf
  have hrun : exec (.rspTimeout 87 j) s = finG (emit (.accessError nsTargetError) (tagFreed 87 j.toNat (timeoutCount f.at_ s))) := by
    refine congrArg finG ?_
    rw [rspTimeout, if_neg (by decide), if_neg (by decide)]
    have hf' : tabFind s.noc.tags (64 * (87 : BitVec 7).toNat + j.toNat) = some f := hf
    rw [hf']
    exact hrsp
  obtain ⟨t, hruns, hend, hout⟩ := runs_finG hrun (timeoutCount_notSafe hs f.at_)
  refine ⟨t, hruns, ?_, ?_, hout (by simp)⟩
  · rw [hend.noc]
    exact tabFind_tabDel_same _ _
  · rw [hend.ctrs _ (by decide)]
    rfl

/-- No grant reaches an address that no node serves (R163). -/
theorem nodeOf_of_permitted {a len : Nat} {w : Bool} {s : State} (h : expertBad a len w s = false) : ∃ n, nodeOf a = some n := by
  cases hn : nodeOf a with
  | some n => exact ⟨n, rfl⟩
  | none =>
    have hscope : scopeBit a s = none := by simp [scopeBit, hn]
    simp [expertBad, hscope] at h

/-- The request that a read of BAR2 makes: to the node of its address, under the access's tag (R245, R254). -/
theorem accessPkt_read {a n : Nat} (h : nodeOf a = some n) (src tag len v : Nat) :
    (accessPkt src tag a len false v).dest = n ∧ ((accessPkt src tag a len false v).op = opRd ∨ (accessPkt src tag a len false v).op = opCsrRd) := by
  refine ⟨by simp [accessPkt, h], ?_⟩
  by_cases hcsr : nodeOf a = some 109
  · exact .inr (by simp [accessPkt, hcsr])
  · exact .inl (by simp [accessPkt, hcsr, readPkt])

/-- An access of BAR2 that is neither empty nor too long, with the link up. -/
theorem expertAccess_fits {s : State} {a len : Nat} (hlink : s.boot.linkUp = true) (hn : len ≠ 0) (hpage : a % 4096 + len ≤ 4096)
    (hbeats : (a % 32 + len + 31) / 32 ≤ 16) :
    ¬ (s.boot.linkUp = false ∨ len = 0 ∨ 4096 < a % 4096 + len ∨ 16 < (a % 32 + len + 31) / 32) := by
  simp only [hlink, Bool.true_eq_false, false_or]
  omega

/-- The request of a permitted read of BAR2. -/
def hostRead (tag a len : Nat) : Pkt := { accessPkt 87 tag a len false (leNat (padTo len [])) with era := 1 }

/-- A tag of the PCIe endpoint is in use. -/
def hostTagged (tag : Nat) (f : FTag) (s : State) : State := { s with noc := { s.noc with tags := tabPut s.noc.tags (64 * 87 + tag) f } }

/-- A permitted read of BAR2 sends a request under a tag of the PCIe endpoint (R163, R254). -/
theorem expertAccess_sends {s : State} {x : BitVec 30} {n : BitVec 10} {a tag : Nat}
    (ha : getF (MB_EXPERT_WIN_BASE 0) s * 2 ^ 30 + x.toNat = a) (hlink : s.boot.linkUp = true) (hn : n.toNat ≠ 0)
    (hpage : a % 4096 + n.toNat ≤ 4096) (hbeats : (a % 32 + n.toNat + 31) / 32 ≤ 16) (hok : expertBad a n.toNat false s = false)
    (htag : pcieTag s = some tag) :
    ∃ t, Runs (.expertAccess false x n []) s t ∧ (tabFind t.noc.tags (64 * 87 + tag)).isSome = true ∧
      ∃ k ∈ t.noc.net, k.src = 87 ∧ k.tag = tag ∧ nodeOf a = some k.dest ∧ (k.op = opRd ∨ k.op = opCsrRd) := by
  obtain ⟨node, hnode⟩ := nodeOf_of_permitted hok
  obtain ⟨hdest, hop⟩ := accessPkt_read hnode 87 tag n.toNat (leNat (padTo n.toNat []))
  have hrun : exec (.expertAccess false x n []) s = fin (inject (hostRead tag a n.toNat)
      (hostTagged tag ⟨(hostRead tag a n.toNat).op, n.toNat, a % 32, s.time.us⟩ s)) := by
    refine congrArg fin ?_
    rw [expertAccess, ha, if_neg (expertAccess_fits hlink hn hpage hbeats), hok, if_neg Bool.false_ne_true, htag]
    rfl
  obtain ⟨t, hruns, hend, -⟩ := runs_fin hrun
  have hall := (Probed.inject _ _).trans hend.probed
  refine ⟨t, hruns, ?_, stamped (hostRead tag a n.toNat)
    (hostTagged tag ⟨(hostRead tag a n.toNat).op, n.toNat, a % 32, s.time.us⟩ s), ?_, rfl, rfl, hnode.trans (congrArg some hdest.symm), hop⟩
  · rw [hall.tags]
    exact Option.isSome_iff_exists.2 ⟨_, tabFind_tabPut_same _ _ _⟩
  · rw [hall.net]
    exact List.mem_append_right _ (List.mem_singleton_self _)

/-- A violation as EXPERT_VIOL counts it (R164). -/
def violationCounted (s : State) : State :=
  if getF (EXPERT_VIOL_COUNT 0) s = 0xFFFF then setF (EXPERT_VIOL_OVF 0) 1 s
  else setF (EXPERT_VIOL_COUNT 0) (getF (EXPERT_VIOL_COUNT 0) s + 1) s

theorem violationCounted_reads {s : State} (h : getF (EXPERT_VIOL_COUNT 0) s < 65536) :
    getF (EXPERT_VIOL_COUNT 0) (violationCounted s) = min 0xFFFF (getF (EXPERT_VIOL_COUNT 0) s + 1) ∧
      (getF (EXPERT_VIOL_COUNT 0) s = 0xFFFF → getF (EXPERT_VIOL_OVF 0) (violationCounted s) = 1) := by
  unfold violationCounted
  split
  · next hfull =>
    refine ⟨?_, fun _ => getF_setF_same _ _ _⟩
    rw [getF_setF_other _ _ (by decide), hfull]
    rfl
  · next hroom =>
    refine ⟨?_, fun hfull => absurd hfull hroom⟩
    rw [getF_setF_same]
    simp only [EXPERT_VIOL_COUNT] at *
    omega

/-- Beyond the count, a violation changes what its event notes and when it was last written (R164). -/
theorem expertViolation_keeps (s : State) : (expertViolation s).noc = s.noc ∧
    ∀ f : Fld, f.lo < 32 → ¬ noteAddr f.addr → getF f (expertViolation s) = getF f (violationCounted s) := by
  have hnoc : (violationCounted s).noc = s.noc := by
    unfold violationCounted
    split <;> rfl
  have hexp : expertViolation s = oncePerSecond 0x0113 (fun s => sbEvent 0x0113 [(4, s.mail.violations)]
      { s with mail := { s.mail with violations := 0 } })
      { violationCounted s with mail := { (violationCounted s).mail with violations := (violationCounted s).mail.violations + 1 } } := rfl
  rw [hexp, oncePerSecond, atMostOnce]
  split
  · exact ⟨(Noted.sbEvent _ _ _).noc.trans hnoc, fun f hl hf => (Noted.sbEvent _ _ _).regs f hl hf⟩
  · exact ⟨hnoc, fun _ _ _ => rfl⟩

/-- A forbidden access of BAR2 sends nothing and is counted; a read is answered with a completer abort (R164). -/
theorem expertAccess_violates {s : State} {w : Bool} {x : BitVec 30} {n : BitVec 10} {d : List (BitVec 8)} {a : Nat}
    (ha : getF (MB_EXPERT_WIN_BASE 0) s * 2 ^ 30 + x.toNat = a) (hlink : s.boot.linkUp = true) (hn : n.toNat ≠ 0)
    (hpage : a % 4096 + n.toNat ≤ 4096) (hbeats : (a % 32 + n.toNat + 31) / 32 ≤ 16)
    (hbad : grantHeld s = false ∨ (w = true ∧ getF (MB_EXPERT_WRITE 0) s = 0)) (hcount : getF (EXPERT_VIOL_COUNT 0) s < 65536) :
    ∃ t, Runs (.expertAccess w x n d) s t ∧ t.noc = s.noc ∧ (w = false → .completerAbort ∈ t.out) ∧
      getF (EXPERT_VIOL_COUNT 0) t = min 0xFFFF (getF (EXPERT_VIOL_COUNT 0) s + 1) ∧
      (getF (EXPERT_VIOL_COUNT 0) s = 0xFFFF → getF (EXPERT_VIOL_OVF 0) t = 1) := by
  have hviol : expertBad a n.toNat w s = true := by
    rcases hbad with hgrant | ⟨hwrite, hdenied⟩
    · simp [expertBad, hgrant]
    · simp [expertBad, hwrite, isSet, hdenied]
  have hrun : exec (.expertAccess w x n d) s = fin (if w then expertViolation s else emit .completerAbort (expertViolation s)) := by
    refine congrArg fin ?_
    rw [expertAccess, ha, if_neg (expertAccess_fits hlink hn hpage hbeats), if_pos hviol]
  obtain ⟨hnoc, hregs⟩ := expertViolation_keeps s
  obtain ⟨hcounted, hovf⟩ := violationCounted_reads hcount
  have hanswer : Noted (expertViolation s) (if w then expertViolation s else emit .completerAbort (expertViolation s)) := by
    split
    · exact Noted.refl _
    · exact Noted.emit _ _
  obtain ⟨t, hruns, hend, hout⟩ := runs_fin hrun
  have hall := hanswer.trans hend
  refine ⟨t, hruns, hall.noc.trans hnoc, fun hread => ?_, ?_, fun hfull => ?_⟩
  · subst hread
    exact hout (by simp)
  · rw [hall.regs _ (by decide) (by unfold noteAddr; decide), hregs _ (by decide) (by unfold noteAddr; decide), hcounted]
  · rw [hall.regs _ (by decide) (by unfold noteAddr; decide), hregs _ (by decide) (by unfold noteAddr; decide), hovf hfull]

/-- Settles O25: each clause is the lemma of its case above. -/
theorem packetsAndTags : Obligations.PacketsAndTags := by
  unfold Obligations.PacketsAndTags
  exact ⟨fun _ _ _ _ _ => nocPacketDeliver_misroutes, fun _ _ _ _ => nocPacketDeliver_readData,
    fun _ _ _ _ hs hnet hpath hdest hop _ => nocPacketDeliver_poisoned hs hnet hpath hdest hop,
    fun _ _ _ _ => rspTimeout_fabric, fun _ _ _ => rspTimeout_host, fun _ _ _ _ => expertAccess_sends rfl,
    fun _ _ _ _ _ => expertAccess_violates rfl⟩

end Sys2Proof.Machine
end

section
/-! The fabric's primitives: a cell's tables, a flip-flop, an arithmetic slice (R176, R178, R192, R195, R196; log entry 61). -/

namespace Sys2Proof.Machine

/-- The two functions of a split cell are of five inputs: both read their tables at the low five bits (R176). -/
theorem cellOut_split_xor (a b : BitVec 32) (i : BitVec 6) : cellOut (.split a b) (i ^^^ 0x20) = cellOut (.split a b) i := by
  have hfive : (i ^^^ 0x20).toNat % 2 ^ 5 = i.toNat % 2 ^ 5 := by
    rw [BitVec.toNat_xor, Nat.xor_mod_two_pow]
    exact Nat.xor_zero _
  exact congrArg (fun k => (a.getLsbD k, some (b.getLsbD k))) hfive

/-- A slice that takes an operand set registers what `sliceAcc` makes of it, and HIT of that ACC (R192). -/
theorem slice_enabled (c : SliceCfg) (x : SliceIn) (o : SliceOut) : slice c false false true x o =
    ⟨(sliceAcc c x o.acc).1, (sliceAcc c x o.acc).2.1, (sliceAcc c x o.acc).2.2, sliceHit c x.k (sliceAcc c x o.acc).1⟩ := rfl

/-- The product of the multiplier's operands fits far inside ACC (R192). -/
theorem sliceProduct_fits (m : BitVec 26) (n : BitVec 19) : -(2 ^ 43) ≤ m.toInt * n.toInt ∧ m.toInt * n.toInt ≤ 2 ^ 43 := by
  have hm : |m.toInt| ≤ 2 ^ 25 := abs_le.2 ⟨m.le_toInt, (BitVec.toInt_lt (x := m)).le⟩
  have hn : |n.toInt| ≤ 2 ^ 18 := abs_le.2 ⟨n.le_toInt, (BitVec.toInt_lt (x := n)).le⟩
  have hproduct : |m.toInt * n.toInt| ≤ 2 ^ 43 := by
    calc |m.toInt * n.toInt| = |m.toInt| * |n.toInt| := abs_mul _ _
      _ ≤ 2 ^ 25 * 2 ^ 18 := mul_le_mul hm hn (abs_nonneg _) (by norm_num)
      _ = 2 ^ 43 := by norm_num
  exact abs_le.1 hproduct

/-- An accumulation raises EXC exactly where the sum leaves 58 bits (R195). -/
theorem accWrap_exc (v : Int) : (accWrap v).2 = false ↔ -(2 ^ 57) ≤ v ∧ v < 2 ^ 57 := by
  simp [accWrap]

/-- An accumulation that raises no EXC is exact (R195). -/
theorem accWrap_exact {v : Int} (h : (accWrap v).2 = false) : (accWrap v).1.toInt = v := by
  obtain ⟨hlo, hhi⟩ := (accWrap_exc v).1 h
  exact BitVec.toInt_ofInt_eq_self (by decide) hlo hhi

theorem sliceAcc_mul (c : SliceCfg) {x : SliceIn} (h : x.op = 0) (acc : BitVec 58) :
    sliceAcc c x acc = (BitVec.ofInt 58 (x.m.toInt * x.n.toInt), false, false) := by
  simp only [sliceAcc, h]

theorem sliceAcc_mac (c : SliceCfg) {x : SliceIn} (h : x.op = 1) (hneg : x.neg = false) (acc : BitVec 58) :
    sliceAcc c x acc = ((accWrap (acc.toInt + x.m.toInt * x.n.toInt)).1, false, (accWrap (acc.toInt + x.m.toInt * x.n.toInt)).2) := by
  simp only [sliceAcc, h, hneg, Bool.false_eq_true, if_false]

/-- The low half of ACC after DOT8 with accumulation is that half's own sum (R192). -/
theorem sliceAcc_dotLow (c : SliceCfg) {x : SliceIn} (h : x.op = 7) (acc : BitVec 58) :
    (sliceAcc c x acc).1.extractLsb' 0 29 = (halfAcc c x.neg (acc.extractLsb' 0 29) (sliceDot c x 0)).1 := by
  simp only [sliceAcc, h]
  exact BitVec.extractLsb'_append_eq_right

/-- A signed half with CLAMP stops at the ends of 29 bits (R195). -/
theorem halfAcc_clamps {c : SliceCfg} (hu : c.uSigned = true) (hclamp : c.clamp = true) (h : BitVec 29) (d : Int) :
    (halfAcc c false h d).1.toInt = max (-268435456) (min 268435455 (h.toInt + d)) := by
  have hhalf : (halfAcc c false h d).1 = BitVec.ofInt 29 (max (-268435456) (min 268435455 (h.toInt + d))) := by
    simp [halfAcc, halfVal, halfLimits, hu, hclamp]
  rw [hhalf, BitVec.toInt_ofInt_eq_self (by decide) (by omega) (by omega)]

/-- HIT: ACC and CMP_VAL agree in every bit outside CMP_MASK (R196). -/
theorem sliceHit_iff (c : SliceCfg) (k acc : BitVec 58) : sliceHit c k acc = true ↔
    ∀ j < 58, c.cmpMask.getLsbD j = true ∨ acc.getLsbD j = (c.cmpVal.getD k).getLsbD j := by
  have hbit (j : Nat) (hj : j < 58) : ((acc ^^^ c.cmpVal.getD k) &&& ~~~ c.cmpMask).getLsbD j = (0 : BitVec 58).getLsbD j ↔
      c.cmpMask.getLsbD j = true ∨ acc.getLsbD j = (c.cmpVal.getD k).getLsbD j := by
    rw [BitVec.getLsbD_and, BitVec.getLsbD_not, BitVec.getLsbD_xor, decide_eq_true hj]
    cases c.cmpMask.getLsbD j <;> simp
  rw [sliceHit, decide_eq_true_eq]
  refine ⟨fun h j hj => (hbit j hj).1 (by rw [h]), fun h => BitVec.eq_of_getLsbD_eq fun j hj => (hbit j hj).2 (h j hj)⟩

/-- Settles O11: each clause is the lemma of its primitive above. -/
theorem cellsAndSlices : Obligations.CellsAndSlices := by
  unfold Obligations.CellsAndSlices
  refine ⟨fun _ _ => rfl, fun a b i => ⟨(cellOut_split_xor a b i).symm, rfl⟩, fun _ _ _ _ _ => rfl, fun _ _ _ => ⟨rfl, rfl⟩,
    fun c x o hop => ?_, fun c x o hop hneg => ?_, fun c x o hop hneg hu _ hclamp => ?_, fun c x o => ?_⟩
  · have hfits := sliceProduct_fits x.m x.n
    rw [slice_enabled, sliceAcc_mul c hop]
    exact ⟨BitVec.toInt_ofInt_eq_self (by decide) (by omega) (by omega), rfl⟩
  · rw [slice_enabled, sliceAcc_mac c hop hneg]
    exact ⟨accWrap_exc _, accWrap_exact⟩
  · rw [slice_enabled, sliceAcc_dotLow c hop, hneg, halfAcc_clamps hu hclamp]
  · exact sliceHit_iff c x.k _

end Sys2Proof.Machine
end

section
/-! SUPPORT. A packet that enters the network takes no local time (R245, R271 to R273). -/

namespace Sys2Proof.Machine

theorem oncePerSecond_us (k code : Nat) (vs : List (Nat × Nat)) (s : State) :
    (oncePerSecond k (sbEvent code vs) s).time.us = s.time.us := by
  unfold oncePerSecond atMostOnce
  split
  · exact (Noted.sbEvent code vs _).us
  · rfl

theorem traceWrite_us (p : Nat) (k : Pkt) (s : State) : (traceWrite p k s).time.us = s.time.us := by
  dsimp only [traceWrite]
  split
  · rfl
  · split
    · rfl
    · split
      · exact oncePerSecond_us _ _ _ _
      · rfl

theorem probeThreshold_us (p : Nat) (s : State) : (probeThreshold p s).time.us = s.time.us := by
  dsimp only [probeThreshold]
  split <;> rfl

theorem probesSee_us (k : Pkt) (s : State) : (probesSee k s).time.us = s.time.us := by
  dsimp only [probesSee]
  generalize hu : forEach _ _ s = u
  have hcount : u.time.us = s.time.us := by
    rw [← hu]
    refine forEach_keeps (fun s => s.time.us) (fun p _ s => ?_) s
    rw [probeThreshold_us]
    split <;> rfl
  split
  · exact hcount
  · exact (traceWrite_us _ k u).trans hcount

theorem inject_us (k : Pkt) (s : State) : (inject k s).time.us = s.time.us := probesSee_us _ _

end Sys2Proof.Machine
end

section
/-! Requests of a fabric port's initiator and to its target window (R202 to R205), clause by clause. -/

namespace Sys2Proof.Machine

/-- Below 0x20_0000_0000 the DRAM channels are served, each over 2^35 bytes (R9, R243). -/
theorem nodeOf_dram {a : Nat} (h : a < 0x2000000000) : nodeOf a = some (80 + a / 2 ^ 35) := if_pos h

/-- Below 0x3F_0000_0000 no address is the CSR hub's (R9, R243). -/
theorem nodeOf_ne_hub {a : Nat} (h : a < 0x3F00000000) : nodeOf a ≠ some 109 := by
  unfold nodeOf
  split
  · rw [ne_eq, Option.some.injEq]
    omega
  · split
    · rw [ne_eq, Option.some.injEq]
      omega
    · split
      · decide
      · split
        · decide
        · rw [if_neg (by omega)]
          decide

/-- The packet that enters the network is under way once it has passed the probes. -/
theorem inject_mem_net (k : Pkt) (s : State) : stamped k s ∈ (inject k s).noc.net := by
  rw [(Probed.inject k s).net]
  exact List.mem_append_right _ (List.mem_singleton.2 rfl)

/-- A region's read request as a packet to the node that serves its address (R202, R245). -/
def fabReadPkt (r : Nat) (q : FabReq) (s : State) : Pkt :=
  { pktZero with
    dest := 80 + q.addr.toNat / 2 ^ 35, src := r, op := opRd, tag := q.tag.val, len := q.len.val, addr := q.addr.toNat, era := fpEra r s }

/-- A tag of a fabric port is in use for a read since now (R203). -/
def fabTagTaken (r tag : Nat) (s : State) : State :=
  { s with fab := { s.fab with tags := tabPut s.fab.tags (64 * r + tag) ⟨opRd, 1, 0, s.time.us⟩ } }

/-- A legal read of a READY port takes its tag and enters the network (R202, R203). -/
theorem fabRequest_read {r : Nat} {q : FabReq} {s : State} (hready : fpState r s = 1)
    (hfree : tabFind s.fab.tags (64 * r + q.tag.val) = none) (hread : q.write = false) (halign : q.addr.toNat % 32 = 0)
    (hpage : q.addr.toNat % 4096 + 32 * (q.len.val + 1) ≤ 4096) (hdram : q.addr.toNat < 0x2000000000) :
    fabRequest r q s = inject (fabReadPkt r q s) (fabTagTaken r q.tag.val s) := by
  have hnode := nodeOf_dram hdram
  have hhub : nodeOf q.addr.toNat ≠ some 109 := nodeOf_ne_hub (by omega)
  dsimp only [fabRequest]
  rw [decide_eq_false hhub, if_neg (by simp [hready, hfree, fpReady]), if_neg (by omega), hnode]
  dsimp only
  rw [if_neg (by rintro (h | ⟨h, -⟩) <;> [omega; cases h]), hread]
  rfl

/-- A READY port answers an unaligned request by itself (R204). -/
theorem fabRequest_unaligned {r : Nat} {q : FabReq} {s : State} (hready : fpState r s = 1)
    (hfree : tabFind s.fab.tags (64 * r + q.tag.val) = none) (halign : q.addr.toNat % 32 ≠ 0) (hmem : q.addr.toNat < 0x3F00000000) :
    fabRequest r q s = fpOwnError r q.tag.val nsTargetError s := by
  dsimp only [fabRequest]
  rw [decide_eq_false (nodeOf_ne_hub hmem), if_neg (by simp [hready, hfree, fpReady]), if_pos ⟨rfl, .inl halign⟩]

/-- A legal read takes its tag and sends one packet to the node of its address (R202, R203). -/
theorem fabricInitiatorRequest_reads {s : State} {g : Fin 80} {q : FabReq} (hready : fpState g s = 1)
    (hfree : tabFind s.fab.tags (64 * g.val + q.tag.val) = none) (hread : q.write = false) (halign : q.addr.toNat % 32 = 0)
    (hpage : q.addr.toNat % 4096 + 32 * (q.len.val + 1) ≤ 4096) (hdram : q.addr.toNat < 0x2000000000) :
    ∃ t, Runs (.fabricInitiatorRequest g q) s t ∧ tabFind t.fab.tags (64 * g.val + q.tag.val) = some ⟨opRd, 1, 0, s.time.us⟩ ∧
      ∃ k ∈ t.noc.net, k.src = g.val ∧ k.dest = 80 + q.addr.toNat / 2 ^ 35 ∧ k.op = opRd ∧ k.tag = q.tag.val ∧ k.len = q.len.val ∧
        k.addr = q.addr.toNat := by
  have hrun : exec (.fabricInitiatorRequest g q) s = fin (inject (fabReadPkt g q s) (fabTagTaken g q.tag s)) :=
    congrArg fin (fabRequest_read hready hfree hread halign hpage hdram)
  obtain ⟨t, hruns, hend, -⟩ := runs_fin hrun
  refine ⟨t, hruns, ?_, stamped (fabReadPkt g q s) (fabTagTaken g q.tag s), ?_, rfl, rfl, rfl, rfl, rfl, rfl⟩
  · rw [hend.fab, (RegionsKept.inject _ _).fab]
    exact tabFind_tabPut_same _ _ _
  · rw [hend.noc]
    exact inject_mem_net _ _

/-- An unaligned request is answered TARGET_ERROR by the port, with PROTO_ERR (R204). -/
theorem fabricInitiatorRequest_unaligned {s : State} {g : Fin 80} {q : FabReq} (hready : fpState g s = 1)
    (hfree : tabFind s.fab.tags (64 * g.val + q.tag.val) = none) (halign : q.addr.toNat % 32 ≠ 0) (hmem : q.addr.toNat < 0x3F00000000) :
    ∃ t, Runs (.fabricInitiatorRequest g q) s t ∧ Noted (setF (FP_STATUS_PROTO_ERR g) 1 (incC (ctFP g 0) s)) t ∧
      .fabric g 0 q.tag.val nsTargetError [] ∈ t.out := by
  have hrun : exec (.fabricInitiatorRequest g q) s = fin (fpOwnError g q.tag nsTargetError s) :=
    congrArg fin (fabRequest_unaligned hready hfree halign hmem)
  obtain ⟨t, hruns, hend, hout⟩ := runs_fin hrun
  exact ⟨t, hruns, (Noted.emit _ _).trans hend, hout (by simp [fpOwnError])⟩

/-- A READY port presents the request that waits and keeps it until it is answered (R205). -/
theorem fabricTargetRequest_presents {s : State} {g : Fin 80} {k : Pkt} (hwaits : fpTargets g s = [⟨k, none, false⟩])
    (hready : fpState g s = 1) : ∃ t, Runs (.fabricTargetRequest g) s t ∧ Noted (fpSetTargets g [⟨k, some s.time.us, false⟩] s) t ∧
      .fabric g 1 k.tag k.op (leBytes 4 (k.addr % 2 ^ 28) ++ leBytes 1 k.len ++ k.data) ∈ t.out := by
  have hrun : exec (.fabricTargetRequest g) s = fin (emit (.fabric g 1 k.tag k.op (leBytes 4 (k.addr % 2 ^ 28) ++ leBytes 1 k.len ++ k.data))
      (fpSetTargets g [⟨k, some s.time.us, false⟩] s)) := by
    refine congrArg fin ?_
    simp [fabPresent, hwaits, hready, fpReady, listSet]
  obtain ⟨t, hruns, hend, hout⟩ := runs_fin hrun
  exact ⟨t, hruns, (Noted.emit _ _).trans hend, hout (by simp)⟩

/-- The region's answer to the only request presented to it: sent on, or discarded where the port has answered (R205). -/
theorem fabAnswer_only {r st : Nat} {k : Pkt} {u : Nat} {dead : Bool} {d : List (BitVec 8)} {s : State}
    (h : fpTargets r s = [⟨k, some u, dead⟩]) : fabAnswer r 0 st d s = if dead then fpSetTargets r [] s
      else inject (respondPkt k (if k.op = opRd then opRdRsp else opWrRsp) st
        (if k.op = opRd then padTo (32 * (k.len + 1)) d else []) []) (fpSetTargets r [] s) := by
  simp [fabAnswer, h, listDrop]

/-- The region's answer to a read goes to the read's source as a response with its data (R205, R245). -/
theorem fabricTargetResponse_answers {s : State} {g : Fin 80} {k : Pkt} {u : Nat} {d : List (BitVec 8)}
    (hshown : fpTargets g s = [⟨k, some u, false⟩]) (hop : k.op = opRd) : ∃ t, Runs (.fabricTargetResponse g 0 0 d) s t ∧
      fpTargets g t = [] ∧ ∃ x ∈ t.noc.net, x.dest = k.src ∧ x.src = k.dest ∧ x.op = opRdRsp ∧ x.status = nsOk ∧ x.tag = k.tag ∧
        x.data = padTo (32 * (k.len + 1)) d := by
  have hrun : exec (.fabricTargetResponse g 0 0 d) s =
      fin (inject (respondPkt k opRdRsp nsOk (padTo (32 * (k.len + 1)) d) []) (fpSetTargets g [] s)) := by
    refine congrArg fin ((fabAnswer_only hshown).trans ?_)
    rw [if_neg Bool.false_ne_true, if_pos hop, if_pos hop]
    rfl
  obtain ⟨t, hruns, hend, -⟩ := runs_fin hrun
  refine ⟨t, hruns, ?_, stamped (respondPkt k opRdRsp nsOk (padTo (32 * (k.len + 1)) d) []) (fpSetTargets g [] s), ?_, rfl, rfl, rfl,
    rfl, rfl, rfl⟩
  · rw [((RegionsKept.inject _ _).noted hend).fpTargets, fpTargets_fpSetTargets_same]
  · rw [hend.noc]
    exact inject_mem_net _ _

/-- An answer to a request that has timed out is dropped (R205). -/
theorem fabricTargetResponse_late {s : State} {g : Fin 80} {k : Pkt} {u : Nat} {d : List (BitVec 8)} {st : Fin 4}
    (hdead : fpTargets g s = [⟨k, some u, true⟩]) : Does (.fabricTargetResponse g 0 st d) s (fpSetTargets g [] s) :=
  does_fin (congrArg fin (fabAnswer_only hdead)) (Noted.refl _)

/-- Local time has reached the time limit of a target request presented at `u` (R205). -/
def tgtLate (r u : Nat) (s : State) : State :=
  { s with time := { s.time with us := max s.time.us (u + getF (FP_CTRL_TGT_TIMEOUT r) s) } }

/-- A port has answered a presented write TARGET_ERROR by itself, and has counted and flagged that (R205). -/
def tgtErrored (r : Nat) (k : Pkt) (u : Nat) (s : State) : State :=
  setF (FP_STATUS_TGT_TIMEOUT_EV r) 1 (incC (ctFP r 0) (fpSetTargets r [⟨k, some u, true⟩]
    (inject (respondPkt k opWrRsp nsTargetError [] []) s)))

/-- The timeout of the only target request, a write that has been presented (R205). -/
theorem fpTimeout_only {r : Nat} {k : Pkt} {u : Nat} {s : State} (h : fpTargets r s = [⟨k, some u, false⟩]) (hop : k.op = opWr) :
    fpTimeout r false s = oncePerSecond (0x03340000 + r) (sbEvent 0x0334 []) (tgtErrored r k u (tgtLate r u s)) := by
  have hlate : fpTargets r (tgtLate r u s) = [⟨k, some u, false⟩] := h
  have hanswer : tgtError ⟨k, some u, false⟩ (tgtLate r u s) = inject (respondPkt k opWrRsp nsTargetError [] []) (tgtLate r u s) := by
    rw [tgtError, if_neg Bool.false_ne_true, refusePkt, hop]
    rfl
  have htimeout : tgtTimeout r 0 (tgtLate r u s) =
      oncePerSecond (0x03340000 + r) (sbEvent 0x0334 []) (tgtErrored r k u (tgtLate r u s)) := by
    simp only [tgtTimeout, hlate, List.getElem?_cons_zero, hanswer]
    rfl
  rw [← htimeout, fpTimeout, h]
  rfl

/-- A target request that times out: the port answers it TARGET_ERROR, keeps it as answered, and sets its flag (R205). -/
theorem fpTargetTimeout_answers {s : State} {g : Fin 80} {k : Pkt} {u : Nat} (hshown : fpTargets g s = [⟨k, some u, false⟩])
    (hop : k.op = opWr) : ∃ t, Runs (.fpTargetTimeout g false) s t ∧ fpTargets g t = [⟨k, some u, true⟩] ∧
      getF (FP_STATUS_TGT_TIMEOUT_EV g) t = 1 ∧ s.time.us ≤ t.time.us ∧ u + getF (FP_CTRL_TGT_TIMEOUT g) s ≤ t.time.us ∧
      ∃ x ∈ t.noc.net, x.dest = k.src ∧ x.op = opWrRsp ∧ x.status = nsTargetError ∧ x.tag = k.tag := by
  obtain ⟨t, hruns, hend, -⟩ := runs_fin (i := .fpTargetTimeout g false) (congrArg fin (fpTimeout_only hshown hop))
  have hregion : RegionsKept (tgtErrored g k u (tgtLate g u s)) t := ((RegionsKept.refl _).oncePerSecond _ _ _).noted hend
  have hnet : Probed (tgtErrored g k u (tgtLate g u s)) t := ((Probed.refl _).oncePerSecond _ _ _).trans hend.probed
  have hus : t.time.us = max s.time.us (u + getF (FP_CTRL_TGT_TIMEOUT g) s) :=
    hend.us.trans ((oncePerSecond_us _ _ _ _).trans (inject_us _ (tgtLate g u s)))
  refine ⟨t, hruns, ?_, ?_, ?_, ?_, stamped (respondPkt k opWrRsp nsTargetError [] []) (tgtLate g u s), ?_, rfl, rfl, rfl, rfl⟩
  · exact (hregion.fpTargets g).trans (fpTargets_fpSetTargets_same g _ _)
  · rw [hregion.regs _ (by simp [FP_STATUS_TGT_TIMEOUT_EV]) (by simp only [regionAddr, FP_STATUS_TGT_TIMEOUT_EV]; omega)]
    exact getF_setF_same _ 1 _
  · omega
  · omega
  · rw [hnet.net]
    exact inject_mem_net _ _

/-- Settles O37: each clause is the lemma of its case above. -/
theorem fabricTraffic : Obligations.FabricTraffic := by
  unfold Obligations.FabricTraffic
  exact ⟨fun _ _ _ hready hfree hread => ⟨fabricInitiatorRequest_reads hready hfree hread, fabricInitiatorRequest_unaligned hready hfree⟩,
    fun _ _ _ => fabricTargetRequest_presents, fun _ _ _ _ _ => fabricTargetResponse_answers,
    fun _ _ _ _ _ _ => fabricTargetResponse_late, fun _ _ _ _ => fpTargetTimeout_answers⟩

end Sys2Proof.Machine
end

section
/-! SUPPORT. Replacing a run of a number's bits, and additions of nothing to a counter. -/

namespace Sys2Proof.Machine

/-- A run of bits, bit by bit. -/
theorem testBit_bitsOf (v lo n i : Nat) : (bitsOf v lo n).testBit i = (decide (i < n) && v.testBit (lo + i)) := by
  rw [bitsOf, Nat.testBit_mod_two_pow, Nat.testBit_div_two_pow, Nat.add_comm]

theorem bitsOf_zero (lo n : Nat) : bitsOf 0 lo n = 0 := by simp [bitsOf]

/-- What a mask of one run selects. -/
theorem and_runMask (v lo n : Nat) : v &&& (2 ^ n - 1) * 2 ^ lo = 2 ^ lo * bitsOf v lo n := by
  refine Nat.eq_of_testBit_eq fun i => ?_
  rw [Nat.testBit_and, Nat.testBit_mul_two_pow, Nat.testBit_two_pow_sub_one, Nat.mul_comm, Nat.testBit_mul_two_pow, testBit_bitsOf]
  by_cases hi : lo ≤ i
  · rw [Nat.add_sub_cancel' hi, decide_eq_true hi]
    simp [Bool.and_comm]
  · simp [hi]

/-- A number without one run of its bits: what is above the run, and what is below it. -/
theorem bitsClear_runMask (v lo n : Nat) :
    bitsClear v ((2 ^ n - 1) * 2 ^ lo) = 2 ^ (lo + n) * (v / 2 ^ (lo + n)) + v % 2 ^ lo := by
  have hlow : v = 2 ^ lo * (v / 2 ^ lo) + v % 2 ^ lo := (Nat.div_add_mod v _).symm
  have hrun : v / 2 ^ lo = 2 ^ n * (v / 2 ^ (lo + n)) + bitsOf v lo n := by
    rw [bitsOf, Nat.pow_add, ← Nat.div_div_eq_div_mul]
    exact (Nat.div_add_mod _ _).symm
  have hsplit : v = 2 ^ (lo + n) * (v / 2 ^ (lo + n)) + 2 ^ lo * bitsOf v lo n + v % 2 ^ lo := by
    calc v = 2 ^ lo * (2 ^ n * (v / 2 ^ (lo + n)) + bitsOf v lo n) + v % 2 ^ lo := by rw [← hrun, ← hlow]
      _ = _ := by rw [Nat.mul_add, ← Nat.mul_assoc, ← Nat.pow_add]
  rw [bitsClear, and_runMask]
  omega

/-- A run of bits replaced: the new bits inside it, the old ones outside. -/
theorem testBit_runPut (v b lo n i : Nat) : (bitsClear v ((2 ^ n - 1) * 2 ^ lo) + b % 2 ^ n * 2 ^ lo).testBit i =
    if lo ≤ i ∧ i < lo + n then b.testBit (i - lo) else v.testBit i := by
  have hlow : v % 2 ^ lo < 2 ^ lo := Nat.mod_lt _ (by positivity)
  have hrun : 2 ^ lo * (b % 2 ^ n) + v % 2 ^ lo < 2 ^ (lo + n) := by
    have hb : b % 2 ^ n + 1 ≤ 2 ^ n := Nat.mod_lt _ (by positivity)
    calc 2 ^ lo * (b % 2 ^ n) + v % 2 ^ lo < 2 ^ lo * (b % 2 ^ n + 1) := by rw [Nat.mul_add_one]; omega
      _ ≤ 2 ^ lo * 2 ^ n := Nat.mul_le_mul_left _ hb
      _ = 2 ^ (lo + n) := (Nat.pow_add _ _ _).symm
  have hsum : bitsClear v ((2 ^ n - 1) * 2 ^ lo) + b % 2 ^ n * 2 ^ lo =
      2 ^ (lo + n) * (v / 2 ^ (lo + n)) + (2 ^ lo * (b % 2 ^ n) + v % 2 ^ lo) := by
    rw [bitsClear_runMask, Nat.mul_comm (b % 2 ^ n)]
    omega
  rw [hsum, Nat.testBit_two_pow_mul_add _ hrun, Nat.testBit_two_pow_mul_add _ hlow, Nat.testBit_mod_two_pow, Nat.testBit_mod_two_pow,
    Nat.testBit_div_two_pow]
  by_cases habove : lo + n ≤ i
  · rw [if_neg (by omega), if_neg (by omega), Nat.sub_add_cancel habove]
  · by_cases hbelow : i < lo
    · rw [if_pos (by omega), if_pos hbelow, if_neg (by omega), decide_eq_true hbelow, Bool.true_and]
    · rw [if_pos (by omega), if_neg hbelow, if_pos (by omega), decide_eq_true (by omega), Bool.true_and]

/-- The run that has been replaced. -/
theorem bitsOf_runPut_same (v b lo n : Nat) : bitsOf (bitsClear v ((2 ^ n - 1) * 2 ^ lo) + b % 2 ^ n * 2 ^ lo) lo n = b % 2 ^ n := by
  refine Nat.eq_of_testBit_eq fun i => ?_
  rw [testBit_bitsOf, testBit_runPut, Nat.testBit_mod_two_pow]
  by_cases hi : i < n
  · rw [if_pos ⟨by omega, by omega⟩, Nat.add_sub_cancel_left]
  · simp [hi]

/-- A run beside it. -/
theorem bitsOf_runPut_other {lo n lo' n' : Nat} (h : lo' + n' ≤ lo ∨ lo + n ≤ lo') (v b : Nat) :
    bitsOf (bitsClear v ((2 ^ n - 1) * 2 ^ lo) + b % 2 ^ n * 2 ^ lo) lo' n' = bitsOf v lo' n' := by
  refine Nat.eq_of_testBit_eq fun i => ?_
  rw [testBit_bitsOf, testBit_bitsOf, testBit_runPut]
  by_cases hi : i < n'
  · rw [if_neg (by omega)]
  · simp [hi]

/-- Adding nothing leaves every counter's reading. -/
theorem addC_zero_noted (k : Nat) (s : State) : Noted s (addC k 0 s) := by
  refine { Noted.refl s with ctrs := fun j _ => ?_ }
  by_cases hj : j = k
  · subst hj
    exact (tabGet_tabSet_same _ _ _ _).trans (if_pos rfl)
  · exact getC_addC_other 0 s hj

end Sys2Proof.Machine
end

section
/-! Tile RAM and its scrubber (R181, R182, R184, R185), clause by clause. -/

namespace Sys2Proof.Machine

/-- The row that has been written. -/
theorem tileRow_tilePut_same (r b w : Nat) (x : TWord) (s : State) : tileRow r b w (tilePut r b w x s) = x := by
  simp only [tileRow, tilePut, tabFind_tabPut_same]

/-- Every other row of the block. -/
theorem tileRow_tilePut_other {r b w v : Nat} (h : v ≠ w) (x : TWord) (s : State) : tileRow r b v (tilePut r b w x s) = tileRow r b v s := by
  have hfind : tabFind (tilePut r b w x s).fab.tile (tileKey r b v) = tabFind s.fab.tile (tileKey r b v) :=
    tabFind_tabPut_other _ _ (by unfold tileKey; omega)
  unfold tileRow
  rw [hfind]
  rfl

/-- Port A of a block shows a read's result (R182). -/
def tileShown (r b : Nat) (x : TRead) (s : State) : State :=
  { s with fab := { s.fab with trd := tabSet ⟨0, false, false⟩ s.fab.trd (2 * (64 * r + b)) x } }

/-- The address of a 64-bit access in ECC shape lies inside the array (R181). -/
theorem tileDepth_inside {p : TilePort} (hshape : p.shape.val = 7) (haddr : p.addr.toNat < 512) :
    ¬ tileDepth p.shape.val ≤ p.addr.toNat := by
  have hdepth : tileDepth p.shape.val = 512 := by rw [hshape]; rfl
  omega

/-- An access by port A alone: its write, and then what it shows (R181, R182). -/
theorem tileAccess_alone {r : Nat} {s : State} (hpower : s.fab.off.contains r = false) (b : Nat) (p : TilePort) :
    tileAccess r b ⟨some p, none, false, []⟩ s =
      tileShow r b 0 (some p) none false (freeNat s) s (useFree (tileWrite r b p s)) := by
  rw [tileAccess, if_neg (by rw [hpower]; exact Bool.false_ne_true)]
  rfl

/-- A write in ECC shape stores its word without errors (R184). -/
theorem tileWrite_ecc {p : TilePort} {s : State} (hhold : s.fab.hold = false) (hwrite : p.write = true) (hshape : p.shape.val = 7)
    (haddr : p.addr.toNat < 512) (r b : Nat) :
    tileWrite r b p s = tilePut r b p.addr.toNat (.ecc (p.data.toNat % 2 ^ 64) 0) s := by
  simp only [tileWrite, hwrite, hhold, decide_eq_false (tileDepth_inside hshape haddr), Bool.not_true, Bool.or_self, Bool.false_eq_true,
    if_false, if_pos hshape]

/-- In mode 1 a write shows the word it writes (R182). -/
theorem tileShow_echo {p : TilePort} (hwrite : p.write = true) (hshape : p.shape.val = 7) (hmode : p.mode.val = 1)
    (haddr : p.addr.toNat < 512) (r b free : Nat) (s0 s : State) :
    tileShow r b 0 (some p) none false free s0 s = tileShown r b ⟨p.data.toNat % 2 ^ 64, false, false⟩ s := by
  simp only [tileShow, hwrite, hmode, if_neg (tileDepth_inside hshape haddr), if_pos hshape, if_true, one_ne_zero, if_false]
  rfl

/-- A read of a row without errors in ECC shape shows its word and notes nothing (R182, R184). -/
theorem tileShow_clean {r b d : Nat} {p : TilePort} {s0 : State} (hread : p.write = false) (hshape : p.shape.val = 7)
    (haddr : p.addr.toNat < 512) (hrow : tileRow r b p.addr.toNat s0 = .ecc d 0) (free : Nat) (s : State) :
    tileShow r b 0 (some p) none false free s0 s = tileShown r b ⟨d, false, false⟩ s := by
  have hgot : tileRead r b p free s0 = ⟨d, false, false⟩ := by
    rw [tileRead, if_neg (tileDepth_inside hshape haddr), if_pos hshape, hrow, eccRead, popCount_zero, if_pos rfl]
  simp only [tileShow, hread, hgot, if_pos hshape, Bool.false_eq_true, if_false]
  rfl

/-- A 64-bit write in ECC shape stores its word without errors and shows it; no other word changes (R181, R182, R184). -/
theorem tileRamAccess_writes {s : State} {g : Fin 80} {b : Fin 64} {p : TilePort} (hpower : s.fab.off.contains g.val = false)
    (hhold : s.fab.hold = false) (hwrite : p.write = true) (hshape : p.shape.val = 7) (hmode : p.mode.val = 1)
    (haddr : p.addr.toNat < 512) : ∃ t, Runs (.tileRamAccess g b ⟨some p, none, false, []⟩) s t ∧
      tileRow g b p.addr.toNat t = .ecc (p.data.toNat % 2 ^ 64) 0 ∧
      tabGet ⟨0, false, false⟩ t.fab.trd (2 * (64 * g.val + b.val)) = ⟨p.data.toNat % 2 ^ 64, false, false⟩ ∧
      ∀ w < 512, w ≠ p.addr.toNat → tileRow g b w t = tileRow g b w s := by
  obtain ⟨t, hruns, hend, -⟩ := runs_fin (i := .tileRamAccess g b ⟨some p, none, false, []⟩)
    (congrArg fin (tileAccess_alone hpower b.val p))
  rw [tileWrite_ecc hhold hwrite hshape haddr, tileShow_echo hwrite hshape hmode haddr] at hend
  have hrow (w : Nat) : tileRow g b w t = tileRow g b w (tilePut g b p.addr.toNat (.ecc (p.data.toNat % 2 ^ 64) 0) s) := by
    unfold tileRow
    rw [hend.fab]
    rfl
  refine ⟨t, hruns, ?_, ?_, fun w _ hne => ?_⟩
  · rw [hrow, tileRow_tilePut_same]
  · rw [hend.fab]
    exact tabGet_tabSet_same _ _ _ _
  · rw [hrow, tileRow_tilePut_other hne]

/-- A read in ECC shape shows the word and changes none (R182, R184). -/
theorem tileRamAccess_reads {s : State} {g : Fin 80} {b : Fin 64} {p : TilePort} {d : Nat} (hpower : s.fab.off.contains g.val = false)
    (hread : p.write = false) (hshape : p.shape.val = 7) (haddr : p.addr.toNat < 512) (hrow : tileRow g b p.addr.toNat s = .ecc d 0) :
    ∃ t, Runs (.tileRamAccess g b ⟨some p, none, false, []⟩) s t ∧
      tabGet ⟨0, false, false⟩ t.fab.trd (2 * (64 * g.val + b.val)) = ⟨d, false, false⟩ ∧ t.fab.tile = s.fab.tile := by
  obtain ⟨t, hruns, hend, -⟩ := runs_fin (i := .tileRamAccess g b ⟨some p, none, false, []⟩)
    (congrArg fin (tileAccess_alone hpower b.val p))
  have hkept : tileWrite g b p s = s := by rw [tileWrite, hread]; rfl
  rw [hkept, tileShow_clean hread hshape haddr hrow] at hend
  refine ⟨t, hruns, ?_, ?_⟩
  · rw [hend.fab]
    exact tabGet_tabSet_same _ _ _ _
  · rw [hend.fab]
    rfl

/-- The tile scrubber moves on; at the last word a pass ends (R185). -/
theorem tileRamScrubRead_moves {s : State} {g : Fin 80} (hen : isSet (MEM_CTRL_TR_SCRUB_EN g) s = true)
    (hpower : s.fab.off.contains g.val = false) : Does (.tileRamScrubRead g []) s
      (whenS (decide (ramPos (2 * g.val) s = 511)) (addF (MEM_CTRL_TR_PASS g) 1) (ramNext (2 * g.val) 512 s)) :=
  does_fin (if_pos (by rw [hen, hpower]; rfl)) (Noted.refl _)

end Sys2Proof.Machine
end

section
/-! Deep RAM and its scrubber (R186 to R190), clause by clause. -/

namespace Sys2Proof.Machine

theorem deepWord_congr {s t : State} (h : t.fab = s.fab) (r b w : Nat) : deepWord r b w t = deepWord r b w s := by
  unfold deepWord
  rw [h]

theorem deepWord_deepPut_same (r b w : Nat) (x : DWord) (s : State) : deepWord r b w (deepPut r b w x s) = x := by
  simp only [deepWord, deepPut, tabFind_tabPut_same]

theorem deepWord_deepPut_other {r b w v : Nat} (h : v ≠ w) (x : DWord) (s : State) :
    deepWord r b v (deepPut r b w x s) = deepWord r b v s := by
  have hfind : tabFind (deepPut r b w x s).fab.deep (deepKey r b v) = tabFind s.fab.deep (deepKey r b v) :=
    tabFind_tabPut_other _ _ (by unfold deepKey; omega)
  unfold deepWord
  rw [hfind]
  rfl

/-- Byte `k` of a word and its codeword's flips, once a byte has been replaced (R186, R187). -/
theorem deepByte_byte (j k data flips : Nat) (x : DWord) :
    bitsOf (deepByte j data flips x).data (8 * k) 8 = if k = j then data % 256 else bitsOf x.data (8 * k) 8 := by
  split
  · next h =>
    subst h
    exact bitsOf_runPut_same x.data data (8 * k) 8
  · exact bitsOf_runPut_other (lo := 8 * j) (n := 8) (by omega) x.data data

theorem deepByte_flips (j k data flips : Nat) (x : DWord) :
    bitsOf (deepByte j data flips x).flips (13 * k) 13 = if k = j then flips % 0x2000 else bitsOf x.flips (13 * k) 13 := by
  split
  · next h =>
    subst h
    exact bitsOf_runPut_same x.flips flips (13 * k) 13
  · exact bitsOf_runPut_other (lo := 13 * j) (n := 13) (by omega) x.flips flips

/-- One byte's part of a write: an enabled byte is stored with new check bits (R187). -/
def deepEnabled (data be : Nat) (x : DWord) (k : Nat) : DWord :=
  if bitOf be k then deepByte k (bitsOf data (8 * k) 8) 0 x else x

theorem deepEnabled_byte (data be j k : Nat) (x : DWord) : bitsOf (deepEnabled data be x j).data (8 * k) 8 =
    if k = j ∧ bitOf be k = true then bitsOf data (8 * k) 8 else bitsOf x.data (8 * k) 8 := by
  have hcut : bitsOf data (8 * j) 8 % 256 = bitsOf data (8 * j) 8 := Nat.mod_mod _ _
  unfold deepEnabled
  by_cases hj : k = j
  · subst hj
    split <;> simp [*, deepByte_byte]
  · split <;> simp [*, deepByte_byte]

theorem deepEnabled_flips (data be j k : Nat) (x : DWord) : bitsOf (deepEnabled data be x j).flips (13 * k) 13 =
    if k = j ∧ bitOf be k = true then 0 else bitsOf x.flips (13 * k) 13 := by
  unfold deepEnabled
  by_cases hj : k = j
  · subst hj
    split <;> simp [*, deepByte_flips]
  · split <;> simp [*, deepByte_flips]

/-- Byte `k` of a word after a write of the bytes in a list. -/
theorem deepEnabled_foldl_byte (data be k : Nat) (l : List Nat) (x : DWord) :
    bitsOf (l.foldl (deepEnabled data be) x).data (8 * k) 8 =
      if k ∈ l ∧ bitOf be k = true then bitsOf data (8 * k) 8 else bitsOf x.data (8 * k) 8 := by
  induction l generalizing x with
  | nil => simp
  | cons j l ih =>
    rw [List.foldl_cons, ih, deepEnabled_byte]
    by_cases hj : k = j
    · subst hj
      by_cases hbe : bitOf be k = true <;> simp [hbe]
    · simp [hj]

theorem deepEnabled_foldl_flips (data be k : Nat) (l : List Nat) (x : DWord) :
    bitsOf (l.foldl (deepEnabled data be) x).flips (13 * k) 13 =
      if k ∈ l ∧ bitOf be k = true then 0 else bitsOf x.flips (13 * k) 13 := by
  induction l generalizing x with
  | nil => simp
  | cons j l ih =>
    rw [List.foldl_cons, ih, deepEnabled_flips]
    by_cases hj : k = j
    · subst hj
      by_cases hbe : bitOf be k = true <;> simp [hbe]
    · simp [hj]

/-- A write with a byte enabled stores in a region that has power and is not held (R187). -/
theorem deepWrite_stores {r b w be : Nat} {s : State} (hbe : be % 256 ≠ 0) (hhold : s.fab.hold = false)
    (hpower : s.fab.off.contains r = false) (data : Nat) :
    deepWrite r b w data be s = deepPut r b w ((natsFrom 0 8).foldl (deepEnabled data be) (deepWord r b w s)) s :=
  if_neg (by rw [hhold, hpower]; simpa using hbe)

/-- A deep write stores the bytes that are enabled, each without errors, and nothing else (R187). -/
theorem deepRamWrite_stores {s : State} {g : Fin 80} {b : Fin 16} {w : BitVec 15} {d : BitVec 64} {be : BitVec 8} (hbe : be ≠ 0)
    (hhold : s.fab.hold = false) (hpower : s.fab.off.contains g.val = false) : ∃ t, Runs (.deepRamWrite g b w d be) s t ∧ (∀ k < 8,
      (bitOf be.toNat k = true → bitsOf (deepWord g b w.toNat t).data (8 * k) 8 = bitsOf d.toNat (8 * k) 8 ∧
        bitsOf (deepWord g b w.toNat t).flips (13 * k) 13 = 0) ∧
      (bitOf be.toNat k = false → bitsOf (deepWord g b w.toNat t).data (8 * k) 8 = bitsOf (deepWord g b w.toNat s).data (8 * k) 8)) ∧
      ∀ v < 32768, v ≠ w.toNat → deepWord g b v t = deepWord g b v s := by
  have henabled : be.toNat % 256 ≠ 0 := by
    rw [Nat.mod_eq_of_lt be.isLt]
    exact fun h => hbe (BitVec.eq_of_toNat_eq h)
  obtain ⟨t, hruns, hend, -⟩ := runs_fin (i := .deepRamWrite g b w d be)
    (congrArg fin (deepWrite_stores (b := b.val) (w := w.toNat) henabled hhold hpower d.toNat))
  have hword : deepWord g b w.toNat t = (natsFrom 0 8).foldl (deepEnabled d.toNat be.toNat) (deepWord g b w.toNat s) := by
    rw [deepWord_congr hend.fab, deepWord_deepPut_same]
  refine ⟨t, hruns, fun k hk => ⟨fun hset => ⟨?_, ?_⟩, fun hclear => ?_⟩, fun v _ hne => ?_⟩
  · rw [hword, deepEnabled_foldl_byte, if_pos ⟨mem_natsFrom.2 (by omega), hset⟩]
  · rw [hword, deepEnabled_foldl_flips, if_pos ⟨mem_natsFrom.2 (by omega), hset⟩]
  · rw [hword, deepEnabled_foldl_byte, if_neg (by simp [hclear])]
  · rw [deepWord_congr hend.fab, deepWord_deepPut_other hne]

/-- A byte whose codeword has no flipped bit is read as it is (R188). -/
theorem deepDecode_clean {x : DWord} (h : x.flips = 0) (free k : Nat) : deepDecode x free k = (bitsOf x.data (8 * k) 8, false, false) := by
  simp [deepDecode, h, bitsOf_zero, popCount_zero]

theorem byteMask_none : byteMask (fun _ => false) = 0 := rfl

theorem deepUpset_none (r b w : Nat) (s : State) : deepUpset r b w 0 s = s := rfl

/-- A word in which no byte is in error is not counted or logged (R191). -/
theorem deepNote_none (r b w : Nat) (s : State) : Noted s (deepNote r b w 0 0 s) := by
  have hnote : deepNote r b w 0 0 s = addC (ctFP r 3) 0 (addC (ctFP r 2) 0 s) := by
    simp [deepNote, popCount_zero]
  rw [hnote]
  exact (addC_zero_noted _ s).trans (addC_zero_noted _ _)

/-- A read of a word without errors delivers its bytes (R188). -/
theorem deepRead_clean {r b d : Nat} {s : State} {w : BitVec 15} (hpower : s.fab.off.contains r = false)
    (hword : deepWord r b w.toNat s = ⟨d, 0⟩) : deepRead r b ⟨w, 0, none⟩ s =
      emit (.fabric r 5 0 0 ((natsFrom 0 8).map (fun k => BitVec.ofNat 8 (bitsOf d (8 * k) 8)))) (deepNote r b w.toNat 0 0 (useFree s)) := by
  have hdecode (free k : Nat) : deepDecode ⟨d, 0⟩ free k = (bitsOf d (8 * k) 8, false, false) := deepDecode_clean rfl free k
  rw [deepRead, if_neg (by rw [hpower]; exact Bool.false_ne_true)]
  simp [deepUpset_none, hword, hdecode, byteMask_none]

/-- A deep read delivers the word (R188). -/
theorem deepRamRead_delivers {s : State} {g : Fin 80} {b : Fin 16} {w : BitVec 15} {d : Nat} (hpower : s.fab.off.contains g.val = false)
    (hword : deepWord g b w.toNat s = ⟨d, 0⟩) : ∃ t, Runs (.deepRamRead g b ⟨w, 0, none⟩) s t ∧ Noted (useFree s) t ∧
      .fabric g 5 0 0 ((natsFrom 0 8).map (fun k => BitVec.ofNat 8 (bitsOf d (8 * k) 8))) ∈ t.out := by
  obtain ⟨t, hruns, hend, hout⟩ := runs_fin (i := .deepRamRead g b ⟨w, 0, none⟩) (congrArg fin (deepRead_clean hpower hword))
  exact ⟨t, hruns, (deepNote_none _ _ _ _).trans ((Noted.emit _ _).trans hend), hout (by simp)⟩

/-- Free values have been used. -/
def freeUsed (n : Nat) (s : State) : State := { s with freeIdx := s.freeIdx + n }

/-- The scrub's read of a word without errors (R190). -/
theorem deepScrub_clean {r w : Nat} {b : Fin 16} {s : State} (h : (deepWord r b w s).flips = 0) :
    Noted (freeUsed 1 s) (deepScrub r w (b, 0) s) := by
  have hscrub : deepScrub r w (b, 0) s = deepNote r b w 0 0 (useFree s) := by
    simp [deepScrub, deepUpset_none, deepDecode_clean h, byteMask_none]
  rw [hscrub]
  exact deepNote_none r b w _

theorem Noted.freeUsed {s t : State} (h : Noted s t) (n : Nat) : Noted (freeUsed n s) (freeUsed n t) :=
  { h with freeIdx := congrArg (· + n) h.freeIdx }

/-- The scrub's reads of one word in several blocks, all without errors (R190). -/
theorem deepScrubs_clean {r w : Nat} {l : List Nat} {s : State} (h : ∀ b : Fin 16, (deepWord r b w s).flips = 0) :
    Noted (freeUsed l.length s) (forEach (fun b s => deepScrub r w (Fin.ofNat 16 b, 0) s) l s) := by
  induction l generalizing s with
  | nil => exact Noted.refl s
  | cons b l ih =>
    have hone := deepScrub_clean (h (Fin.ofNat 16 b))
    have hrest := ih (s := deepScrub r w (Fin.ofNat 16 b, 0) s) fun c => by rw [deepWord_congr hone.fab]; exact h c
    have hcount : freeUsed (l.length + 1) s = freeUsed l.length (freeUsed 1 s) := by
      simp [freeUsed, Nat.add_comm, Nat.add_left_comm]
    rw [List.length_cons, hcount]
    exact (hone.freeUsed l.length).trans hrest

/-- The next word of a RAM scrub is set whatever has been noted. -/
theorem Noted.ramNext {s t : State} (h : Noted s t) (k n : Nat) : Noted (ramNext k n s) (ramNext k n t) := by
  have hnext : (Machine.ramNext k n t).fab = (Machine.ramNext k n s).fab := by
    simp only [Machine.ramNext, ramPos, h.fab]
  exact { h with fab := hnext }

theorem ramNext_freeUsed (k n m : Nat) (s : State) :
    ramNext k n (freeUsed m s) = { ramNext k n s with freeIdx := s.freeIdx + m } := rfl

/-- The deep scrubber moves on over words without errors (R190). -/
theorem deepRamScrubRead_moves {s : State} {g : Fin 80} (hen : isSet (MEM_CTRL_DR_SCRUB_EN g) s = true)
    (hpower : s.fab.off.contains g.val = false) (hs : NotSafe 0x13 s) (hpos : ramPos (2 * g.val + 1) s < 32767)
    (hclean : ∀ b < 16, (deepWord g b (ramPos (2 * g.val + 1) s) s).flips = 0) : Does (.deepRamScrubRead g []) s
      { ramNext (2 * g.val + 1) 32768 s with freeIdx := s.freeIdx + 16 } := by
  generalize hv : forEach (fun b u => deepScrub g (ramPos (2 * g.val + 1) s) (Fin.ofNat 16 b, 0) u) (natsFrom 0 16) s = v
  have hwords : Noted (freeUsed 16 s) v := by
    rw [← hv]
    exact deepScrubs_clean (l := natsFrom 0 16) fun b => hclean b b.isLt
  have hrun : exec (.deepRamScrubRead g []) s = finG (ramNext (2 * g.val + 1) 32768 v) := by
    show execDeepRamScrubRead g [] s = _
    rw [execDeepRamScrubRead, if_pos (by rw [hen, hpower]; rfl)]
    dsimp only [forEach]
    rw [hv, if_neg (by omega)]
  rw [← ramNext_freeUsed]
  exact does_guarantee hrun (hwords.ramNext _ _) hs

/-- Settles O38: each clause is the lemma of its case above. -/
theorem regionMemories : Obligations.RegionMemories := by
  unfold Obligations.RegionMemories
  exact ⟨fun _ _ _ _ => tileRamAccess_writes, fun _ _ _ _ _ => tileRamAccess_reads, fun _ _ => tileRamScrubRead_moves,
    fun _ _ _ _ _ _ => deepRamWrite_stores, fun _ _ _ _ _ => deepRamRead_delivers, fun _ _ => deepRamScrubRead_moves⟩

end Sys2Proof.Machine
end

section
/-! SUPPORT. Configuration planes (R213 to R215): what is known of a plane, its frames and its region's shadow, under the operations that
write them. -/

namespace Sys2Proof.Machine

theorem planeOf_planeSet_same (p r : Nat) (x : Plane) (s : State) : planeOf p r (planeSet p r x s) = x := tabGet_tabSet_same _ _ _ _

theorem planeOf_congr {s t : State} (h : t.cfg = s.cfg) (p r : Nat) : planeOf p r t = planeOf p r s := by
  rw [planeOf, h, planeOf]

/-- Plane `p` of region `g` is clear: it has no source, and its frames are zero (R213). -/
structure PlaneCleared (p g : Nat) (t : State) : Prop where
  source : planeOf p g t = planeNone
  frames : ∀ f < 2304, frameBytes p g f t = List.replicate 512 0

theorem PlaneCleared.congr {p g : Nat} {s t : State} (h : PlaneCleared p g s) (hc : t.cfg = s.cfg) : PlaneCleared p g t where
  source := (planeOf_congr hc p g).trans h.source
  frames f hf := by rw [frameBytes, hc]; exact h.frames f hf

theorem planeClear_cleared (p g : Nat) (s : State) : PlaneCleared p g (planeClear p g s) where
  source := planeOf_planeSet_same p g planeNone (framesClear p g s)
  frames f hf := by
    have hnone : tabFind (planeClear p g s).cfg.frames (frameKey p g f) = none := by
      rw [planeClear_frames]
      exact tabFind_tabCut_inside _ (by unfold frameKey; omega) (by unfold frameKey; omega)
    exact (congrArg (fun x : Option Nat => leBytes 512 (x.getD 0)) hnone).trans (leBytes_zero 512)

theorem RegionsKept.shadowState {s t : State} (h : RegionsKept s t) {g : Nat} (hg : g < 80) : shadowState g t = shadowState g s :=
  h.regs _ (by simp [RGN_STATUS_SHADOW_STATE]) (by simp only [regionAddr, RGN_STATUS_SHADOW_STATE]; omega)

theorem shadowState_setF_same (g v : Nat) (s : State) : shadowState g (setF (RGN_STATUS_SHADOW_STATE g) v s) = v % 4 := getF_setF_same _ v s

/-- While no load runs, clearing a shadow clears its plane and shows it BLANK (R214). -/
theorem shadowClear_idle {g : Nat} {s : State} (h : s.cfg.load = none) :
    shadowClear g s = setF (RGN_STATUS_SHADOW_STATE g) 0 (planeClear (planeIn g 1 s) g s) := by
  simp only [shadowClear, h, shBlank]

/-- A frame of a part on which no bit has flipped is read as it is, with its CRC-32 (R232). -/
theorem frameOut_clean {s : State} (h : s.cfg.flips = []) (r role f : Nat) : frameOut r role f s =
    (frameBytes (planeIn r role s) r f s ++ leBytes 4 (crc32 (frameBytes (planeIn r role s) r f s)), s) := by
  have hfind : frameFind (tabGet 0 s.cfg.flips (frameKey (planeIn r role s) r f)) (freeNat s) = .clean := by
    rw [h]
    exact if_pos rfl
  simp only [frameOut, hfind]

/-- While the clock is stopped a swap's entry is written, and nothing else happens (R227). -/
theorem swapArm_stopped {s : State} (h : isSet GC_CTRL_RUN s = false) (i : Nat) (e : PbEntry) : swapArm i e s = pbPut i e s := by
  have hrun : isSet GC_CTRL_RUN (pbPut i e s) = false := h
  simp [swapArm, pbResolveAll_stopped h, drainsBegin, hrun]

end Sys2Proof.Machine
end

section
/-! The ICP (R225, R226, R232), clause by clause. -/

namespace Sys2Proof.Machine

/-- A command with a region in range runs once OP shows it (R226). -/
theorem icpRun_takes {op : Nat} {g : BitVec 7} {s : State} (h : icpTakes s = true) (hg : g.toNat < 80) (f : Nat → State → State) :
    icpRun op g f s = f g.toNat (setF ICP_STATUS_OP op s) := by
  simp only [icpRun, h, hg, if_true, icpOp]

/-- A command that answers a response word runs none any more: BUSY is 0, and the word has left the part (R226). -/
theorem runs_icpAnswer {i : Instr} {op g code detail : Nat} {s u : State} (h : exec i s = fin (icpAnswer op g code detail u)) :
    ∃ t, Runs i s t ∧ Noted (setF ICP_STATUS_BUSY 0 u) t ∧ .icp (icpWord op g code detail) ∈ t.out := by
  obtain ⟨t, hruns, hend, hout⟩ := runs_fin h
  exact ⟨t, hruns, (Noted.emit _ _).trans hend, hout (by simp [icpAnswer])⟩

/-- The word that the ICP shows is no part of the clock's configuration (R36). -/
theorem pbCheck_icpOp (op : Nat) (e : PbEntry) (s : State) : pbCheck e (setF ICP_STATUS_OP op s) = pbCheck e s := by
  have hslots : slotsPerTurn (setF ICP_STATUS_OP op s) = slotsPerTurn s := by
    rw [slotsPerTurn, getF_setF_other _ _ (by decide), slotsPerTurn]
  rw [pbCheck, hslots, setF_clk, pbCheck]

/-- The ICP's own registers do not show in a region's. -/
theorem regionsKept_icpOp (op : Nat) (s : State) : RegionsKept s (setF ICP_STATUS_OP op s) :=
  (RegionsKept.refl s).setF (f := ICP_STATUS_OP) (by simp [regionAddr, ICP_STATUS_OP]) (by decide) op

theorem planeIn_icpOp {g : Nat} (hg : g < 80) (role op : Nat) (s : State) : planeIn g role (setF ICP_STATUS_OP op s) = planeIn g role s := by
  rw [planeIn, getF_setF_addr (by simp [RGN_STATUS_ACTIVE_PLANE]) (by decide), planeIn]
  simp only [RGN_STATUS_ACTIVE_PLANE, ICP_STATUS_OP]
  omega

theorem readbackOk_icpOp {g : Nat} (hg : g < 80) (role op : Nat) (s : State) :
    readbackOk g role (setF ICP_STATUS_OP op s) = readbackOk g role s := by
  have hguard : guardLevel (setF ICP_STATUS_OP op s) = guardLevel s := rfl
  have hen : isSet CFG_CTRL_READBACK_EN (setF ICP_STATUS_OP op s) = isSet CFG_CTRL_READBACK_EN s := by
    rw [isSet, getF_setF_other _ _ (by decide), isSet]
  rw [readbackOk, hguard, hen, planeIn_icpOp hg, planeOf_congr (setF_cfg _ _ _), readbackOk]

theorem rgnStatusWord_icpOp {g : Nat} (hg : g < 80) (op : Nat) (s : State) :
    rgnStatusWord g (setF ICP_STATUS_OP op s) = rgnStatusWord g s := by
  have hreg {f : Fld} (hl : f.lo < 32) (ha : f.addr = 0x3F00810000 + g * 0x20) : getF f (setF ICP_STATUS_OP op s) = getF f s :=
    (regionsKept_icpOp op s).regs f hl (by unfold regionAddr; omega)
  simp only [rgnStatusWord, planeIn_icpOp hg, planeOf_congr (setF_cfg _ _ _)]
  rw [hreg (by simp [RGN_STATUS_ACTIVE_PLANE]) rfl, hreg (by simp [RGN_STATUS_SHADOW_STATE]) rfl,
    hreg (by simp [RGN_STATUS_FENCED]) rfl, hreg (by simp [RGN_STATUS_REPAIR_PENDING]) rfl, hreg (by simp [RGN_STATUS_REPAIR_FAILED]) rfl]

/-- NOP shows its OP and answers nothing (R226). -/
theorem icpNop_taken {s : State} (h : icpTakes s = true) : Does .icpNop s (setF ICP_STATUS_OP 0 s) :=
  does_fin rfl (noted_of_eq (if_pos h))

/-- A port that takes no word does nothing with a NOP (R225). -/
theorem icpNop_ignored {s : State} (h : icpTakes s = false) : Does .icpNop s s :=
  does_fin rfl (noted_of_eq (if_neg (by simp [h])))

/-- A LOAD that is taken while no load runs. -/
theorem exec_icpLoad {s : State} {g : BitVec 7} (h : icpTakes s = true) (hl : s.cfg.load = none) (hg : g.toNat < 80) (a : Bool)
    (ws : List (BitVec 32)) : exec (.icpLoad g a ws) s = fin (icpLoad a ws g.toNat (setF ICP_STATUS_OP 1 s)) := by
  show fin _ = _
  rw [hl, if_neg (by decide), icpRun_takes h hg]

/-- LOAD of a shadow begins the load with the words that follow (R221, R226). -/
theorem icpLoad_begins {s : State} {g : BitVec 7} {ws : List (BitVec 32)} (h : icpTakes s = true) (hl : s.cfg.load = none)
    (hg : g.toNat < 80) (hp : loadsPermitted s = true) : Does (.icpLoad g false ws) s
      (setF CFG_STATUS_LOAD_BUSY 1 (setF CFG_STATUS_LOAD_REGION g.toNat (setF CFG_STATUS_LOAD_SRC 4
        (setF (RGN_STATUS_SHADOW_STATE g.toNat) 1 { setF ICP_STATUS_BUSY 1 (setF ICP_STATUS_OP 1 s) with cfg := { s.cfg with
          load := some ⟨g.toNat, false, 4, 0x3F, 0, 0, (ws.map (fun w => leBytes 4 w.toNat)).flatten⟩ } })))) := by
  have hpermit : loadsPermitted (setF ICP_STATUS_OP 1 s) = true := hp
  refine does_fin (exec_icpLoad h hl hg false ws) ?_
  rw [icpLoad, if_neg (by simp [hpermit])]
  exact Noted.sbEvent 0x0301 [] _

/-- LOAD where loads are not permitted answers WRONG_STATE (R221, R226). -/
theorem icpLoad_refused {s : State} {g : BitVec 7} {a : Bool} {ws : List (BitVec 32)} (h : icpTakes s = true) (hl : s.cfg.load = none)
    (hg : g.toNat < 80) (hp : loadsPermitted s = false) : ∃ t, Runs (.icpLoad g a ws) s t ∧
      Noted (setF ICP_STATUS_BUSY 0 (setF ICP_STATUS_OP 1 s)) t ∧ .icp (icpWord 1 g.toNat 6 0) ∈ t.out :=
  runs_icpAnswer ((exec_icpLoad h hl hg a ws).trans (congrArg fin (if_pos (.inl hp))))

/-- CLEAR makes the shadow BLANK (R214, R226). -/
theorem icpClear_clears {s : State} {g : BitVec 7} (h : icpTakes s = true) (hl : s.cfg.load = none) (hg : g.toNat < 80) :
    ∃ t, Runs (.icpClear g) s t ∧ .icp (icpWord 2 g.toNat 0 0) ∈ t.out ∧ shadowState g.toNat t = 0 ∧
      PlaneCleared (planeIn g.toNat 1 s) g.toNat t := by
  have hrun : exec (.icpClear g) s = fin (icpAnswer 2 g.toNat 0 0 (shadowClear g.toNat (setF ICP_STATUS_OP 2 s))) :=
    congrArg fin (icpRun_takes h hg _)
  rw [shadowClear_idle (s := setF ICP_STATUS_OP 2 s) hl, planeIn_icpOp hg] at hrun
  obtain ⟨t, hruns, hend, hout⟩ := runs_icpAnswer hrun
  refine ⟨t, hruns, hout, ?_, (planeClear_cleared _ _ _).congr hend.cfg⟩
  rw [hend.regionsKept.shadowState hg, shadowState, getF_setF_addr (by simp [RGN_STATUS_SHADOW_STATE]) (by decide)]
  · exact shadowState_setF_same _ 0 _
  · simp only [RGN_STATUS_SHADOW_STATE, ICP_STATUS_BUSY]
    omega

/-- SWAP_AT of an entry that R36 permits writes it. -/
theorem icpSwapAt_writes {s : State} {g : BitVec 7} {i : Fin 4096} {lk : Bool} {turn : BitVec 48} {slot : BitVec 16}
    (h : icpTakes s = true) (hg : g.toNat < 80) (hstop : isSet GC_CTRL_RUN s = false)
    (hok : pbCheck (swapEntry g.toNat turn.toNat slot.toNat lk) s = 0) : ∃ t, Runs (.icpSwapAt g i lk turn slot) s t ∧
      Noted (setF ICP_STATUS_BUSY 0 (pbPut i.val (swapEntry g.toNat turn.toNat slot.toNat lk) (setF ICP_STATUS_OP 3 s))) t ∧
      .icp (icpWord 3 g.toNat 0 0) ∈ t.out := by
  have hidle : isSet GC_CTRL_RUN (setF ICP_STATUS_OP 3 s) = false := by
    rw [isSet, getF_setF_other _ _ (by decide)]
    exact hstop
  refine runs_icpAnswer ((congrArg fin (icpRun_takes h hg _)).trans (congrArg fin ?_))
  rw [icpSwap, if_pos ((pbCheck_icpOp _ _ _).trans hok), swapArm_stopped hidle]

/-- SWAP_AT of another entry answers BAD_ARG (R226). -/
theorem icpSwapAt_refused {s : State} {g : BitVec 7} {i : Fin 4096} {lk : Bool} {turn : BitVec 48} {slot : BitVec 16}
    (h : icpTakes s = true) (hg : g.toNat < 80) (hbad : pbCheck (swapEntry g.toNat turn.toNat slot.toNat lk) s ≠ 0) :
    ∃ t, Runs (.icpSwapAt g i lk turn slot) s t ∧
      Noted (setF ICP_STATUS_BUSY 0 (setF ICP_STATUS_BAD_WORD 1 (setF ICP_STATUS_OP 3 s))) t ∧ .icp (icpWord 3 g.toNat 3 0) ∈ t.out := by
  refine runs_icpAnswer ((congrArg fin (icpRun_takes h hg _)).trans (congrArg fin ?_))
  rw [icpSwap, if_neg (by rwa [pbCheck_icpOp])]
  rfl

/-- Words that leave the part one after another. -/
theorem forEach_emit_out (f : Nat → Out) (l : List Nat) (s : State) :
    (forEach (fun i s => emit (f i) s) l s).out = s.out ++ l.map f := by
  induction l generalizing s with
  | nil => exact (List.append_nil _).symm
  | cons a l ih => rw [forEach, ih, emit_out, List.append_assoc]; rfl

/-- READBACK of a frame that its reader may have answers the frame's words and its CRC-32 (R232). -/
theorem icpReadback_answers {s : State} {g : BitVec 7} {f : Fin 4096} {sh : Bool} (h : icpTakes s = true) (hg : g.toNat < 80)
    (hf : f.val < 2304) (hok : readbackOk g.toNat (natOfBool sh) s = true) (hsh : sh = true → shadowState g.toNat s ≠ 1)
    (hflips : s.cfg.flips = []) : ∃ d t, d = frameBytes (planeIn g.toNat (natOfBool sh) s) g.toNat f.val s ∧ Runs (.icpReadback g f sh) s t ∧
      Noted (setF ICP_STATUS_BUSY 0 (setF ICP_STATUS_OP 4 s)) t ∧ .icp (icpWord 4 g.toNat 0 0) ∈ t.out ∧
      ∀ i < 129, .icp (fieldAt (d ++ leBytes 4 (crc32 d)) (4 * i) 4) ∈ t.out := by
  generalize hd : frameBytes (planeIn g.toNat (natOfBool sh) s) g.toNat f.val s = d
  have hword : icpReadback f.val (natOfBool sh) g.toNat (setF ICP_STATUS_OP 4 s) =
      forEach (fun i s => emit (.icp (fieldAt (d ++ leBytes 4 (crc32 d)) (4 * i) 4)) s) (natsFrom 0 129)
        (icpAnswer 4 g.toNat 0 0 (setF ICP_STATUS_OP 4 s)) := by
    have hloading : ¬(natOfBool sh = 1 ∧ shadowState g.toNat (setF ICP_STATUS_OP 4 s) = shLoading) := by
      rintro ⟨hrole, hst⟩
      refine hsh (by cases sh <;> simp_all [natOfBool]) ?_
      rwa [(regionsKept_icpOp 4 s).shadowState hg] at hst
    have hout := frameOut_clean (s := setF ICP_STATUS_OP 4 s) hflips g.toNat (natOfBool sh) f.val
    rw [planeIn_icpOp hg] at hout
    rw [icpReadback, if_neg (by omega), readbackOk_icpOp hg, hok, if_neg (by decide), if_neg hloading, hout, ← hd]
    rfl
  obtain ⟨t, hruns, hend, hout⟩ := runs_fin (i := .icpReadback g f sh)
    ((congrArg fin (icpRun_takes h hg _)).trans (congrArg fin hword))
  have hnote := (Noted.emit (.icp (icpWord 4 g.toNat 0 0)) _).trans ((Noted.forEach (fun _ _ => Noted.emit _) _).trans hend)
  rw [forEach_emit_out] at hout
  refine ⟨d, t, rfl, hruns, hnote, hout (by simp [icpAnswer]), fun i hi => hout ?_⟩
  exact List.mem_append_right _ (List.mem_map.2 ⟨i, mem_natsFrom.2 (by omega), rfl⟩)

/-- READBACK that is not permitted answers DENIED and sets RB_DENIED (R232). -/
theorem icpReadback_denied {s : State} {g : BitVec 7} {f : Fin 4096} {sh : Bool} (h : icpTakes s = true) (hg : g.toNat < 80)
    (hf : f.val < 2304) (hno : readbackOk g.toNat (natOfBool sh) s = false) : ∃ t, Runs (.icpReadback g f sh) s t ∧
      getF CFG_STATUS_RB_DENIED t = 1 ∧ .icp (icpWord 4 g.toNat 4 0) ∈ t.out := by
  have hword : icpReadback f.val (natOfBool sh) g.toNat (setF ICP_STATUS_OP 4 s) =
      icpAnswer 4 g.toNat 4 0 (readbackDenied (setF ICP_STATUS_OP 4 s)) := by
    rw [icpReadback, if_neg (by omega), readbackOk_icpOp hg, hno]
    rfl
  obtain ⟨t, hruns, hend, hout⟩ := runs_icpAnswer (i := .icpReadback g f sh)
    ((congrArg fin (icpRun_takes h hg _)).trans (congrArg fin hword))
  have hdenied := ((Noted.sbEvent 0x030D [] (setF CFG_STATUS_RB_DENIED 1 (setF ICP_STATUS_OP 4 s))).setF ICP_STATUS_BUSY 0).trans hend
  refine ⟨t, hruns, ?_, hout⟩
  rw [hdenied.regs _ (by decide) (by unfold noteAddr; decide), getF_setF_other _ _ (by decide), getF_setF_same]
  rfl

/-- STATUS answers RGN_STATUS (R226). -/
theorem icpStatus_answers {s : State} {g : BitVec 7} (h : icpTakes s = true) (hg : g.toNat < 80) : ∃ t, Runs (.icpStatus g) s t ∧
    Noted (setF ICP_STATUS_BUSY 0 (setF ICP_STATUS_OP 5 s)) t ∧ .icp (icpWord 5 g.toNat 0 (rgnStatusWord g.toNat s)) ∈ t.out := by
  have hrun : exec (.icpStatus g) s =
      fin (icpAnswer 5 g.toNat 0 (rgnStatusWord g.toNat (setF ICP_STATUS_OP 5 s)) (setF ICP_STATUS_OP 5 s)) :=
    congrArg fin (icpRun_takes h hg _)
  rw [rgnStatusWord_icpOp hg] at hrun
  exact runs_icpAnswer hrun

/-- A reserved OP answers BAD_OP (R226). -/
theorem icpBadOp_answers {s : State} {op : Fin 10} {g : BitVec 7} (h : icpTakes s = true) : ∃ t, Runs (.icpBadOp op g) s t ∧
    Noted (setF ICP_STATUS_BUSY 0 (setF ICP_STATUS_BAD_WORD 1 (setF ICP_STATUS_OP (op.val + 6) s))) t ∧
    .icp (icpWord (op.val + 6) g.toNat 2 0) ∈ t.out :=
  runs_icpAnswer (congrArg fin (if_pos h))

/-- An abort of a load into a shadow leaves the shadow BLANK (R225). -/
theorem icpAbort_ends {s : State} {l : Load} (hl : s.cfg.load = some l) (hsrc : l.src = 4) (ha : l.active = false) (hr : l.region < 80)
    (hen : isSet ICP_CTRL_EN s = true) (hport : getF ICP_CTRL_REGION s < 80) (hiso : fpState (getF ICP_CTRL_REGION s) s ≠ 3)
    (hasleep : fpState (getF ICP_CTRL_REGION s) s ≠ 4) : ∃ t, Runs .icpAbort s t ∧ t.cfg.load = none ∧ getF ICP_STATUS_ABORTED t = 1 ∧
      getF CFG_STATUS_LOAD_BUSY t = 0 ∧ shadowState l.region t = 0 ∧ planeOf (planeIn l.region 1 s) l.region t = planeNone := by
  generalize hu : setF (RGN_STATUS_SHADOW_STATE l.region) 0 (setF ICP_STATUS_ABORTED 1 (planeClear (planeIn l.region 1 s) l.region s)) = u
  have hcut : icpAbort s = icpAnswer 1 l.region 5 0 (sbEvent 0x0303 [(1, 0)] (loadGone u)) := by
    rw [← hu]
    simp only [icpAbort, hl, hsrc, ha, hen, hport, fpIsolated, fpAsleep, ne_eq, hiso, hasleep, not_false_eq_true, and_self, if_true,
      Bool.false_eq_true, if_false, loadCut, loadTell, shBlank]
  obtain ⟨t, hruns, hend, -⟩ := runs_icpAnswer (i := .icpAbort) (congrArg fin hcut)
  have hall : Noted (setF ICP_STATUS_BUSY 0 (loadGone u)) t := ((Noted.sbEvent _ _ _).setF _ _).trans hend
  refine ⟨t, hruns, by rw [hall.cfg]; rfl, ?_, ?_, ?_, ?_⟩
  · rw [hall.regs _ (by decide) (by unfold noteAddr; decide), getF_setF_other _ _ (by decide), loadGone, getF_setF_other _ _ (by decide)]
    show getF _ u = 1
    rw [← hu, getF_setF_addr (by decide) (by simp [RGN_STATUS_SHADOW_STATE]), getF_setF_same]
    · rfl
    · simp only [ICP_STATUS_ABORTED, RGN_STATUS_SHADOW_STATE]
      omega
  · rw [hall.regs _ (by decide) (by unfold noteAddr; decide), getF_setF_other _ _ (by decide), loadGone, getF_setF_same]
    rfl
  · rw [hall.regionsKept.shadowState hr, shadowState, getF_setF_addr (by simp [RGN_STATUS_SHADOW_STATE]) (by decide), loadGone,
      getF_setF_addr (by simp [RGN_STATUS_SHADOW_STATE]) (by decide)]
    · show shadowState l.region u = 0
      rw [← hu, shadowState_setF_same]
    all_goals
      simp only [RGN_STATUS_SHADOW_STATE, ICP_STATUS_BUSY, CFG_STATUS_LOAD_BUSY]
      omega
  · rw [planeOf_congr hall.cfg]
    show planeOf _ _ u = planeNone
    rw [← hu]
    exact (planeClear_cleared _ _ _).source

/-- Settles O32: each clause is the lemma of its word above. -/
theorem icpCommands : Obligations.IcpCommands := by
  unfold Obligations.IcpCommands
  refine ⟨fun _ => icpNop_taken, fun _ => icpNop_ignored, fun _ _ _ => icpLoad_begins, fun _ _ _ _ => icpLoad_refused,
    fun s g h hl hg => ?_, fun _ _ _ _ _ _ h hg hstop => ⟨icpSwapAt_writes h hg hstop, icpSwapAt_refused h hg⟩,
    fun _ _ _ _ h hg hf => ⟨icpReadback_answers h hg hf, icpReadback_denied h hg hf⟩, fun _ _ => icpStatus_answers,
    fun _ _ _ => icpBadOp_answers, fun _ _ => icpAbort_ends⟩
  obtain ⟨t, hruns, hout, hshadow, hclear⟩ := icpClear_clears h hl hg
  exact ⟨t, hruns, hout, hshadow, hclear.source, hclear.frames⟩

end Sys2Proof.Machine
end

section
/-! SUPPORT. How a load through the ICP ends (R222, R226): what a rejected and a completed load leave of the shadow it was for. -/

namespace Sys2Proof.Machine

/-- The region a field speaks of keeps it when a register outside RGN_STATUS is written. -/
theorem shadowState_setF_addr {g : Nat} {f : Fld} (hl : f.lo < 32) (h : f.addr ≠ 0x3F00810000 + g * 0x20) (v : Nat) (s : State) :
    shadowState g (setF f v s) = shadowState g s :=
  getF_setF_addr (by simp [RGN_STATUS_SHADOW_STATE]) hl (Ne.symm h) v s

/-- A load into a shadow has been rejected: none runs any more, the shadow is BLANK and clear, and the reason is shown (R222). -/
structure LoadRejected (l : Load) (p c : Nat) (t : State) : Prop where
  load : t.cfg.load = none
  busy : getF CFG_STATUS_LOAD_BUSY t = 0
  shadow : shadowState l.region t = 0
  reason : getF (RGN_SWAPS_LAST_REASON l.region) t = c % 256
  source : planeOf p l.region t = planeNone
  told : .icp (icpWord 1 l.region 5 c) ∈ t.out

/-- A load into a shadow is complete: none runs any more, and the shadow is READY with what the image says (R222). -/
structure LoadCompleted (l : Load) (p : Nat) (x : Plane) (t : State) : Prop where
  load : t.cfg.load = none
  busy : getF CFG_STATUS_LOAD_BUSY t = 0
  shadow : shadowState l.region t = 2
  source : planeOf p l.region t = x
  failed : getF (RGN_STATUS_REPAIR_FAILED l.region) t = 0
  told : .icp (icpWord 1 l.region 0 0) ∈ t.out

/-- A load through the ICP with all its words is checked as it stands, and rejected with the reason of a check that fails (R219, R226). -/
theorem loadRun_rejects {s : State} {l : Load} {c : Nat} (hl : s.cfg.load = some l) (hsrc : l.src = 4) (hfed : loadFed l = true)
    (hcheck : regionCheck l (l.data.take 1024) ((l.data.drop 1024).take (fieldAt l.data 48 4)) true s = .inl c) (agree : Bool) :
    loadRun false agree s = loadReject l c s := by
  simp [loadRun, hl, hfed, loadBytes, hsrc, hcheck]

/-- Such a load is done where no check fails and its frames read back as written (R222). -/
theorem loadRun_completes {s : State} {l : Load} {fs : List FrameAt} {x : Plane} (hl : s.cfg.load = some l) (hsrc : l.src = 4)
    (hfed : loadFed l = true)
    (hcheck : regionCheck l (l.data.take 1024) ((l.data.drop 1024).take (fieldAt l.data 48 4)) true s = .inr (fs, x)) :
    loadRun false true s = loadDone l fs x s := by
  simp [loadRun, hl, hfed, loadBytes, hsrc, hcheck]

/-- Rejecting a load into a shadow that came through the ICP. -/
theorem runs_loadReject {i : Instr} {s : State} {l : Load} {c : Nat} (hsrc : l.src = 4) (ha : l.active = false) (hr : l.region < 80)
    (h : exec i s = fin (loadReject l c s)) : ∃ t, Runs i s t ∧ LoadRejected l (planeIn l.region 1 s) c t := by
  generalize hu : setF (RGN_STATUS_SHADOW_STATE l.region) 0 (planeClear (planeIn l.region 1 s) l.region s) = u
  have hword : loadReject l c s =
      icpAnswer 1 l.region 5 c (whRaise 40 (sbEvent 0x0303 [(1, c)] (setF (RGN_SWAPS_LAST_REASON l.region) c (loadGone u)))) := by
    rw [← hu]
    simp only [loadReject, loadTell, hsrc, ha, if_true, Bool.false_eq_true, if_false, shBlank]
  obtain ⟨t, hruns, hend, hout⟩ := runs_icpAnswer (h.trans (congrArg fin hword))
  have hall : Noted (setF ICP_STATUS_BUSY 0 (setF (RGN_SWAPS_LAST_REASON l.region) c (loadGone u))) t :=
    (((Noted.sbEvent _ _ _).trans (Noted.whRaise (by decide) _)).setF _ _).trans hend
  refine ⟨t, hruns, by rw [hall.cfg]; rfl, ?_, ?_, ?_, ?_, hout⟩
  · rw [hall.regs _ (by decide) (by unfold noteAddr; decide), getF_setF_other _ _ (by decide), getF_setF_addr (by decide)
      (by simp [RGN_SWAPS_LAST_REASON]), loadGone, getF_setF_same]
    · rfl
    · simp only [CFG_STATUS_LOAD_BUSY, RGN_SWAPS_LAST_REASON]
      omega
  · rw [hall.regionsKept.shadowState hr, shadowState_setF_addr (by decide), shadowState_setF_addr (by simp [RGN_SWAPS_LAST_REASON]),
      loadGone, shadowState_setF_addr (by decide)]
    · show shadowState l.region u = 0
      rw [← hu, shadowState_setF_same]
    all_goals
      simp only [ICP_STATUS_BUSY, CFG_STATUS_LOAD_BUSY, RGN_SWAPS_LAST_REASON]
      omega
  · rw [hall.regs _ (by simp [RGN_SWAPS_LAST_REASON]), getF_setF_addr (by simp [RGN_SWAPS_LAST_REASON]) (by decide), getF_setF_same]
    · rfl
    all_goals
      simp only [noteAddr, RGN_SWAPS_LAST_REASON, ICP_STATUS_BUSY]
      omega
  · rw [planeOf_congr hall.cfg]
    show planeOf _ _ u = planeNone
    rw [← hu]
    exact (planeClear_cleared _ _ _).source

/-- Completing a load into a shadow that came through the ICP. -/
theorem runs_loadDone {i : Instr} {s : State} {l : Load} {fs : List FrameAt} {x : Plane} (hsrc : l.src = 4) (ha : l.active = false)
    (hr : l.region < 80) (h : exec i s = fin (loadDone l fs x s)) : ∃ t, Runs i s t ∧ LoadCompleted l (planeIn l.region 1 s) x t := by
  generalize hu : setF (RGN_STATUS_REPAIR_FAILED l.region) 0
    (repairFollow l.region (planeSet (planeIn l.region 1 s) l.region x (framesWrite (planeIn l.region 1 s) l.region fs s))) = u
  generalize hv : (if (natsFrom 0 80).any (fun r => isSet (RGN_STATUS_REPAIR_FAILED r) u) then u else alarmGone 0x09 u) = v
  have hgone : Noted u v := by
    rw [← hv]
    split
    · exact Noted.refl u
    · exact Noted.alarmGone _ u
  have hword : loadDone l fs x s =
      icpAnswer 1 l.region 0 0 (sbEvent 0x0302 [] (loadGone (setF (RGN_STATUS_SHADOW_STATE l.region) 2 v))) := by
    rw [← hv, ← hu]
    simp only [loadDone, loadTell, hsrc, ha, if_true, Bool.false_eq_true, if_false, shReady]
  obtain ⟨t, hruns, hend, hout⟩ := runs_icpAnswer (h.trans (congrArg fin hword))
  have hall : Noted (setF ICP_STATUS_BUSY 0 (loadGone (setF (RGN_STATUS_SHADOW_STATE l.region) 2 v))) t :=
    ((Noted.sbEvent _ _ _).setF _ _).trans hend
  refine ⟨t, hruns, by rw [hall.cfg]; rfl, ?_, ?_, ?_, ?_, hout⟩
  · rw [hall.regs _ (by decide) (by unfold noteAddr; decide), getF_setF_other _ _ (by decide), loadGone, getF_setF_same]
    rfl
  · rw [hall.regionsKept.shadowState hr, shadowState_setF_addr (by decide), loadGone, shadowState_setF_addr (by decide)]
    · exact shadowState_setF_same _ 2 v
    all_goals
      simp only [ICP_STATUS_BUSY, CFG_STATUS_LOAD_BUSY]
      omega
  · rw [planeOf_congr hall.cfg]
    show planeOf _ _ v = x
    rw [planeOf_congr hgone.cfg, ← hu]
    exact planeOf_planeSet_same _ _ _ _
  · rw [hall.regionsKept.regs _ (by simp [RGN_STATUS_REPAIR_FAILED]), getF_setF_addr (by simp [RGN_STATUS_REPAIR_FAILED]) (by decide),
      loadGone, getF_setF_addr (by simp [RGN_STATUS_REPAIR_FAILED]) (by decide)]
    · show getF _ (setF (RGN_STATUS_SHADOW_STATE l.region) 2 v) = 0
      rw [getF_setF_other, hgone.regionsKept.regs _ (by simp [RGN_STATUS_REPAIR_FAILED]), ← hu, getF_setF_same]
      · rfl
      all_goals
        simp only [regionAddr, fldKey, RGN_STATUS_REPAIR_FAILED, RGN_STATUS_SHADOW_STATE]
        omega
    all_goals
      simp only [regionAddr, RGN_STATUS_REPAIR_FAILED, ICP_STATUS_BUSY, CFG_STATUS_LOAD_BUSY]
      omega

end Sys2Proof.Machine
end

section
/-! Loads that end, the drain before a swap, and the end of its window (R222, R227, R230, R231), clause by clause. -/

namespace Sys2Proof.Machine

/-- A load whose header fails check 3 of R219 is rejected with reason 3. -/
theorem regionCheck_badHeader {l : Load} {s : State} {h : List (BitVec 8)} (hbad : regionHdrOk l.region s.boot.build h = false)
    (body : List (BitVec 8)) (good : Bool) : regionCheck l h body good s = .inl 3 := by
  rw [regionCheck, hbad]
  rfl

/-- A load that fails a check is rejected with that check's reason (R222). -/
theorem regionLoadComplete_rejects {s : State} {l : Load} {c : Nat} {agree : Bool} (hl : s.cfg.load = some l) (hsrc : l.src = 4)
    (ha : l.active = false) (hr : l.region < 80) (hfed : loadFed l = true)
    (hcheck : regionCheck l (l.data.take 1024) ((l.data.drop 1024).take (fieldAt l.data 48 4)) true s = .inl c) :
    ∃ t, Runs (.regionLoadComplete false agree) s t ∧ LoadRejected l (planeIn l.region 1 s) c t :=
  runs_loadReject hsrc ha hr (congrArg fin (loadRun_rejects hl hsrc hfed hcheck agree))

/-- A load that passes its checks, and whose frames read back as written, is complete (R222). -/
theorem regionLoadComplete_completes {s : State} {l : Load} {fs : List FrameAt} {x : Plane} (hl : s.cfg.load = some l) (hsrc : l.src = 4)
    (ha : l.active = false) (hr : l.region < 80) (hfed : loadFed l = true)
    (hcheck : regionCheck l (l.data.take 1024) ((l.data.drop 1024).take (fieldAt l.data 48 4)) true s = .inr (fs, x)) :
    ∃ t, Runs (.regionLoadComplete false true) s t ∧ LoadCompleted l (planeIn l.region 1 s) x t :=
  runs_loadDone hsrc ha hr (congrArg fin (loadRun_completes hl hsrc hfed hcheck))

/-- No load runs: its end changes nothing (log entry 2). -/
theorem regionLoadComplete_idle {s : State} {b a : Bool} (h : s.cfg.load = none) : Does (.regionLoadComplete b a) s s :=
  does_fin rfl (noted_of_eq (by rw [loadRun, h]))

/-- An armed swap within the drain lead drains its region's port, where port and shadow are READY (R227). -/
theorem drainBegin_drains {s : State} {i n : Nat} (hn : slotsUntil (pbOf i s) s = some n) (hen : (pbOf i s).en = true)
    (hact : (pbOf i s).action = 5) (hlead : n ≤ getF CFG_CTRL_DRAIN_LEAD s)
    (hnew : tabFind s.fab.drains (pbOf i s).arg ≠ some ((pbOf i s).turn * 65536 + (pbOf i s).slot))
    (hport : fpState (pbOf i s).arg s = 1) (hshadow : shadowState (pbOf i s).arg s = 2) :
    drainBegin i s = fpSet (pbOf i s).arg 2 2 { s with fab := { s.fab with
      drains := tabPut s.fab.drains (pbOf i s).arg ((pbOf i s).turn * 65536 + (pbOf i s).slot) } } := by
  have hready (x : Fab) : fpState (pbOf i s).arg { s with fab := x } = fpReady ∧ shadowState (pbOf i s).arg { s with fab := x } = shReady :=
    ⟨hport, hshadow⟩
  rw [drainBegin_eq]
  beta_reduce
  rw [hn]
  dsimp only
  rw [if_pos (by simp [hen, hact, hlead, hnew]), swapDrain, if_pos (hready _)]
  rfl

/-- Other ports keep their state when one is set. -/
theorem fpState_fpSet_other {g a : Nat} (st c : Nat) (s : State) (h : a ≠ g) : fpState a (fpSet g st c s) = fpState a s :=
  getF_fpSet_other st c s (by simp only [FP_STATUS_STATE]; omega) (by simp [FP_STATUS_STATE])

/-- A drain drains one port (R227). -/
theorem swapDrainStart_drains {s : State} {i : Fin 4096} {n : Nat} (hrun : isSet GC_CTRL_RUN s = true)
    (hn : slotsUntil (pbOf i.val s) s = some n) (hen : (pbOf i.val s).en = true) (hact : (pbOf i.val s).action = 5)
    (hlead : n ≤ getF CFG_CTRL_DRAIN_LEAD s)
    (hnew : tabFind s.fab.drains (pbOf i.val s).arg ≠ some ((pbOf i.val s).turn * 65536 + (pbOf i.val s).slot))
    (hg : (pbOf i.val s).arg < 80) (hport : fpState (pbOf i.val s).arg s = 1) (hshadow : shadowState (pbOf i.val s).arg s = 2) :
    ∃ t, Runs (.swapDrainStart i) s t ∧ fpState (pbOf i.val s).arg t = 2 ∧ fpCause (pbOf i.val s).arg t = 2 ∧
      ∀ h : Fin 80, h.val ≠ (pbOf i.val s).arg → fpState h t = fpState h s := by
  have hexec : exec (.swapDrainStart i) s = fin (drainBegin i.val s) := congrArg fin (if_pos hrun)
  rw [drainBegin_drains hn hen hact hlead hnew hport hshadow] at hexec
  obtain ⟨t, hruns, hend, -⟩ := runs_fin hexec
  have hkept := hend.regionsKept
  exact ⟨t, hruns, (hkept.fpState hg).trans (fpState_fpSet_same _ _ _ _), (hkept.fpCause hg).trans (fpCause_fpSet_same _ _ _ _),
    fun h hne => (hkept.fpState h.isLt).trans (fpState_fpSet_other _ _ _ hne)⟩

/-- While the clock is stopped no drain begins (log entry 2). -/
theorem swapDrainStart_stopped {s : State} {i : Fin 4096} (h : isSet GC_CTRL_RUN s = false) : Does (.swapDrainStart i) s s :=
  does_fin rfl (noted_of_eq (if_neg (by simp [h])))

/-- No responses wait for a region: delivering them takes nothing. -/
theorem popsDeliver_none {r : Nat} {s : State} (h : tabFind s.fab.heldPops r = none) : popsDeliver r s = s := by
  have hdel : tabSet [] s.fab.heldPops r [] = s.fab.heldPops := (if_pos rfl).trans (tabDel_of_tabFind_none _ h)
  have hget : tabGet [] s.fab.heldPops r = [] := by rw [tabGet, h]; rfl
  rw [popsDeliver, hget, hdel]
  rfl

/-- A swap of region `g` has been counted, its window is closed, and its new plane is scrubbed first (R230, R231). -/
def swapCounted (g : Nat) (s : State) : State :=
  addF (RGN_SWAPS_SWAPS g) 1 { s with
    fab := { s.fab with window := tabDel s.fab.window g }, cfg := { s.cfg with priority := s.cfg.priority ++ [(g, 0)] } }

/-- The end of a swap's window, where no response waits, frees the port; the rest is notes (R230). -/
theorem swapEnd_frees {g : Nat} {s : State} (hc : fpCause g s = 2) (hp : tabFind s.fab.heldPops g = none) :
    Noted (fpSet g (fpFree g s) 0 (swapCounted g s)) (swapEnd g s) := by
  have hcause : fpCause g (swapCounted g s) = fcSwap := by
    rw [fpCause, swapCounted, addF, getF_setF_addr (by simp [FP_STATUS_CAUSE]) (by simp [RGN_SWAPS_SWAPS])]
    · exact hc
    · simp only [FP_STATUS_CAUSE, RGN_SWAPS_SWAPS]
      omega
  have hfree : fpFree g (swapCounted g s) = fpFree g s := by
    have hen : getF (FP_CTRL_ENABLE g) (swapCounted g s) = getF (FP_CTRL_ENABLE g) s := by
      rw [swapCounted, addF, getF_setF_addr (by simp [FP_CTRL_ENABLE]) (by simp [RGN_SWAPS_SWAPS])]
      · rfl
      · simp only [FP_CTRL_ENABLE, RGN_SWAPS_SWAPS]
        omega
    simp only [fpFree, isSet, hen]
    rfl
  have hend : swapEnd g s = sbEvent 0x0304 [] (sbEvent 0x0333 [] (popsDeliver g (fpSet g (fpFree g (swapCounted g s)) fcNone (swapCounted g s)))) := by
    show sbEvent 0x0304 [] (if fpCause g (swapCounted g s) = fcSwap then _ else _) = _
    rw [if_pos hcause]
    rfl
  rw [hend, hfree, popsDeliver_none (s := fpSet g (fpFree g s) fcNone (swapCounted g s)) hp]
  exact (Noted.sbEvent _ _ _).trans (Noted.sbEvent _ _ _)

/-- A window that is over ends (R230, R231). -/
theorem swapWindowEnd_ends {s : State} {g : Fin 80} (hw : s.fab.window = [(g.val, 0)]) (hc : fpCause g s = 2)
    (hp : tabFind s.fab.heldPops g.val = none) : ∃ t, Runs .swapWindowEnd s t ∧ t.fab.window = [] ∧ fpState g t = fpFree g s ∧
      fpCause g t = 0 ∧ t.cfg.priority = s.cfg.priority ++ [(g.val, 0)] ∧
      getF (RGN_SWAPS_SWAPS g) t = (getF (RGN_SWAPS_SWAPS g) s + 1) % 65536 := by
  have hone : swapEnds s = swapEnd g s := by
    rw [swapEnds, hw]
    rfl
  obtain ⟨t, hruns, hend, -⟩ := runs_fin (i := .swapWindowEnd) (congrArg fin hone)
  have hall := (swapEnd_frees hc hp).trans hend
  have hkept := hall.regionsKept
  refine ⟨t, hruns, ?_, ?_, ?_, by rw [hall.cfg]; rfl, ?_⟩
  · rw [hall.fab]
    show tabDel s.fab.window g = []
    rw [hw]
    simp [tabDel]
  · rw [hkept.fpState g.isLt, fpState_fpSet_same]
    exact Nat.mod_eq_of_lt (fpFree_lt _ _)
  · rw [hkept.fpCause g.isLt, fpCause_fpSet_same]
  · rw [hkept.regs _ (by simp [RGN_SWAPS_SWAPS]), getF_fpSet_other _ _ _ _ (by simp [RGN_SWAPS_SWAPS]), swapCounted, addF, getF_setF_same]
    · rfl
    all_goals
      simp only [regionAddr, RGN_SWAPS_SWAPS, FP_STATUS_STATE]
      omega

/-- Settles O33: each clause is the lemma of its case above. -/
theorem loadsAndSwaps : Obligations.LoadsAndSwaps := by
  unfold Obligations.LoadsAndSwaps
  refine ⟨fun s l hl hsrc ha hr hfed => ?_, fun s l hl hsrc ha hr hfed hbad a => ?_, fun _ _ _ => regionLoadComplete_idle,
    fun _ _ _ hrun hn hen hact hlead => swapDrainStart_drains hrun hn hen hact hlead, fun _ _ => swapDrainStart_stopped,
    fun _ _ => swapWindowEnd_ends⟩
  · cases hcheck : regionCheck l (l.data.take 1024) ((l.data.drop 1024).take (fieldAt l.data 48 4)) true s with
    | inl c =>
      obtain ⟨t, hruns, hend⟩ := regionLoadComplete_rejects hl hsrc ha hr hfed hcheck
      exact ⟨t, hruns, hend.load, hend.busy, hend.shadow, hend.source, hend.reason, hend.told⟩
    | inr fx =>
      obtain ⟨t, hruns, hend⟩ := regionLoadComplete_completes hl hsrc ha hr hfed hcheck
      exact ⟨t, hruns, hend.load, hend.busy, hend.shadow, hend.source, hend.failed, hend.told⟩
  · obtain ⟨t, hruns, hend⟩ := regionLoadComplete_rejects (agree := a) hl hsrc ha hr hfed (regionCheck_badHeader hbad _ _)
    exact ⟨t, hruns, hend.load, hend.busy, hend.shadow, hend.reason, hend.source, hend.told⟩

end Sys2Proof.Machine
end

section
/-! SUPPORT. SCRUB_CTRL (R240): what its new values leave in the scrubber's registers. -/

namespace Sys2Proof.Machine

/-- A meaning that also lets the guarantee follow: the state reached differs from `v` by notes, and keeps its latched alarms. -/
theorem runs_finG_logged {i : Instr} {s v : State} (h : exec i s = finG v) (hs : NotSafe 0x13 v) :
    ∃ t, Runs i s t ∧ Noted v t ∧ Logged v t :=
  ⟨_, h, (Noted.guaranteeFollow hs).trans (Noted.whSettle _), (Logged.guaranteeFollow (.inl hs)).trans (Logged.whSettle _)⟩

theorem scrubCtrl_fields : regFields 0x3F00840000 =
    [⟨0, 1, .rw, .now, 1⟩, ⟨1, 1, .rw, .now, 1⟩, ⟨2, 1, .rw, .now, 1⟩, ⟨3, 1, .rw, .now, 1⟩] := by decide +kernel

/-- A word put into SCRUB_CTRL, field by field. -/
theorem regPoke_scrubCtrl (v : Nat) (s : State) : regPoke 0x3F00840000 v s = setF SCRUB_CTRL_SELFTEST_EN (v / 2 ^ 3)
    (setF SCRUB_CTRL_REPAIR_EN (v / 2 ^ 2) (setF SCRUB_CTRL_SHADOW_EN (v / 2 ^ 1) (setF SCRUB_CTRL_ACTIVE_EN (v / 2 ^ 0) s))) := by
  rw [regPoke, scrubCtrl_fields]
  rfl

/-- The word that SCRUB_CTRL's fields hold. -/
theorem regWord_scrubCtrl (s : State) : regWord 0x3F00840000 s = getF SCRUB_CTRL_ACTIVE_EN s + getF SCRUB_CTRL_SHADOW_EN s * 2 +
    getF SCRUB_CTRL_REPAIR_EN s * 4 + getF SCRUB_CTRL_SELFTEST_EN s * 8 := by
  rw [regWord, scrubCtrl_fields]
  show 0 + getF SCRUB_CTRL_ACTIVE_EN s * 2 ^ 0 + getF SCRUB_CTRL_SHADOW_EN s * 2 ^ 1 + getF SCRUB_CTRL_REPAIR_EN s * 2 ^ 2 +
    getF SCRUB_CTRL_SELFTEST_EN s * 2 ^ 3 = _
  omega

/-- LAPSED holds where a pass or the test frame is off (R240; log entry 75). -/
def scrubLapsed (v : Nat) : Bool := !(bitOf v 0 && bitOf v 1 && bitOf v 3)

theorem scrubLapsed_eq (v : Nat) : decide (v % 16 &&& 0xB ≠ 0xB) = scrubLapsed v := by
  have hlow (i : Nat) (hi : i < 4) : bitOf (v % 16) i = bitOf v i := by
    rw [bitOf_eq_testBit, bitOf_eq_testBit, show 16 = 2 ^ 4 from rfl, Nat.testBit_mod_two_pow]
    simp [hi]
  have hall : ∀ n < 16, decide (n &&& 0xB ≠ 0xB) = scrubLapsed n := by decide
  rw [hall _ (Nat.mod_lt _ (by decide)), scrubLapsed, hlow 0 (by decide), hlow 1 (by decide), hlow 3 (by decide), scrubLapsed]

/-- The scrubber's control has taken the word `v` (R240). -/
structure ScrubSet (v : Nat) (t : State) : Prop where
  active : getF SCRUB_CTRL_ACTIVE_EN t = v / 2 ^ 0 % 2
  shadow : getF SCRUB_CTRL_SHADOW_EN t = v / 2 ^ 1 % 2
  repair : getF SCRUB_CTRL_REPAIR_EN t = v / 2 ^ 2 % 2
  selftest : getF SCRUB_CTRL_SELFTEST_EN t = v / 2 ^ 3 % 2
  lapsed : isSet SCRUB_STATUS_LAPSED t = scrubLapsed v

/-- The scrubber's registers under what leaves them alone. -/
theorem ScrubSet.congr {v : Nat} {s t : State} (h : ScrubSet v s)
    (k : ∀ f : Fld, f.lo < 32 → f.addr = 0x3F00840000 ∨ f.addr = 0x3F00840004 → getF f t = getF f s) : ScrubSet v t where
  active := (k _ (by decide) (.inl rfl)).trans h.active
  shadow := (k _ (by decide) (.inl rfl)).trans h.shadow
  repair := (k _ (by decide) (.inl rfl)).trans h.repair
  selftest := (k _ (by decide) (.inl rfl)).trans h.selftest
  lapsed := by rw [isSet, k _ (by decide) (.inr rfl)]; exact h.lapsed

theorem ScrubSet.noted {v : Nat} {s t : State} (h : ScrubSet v s) (n : Noted s t) : ScrubSet v t :=
  h.congr fun f hl ha => n.regs f hl (by unfold noteAddr; omega)

theorem ScrubSet.word {v : Nat} {t : State} (h : ScrubSet v t) : regWord 0x3F00840000 t % 16 = v % 16 := by
  rw [regWord_scrubCtrl, h.active, h.shadow, h.repair, h.selftest]
  omega

theorem getF_passBegin (f : Fld) (role : Nat) (s : State) : getF f (passBegin role s) = getF f s := by
  unfold passBegin
  split <;> rfl

/-- New values of SCRUB_CTRL write its four fields and LAPSED; what else they do is no register but those of notes (R240). -/
theorem scrubCtrl_writes (v : Nat) (s : State) : ∃ u, scrubCtrl v s = setB SCRUB_STATUS_LAPSED (scrubLapsed v) u ∧
    ∀ f : Fld, f.lo < 32 → ¬ noteAddr f.addr → getF f u = getF f (regPoke 0x3F00840000 (v % 16) s) := by
  have hcfg (f : Fld) (u : State) (x : Cfg) : getF f { u with cfg := x } = getF f u := rfl
  refine ⟨_, congrArg (setB SCRUB_STATUS_LAPSED · _) (scrubLapsed_eq v), fun f hl hf => ?_⟩
  have hevents (l : List Nat) (u : State) : getF f (forEach (fun _ s => sbEvent 0x030C [] s) l u) = getF f u :=
    (Noted.forEach (fun _ _ s => Noted.sbEvent _ _ s) u).regs f hl hf
  simp only [apply_ite (getF f), getF_passBegin, getF_stopTimer, hcfg, hevents, ite_self]

theorem scrubCtrl_set (v : Nat) (s : State) : ScrubSet v (scrubCtrl v s) := by
  obtain ⟨u, hset, hu⟩ := scrubCtrl_writes v s
  have hreg {f : Fld} (hl : f.lo < 32) (ha : f.addr = 0x3F00840000) :
      getF f (setB SCRUB_STATUS_LAPSED (scrubLapsed v) u) = getF f (regPoke 0x3F00840000 (v % 16) s) := by
    rw [setB, getF_setF_addr hl (by decide) (by rw [ha]; decide), hu f hl (by unfold noteAddr; omega)]
  have hbit (i : Nat) (hi : i < 4) : v % 16 / 2 ^ i % 2 = v / 2 ^ i % 2 := by interval_cases i <;> omega
  rw [hset]
  refine ⟨?_, ?_, ?_, ?_, ?_⟩
  · rw [hreg (by decide) rfl, regPoke_scrubCtrl, getF_setF_other _ _ (by decide), getF_setF_other _ _ (by decide),
      getF_setF_other _ _ (by decide), getF_setF_same]
    exact hbit 0 (by decide)
  · rw [hreg (by decide) rfl, regPoke_scrubCtrl, getF_setF_other _ _ (by decide), getF_setF_other _ _ (by decide), getF_setF_same]
    exact hbit 1 (by decide)
  · rw [hreg (by decide) rfl, regPoke_scrubCtrl, getF_setF_other _ _ (by decide), getF_setF_same]
    exact hbit 2 (by decide)
  · rw [hreg (by decide) rfl, regPoke_scrubCtrl, getF_setF_same]
    exact hbit 3 (by decide)
  · rw [isSet, setB, getF_setF_same]
    cases scrubLapsed v <;> rfl

/-- SCRUB_CTRL leaves the alarms' policies alone. -/
theorem NotSafe.scrubCtrl {s : State} (h : NotSafe 0x13 s) (v : Nat) : NotSafe 0x13 (scrubCtrl v s) := by
  obtain ⟨u, hset, hu⟩ := scrubCtrl_writes v s
  have hpoke : NotSafe 0x13 (regPoke 0x3F00840000 (v % 16) s) := by
    rw [regPoke_scrubCtrl]
    exact (((h.setF (by decide) (by decide) (by decide) _).setF (by decide) (by decide) (by decide) _).setF (by decide) (by decide)
      (by decide) _).setF (by decide) (by decide) (by decide) _
  have hmid : NotSafe 0x13 u := by
    rw [NotSafe, hu _ (by decide) (by unfold noteAddr; decide)]
    exact hpoke
  rw [hset]
  exact hmid.setF (by decide) (by decide) (by decide) _

end Sys2Proof.Machine
end

section
/-! SUPPORT. What a packet that enters the network, and with it an isolation, leave of the configuration, and of registers (R207, R271). -/

namespace Sys2Proof.Machine

theorem oncePerSecond_cfg (k code : Nat) (vs : List (Nat × Nat)) (s : State) : (oncePerSecond k (sbEvent code vs) s).cfg = s.cfg := by
  unfold oncePerSecond atMostOnce
  split
  · exact (Noted.sbEvent code vs _).cfg
  · rfl

theorem traceWrite_cfg (p : Nat) (k : Pkt) (s : State) : (traceWrite p k s).cfg = s.cfg := by
  unfold traceWrite
  split
  · rfl
  · dsimp only
    split
    · rfl
    · split
      · exact oncePerSecond_cfg _ _ _ _
      · rfl

theorem inject_cfg (k : Pkt) (s : State) : (inject k s).cfg = s.cfg := by
  have hthreshold (p : Nat) (u : State) : (probeThreshold p u).cfg = u.cfg := by
    unfold probeThreshold
    dsimp only
    split <;> rfl
  dsimp only [inject, probesSee]
  generalize hu : forEach _ _ { s with noc := _ } = u
  have hcount : u.cfg = s.cfg := by
    rw [← hu]
    refine forEach_keeps State.cfg (fun p _ v => ?_) _
    rw [hthreshold]
    split <;> rfl
  split
  · exact hcount
  · exact (traceWrite_cfg _ _ u).trans hcount

theorem tgtError_cfg (x : TReq) (s : State) : (tgtError x s).cfg = s.cfg := by
  unfold tgtError
  split
  · rfl
  · exact inject_cfg _ s

theorem getF_tgtError {f : Fld} (hl : f.lo < 32) (hn : ¬ noteAddr f.addr) (hp : f.addr ≠ PTRACE_STATUS_WPTR.addr) (x : TReq) (s : State) :
    getF f (tgtError x s) = getF f s := by
  unfold tgtError
  split
  · rfl
  · exact (Probed.inject _ s).regs f hl hn hp

/-- An isolation leaves the configuration alone. -/
theorem fabIsolate_cfg (r c : Nat) (s : State) : (fabIsolate r c s).cfg = s.cfg := by
  have hdiscard (u : State) : (popsDiscard r u).cfg = u.cfg := by
    refine (forEach_keeps State.cfg (fun c _ v => ?_) _).trans rfl
    split <;> rfl
  unfold fabIsolate
  split
  · rfl
  · dsimp only
    rw [whenS_keeps State.cfg (fun u => (Noted.sbEvent _ _ u).cfg), hdiscard, tgtErrorAll]
    exact forEach_keeps State.cfg (fun x _ u => tgtError_cfg x u) _

/-- An isolation writes FP_STATUS of its port, and else no register but those of notes and of the probes' trace. -/
theorem getF_fabIsolate {f : Fld} {r : Nat} (c : Nat) (s : State) (hl : f.lo < 32) (hn : ¬ noteAddr f.addr)
    (hp : f.addr ≠ PTRACE_STATUS_WPTR.addr) (hr : f.addr ≠ (FP_STATUS_STATE r).addr) : getF f (fabIsolate r c s) = getF f s := by
  unfold fabIsolate
  split
  · rfl
  · dsimp only
    rw [(Noted.whenS (Noted.sbEvent 0x0332 []) _ _).regs f hl hn, getF_congr (popsDiscard_regs _ _), tgtErrorAll,
      forEach_keeps (getF f) (fun x _ u => getF_tgtError hl hn hp x u)]
    exact getF_fpSet_other fpIsolated c s hr hl

/-- Isolation for FENCE begins where nothing isolates the port (R201, R238). -/
theorem fabIsolate_fence {g : Nat} {s : State} (hg : g < 80) (h : fpCause g s = 0) : IsolatedBy 3 g s (fabIsolate g fcFence s) := by
  rw [fabIsolate, if_neg (by simp only [fcAsleep, fcFence]; omega)]
  have htgt := (isolatedBy_fpSet (g := g) (c := fcFence) (by decide) s).kept hg
    (.forEach (l := fpTargets g s) (fun x _ => RegionsKept.tgtError x) _)
  exact (htgt.popsDiscard g).kept hg (Noted.whenS (Noted.sbEvent _ _) _ _).regionsKept

end Sys2Proof.Machine
end

section
/-! SUPPORT. The scrubber's reads (R234 to R236): where the next one is, and what it finds in a part on which no other bit has flipped. -/

namespace Sys2Proof.Machine

/-- Notes before a change of the configuration are notes after it. -/
theorem Noted.withCfg {s t : State} (h : Noted s t) (x : Cfg) : Noted { s with cfg := x } { t with cfg := x } := { h with cfg := rfl }

/-- A read of the active pass outside swap windows, short of the pass's end, is of the frame at its position (R231, R234). -/
theorem scrubRead_active {s : State} (hen : isSet SCRUB_CTRL_ACTIVE_EN s = true) (hpos : s.cfg.activePos + 1 < 184320)
    (hw : tabFind s.fab.window (s.cfg.activePos / 2304) = none) (mask : Nat) (selfOk : Bool) {u : State}
    (hu : scrubOne 0 (s.cfg.activePos / 2304) (s.cfg.activePos % 2304) mask s = u) :
    scrubRead 0 mask selfOk s = { u with cfg := { u.cfg with activePos := s.cfg.activePos + 1 } } := by
  have hreads : scrubReads 0 (s.cfg.activePos / 2304) s = true := by simp [scrubReads, hw]
  have hseek : scrubSeek 0 s 81 s.cfg.activePos = s.cfg.activePos := by
    rw [scrubSeek, if_neg (by omega), if_pos hreads]
  have hhere : ¬ 184320 ≤ s.cfg.activePos := by omega
  have hnext : ¬ 184320 ≤ s.cfg.activePos + 1 := by omega
  simp only [scrubRead, hen, hseek, hhere, hnext, hu, if_true, if_false, Bool.not_true, Bool.false_eq_true, zero_ne_one]

/-- The bits that have flipped on a part that had none flipped are those of the mask. -/
theorem frameUpset_flips {s : State} (h : s.cfg.flips = []) (p r f mask : Nat) :
    tabGet 0 (frameUpset p r f mask s).cfg.flips (frameKey p r f) = mask := by
  have hupd : (frameUpset p r f mask s).cfg.flips = tabUpd 0 [] (frameKey p r f) (· ^^^ mask) := by rw [frameUpset, h]
  rw [hupd, tabUpd, tabGet_tabSet_same]
  exact Nat.zero_xor mask

/-- No bit flips. -/
theorem frameUpset_none {s : State} (h : s.cfg.flips = []) (p r f : Nat) : frameUpset p r f 0 s = s := by
  have hupd : tabUpd 0 s.cfg.flips (frameKey p r f) (· ^^^ 0) = s.cfg.flips := by
    rw [h]
    exact if_pos (Nat.xor_self 0)
  rw [frameUpset, hupd]

/-- Correcting the only frame with flipped bits leaves none flipped. -/
theorem frameUpset_corrected {s : State} (h : s.cfg.flips = []) (p r f mask : Nat) :
    tabDel (frameUpset p r f mask s).cfg.flips (frameKey p r f) = s.cfg.flips := by
  have hupd : (frameUpset p r f mask s).cfg.flips = tabSet 0 [] (frameKey p r f) (0 ^^^ mask) := by rw [frameUpset, h]; rfl
  rw [hupd, h, tabSet]
  split
  · rfl
  · exact if_pos rfl

/-- A read of the active pass where no bit has flipped changes nothing (R235). -/
theorem scrubOne_clean {s : State} (h : s.cfg.flips = []) (r f : Nat) : scrubOne 0 r f 0 s = s := by
  have hfind : frameFind (tabGet 0 s.cfg.flips (frameKey (planeIn r 0 s) r f)) (freeNat s) = .clean := by rw [h]; exact if_pos rfl
  simp only [scrubOne, frameUpset_none h, zero_ne_one, false_and, if_false, frameScrub, hfind]

/-- A corrected frame is written back and counted (R235). -/
theorem scrubOne_corrected {s : State} {mask : Nat} (h : s.cfg.flips = []) (hfind : frameFind mask (freeNat s) = .corrected) (r f : Nat) :
    Noted (incC (ctScrub 0) (incC (ctRgn r 0) s)) (scrubOne 0 r f mask s) := by
  generalize hu : frameUpset (planeIn r 0 s) r f mask s = u
  have hfound : frameFind (tabGet 0 u.cfg.flips (frameKey (planeIn r 0 s) r f)) (freeNat u) = .corrected := by
    rw [← hu, frameUpset_flips h]
    exact hfind
  have hback : { u with cfg := { u.cfg with flips := tabDel u.cfg.flips (frameKey (planeIn r 0 s) r f) } } = s := by
    rw [← hu, frameUpset_corrected h]
    rfl
  have hone : scrubOne 0 r f mask s = whRaise 41 (sbEvent 0x0307 [(2, r), (2, f)] (incC (ctScrub 0) (incC (ctRgn r 0) s))) := by
    simp only [scrubOne, hu, zero_ne_one, false_and, if_false, frameScrub, hfound, hback]
  rw [hone]
  exact (Noted.sbEvent _ _ _).trans (Noted.whRaise (by decide) _)

/-- An uncorrectable frame is handed to its fence and repair (R236). -/
theorem scrubOne_uncorrectable {s : State} {mask k : Nat} (h : s.cfg.flips = [])
    (hfind : frameFind mask (freeNat s) = .uncorrectable k) (r f : Nat) : scrubOne 0 r f mask s =
      uncorrectable (planeIn r 0 s) r f k (useFree (frameUpset (planeIn r 0 s) r f mask s)) := by
  generalize hu : frameUpset (planeIn r 0 s) r f mask s = u
  have hfound : frameFind (tabGet 0 u.cfg.flips (frameKey (planeIn r 0 s) r f)) (freeNat u) = .uncorrectable k := by
    rw [← hu, frameUpset_flips h]
    exact hfind
  simp only [scrubOne, hu, zero_ne_one, false_and, if_false, frameScrub, hfound]

/-- The log of an uncorrectable frame writes SCRUB_UE_LOG alone. -/
theorem getF_ueLog {g : Fld} (hl : g.lo < 32) (ha : g.addr ≠ 0x3F0084000C) (r f role kind : Nat) (s : State) :
    getF g (ueLog r f role kind s) = getF g s := by
  unfold ueLog
  split
  · rfl
  · rw [getF_setF_addr hl (by decide) ha, getF_setF_addr hl (by decide) ha, getF_setF_addr hl (by decide) ha,
      getF_setF_addr hl (by decide) ha, getF_setF_addr hl (by decide) ha]

/-- Writing the log is writing registers: all else of the state stays. -/
theorem ueLog_shape (r f role kind : Nat) (s : State) : ∃ x, ueLog r f role kind s = { s with regs := x } := by
  unfold ueLog
  split
  · exact ⟨s.regs, rfl⟩
  · exact ⟨_, rfl⟩

/-- An uncorrectable frame has been counted, logged and noted (R236). -/
def ueNoted (r f kind : Nat) (s : State) : State :=
  whRaise 42 (sbEvent 0x0308 [] (ueLog r f 0 kind (incC (ctScrub 1) (incC (ctRgn r 1) s))))

/-- What counting, logging and noting an uncorrectable frame leave alone. -/
theorem getF_ueNoted {g : Fld} (hl : g.lo < 32) (hn : ¬ noteAddr g.addr) (ha : g.addr ≠ 0x3F0084000C) (r f kind : Nat) (s : State) :
    getF g (ueNoted r f kind s) = getF g s := by
  rw [ueNoted, ((Noted.sbEvent _ _ _).trans (Noted.whRaise (by decide) _)).regs g hl hn, getF_ueLog hl ha]
  rfl

theorem ueNoted_cfg (r f kind : Nat) (s : State) : (ueNoted r f kind s).cfg = s.cfg := by
  obtain ⟨x, hx⟩ := ueLog_shape r f 0 kind (incC (ctScrub 1) (incC (ctRgn r 1) s))
  rw [ueNoted, ((Noted.sbEvent _ _ _).trans (Noted.whRaise (by decide) _)).cfg, hx]
  rfl

/-- Region `r` is fenced for an uncorrectable frame `f` of plane `p`, whose repair is the only one that waits (R237, R238). -/
structure FencedFor (p r f : Nat) (t : State) : Prop where
  state : fpState r t = 3
  cause : fpCause r t = 3
  fenced : getF (RGN_STATUS_FENCED r) t = 1
  pending : getF (RGN_STATUS_REPAIR_PENDING r) t = 1
  repair : ∃ x, t.cfg.repairs = [x] ∧ x.plane = p ∧ x.region = r ∧ x.frame = f

theorem FencedFor.kept {p r f : Nat} {s t : State} (h : FencedFor p r f s) (hr : r < 80) (k : RegionsKept s t)
    (hc : t.cfg.repairs = s.cfg.repairs) : FencedFor p r f t where
  state := (k.fpState hr).trans h.state
  cause := (k.fpCause hr).trans h.cause
  fenced := (k.regs _ (by simp [RGN_STATUS_FENCED]) (by simp only [regionAddr, RGN_STATUS_FENCED]; omega)).trans h.fenced
  pending := (k.regs _ (by simp [RGN_STATUS_REPAIR_PENDING]) (by simp only [regionAddr, RGN_STATUS_REPAIR_PENDING]; omega)).trans h.pending
  repair := by rw [hc]; exact h.repair

/-- The fence of a region for an uncorrectable frame, before the frame's repair is queued (R238). -/
def ueFenced (r f kind : Nat) (s : State) : State := fabIsolate r fcFence (setF (RGN_STATUS_FENCED r) 1 (ueNoted r f kind s))

/-- The fence writes RGN_STATUS and FP_STATUS of its region, the log, notes and the probes' trace; no other register. -/
theorem getF_ueFenced {g : Fld} {r : Nat} (hl : g.lo < 32) (hn : ¬ noteAddr g.addr) (hp : g.addr ≠ PTRACE_STATUS_WPTR.addr)
    (hlog : g.addr ≠ 0x3F0084000C) (hst : g.addr ≠ 0x3F00810000 + r * 0x20) (hfp : g.addr ≠ (FP_STATUS_STATE r).addr) (f kind : Nat)
    (s : State) : getF g (ueFenced r f kind s) = getF g s := by
  rw [ueFenced, getF_fabIsolate _ _ hl hn hp hfp, getF_setF_addr hl (by simp [RGN_STATUS_FENCED]) hst, getF_ueNoted hl hn hlog]

theorem ueFenced_cfg (r f kind : Nat) (s : State) : (ueFenced r f kind s).cfg = s.cfg := by
  rw [ueFenced, fabIsolate_cfg, setF_cfg, ueNoted_cfg]

/-- The port of the region is isolated with cause FENCE, and FENCED is set (R238). -/
theorem ueFenced_isolated {r : Nat} {s : State} (hr : r < 80) (hc : fpCause r s = 0) (f kind : Nat) :
    fpState r (ueFenced r f kind s) = 3 ∧ fpCause r (ueFenced r f kind s) = 3 ∧ getF (RGN_STATUS_FENCED r) (ueFenced r f kind s) = 1 := by
  have hfree : fpCause r (setF (RGN_STATUS_FENCED r) 1 (ueNoted r f kind s)) = 0 := by
    rw [fpCause, getF_setF_addr (by simp [FP_STATUS_CAUSE]) (by simp [RGN_STATUS_FENCED]), getF_ueNoted (by simp [FP_STATUS_CAUSE])]
    · exact hc
    all_goals
      simp only [noteAddr, FP_STATUS_CAUSE, RGN_STATUS_FENCED]
      omega
  have hiso := fabIsolate_fence hr hfree
  refine ⟨hiso.state, hiso.cause, ?_⟩
  rw [ueFenced, getF_fabIsolate _ _ (by simp [RGN_STATUS_FENCED]), getF_setF_same]
  · rfl
  all_goals
    simp only [noteAddr, RGN_STATUS_FENCED, PTRACE_STATUS_WPTR, FP_STATUS_STATE]
    omega

/-- An uncorrectable frame of an active plane, where no repair waits and the region's policy is not SAFE: the region is fenced, and the
frame's repair is queued (R236 to R238). -/
theorem uncorrectable_queues {r f kind : Nat} {s : State} (hr : r < 80) (hpolicy : getF (RGN_CFG_FENCE_POLICY r) s ≠ 2)
    (hrep : s.cfg.repairs = []) : ∃ x : Repair, uncorrectable (planeIn r 0 s) r f kind s =
      setF (RGN_STATUS_REPAIR_PENDING r) 1 { ueFenced r f kind s with cfg := { s.cfg with repairs := [x] } } ∧
      x.plane = planeIn r 0 s ∧ x.region = r ∧ x.frame = f := by
  generalize hv : ueFenced r f kind s = v
  have hnone : (ueNoted r f kind s).cfg.repairs = [] := by rw [ueNoted_cfg, hrep]
  have hcfg : v.cfg = s.cfg := by rw [← hv, ueFenced_cfg]
  have hkeeps : getF (RGN_CFG_FENCE_POLICY r) v ≠ 2 := by
    rw [← hv, getF_ueFenced (by simp [RGN_CFG_FENCE_POLICY])]
    · exact hpolicy
    all_goals
      simp only [noteAddr, RGN_CFG_FENCE_POLICY, PTRACE_STATUS_WPTR, FP_STATUS_STATE]
      omega
  have hnoted : whRaise 42 (sbEvent 0x0308 [] (ueLog r f 0 kind (incC (ctScrub 1) (incC (ctRgn r 1) s)))) = ueNoted r f kind s := rfl
  have hfence : fabIsolate r fcFence (setF (RGN_STATUS_FENCED r) 1 (ueNoted r f kind s)) = v := hv
  refine ⟨⟨planeIn r 0 s, r, f, v.time.us, isSet SCRUB_CTRL_REPAIR_EN v, decide (getF (RGN_CFG_FENCE_POLICY r) v = 1)⟩, ?_, rfl, rfl, rfl⟩
  simp [uncorrectable, hnoted, hnone, hfence, hkeeps, hcfg, hrep]

/-- Such a frame leaves its region fenced, and the policy of the guarantee's alarm as it was. -/
theorem uncorrectable_fences {r f kind : Nat} {s : State} (hr : r < 80) (hpolicy : getF (RGN_CFG_FENCE_POLICY r) s ≠ 2)
    (hc : fpCause r s = 0) (hrep : s.cfg.repairs = []) (hs : NotSafe 0x13 s) :
    FencedFor (planeIn r 0 s) r f (uncorrectable (planeIn r 0 s) r f kind s) ∧
      NotSafe 0x13 (uncorrectable (planeIn r 0 s) r f kind s) := by
  obtain ⟨x, hx, hplane, hregion, hframe⟩ := uncorrectable_queues (f := f) (kind := kind) hr hpolicy hrep
  obtain ⟨hstate, hcause, hfenced⟩ := ueFenced_isolated hr hc f kind
  rw [hx]
  have hkept (g : Fld) (hne : fldKey g ≠ fldKey (RGN_STATUS_REPAIR_PENDING r)) : getF g (setF (RGN_STATUS_REPAIR_PENDING r) 1
      { ueFenced r f kind s with cfg := { s.cfg with repairs := [x] } }) = getF g (ueFenced r f kind s) := getF_setF_other _ _ hne
  refine ⟨⟨(hkept _ ?_).trans hstate, (hkept _ ?_).trans hcause, (hkept _ ?_).trans hfenced, getF_setF_same _ 1 _, x, rfl, hplane,
    hregion, hframe⟩, ?_⟩
  iterate 3
    · simp only [fldKey, FP_STATUS_STATE, FP_STATUS_CAUSE, RGN_STATUS_FENCED, RGN_STATUS_REPAIR_PENDING]
      omega
  · have hguard : NotSafe 0x13 (ueFenced r f kind s) := by
      rw [NotSafe, getF_ueFenced (g := policyFld 0x13) (by decide) (by unfold noteAddr; decide) (by decide) (by decide)]
      · exact hs
      all_goals
        simp only [show (policyFld 0x13).addr = 0x3F00F00014 from rfl, FP_STATUS_STATE]
        omega
    exact NotSafe.setF (s := { ueFenced r f kind s with cfg := { s.cfg with repairs := [x] } }) hguard (by decide)
      (by simp [RGN_STATUS_REPAIR_PENDING]) (by simp only [RGN_STATUS_REPAIR_PENDING]; omega) 1

end Sys2Proof.Machine
end

section
/-! SCRUB_CTRL and the scrubber's reads (R234 to R240), clause by clause. -/

namespace Sys2Proof.Machine

/-- SCRUB_CTRL takes the four bits written, and LAPSED follows them (R240; log entry 75). -/
theorem scrubCtrlWrite_stores {s : State} {v : BitVec 32} (hs : NotSafe 0x13 s) : ∃ t, Runs (.scrubCtrlWrite v) s t ∧ ScrubSet v.toNat t := by
  obtain ⟨t, hruns, hend, -⟩ := runs_finG (i := .scrubCtrlWrite v) rfl (hs.scrubCtrl v.toNat)
  exact ⟨t, hruns, (scrubCtrl_set _ _).noted hend⟩

/-- A read of the active pass, outside swap windows and short of the pass's end, is the read of the frame at its position. -/
theorem exec_scrubFrameRead {s u : State} (m : BitVec 4640) (hen : isSet SCRUB_CTRL_ACTIVE_EN s = true)
    (hpos : s.cfg.activePos + 1 < 184320) (hw : tabFind s.fab.window (s.cfg.activePos / 2304) = none)
    (hu : scrubOne 0 (s.cfg.activePos / 2304) (s.cfg.activePos % 2304) m.toNat s = u) :
    exec (.scrubFrameRead 0 m true) s = finG { u with cfg := { u.cfg with activePos := s.cfg.activePos + 1 } } :=
  congrArg finG (scrubRead_active hen hpos hw m.toNat true hu)

/-- A clean frame is passed (R235). -/
theorem scrubFrameRead_clean {s : State} (hs : NotSafe 0x13 s) (hen : isSet SCRUB_CTRL_ACTIVE_EN s = true) (hflips : s.cfg.flips = [])
    (hpos : s.cfg.activePos + 1 < 184320) (hw : tabFind s.fab.window (s.cfg.activePos / 2304) = none) :
    Does (.scrubFrameRead 0 0 true) s { s with cfg := { s.cfg with activePos := s.cfg.activePos + 1 } } := by
  have hone : scrubOne 0 (s.cfg.activePos / 2304) (s.cfg.activePos % 2304) (0 : BitVec 4640).toNat s = s :=
    (congrArg (scrubOne 0 _ _ · s) BitVec.toNat_zero).trans (scrubOne_clean hflips _ _)
  exact does_guarantee (exec_scrubFrameRead 0 hen hpos hw hone) (Noted.refl _) hs

/-- A corrected frame is counted (R235). -/
theorem scrubFrameRead_corrects {s : State} {m : BitVec 4640} (hs : NotSafe 0x13 s) (hen : isSet SCRUB_CTRL_ACTIVE_EN s = true)
    (hflips : s.cfg.flips = []) (hpos : s.cfg.activePos + 1 < 184320) (hw : tabFind s.fab.window (s.cfg.activePos / 2304) = none)
    (hfind : frameFind m.toNat (freeNat s) = .corrected) :
    Does (.scrubFrameRead 0 m true) s (incC (ctScrub 0) (incC (ctRgn (s.cfg.activePos / 2304) 0)
      { s with cfg := { s.cfg with activePos := s.cfg.activePos + 1 } })) := by
  have hone := scrubOne_corrected hflips hfind (s.cfg.activePos / 2304) (s.cfg.activePos % 2304)
  refine does_guarantee (exec_scrubFrameRead m hen hpos hw rfl) ?_ hs
  rw [hone.cfg]
  exact hone.withCfg { s.cfg with activePos := s.cfg.activePos + 1 }

/-- What the scrubber reads as uncorrectable, before it is handed on: the bits have flipped, and one free value is used. -/
def upsetRead (g f mask : Nat) (s : State) : State := useFree (frameUpset (planeIn g 0 s) g f mask s)

theorem getF_upsetRead (x : Fld) (g f mask : Nat) (s : State) : getF x (upsetRead g f mask s) = getF x s := rfl

theorem upsetRead_repairs (g f mask : Nat) (s : State) : (upsetRead g f mask s).cfg.repairs = s.cfg.repairs := rfl

/-- A read that finds an uncorrectable frame in an active plane fences its region and queues its repair (R236 to R238). -/
theorem scrubOne_fences {s : State} {mask k g : Nat} (f : Nat) (hg : g < 80) (hs : NotSafe 0x13 s)
    (hpolicy : getF (RGN_CFG_FENCE_POLICY g) s ≠ 2) (hflips : s.cfg.flips = []) (hrep : s.cfg.repairs = [])
    (hfind : frameFind mask (freeNat s) = .uncorrectable k) (hc : fpCause g s = 0) :
    FencedFor (planeIn g 0 s) g f (scrubOne 0 g f mask s) ∧ NotSafe 0x13 (scrubOne 0 g f mask s) := by
  have hone : scrubOne 0 g f mask s = uncorrectable (planeIn g 0 s) g f k (upsetRead g f mask s) :=
    scrubOne_uncorrectable hflips hfind g f
  have hplane : planeIn g 0 (upsetRead g f mask s) = planeIn g 0 s := by rw [planeIn, getF_upsetRead, planeIn]
  have hmet := uncorrectable_fences (f := f) (kind := k) (s := upsetRead g f mask s) hg (by rwa [getF_upsetRead])
    (by rwa [fpCause, getF_upsetRead]) (by rwa [upsetRead_repairs]) (by rwa [NotSafe, getF_upsetRead])
  rw [hplane] at hmet
  rw [hone]
  exact hmet

/-- An uncorrectable frame fences its region and queues its repair (R236 to R238). -/
theorem scrubFrameRead_fences {s : State} {m : BitVec 4640} {k g : Nat} (hs : NotSafe 0x13 s)
    (hpolicy : getF (RGN_CFG_FENCE_POLICY g) s ≠ 2) (hen : isSet SCRUB_CTRL_ACTIVE_EN s = true) (hflips : s.cfg.flips = [])
    (hrep : s.cfg.repairs = []) (hpos : s.cfg.activePos + 1 < 184320) (hg : g = s.cfg.activePos / 2304)
    (hw : tabFind s.fab.window g = none) (hfind : frameFind m.toNat (freeNat s) = .uncorrectable k) (hc : fpCause g s = 0) :
    ∃ t, Runs (.scrubFrameRead 0 m true) s t ∧ FencedFor (planeIn g 0 s) g (s.cfg.activePos % 2304) t := by
  have hr : g < 80 := by omega
  obtain ⟨hfenced, hsafe⟩ := scrubOne_fences (s.cfg.activePos % 2304) hr hs hpolicy hflips hrep hfind hc
  generalize hu : scrubOne 0 g (s.cfg.activePos % 2304) m.toNat s = u at hfenced hsafe
  have hexec := exec_scrubFrameRead m hen hpos (hg ▸ hw) (hg ▸ hu)
  obtain ⟨t, hruns, hend, -⟩ := runs_finG hexec hsafe
  exact ⟨t, hruns, hfenced.kept hr ⟨hend.regionsKept.regs, hend.fab⟩ (by rw [hend.cfg])⟩

end Sys2Proof.Machine
end

section
/-! Repairs and FENCE_AUTO (R237, R238), clause by clause. -/

namespace Sys2Proof.Machine

/-- The repair `x` leaves the queue, in which it was alone, 8 ms after its detection at the earliest (R237). -/
def repairHeld (x : Repair) (s : State) : State :=
  { s with time := { s.time with us := max s.time.us (x.us + 8000) }, cfg := { s.cfg with repairs := [] } }

/-- A repair held back for 8 ms has failed: the region waits for none, and REPAIR_FAILED is set. -/
def repairLapsed (x : Repair) (s : State) : State :=
  setF (RGN_STATUS_REPAIR_FAILED x.region) 1 (sbEvent 0x030A [] (setF (RGN_STATUS_REPAIR_PENDING x.region) 0 (repairHeld x s)))

/-- The only repair, of an active plane and not begun, fails where repairs are off (R237). -/
theorem repairRun_off {s : State} {x : Repair} (hrep : s.cfg.repairs = [x]) (hx : x.started = false)
    (hoff : isSet SCRUB_CTRL_REPAIR_EN s = false) (hplane : x.plane = planeIn x.region 0 s) (b : Bool) :
    repairRun b s = alarm 9 x.region true (repairLapsed x s) := by
  have hheld : repairRun b s = repairEnd x none { s with time := { s.time with us := max s.time.us (x.us + 8000) } } := by
    simp only [repairRun, hrep, hx, hoff, Bool.false_eq_true, or_self, if_false]
  have hleft : { s with time := { s.time with us := max s.time.us (x.us + 8000) }, cfg := { s.cfg with
      repairs := s.cfg.repairs.erase x } } = repairHeld x s := by
    rw [hrep, List.erase_cons_head, repairHeld]
  have hactive : x.plane = planeIn x.region 0 (setF (RGN_STATUS_REPAIR_PENDING x.region) 0 (repairHeld x s)) := by
    rw [planeIn, getF_setF_other]
    · exact hplane
    · simp only [fldKey, RGN_STATUS_ACTIVE_PLANE, RGN_STATUS_REPAIR_PENDING]
      omega
  have hfollow : repairFollow x.region (repairHeld x s) = setF (RGN_STATUS_REPAIR_PENDING x.region) 0 (repairHeld x s) := rfl
  rw [hheld]
  dsimp only [repairEnd]
  rw [hleft, hfollow, if_pos (decide_eq_true hactive)]
  rfl

/-- REPAIR_PENDING is clear and REPAIR_FAILED set, up to notes. -/
theorem repairLapsed_noted (x : Repair) (s : State) : Noted (setF (RGN_STATUS_REPAIR_FAILED x.region) 1
    (setF (RGN_STATUS_REPAIR_PENDING x.region) 0 (repairHeld x s))) (repairLapsed x s) := (Noted.sbEvent _ _ _).setF _ _

theorem NotSafe.repairLapsed {c : Nat} {s : State} (h : NotSafe c s) (hc : c ≤ 22) (x : Repair) : NotSafe c (repairLapsed x s) := by
  have hheld : NotSafe c (repairHeld x s) := h
  refine ((hheld.setF hc (by simp [RGN_STATUS_REPAIR_PENDING]) ?_ 0).setF hc (by simp [RGN_STATUS_REPAIR_FAILED]) ?_ 1).noted hc
    (repairLapsed_noted x s)
  all_goals
    simp only [RGN_STATUS_REPAIR_PENDING, RGN_STATUS_REPAIR_FAILED]
    omega

/-- The repair of region `g` has failed, with its alarm (R237). -/
structure RepairFailed (g : Nat) (t : State) : Prop where
  repairs : t.cfg.repairs = []
  failed : getF (RGN_STATUS_REPAIR_FAILED g) t = 1
  pending : getF (RGN_STATUS_REPAIR_PENDING g) t = 0
  alarmed : bitOf (getF LJ_ALARM_LATCH_ALARM t) 8 = true

/-- A repair that is off fails with its alarm (R237). -/
theorem repairComplete_fails {s : State} {x : Repair} (b : Bool) (hs : NotSafe 0x13 s) (h9 : NotSafe 9 s) (hrep : s.cfg.repairs = [x])
    (hx : x.started = false) (hoff : isSet SCRUB_CTRL_REPAIR_EN s = false) (hr : x.region < 80) (hplane : x.plane = planeIn x.region 0 s) :
    ∃ t, Runs (.repairComplete b) s t ∧ RepairFailed x.region t ∧ x.us + 8000 ≤ t.time.us := by
  have hsafe := h9.repairLapsed (by decide) x
  have halarm : Noted (repairLapsed x s) (alarm 9 x.region true (repairLapsed x s)) := Noted.alarm hsafe
  obtain ⟨t, hruns, hend, hlog⟩ := runs_finG_logged (i := .repairComplete b) (congrArg finG (repairRun_off hrep hx hoff hplane b))
    ((hs.repairLapsed (by decide) x).noted (by decide) halarm)
  have hall := (repairLapsed_noted x s).trans (halarm.trans hend)
  have hkept := hall.regionsKept
  have hlatched := (Logged.alarm (.inl hsafe) x.region true).2 (by decide) (by decide)
  refine ⟨t, hruns, ⟨by rw [hall.cfg]; rfl, ?_, ?_, hlog.latched 8 (by decide) hlatched⟩, ?_⟩
  · rw [hkept.regs _ (by simp [RGN_STATUS_REPAIR_FAILED]), getF_setF_same]
    · rfl
    · simp only [regionAddr, RGN_STATUS_REPAIR_FAILED]
      omega
  · rw [hkept.regs _ (by simp [RGN_STATUS_REPAIR_PENDING]), getF_setF_other, getF_setF_same]
    · rfl
    all_goals
      simp only [regionAddr, fldKey, RGN_STATUS_REPAIR_FAILED, RGN_STATUS_REPAIR_PENDING]
      omega
  · rw [hall.us]
    exact Nat.le_max_right _ _

/-- A release leaves the configuration alone. -/
theorem fabRelease_cfg (r : Nat) (s : State) : (fabRelease r s).cfg = s.cfg := by
  dsimp only [fabRelease]
  rw [(Noted.sbEvent _ _ _).cfg, apply_ite State.cfg, (Noted.alarmGone _ _).cfg, ite_self]
  show (whenS _ _ s).cfg = s.cfg
  exact whenS_keeps State.cfg (by intro u; rfl) _ _

/-- FENCE_AUTO releases a repaired region at its turn boundary (R238). -/
theorem fenceAutoRelease_releases {s : State} {g : Fin 80} (hauto : s.cfg.autoRelease = [128 + g.val]) (hc : fpCause g s = 3)
    (hdone : repairDone g s = true) : ∃ t, Runs .fenceAutoRelease s t ∧ ReleasedAt g (fpFree g s) t ∧ t.cfg.autoRelease = [] := by
  generalize hu : { s with cfg := { s.cfg with autoRelease := [] } } = u
  have hdue : fpCause g u = fcFence ∧ repairDone g u = true := by
    rw [← hu]
    exact ⟨hc, hdone⟩
  have hrun : autoReleases s = fabRelease g u := by
    simp [autoReleases, hauto, hu, forEach, hdue]
  obtain ⟨t, hruns, hend, -⟩ := runs_fin (i := .fenceAutoRelease) (congrArg fin hrun)
  have hfree : fpFree g u = fpFree g s := by rw [← hu]; rfl
  refine ⟨t, hruns, hfree ▸ (fabRelease_released g.isLt u).kept g.isLt hend.regionsKept, ?_⟩
  rw [hend.cfg, fabRelease_cfg, ← hu]

end Sys2Proof.Machine
end

section
/-! The pass timeout and the parity error (R239), and the statement. -/

namespace Sys2Proof.Machine

/-- The scrubber has taken a fault: FAULT is set, both passes start again, and alarm 0x07 is latched (R239). -/
structure ScrubFaulted (t : State) : Prop where
  fault : getF SCRUB_STATUS_FAULT t = 1
  active : t.cfg.activePos = 0
  shadow : t.cfg.shadowPos = 0
  alarmed : bitOf (getF LJ_ALARM_LATCH_ALARM t) 6 = true

theorem ScrubFaulted.noted {s t : State} (h : ScrubFaulted s) (n : Noted s t) (l : Logged s t) : ScrubFaulted t where
  fault := (n.regs _ (by decide) (by unfold noteAddr; decide)).trans h.fault
  active := by rw [n.cfg]; exact h.active
  shadow := by rw [n.cfg]; exact h.shadow
  alarmed := l.latched 6 (by decide) h.alarmed

/-- FAULT is set and noted. -/
def faultNoted (s : State) : State := whRaise 43 (sbEvent 0x030E [] (setF SCRUB_STATUS_FAULT 1 s))

theorem faultNoted_noted (s : State) : Noted (setF SCRUB_STATUS_FAULT 1 s) (faultNoted s) :=
  (Noted.sbEvent _ _ _).trans (Noted.whRaise (by decide) _)

/-- The passes start again, and the active one's timer with it if it is enabled. -/
def passesRestart (s : State) : State :=
  whenS (isSet SCRUB_CTRL_ACTIVE_EN s) (startTimer tmScrub 3000) { s with cfg := { s.cfg with
    activePos := 0, shadowPos := 0, activeFrom := s.time.us, shadowFrom := s.time.us } }

theorem scrubFault_eq (s : State) : scrubFault s = passesRestart (alarm 7 0 false (faultNoted s)) := rfl

theorem getF_passesRestart (f : Fld) (s : State) : getF f (passesRestart s) = getF f s :=
  whenS_keeps (getF f) (f := startTimer tmScrub 3000) (fun _ => rfl) _ _

theorem passesRestart_cfg (s : State) : (passesRestart s).cfg = { s.cfg with
    activePos := 0, shadowPos := 0, activeFrom := s.time.us, shadowFrom := s.time.us } :=
  whenS_keeps State.cfg (f := startTimer tmScrub 3000) (fun _ => rfl) _ _

/-- What a fault leaves, where its alarm does not lead to SAFE. -/
theorem scrubFault_faulted {s : State} (h7 : NotSafe 7 s) (hs : NotSafe 0x13 s) :
    ScrubFaulted (scrubFault s) ∧ NotSafe 0x13 (scrubFault s) := by
  have hpolicy {c : Nat} (hc : c ≤ 22) (h : NotSafe c s) : NotSafe c (faultNoted s) :=
    (h.setF hc (by decide) (by decide) 1).noted hc (faultNoted_noted s)
  have halarm := Noted.alarm (subject := 0) (present := false) (hpolicy (by decide) h7)
  have hlatch := (Logged.alarm (.inl (hpolicy (by decide) h7)) 0 false).2 (by decide) (by decide)
  have hfault := (((faultNoted_noted s).trans halarm).regs SCRUB_STATUS_FAULT (by decide) (by unfold noteAddr; decide)).trans
    (getF_setF_same _ 1 _)
  rw [scrubFault_eq]
  refine ⟨⟨?_, by rw [passesRestart_cfg], by rw [passesRestart_cfg], ?_⟩, ?_⟩
  · rw [getF_passesRestart]
    exact hfault
  · rw [getF_passesRestart]
    exact hlatch
  · rw [NotSafe, getF_passesRestart]
    exact (hpolicy (by decide) hs).noted (by decide) halarm

/-- A row that takes the scrubber's fault. -/
theorem runs_scrubFault {i : Instr} {s u : State} (h : exec i s = finG (scrubFault u)) (h7 : NotSafe 7 u) (hs : NotSafe 0x13 u) :
    ∃ t, Runs i s t ∧ ScrubFaulted t := by
  obtain ⟨hfault, hsafe⟩ := scrubFault_faulted h7 hs
  obtain ⟨t, hruns, hend, hlog⟩ := runs_finG_logged h hsafe
  exact ⟨t, hruns, hfault.noted hend hlog⟩

/-- The pass timeout is the scrubber's fault (R239). -/
theorem scrubPassTimeout_faults {s : State} (h7 : NotSafe 7 s) (hs : NotSafe 0x13 s) (hon : timerOn tmScrub s = true) :
    ∃ t, Runs .scrubPassTimeout s t ∧ ScrubFaulted t :=
  runs_scrubFault (u := expire tmScrub s) (congrArg finG (if_pos hon)) h7 hs

/-- Without its timer no pass times out (log entry 2). -/
theorem scrubPassTimeout_idle {s : State} (hs : NotSafe 0x13 s) (hoff : timerOn tmScrub s = false) : Does .scrubPassTimeout s s :=
  does_guarantee (congrArg finG (if_neg (by rw [hoff]; decide))) (Noted.refl _) hs

/-- Settles O34: a clause for each row of the scrubber, from what its meaning leaves (`ScrubSet`, `FencedFor`, `RepairFailed`,
`ReleasedAt`, `ScrubFaulted`) and what the guarantee's notes after it keep. -/
theorem scrubberRows : Obligations.ScrubberRows := by
  unfold Obligations.ScrubberRows
  refine ⟨fun s v hs => ?_, fun s hs hen hflips hpos hw => scrubFrameRead_clean hs hen hflips hpos hw,
    fun s m hs hen hflips hpos hw hfind => scrubFrameRead_corrects hs hen hflips hpos hw hfind,
    fun s m k g hs hpolicy hen hflips hrep hpos hg hw hfind hc => ?_, fun s x hs h9 hrep hx hoff hr hplane b => ?_,
    fun s g hauto hc hdone => ?_, fun s hs h7 => ⟨fun hon => ?_, scrubPassTimeout_idle hs, ?_⟩⟩
  · obtain ⟨t, hruns, hset⟩ := scrubCtrlWrite_stores (v := v) hs
    exact ⟨t, hruns, hset.word, hset.lapsed⟩
  · obtain ⟨t, hruns, h⟩ := scrubFrameRead_fences hs hpolicy hen hflips hrep hpos hg hw hfind hc
    exact ⟨t, hruns, h.state, h.cause, h.fenced, h.pending, h.repair⟩
  · obtain ⟨t, hruns, h, hus⟩ := repairComplete_fails b hs h9 hrep hx hoff hr hplane
    exact ⟨t, hruns, h.repairs, h.failed, h.pending, h.alarmed, hus⟩
  · obtain ⟨t, hruns, h, hnone⟩ := fenceAutoRelease_releases hauto hc hdone
    exact ⟨t, hruns, h.cause, h.state, h.fenced, hnone⟩
  · obtain ⟨t, hruns, h⟩ := scrubPassTimeout_faults h7 hs hon
    exact ⟨t, hruns, h.fault, h.active, h.shadow, h.alarmed⟩
  · obtain ⟨t, hruns, h⟩ := runs_scrubFault (i := .scrubberParityError) rfl h7 hs
    exact ⟨t, hruns, h.fault, h.active, h.shadow, h.alarmed⟩

end Sys2Proof.Machine
end

section
/-! SUPPORT. What the REGION commands read is not the sequencer's: their state with the request taken out shows the same. -/

namespace Sys2Proof.Machine

@[simp] theorem planeIn_seqPop (r role : Nat) (s : State) : planeIn r role (seqPop s) = planeIn r role s := by
  rw [planeIn, getF_seqPop, planeIn]

@[simp] theorem planeOf_seqPop (p r : Nat) (s : State) : planeOf p r (seqPop s) = planeOf p r s := planeOf_congr (seqPop_cfg s) p r

@[simp] theorem frameBytes_seqPop (p r f : Nat) (s : State) : frameBytes p r f (seqPop s) = frameBytes p r f s := by
  rw [frameBytes, seqPop_cfg, frameBytes]

@[simp] theorem loadsPermitted_seqPop (s : State) : loadsPermitted (seqPop s) = loadsPermitted s := by
  rw [loadsPermitted, seqPop_dev, loadsPermitted]

@[simp] theorem guardLevel_seqPop (s : State) : guardLevel (seqPop s) = guardLevel s := by
  rw [guardLevel, seqPop_flash, guardLevel]

@[simp] theorem readbackOk_seqPop (r role : Nat) (s : State) : readbackOk r role (seqPop s) = readbackOk r role s := by
  simp [readbackOk, isSet]

@[simp] theorem rgnStatusWord_seqPop (r : Nat) (s : State) : rgnStatusWord r (seqPop s) = rgnStatusWord r s := by
  simp [rgnStatusWord]

@[simp] theorem regWord_seqPop (a : Nat) (s : State) : regWord a (seqPop s) = regWord a s := by
  simp [regWord]

/-- Notes leave the list of the commands that run as it is: one more joins it alike. -/
theorem Noted.withRunning {s t : State} (h : Noted s t) (r : Req) (args : List Nat) (data : List (BitVec 8)) :
    Noted (withRunning r args data s) (withRunning r args data t) :=
  { h with running := congrArg (· ++ _) h.running }

/-- No store slot is read while no load runs. -/
theorem storeLoading_idle {s : State} (h : s.cfg.load = none) (k : Nat) : storeLoading k s = false := by
  rw [storeLoading, h]

/-- A plane of a part on which no bit has flipped is verified without an error. -/
theorem planeVerify_clean {s : State} (h : s.cfg.flips = []) (p r : Nat) : planeVerify p r s = ((0, 0), s) := by
  have hnone : framesHit p r s = [] := by rw [framesHit, h]; rfl
  rw [planeVerify, hnone]
  rfl

end Sys2Proof.Machine
end

section
/-! SUPPORT. The scrubber's control and log, under an answer and under the log's emptying (R240). -/

namespace Sys2Proof.Machine

/-- Emptying the scrubber's log writes SCRUB_UE_LOG alone. -/
theorem getF_ueLogClear {f : Fld} (hl : f.lo < 32) (ha : f.addr ≠ 0x3F0084000C) (s : State) : getF f (ueLogClear s) = getF f s := by
  simp only [ueLogClear, forEach]
  iterate 5 rw [getF_setF_addr hl (by decide) ha]

theorem ScrubSet.ueLogClear {v : Nat} {s : State} (h : ScrubSet v s) : ScrubSet v (ueLogClear s) :=
  h.congr fun _ hl ha => getF_ueLogClear hl (by omega) s

theorem ScrubSet.sealed {v m : Nat} {s t : State} (h : ScrubSet v s) (k : Sealed m s t) : ScrubSet v t := by
  refine h.congr fun f hl ha => k.regs f hl ?_ ?_
  all_goals
    simp only [MB_STATUS_BUSY, MB_LAST_SEQ]
    omega

/-- A bit of the word taken is what its enable shows. -/
theorem isSet_bitOf {f : Fld} {t : State} {v i : Nat} (h : getF f t = v / 2 ^ i % 2) : isSet f t = bitOf v i := by
  rw [isSet, h, bitOf]

/-- The scrubber's log is empty. -/
def LogEmpty (t : State) : Prop := getF SCRUB_UE_LOG_VALID t = 0

end Sys2Proof.Machine
end

section
/-! The REGION and SCRUB commands (R213 to R216, R221, R226, R232, R238, R240), clause by clause. -/

namespace Sys2Proof.Machine

/-- REGION_STATUS answers the region's status word, its swaps and its counters (R216). -/
theorem regionStatus_answers {s : State} {mb : Fin 14} {r : Req} (h : Asks sheetRegionStatus mb r s) :
    ∃ p, Oks (.regionStatus mb) mb r p s (seqPop s) ∧ p.length = 28 ∧ fieldAt p 0 4 = rgnStatusWord (argRegion r) s % 2 ^ 32 ∧
      fieldAt p 6 2 = getF (RGN_SWAPS_SWAPS (argRegion r)) s % 65536 ∧
      fieldAt p 16 6 = (getC (ctRgn (argRegion r) 0) s).val % 2 ^ 48 := by
  refine ⟨_, oks_fin rfl h rfl (Noted.refl _) rfl, ?_, ?_, ?_, ?_⟩
  · simp [ctrBytes]
  all_goals simp [List.append_assoc, fieldAt_skip, fieldAt_first, ctrBytes]

/-- REGION_LOAD of a shadow from DRAM is accepted, and the load begins (R221). -/
theorem regionLoad_begins {s : State} {mb : Fin 14} {r : Req} (h : Asks sheetRegionLoad mb r s) (hidle : s.cfg.load = none)
    (hshadow : arg r 1 1 = 0) (hdram : arg r 2 1 = 1) : loadsPermitted s = true ∧ Accepts (.regionLoad mb) mb r [argRegion r] [] s
      (setF CFG_STATUS_LOAD_BUSY 1 (setF CFG_STATUS_LOAD_REGION (argRegion r) (setF CFG_STATUS_LOAD_SRC 3
        (setF (RGN_STATUS_SHADOW_STATE (argRegion r)) 1 { seqPop s with cfg := { s.cfg with
          load := some ⟨argRegion r, false, 3, 0x3F, arg r 4 8, arg r 12 4, []⟩ } })))) := by
  have hstate := h.state
  have hrun : sheetRegionLoad.run r (seqPop s) = (replyAccepted [argRegion r] [],
      loadStart ⟨argRegion r, false, 3, 0x3F, arg r 4 8, arg r 12 4, []⟩ (seqPop s)) := by
    simp [sheetRegionLoad, plainSheet, hidle, hshadow, hdram]
  refine ⟨?_, accepts_fin rfl h hrun ?_⟩
  · by_contra hno
    simp [sheetRegionLoad, Bool.eq_false_of_not_eq_true hno] at hstate
  · rw [← seqPop_cfg s]
    exact (Noted.sbEvent _ _ _).withRunning r _ _

/-- REGION_CLEAR clears the shadow (R214). -/
theorem regionClear_clears {s : State} {mb : Fin 14} {r : Req} (h : Asks sheetRegionClear mb r s) (hidle : s.cfg.load = none) :
    Oks (.regionClear mb) mb r [] s
      (setF (RGN_STATUS_SHADOW_STATE (argRegion r)) 0 (planeClear (planeIn (argRegion r) 1 s) (argRegion r) (seqPop s))) := by
  have hclear := shadowClear_idle (g := argRegion r) (s := seqPop s) (by rw [seqPop_cfg, hidle])
  rw [planeIn_seqPop] at hclear
  exact oks_fin rfl h (congrArg (Prod.mk _) hclear) (Noted.refl _) rfl

/-- REGION_SWAP_AT writes its entry (R226). -/
theorem regionSwapAt_writes {s : State} {mb : Fin 14} {r : Req} (h : Asks sheetRegionSwapAt mb r s) (hstop : isSet GC_CTRL_RUN s = false) :
    Oks (.regionSwapAt mb) mb r [] s
      (pbPut (arg r 2 2) (swapEntry (argRegion r) (arg r 4 6) (arg r 10 2) (decide (arg r 1 1 = 1))) (seqPop s)) := by
  have hstopped : isSet GC_CTRL_RUN (seqPop s) = false := by rw [isSet, getF_seqPop]; exact hstop
  exact oks_fin rfl h (congrArg (Prod.mk _) (swapArm_stopped hstopped _ _)) (Noted.refl _) rfl

/-- REGION_STORE_WRITE opens a slot of the store (R220). -/
theorem regionStoreWrite_opens {s : State} {mb : Fin 14} {r : Req} (h : Asks (sheetRegionStoreWrite none) mb r s)
    (hidle : s.cfg.load = none) (hpower : s.boot.removal = false) (hbegin : arg r 0 1 = 0) :
    Accepts (.regionStoreWrite mb none) mb r [64 + arg r 1 1, 0, arg r 8 4] [] s
      (beginStart (64 + arg r 1 1) (arg r 8 4) (0x0705 + 65536 * (64 + arg r 1 1)) (seqPop s)) := by
  have hfree := storeLoading_idle (s := seqPop s) (by rw [seqPop_cfg, hidle]) (arg r 1 1)
  have hrun : (sheetRegionStoreWrite none).run r (seqPop s) = (replyAccepted [64 + arg r 1 1, 0, arg r 8 4] [],
      beginStart (64 + arg r 1 1) (arg r 8 4) (0x0705 + 65536 * (64 + arg r 1 1)) (seqPop s)) := by
    simp [sheetRegionStoreWrite, plainSheet, hfree, hpower, hbegin]
  exact accepts_fin rfl h hrun (Noted.refl _)

/-- REGION_READBACK answers a frame of a part on which no bit has flipped, with its CRC-32 (R232). -/
theorem regionReadback_answers {s : State} {mb : Fin 14} {r : Req} (h : Asks sheetRegionReadback mb r s)
    (hok : readbackOk (argRegion r) (arg r 1 1) s = true) (hflips : s.cfg.flips = []) :
    ∃ d, d = frameBytes (planeIn (argRegion r) (arg r 1 1) s) (argRegion r) (arg r 2 2) s ∧
      Oks (.regionReadback mb) mb r (d ++ leBytes 4 (crc32 d)) s (seqPop s) := by
  have hframe := frameOut_clean (s := seqPop s) (by rw [seqPop_cfg, hflips]) (argRegion r) (arg r 1 1) (arg r 2 2)
  rw [planeIn_seqPop, frameBytes_seqPop] at hframe
  refine ⟨_, rfl, oks_fin (v := seqPop s) rfl h ?_ (Noted.refl _) rfl⟩
  simp [sheetRegionReadback, plainSheet, hok, hframe]

/-- A readback that is not permitted is DENIED, and RB_DENIED shows it (R232). -/
theorem regionReadback_denied {s : State} {mb : Fin 14} {r : Req} (h : Asks sheetRegionReadback mb r s)
    (hno : readbackOk (argRegion r) (arg r 1 1) s = false) :
    Replies (.regionReadback mb) mb r stDenied [] s (setF CFG_STATUS_RB_DENIED 1 (seqPop s)) := by
  refine replies_fin (v := readbackDenied (seqPop s)) rfl h ?_ (by decide) (Noted.sbEvent _ _ _)
  simp [sheetRegionReadback, plainSheet, hno, replySt]

/-- REGION_VERIFY reads 2,304 frames, and finds no error where no bit has flipped. -/
theorem regionVerify_clean {s : State} {mb : Fin 14} {r : Req} (h : Asks sheetRegionVerify mb r s) (hflips : s.cfg.flips = []) :
    Oks (.regionVerify mb) mb r (leBytes 2 2304 ++ leBytes 2 0 ++ leBytes 2 0 ++ leBytes 2 0) s (seqPop s) := by
  have hverify (p : Nat) := planeVerify_clean (s := seqPop s) (by rw [seqPop_cfg, hflips]) p (argRegion r)
  refine oks_fin (v := seqPop s) rfl h ?_ (Noted.refl _) rfl
  simp [sheetRegionVerify, plainSheet, hverify]

/-- REGION_FENCE_POLICY of one region (R238). -/
theorem regionFencePolicy_stores {s : State} {mb : Fin 14} {r : Req} (h : Asks sheetRegionFencePolicy mb r s) (hr : argRegion r < 80) :
    Oks (.regionFencePolicy mb) mb r [] s (setF (RGN_CFG_FENCE_POLICY (argRegion r)) (arg r 1 1) (seqPop s)) := by
  refine oks_fin rfl h ?_ (Noted.refl _) rfl
  simp [sheetRegionFencePolicy, plainSheet, show argRegion r ≠ 255 by omega, forEach]

/-- SCRUB_STATUS answers the scrubber's registers and counters. -/
theorem scrubStatus_answers {s : State} {mb : Fin 14} {r : Req} (h : Asks sheetScrubStatus mb r s) :
    ∃ p, Oks (.scrubStatus mb) mb r p s (seqPop s) ∧ p.length = 36 ∧
      (∀ i < 4, fieldAt p (4 * i) 4 = regWord (0x3F00840000 + 4 * i) s % 2 ^ 32) ∧
      ∀ i < 3, fieldAt p (16 + 6 * i) 6 = (getC (ctScrub i) s).val % 2 ^ 48 := by
  refine ⟨_, oks_fin rfl h rfl (Noted.refl _) rfl, ?_, fun i hi => ?_, fun i hi => ?_⟩
  · simp [natsFrom, ctrBytes]
  all_goals
    interval_cases i <;> simp [natsFrom, List.append_assoc, fieldAt_skip, fieldAt_first, ctrBytes]

/-- SCRUB_CONFIGURE sets the scrubber's control, and empties its log where that is asked (R240). -/
theorem scrubConfigure_leaves (r : Req) {s : State} (hs : NotSafe 0x13 s) : ∃ u, sheetScrubConfigure.run r s = (replyOk [], u) ∧
    ScrubSet (arg r 0 1) u ∧ NotSafe 0x13 u ∧ (arg r 1 1 = 1 → LogEmpty u) := by
  have hset := scrubCtrl_set (arg r 0 1) s
  have hsafe := hs.scrubCtrl (arg r 0 1)
  refine ⟨_, rfl, ?_⟩
  by_cases hclear : arg r 1 1 = 1
  · rw [if_pos hclear]
    refine ⟨hset.ueLogClear, ?_, fun _ => getF_clearAll rfl (.inl (by simp))⟩
    rw [NotSafe, getF_ueLogClear (by decide) (by decide)]
    exact hsafe
  · rw [if_neg hclear]
    exact ⟨hset, hsafe, fun h => absurd h hclear⟩

/-- SCRUB_CONFIGURE answers OK, with the scrubber's control set, and its log empty where that is asked (R240). -/
theorem scrubConfigure_sets {s : State} {mb : Fin 14} {r : Req} (h : Asks sheetScrubConfigure mb r s) (hs : NotSafe 0x13 s) :
    ∃ t, Runs (.scrubConfigure mb) s t ∧ Answered r stOk [] false t ∧ ScrubSet (arg r 0 1) t ∧ (arg r 1 1 = 1 → LogEmpty t) := by
  have hpop : NotSafe 0x13 (seqPop s) := by rwa [NotSafe, getF_seqPop]
  obtain ⟨u, hrun, hset, hsafe, hlog⟩ := scrubConfigure_leaves r hpop
  obtain ⟨hans, hsealed⟩ := runSheet_answers (st := stOk) h hrun (by decide)
  obtain ⟨t, hruns, hend, -⟩ := runs_finG (i := .scrubConfigure mb) rfl (hsealed.notSafe mb.isLt hsafe)
  have hvalid : getF SCRUB_UE_LOG_VALID t = getF SCRUB_UE_LOG_VALID u := by
    rw [hend.regs _ (by decide) (by unfold noteAddr; decide), hsealed.regs _ (by decide)]
    all_goals
      simp only [SCRUB_UE_LOG_VALID, MB_STATUS_BUSY, MB_LAST_SEQ]
      omega
  exact ⟨t, hruns, hans.noted (h.mb ▸ mb.isLt) hend, (hset.sealed hsealed).noted hend, fun hclear => hvalid.trans (hlog hclear)⟩

/-- Settles O35: each command's answer and what it leaves, sheet by sheet; SCRUB_CONFIGURE, after which the guarantee may follow, through
what it leaves in the scrubber's registers. -/
theorem regionCommands : Obligations.RegionCommands := by
  unfold Obligations.RegionCommands
  refine ⟨fun s mb r h => regionStatus_answers h, fun s mb r h hidle hshadow hdram => regionLoad_begins h hidle hshadow hdram,
    fun s mb r h hidle => regionClear_clears h hidle, fun s mb r h hstop => regionSwapAt_writes h hstop,
    fun s mb r h hidle hpower hbegin => regionStoreWrite_opens h hidle hpower hbegin,
    fun s mb r h => ⟨regionReadback_answers h, regionReadback_denied h⟩, fun s mb r h hflips => regionVerify_clean h hflips,
    fun s mb r h hr => regionFencePolicy_stores h hr, fun s mb r h => scrubStatus_answers h, fun s mb r h hs => ?_⟩
  obtain ⟨t, hruns, hans, hset, hlog⟩ := scrubConfigure_sets h hs
  exact ⟨t, hruns, hans, isSet_bitOf hset.active, isSet_bitOf hset.shadow, isSet_bitOf hset.repair, isSet_bitOf hset.selftest, hset.lapsed, hlog⟩

end Sys2Proof.Machine
end

section
/-! SUPPORT. The network's traffic, all of its state but what probes write down, as a packet passes the probes (R271 to R273). -/

namespace Sys2Proof.Machine

/-- The network without the probes' own marks and trace. -/
def traffic (s : State) : Noc := { s.noc with raised := [], trace := [], traceSeq := 0 }

theorem traffic_of_noc {s t : State} (h : t.noc = s.noc) : traffic t = traffic s := by rw [traffic, h, traffic]

/-- Equal traffic, part by part. -/
theorem flying_of_traffic {s t : State} (h : traffic t = traffic s) : t.noc.flying = s.noc.flying := (congrArg Noc.flying h :)
theorem used_of_traffic {s t : State} (h : traffic t = traffic s) : t.noc.used = s.noc.used := (congrArg Noc.used h :)
theorem passes_of_traffic {s t : State} (h : traffic t = traffic s) : t.noc.passes = s.noc.passes := (congrArg Noc.passes h :)
theorem net_of_traffic {s t : State} (h : traffic t = traffic s) : t.noc.net = s.noc.net := (congrArg Noc.net h :)

theorem traffic_oncePerSecond (k code : Nat) (vs : List (Nat × Nat)) (s : State) :
    traffic (oncePerSecond k (sbEvent code vs) s) = traffic s := by
  unfold oncePerSecond atMostOnce
  split
  · exact traffic_of_noc (Noted.sbEvent code vs _).noc
  · rfl

theorem traffic_traceWrite (p : Nat) (k : Pkt) (s : State) : traffic (traceWrite p k s) = traffic s := by
  dsimp only [traceWrite]
  split
  · rfl
  · split
    · rfl
    · split
      · exact traffic_oncePerSecond _ _ _ _
      · rfl

theorem traffic_probeThreshold (p : Nat) (s : State) : traffic (probeThreshold p s) = traffic s := by
  dsimp only [probeThreshold]
  split <;> rfl

/-- Probes count and trace a packet, and leave the traffic as it is. -/
theorem traffic_probesSee (k : Pkt) (s : State) : traffic (probesSee k s) = traffic s := by
  dsimp only [probesSee]
  generalize hu : forEach _ _ s = u
  have hcount : traffic u = traffic s := by
    rw [← hu]
    refine forEach_keeps traffic (fun p _ s => ?_) s
    rw [traffic_probeThreshold]
    split <;> rfl
  split
  · exact hcount
  · exact (traffic_traceWrite _ k u).trans hcount

theorem traffic_inject (k : Pkt) (s : State) : traffic (inject k s) = traffic (netWith k s) := traffic_probesSee _ _

end Sys2Proof.Machine
end

section
/-! SUPPORT. What the admission of a TIMED reservation reads (R262, R263): the reservations' own fields and the frequency of the slot. -/

namespace Sys2Proof.Machine

/-- The addresses of GC_CFG_REF, TRES_CFG0 and TRES_CFG1. -/
def tresAddr (a : Nat) : Prop := a = 0x3F00100008 ∨ (0x3F00500400 ≤ a ∧ a < 0x3F00500600 ∧ a % 16 ≠ 8)

/-- Two states agree in what the admission reads. -/
def SameTres (s t : State) : Prop := ∀ f : Fld, f.lo < 32 → tresAddr f.addr → getF f t = getF f s

/-- The registers of reservation `n` are among them. -/
theorem tresAddr_cfg {n off : Nat} (hn : n < 32) (hoff : off = 0 ∨ off = 4) : tresAddr (0x3F00500400 + off + n * 0x10) := by
  unfold tresAddr
  omega

section
variable {s t : State} (h : SameTres s t) {n : Nat} (hn : n < 32) {on : List Nat} (hon : ∀ r ∈ on, r < 32)
include h

theorem SameTres.slotFreq : slotFreq t = slotFreq s := by
  have href (f : Fld) (hl : f.lo < 32) (ha : f.addr = 0x3F00100008) : getF f t = getF f s := h f hl (.inl ha)
  rw [Machine.slotFreq, href GC_CFG_REF_REF_KHZ (by decide) rfl, href GC_CFG_REF_SLOT_MUL_M1 (by decide) rfl,
    href GC_CFG_REF_SLOT_DIV_M1 (by decide) rfl, Machine.slotFreq]

include hn

theorem SameTres.src : getF (TRES_CFG0_SRC n) t = getF (TRES_CFG0_SRC n) s :=
  h _ (by simp [TRES_CFG0_SRC]) (tresAddr_cfg (off := 0) hn (.inl rfl))
theorem SameTres.dest : getF (TRES_CFG0_DEST n) t = getF (TRES_CFG0_DEST n) s :=
  h _ (by simp [TRES_CFG0_DEST]) (tresAddr_cfg (off := 0) hn (.inl rfl))
theorem SameTres.quota : getF (TRES_CFG0_QUOTA n) t = getF (TRES_CFG0_QUOTA n) s :=
  h _ (by simp [TRES_CFG0_QUOTA]) (tresAddr_cfg (off := 0) hn (.inl rfl))
theorem SameTres.delay : getF (TRES_CFG0_DELAY n) t = getF (TRES_CFG0_DELAY n) s :=
  h _ (by simp [TRES_CFG0_DELAY]) (tresAddr_cfg (off := 0) hn (.inl rfl))

theorem SameTres.duration : getF (TRES_CFG1_DURATION n) t = getF (TRES_CFG1_DURATION n) s :=
  h _ (by simp [TRES_CFG1_DURATION]) (tresAddr_cfg (off := 4) hn (.inr rfl))
theorem SameTres.en : getF (TRES_CFG1_EN n) t = getF (TRES_CFG1_EN n) s :=
  h _ (by simp [TRES_CFG1_EN]) (tresAddr_cfg (off := 4) hn (.inr rfl))

theorem SameTres.tresLinks : tresLinks n t = tresLinks n s := by
  rw [Machine.tresLinks, h.src hn, h.dest hn, Machine.tresLinks]

theorem SameTres.ownRange : tresOwnRange n t = tresOwnRange n s := by
  rw [tresOwnRange, h.src hn, h.dest hn, h.quota hn, h.delay hn, h.duration hn, tresOwnRange]

omit hn

theorem SameTres.tresWith (n : Nat) : tresWith n t = tresWith n s := by
  refine List.filter_congr fun r hr => ?_
  have hr := (mem_natsFrom.1 hr).2
  rw [isSet, h.en (by omega), isSet]

include hon

theorem SameTres.linkLoad (l : Nat × Nat) : linkLoad on l t = linkLoad on l s :=
  List.foldl_ext _ _ 0 fun _ r hr => by rw [h.tresLinks (hon r hr), h.quota (hon r hr)]

theorem SameTres.destLoad (d : Nat) : destLoad on d t = destLoad on d s :=
  List.foldl_ext _ _ 0 fun _ r hr => by rw [h.dest (hon r hr), h.quota (hon r hr), h.delay (hon r hr)]

include hn

theorem SameTres.minDelay : minDelay on n t = minDelay on n s := by
  have hbound : pathBound on n t = pathBound on n s := by
    rw [pathBound, h.tresLinks hn, pathBound]
    exact List.foldl_ext _ _ 24 fun _ l _ => by rw [h.linkLoad hon]
  rw [Machine.minDelay, hbound, h.slotFreq, Machine.minDelay]

omit hn

theorem SameTres.tresFits : tresFits on t = tresFits on s := by
  have hbudget : linkBudget t = linkBudget s := by rw [linkBudget, h.slotFreq, linkBudget]
  rw [Bool.eq_iff_iff, Machine.tresFits, Machine.tresFits, List.all_eq_true, List.all_eq_true]
  refine forall₂_congr fun r hr => ?_
  simp only [h.tresLinks (hon r hr), h.linkLoad hon, hbudget, h.minDelay (hon r hr) hon, h.delay (hon r hr), h.dest (hon r hr), h.destLoad hon]

end

theorem SameTres.trans {s t u : State} (h : SameTres s t) (k : SameTres t u) : SameTres s u := fun f hl ha => (k f hl ha).trans (h f hl ha)

/-- The reservations are the 32 of the table. -/
theorem tresWith_lt (n : Nat) (s : State) : ∀ r ∈ tresWith n s, r < 32 := fun _ hr => by
  have := mem_natsFrom.1 (List.mem_filter.1 hr).1
  omega

/-- Reporting MIN_DELAY writes nothing that the admission reads. -/
theorem sameTres_report {n : Nat} (s : State) : SameTres s (tresReport n s) := by
  intro f hl ha
  refine getF_setF_addr hl (by simp [TRES_STATUS_MIN_DELAY]) ?_ _ s
  unfold tresAddr at ha
  simp only [TRES_STATUS_MIN_DELAY]
  omega

/-- Whether the reservations fit with `n` is the same once MIN_DELAY is reported. -/
theorem tresFits_report (n : Nat) (s : State) :
    tresFits (tresWith n (tresReport n s)) (tresReport n s) = tresFits (tresWith n s) s := by
  rw [(sameTres_report s).tresWith, (sameTres_report s).tresFits (tresWith_lt n s)]

end Sys2Proof.Machine
end

section
/-! The TIMED channel (R262 to R267), clause by clause. -/

namespace Sys2Proof.Machine

/-- An enable takes effect where the reservation is in range and fits; its least delay is reported in any case (R262). -/
theorem tresEnable_on {n : Nat} (hn : n < 32) (s : State) : tresEnable n true s =
    if tresOwnRange n s && tresFits (tresWith n s) s then setF (TRES_CFG1_EN n) 1 (tresReport n s)
    else sbEvent 0x040B [] (nocReject (tresReport n s)) := by
  rw [← (sameTres_report s).ownRange hn, ← tresFits_report, tresEnable, if_pos rfl]

/-- A reservation in range that fits is enabled, with its least delay reported (R262). -/
theorem tresEnableWrite_enables {s : State} {n : Fin 32} (hoff : isSet (TRES_CFG1_EN n) s = false) (hrange : tresOwnRange n s = true)
    (hfits : tresFits (tresWith n s) s = true) : Does (.tresEnableWrite n true) s
      (setF (TRES_CFG1_EN n) 1 (setF (TRES_STATUS_MIN_DELAY n) (min 255 (minDelay (tresWith n s) n s)) s)) := by
  refine does_fin (v := setF (TRES_CFG1_EN n) 1 (tresReport n s)) (congrArg fin ?_) (Noted.refl _)
  rw [hoff, Bool.and_false, if_neg Bool.false_ne_true, tresEnable_on n.isLt, hrange, hfits, Bool.and_self, if_pos rfl]

/-- What a refused write to the network's registers leaves. -/
theorem nocReject_noted (s : State) : Noted (setF NOC_STATUS_CFG_REJECT 1 s) (nocReject s) := Noted.whRaise (by decide) _

/-- A reservation that does not fit stays disabled, and CFG_REJECT shows it (R262). -/
theorem tresEnableWrite_refused {s : State} {n : Fin 32} (hoff : isSet (TRES_CFG1_EN n) s = false)
    (hfits : tresFits (tresWith n s) s = false) : ∃ t, Runs (.tresEnableWrite n true) s t ∧
      getF (TRES_CFG1_EN n) t = getF (TRES_CFG1_EN n) s ∧ getF NOC_STATUS_CFG_REJECT t = 1 := by
  have hrun : exec (.tresEnableWrite n true) s = fin (sbEvent 0x040B [] (nocReject (tresReport n s))) := by
    refine congrArg fin ?_
    rw [hoff, Bool.and_false, if_neg Bool.false_ne_true, tresEnable_on n.isLt, hfits, Bool.and_false, if_neg Bool.false_ne_true]
  obtain ⟨t, hruns, hend, -⟩ := runs_fin hrun
  have hall := (nocReject_noted (tresReport n s)).trans ((Noted.sbEvent _ _ _).trans hend)
  have hen : ¬ noteAddr (TRES_CFG1_EN n).addr := by
    simp only [noteAddr, TRES_CFG1_EN]
    omega
  refine ⟨t, hruns, ?_, ?_⟩
  · rw [hall.regs _ (by simp [TRES_CFG1_EN]) hen, getF_setF_addr (by simp [TRES_CFG1_EN]) (by decide)]
    · exact (sameTres_report s).en n.isLt
    · simp only [TRES_CFG1_EN, NOC_STATUS_CFG_REJECT]
      omega
  · rw [hall.regs _ (by decide) not_noteAddr_nocStatus, getF_setF_same]
    rfl

/-- A rate-limited event counts nothing but programmed pages. -/
theorem getC_oncePerSecond {k : Nat} (hk : k / 64 ≠ 0x3F00900030) (key code : Nat) (vs : List (Nat × Nat)) (s : State) :
    getC k (oncePerSecond key (sbEvent code vs) s) = getC k s := by
  unfold oncePerSecond atMostOnce
  split
  · exact (Noted.sbEvent code vs _).ctrs k hk
  · rfl

/-- The packet that a source port sends on a reservation (R264). -/
def timedPkt (r n dest : Nat) (data : BitVec 256) (s : State) : Pkt :=
  { pktZero with
    dest := dest, src := r, op := opTimed, turn := s.clk.turn, slot := s.clk.slot, res := n, data := leBytes 32 data.toNat
    wgt := getF (NOC_QOS_WGT r) s, ecc := isSet NOC_CTRL_ECC_EN s, era := getF (TRES_CFG0_DELAY n) s }

section
variable {s : State} {g : Fin 80} {n : Fin 32} {d : BitVec 7} {x : BitVec 256}

/-- What a READY port does with a TIMED packet (R264). -/
theorem timedAccept_ready (h : fpState g s = 1) : timedAccept g n d.toNat x s =
    if isSet (TRES_CFG1_EN n) s = false ∨ getF (TRES_CFG0_SRC n) s ≠ g.val ∨ getF (TRES_CFG0_DEST n) s ≠ d.toNat then incC (ctNoc 7) s
    else if tabGet 0 s.noc.windows n = 0 ∨ getF (TRES_CFG0_QUOTA n) s ≤ tabGet 0 s.noc.used n then
      oncePerSecond (0x040E0000 + g) (sbEvent 0x040E []) (whRaise 70 (incC (ctNoc 6) s))
    else timedSend g n d.toNat x s := if_neg fun hne => hne h

/-- The reservation that a packet names is enabled and the packet's own. -/
theorem timed_reserved (hen : isSet (TRES_CFG1_EN n) s = true) (hsrc : getF (TRES_CFG0_SRC n) s = g.val)
    (hdest : getF (TRES_CFG0_DEST n) s = d.toNat) :
    ¬ (isSet (TRES_CFG1_EN n) s = false ∨ getF (TRES_CFG0_SRC n) s ≠ g.val ∨ getF (TRES_CFG0_DEST n) s ≠ d.toNat) := by
  simp [hen, hsrc, hdest]

/-- A packet without an enabled reservation of its own is counted and dropped (R264). -/
theorem timedPacketSend_unreserved (hready : fpState g s = 1)
    (hbad : isSet (TRES_CFG1_EN n) s = false ∨ getF (TRES_CFG0_SRC n) s ≠ g.val ∨ getF (TRES_CFG0_DEST n) s ≠ d.toNat) :
    Does (.timedPacketSend g n d x) s (incC (ctNoc 7) s) :=
  does_fin (congrArg fin ((timedAccept_ready hready).trans (if_pos hbad))) (Noted.refl _)

/-- A packet within its window and quota flies with the count's stamp (R264). -/
theorem timedPacketSend_flies (hready : fpState g s = 1) (hen : isSet (TRES_CFG1_EN n) s = true) (hsrc : getF (TRES_CFG0_SRC n) s = g.val)
    (hdest : getF (TRES_CFG0_DEST n) s = d.toNat) (hopen : tabGet 0 s.noc.windows n ≠ 0)
    (hquota : tabGet 0 s.noc.used n < getF (TRES_CFG0_QUOTA n) s) :
    ∃ t, Runs (.timedPacketSend g n d x) s t ∧ tabGet 0 t.noc.used n = tabGet 0 s.noc.used n + 1 ∧
      t.noc.flying = s.noc.flying ++ [timedPkt g n d.toNat x s] := by
  have hrun : exec (.timedPacketSend g n d x) s = fin (timedSend g n d.toNat x s) := by
    refine congrArg fin ((timedAccept_ready hready).trans ?_)
    rw [if_neg (timed_reserved hen hsrc hdest), if_neg (by omega)]
  obtain ⟨t, hruns, hend, -⟩ := runs_fin hrun
  have hall := (traffic_of_noc hend.noc).trans (traffic_probesSee (timedPkt g n d.toNat x s) { s with noc := { s.noc with
    flying := s.noc.flying ++ [timedPkt g n d.toNat x s], used := tabUpd 0 s.noc.used n (· + 1) } })
  refine ⟨t, hruns, ?_, flying_of_traffic hall⟩
  rw [used_of_traffic hall]
  exact tabGet_tabSet_same 0 s.noc.used n.val (tabGet 0 s.noc.used n + 1)

/-- A packet outside its window is counted, and flies nowhere (R264). -/
theorem timedPacketSend_outside (hready : fpState g s = 1) (hen : isSet (TRES_CFG1_EN n) s = true) (hsrc : getF (TRES_CFG0_SRC n) s = g.val)
    (hdest : getF (TRES_CFG0_DEST n) s = d.toNat) (hclosed : tabGet 0 s.noc.windows n = 0) :
    ∃ t, Runs (.timedPacketSend g n d x) s t ∧ t.noc.flying = s.noc.flying ∧ getC (ctNoc 6) t = getC (ctNoc 6) (incC (ctNoc 6) s) := by
  have hrun : exec (.timedPacketSend g n d x) s =
      fin (oncePerSecond (0x040E0000 + g) (sbEvent 0x040E []) (whRaise 70 (incC (ctNoc 6) s))) := by
    refine congrArg fin ((timedAccept_ready hready).trans ?_)
    rw [if_neg (timed_reserved hen hsrc hdest), if_pos (.inl hclosed)]
  obtain ⟨t, hruns, hend, -⟩ := runs_fin hrun
  have hall := (traffic_of_noc hend.noc).trans (traffic_oncePerSecond _ _ _ _)
  refine ⟨t, hruns, flying_of_traffic hall, ?_⟩
  rw [hend.ctrs _ (by decide), getC_oncePerSecond (by decide)]
  rfl

/-- A port that is not READY takes no packet (R264). -/
theorem timedPacketSend_notReady (h : fpState g s ≠ 1) : Does (.timedPacketSend g n d x) s s :=
  does_fin (congrArg fin (if_pos h)) (Noted.refl _)

end

section
variable {s : State} {n : Fin 32} {k : Pkt}

/-- No TIMED packet is under way any more. -/
def landed (s : State) : State := { s with noc := { s.noc with flying := [] } }

/-- What becomes of the only packet under way on its reservation, at a port that is ISOLATED or ASLEEP, and at any other (R266). -/
theorem timedArrive_only (hfly : s.noc.flying = [k]) (hres : k.res = n.val) (flips : BitVec 266) : timedArrive n flips s =
    if fpState k.dest s = 3 ∨ fpState k.dest s = 4 then incC (ctNoc 10) (landed s)
    else if 0 ≤ timedPast k s ∨ 64 ≤ (s.noc.held.filter (fun x => decide (x.dest = k.dest))).length then timedLate (landed s)
    else
      let x := timedDecode k flips (landed s)
      { x.2 with noc := { x.2.noc with held := x.2.noc.held ++ [x.1] } } := by
  have hfind : s.noc.flying.find? (fun k => decide (k.res = n.val)) = some k := by simp [hfly, hres]
  have hland : { s with noc := { s.noc with flying := s.noc.flying.erase k } } = landed s := by simp [hfly, landed]
  rw [timedArrive, hfind]
  simp only [hland]
  rfl

/-- A packet at an ISOLATED or ASLEEP port is counted and dropped (R266). -/
theorem timedPacketArrive_drops (hfly : s.noc.flying = [k]) (hres : k.res = n.val) (hiso : fpState k.dest s = 3 ∨ fpState k.dest s = 4) :
    Does (.timedPacketArrive n 0) s (incC (ctNoc 10) { s with noc := { s.noc with flying := [] } }) :=
  does_fin (congrArg fin ((timedArrive_only hfly hres 0).trans (if_pos hiso))) (Noted.refl _)

/-- A packet that arrives in its presentation slot or later is counted late, and is not held (R266). -/
theorem timedPacketArrive_late (hfly : s.noc.flying = [k]) (hres : k.res = n.val) (hready : fpState k.dest s = 1)
    (hpast : 0 ≤ timedPast k s) : ∃ t, Runs (.timedPacketArrive n 0) s t ∧ t.noc.flying = [] ∧ t.noc.held = s.noc.held ∧
      getC (ctNoc 8) t = getC (ctNoc 8) (incC (ctNoc 8) s) := by
  have hrun : exec (.timedPacketArrive n 0) s = fin (timedLate (landed s)) :=
    congrArg fin ((timedArrive_only hfly hres 0).trans (by rw [hready, if_neg (by decide), if_pos (.inl hpast)]))
  have hlate : Noted (incC (ctNoc 8) (landed s)) (timedLate (landed s)) :=
    (Noted.whRaise (id := 69) (by decide) _).trans (Noted.sbEvent _ _ _)
  obtain ⟨t, hruns, hend, -⟩ := runs_fin hrun
  have hall := hlate.trans hend
  exact ⟨t, hruns, by rw [hall.noc]; rfl, by rw [hall.noc]; rfl, by rw [hall.ctrs _ (by decide)]; rfl⟩

/-- A flit on which no bit has flipped is the packet as it was sent (R251). -/
theorem timedDecode_whole (hecc : k.ecc = true) (s : State) : timedDecode k 0 s = (k, s) := by
  have hflips : popCount (0 : BitVec 266).toNat 266 = 0 := (congrArg (popCount · 266) BitVec.toNat_zero).trans (popCount_zero 266)
  rw [timedDecode, if_neg (by simp [hecc]), if_pos hflips]

/-- A packet that arrives in time is held (R266). -/
theorem timedPacketArrive_held (hfly : s.noc.flying = [k]) (hres : k.res = n.val) (hready : fpState k.dest s = 1)
    (hpast : timedPast k s < 0) (hheld : s.noc.held = []) (hecc : k.ecc = true) :
    Does (.timedPacketArrive n 0) s { s with noc := { s.noc with flying := [], held := [k] } } := by
  have harrive : timedArrive n 0 s = { s with noc := { s.noc with flying := [], held := [k] } } := by
    rw [timedArrive_only hfly hres, hready, if_neg (by decide), hheld, if_neg (by simpa using hpast), timedDecode_whole hecc]
    simp [landed, hheld]
  exact does_fin (congrArg fin harrive) (Noted.refl _)

end

section
variable {s : State} {g : Fin 80} {k : Pkt}

/-- The only packet held, once due, is presented to its region, whose logic takes it (R266). -/
theorem timedPresent_due (hheld : s.noc.held = [k]) (hshown : s.noc.shown = []) (hdest : k.dest = g.val) (hpast : 0 ≤ timedPast k s) :
    ∃ t, Runs (.timedPresent g 1) s t ∧ Noted { s with noc := { s.noc with held := [], shown := [] } } t ∧
      .fabric g 2 k.src 0 (leBytes 6 k.turn ++ leBytes 2 k.slot ++ k.data) ∈ t.out := by
  have hdue : timedDue s = { s with noc := { s.noc with held := [], shown := [k] } } := by
    simp [timedDue, hheld, hshown, hpast, timedInsert]
  have htake : timedTake g (timedDue s) = emit (.fabric g 2 k.src 0 (leBytes 6 k.turn ++ leBytes 2 k.slot ++ k.data))
      { s with noc := { s.noc with held := [], shown := [] } } := by
    have hfind : [k].find? (fun x => decide (x.dest = g.val)) = some k := by simp [hdest]
    rw [timedTake, hdue]
    simp only [hfind, List.erase_cons_head]
  have hrun : exec (.timedPresent g 1) s = fin (timedTake g (timedDue s)) := rfl
  rw [htake] at hrun
  obtain ⟨t, hruns, hend, hout⟩ := runs_fin hrun
  exact ⟨t, hruns, (Noted.emit _ _).trans hend, hout (by simp)⟩

/-- A packet that is not yet due stays held (R266). -/
theorem timedPresent_early (hheld : s.noc.held = [k]) (hshown : s.noc.shown = []) (hpast : timedPast k s < 0) :
    Does (.timedPresent g 1) s s := by
  have hdue : timedDue s = s := by
    have hkeep : s.noc.held.filter (fun k => decide (timedPast k s < 0)) = s.noc.held := by simp [hheld, hpast]
    have hnone : s.noc.held.filter (fun k => decide (0 ≤ timedPast k s)) = [] := by simp [hheld, hpast]
    rw [timedDue, hkeep, hnone]
    rfl
  have htake : timedTake g s = s := by rw [timedTake, hshown]; rfl
  have hrun : exec (.timedPresent g 1) s = fin (timedTake g (timedDue s)) := rfl
  rw [hdue, htake] at hrun
  exact does_fin hrun (Noted.refl s)

end

/-- Settles O46: each clause is the lemma of its case above; a disable and a window's close are what their meanings write. -/
theorem timedChannel : Obligations.TimedChannel := by
  unfold Obligations.TimedChannel
  refine ⟨fun s n hoff hrange => ⟨tresEnableWrite_enables hoff hrange, tresEnableWrite_refused hoff⟩, fun s n => does_fin rfl (Noted.refl _),
    fun s g n d x hready => ⟨timedPacketSend_unreserved hready, fun hen hsrc hdest => ⟨fun hopen hquota => ?_,
      timedPacketSend_outside hready hen hsrc hdest⟩⟩, fun s g n d x => timedPacketSend_notReady,
    fun s n k hfly hres => ⟨timedPacketArrive_drops hfly hres, timedPacketArrive_late hfly hres, timedPacketArrive_held hfly hres⟩,
    fun s g k hheld hshown hdest => ⟨timedPresent_due hheld hshown hdest, timedPresent_early hheld hshown⟩,
    fun s => does_fin rfl (Noted.refl _)⟩
  obtain ⟨t, hruns, hused, hfly⟩ := timedPacketSend_flies (x := x) hready hen hsrc hdest hopen hquota
  exact ⟨t, hruns, hused, _, hfly, rfl, rfl, rfl, rfl, rfl, rfl, rfl⟩

end Sys2Proof.Machine
end

section
/-! SUPPORT. A link as it is read after it has been written, and the two sides of a flit (R247, R248). -/

namespace Sys2Proof.Machine

@[simp] theorem linkOf_linkSet (n p : Nat) (x : Link) (s : State) : linkOf n p (linkSet n p x s) = x := tabGet_tabSet_same _ _ _ _

theorem Noted.linkOf {s t : State} (h : Noted s t) (n p : Nat) : linkOf n p t = linkOf n p s := by
  rw [Machine.linkOf, h.noc, Machine.linkOf]

/-- A link whose sender has sent one more flit of a VC: it took a credit, and is kept (R247, R248). -/
def flitSent (x : Link) (v : Nat) : Link :=
  { x with credits := listSet x.credits v (listGet 0 x.credits v - 1), kept := x.kept ++ [(x.sendL, v)], sendL := (x.sendL + 1) % 16 }

section
variable {n p v : Nat} {s : State}

/-- A new flit that has a credit and a place in the replay buffer is sent, and reaches the receiver. -/
theorem linkFlit_fresh {v : Fin 4} (hthere : linkThere n p = true) (hcredit : listGet 0 (linkOf n p s).credits v ≠ 0)
    (hroom : (linkOf n p s).kept.length < 8) (good : Bool) : linkFlit n p (.fresh v good) s =
      linkReceive n p (linkOf n p s).sendL v good (linkSet n p (flitSent (linkOf n p s) v) s) := by
  have hsends : ¬ (listGet 0 (linkOf n p s).credits v = 0 ∨ 8 ≤ (linkOf n p s).kept.length) := by omega
  simp only [linkFlit, hthere, Bool.true_eq_false, hsends, if_false]
  rfl

/-- A good flit in its order, on a link without trouble, is queued and acknowledged. -/
theorem linkReceive_inOrder {x : Link} (hx : linkOf n p s = x) (hnone : x.since = none) : linkReceive n p x.wantL v true s =
    linkSet n p { x with
      naked := false, wantL := (x.wantL + 1) % 16, queued := listSet x.queued v (listGet 0 x.queued v + 1)
      returns := x.returns ++ [(x.wantL, false)] } s := by
  rw [linkReceive, hx, if_neg (by decide), if_pos rfl, linkDelivered, linkOf_linkSet]
  simp [hnone]

/-- A bad flit is refused, where none before it has been. -/
theorem linkReceive_bad {x : Link} (hx : linkOf n p s = x) (hfirst : x.naked = false) (l : Nat) : linkReceive n p l v false s =
    linkSet n p (linkTrouble { x with naked := true, returns := x.returns ++ [(x.wantL, true)] } s) s := by
  rw [linkReceive, hx, if_pos rfl, if_neg (by simp [hfirst])]

end

end Sys2Proof.Machine
end

section
/-! Links and the trace's restart (R244, R247 to R250, R273), clause by clause. -/

namespace Sys2Proof.Machine

variable {s : State} {n : Fin 48} {p : Fin 8}

/-- A good flit in order takes a credit, is kept, and is queued and acknowledged (R247, R248). -/
theorem linkFlitReceive_inOrder {v : Fin 4} {x : Link} (hx : x = linkOf n p s) (hthere : linkThere n p = true)
    (hcredit : listGet 0 x.credits v ≠ 0) (hroom : x.kept.length < 8) (hnone : x.since = none) (hseq : x.sendL = x.wantL) :
    Does (.linkFlitReceive n p (.fresh v true)) s (linkSet n p { flitSent x v with
      naked := false, wantL := (x.wantL + 1) % 16, queued := listSet x.queued v (listGet 0 x.queued v + 1)
      returns := x.returns ++ [(x.wantL, false)] } (linkSet n p (flitSent x v) s)) := by
  subst hx
  refine does_fin (congrArg fin ?_) (Noted.refl _)
  rw [linkFlit_fresh hthere hcredit hroom, hseq]
  exact linkReceive_inOrder (linkOf_linkSet _ _ _ _) hnone

/-- A bad flit takes a credit and is kept; it is refused, and the trouble begins (R248, R249). -/
theorem linkFlitReceive_bad {v : Fin 4} {x : Link} (hx : x = linkOf n p s) (hthere : linkThere n p = true)
    (hcredit : listGet 0 x.credits v ≠ 0) (hroom : x.kept.length < 8) (hfirst : x.naked = false) :
    ∃ t y, Runs (.linkFlitReceive n p (.fresh v false)) s t ∧ y = linkOf n p t ∧ y.naked = true ∧ y.wantL = x.wantL ∧
      y.queued = x.queued ∧ y.returns = x.returns ++ [(x.wantL, true)] ∧ y.since.isSome = true ∧ y.kept = x.kept ++ [(x.sendL, v.val)] := by
  subst hx
  have hrun : exec (.linkFlitReceive n p (.fresh v false)) s = fin _ := congrArg fin
    ((linkFlit_fresh hthere hcredit hroom false).trans
      (linkReceive_bad (x := flitSent (linkOf n p s) v) (linkOf_linkSet _ _ _ _) hfirst _))
  obtain ⟨t, hruns, hend, -⟩ := runs_fin hrun
  exact ⟨t, _, hruns, ((hend.linkOf _ _).trans (linkOf_linkSet _ _ _ _)).symm, rfl, rfl, rfl, rfl, rfl, rfl⟩

/-- An ACK frees the flit that it acknowledges (R248). -/
theorem linkAckNak_frees {l v : Nat} {rs : List (Nat × Bool)} (hret : (linkOf n p s).returns = (l, false) :: rs)
    (hkept : (linkOf n p s).kept = [(l, v)]) :
    Does (.linkAckNak n p true) s (linkSet n p { linkOf n p s with kept := [], returns := rs } s) := by
  refine does_fin (congrArg fin ?_) (Noted.refl _)
  simp [linkReturn, hret, hkept, List.findIdx?_cons]

/-- A return whose parity is bad is lost (R248). -/
theorem linkAckNak_lost {r : Nat × Bool} {rs : List (Nat × Bool)} (hret : (linkOf n p s).returns = r :: rs) :
    Does (.linkAckNak n p false) s (linkSet n p { linkOf n p s with returns := rs } s) := by
  refine does_fin (congrArg fin ?_) (Noted.refl _)
  simp [linkReturn, hret]

/-- A flit leaves the receiver's queue: its credit returns, or is lost with bad parity (R247). -/
theorem creditReturn_leaves {v : Fin 4} (hqueued : listGet 0 (linkOf n p s).queued v ≠ 0) (good : Bool) :
    Does (.creditReturn n p v good) s (linkSet n p
      (if good then { linkOf n p s with
        queued := listSet (linkOf n p s).queued v (listGet 0 (linkOf n p s).queued v - 1)
        credits := listSet (linkOf n p s).credits v (listGet 0 (linkOf n p s).credits v + 1) }
      else { linkOf n p s with queued := listSet (linkOf n p s).queued v (listGet 0 (linkOf n p s).queued v - 1) }) s) := by
  refine does_fin (congrArg fin ?_) (Noted.refl _)
  rw [creditReturn, if_neg hqueued]

/-- A replay timeout begins the resend of what is kept: the trouble starts now (R248, R249). -/
theorem replayTimeout_begins (hkept : (linkOf n p s).kept ≠ []) (hnone : (linkOf n p s).since = none) :
    Does (.replayTimeout n p) s (linkSet n p { linkOf n p s with since := some s.time.us } s) := by
  refine does_fin (congrArg fin ?_) (Noted.refl _)
  rw [replayTimeout, if_neg hkept, linkTrouble, hnone]
  rfl

/-- A link marked as failed, 1 µs after its trouble began, with the log that names it (R249). -/
def linkFailed (n p u : Nat) (s : State) : State :=
  setF LINK_FAIL_LOG_VALID 1 (setF LINK_FAIL_LOG_PORT p (setF LINK_FAIL_LOG_ROUTER n
    (linkSet n p { linkOf n p s with failed := true } { s with time := { s.time with us := max s.time.us (u + 1) } })))

theorem NotSafe.linkFailed {c u : Nat} (h : NotSafe c s) (hc : c ≤ 22) (n p : Nat) : NotSafe c (linkFailed n p u s) := by
  have hset (g : Fld) (hl : g.lo < 32) (ha : g.addr = 0x3F00500008) (v : Nat) {w : State} (hw : NotSafe c w) : NotSafe c (Machine.setF g v w) :=
    hw.setF hc hl (by omega) v
  exact hset _ (by decide) rfl _ (hset _ (by decide) rfl _ (hset _ (by decide) rfl _ h))

/-- The log names the link. -/
theorem linkFailed_logs (n : Fin 48) (p : Fin 8) (u : Nat) (s : State) : getF LINK_FAIL_LOG_VALID (linkFailed n p u s) = 1 ∧
    getF LINK_FAIL_LOG_ROUTER (linkFailed n p u s) = n.val ∧ getF LINK_FAIL_LOG_PORT (linkFailed n p u s) = p.val := by
  refine ⟨getF_setF_same _ _ _, ?_, ?_⟩
  · rw [linkFailed, getF_setF_other _ _ (by decide), getF_setF_other _ _ (by decide), getF_setF_same]
    exact Nat.mod_eq_of_lt (show n.val < 64 by omega)
  · rw [linkFailed, getF_setF_other _ _ (by decide), getF_setF_same]
    exact Nat.mod_eq_of_lt (show p.val < 8 by omega)

theorem not_noteAddr_linkFailLog : ¬ noteAddr 0x3F00500008 := by
  unfold noteAddr
  decide

/-- A link in trouble fails: it is marked, with its log and alarm (R249, R440). -/
theorem linkFail_fails {u : Nat} (hc : NotSafe 0x0C s) (hg : NotSafe 0x13 s) (hsince : (linkOf n p s).since = some u)
    (hok : (linkOf n p s).failed = false) :
    ∃ t, Runs (.linkFail n p) s t ∧ (linkOf n p t).failed = true ∧ getF LINK_FAIL_LOG_VALID t = 1 ∧ getF LINK_FAIL_LOG_ROUTER t = n.val ∧
      getF LINK_FAIL_LOG_PORT t = p.val ∧ bitOf (getF LJ_ALARM_LATCH_ALARM t) 11 = true ∧ u + 1 ≤ t.time.us := by
  have hrun : exec (.linkFail n p) s =
      finG (alarm 0x0C (linkKey n p) true (whRaise 64 (sbEvent 0x0404 [] (linkFailed n p u s)))) := by
    refine congrArg finG ?_
    dsimp only [linkFail]
    split
    · next h => simp [hsince] at h
    · next k h =>
      obtain rfl : u = k := Option.some.inj (hsince.symm.trans h)
      rw [hok, if_neg Bool.false_ne_true]
      rfl
  have hevent : Noted (linkFailed n p u s) (whRaise 64 (sbEvent 0x0404 [] (linkFailed n p u s))) :=
    (Noted.sbEvent _ _ _).trans (Noted.whRaise (by decide) _)
  have hquiet : NotSafe 0x0C (whRaise 64 (sbEvent 0x0404 [] (linkFailed n p u s))) :=
    (hc.linkFailed (by decide) n p).noted (by decide) hevent
  have hnote := hevent.trans (Noted.alarm (subject := linkKey n p) (present := true) hquiet)
  obtain ⟨t, hruns, hend, hlog⟩ := runs_finG_logged hrun ((hg.linkFailed (by decide) n p).noted (by decide) hnote)
  have hall := hnote.trans hend
  obtain ⟨hvalid, hrouter, hport⟩ := linkFailed_logs n p u s
  refine ⟨t, hruns, ?_, ?_, ?_, ?_, hlog.latched 11 (by decide) ((Logged.alarm (.inl hquiet) _ _).2 (by decide) (by decide)), ?_⟩
  · rw [hall.linkOf]
    exact congrArg Link.failed (linkOf_linkSet n p _ _)
  · rw [hall.regs _ (by decide) not_noteAddr_linkFailLog, hvalid]
  · rw [hall.regs _ (by decide) not_noteAddr_linkFailLog, hrouter]
  · rw [hall.regs _ (by decide) not_noteAddr_linkFailLog, hport]
  · rw [hall.us]
    exact Nat.le_max_right _ _

section
variable {v : Fin 4} (hthere : linkThere n p = true) (hnone : linkTransit (linkOf n p s) v = 0) (hen : isSet NOC_CTRL_AUDIT_EN s = true)
include hthere hnone hen

/-- An audit with nothing under way compares the credits with the queue (R250). -/
theorem creditAudit_compares : creditAudit n p v none s =
    if 8 - listGet 0 (linkOf n p s).queued v < listGet 0 (linkOf n p s).credits v then
      whRaise 67 (sbEvent 0x0406 [] (setF NOC_STATUS_CREDIT_PARITY 1 (linkSet n p { linkOf n p s with
        credits := listSet (linkOf n p s).credits v (8 - listGet 0 (linkOf n p s).queued v) } (boundMet 1 s))))
    else if listGet 0 (linkOf n p s).credits v < 8 - listGet 0 (linkOf n p s).queued v then
      whRaise 66 (sbEvent 0x0405 [] (setF NOC_STATUS_CREDIT_FIX 1 (addC (ctNoc 3)
        (8 - listGet 0 (linkOf n p s).queued v - listGet 0 (linkOf n p s).credits v) (linkSet n p { linkOf n p s with
          credits := listSet (linkOf n p s).credits v (8 - listGet 0 (linkOf n p s).queued v) } (boundMet 1 s)))))
    else boundMet 1 s := by
  rw [creditAudit, if_neg (by simp [hthere, hnone, hen])]
  simp only [Option.isSome_none, Bool.false_eq_true, false_or]

/-- Credits and queue that make 8 stay as they are (R250). -/
theorem creditAudit_right (hs : NotSafe 0x13 s) (hright : listGet 0 (linkOf n p s).credits v = 8 - listGet 0 (linkOf n p s).queued v) :
    Does (.creditAudit n p v none) s s := by
  have hrun : exec (.creditAudit n p v none) s = finG (boundMet 1 s) := by
    refine congrArg finG ((creditAudit_compares hthere hnone hen).trans ?_)
    rw [if_neg (by omega), if_neg (by omega)]
  exact does_guarantee hrun (Noted.boundMet 1 s) hs

/-- Lost credits are restored and counted (R250). -/
theorem creditAudit_mends (hs : NotSafe 0x13 s) (hlost : listGet 0 (linkOf n p s).credits v < 8 - listGet 0 (linkOf n p s).queued v) :
    ∃ t, Runs (.creditAudit n p v none) s t ∧
      (linkOf n p t).credits = listSet (linkOf n p s).credits v (8 - listGet 0 (linkOf n p s).queued v) ∧
      getF NOC_STATUS_CREDIT_FIX t = 1 ∧ getC (ctNoc 3) t =
        getC (ctNoc 3) (addC (ctNoc 3) (8 - listGet 0 (linkOf n p s).queued v - listGet 0 (linkOf n p s).credits v) s) := by
  have hmends := creditAudit_compares hthere hnone hen
  rw [if_neg (by omega), if_pos hlost] at hmends
  generalize hu : addC (ctNoc 3) _ (linkSet n p _ (boundMet 1 s)) = u at hmends
  have hnote : Noted (setF NOC_STATUS_CREDIT_FIX 1 u) (whRaise 66 (sbEvent 0x0405 [] (setF NOC_STATUS_CREDIT_FIX 1 u))) :=
    (Noted.sbEvent _ _ _).trans (Noted.whRaise (by decide) _)
  have hsafe : NotSafe 0x13 u := by
    rw [← hu]
    exact hs
  obtain ⟨t, hruns, hend, -⟩ := runs_finG (i := .creditAudit n p v none) (congrArg finG hmends)
    ((hsafe.setF (g := NOC_STATUS_CREDIT_FIX) (by decide) (by decide) (by decide) 1).noted (by decide) hnote)
  have hall := hnote.trans hend
  refine ⟨t, hruns, ?_, ?_, ?_⟩
  · rw [hall.linkOf, ← hu]
    exact congrArg Link.credits (linkOf_linkSet n p _ (boundMet 1 s))
  · rw [hall.regs _ (by decide) not_noteAddr_nocStatus, getF_setF_same]
    rfl
  · rw [hall.ctrs _ (by decide), ← hu]
    rfl

end

/-- Settles O47: each clause is the lemma of its case above; PTRACE's restart is what its meaning writes. -/
theorem linkRows : Obligations.LinkRows := by
  unfold Obligations.LinkRows
  refine ⟨fun s n p v x hx hthere hcredit hroom => ⟨linkFlitReceive_inOrder hx hthere hcredit hroom,
      linkFlitReceive_bad hx hthere hcredit hroom⟩, fun s n p l v rs => linkAckNak_frees, fun s n p r rs => linkAckNak_lost,
    fun s n p v x hx hqueued => ?_, fun s n p => replayTimeout_begins, fun s n p u => linkFail_fails,
    fun s n p v x hs hx hthere hnone hen => ?_, fun s => does_fin rfl (Noted.refl _)⟩
  · subst hx
    exact ⟨creditReturn_leaves hqueued true, creditReturn_leaves hqueued false⟩
  · subst hx
    exact ⟨creditAudit_right hthere hnone hen hs, creditAudit_mends hthere hnone hen hs⟩

end Sys2Proof.Machine
end

section
/-! SUPPORT. A register's read-write fields after a word has been put into them (R3), and the probes' registers (R271). -/

namespace Sys2Proof.Machine

/-- A word put into a list of fields of one register, no two of them at the same bit: each read-write field takes its bits. -/
theorem getF_pokeFields {a v : Nat} {l : List FSpec} (hdistinct : (l.map FSpec.lo).Nodup) (hlo : ∀ y ∈ l, y.lo < 32) {x : FSpec}
    (hx : x ∈ l) (hrw : x.ty = .rw) (s : State) :
    getF (fldAt a x) (forEach (fun f s => if f.ty = .rw then setF (fldAt a f) (v / 2 ^ f.lo) s else s) l s) = bitsOf v x.lo x.w := by
  induction l generalizing s with
  | nil => cases hx
  | cons y l ih =>
    obtain ⟨hnot, hrest⟩ := List.nodup_cons.1 hdistinct
    rcases List.mem_cons.1 hx with rfl | hx
    · rw [forEach, if_pos hrw, forEach_keeps (getF (fldAt a x)) (fun z hz u => ?_), getF_setF_same]
      · rfl
      · split
        · refine getF_setF_other _ u fun he => hnot ?_
          have hsame : x.lo = z.lo := by simp only [fldKey, fldAt] at he; omega
          exact List.mem_map.2 ⟨z, hz, hsame.symm⟩
        · rfl
    · exact ih hrest (fun z hz => hlo z (List.mem_cons_of_mem _ hz)) hx _

/-- A word put into a register reads back, field by field (R3). -/
theorem getF_regPoke_same {a v : Nat} {l : List FSpec} (hl : regFields a = l) (hdistinct : (l.map FSpec.lo).Nodup)
    (hlo : ∀ y ∈ l, y.lo < 32) {x : FSpec} (hx : x ∈ l) (hrw : x.ty = .rw) (s : State) :
    getF (fldAt a x) (regPoke a v s) = bitsOf v x.lo x.w := by
  rw [regPoke, hl]
  exact getF_pokeFields hdistinct hlo hx hrw s

/-- A word put into a register leaves the registers at other addresses alone. -/
theorem getF_regPoke_addr {a v : Nat} {l : List FSpec} (hl : regFields a = l) (hlo : ∀ y ∈ l, y.lo < 32) {f : Fld} (hf : f.lo < 32)
    (ha : f.addr ≠ a) (s : State) : getF f (regPoke a v s) = getF f s := by
  rw [regPoke, hl]
  refine forEach_keeps (getF f) (fun x hx u => ?_) s
  split
  · exact getF_setF_addr hf (hlo x hx) ha _ u
  · rfl

/-- The fields of PROBE_CFG, PROBE_NODE, PROBE_ADDR_LO and PROBE_ADDR_HI. -/
def probeFields : Nat → List FSpec
  | 0 => [⟨0, 1, .rw, .now, 0⟩, ⟨1, 1, .rw, .now, 0⟩, ⟨2, 2, .rw, .now, 0⟩, ⟨4, 1, .rw, .now, 0⟩, ⟨5, 1, .rw, .now, 0⟩,
      ⟨6, 1, .ro, .now, 0⟩, ⟨8, 6, .rw, .now, 0⟩, ⟨16, 3, .rw, .now, 0⟩, ⟨20, 4, .rw, .now, 0xF⟩, ⟨24, 8, .rw, .now, 0xFF⟩]
  | 4 => [⟨0, 7, .rw, .now, 0⟩, ⟨7, 1, .rw, .now, 0⟩, ⟨8, 7, .rw, .now, 0⟩, ⟨15, 1, .rw, .now, 0⟩, ⟨16, 7, .rw, .now, 0⟩,
      ⟨24, 7, .rw, .now, 0⟩]
  | 8 => [⟨0, 32, .rw, .now, 0⟩]
  | 12 => [⟨0, 32, .rw, .now, 0xFFFFFFFF⟩]
  | _ => []

theorem regFields_probe : ∀ p < 32, ∀ off ∈ [0, 4, 8, 12], regFields (probeAddr p off) = probeFields off := by decide +kernel

theorem probeFields_lo : ∀ off ∈ [0, 4, 8, 12], ((probeFields off).map FSpec.lo).Nodup ∧ ∀ y ∈ probeFields off, y.lo < 32 := by decide

section
variable {p off v : Nat} (hp : p < 32) (hoff : off ∈ [0, 4, 8, 12])
include hp hoff

/-- A word put into a probe's register reads back. -/
theorem getF_probePoke_same {x : FSpec} (hx : x ∈ probeFields off) (hrw : x.ty = .rw) (s : State) :
    getF (fldAt (probeAddr p off) x) (regPoke (probeAddr p off) v s) = bitsOf v x.lo x.w :=
  getF_regPoke_same (regFields_probe p hp off hoff) (probeFields_lo off hoff).1 (probeFields_lo off hoff).2 hx hrw s

/-- It leaves the probe's other registers alone. -/
theorem getF_probePoke_other {x : FSpec} {o : Nat} (hx : x.lo < 32) (ho : o ≠ off) (s : State) :
    getF (fldAt (probeAddr p o) x) (regPoke (probeAddr p off) v s) = getF (fldAt (probeAddr p o) x) s :=
  getF_regPoke_addr (regFields_probe p hp off hoff) (probeFields_lo off hoff).2 hx (by simp only [fldAt, probeAddr]; omega) s

end

/-- What a probe's four registers hold: the words `cfg`, `node`, `lo` and `hi`. -/
structure ProbeHolds (p cfg node lo hi : Nat) (t : State) : Prop where
  en : getF (PROBE_CFG_EN p) t = bitsOf cfg 0 1
  mode : getF (PROBE_CFG_MODE p) t = bitsOf cfg 2 2
  router : getF (PROBE_CFG_ROUTER p) t = bitsOf cfg 8 6
  src : getF (PROBE_NODE_SRC p) t = bitsOf node 0 7
  dest : getF (PROBE_NODE_DEST p) t = bitsOf node 16 7
  addrLo : getF (PROBE_ADDR_LO_ADDR p) t = bitsOf lo 0 32
  addrHi : getF (PROBE_ADDR_HI_ADDR p) t = bitsOf hi 0 32

/-- A field of a probe's register at an offset, by its specification. -/
theorem probeFld_eq (p off : Nat) (x : FSpec) : (⟨0x3F00580000 + off + p * 0x20, x.lo, x.w, x.rst⟩ : Fld) = fldAt (probeAddr p off) x := by
  rw [fldAt, probeAddr, Nat.add_right_comm]

/-- PROBE_SET's four words in a probe's registers. -/
theorem probeHolds_poked {p : Nat} (hp : p < 32) (cfg node lo hi : Nat) (s : State) : ProbeHolds p cfg node lo hi
    (regPoke (probeAddr p 0) cfg (regPoke (probeAddr p 12) hi (regPoke (probeAddr p 8) lo (regPoke (probeAddr p 4) node s)))) where
  en := getF_probePoke_same hp (by decide) (x := ⟨0, 1, .rw, .now, 0⟩) (by decide) rfl _
  mode := getF_probePoke_same hp (by decide) (x := ⟨2, 2, .rw, .now, 0⟩) (by decide) rfl _
  router := getF_probePoke_same hp (by decide) (x := ⟨8, 6, .rw, .now, 0⟩) (by decide) rfl _
  src := by
    rw [PROBE_NODE_SRC, probeFld_eq p 4 ⟨0, 7, .rw, .now, 0⟩, getF_probePoke_other hp, getF_probePoke_other hp, getF_probePoke_other hp,
      getF_probePoke_same hp] <;> decide
  dest := by
    rw [PROBE_NODE_DEST, probeFld_eq p 4 ⟨16, 7, .rw, .now, 0⟩, getF_probePoke_other hp, getF_probePoke_other hp, getF_probePoke_other hp,
      getF_probePoke_same hp] <;> decide
  addrLo := by
    rw [PROBE_ADDR_LO_ADDR, probeFld_eq p 8 ⟨0, 32, .rw, .now, 0⟩, getF_probePoke_other hp, getF_probePoke_other hp,
      getF_probePoke_same hp] <;> decide
  addrHi := by
    rw [PROBE_ADDR_HI_ADDR, probeFld_eq p 12 ⟨0, 32, .rw, .now, 0xFFFFFFFF⟩, getF_probePoke_other hp, getF_probePoke_same hp] <;> decide

end Sys2Proof.Machine
end

section
/-! SUPPORT. What an answer leaves of the network and its registers, and what the NoC commands read beside the sequencer. -/

namespace Sys2Proof.Machine

theorem Sealed.ctrs {m : Nat} {s t : State} (h : Sealed m s t) : t.ctrs = s.ctrs := by
  obtain ⟨_, _, _, _, _, rfl⟩ := h.rest
  rfl

theorem Sealed.noc {m : Nat} {s t : State} (h : Sealed m s t) : t.noc = s.noc := by
  obtain ⟨_, _, _, _, _, rfl⟩ := h.rest
  rfl

/-- Registers below the mailboxes' own are no answer's. -/
theorem Sealed.regsBelow {m : Nat} {s t : State} (h : Sealed m s t) {f : Fld} (hl : f.lo < 32) (ha : f.addr < 0x3F00C00000) :
    getF f t = getF f s := by
  refine h.regs f hl ?_ ?_
  all_goals
    simp only [MB_STATUS_BUSY, MB_LAST_SEQ]
    omega

theorem Sealed.sameTres {m : Nat} {s t : State} (h : Sealed m s t) : SameTres s t := fun f hl ha =>
  h.regsBelow hl (by unfold tresAddr at ha; omega)

theorem ProbeHolds.sealed {p cfg node lo hi m : Nat} {s t : State} (h : ProbeHolds p cfg node lo hi s) (hp : p < 32) (k : Sealed m s t) :
    ProbeHolds p cfg node lo hi t := by
  have hreg (f : Fld) (hl : f.lo < 32) (ha : f.addr ≤ 0x3F0058000C + p * 0x20) : getF f t = getF f s := k.regsBelow hl (by omega)
  constructor
  · rw [hreg _ (by simp [PROBE_CFG_EN]) (by simp [PROBE_CFG_EN]), h.en]
  · rw [hreg _ (by simp [PROBE_CFG_MODE]) (by simp [PROBE_CFG_MODE]), h.mode]
  · rw [hreg _ (by simp [PROBE_CFG_ROUTER]) (by simp [PROBE_CFG_ROUTER]), h.router]
  · rw [hreg _ (by simp [PROBE_NODE_SRC]) (by simp [PROBE_NODE_SRC]), h.src]
  · rw [hreg _ (by simp [PROBE_NODE_DEST]) (by simp [PROBE_NODE_DEST]), h.dest]
  · rw [hreg _ (by simp [PROBE_ADDR_LO_ADDR]) (by simp [PROBE_ADDR_LO_ADDR]), h.addrLo]
  · rw [hreg _ (by simp [PROBE_ADDR_HI_ADDR]) (by simp [PROBE_ADDR_HI_ADDR]), h.addrHi]

@[simp] theorem nocStatusWord_seqPop (s : State) : nocStatusWord (seqPop s) = nocStatusWord s := by
  simp [nocStatusWord, anyLinkFailed]

@[simp] theorem probeAsleep_seqPop (p : Nat) (s : State) : probeAsleep p (seqPop s) = probeAsleep p s := by
  simp [probeAsleep]

@[simp] theorem probeCfgWord_seqPop (p : Nat) (s : State) : probeCfgWord p (seqPop s) = probeCfgWord p s := by
  simp [probeCfgWord]

@[simp] theorem tresStatusWord_seqPop (n : Nat) (s : State) : tresStatusWord n (seqPop s) = tresStatusWord n s := by
  simp [tresStatusWord]

@[simp] theorem traceSlot_seqPop (i : Nat) (s : State) : traceSlot i (seqPop s) = traceSlot i s := by
  simp [traceSlot]

theorem padTo_length (n : Nat) (l : List (BitVec 8)) : (padTo n l).length = n := by
  rw [padTo, List.length_append, List.length_take, List.length_replicate]
  omega

/-- Pieces of `k` bytes one behind another, in all and one by one. -/
theorem length_pieces {f : Nat → List (BitVec 8)} {k : Nat} (hf : ∀ i, (f i).length = k) (lo n : Nat) :
    ((natsFrom lo n).map f).flatten.length = k * n := by
  induction n generalizing lo with
  | zero => rfl
  | succ n ih => rw [natsFrom, List.map_cons, List.flatten_cons, List.length_append, hf, ih, Nat.mul_succ, Nat.add_comm]

theorem take_drop_pieces {f : Nat → List (BitVec 8)} {k : Nat} (hf : ∀ i, (f i).length = k) {lo n i : Nat} (hi : i < n) :
    (((natsFrom lo n).map f).flatten.drop (k * i)).take k = f (lo + i) := by
  induction n generalizing lo i with
  | zero => omega
  | succ n ih =>
    rw [natsFrom, List.map_cons, List.flatten_cons]
    cases i with
    | zero => rw [Nat.mul_zero, List.drop_zero, List.take_left' (hf lo), Nat.add_zero]
    | succ i =>
      rw [Nat.mul_succ, Nat.add_comm, ← hf lo, List.drop_length_add_append, hf lo, ih (by omega), Nat.add_right_comm, Nat.add_assoc]

end Sys2Proof.Machine
end

section
/-! The NoC, PROBE and TIMED_RES commands (R259, R262, R271 to R273), command by command. -/

namespace Sys2Proof.Machine

variable {s : State} {mb : Fin 14} {r : Req}

/-- The answer of NOC_STATUS: its two words, and the network's 11 counters. -/
def nocStatusBytes (s : State) : List (BitVec 8) :=
  leBytes 4 (nocStatusWord s) ++ leBytes 4 (regWord 0x3F00500008 s) ++ ((natsFrom 0 11).map (fun i => ctrBytes (ctNoc i) s)).flatten

theorem nocStatusBytes_seqPop (s : State) : nocStatusBytes (seqPop s) = nocStatusBytes s := by
  simp [nocStatusBytes, ctrBytes]

theorem ctrBytes_length (k : Nat) (s : State) : (ctrBytes k s).length = 6 := leBytes_length 6 _

theorem nocStatusBytes_length (s : State) : (nocStatusBytes s).length = 74 := by
  rw [nocStatusBytes, List.length_append, length_pieces fun i => ctrBytes_length (ctNoc i) s]
  simp

theorem nocStatusBytes_word (s : State) : fieldAt (nocStatusBytes s) 0 4 = nocStatusWord s % 2 ^ 32 := by
  simp [nocStatusBytes, List.append_assoc, fieldAt_first]

theorem nocStatusBytes_counter (s : State) {i : Nat} (hi : i < 11) :
    fieldAt (nocStatusBytes s) (8 + 6 * i) 6 = (getC (ctNoc i) s).val % 2 ^ 48 := by
  rw [nocStatusBytes, fieldAt_right _ _ _ _ (by simp), fieldAt]
  rw [show 8 + 6 * i - (leBytes 4 (nocStatusWord s) ++ leBytes 4 (regWord 0x3F00500008 s)).length = 6 * i by simp,
    take_drop_pieces (fun i => ctrBytes_length (ctNoc i) s) hi, Nat.zero_add, ctrBytes, leNat_leBytes]
  rfl

/-- NOC_STATUS with ACTION 0 answers, and with 1 also clears the events. -/
theorem nocStatus_reads (h : Asks sheetNocStatus mb r s) (ha : arg r 0 1 = 0) :
    Oks (.nocStatus mb) mb r (nocStatusBytes s) s (seqPop s) := by
  refine oks_fin rfl h ?_ (Noted.refl _) (nocStatusBytes_seqPop s)
  simp only [sheetNocStatus, plainSheet, if_pos ha, nocStatusBytes]

theorem nocStatus_clears (h : Asks sheetNocStatus mb r s) (ha : arg r 0 1 = 1) :
    ∃ t, Runs (.nocStatus mb) s t ∧ Answered r stOk (nocStatusBytes s) false t ∧ getF NOC_STATUS_MISROUTE t = 0 ∧
      getF NOC_STATUS_CFG_REJECT t = 0 ∧ ∀ i < 11, getC (ctNoc i) t = getC (ctNoc i) s := by
  have hrun : sheetNocStatus.run r (seqPop s) = (replyOk (nocStatusBytes s), forEach (fun f s => setF f 0 s) [NOC_STATUS_CFG_REJECT,
      NOC_STATUS_CREDIT_FIX, NOC_STATUS_CREDIT_PARITY, NOC_STATUS_MISROUTE, NOC_STATUS_PAYLOAD_UE] (seqPop s)) := by
    rw [← nocStatusBytes_seqPop]
    simp only [sheetNocStatus, plainSheet, ha, if_neg Nat.one_ne_zero, nocStatusBytes]
  obtain ⟨t, hruns, hans, hsealed⟩ := runs_answered (i := .nocStatus mb) rfl h hrun
  refine ⟨t, hruns, hans, ?_, ?_, fun i _ => ?_⟩
  · rw [hsealed.regsBelow (by decide) (by decide)]
    exact getF_clearAll rfl (.inl (by decide))
  · rw [hsealed.regsBelow (by decide) (by decide)]
    exact getF_clearAll rfl (.inl (by decide))
  · rw [getC_congr hsealed.ctrs]
    exact getC_seqPop _ s

/-- NOC_QOS_SET stores the weight (R259). -/
theorem nocQosSet_stores (h : Asks sheetNocQosSet mb r s) :
    Oks (.nocQosSet mb) mb r [] s (setF (NOC_QOS_WGT (arg r 0 1)) (arg r 1 1) (seqPop s)) :=
  oks_fin rfl h rfl (Noted.refl _) rfl

/-- PROBE_SET writes the probe's four registers (R271). -/
theorem probeSet_holds (h : Asks sheetProbeSet mb r s) : ∃ t, Runs (.probeSet mb) s t ∧ Answered r stOk [] false t ∧
    ProbeHolds (arg r 0 1) (arg r 4 4) (arg r 8 4) (arg r 12 4) (arg r 16 4) t := by
  have hargs := h.args
  dsimp only [sheetProbeSet, plainSheet] at hargs
  have hargs := (argsLen_none hargs).2
  simp only [Bool.and_eq_true, decide_eq_true_eq] at hargs
  obtain ⟨⟨hp, -⟩, -⟩ := hargs
  obtain ⟨t, hruns, hans, hsealed⟩ := runs_answered (i := .probeSet mb) rfl h rfl
  exact ⟨t, hruns, hans, (probeHolds_poked hp _ _ _ _ _).sealed hp hsealed⟩

/-- A field of a request reads back whole from a field of its width. -/
theorem bitsOf_arg (r : Req) (off : Nat) : bitsOf (arg r off 4) 0 32 = arg r off 4 := by
  rw [bitsOf, Nat.pow_zero, Nat.div_one]
  exact Nat.mod_eq_of_lt (fieldAt_lt _ _ 4)

theorem natOfBool_bitOf (v i : Nat) : natOfBool (bitOf v i) = bitsOf v i 1 := by
  rw [natOfBool, bitOf, bitsOf]
  split <;> simp_all

/-- PROBE_READ answers the probe's configuration and its count (R271). -/
theorem probeRead_answers (h : Asks sheetProbeRead mb r s) :
    ∃ p, Oks (.probeRead mb) mb r p s (seqPop s) ∧ p.length = 12 ∧ fieldAt p 0 4 = probeCfgWord (arg r 0 1) s % 2 ^ 32 ∧
      fieldAt p 4 6 = (getC (ctProbe (arg r 0 1)) s).val % 2 ^ 48 := by
  refine ⟨_, oks_fin rfl h rfl (Noted.refl _) rfl, ?_, ?_, ?_⟩
  · simp [ctrBytes]
  all_goals simp [List.append_assoc, fieldAt_skip, fieldAt_first, ctrBytes]

/-- PROBE_TRACE_READ answers the write pointer and the records asked for (R273). -/
theorem probeTraceRead_answers (h : Asks sheetProbeTraceRead mb r s) :
    ∃ p, Oks (.probeTraceRead mb) mb r p s (seqPop s) ∧ p.length = 4 + 32 * arg r 2 1 ∧
      fieldAt p 0 2 = getF PTRACE_STATUS_WPTR s % 65536 ∧
      ∀ i < arg r 2 1, (p.drop (4 + 32 * i)).take 32 = padTo 32 (tabGet [] s.noc.trace ((arg r 0 2 + i) % 2048)) := by
  have hslot (i : Nat) : (traceSlot (i % 2048) (seqPop s)).length = 32 := padTo_length 32 _
  refine ⟨_, oks_fin rfl h rfl (Noted.refl _) rfl, ?_, ?_, fun i hi => ?_⟩
  · rw [List.length_append, length_pieces hslot]
    simp
  · simp [List.append_assoc, fieldAt_first]
  · rw [← List.drop_drop, List.drop_left' (by simp), take_drop_pieces hslot hi, traceSlot_seqPop, traceSlot]

/-- TIMED_RES_STATUS answers the reservation's registers (R262). -/
theorem timedResStatus_answers (h : Asks sheetTimedResStatus mb r s) :
    ∃ p, Oks (.timedResStatus mb) mb r p s (seqPop s) ∧ p.length = 12 ∧
      fieldAt p 0 4 = regWord (TRES_CFG0_SRC (arg r 0 1)).addr s % 2 ^ 32 ∧ fieldAt p 8 4 = tresStatusWord (arg r 0 1) s % 2 ^ 32 := by
  refine ⟨_, oks_fin rfl h rfl (Noted.refl _) rfl, ?_, ?_, ?_⟩
  · simp
  all_goals simp [List.append_assoc, fieldAt_skip, fieldAt_first, fieldAt_leBytes]

/-- A reservation's registers hold TIMED_RES_SET's fields. -/
structure TresHolds (r : Req) (t : State) : Prop where
  src : getF (TRES_CFG0_SRC (arg r 0 1)) t = arg r 1 1
  dest : getF (TRES_CFG0_DEST (arg r 0 1)) t = arg r 2 1
  quota : getF (TRES_CFG0_QUOTA (arg r 0 1)) t = arg r 3 1
  delay : getF (TRES_CFG0_DELAY (arg r 0 1)) t = arg r 4 1
  duration : getF (TRES_CFG1_DURATION (arg r 0 1)) t = arg r 6 2
  en : getF (TRES_CFG1_EN (arg r 0 1)) t = arg r 8 1

/-- What TIMED_RES_SET's checks leave known of its fields (R262). -/
theorem timedResSet_args {m : Nat} (h : Asks sheetTimedResSet m r s) : arg r 0 1 < 32 ∧ arg r 1 1 < 128 ∧ arg r 2 1 < 128 ∧
    arg r 3 1 < 16 ∧ arg r 8 1 < 2 := by
  have hargs := h.args
  dsimp only [sheetTimedResSet, plainSheet] at hargs
  have hargs := (argsLen_none hargs).2
  simp only [tresRange, Bool.and_eq_true, decide_eq_true_eq] at hargs
  obtain ⟨⟨⟨⟨⟨hn, ⟨⟨⟨⟨⟨⟨⟨hsrc, hdest⟩, -⟩, -⟩, hquota⟩, -⟩, -⟩, -⟩, -⟩, -⟩, hen⟩, -⟩, -⟩ := hargs
  omega

/-- The fields of a request, put into a reservation's registers, read back. -/
theorem tresPut_holds (hsrc : arg r 1 1 < 128) (hdest : arg r 2 1 < 128) (hquota : arg r 3 1 < 16) (hen : arg r 8 1 < 2) (s : State) :
    TresHolds r (tresPut r s) := by
  have hdelay : arg r 4 1 < 256 := fieldAt_lt _ _ 1
  have hdur : arg r 6 2 < 65536 := fieldAt_lt _ _ 2
  constructor
  all_goals
    simp (disch := (simp only [fldKey, TRES_CFG0_SRC, TRES_CFG0_DEST, TRES_CFG0_QUOTA, TRES_CFG0_DELAY, TRES_CFG1_DURATION,
      TRES_CFG1_HOLD_KEEP, TRES_CFG1_EN]; omega)) only [tresPut, getF_setF_other, getF_setF_same]
    apply Nat.mod_eq_of_lt
    assumption

theorem TresHolds.same {t : State} (h : TresHolds r s) (k : SameTres s t) (hn : arg r 0 1 < 32) : TresHolds r t :=
  ⟨(k.src hn).trans h.src, (k.dest hn).trans h.dest, (k.quota hn).trans h.quota, (k.delay hn).trans h.delay,
    (k.duration hn).trans h.duration, (k.en hn).trans h.en⟩

/-- TIMED_RES_SET writes the reservation's registers, and answers its least delay as they then give it (R262). -/
theorem timedResSet_sets (h : Asks sheetTimedResSet mb r s) : ∃ t, Runs (.timedResSet mb) s t ∧
    Answered r stOk (leBytes 2 (minDelay (tresWith (arg r 0 1) t) (arg r 0 1) t)) false t ∧ TresHolds r t := by
  obtain ⟨hn, hsrc, hdest, hquota, hen⟩ := timedResSet_args h
  obtain ⟨t, hruns, hans, hsealed⟩ := runs_answered (i := .timedResSet mb) rfl h rfl
  refine ⟨t, hruns, ?_, (tresPut_holds hsrc hdest hquota hen (seqPop s)).same ((sameTres_report _).trans hsealed.sameTres) hn⟩
  rw [hsealed.sameTres.tresWith, hsealed.sameTres.minDelay hn (tresWith_lt _ _)]
  exact hans

/-- Settles O48: each command's answer and what it leaves, sheet by sheet. -/
theorem nocCommands : Obligations.NocCommands := by
  unfold Obligations.NocCommands
  refine ⟨fun s mb r h => ⟨nocStatusBytes s, nocStatusBytes_length s, nocStatusBytes_word s, fun i => nocStatusBytes_counter s,
      nocStatus_reads h, nocStatus_clears h⟩, fun s mb r h => nocQosSet_stores h, fun s mb r h => ?_, fun s mb r h => probeRead_answers h,
    fun s mb r h => probeTraceRead_answers h, fun s mb r h => ?_, fun s mb r h => timedResStatus_answers h⟩
  · obtain ⟨t, hruns, hans, hprobe⟩ := probeSet_holds h
    exact ⟨t, hruns, hans, hprobe.en.trans (natOfBool_bitOf _ _).symm, hprobe.mode, hprobe.router, hprobe.src, hprobe.dest,
      hprobe.addrLo.trans (bitsOf_arg r 12), hprobe.addrHi.trans (bitsOf_arg r 16)⟩
  · obtain ⟨t, hruns, hans, hres⟩ := timedResSet_sets h
    exact ⟨t, _, hruns, hans, hres.src, hres.dest, hres.quota, hres.delay, hres.duration, hres.en, rfl⟩

end Sys2Proof.Machine
end

section
/-! SUPPORT. The registers of a Passer (R268): at different bits, and apart from what notes and answers write. -/

namespace Sys2Proof.Machine

/-- The key of bit `k` of a Passer's registers, counted from PASS_CTRL. -/
def passKey (n k : Nat) : Nat := 32 * (0x3F005C0000 + 64 * n) + k

@[simp] theorem passKey_inj {n j k : Nat} : passKey n j = passKey n k ↔ j = k := by
  unfold passKey
  omega

@[simp] theorem fldKey_passEn (n : Nat) : fldKey (PASS_CTRL_EN n) = passKey n 0 := by simp only [fldKey, PASS_CTRL_EN, passKey]; omega
@[simp] theorem fldKey_passRingLog2 (n : Nat) : fldKey (PASS_CTRL_RING_LOG2 n) = passKey n 8 := by
  simp only [fldKey, PASS_CTRL_RING_LOG2, passKey]; omega
@[simp] theorem fldKey_passCons (n : Nat) : fldKey (PASS_IDX_CONS n) = passKey n 400 := by simp only [fldKey, PASS_IDX_CONS, passKey]; omega
@[simp] theorem fldKey_passState (n : Nat) : fldKey (PASS_STATUS_STATE n) = passKey n 512 := by
  simp only [fldKey, PASS_STATUS_STATE, passKey]; omega
@[simp] theorem fldKey_passErr (n : Nat) : fldKey (PASS_STATUS_ERR n) = passKey n 514 := by
  simp only [fldKey, PASS_STATUS_ERR, passKey]; omega
@[simp] theorem fldKey_passInflight (n : Nat) : fldKey (PASS_STATUS_INFLIGHT n) = passKey n 520 := by
  simp only [fldKey, PASS_STATUS_INFLIGHT, passKey]; omega
@[simp] theorem fldKey_passErrIndex (n : Nat) : fldKey (PASS_STATUS_ERR_INDEX n) = passKey n 528 := by
  simp only [fldKey, PASS_STATUS_ERR_INDEX, passKey]; omega
@[simp] theorem fldKey_passComplete (n : Nat) : fldKey (PASS_STATUS_COMPLETE n) = passKey n 540 := by
  simp only [fldKey, PASS_STATUS_COMPLETE, passKey]; omega
@[simp] theorem fldKey_passAborted (n : Nat) : fldKey (PASS_STATUS_ABORTED n) = passKey n 541 := by
  simp only [fldKey, PASS_STATUS_ABORTED, passKey]; omega

/-- A field of Passer `n`'s registers. -/
def PassFld (n : Nat) (f : Fld) : Prop := f.lo < 32 ∧ ∃ k < 2048, fldKey f = passKey n k

/-- Its address is one of the Passers' block. -/
theorem PassFld.addr {n : Nat} {f : Fld} (h : PassFld n f) (hn : n < 16) : 0x3F005C0000 ≤ f.addr ∧ f.addr < 0x3F005C0400 := by
  obtain ⟨hl, k, hk, hf⟩ := h
  simp only [fldKey, passKey] at hf
  omega

theorem passFld_en (n : Nat) : PassFld n (PASS_CTRL_EN n) := ⟨show 0 < 32 by decide, _, by decide, fldKey_passEn n⟩
theorem passFld_ringLog2 (n : Nat) : PassFld n (PASS_CTRL_RING_LOG2 n) := ⟨show 8 < 32 by decide, _, by decide, fldKey_passRingLog2 n⟩
theorem passFld_cons (n : Nat) : PassFld n (PASS_IDX_CONS n) := ⟨show 16 < 32 by decide, _, by decide, fldKey_passCons n⟩
theorem passFld_state (n : Nat) : PassFld n (PASS_STATUS_STATE n) := ⟨show 0 < 32 by decide, _, by decide, fldKey_passState n⟩
theorem passFld_err (n : Nat) : PassFld n (PASS_STATUS_ERR n) := ⟨show 2 < 32 by decide, _, by decide, fldKey_passErr n⟩
theorem passFld_errIndex (n : Nat) : PassFld n (PASS_STATUS_ERR_INDEX n) := ⟨show 16 < 32 by decide, _, by decide, fldKey_passErrIndex n⟩
theorem passFld_complete (n : Nat) : PassFld n (PASS_STATUS_COMPLETE n) := ⟨show 28 < 32 by decide, _, by decide, fldKey_passComplete n⟩
theorem passFld_aborted (n : Nat) : PassFld n (PASS_STATUS_ABORTED n) := ⟨show 29 < 32 by decide, _, by decide, fldKey_passAborted n⟩

end Sys2Proof.Machine
end

section
/-! SUPPORT. What leaves a Passer alone: notes, answers, the end of an asynchronous command, and packets that enter the network. -/

namespace Sys2Proof.Machine

/-- Two states have the same work and registers of Passer `n`, and no packet of the first has left the network. -/
structure PassKept (n : Nat) (s t : State) : Prop where
  regs : ∀ f : Fld, PassFld n f → getF f t = getF f s
  work : passOf n t = passOf n s
  net : s.noc.net ⊆ t.noc.net

theorem PassKept.refl (n : Nat) (s : State) : PassKept n s s := ⟨fun _ _ => rfl, rfl, List.Subset.refl _⟩

theorem PassKept.trans {n : Nat} {s t u : State} (h : PassKept n s t) (k : PassKept n t u) : PassKept n s u :=
  ⟨fun f hf => (k.regs f hf).trans (h.regs f hf), k.work.trans h.work, List.Subset.trans h.net k.net⟩

theorem passOf_congr {s t : State} (h : t.noc.passes = s.noc.passes) (n : Nat) : passOf n t = passOf n s := by rw [passOf, h, passOf]

section
variable {n : Nat} (hn : n < 16)
include hn

theorem Noted.passKept {s t : State} (h : Noted s t) : PassKept n s t where
  regs f hf := h.regs f hf.1 (by have := hf.addr hn; unfold noteAddr; omega)
  work := passOf_congr (by rw [h.noc]) n
  net := by rw [h.noc]; exact List.Subset.refl _

theorem Sealed.passKept {m : Nat} {s t : State} (h : Sealed m s t) : PassKept n s t where
  regs f hf := h.regsBelow hf.1 (by have := hf.addr hn; omega)
  work := passOf_congr (by rw [h.noc]) n
  net := by rw [h.noc]; exact List.Subset.refl _

/-- A packet enters the network. -/
theorem passKept_inject (k : Pkt) (s : State) : PassKept n s (inject k s) where
  regs f hf := by
    have ha := hf.addr hn
    exact (Probed.inject k s).regs f hf.1 (by unfold noteAddr; omega) (by simp only [PTRACE_STATUS_WPTR]; omega)
  work := passOf_congr (passes_of_traffic (traffic_inject k s)) n
  net := by
    rw [(Probed.inject k s).net]
    exact List.subset_append_left _ _

end

theorem ringWrite_noc (r code mb : Nat) (arg : List (BitVec 8)) (s : State) : (ringWrite r code mb arg s).noc = s.noc := by
  dsimp only [ringWrite]
  split
  · exact (Noted.noticeMsi _).noc
  · rfl

theorem ringOverflow_noc (r : Nat) (s : State) : (ringOverflow r s).noc = s.noc := by
  dsimp only [ringOverflow]
  split
  · exact ringWrite_noc _ _ _ _ _
  · rfl

/-- A notice to any ring leaves the network alone. -/
theorem ringPost_noc (r code mb : Nat) (arg : List (BitVec 8)) (s : State) : (ringPost r code mb arg s).noc = s.noc := by
  rw [← ringOverflow_noc r s]
  dsimp only [ringPost]
  generalize ringOverflow r s = u
  split
  · rw [bumpF_noc]
    exact whenS_keeps State.noc (fun s => (Noted.sbEvent _ _ s).noc) _ u
  · exact ringWrite_noc _ _ _ _ _

/-- The end of PASSER_COPY is the mailbox's alone. -/
theorem passKept_copyEnd {n : Nat} (hn : n < 16) (m st result : Nat) (s : State) : PassKept n s (copyEnd m st result s) := by
  unfold copyEnd
  split
  · exact .refl n s
  · next a _ =>
    have hnoc : (complete a st result [] { s with mail := { s.mail with running := s.mail.running.erase a } }).noc = s.noc := ringPost_noc _ _ _ _ _
    refine ⟨fun f hf => ?_, passOf_congr (by rw [hnoc]) n, by rw [hnoc]; exact List.Subset.refl _⟩
    have ha := hf.addr hn
    exact (complete_logged a st result [] _).regs f hf.1 (by unfold logAddr noteAddr; omega)

end Sys2Proof.Machine
end

section
/-! SUPPORT. A Passer's work as it is changed, and what issuing its operations leaves (R268, R269). -/

namespace Sys2Proof.Machine

@[simp] theorem passOf_setF (n : Nat) (f : Fld) (v : Nat) (s : State) : passOf n (setF f v s) = passOf n s := rfl

@[simp] theorem passOf_passUpd (n : Nat) (f : Pass → Pass) (s : State) : passOf n (passUpd n f s) = f (passOf n s) := tabGet_tabSet_same _ _ _ _

@[simp] theorem passUpd_net (n : Nat) (f : Pass → Pass) (s : State) : (passUpd n f s).noc.net = s.noc.net := rfl

/-- Changing a Passer's work writes INFLIGHT and no other register. -/
@[simp] theorem getF_passUpd {n : Nat} {g : Fld} (h : fldKey g ≠ passKey n 520) (f : Pass → Pass) (s : State) :
    getF g (passUpd n f s) = getF g s := by
  rw [passUpd, getF_setF_other _ _ (by rwa [fldKey_passInflight])]
  rfl

/-- What issuing operations leaves: the descriptor in hand, the registers other than INFLIGHT, and the packets under way. -/
structure Issued (n : Nat) (s t : State) : Prop where
  regs : ∀ f : Fld, PassFld n f → fldKey f ≠ passKey n 520 → getF f t = getF f s
  desc : (passOf n t).desc = (passOf n s).desc
  started : (passOf n t).started = (passOf n s).started
  copy : (passOf n t).copy = (passOf n s).copy
  net : s.noc.net ⊆ t.noc.net

theorem Issued.trans {n : Nat} {s t u : State} (h : Issued n s t) (k : Issued n t u) : Issued n s u :=
  ⟨fun f hf hi => (k.regs f hf hi).trans (h.regs f hf hi), k.desc.trans h.desc, k.started.trans h.started, k.copy.trans h.copy,
    List.Subset.trans h.net k.net⟩

theorem PassKept.issued {n : Nat} {s t : State} (h : PassKept n s t) : Issued n s t :=
  ⟨fun f hf _ => h.regs f hf, by rw [h.work], by rw [h.work], by rw [h.work], h.net⟩

theorem issued_passUpd {n : Nat} {s : State} {f : Pass → Pass} (hd : ∀ x, (f x).desc = x.desc) (hs : ∀ x, (f x).started = x.started)
    (hc : ∀ x, (f x).copy = x.copy) : Issued n s (passUpd n f s) :=
  ⟨fun _ _ hi => getF_passUpd hi f s, by rw [passOf_passUpd, hd], by rw [passOf_passUpd, hs], by rw [passOf_passUpd, hc], List.Subset.refl _⟩

/-- An operation is sent as a packet of the Passer's own, or fails. -/
theorem passSend_served {n d : Nat} {o : POp} {k : Pkt} {s : State} (h : nodeOf k.addr = some d) : passSend n o k s =
    inject { k with dest := d, src := passNode n, tag := o.tag } (passUpd n (fun x => { x with ops := x.ops ++ [o] }) s) := by
  rw [passSend, h]

section
variable {n : Nat} (hn : n < 16)
include hn

theorem issued_passSend (o : POp) (k : Pkt) (s : State) : Issued n s (passSend n o k s) := by
  unfold passSend
  split
  · exact issued_passUpd (fun _ => rfl) (fun _ => rfl) (fun _ => rfl)
  · exact (issued_passUpd (f := fun x => { x with ops := x.ops ++ [o] }) (fun _ => rfl) (fun _ => rfl) (fun _ => rfl)).trans
      (passKept_inject hn _ _).issued

theorem issued_passIssue (fuel : Nat) (s : State) : Issued n s (passIssue n fuel s) := by
  induction fuel generalizing s with
  | zero => exact (PassKept.refl n s).issued
  | succ fuel ih =>
    dsimp only [passIssue]
    split
    · exact (PassKept.refl n s).issued
    · split
      · exact (PassKept.refl n s).issued
      · have hoff (m : Nat) : Issued n s (passUpd n (fun x => { x with off := x.off + m }) s) :=
          issued_passUpd (fun _ => rfl) (fun _ => rfl) (fun _ => rfl)
        exact ((hoff _).trans (issued_passSend hn _ _ _)).trans (ih _)

end

/-- A packet that a Passer sends is under way. -/
theorem passSend_mem_net {n d : Nat} {o : POp} {k : Pkt} {s : State} (h : nodeOf k.addr = some d) :
    ∃ x ∈ (passSend n o k s).noc.net, x.src = 93 + n ∧ x.dest = d ∧ x.op = k.op ∧ x.tag = o.tag ∧ x.len = k.len ∧ x.addr = k.addr := by
  rw [passSend_served h]
  exact ⟨_, inject_mem_net _ _, rfl, rfl, rfl, rfl, rfl, rfl⟩

/-- The descriptor in hand has started. -/
structure Started (n : Nat) (s t : State) : Prop where
  started : (passOf n t).started = true
  state : getF (PASS_STATUS_STATE n) t = 1
  en : getF (PASS_CTRL_EN n) t = getF (PASS_CTRL_EN n) s
  desc : (passOf n t).desc = (passOf n s).desc
  copy : (passOf n t).copy = (passOf n s).copy

theorem passStart_started {n : Nat} (hn : n < 16) (late : Bool) (s : State) : Started n s (passStart n late s) := by
  have h := issued_passIssue hn 33 (setF (PASS_STATUS_STATE n) 1 (passUpd n (fun x => { x with started := true, late := late }) s))
  refine ⟨?_, ?_, ?_, ?_, ?_⟩
  · exact h.started.trans (by simp)
  · exact (h.regs _ (passFld_state n) (by simp)).trans (getF_setF_same _ _ _)
  · exact (h.regs _ (passFld_en n) (by simp)).trans (by simp [getF_setF_other])
  · exact h.desc.trans (by simp)
  · exact h.copy.trans (by simp)

theorem Started.kept {n : Nat} {s t u : State} (h : Started n s t) (k : PassKept n t u) : Started n s u where
  started := by rw [k.work, h.started]
  state := (k.regs _ (passFld_state n)).trans h.state
  en := (k.regs _ (passFld_en n)).trans h.en
  desc := by rw [k.work, h.desc]
  copy := by rw [k.work, h.copy]

end Sys2Proof.Machine
end

section
/-! The Passers' events (R268 to R270), clause by clause. -/

namespace Sys2Proof.Machine

variable {s : State} {n : Fin 16}

/-- Enabling a Passer clears STATE and ERR (R270). -/
theorem passEnable_starts (hoff : isSet (PASS_CTRL_EN n) s = false) :
    Does (.passEnable n true) s (setF (PASS_STATUS_STATE n) 0 (setF (PASS_STATUS_ERR n) 0 (setF (PASS_CTRL_EN n) 1 s))) := by
  refine does_fin (congrArg fin ?_) (Noted.refl _)
  rw [passEnable, hoff, if_neg (by decide), if_pos rfl]

/-- Nothing is drained of a Passer that has nothing in hand and does not abort. -/
theorem passDrained_idle {n : Nat} (hops : (passOf n s).ops = []) (hdesc : (passOf n s).desc = none) (hab : (passOf n s).aborting = false) :
    passDrained n s = s := by
  rw [passDrained, hops, hab, hdesc]
  simp

/-- Disabling a Passer that has nothing in hand idles it (R270). -/
theorem passEnable_idles (hon : isSet (PASS_CTRL_EN n) s = true) (hops : (passOf n s).ops = []) (hdesc : (passOf n s).desc = none)
    (hab : (passOf n s).aborting = false) (hst : getF (PASS_STATUS_STATE n) s ≠ 3) :
    Does (.passEnable n false) s (setF (PASS_STATUS_STATE n) 0 (setF (PASS_CTRL_EN n) 0 s)) := by
  refine does_fin (congrArg fin ?_) (Noted.refl _)
  have hst : getF (PASS_STATUS_STATE n) (setF (PASS_CTRL_EN n) 0 s) ≠ 3 := by rwa [getF_setF_other _ _ (by simp)]
  rw [passEnable, hon, if_neg (by decide), if_neg (by decide)]
  dsimp only
  rw [if_neg hst]
  exact passDrained_idle (s := setF (PASS_STATUS_STATE n) 0 (setF (PASS_CTRL_EN n) 0 s)) hops hdesc hab

/-- The state of a Passer whose abort is over (R270). -/
structure Aborted (n : Nat) (s t : State) : Prop where
  aborted : getF (PASS_STATUS_ABORTED n) t = 1
  en : getF (PASS_CTRL_EN n) t = 0
  state : getF (PASS_STATUS_STATE n) t = 0
  desc : (passOf n t).desc = none
  cons : getF (PASS_IDX_CONS n) t = getF (PASS_IDX_CONS n) s

/-- An abort with nothing in flight is over at once (R270). -/
theorem passDrained_aborted {n : Nat} (hn : n < 16) (hops : (passOf n s).ops = []) :
    Aborted n s (passDrained n (passUpd n (fun x => { x with aborting := true }) s)) := by
  rw [passDrained, passOf_passUpd, if_neg (by simpa using hops), if_pos rfl]
  generalize hu : whenS _ _ (passUpd n _ s) = u
  have hcons : getF (PASS_IDX_CONS n) u = getF (PASS_IDX_CONS n) s := by
    rw [← hu, whenS_keeps (getF (PASS_IDX_CONS n)) fun u => (passKept_copyEnd hn n _ _ u).regs _ (passFld_cons n)]
    exact getF_passUpd (by simp) _ s
  constructor
  · exact getF_setF_same _ _ _
  · simp [getF_setF_other, getF_setF_same]
  · simp [getF_setF_other, getF_setF_same]
  · simp [passInit]
  · simp [getF_setF_other, hcons]

theorem passAbort_stops (hops : (passOf n s).ops = []) : ∃ t, Runs (.passAbort n) s t ∧ Aborted n s t := by
  obtain ⟨t, hruns, hend, -⟩ := runs_fin (i := .passAbort n) (s := s) rfl
  have h := passDrained_aborted n.isLt hops
  have k := hend.passKept n.isLt
  exact ⟨t, hruns, (k.regs _ (passFld_aborted n)).trans h.aborted, (k.regs _ (passFld_en n)).trans h.en,
    (k.regs _ (passFld_state n)).trans h.state, by rw [k.work]; exact h.desc, (k.regs _ (passFld_cons n)).trans h.cons⟩

/-- An abort with operations in flight waits for them (R270). -/
theorem passAbort_waits (hops : (passOf n s).ops ≠ []) : ∃ t, Runs (.passAbort n) s t ∧ (passOf n t).aborting = true ∧
    (passOf n t).ops = (passOf n s).ops ∧ getF (PASS_CTRL_EN n) t = getF (PASS_CTRL_EN n) s := by
  have hrun : exec (.passAbort n) s = fin (passUpd n (fun x => { x with aborting := true }) s) := by
    refine congrArg fin ?_
    rw [passAbort, passDrained, passOf_passUpd, if_pos (by simpa using hops)]
  obtain ⟨t, hruns, hend, -⟩ := runs_fin hrun
  have k := hend.passKept n.isLt
  exact ⟨t, hruns, by rw [k.work, passOf_passUpd], by rw [k.work, passOf_passUpd],
    (k.regs _ (passFld_en n)).trans (getF_passUpd (by simp) _ s)⟩

/-- Descriptors lie on beats of 32 bytes (R268): one is read whole by one beat. -/
theorem readPkt_descriptor (n i : Nat) (s : State) :
    readPkt (passAt n i s) 32 = { pktZero with op := opRd, len := 0, addr := passAt n i s } := by
  have halign : passAt n i s % 32 = 0 := by unfold passAt; omega
  have haddr : passAt n i s / 32 * 32 = passAt n i s := by omega
  rw [readPkt, halign, haddr]

/-- A Passer with nothing in hand reads the descriptor at CONS (R269). -/
theorem passerDescriptorFetch_reads {d : Nat} (hgo : passStopped n s = false) (hdesc : (passOf n s).desc = none)
    (hops : (passOf n s).ops = []) (hnew : getF (PASS_IDX_PROD n) s ≠ getF (PASS_IDX_CONS n) s)
    (hnode : nodeOf (passAt n (getF (PASS_IDX_CONS n) s) s) = some d) :
    ∃ t, Runs (.passerDescriptorFetch n) s t ∧ getF (PASS_STATUS_STATE n) t = 1 ∧ (passOf n t).ops = [⟨0, 0, 0, false, s.time.us⟩] ∧
      ∃ k ∈ t.noc.net, k.src = 93 + n.val ∧ k.dest = d ∧ k.op = opRd ∧ k.tag = 0 ∧ k.len = 0 ∧
        k.addr = passAt n (getF (PASS_IDX_CONS n) s) s := by
  generalize hu : setF (PASS_STATUS_STATE n) 1 (passUpd n (fun x => { x with index := getF (PASS_IDX_CONS n) s }) s) = u
  have hrun : exec (.passerDescriptorFetch n) s = fin (passSend n ⟨0, 0, 0, false, s.time.us⟩
      { pktZero with op := opRd, len := 0, addr := passAt n (getF (PASS_IDX_CONS n) s) s } u) := by
    refine congrArg fin ?_
    rw [passFetch, if_neg (by simp [hgo]), if_neg (by simp [hdesc]), if_neg (by simp [hops, hnew])]
    dsimp only
    rw [readPkt_descriptor, hu]
  have hstate : getF (PASS_STATUS_STATE n) u = 1 := by rw [← hu]; exact getF_setF_same _ _ _
  have hnone : (passOf n u).ops = [] := by rw [← hu, passOf_setF, passOf_passUpd]; exact hops
  obtain ⟨t, hruns, hend, -⟩ := runs_fin hrun
  have k := hend.passKept n.isLt
  obtain ⟨x, hx, hsrc, hdest, hop, htag, hlen, haddr⟩ := passSend_mem_net (n := n.val) (o := ⟨0, 0, 0, false, s.time.us⟩)
    (k := { pktZero with op := opRd, len := 0, addr := passAt n (getF (PASS_IDX_CONS n) s) s }) (s := u) hnode
  refine ⟨t, hruns, ?_, ?_, x, k.net hx, hsrc, hdest, hop, htag, hlen, haddr⟩
  · rw [k.regs _ (passFld_state n), (issued_passSend n.isLt _ _ _).regs _ (passFld_state n) (by simp), hstate]
  · rw [k.work, passSend_served hnode, (passKept_inject n.isLt _ _).work, passOf_passUpd, hnone]
    rfl

/-- A waiting descriptor starts when its slot has come (R269). -/
theorem passerWaitSlotStart_starts {d : List (BitVec 8)} (hdesc : (passOf n s).desc = some d) (hwait : getF (PASS_STATUS_STATE n) s = 2)
    (hgo : passStopped n s = false) (hdue : descDue d s = true) :
    ∃ t, Runs (.passerWaitSlotStart n) s t ∧ (passOf n t).started = true ∧ getF (PASS_STATUS_STATE n) t = 1 := by
  have hrun : exec (.passerWaitSlotStart n) s = fin (passStart n (descPast d s) s) := by
    refine congrArg fin ?_
    rw [passSlot, hdesc]
    exact if_pos ⟨hwait, hgo, hdue⟩
  obtain ⟨t, hruns, hend, -⟩ := runs_fin hrun
  have h := (passStart_started n.isLt (descPast d s) s).kept (hend.passKept n.isLt)
  exact ⟨t, hruns, h.started, h.state⟩

/-- A descriptor that is not due waits on (R269). -/
theorem passerWaitSlotStart_waits {d : List (BitVec 8)} (hdesc : (passOf n s).desc = some d) (hdue : descDue d s = false) :
    Does (.passerWaitSlotStart n) s s := by
  refine does_fin (congrArg fin ?_) (Noted.refl s)
  rw [passSlot, hdesc]
  exact if_neg (by simp [hdue])

/-- The write of a descriptor's RESULT (R268): an operation of the Passer and its packet. -/
theorem passResult_writes {n a : Nat} {st : Nat} (h : nodeOf ((passAt n (passOf n s).index s + 22) / 32 * 32) = some a) :
    ∃ k ∈ (passResult n st s).noc.net, k.src = 93 + n ∧ k.op = opWr ∧ k.addr = (passAt n (passOf n s).index s + 22) / 32 * 32 := by
  obtain ⟨x, hx, hsrc, -, hop, -, -, haddr⟩ := passSend_mem_net (n := n) (o := ⟨passTag (passOf n s), 1, 0, true, s.time.us⟩)
    (k := writePkt (passAt n (passOf n s).index s + 22) (leBytes 2 (st + (if (passOf n s).late then 2 ^ 14 else 0) + 2 ^ 15))) (s := s) h
  exact ⟨x, hx, hsrc, hop, haddr⟩

/-- The Passer goes on behind a descriptor that is complete: CONS moves on, and COMPLETE shows it where IRQ asks for it (R269). -/
def passDone (n i : Nat) (irq : Bool) (u : State) : State :=
  whenS irq (setF (PASS_STATUS_COMPLETE n) 1) (setF (PASS_STATUS_STATE n) 0 (setF (PASS_IDX_CONS n) ((i + 1) % passRing n u)
    (passUpd n (fun x => { x with desc := none, started := false, late := false, off := 0 }) u)))

theorem passRing_passUpd (n : Nat) (f : Pass → Pass) (s : State) : passRing n (passUpd n f s) = passRing n s := by
  rw [passRing, getF_passUpd (by simp), passRing]

/-- What a complete descriptor leaves. -/
structure Completed (n i : Nat) (irq : Bool) (s t : State) : Prop where
  cons : getF (PASS_IDX_CONS n) t = (i + 1) % passRing n s
  state : getF (PASS_STATUS_STATE n) t = 0
  desc : (passOf n t).desc = none
  complete : irq = true → getF (PASS_STATUS_COMPLETE n) t = 1

theorem passDone_completed {n i : Nat} {irq : Bool} {u : State} (hring : getF (PASS_CTRL_RING_LOG2 n) u ≤ 12) :
    Completed n i irq u (passDone n i irq u) ∧ u.noc.net ⊆ (passDone n i irq u).noc.net := by
  have hle : passRing n u ≤ 2 ^ 12 := Nat.pow_le_pow_right (by decide) hring
  have hpos : 0 < passRing n u := Nat.two_pow_pos _
  have hcons : (i + 1) % passRing n u % 2 ^ 12 = (i + 1) % passRing n u :=
    Nat.mod_eq_of_lt (Nat.lt_of_lt_of_le (Nat.mod_lt _ hpos) hle)
  refine ⟨⟨?_, ?_, ?_, ?_⟩, ?_⟩
  · rw [passDone, whenS_keeps (getF (PASS_IDX_CONS n)) fun v => getF_setF_other _ _ (by simp)]
    rw [getF_setF_other _ _ (by simp), getF_setF_same]
    exact hcons
  · rw [passDone, whenS_keeps (getF (PASS_STATUS_STATE n)) fun v => getF_setF_other _ _ (by simp)]
    exact getF_setF_same _ _ _
  · rw [passDone, whenS_keeps (passOf n) fun v => passOf_setF n _ _ v, passOf_setF, passOf_setF, passOf_passUpd]
  · rintro rfl
    exact getF_setF_same _ _ _
  · have hnet : (passDone n i irq u).noc.net = u.noc.net :=
      whenS_keeps (f := setF (PASS_STATUS_COMPLETE n) 1) (fun v => v.noc.net) (fun _ => rfl) irq _
    exact hnet ▸ List.Subset.refl _

/-- A descriptor that is complete is written back, and CONS moves on behind it (R269). -/
theorem passerDescriptorComplete_completes {d : List (BitVec 8)} {a : Nat} (hdesc : (passOf n s).desc = some d)
    (hstart : (passOf n s).started = true) (hops : (passOf n s).ops = []) (hoff : descLen d ≤ (passOf n s).off)
    (hworst : (passOf n s).worst = 0) (hab : (passOf n s).aborting = false) (hcopy : (passOf n s).copy = false)
    (hring : getF (PASS_CTRL_RING_LOG2 n) s ≤ 12) (hnode : nodeOf ((passAt n (passOf n s).index s + 22) / 32 * 32) = some a) :
    ∃ t, Runs (.passerDescriptorComplete n) s t ∧ Completed n (passOf n s).index (descFlag d 0) s t ∧
      ∃ k ∈ t.noc.net, k.src = 93 + n.val ∧ k.op = opWr ∧ k.addr = (passAt n (passOf n s).index s + 22) / 32 * 32 := by
  have hrun : exec (.passerDescriptorComplete n) s = fin (passDone n (passOf n s).index (descFlag d 0) (passResult n 0 s)) := by
    refine congrArg fin ?_
    dsimp only [passComplete]
    rw [hdesc]
    dsimp only
    rw [if_neg (by simp [hstart, hops, hoff, hworst, hab]), if_neg (by simp [hcopy]), passRing_passUpd, passDone]
  have hissued : Issued n s (passResult n 0 s) := issued_passSend n.isLt _ _ s
  have hlog := hissued.regs _ (passFld_ringLog2 n) (by simp)
  obtain ⟨h, hnet⟩ := passDone_completed (i := (passOf n s).index) (irq := descFlag d 0) (hlog.trans_le hring)
  obtain ⟨t, hruns, hend, -⟩ := runs_fin hrun
  have k := hend.passKept n.isLt
  obtain ⟨x, hx, hsrc, hop, haddr⟩ := passResult_writes (st := 0) hnode
  refine ⟨t, hruns, ⟨?_, (k.regs _ (passFld_state n)).trans h.state, by rw [k.work, h.desc],
    fun hirq => (k.regs _ (passFld_complete n)).trans (h.complete hirq)⟩, x, k.net (hnet hx), hsrc, hop, haddr⟩
  rw [k.regs _ (passFld_cons n), h.cons, passRing, hlog, passRing]

/-- The state of a Passer that an error has halted (R270). -/
structure Halted (n : Nat) (s t : State) : Prop where
  state : getF (PASS_STATUS_STATE n) t = 3
  err : getF (PASS_STATUS_ERR n) t = (passOf n s).worst % 4
  index : getF (PASS_STATUS_ERR_INDEX n) t = (passOf n s).index % 4096
  cons : getF (PASS_IDX_CONS n) t = getF (PASS_IDX_CONS n) s
  desc : (passOf n t).desc = none

/-- An error halts a Passer whose operations are all in: ERR and ERR_INDEX tell of it, and CONS stays (R270). -/
theorem passHalt_halted {n : Nat} (hn : n < 16) (hops : (passOf n s).ops = []) (hab : (passOf n s).aborting = false)
    (hbad : (passOf n s).worst ≠ 0 ∨ (passOf n s).badDesc = true) (hcopy : (passOf n s).copy = false)
    (hst : getF (PASS_STATUS_STATE n) s ≠ 3) : Halted n s (passHalt n s) := by
  dsimp only [passHalt]
  rw [if_neg (by simpa [hops, hab, hst, Decidable.or_iff_not_imp_left] using hbad), hcopy]
  generalize hu : whenS _ _ s = u
  have hissued : Issued n s u := by
    rw [← hu]
    unfold whenS
    split
    · exact issued_passSend hn _ _ s
    · exact (PassKept.refl n s).issued
  generalize hv : setF (PASS_STATUS_ERR_INDEX n) (passOf n s).index _ = v
  have k : PassKept n v (sbEvent 0x040C [] (whRaise (112 + n) v)) := ((Noted.whRaise (by omega) _).trans (Noted.sbEvent _ _ _)).passKept hn
  constructor
  · rw [getF_passUpd (by simp), whenS, if_neg (by decide), k.regs _ (passFld_state n), ← hv]
    simp [getF_setF_other, getF_setF_same]
    rfl
  · rw [getF_passUpd (by simp), whenS, if_neg (by decide), k.regs _ (passFld_err n), ← hv]
    simp [getF_setF_other, getF_setF_same]
    rfl
  · rw [getF_passUpd (by simp), whenS, if_neg (by decide), k.regs _ (passFld_errIndex n), ← hv]
    simp [getF_setF_same]
    rfl
  · rw [getF_passUpd (by simp), whenS, if_neg (by decide), k.regs _ (passFld_cons n), ← hv]
    simp [getF_setF_other, hissued.regs _ (passFld_cons n)]
  · rw [passOf_passUpd]
    rfl

theorem passerHalt_halts (hops : (passOf n s).ops = []) (hab : (passOf n s).aborting = false)
    (hbad : (passOf n s).worst ≠ 0 ∨ (passOf n s).badDesc = true) (hcopy : (passOf n s).copy = false)
    (hst : getF (PASS_STATUS_STATE n) s ≠ 3) : ∃ t, Runs (.passerHalt n) s t ∧ Halted n s t := by
  obtain ⟨t, hruns, hend, -⟩ := runs_fin (i := .passerHalt n) (s := s) rfl
  have h := passHalt_halted n.isLt hops hab hbad hcopy hst
  have k := hend.passKept n.isLt
  exact ⟨t, hruns, (k.regs _ (passFld_state n)).trans h.state, (k.regs _ (passFld_err n)).trans h.err,
    (k.regs _ (passFld_errIndex n)).trans h.index, (k.regs _ (passFld_cons n)).trans h.cons, by rw [k.work, h.desc]⟩

end Sys2Proof.Machine
end

section
/-! PASSER_COPY and PASSER_STATUS (R269). -/

namespace Sys2Proof.Machine

variable {s : State} {mb : Fin 14} {r : Req}

/-- What PASSER_COPY's checks leave known of its fields. -/
theorem passerCopy_args {m : Nat} (h : Asks sheetPasserCopy m r s) : arg r 0 1 < 16 ∧ arg r 1 1 ≤ 1 ∧ arg r 12 8 < 2 ^ 40 ∧
    0 < arg r 20 4 ∧ arg r 20 4 < 2 ^ 24 := by
  have hargs := h.args
  dsimp only [sheetPasserCopy, plainSheet] at hargs
  have hargs := (argsLen_none hargs).2
  simp only [Bool.and_eq_true, decide_eq_true_eq] at hargs
  obtain ⟨⟨⟨⟨⟨⟨hn, hfill⟩, -⟩, -⟩, hdst⟩, hpos⟩, hlen⟩ := hargs
  exact ⟨hn, hfill, hdst, hpos, hlen⟩

/-- The descriptor that PASSER_COPY's fields make. -/
def copyDesc (r : Req) : List (BitVec 8) :=
  leBytes 8 (arg r 4 8) ++ leBytes 8 (arg r 12 8) ++ leBytes 4 (arg r 20 4) ++ leBytes 1 (2 * arg r 1 1) ++ leBytes 11 0

/-- It is one that runs at once, with the fields asked for. -/
structure CopyDesc (r : Req) : Prop where
  good : descBad (copyDesc r) = false
  timed : descFlag (copyDesc r) 2 = false
  fill : descFlag (copyDesc r) 1 = decide (arg r 1 1 = 1)
  dst : descDst (copyDesc r) = arg r 12 8
  len : descLen (copyDesc r) = arg r 20 4

theorem copyDesc_fields (hfill : arg r 1 1 ≤ 1) (hdst : arg r 12 8 < 2 ^ 40) (hpos : 0 < arg r 20 4) (hlen : arg r 20 4 < 2 ^ 24) :
    CopyDesc r := by
  have hd : fieldAt (copyDesc r) 8 5 = arg r 12 8 := by
    rw [copyDesc, leBytes_split 5 3 (arg r 12 8)]
    simp [List.append_assoc, fieldAt_skip, fieldAt_first]
    omega
  have hl : fieldAt (copyDesc r) 16 3 = arg r 20 4 := by
    rw [copyDesc, leBytes_split 3 1 (arg r 20 4)]
    simp [List.append_assoc, fieldAt_skip, fieldAt_first]
    omega
  have hres : fieldAt (copyDesc r) 19 1 = 0 := by
    rw [copyDesc, leBytes_split 3 1 (arg r 20 4)]
    simp [List.append_assoc, fieldAt_skip, fieldAt_first]
    omega
  have hflags : fieldAt (copyDesc r) 20 1 = 2 * arg r 1 1 := by
    simp [copyDesc, List.append_assoc, fieldAt_skip, fieldAt_first]
    omega
  have hzero : fieldAt (copyDesc r) 21 1 = 0 := by
    rw [copyDesc, leBytes_split 1 10 0]
    simp [List.append_assoc, fieldAt_skip, fieldAt_first]
  constructor
  · rw [descBad, hres, hflags, hzero, descLen, hl]
    simp
    omega
  · rw [descFlag, hflags, bitOf]
    simp
    omega
  · rw [descFlag, hflags, bitOf]
    simp
    omega
  · exact hd
  · exact hl

/-- PASSER_COPY starts its descriptor on a Passer that is not enabled (R269). -/
theorem passDescriptor_copy {n : Nat} (hn : n < 16) (h : CopyDesc r) (s : State) :
    Started n (passUpd n (fun x => { x with desc := some (copyDesc r), started := false, late := false, off := 0, badDesc := false }) s)
      (passDescriptor n (copyDesc r) s) := by
  rw [passDescriptor, h.good]
  rw [if_neg (by decide), h.timed, if_neg (by simp)]
  exact passStart_started hn _ _

/-- A command that goes on running leaves the Passers alone. -/
theorem passKept_withRunning (n : Nat) (r : Req) (args : List Nat) (data : List (BitVec 8)) (s : State) :
    PassKept n s (withRunning r args data s) :=
  ⟨fun _ _ => rfl, rfl, List.Subset.refl _⟩

/-- A Passer that is enabled is busy. -/
theorem passerCopy_busy (h : Asks sheetPasserCopy mb r s) (hen : isSet (PASS_CTRL_EN (arg r 0 1)) s = true) :
    Replies (.passerCopy mb) mb r stBusy [] s (seqPop s) := by
  have hrun : sheetPasserCopy.run r (seqPop s) = (replySt stBusy, seqPop s) := if_pos (by simpa [isSet] using hen)
  exact replies_fin rfl h hrun (by decide) (Noted.refl _)

/-- The Passer `n` that PASSER_COPY has taken, before its descriptor (R269). -/
def copyTaken (n : Nat) (s : State) : State :=
  setF (PASS_STATUS_ERR n) 0 (setF (PASS_STATUS_STATE n) 0 (setF (PASS_CTRL_EN n) 1
    (passUpd n (fun _ => { passInit with copy := true, index := getF (PASS_IDX_CONS n) s }) s)))

theorem copyTaken_en (n : Nat) (s : State) : getF (PASS_CTRL_EN n) (copyTaken n s) = 1 := by
  rw [copyTaken, getF_setF_other _ _ (by simp), getF_setF_other _ _ (by simp)]
  exact getF_setF_same _ _ _

theorem copyTaken_copy (n : Nat) (s : State) : (passOf n (copyTaken n s)).copy = true := by simp [copyTaken]

/-- What PASSER_COPY leaves where it is accepted. -/
structure CopyBegun (r : Req) (t : State) : Prop where
  en : getF (PASS_CTRL_EN (arg r 0 1)) t = 1
  copy : (passOf (arg r 0 1) t).copy = true
  started : (passOf (arg r 0 1) t).started = true
  desc : (passOf (arg r 0 1) t).desc = some (copyDesc r)

theorem copyTaken_begun (hn : arg r 0 1 < 16) (h : CopyDesc r) {t : State}
    (k : PassKept (arg r 0 1) (passDescriptor (arg r 0 1) (copyDesc r) (copyTaken (arg r 0 1) s)) t) : CopyBegun r t := by
  have hstarted := (passDescriptor_copy hn h _).kept k
  refine ⟨?_, ?_, hstarted.started, ?_⟩
  · rw [hstarted.en, getF_passUpd (by simp), copyTaken_en]
  · rw [hstarted.copy, passOf_passUpd, copyTaken_copy]
  · rw [hstarted.desc, passOf_passUpd]

theorem passerCopy_begins (h : Asks sheetPasserCopy mb r s) (hen : isSet (PASS_CTRL_EN (arg r 0 1)) s = false) :
    CopyDesc r ∧ ∃ t, Runs (.passerCopy mb) s t ∧ Answered r stAccepted [] true t ∧ CopyBegun r t := by
  obtain ⟨hn, hfill, hdst, hpos, hlen⟩ := passerCopy_args h
  have hdesc := copyDesc_fields hfill hdst hpos hlen
  have hrun : sheetPasserCopy.run r (seqPop s) =
      (replyAccepted [arg r 0 1] [], passDescriptor (arg r 0 1) (copyDesc r) (copyTaken (arg r 0 1) (seqPop s))) :=
    if_neg (by simpa [isSet] using hen)
  obtain ⟨t, hruns, hans, hsealed⟩ := runs_accepted (i := .passerCopy mb) rfl h hrun
  exact ⟨hdesc, t, hruns, hans, copyTaken_begun hn hdesc ((passKept_withRunning _ r _ _ _).trans (hsealed.passKept hn))⟩

/-- PASSER_STATUS answers the Passer's registers. -/
theorem passerStatus_answers (h : Asks sheetPasserStatus mb r s) : ∃ p, Oks (.passerStatus mb) mb r p s (seqPop s) ∧ p.length = 12 ∧
    fieldAt p 0 4 = regWord (PASS_CTRL_EN (arg r 0 1)).addr s % 2 ^ 32 ∧
    fieldAt p 8 4 = regWord (PASS_STATUS_STATE (arg r 0 1)).addr s % 2 ^ 32 := by
  refine ⟨_, oks_fin rfl h rfl (Noted.refl _) rfl, ?_, ?_, ?_⟩
  · simp
  all_goals simp [List.append_assoc, fieldAt_skip, fieldAt_first, fieldAt_leBytes, passStatusWord]

/-- Settles O49: the Passers' events and commands, clause by clause. -/
theorem passerRows : Obligations.PasserRows := by
  unfold Obligations.PasserRows
  refine ⟨fun s n => passEnable_starts, fun s n => passEnable_idles, fun s n v => does_fin rfl (Noted.refl _),
    fun s n => ⟨fun hops => ?_, passAbort_waits⟩, fun s n d => passerDescriptorFetch_reads,
    fun s n d hdesc => ⟨passerWaitSlotStart_starts hdesc, passerWaitSlotStart_waits hdesc⟩,
    fun s n d a hdesc hstart hops hoff hworst hab hcopy hring hnode => ?_, fun s n hops hab hbad hcopy hst => ?_,
    fun s mb r h => ⟨passerCopy_busy h, fun hen => ?_⟩, fun s mb r => passerStatus_answers⟩
  · obtain ⟨t, hruns, h⟩ := passAbort_stops hops
    exact ⟨t, hruns, h.aborted, h.en, h.state, h.desc, h.cons⟩
  · obtain ⟨t, hruns, h, hnet⟩ := passerDescriptorComplete_completes hdesc hstart hops hoff hworst hab hcopy hring hnode
    exact ⟨t, hruns, h.cons, h.state, h.desc, h.complete, hnet⟩
  · obtain ⟨t, hruns, h⟩ := passerHalt_halts hops hab hbad hcopy hst
    exact ⟨t, hruns, h.state, h.err, h.index, h.cons, h.desc⟩
  · obtain ⟨hdesc, t, hruns, hans, hbegun⟩ := passerCopy_begins h hen
    exact ⟨t, hruns, hans, hbegun.en, hbegun.copy, hbegun.started, copyDesc r, hbegun.desc, hdesc.dst, hdesc.len, hdesc.fill⟩

end Sys2Proof.Machine
end

section
/-! SUPPORT. The Dugout's queues (R279, R286, R288): what depth events and a flush leave of the queues, their counters and the registers,
and that where a new cell is placed does not depend on DISCARD. -/

namespace Sys2Proof.Machine

variable {q : Nat} {s t u : State}

/-- A queue's counters are told apart by their numbers. -/
theorem ctDQ_ne {i j : Nat} (h : i ≠ j) : ctDQ q i ≠ ctDQ q j := by
  unfold ctDQ ctrKey
  omega

/-- The Dugout's counters are not the flash's. -/
theorem ctDQ_note {i : Nat} (hq : q < 4096) (hi : i < 8) : ctDQ q i / 64 ≠ 0x3F00900030 := by
  unfold ctDQ ctrKey
  omega

/-- No register of a queue is one that notes write. -/
theorem not_noteAddr_queue {a : Nat} (hlo : 0x3F00410000 ≤ a) (hhi : a < 0x3F00450000) : ¬ noteAddr a := by
  unfold noteAddr
  omega

/-- A queue's cells and their number are read from the Dugout's own state. -/
theorem dqCells_congr (h : t.dq = s.dq) (q : Nat) : dqCells q t = dqCells q s := by rw [dqCells, h, dqCells]

theorem dqDepth_congr (h : t.dq = s.dq) (q : Nat) : dqDepth q t = dqDepth q s := by rw [dqDepth, dqCells_congr h, dqDepth]

@[simp] theorem dqCells_dqSetCells (l : List Cell) : dqCells q (dqSetCells q l s) = l := tabGet_tabSet_same _ _ _ _

theorem dqCells_dqSetCells_other {k : Nat} (h : k ≠ q) (l : List Cell) : dqCells k (dqSetCells q l s) = dqCells k s :=
  tabGet_tabSet_other _ _ _ h

@[simp] theorem dqCells_dqRemove (n : Nat) : dqCells q (dqRemove q n s) = (dqCells q s).drop n := tabGet_tabSet_same _ _ _ _

theorem dqCells_dqRemove_other {k : Nat} (h : k ≠ q) (n : Nat) : dqCells k (dqRemove q n s) = dqCells k s :=
  tabGet_tabSet_other _ _ _ h

@[simp] theorem dqRemove_ctrs (q n : Nat) (s : State) : (dqRemove q n s).ctrs = s.ctrs := rfl

/-- What is added to a counter does not depend on the rest of the state. -/
theorem getC_addC_congr {k : Nat} (h : getC k t = getC k s) (n : Nat) : getC k (addC k n t) = getC k (addC k n s) := by
  simp only [addC, h]
  exact (tabGet_tabSet_same ..).trans (tabGet_tabSet_same ..).symm

/-! What depth events write (R286). -/

/-- Two states differ by no more than the depth events of queue q: its QEVT and its HIGH. -/
structure DepthNoted (q : Nat) (s t : State) : Prop where
  regs : ∀ f : Fld, f.lo < 32 → f.addr ≠ (QEVT_NE q).addr → fldKey f ≠ fldKey (QFLAGS_HIGH q) → getF f t = getF f s
  rest : ∃ regs, t = { s with regs := regs }

theorem DepthNoted.refl (q : Nat) (s : State) : DepthNoted q s s := ⟨fun _ _ _ _ => rfl, s.regs, rfl⟩

theorem DepthNoted.trans (h : DepthNoted q s t) (k : DepthNoted q t u) : DepthNoted q s u := by
  refine ⟨fun f hl ha hk => (k.regs f hl ha hk).trans (h.regs f hl ha hk), ?_⟩
  obtain ⟨_, rfl⟩ := h.rest
  obtain ⟨_, rfl⟩ := k.rest
  exact ⟨_, rfl⟩

theorem DepthNoted.whenS {f : State → State} (h : ∀ s, DepthNoted q s (f s)) (b : Bool) (s : State) : DepthNoted q s (whenS b f s) := by
  unfold Machine.whenS
  split
  · exact h s
  · exact .refl q s

theorem DepthNoted.qevt {bit : Nat} (hb : bit < 32) (s : State) : DepthNoted q s (qevt q bit s) :=
  ⟨fun _ hl ha _ => getF_setF_addr (g := ⟨(QEVT_NE q).addr, bit, 1, 0⟩) hl hb ha 1 s, _, rfl⟩

theorem DepthNoted.high (v : Nat) (s : State) : DepthNoted q s (setF (QFLAGS_HIGH q) v s) :=
  ⟨fun _ _ _ hk => getF_setF_other v s hk, _, rfl⟩

theorem DepthNoted.depthEvents (before : Nat) (s : State) : DepthNoted q s (dqDepthEvents q before s) := by
  dsimp only [dqDepthEvents]
  refine .trans (.trans (.trans ?_ (.whenS ?_ _ _)) (.whenS ?_ _ _)) (.whenS ?_ _ _)
  · exact .whenS (fun s => .qevt (by decide) s) _ s
  · exact fun s => (DepthNoted.qevt (by decide) s).trans (.high 1 _)
  · exact fun s => .qevt (by decide) s
  · exact fun s => (DepthNoted.qevt (by decide) s).trans (.high 0 _)

theorem DepthNoted.dq (h : DepthNoted q s t) : t.dq = s.dq := by
  obtain ⟨_, rfl⟩ := h.rest
  rfl

theorem DepthNoted.ctrs (h : DepthNoted q s t) : t.ctrs = s.ctrs := by
  obtain ⟨_, rfl⟩ := h.rest
  rfl

theorem DepthNoted.fab (h : DepthNoted q s t) : t.fab = s.fab := by
  obtain ⟨_, rfl⟩ := h.rest
  rfl

/-- A queue whose depth has not moved has no depth event. -/
theorem dqDepthEvents_still (q : Nat) (s : State) : dqDepthEvents q (dqDepth q s) s = s := by
  have hne : (decide (dqDepth q s = 0) && decide (0 < dqDepth q s)) = false := by simp
  have hhi : (decide (getF (QWM_HI_WM q) s ≠ 0) && decide (dqDepth q s < getF (QWM_HI_WM q) s) &&
      decide (getF (QWM_HI_WM q) s ≤ dqDepth q s)) = false := by simp
  have hfull : (decide (dqDepth q s < getF (QDEPTH_DEPTH_MAX q) s) && decide (getF (QDEPTH_DEPTH_MAX q) s ≤ dqDepth q s)) = false := by
    simp
  have hlo : (isSet (QFLAGS_HIGH q) s && decide (getF (QWM_HI_WM q) s ≠ 0) && decide (dqDepth q s < dqDepth q s) &&
      decide (dqDepth q s ≤ getF (QWM_LO_WM q) s)) = false := by simp
  simp only [dqDepthEvents, hne, hhi, hfull, hlo, whenS, Bool.false_eq_true, if_false]

/-! Flushing (R286, R288). -/

/-- What flushing queue q leaves: it is empty, its cells are counted in FLUSHED, and but for its depth events and notes the registers
and the other queues stay. -/
structure Flushed (q : Nat) (s t : State) : Prop where
  empty : dqCells q t = []
  others : ∀ k, k ≠ q → dqCells k t = dqCells k s
  counted : getC (ctDQ q 5) t = getC (ctDQ q 5) (addC (ctDQ q 5) (dqDepth q s) s)
  regs : ∀ f : Fld, f.lo < 32 → ¬ noteAddr f.addr → f.addr ≠ (QEVT_NE q).addr → fldKey f ≠ fldKey (QFLAGS_HIGH q) → getF f t = getF f s

theorem Flushed.noted (h : Flushed q s t) (hq : q < 4096) (n : Noted t u) : Flushed q s u where
  empty := (dqCells_congr n.dq q).trans h.empty
  others k hk := (dqCells_congr n.dq k).trans (h.others k hk)
  counted := (n.ctrs _ (ctDQ_note hq (by decide))).trans h.counted
  regs f hl hn ha hk := (n.regs f hl hn).trans (h.regs f hl hn ha hk)

theorem dqFlush_flushed (q : Nat) (s : State) : Flushed q s (dqFlush q s) := by
  dsimp only [dqFlush, dqFlushN]
  rw [Nat.min_self]
  split
  · next h =>
    refine ⟨List.length_eq_zero_iff.1 h, fun _ _ => rfl, ?_, fun _ _ _ _ _ => rfl⟩
    rw [h]
    exact (tabGet_tabSet_same _ _ _ _).symm
  · generalize hv : addC (ctDQ q 5) (dqDepth q s) (dqRemove q (dqDepth q s) s) = v
    have hevents : DepthNoted q v (dqDepthEvents q (dqDepth q s) (qevt q 5 v)) :=
      (DepthNoted.qevt (by decide) v).trans (.depthEvents _ _)
    subst hv
    refine ⟨?_, fun k hk => ?_, (getC_congr hevents.ctrs _).trans ?_, fun f hl _ ha hk => hevents.regs f hl ha hk⟩
    · rw [dqCells_congr hevents.dq, dqCells_congr (addC_dq _ _ _), dqCells_dqRemove, dqDepth, List.drop_length]
    · rw [dqCells_congr hevents.dq, dqCells_congr (addC_dq _ _ _), dqCells_dqRemove_other hk]
    · exact getC_addC_congr (getC_congr (dqRemove_ctrs _ _ _) _) _

/-- A flush by command or register also writes its record (R288). -/
theorem qcmdFlush_flushed (hq : q < 4096) (s : State) : Flushed q s (qcmdFlush q s) :=
  (dqFlush_flushed q s).noted hq (Noted.sbEvent 0x0509 [] _)

/-- A flush leaves DISCARD as it is. -/
theorem Flushed.discard (h : Flushed q s t) (hq : q < 4096) : getF (QFLAGS_DISCARD q) t = getF (QFLAGS_DISCARD q) s := by
  refine h.regs _ (by simp [QFLAGS_DISCARD]) (not_noteAddr_queue ?_ ?_) ?_ ?_
  all_goals
    simp only [QFLAGS_DISCARD, QFLAGS_HIGH, QEVT_NE, fldKey]
    omega

/-! Where a new cell is placed (R279, R289) does not depend on DISCARD. -/

section
variable {α β : Type} {g : β → Nat × α → β} {k : Nat}

/-- A fold over a table that passes over the entries of a key is not changed by taking the key out. -/
theorem foldl_tabDel (h : ∀ b v, g b (k, v) = b) (tab : Tab α) (b : β) : (tabDel tab k).foldl g b = tab.foldl g b := by
  induction tab generalizing b with
  | nil => rfl
  | cons p tab ih =>
    obtain ⟨a, w⟩ := p
    by_cases ha : a = k
    · subst ha
      rw [tabDel, if_pos rfl, List.foldl_cons, h, ih]
    · rw [tabDel, if_neg ha, List.foldl_cons, List.foldl_cons, ih]

/-- Nor by putting one of its entries in. -/
theorem foldl_tabIns (h : ∀ b v, g b (k, v) = b) (v : α) (tab : Tab α) (b : β) : (tabIns k v tab).foldl g b = tab.foldl g b := by
  induction tab generalizing b with
  | nil => exact h b v
  | cons p tab ih =>
    rw [tabIns]
    split
    · rw [List.foldl_cons, h]
    · rw [List.foldl_cons, List.foldl_cons, ih]

/-- Nor, with both, by a write under the key. -/
theorem foldl_tabSet [DecidableEq α] (h : ∀ b v, g b (k, v) = b) (d : α) (tab : Tab α) (v : α) (b : β) :
    (tabSet d tab k v).foldl g b = tab.foldl g b := by
  rw [tabSet]
  split
  · exact foldl_tabDel h tab b
  · exact (foldl_tabIns h v _ b).trans (foldl_tabDel h tab b)

end

section
variable {p v : Nat}

theorem getF_setDiscard {f : Fld} (hl : f.lo < 32) (hf : f.lo ≠ 4) : getF f (setF (QFLAGS_DISCARD p) v s) = getF f s :=
  getF_setF_other v s (by simp only [fldKey, QFLAGS_DISCARD]; omega)

theorem isSet_setDiscard {f : Fld} (hl : f.lo < 32) (hf : f.lo ≠ 4) : isSet f (setF (QFLAGS_DISCARD p) v s) = isSet f s := by
  rw [isSet, getF_setDiscard hl hf, isSet]

theorem reserveSum_setDiscard : reserveSum (setF (QFLAGS_DISCARD p) v s) = reserveSum s := by
  have hkey : reserveKeyQueue (fldKey (QFLAGS_DISCARD p)) = none := by
    rw [reserveKeyQueue, if_neg]
    simp only [fldKey, QFLAGS_DISCARD]
    omega
  unfold reserveSum
  simp only [isSet_setDiscard (f := QCFG_EN _) (by simp [QCFG_EN]) (by simp [QCFG_EN])]
  exact foldl_tabSet (fun b w => by simp only [hkey]) _ s.regs _ 0

theorem sharedUsed_setDiscard : sharedUsed (setF (QFLAGS_DISCARD p) v s) = sharedUsed s := by
  unfold sharedUsed
  simp only [isSet_setDiscard (f := QCFG_EN _) (by simp [QCFG_EN]) (by simp [QCFG_EN]),
    getF_setDiscard (f := QDEPTH_RESERVE _) (by simp [QDEPTH_RESERVE]) (by simp [QDEPTH_RESERVE]), setF_dq]

theorem dqPlace_setDiscard : dqPlace q (setF (QFLAGS_DISCARD p) v s) = dqPlace q s := by
  have hspill : isSet (QCFG_SPILL_EN q) (setF (QFLAGS_DISCARD p) v s) = isSet (QCFG_SPILL_EN q) s := by
    rw [isSet, getF_setF_addr (by simp [QCFG_SPILL_EN]) (by simp [QFLAGS_DISCARD]), isSet]
    simp only [QCFG_SPILL_EN, QFLAGS_DISCARD]
    omega
  have hshared : sharedFree (setF (QFLAGS_DISCARD p) v s) = sharedFree s := by
    rw [sharedFree, reserveSum_setDiscard, sharedUsed_setDiscard, sharedFree]
  have hchunk : chunkFree (setF (QFLAGS_DISCARD p) v s) = chunkFree s := by
    rw [chunkFree, spillChunks, getF_setDiscard (by decide) (by decide), setF_dq, chunkFree, spillChunks]
  unfold dqPlace
  rw [hspill, hshared, hchunk, getF_setDiscard (by simp [QDEPTH_RESERVE]) (by simp [QDEPTH_RESERVE]), dqCells_congr (setF_dq _ _ s)]

end

end Sys2Proof.Machine
end

section
/-! Cells at a region's interface (R275, R279 to R285): pushes, pops and what is delivered; flush, release, counters and faults (R286, R288,
R294, R295), clause by clause. -/

namespace Sys2Proof.Machine

variable {s : State} {g : Fin 80} {c : CellIn} {q : Nat}

/-! Pushes. -/

/-- The cell that a region offers, as the Dugout stamps it (R275). -/
def offered (c : CellIn) (s : State) : Cell :=
  ⟨padTo (c.lenM1.val + 1) (leBytes 64 c.data.toNat), c.sop, c.eop, false, s.clk.turn, s.clk.slot, fineTq s, 0⟩

theorem cellNow_offered (c : CellIn) (s : State) :
    cellNow (padTo (c.lenM1.val + 1) (leBytes 64 c.data.toNat)) c.sop c.eop false s = offered c s := by
  rw [cellNow, List.take_of_length_le (by rw [padTo_length]; omega), offered]

theorem cellPush_serves (h : fifServes g s = true) : cellPush g c none s = (dqPush c.queue (offered c s) s).2 := by
  rw [cellPush, if_pos h, cellNow_offered]

/-- A region that is not served pushes nothing. -/
theorem cellPush_unserved (h : fifServes g s = false) : Does (.cellPush g c none) s s := by
  refine does_fin (v := cellPush g c none s) rfl (noted_of_eq ?_)
  rw [cellPush, if_neg (by simp [h])]

/-- What a push that is dropped leaves: the queues as they were, DROP_NEW counted, DROP pending. -/
structure Dropped (q : Nat) (s t : State) : Prop where
  dq : t.dq = s.dq
  counted : getC (ctDQ q 2) t = getC (ctDQ q 2) (incC (ctDQ q 2) s)
  event : getF ⟨(QEVT_NE q).addr, 4, 1, 0⟩ t = 1

theorem qevt_pending (q bit : Nat) (s : State) : getF ⟨(QEVT_NE q).addr, bit, 1, 0⟩ (qevt q bit s) = 1 := getF_setF_same _ 1 s

theorem dqDropNew_dropped (q : Nat) (discard : Bool) (s : State) : Dropped q s (dqDropNew q discard s) := by
  unfold dqDropNew whenS
  split
  · refine ⟨rfl, rfl, ?_⟩
    rw [getF_setF_addr (by simp) (by simp [QFLAGS_DISCARD]) (by simp only [QEVT_NE, QFLAGS_DISCARD]; omega), qevt_pending]
  · exact ⟨rfl, rfl, qevt_pending q 4 _⟩

theorem Dropped.settled {t : State} (h : Dropped q s t) : Dropped q s (whSettle t) where
  dq := (whSettle_dq t).trans h.dq
  counted := (getC_whSettle _ t).trans h.counted
  event := (getF_whSettle _ t).trans h.event

/-- A queue that is not enabled drops what is pushed (R281). -/
theorem cellPush_disabled (h : fifServes g s = true) (hen : getF (QCFG_EN c.queue) s = 0) :
    ∃ t, Runs (.cellPush g c none) s t ∧ Dropped c.queue s t := by
  have hpush : cellPush g c none s = dqDropNew c.queue false s := by
    rw [cellPush_serves h, dqPush, dqPushAt, if_pos (by simp [isSet, hen])]
  exact ⟨_, congrArg fin hpush, (dqDropNew_dropped _ _ s).settled⟩

/-- A cell that finds a place in the store lands there, behind the others. -/
theorem dqPush_lands (hen : getF (QCFG_EN q) s = 1) (hd : getF (QFLAGS_DISCARD q) s = 0) (hfull : dqFull q s = false)
    (hplace : dqPlace q s = some 0) (x : Cell) :
    (dqPush q x s).2 = dqLand q (dqDepth q s) 0 x (setF (QFLAGS_DISCARD q) 0 s) := by
  rw [dqPush, dqPushAt, if_neg (by simp [isSet, hen]), if_neg (by simp [isSet, hd])]
  simp [hfull, dqPlace_setDiscard, hplace]

/-- A cell that finds the queue full under POLICY 0 is dropped. -/
theorem dqPush_drops (hen : getF (QCFG_EN q) s = 1) (hd : getF (QFLAGS_DISCARD q) s = 0) (hfull : dqFull q s = true)
    (hpol : getF (QCFG_POLICY q) s = 0) (x : Cell) :
    (dqPush q x s).2 = dqDropNew q (isSet (QCFG_PKT_MODE q) s) (setF (QFLAGS_DISCARD q) 0 s) := by
  have hpol' : getF (QCFG_POLICY q) (setF (QFLAGS_DISCARD q) 0 s) = 0 := by
    rw [getF_setDiscard (by simp [QCFG_POLICY]) (by simp [QCFG_POLICY]), hpol]
  have hpkt : isSet (QCFG_PKT_MODE q) (setF (QFLAGS_DISCARD q) 0 s) = isSet (QCFG_PKT_MODE q) s :=
    isSet_setDiscard (by simp [QCFG_PKT_MODE]) (by simp [QCFG_PKT_MODE])
  rw [dqPush, dqPushAt, if_neg (by simp [isSet, hen]), if_neg (by simp [isSet, hd])]
  simp only [if_pos hfull, dqPushFull, if_pos hpol', hpkt]

/-- With fewer than four cells at its tail there is no chunk to write (R289). -/
theorem spillWrite_none (h : ∀ x ∈ dqCells q s, x.place = 0) : spillWrite q s = s := by
  have htail : (dqCells q s).filter (fun c => decide (c.place = 1)) = [] := by
    refine List.filter_eq_nil_iff.2 fun x hx => ?_
    simp [h x hx]
  simp [spillWrite, htail]

/-- What landing in the store leaves. -/
theorem dqLand_lands (before : Nat) (x : Cell) (h : ∀ y ∈ dqCells q s, y.place = 0) :
    dqCells q (dqLand q before 0 x s) = dqCells q s ++ [{ x with place := 0 }] ∧
    (∀ k, k ≠ q → dqCells k (dqLand q before 0 x s) = dqCells k s) ∧
    getC (ctDQ q 0) (dqLand q before 0 x s) = getC (ctDQ q 0) (incC (ctDQ q 0) s) := by
  generalize hl : dqCells q s ++ [{ x with place := 0 }] = l
  generalize hu : incC (ctDQ q 0) (dqSetCells q l s) = u
  have hevents : DepthNoted q u (dqDepthEvents q before u) := .depthEvents before u
  have hcells : dqCells q (dqDepthEvents q before u) = l := by
    rw [dqCells_congr hevents.dq, ← hu]
    exact dqCells_dqSetCells l
  have hland : dqLand q before 0 x s = dqDepthEvents q before u := by
    rw [dqLand, hl, hu]
    refine spillWrite_none fun y hy => ?_
    rw [hcells, ← hl] at hy
    rcases List.mem_append.1 hy with hy | hy
    · exact h y hy
    · rw [List.mem_singleton.1 hy]
  rw [hland]
  refine ⟨hcells, fun k hk => ?_, ?_⟩
  · rw [dqCells_congr hevents.dq, ← hu]
    exact dqCells_dqSetCells_other hk l
  · rw [getC_congr hevents.ctrs, ← hu]
    exact getC_incC_congr rfl

/-- A cell pushed into an enabled queue with room lands at its tail (R281). -/
theorem cellPush_lands (h : fifServes g s = true) (hen : getF (QCFG_EN c.queue) s = 1) (hd : getF (QFLAGS_DISCARD c.queue) s = 0)
    (hfull : dqFull c.queue s = false) (hplace : dqPlace c.queue s = some 0) (hchip : ∀ x ∈ dqCells c.queue s, x.place = 0) :
    ∃ t, Runs (.cellPush g c none) s t ∧ dqCells c.queue t = dqCells c.queue s ++ [offered c s] ∧
      (∀ q, q ≠ c.queue.val → dqCells q t = dqCells q s) ∧
      getC (ctDQ c.queue 0) t = getC (ctDQ c.queue 0) (incC (ctDQ c.queue 0) s) := by
  have hpush := (cellPush_serves (c := c) h).trans (dqPush_lands hen hd hfull hplace (offered c s))
  obtain ⟨hcells, hothers, hctr⟩ := dqLand_lands (s := setF (QFLAGS_DISCARD c.queue) 0 s) (dqDepth c.queue s) (offered c s) hchip
  refine ⟨_, congrArg fin hpush, ?_, fun q hq => ?_, ?_⟩
  · exact (dqCells_congr (whSettle_dq _) _).trans hcells
  · exact (dqCells_congr (whSettle_dq _) _).trans (hothers q hq)
  · exact (getC_whSettle _ _).trans (hctr.trans (getC_incC_congr rfl))

/-- A cell pushed into a full queue under POLICY 0 is dropped, and with PKT_MODE the queue is then in DISCARD (R281, R282). -/
theorem cellPush_drops (h : fifServes g s = true) (hen : getF (QCFG_EN c.queue) s = 1) (hd : getF (QFLAGS_DISCARD c.queue) s = 0)
    (hfull : dqFull c.queue s = true) (hpol : getF (QCFG_POLICY c.queue) s = 0) :
    ∃ t, Runs (.cellPush g c none) s t ∧ Dropped c.queue s t ∧
      (getF (QCFG_PKT_MODE c.queue) s = 1 → getF (QFLAGS_DISCARD c.queue) t = 1) := by
  have hpush := (cellPush_serves (c := c) h).trans (dqPush_drops hen hd hfull hpol (offered c s))
  have hdropped := dqDropNew_dropped c.queue (isSet (QCFG_PKT_MODE c.queue) s) (setF (QFLAGS_DISCARD c.queue) 0 s)
  refine ⟨_, congrArg fin hpush, Dropped.settled ⟨hdropped.dq, ?_, hdropped.event⟩, fun hpkt => ?_⟩
  · exact hdropped.counted.trans (getC_incC_congr rfl)
  · rw [getF_whSettle, dqDropNew, whenS, if_pos (by simp [isSet, hpkt]), getF_setF_same]
    rfl

/-! Pops. -/

/-- A pop request that is taken with no response due. -/
theorem cellPop_serves (h : fifServes g s = true) (q : Fin 4096) : cellPop g (some q) 0 false s = fabPop g q 0 s := by
  rw [cellPop, if_pos h]
  rfl

/-- A region that consumes the queue and has room for a response takes what the queue gives (R280, R281). -/
theorem fabTake_got {n : Nat} {x : Cell} {u : State} (hroom : (tabGet [] s.fab.heldPops g.val).length < 8)
    (hc : fabConsumes g n s = true) (ht : dqTake n s = (.got x, u)) : fabTake g n 0 s = popHold g { x with place := n } u := by
  rw [fabTake, if_neg (by omega), if_neg (by simp [hc]), ht]
  rfl

theorem fabTake_empty {n : Nat} {u : State} (hroom : (tabGet [] s.fab.heldPops g.val).length < 8) (hc : fabConsumes g n s = true)
    (ht : dqTake n s = (.empty, u)) : fabTake g n 0 s = popHold g (noCell n) u := by
  rw [fabTake, if_neg (by omega), if_neg (by simp [hc]), ht]

theorem dqTake_got {x : Cell} {l : List Cell} (hq : dqCells q s = x :: l) (hrel : dqReleased q s ≠ 0) (hp : x.place < 2) :
    dqTake q s = (.got x, dqRemove q 1 s) := by
  rw [dqTake, hq]
  simp only [if_neg hrel]
  rw [if_neg (by omega)]

theorem dqTake_empty (hq : dqCells q s = []) : dqTake q s = (.empty, s) := by rw [dqTake, hq]

/-- A pop takes the head cell of its queue, and holds it for the region (R280, R281). -/
theorem cellPop_takes {q : Fin 4096} {x : Cell} {l : List Cell} (h : fifServes g s = true)
    (hroom : (tabGet [] s.fab.heldPops g.val).length < 8) (hc : fabConsumes g q s = true) (hq : dqCells q s = x :: l)
    (hrel : dqReleased q s ≠ 0) (hp : x.place < 2) :
    ∃ t, Runs (.cellPop g (some q) 0 false) s t ∧ dqCells q t = l ∧
      tabGet [] t.fab.heldPops g = tabGet [] s.fab.heldPops g ++ [{ x with place := q.val }] := by
  generalize hu : popHold g.val { x with place := q.val } (dqRemove q 1 s) = u
  have hpop : cellPop g (some q) 0 false s = dqDepthEvents q (dqDepth q s) u := by
    rw [cellPop_serves h, fabPop, fabTake_got hroom hc (dqTake_got hq hrel hp), hu]
  have hevents : DepthNoted q.val u (dqDepthEvents q (dqDepth q s) u) := .depthEvents _ u
  refine ⟨_, congrArg fin hpop, ?_, ?_⟩
  · rw [dqCells_congr (whSettle_dq _), dqCells_congr hevents.dq, ← hu]
    exact (dqCells_dqRemove 1).trans (by rw [hq, List.drop_one, List.tail_cons])
  · rw [whSettle_fab, hevents.fab, ← hu]
    exact tabGet_tabSet_same _ _ _ _

/-- A pop of an empty queue finds nothing, and its response waits to say so (R280). -/
theorem cellPop_empty {q : Fin 4096} (h : fifServes g s = true) (hroom : (tabGet [] s.fab.heldPops g.val).length < 8)
    (hc : fabConsumes g q s = true) (hq : dqCells q s = []) :
    Does (.cellPop g (some q) 0 false) s (popHold g (noCell q) s) := by
  refine does_fin (v := cellPop g (some q) 0 false s) rfl (noted_of_eq ?_)
  rw [cellPop_serves h, fabPop, fabTake_empty hroom hc (dqTake_empty hq)]
  exact dqDepthEvents_still q (popHold g.val (noCell q) s)

/-- The one response on its way is delivered, with its cell's descriptor, and counts in OUT (R275, R280, R294). -/
theorem cellPop_delivers {x : Cell} (h : fifServes g s = true) (hheld : tabGet [] s.fab.heldPops g = [x]) (hx : x.data ≠ []) :
    ∃ t, Runs (.cellPop g none 0 true) s t ∧ tabGet [] t.fab.heldPops g = [] ∧
      getC (ctDQ x.place 1) t = getC (ctDQ x.place 1) (incC (ctDQ x.place 1) s) ∧
      .fabric g 3 x.place 0 (padTo 64 x.data ++ cellDesc x.place x) ∈ t.out := by
  generalize hu : ({ s with fab := { s.fab with heldPops := tabSet [] s.fab.heldPops g.val [] } } : State) = u
  have hpop : cellPop g none 0 true s =
      emit (.fabric g 3 x.place 0 (popBytes x.place (some x))) (incC (ctDQ x.place 1) u) := by
    rw [cellPop, if_pos h, if_pos rfl, popsDeliver, hheld, hu]
    simp only [forEach, if_neg hx]
  refine ⟨_, congrArg fin hpop, ?_, ?_, mem_out_whSettle ?_⟩
  · rw [whSettle_fab, emit_fab, incC_fab, ← hu]
    exact tabGet_tabSet_same ([] : List Cell) s.fab.heldPops g.val []
  · rw [getC_whSettle, getC_congr (emit_ctrs _ _), ← hu]
    exact getC_incC_congr rfl
  · simp [emit, popBytes]

/-! Flush, release, counters and faults. -/

/-- QCMD.FLUSH empties its queue alone, and counts (R286, R288). -/
theorem qcmdFlush_empties (q : Fin 4096) (s : State) : ∃ t, Runs (.qcmdFlush q) s t ∧ Flushed q.val s t :=
  ⟨_, rfl, (qcmdFlush_flushed q.isLt s).noted q.isLt (Noted.whSettle _)⟩

theorem dqRelease_timed (hen : getF (QCFG_EN q) s = 1) (ht : dqTimed q s = true) :
    dqRelease q s = dqSetReleased q (dqDepth q s) s := by
  rw [dqRelease, if_pos (by simp [isSet, hen, ht])]

/-- QCMD.RELEASE shows every cell of an enabled TIMED queue (R288). -/
theorem qcmdRelease_releases {q : Fin 4096} (hen : getF (QCFG_EN q) s = 1) (ht : dqTimed q s = true) :
    ∃ t, Runs (.qcmdRelease q) s t ∧ dqReleased q t = dqDepth q s ∧ ∀ k, dqCells k t = dqCells k s := by
  refine ⟨_, congrArg fin (dqRelease_timed hen ht), ?_, fun k => dqCells_congr (whSettle_dq _) k⟩
  have htimed : dqTimed q (whSettle (dqSetReleased q (dqDepth q s) s)) = true := by
    rw [dqTimed, isSet, getF_whSettle]
    exact ht
  rw [dqReleased, if_pos htimed, whSettle_dq]
  exact tabGet_tabSet_same _ _ _ _

/-- A queue that is not enabled releases nothing. -/
theorem qcmdRelease_idle {q : Fin 4096} (hen : getF (QCFG_EN q) s = 0) : Does (.qcmdRelease q) s s := by
  refine does_fin (v := dqRelease q s) rfl (noted_of_eq ?_)
  rw [dqRelease, if_neg (by simp [isSet, hen])]

theorem getC_clrC_same (k : Nat) (s : State) : getC k (clrC k s) = ⟨0, false⟩ := by
  rw [getC, clrC, tabGet_tabSet_same]

theorem getC_clrC_other {k j : Nat} (h : j ≠ k) (s : State) : getC j (clrC k s) = getC j s := by
  rw [getC, clrC, tabGet_tabSet_other _ _ _ h, getC]

/-- Counters cleared one after another all read zero. -/
theorem getC_clearAll {l : List Nat} {i : Nat} (hi : i ∈ l) (s : State) :
    getC (ctDQ q i) (forEach (fun i s => clrC (ctDQ q i) s) l s) = ⟨0, false⟩ := by
  induction l generalizing s with
  | nil => cases hi
  | cons a l ih =>
    by_cases hl : i ∈ l
    · exact ih hl _
    · have ha : i = a := (List.mem_cons.1 hi).resolve_right hl
      subst ha
      rw [forEach, forEach_keeps (getC (ctDQ q i)) (fun j hj u => getC_clrC_other (ctDQ_ne (by rintro rfl; exact hl hj)) u)]
      exact getC_clrC_same _ s

theorem dqCntClear_cleared {i : Nat} (hi : i < 8) (q : Nat) (s : State) : getC (ctDQ q i) (dqCntClear q s) = ⟨0, false⟩ :=
  getC_clearAll (mem_natsFrom.2 ⟨Nat.zero_le i, by omega⟩) s

@[simp] theorem dqCntClear_regs (q : Nat) (s : State) : (dqCntClear q s).regs = s.regs :=
  forEach_keeps State.regs (fun _ _ _ => clrC_regs _ _) s
@[simp] theorem dqCntClear_dq (q : Nat) (s : State) : (dqCntClear q s).dq = s.dq := forEach_keeps State.dq (fun _ _ _ => clrC_dq _ _) s

/-- DQ_CNT_SEL.CLR clears the eight counters of the queue it names (R294). -/
theorem dqCntClr_clears (q : Fin 4096) (i : Fin 8) (s : State) : ∃ t, Runs (.dqCntClr q i) s t ∧
    (∀ k < 8, getC (ctDQ q k) t = ⟨0, false⟩) ∧ getF DQ_CNT_SEL_Q t = q.val ∧ getF DQ_CNT_SEL_IDX t = i.val := by
  refine ⟨_, rfl, fun k hk => (getC_whSettle _ _).trans (dqCntClear_cleared hk q _), ?_, ?_⟩
  · rw [getF_whSettle, getF_congr (dqCntClear_regs _ _), getF_setF_other _ _ (by decide), getF_setF_same]
    exact Nat.mod_eq_of_lt q.isLt
  · rw [getF_whSettle, getF_congr (dqCntClear_regs _ _), getF_setF_same]
    exact Nat.mod_eq_of_lt i.isLt

/-- What a fault of queue q leaves before its alarm (R295): it is flushed, out of service and in fault. -/
def faulted (q : Nat) (s : State) : State := sbEvent 0x0508 [] (qevt q 8 (setF (QFLAGS_FAULT q) 1 (setF (QCFG_EN q) 0 (dqFlush q s))))

theorem queueFault_eq (q : Nat) (s : State) : queueFault q s = alarm 0x0B q false (faulted q s) := rfl

/-- A queue out of service and in fault, as its registers say (R295). -/
structure Faulted (q : Nat) (t : State) : Prop where
  empty : dqCells q t = []
  en : getF (QCFG_EN q) t = 0
  fault : getF (QFLAGS_FAULT q) t = 1
  event : getF ⟨(QEVT_NE q).addr, 8, 1, 0⟩ t = 1

theorem Faulted.noted {t : State} (h : Faulted q s) (hq : q < 4096) (n : Noted s t) : Faulted q t := by
  have hreg {f : Fld} (hl : f.lo < 32) (hlo : 0x3F00410000 ≤ f.addr) (hhi : f.addr ≤ 0x3F00410018 + q * 0x40) : getF f t = getF f s :=
    n.regs f hl (not_noteAddr_queue hlo (by omega))
  constructor
  · exact (dqCells_congr n.dq q).trans h.empty
  · rw [hreg (by simp [QCFG_EN]) (by simp [QCFG_EN]) (by simp [QCFG_EN]), h.en]
  · rw [hreg (by simp [QFLAGS_FAULT]) (by simp only [QFLAGS_FAULT]; omega) (by simp [QFLAGS_FAULT]), h.fault]
  · rw [hreg (by simp) (by simp only [QEVT_NE]; omega) (by simp [QEVT_NE]), h.event]

theorem faulted_faulted (hq : q < 4096) (s : State) : Faulted q (faulted q s) := by
  refine Faulted.noted ?_ hq (Noted.sbEvent 0x0508 [] _)
  constructor
  · exact (dqFlush_flushed q s).empty
  · rw [qevt, getF_setF_addr (by simp [QCFG_EN]) (by simp) (by simp only [QCFG_EN, QEVT_NE]; omega),
      getF_setF_addr (by simp [QCFG_EN]) (by simp [QFLAGS_FAULT]) (by simp only [QCFG_EN, QFLAGS_FAULT]; omega), getF_setF_same]
    rfl
  · rw [qevt, getF_setF_addr (by simp [QFLAGS_FAULT]) (by simp) (by simp only [QFLAGS_FAULT, QEVT_NE]; omega), getF_setF_same]
    rfl
  · exact qevt_pending q 8 _

/-- A fault leaves the policies of the alarms alone (R440). -/
theorem NotSafe.faulted {c : Nat} (h : NotSafe c s) (hc : c ≤ 22) (hq : q < 4096) : NotSafe c (faulted q s) := by
  have ha := policyFld_addr c
  have hflush : NotSafe c (dqFlush q s) := by
    unfold NotSafe
    rw [(dqFlush_flushed q s).regs _ (policyFld_lo hc) (by unfold noteAddr; omega) (by simp only [QEVT_NE]; omega)]
    · exact h
    · have := policyFld_lo hc
      simp only [fldKey, QFLAGS_HIGH]
      omega
  refine NotSafe.noted ?_ hc (Noted.sbEvent 0x0508 [] _)
  refine ((hflush.setF hc ?_ ?_ 0).setF hc ?_ ?_ 1).setF (g := ⟨(QEVT_NE q).addr, 8, 1, 0⟩) hc ?_ ?_ 1
  all_goals
    simp only [QCFG_EN, QFLAGS_FAULT, QEVT_NE]
    omega

/-- An uncorrectable error in a queue's state empties and disables it, and raises alarm 0x0B (R295). -/
theorem queueFault_faults {q : Fin 4096} (hs : NotSafe 0x0B s) (hg : NotSafe 0x13 s) :
    ∃ t, Runs (.queueFault q) s t ∧ Faulted q.val t ∧ bitOf (getF LJ_ALARM_LATCH_ALARM t) 10 = true := by
  have hpol := hs.faulted (by decide) q.isLt
  generalize hv : queueFault q s = v
  rw [queueFault_eq] at hv
  have halarm : Noted (faulted q s) v := hv ▸ Noted.alarm hpol
  have hlatch : bitOf (getF LJ_ALARM_LATCH_ALARM v) 10 = true := hv ▸ (Logged.alarm (.inl hpol) q false).2 (by decide) (by decide)
  have hguard : NotSafe 0x13 v := (hg.faulted (by decide) q.isLt).noted (by decide) halarm
  refine ⟨whSettle (guaranteeFollow v), congrArg finG ((queueFault_eq q s).trans hv), ?_, ?_⟩
  · exact (faulted_faulted q.isLt s).noted q.isLt (halarm.trans ((Noted.guaranteeFollow hguard).trans (Noted.whSettle _)))
  · exact ((Logged.guaranteeFollow (.inl hguard)).trans (Logged.whSettle _)).latched 10 (by decide) hlatch

end Sys2Proof.Machine
end

section
/-! The return of a spilled chunk (R289): its cells are on chip, in their places, and the chunk is free. -/

namespace Sys2Proof.Machine

variable {s : State} {q : Nat}

/-- One cell of a chunk is read, its descriptor first, and then the rest. -/
theorem chunkRead_cons (k i : Nat) (l : List Nat) (s : State) :
    ∃ c u, c.place = 0 ∧ (chunkRead k (i :: l) s).1.1 = c :: (chunkRead k l u).1.1 := by
  rw [chunkRead]
  exact ⟨_, _, rfl, rfl⟩

/-- Reading the cells of a chunk gives as many as are asked for, each of them on chip. -/
theorem chunkRead_cells (k : Nat) (l : List Nat) (s : State) :
    (chunkRead k l s).1.1.length = l.length ∧ ∀ c ∈ (chunkRead k l s).1.1, c.place = 0 := by
  induction l generalizing s with
  | nil => exact ⟨rfl, fun _ hc => absurd hc List.not_mem_nil⟩
  | cons i l ih =>
    obtain ⟨c, u, hc, hcells⟩ := chunkRead_cons k i l s
    obtain ⟨hlen, hplace⟩ := ih u
    rw [hcells]
    exact ⟨congrArg (· + 1) hlen, List.forall_mem_cons.2 ⟨hc, hplace⟩⟩

theorem natsFrom_length (lo n : Nat) : (natsFrom lo n).length = n := by
  induction n generalizing lo with
  | zero => rfl
  | succ n ih => exact congrArg (· + 1) (ih _)

/-- The cells of a queue with those at `place` replaced, where the first of them stood, by `new`. -/
def cellsReturned (place : Nat) (new l : List Cell) : List Cell :=
  l.takeWhile (fun c => decide (c.place ≠ place)) ++ new ++
    (l.filter (fun c => decide (c.place ≠ place))).drop (l.takeWhile (fun c => decide (c.place ≠ place))).length

theorem cellsReturned_place {place : Nat} {new l : List Cell} (hnew : ∀ c ∈ new, c.place ≠ place) :
    ∀ c ∈ cellsReturned place new l, c.place ≠ place := by
  intro c hc
  rcases List.mem_append.1 hc with hc | hc
  · rcases List.mem_append.1 hc with hc | hc
    · exact by simpa using List.mem_takeWhile_imp hc
    · exact hnew c hc
  · exact of_decide_eq_true (List.mem_filter.1 (List.mem_of_mem_drop hc)).2

theorem cellsReturned_length {place : Nat} {new l : List Cell}
    (hnew : new.length = (l.filter (fun c => decide (c.place = place))).length) : (cellsReturned place new l).length = l.length := by
  have hprefix : (l.takeWhile (fun c => decide (c.place ≠ place))).length ≤ (l.filter (fun c => decide (c.place ≠ place))).length := by
    have htaken : (l.takeWhile (fun c => decide (c.place ≠ place))).filter (fun c => decide (c.place ≠ place)) =
        l.takeWhile (fun c => decide (c.place ≠ place)) := List.filter_eq_self.2 fun _ hc => by simpa using List.mem_takeWhile_imp hc
    rw [← htaken]
    exact ((List.takeWhile_prefix _).sublist.filter _).length_le
  have hall : l.length = (l.filter (fun c => decide (c.place = place))).length + (l.filter (fun c => decide (c.place ≠ place))).length := by
    rw [l.length_eq_length_filter_add (fun c => decide (c.place = place))]
    simp only [decide_not, ne_eq]
  rw [cellsReturned, List.length_append, List.length_append, List.length_drop, hnew, hall]
  omega

/-- The first spilled chunk, and how many cells the queue holds of it. -/
theorem chunkFirst_some {l : List Cell} {k n : Nat} (h : chunkFirst l = some (k, n)) :
    n = (l.filter (fun c => decide (c.place = k + 2))).length := by
  unfold chunkFirst at h
  split at h
  · cases h
  · next c hc =>
    have hplace : 2 ≤ c.place := by simpa using List.find?_some hc
    obtain ⟨rfl, rfl⟩ := Prod.mk.inj (Option.some.inj h)
    rw [Nat.sub_add_cancel hplace]

/-- Nothing comes back to a queue with no cell in DRAM. -/
theorem chunkFetched_none (h : chunkFirst (dqCells q s) = none) : chunkFetched q s = s := by
  dsimp only [chunkFetched]
  rw [h]

/-- The chunk that comes back: what was read of it replaces its cells, and it is free, whatever reading DRAM has noted in `u`. -/
theorem chunkFetched_some {k n : Nat} (h : chunkFirst (dqCells q s) = some (k, n))
    (hroom : cellsOnChip (dqCells q s) + n ≤ getF (QDEPTH_RESERVE q) s) (hdata : drUp (drChannel (spillData s + 256 * k)) s = true)
    (hmeta : drUp (drChannel (spillMeta s + 64 * k)) s = true) : ∃ new u, new.length = n ∧ (∀ c ∈ new, c.place = 0) ∧
      chunkFetched q s = { dqSetCells q (cellsReturned (k + 2) new (dqCells q s)) u with
        dq := { (dqSetCells q (cellsReturned (k + 2) new (dqCells q s)) u).dq with chunks := u.dq.chunks.filter (· ≠ k) } } := by
  obtain ⟨hlen, hplace⟩ := chunkRead_cells k (natsFrom (4 - n) n) s
  refine ⟨_, whenS (chunkRead k (natsFrom (4 - n) n) s).1.2 (oncePerSecond (rlPoison q) (sbEvent 0x0506 []))
    (chunkRead k (natsFrom (4 - n) n) s).2, hlen.trans (natsFrom_length _ n), hplace, ?_⟩
  dsimp only [chunkFetched]
  rw [h]
  dsimp only
  rw [if_neg (by simp [hdata, hmeta]; omega)]
  rfl

/-- A queue without a cell in DRAM fetches nothing. -/
theorem spillChunkFetchComplete_none {q : Fin 4096} (h : chunkFirst (dqCells q s) = none) : Does (.spillChunkFetchComplete q) s s :=
  does_fin (v := chunkFetched q s) rfl (noted_of_eq (chunkFetched_none h))

/-- A chunk that comes back leaves the depth as it was; its cells are on chip, and its place in the pool is free (R289). -/
theorem spillChunkFetchComplete_returns {q : Fin 4096} {k n : Nat} (h : chunkFirst (dqCells q s) = some (k, n))
    (hroom : cellsOnChip (dqCells q s) + n ≤ getF (QDEPTH_RESERVE q) s) (hdata : drUp (drChannel (spillData s + 256 * k)) s = true)
    (hmeta : drUp (drChannel (spillMeta s + 64 * k)) s = true) : ∃ t, Runs (.spillChunkFetchComplete q) s t ∧
      dqDepth q t = dqDepth q s ∧ k ∉ t.dq.chunks ∧ ∀ c ∈ dqCells q t, c.place ≠ k + 2 := by
  obtain ⟨new, u, hlen, hplace, hfetched⟩ := chunkFetched_some h hroom hdata hmeta
  generalize hv : chunkFetched q s = v
  rw [hfetched] at hv
  have hcells : dqCells q v = cellsReturned (k + 2) new (dqCells q s) := by
    rw [← hv]
    exact dqCells_dqSetCells _
  have hfree : k ∉ v.dq.chunks := by
    rw [← hv]
    simp
  refine ⟨whSettle v, congrArg fin (hfetched.trans hv), ?_, ?_, ?_⟩
  · rw [dqDepth_congr (whSettle_dq v), dqDepth, hcells, cellsReturned_length (hlen.trans (chunkFirst_some h)), dqDepth]
  · rwa [whSettle_dq]
  · rw [dqCells_congr (whSettle_dq v), hcells]
    exact cellsReturned_place fun c hc => by rw [hplace c hc]; omega

end Sys2Proof.Machine
end

section
/-! O39, assembled. -/

namespace Sys2Proof.Machine

/-- Settles O39: pushes, pops, flush, release, counters, a chunk's return and a fault, clause by clause. -/
theorem dugoutRows : Obligations.DugoutRows := by
  unfold Obligations.DugoutRows
  refine ⟨fun s g c h => ⟨fun hen => ?_, fun hen hd => ⟨cellPush_lands h hen hd, fun hfull hpol => ?_⟩⟩, fun s g c => cellPush_unserved,
    fun s g q h hroom hc => ⟨fun x l => cellPop_takes h hroom hc, cellPop_empty h hroom hc⟩, fun s g x => cellPop_delivers,
    fun s q => ?_, fun s q => ⟨qcmdRelease_releases, qcmdRelease_idle⟩, fun s q i => dqCntClr_clears q i s,
    fun s q => ⟨spillChunkFetchComplete_none, fun k n _ => spillChunkFetchComplete_returns⟩, fun s q hs hg => ?_⟩
  · obtain ⟨t, hruns, h⟩ := cellPush_disabled h hen
    exact ⟨t, hruns, h.dq, h.counted, h.event⟩
  · obtain ⟨t, hruns, h, hdiscard⟩ := cellPush_drops h hen hd hfull hpol
    exact ⟨t, hruns, h.dq, h.counted, hdiscard⟩
  · obtain ⟨t, hruns, h⟩ := qcmdFlush_empties q s
    exact ⟨t, hruns, h.empty, h.discard q.isLt, h.others, h.counted⟩
  · obtain ⟨t, hruns, h, hlatch⟩ := queueFault_faults hs hg
    exact ⟨t, hruns, h.empty, h.en, h.fault, h.event, hlatch⟩

end Sys2Proof.Machine
end

section
/-! SUPPORT. The queues' registers (R277, R278): a queue's registers have the fields of queue 0's, and what QUEUE_CONFIGURE's words leave in
them. -/

namespace Sys2Proof.Machine

variable {q : Nat} {s t : State}

/-- How far the indices of a row reach beyond its base. -/
def rowReach (l : List (Nat × Nat)) : Nat := (l.map fun d => (d.1 - 1) * d.2).sum

theorem dimsMatch_reach {l : List (Nat × Nat)} {d : Nat} (h : dimsMatch l d = true) : d ≤ rowReach l := by
  induction l generalizing d with
  | nil => exact Nat.le_of_eq (of_decide_eq_true h)
  | cons p l ih =>
    obtain ⟨n, st⟩ := p
    have hrest := ih h
    have htaken : min (n - 1) (d / st) * st ≤ (n - 1) * st := Nat.mul_le_mul_right st (Nat.min_le_left _ _)
    simp only [rowReach, List.map_cons, List.sum_cons] at hrest ⊢
    omega

theorem dimsMatch_single (n st d : Nat) : dimsMatch [(n, st)] d = true ↔ d - min (n - 1) (d / st) * st = 0 := decide_eq_true_iff

/-- The rows of the map that reach into the queues' registers are the queues' own. -/
theorem regRows_queue : ∀ r ∈ regRows, r.base < 0x3F00450000 → 0x3F00410000 ≤ r.base + rowReach r.dims →
    0x3F00410000 ≤ r.base ∧ r.base < 0x3F00410040 ∧ r.dims = [(4096, 0x40)] := by
  decide +kernel

theorem rowHas_queue {r : RegRow} (hr : r ∈ regRows) (hq : q < 4096) {off : Nat} (ho : off < 0x40) :
    rowHas (qAddr q off) r = rowHas (qAddr 0 off) r := by
  by_cases hnear : r.base < 0x3F00450000 ∧ 0x3F00410000 ≤ r.base + rowReach r.dims
  · obtain ⟨hlo, hhi, hdims⟩ := regRows_queue r hr hnear.1 hnear.2
    rw [Bool.eq_iff_iff, rowHas, rowHas, hdims, Bool.and_eq_true, Bool.and_eq_true, decide_eq_true_iff, decide_eq_true_iff,
      dimsMatch_single, dimsMatch_single]
    unfold qAddr
    omega
  · have hfar {a : Nat} (hlo : 0x3F00410000 ≤ a) (hhi : a < 0x3F00450000) : rowHas a r = false := by
      by_contra hhas
      simp only [rowHas, Bool.not_eq_false, Bool.and_eq_true, decide_eq_true_eq] at hhas
      have hreach := dimsMatch_reach hhas.2
      omega
    rw [hfar, hfar]
    all_goals
      unfold qAddr
      omega

theorem regFields_queue (hq : q < 4096) {off : Nat} (ho : off < 0x40) : regFields (qAddr q off) = regFields (qAddr 0 off) := by
  have hfind : regFind (qAddr q off) = regFind (qAddr 0 off) := by
    exact List.find?_congr fun r hr => rowHas_queue hr hq ho
  rw [regFields, hfind, regFields]

/-- The offsets of QCFG, QDEPTH, QWM, QAGE and QEVT_EN, and that no two of a register's fields lie at the same bit. -/
theorem queueFields_lo : ∀ off ∈ [0, 4, 8, 0xC, 0x1C], ((regFields (qAddr 0 off)).map FSpec.lo).Nodup ∧
    ∀ y ∈ regFields (qAddr 0 off), y.lo < 32 := by
  decide +kernel

section
variable {off v : Nat} (hq : q < 4096) (ho : off ∈ [0, 4, 8, 0xC, 0x1C])
include hq ho

theorem regFields_queueOff : regFields (qAddr q off) = regFields (qAddr 0 off) := by
  refine regFields_queue hq ?_
  simp only [List.mem_cons, List.not_mem_nil, or_false] at ho
  omega

/-- A word put into a queue's register reads back. -/
theorem getF_queuePoke_same {x : FSpec} (hx : x ∈ regFields (qAddr 0 off)) (hrw : x.ty = .rw) (s : State) :
    getF (fldAt (qAddr q off) x) (regPoke (qAddr q off) v s) = bitsOf v x.lo x.w :=
  getF_regPoke_same (regFields_queueOff hq ho) (queueFields_lo off ho).1 (queueFields_lo off ho).2 hx hrw s

/-- It leaves the registers at other addresses alone. -/
theorem getF_queuePoke_other {f : Fld} (hf : f.lo < 32) (ha : f.addr ≠ qAddr q off) (s : State) :
    getF f (regPoke (qAddr q off) v s) = getF f s :=
  getF_regPoke_addr (regFields_queueOff hq ho) (queueFields_lo off ho).2 hf ha s

end

theorem regPoke_dq (a v : Nat) (s : State) : (regPoke a v s).dq = s.dq := by
  refine forEach_keeps State.dq (fun f _ s => ?_) s
  split <;> rfl

theorem qcfgPut_dq (q v : Nat) (s : State) : (qcfgPut q v s).dq = s.dq :=
  (whenS_keeps State.dq (setF_dq _ _) _ _).trans (regPoke_dq _ v s)

/-- QCFG's word reads back, and FAULT apart no other register has changed. -/
theorem getF_qcfgPut_same {v : Nat} (hq : q < 4096) {x : FSpec} (hx : x ∈ regFields (qAddr 0 0)) (hrw : x.ty = .rw) (hl : x.lo < 32)
    (s : State) : getF (fldAt (qAddr q 0) x) (qcfgPut q v s) = bitsOf v x.lo x.w := by
  refine (whenS_keeps (getF (fldAt (qAddr q 0) x)) (getF_setF_addr hl (by simp [QFLAGS_FAULT]) ?_ 0) _ _).trans
    (getF_queuePoke_same hq (by decide) hx hrw s)
  simp only [fldAt, qAddr, QFLAGS_FAULT]
  omega

theorem getF_qcfgPut_other {f : Fld} {v : Nat} (hq : q < 4096) (hl : f.lo < 32) (ha : f.addr ≠ qAddr q 0)
    (hf : f.addr ≠ (QFLAGS_FAULT q).addr) (s : State) : getF f (qcfgPut q v s) = getF f s :=
  (whenS_keeps (getF f) (getF_setF_addr hl (by simp [QFLAGS_FAULT]) hf 0) _ _).trans (getF_queuePoke_other hq (by decide) hl ha s)

/-- What the words `cfg`, `depth` and `wm` put into a queue's registers, read field by field. -/
structure QueueHolds (q cfg depth wm : Nat) (t : State) : Prop where
  en : getF (QCFG_EN q) t = bitsOf cfg 0 1
  cls : getF (QCFG_CLASS q) t = bitsOf cfg 1 1
  policy : getF (QCFG_POLICY q) t = bitsOf cfg 6 2
  consumer : getF (QCFG_CONSUMER q) t = bitsOf cfg 8 2
  depthMax : getF (QDEPTH_DEPTH_MAX q) t = bitsOf depth 0 16
  reserve : getF (QDEPTH_RESERVE q) t = bitsOf depth 16 16
  hi : getF (QWM_HI_WM q) t = bitsOf wm 0 16
  lo : getF (QWM_LO_WM q) t = bitsOf wm 16 16

/-- A queue's registers at an offset, by their specification. -/
theorem queueFld_eq (q off : Nat) (x : FSpec) : (⟨0x3F00410000 + off + q * 0x40, x.lo, x.w, x.rst⟩ : Fld) = fldAt (qAddr q off) x := by
  rw [fldAt, qAddr, Nat.add_right_comm]

/-- The words of QUEUE_CONFIGURE in a queue's registers. -/
theorem queueHolds_put (hq : q < 4096) (cfg depth wm age en : Nat) (s : State) : QueueHolds q cfg depth wm
    (qcfgPut q cfg (regPoke (qAddr q 0x1C) en (regPoke (qAddr q 0xC) age (regPoke (qAddr q 8) wm (regPoke (qAddr q 4) depth s))))) := by
  have hcfg {x : FSpec} (hx : x ∈ regFields (qAddr 0 0)) (hrw : x.ty = .rw) (hl : x.lo < 32) (s : State) :
      getF ⟨0x3F00410000 + q * 0x40, x.lo, x.w, x.rst⟩ (qcfgPut q cfg s) = bitsOf cfg x.lo x.w := getF_qcfgPut_same hq hx hrw hl s
  have hdepth {x : FSpec} (hx : x ∈ regFields (qAddr 0 4)) (hrw : x.ty = .rw) (hl : x.lo < 32) :
      getF ⟨0x3F00410004 + q * 0x40, x.lo, x.w, x.rst⟩ (qcfgPut q cfg (regPoke (qAddr q 0x1C) en (regPoke (qAddr q 0xC) age
        (regPoke (qAddr q 8) wm (regPoke (qAddr q 4) depth s))))) = bitsOf depth x.lo x.w := by
    rw [queueFld_eq q 4 x, getF_qcfgPut_other hq hl, getF_queuePoke_other hq (by decide) hl, getF_queuePoke_other hq (by decide) hl,
      getF_queuePoke_other hq (by decide) hl, getF_queuePoke_same hq (by decide) hx hrw]
    all_goals
      simp only [fldAt, qAddr, QFLAGS_FAULT]
      omega
  have hwm {x : FSpec} (hx : x ∈ regFields (qAddr 0 8)) (hrw : x.ty = .rw) (hl : x.lo < 32) (s : State) :
      getF ⟨0x3F00410008 + q * 0x40, x.lo, x.w, x.rst⟩ (qcfgPut q cfg (regPoke (qAddr q 0x1C) en (regPoke (qAddr q 0xC) age
        (regPoke (qAddr q 8) wm s)))) = bitsOf wm x.lo x.w := by
    rw [queueFld_eq q 8 x, getF_qcfgPut_other hq hl, getF_queuePoke_other hq (by decide) hl, getF_queuePoke_other hq (by decide) hl,
      getF_queuePoke_same hq (by decide) hx hrw]
    all_goals
      simp only [fldAt, qAddr, QFLAGS_FAULT]
      omega
  exact {
    en := hcfg (x := ⟨0, 1, .rw, .now, 0⟩) (by decide +kernel) rfl (by decide) _
    cls := hcfg (x := ⟨1, 1, .rw, .stopped, 0⟩) (by decide +kernel) rfl (by decide) _
    policy := hcfg (x := ⟨6, 2, .rw, .packet, 0⟩) (by decide +kernel) rfl (by decide) _
    consumer := hcfg (x := ⟨8, 2, .rw, .stopped, 0⟩) (by decide +kernel) rfl (by decide) _
    depthMax := hdepth (x := ⟨0, 16, .rw, .now, 0x40⟩) (by decide +kernel) rfl (by decide)
    reserve := hdepth (x := ⟨16, 16, .rw, .stopped, 0⟩) (by decide +kernel) rfl (by decide)
    hi := hwm (x := ⟨0, 16, .rw, .now, 0⟩) (by decide +kernel) rfl (by decide) _
    lo := hwm (x := ⟨16, 16, .rw, .now, 0⟩) (by decide +kernel) rfl (by decide) _ }

/-- An answer leaves a queue's registers alone. -/
theorem QueueHolds.sealed {cfg depth wm m : Nat} (h : QueueHolds q cfg depth wm s) (hq : q < 4096) (k : Sealed m s t) :
    QueueHolds q cfg depth wm t := by
  have hreg {f : Fld} (hl : f.lo < 32) (ha : f.addr ≤ 0x3F00410008 + q * 0x40) : getF f t = getF f s := k.regsBelow hl (by omega)
  exact {
    en := (hreg (by simp [QCFG_EN]) (by simp [QCFG_EN])).trans h.en
    cls := (hreg (by simp [QCFG_CLASS]) (by simp [QCFG_CLASS])).trans h.cls
    policy := (hreg (by simp [QCFG_POLICY]) (by simp [QCFG_POLICY])).trans h.policy
    consumer := (hreg (by simp [QCFG_CONSUMER]) (by simp [QCFG_CONSUMER])).trans h.consumer
    depthMax := (hreg (by simp [QDEPTH_DEPTH_MAX]) (by simp [QDEPTH_DEPTH_MAX])).trans h.depthMax
    reserve := (hreg (by simp [QDEPTH_RESERVE]) (by simp [QDEPTH_RESERVE])).trans h.reserve
    hi := (hreg (by simp [QWM_HI_WM]) (by simp [QWM_HI_WM])).trans h.hi
    lo := (hreg (by simp [QWM_LO_WM]) (by simp [QWM_LO_WM])).trans h.lo }

theorem Sealed.dq {m : Nat} (h : Sealed m s t) : t.dq = s.dq := by
  obtain ⟨_, _, _, _, _, rfl⟩ := h.rest
  rfl

end Sys2Proof.Machine
end

section
/-! The commands of the Dugout (R278, R279, R286, R288, R290, R294), command by command. -/

namespace Sys2Proof.Machine

variable {s : State} {mb : Fin 14} {r : Req} {q : Nat}

/-! What the commands read is not the sequencer's. -/

@[simp] theorem dqCells_seqPop (q : Nat) (s : State) : dqCells q (seqPop s) = dqCells q s := dqCells_congr (seqPop_dq s) q
@[simp] theorem dqDepth_seqPop (q : Nat) (s : State) : dqDepth q (seqPop s) = dqDepth q s := dqDepth_congr (seqPop_dq s) q
@[simp] theorem isSet_seqPop (f : Fld) (s : State) : isSet f (seqPop s) = isSet f s := by rw [isSet, getF_seqPop, isSet]
@[simp] theorem dqTimed_seqPop (q : Nat) (s : State) : dqTimed q (seqPop s) = dqTimed q s := isSet_seqPop _ s

@[simp] theorem qStateWord_seqPop (q : Nat) (s : State) : qStateWord q (seqPop s) = qStateWord q s := by
  simp [qStateWord, dqReleased]

@[simp] theorem qFlagsWord_seqPop (q : Nat) (s : State) : qFlagsWord q (seqPop s) = qFlagsWord q s := by
  simp [qFlagsWord, dqFull, dqSpilled]

/-! QUEUE_CONFIGURE. -/

theorem queueConfigure_queue (h : Asks sheetQueueConfigure mb r s) : argQueue r < 4096 := by
  have hargs := h.args
  dsimp only [sheetQueueConfigure, plainSheet] at hargs
  have hargs := (argsLen_none hargs).2
  simp only [Bool.and_eq_true, decide_eq_true_eq] at hargs
  exact hargs.1.1

/-- QUEUE_CONFIGURE puts its words into the queue's registers (R278). -/
theorem queueConfigure_configures (h : Asks sheetQueueConfigure mb r s) : ∃ t, Runs (.queueConfigure mb) s t ∧
    Answered r stOk [] false t ∧ QueueHolds (argQueue r) (arg r 4 4) (arg r 8 4) (arg r 12 4) t ∧ t.dq = s.dq := by
  have hq := queueConfigure_queue h
  obtain ⟨t, hruns, hans, hsealed⟩ := runs_answered (i := .queueConfigure mb) rfl h rfl
  refine ⟨t, hruns, hans, (queueHolds_put hq _ _ _ _ _ _).sealed hq hsealed, hsealed.dq.trans ?_⟩
  rw [qcfgPut_dq, regPoke_dq, regPoke_dq, regPoke_dq, regPoke_dq, seqPop_dq]

/-! QUEUE_STATUS. -/

/-- The answer of QUEUE_STATUS: the queue's three words and its eight counters. -/
def queueStatusBytes (q : Nat) (s : State) : List (BitVec 8) :=
  leBytes 4 (qStateWord q s) ++ leBytes 4 (qFlagsWord q s) ++ leBytes 4 (regWord (qAddr q 0x18) s) ++
    ((natsFrom 0 8).map (fun i => ctrBytes (ctDQ q i) s)).flatten

theorem queueStatusBytes_seqPop (q : Nat) (s : State) : queueStatusBytes q (seqPop s) = queueStatusBytes q s := by
  simp [queueStatusBytes, ctrBytes]

theorem queueStatusBytes_length (q : Nat) (s : State) : (queueStatusBytes q s).length = 60 := by
  rw [queueStatusBytes, List.length_append, length_pieces fun i => ctrBytes_length (ctDQ q i) s]
  simp

theorem queueStatusBytes_words (q : Nat) (s : State) : fieldAt (queueStatusBytes q s) 0 4 = qStateWord q s % 2 ^ 32 ∧
    fieldAt (queueStatusBytes q s) 4 4 = qFlagsWord q s % 2 ^ 32 := by
  simp [queueStatusBytes, List.append_assoc, fieldAt_skip, fieldAt_first]

theorem queueStatusBytes_counter (q : Nat) (s : State) {i : Nat} (hi : i < 8) :
    fieldAt (queueStatusBytes q s) (12 + 6 * i) 6 = (getC (ctDQ q i) s).val % 2 ^ 48 := by
  rw [queueStatusBytes, fieldAt_right _ _ _ _ (by simp), fieldAt,
    show 12 + 6 * i - (leBytes 4 (qStateWord q s) ++ leBytes 4 (qFlagsWord q s) ++ leBytes 4 (regWord (qAddr q 0x18) s)).length = 6 * i
      by simp,
    take_drop_pieces (fun i => ctrBytes_length (ctDQ q i) s) hi, Nat.zero_add, ctrBytes, leNat_leBytes]
  rfl

/-- The queue's QEVT with every bit cleared. -/
def evtCleared (q : Nat) (s : State) : State := forEach (fun b s => setF ⟨qAddr q 0x18, b, 1, 0⟩ 0 s) (natsFrom 0 9) s

theorem evtCleared_dq (q : Nat) (s : State) : (evtCleared q s).dq = s.dq := forEach_keeps State.dq (fun _ _ _ => setF_dq _ _ _) s

theorem getF_evtCleared {b : Nat} (hb : b < 9) (q : Nat) (s : State) : getF ⟨(QEVT_NE q).addr, b, 1, 0⟩ (evtCleared q s) = 0 := by
  have hclear : getF (⟨qAddr q 0x18, b, 1, 0⟩ : Fld) (forEach (fun g s => setF g 0 s)
      ((natsFrom 0 9).map fun b => ⟨qAddr q 0x18, b, 1, 0⟩) s) = 0 :=
    getF_clearAll rfl (.inl (List.mem_map.2 ⟨b, mem_natsFrom.2 ⟨Nat.zero_le b, by omega⟩, rfl⟩))
  have haddr : (QEVT_NE q).addr = qAddr q 0x18 := by
    simp only [QEVT_NE, qAddr]
    omega
  rw [haddr]
  exact hclear

/-- QUEUE_STATUS with ACTION 0 answers and leaves all as it was. -/
theorem queueStatus_reads (h : Asks sheetQueueStatus mb r s) (ha : arg r 2 1 = 0) :
    Oks (.queueStatus mb) mb r (queueStatusBytes (argQueue r) s) s (seqPop s) := by
  refine oks_fin rfl h ?_ (Noted.refl _) (queueStatusBytes_seqPop _ s)
  simp only [sheetQueueStatus, plainSheet, ha]
  rfl

/-- QUEUE_STATUS with ACTION 3 answers, and clears the events and the counters. -/
theorem queueStatus_clears (h : Asks sheetQueueStatus mb r s) (ha : arg r 2 1 = 3) : ∃ t, Runs (.queueStatus mb) s t ∧
    Answered r stOk (queueStatusBytes (argQueue r) s) false t ∧ t.dq = s.dq ∧ (∀ i < 8, getC (ctDQ (argQueue r) i) t = ⟨0, false⟩) ∧
    ∀ b < 9, getF ⟨(QEVT_NE (argQueue r)).addr, b, 1, 0⟩ t = 0 := by
  have hq : argQueue r < 4096 := by
    have hargs := h.args
    dsimp only [sheetQueueStatus, plainSheet] at hargs
    have hargs := (argsLen_none hargs).2
    simp only [Bool.and_eq_true, decide_eq_true_eq] at hargs
    exact hargs.1.1
  have hrun : sheetQueueStatus.run r (seqPop s) =
      (replyOk (queueStatusBytes (argQueue r) s), dqCntClear (argQueue r) (evtCleared (argQueue r) (seqPop s))) := by
    rw [← queueStatusBytes_seqPop]
    simp only [sheetQueueStatus, plainSheet, ha]
    rfl
  obtain ⟨t, hruns, hans, hsealed⟩ := runs_answered (i := .queueStatus mb) rfl h hrun
  refine ⟨t, hruns, hans, ?_, fun i hi => ?_, fun b hb => ?_⟩
  · rw [hsealed.dq, dqCntClear_dq, evtCleared_dq, seqPop_dq]
  · rw [getC_congr hsealed.ctrs, dqCntClear_cleared hi]
  · rw [hsealed.regsBelow (by dsimp only; omega) (by simp only [QEVT_NE]; omega), getF_congr (dqCntClear_regs _ _), getF_evtCleared hb]

/-! QUEUE_FLUSH and QUEUE_RELEASE. -/

/-- Queues flushed one after another are empty, and no other is touched. -/
theorem qcmdFlush_all {l : List Nat} (hl : ∀ q ∈ l, q < 4096) (s : State) :
    (∀ q ∈ l, dqCells q (forEach qcmdFlush l s) = []) ∧ ∀ q, q ∉ l → dqCells q (forEach qcmdFlush l s) = dqCells q s := by
  induction l generalizing s with
  | nil => exact ⟨fun q hq => absurd hq List.not_mem_nil, fun q _ => rfl⟩
  | cons a l ih =>
    have hflush := qcmdFlush_flushed (hl a List.mem_cons_self) s
    obtain ⟨hempty, hothers⟩ := ih (fun q hq => hl q (List.mem_cons_of_mem a hq)) (qcmdFlush a s)
    refine ⟨fun q hq => ?_, fun q hq => ?_⟩
    · by_cases hrest : q ∈ l
      · exact hempty q hrest
      · rw [forEach, hothers q hrest, (List.mem_cons.1 hq).resolve_right hrest, hflush.empty]
    · obtain ⟨hne, hrest⟩ := not_or.1 (mt List.mem_cons.2 hq)
      rw [forEach, hothers q hrest, hflush.others q hne]

/-- QUEUE_FLUSH empties its run of queues and no other, and answers the cells that went (R288). -/
theorem queueFlush_flushes (h : Asks sheetQueueFlush mb r s) : ∃ t, Runs (.queueFlush mb) s t ∧
    Answered r stOk (leBytes 4 ((natsFrom (argQueue r) (arg r 2 2)).foldl (fun n q => n + dqDepth q s) 0)) false t ∧
    (∀ q, argQueue r ≤ q → q < argQueue r + arg r 2 2 → dqCells q t = []) ∧
    ∀ q, q < argQueue r ∨ argQueue r + arg r 2 2 ≤ q → dqCells q t = dqCells q s := by
  have hend : argQueue r + arg r 2 2 ≤ 4096 := by
    have hargs := h.args
    dsimp only [sheetQueueFlush, plainSheet] at hargs
    have hargs := (argsLen_none hargs).2
    simp only [Bool.and_eq_true, decide_eq_true_eq] at hargs
    exact hargs.2
  obtain ⟨t, hruns, hans, hsealed⟩ := runs_answered (i := .queueFlush mb) rfl h rfl
  have hflush := qcmdFlush_all (l := natsFrom (argQueue r) (arg r 2 2)) (fun q hq => by have := mem_natsFrom.1 hq; omega) (seqPop s)
  refine ⟨t, hruns, by simpa using hans, fun q hlo hhi => ?_, fun q hq => ?_⟩
  · rw [dqCells_congr hsealed.dq]
    exact hflush.1 q (mem_natsFrom.2 ⟨hlo, hhi⟩)
  · rw [dqCells_congr hsealed.dq, ← dqCells_seqPop q s]
    exact hflush.2 q fun hm => by have := mem_natsFrom.1 hm; omega

theorem dqReleased_dqSetReleased (ht : dqTimed q s = true) (n : Nat) : dqReleased q (dqSetReleased q n s) = n := by
  have htimed : dqTimed q (dqSetReleased q n s) = true := ht
  rw [dqReleased, if_pos htimed]
  exact tabGet_tabSet_same _ _ _ _

/-- QUEUE_RELEASE releases every cell then in the queue, and answers their number (R288). -/
theorem queueRelease_releases (h : Asks sheetQueueRelease mb r s) : Oks (.queueRelease mb) mb r (leBytes 2 (dqDepth (argQueue r) s)) s
    (dqSetReleased (argQueue r) (dqDepth (argQueue r) s) (seqPop s)) := by
  have hstate := h.state
  simp only [sheetQueueRelease, ite_eq_left_iff, reduceCtorEq, imp_false, not_not, Bool.and_eq_true] at hstate
  obtain ⟨htimed, hen⟩ := hstate
  have hrelease : dqRelease (argQueue r) (seqPop s) = dqSetReleased (argQueue r) (dqDepth (argQueue r) s) (seqPop s) := by
    rw [dqRelease, if_pos (by simp [htimed, hen]), dqDepth_seqPop]
  refine oks_fin rfl h ?_ (Noted.refl _) rfl
  simp only [sheetQueueRelease, plainSheet, hrelease, dqReleased_dqSetReleased htimed]

/-! DUGOUT_STATUS and DUGOUT_SPILL_SET. -/

/-- DUGOUT_STATUS answers the store's figures (R279). -/
theorem dugoutStatus_answers (h : Asks sheetDugoutStatus mb r s) : ∃ p, Oks (.dugoutStatus mb) mb r p s (seqPop s) ∧ p.length = 20 ∧
    fieldAt p 4 4 = storeFree s % 2 ^ 32 ∧ fieldAt p 8 4 = s.dq.chunks.length % 2 ^ 32 := by
  refine ⟨_, oks_fin rfl h rfl (Noted.refl _) rfl, ?_, ?_, ?_⟩
  · simp
  all_goals simp [List.append_assoc, fieldAt_skip, fieldAt_first, storeFree, storeUsed, spillUsed]

/-- A setting of the pool reads back from its registers (R290). -/
theorem spillSet_reads {data meta_ chunks : Nat} (hda : data % 4096 = 0) (hd : data < 2 ^ 40) (hma : meta_ % 4096 = 0) (hm : meta_ < 2 ^ 40)
    (hc : chunks < 2 ^ 20) (s : State) : spillData (spillSet data meta_ chunks s) = data ∧
      spillMeta (spillSet data meta_ chunks s) = meta_ ∧ spillChunks (spillSet data meta_ chunks s) = chunks := by
  simp (disch := decide) only [spillData, spillMeta, spillChunks, spillSet, getF_setF_other, getF_setF_same]
  simp only [DQ_SPILL_DATA_LO_BASE, DQ_SPILL_DATA_HI_BASE, DQ_SPILL_META_LO_BASE, DQ_SPILL_META_HI_BASE, DQ_SPILL_CTRL_CHUNKS]
  omega

/-- DUGOUT_SPILL_SET sets the pool's areas and its size. -/
theorem dugoutSpillSet_sets (h : Asks sheetDugoutSpillSet mb r s) : ∃ t, Runs (.dugoutSpillSet mb) s t ∧ Answered r stOk [] false t ∧
    spillData t = arg r 0 8 ∧ spillMeta t = arg r 8 8 ∧ spillChunks t = arg r 16 4 := by
  have hargs := h.args
  dsimp only [sheetDugoutSpillSet, plainSheet] at hargs
  have hargs := (argsLen_none hargs).2
  simp only [spillBad, Bool.and_eq_true, decide_eq_true_eq, Bool.not_eq_true', Bool.or_eq_false_iff, decide_eq_false_iff_not, not_not,
    Nat.not_le] at hargs
  obtain ⟨hc, ⟨⟨⟨⟨⟨⟨hda, hma⟩, hd⟩, hm⟩, -⟩, -⟩, -⟩⟩ := hargs
  obtain ⟨t, hruns, hans, hsealed⟩ := runs_answered (i := .dugoutSpillSet mb) rfl h rfl
  have hreg {f : Fld} (hl : f.lo < 32) (ha : f.addr < 0x3F00C00000) := hsealed.regsBelow hl ha
  refine ⟨t, hruns, hans, ?_⟩
  rw [spillData, spillMeta, spillChunks, hreg (by decide) (by decide), hreg (by decide) (by decide), hreg (by decide) (by decide),
    hreg (by decide) (by decide), hreg (by decide) (by decide)]
  exact spillSet_reads hda hd hma hm hc (seqPop s)

/-- Settles O40: the Dugout's commands, one by one. -/
theorem queueCommands : Obligations.QueueCommands := by
  unfold Obligations.QueueCommands
  refine ⟨fun s mb r h => ?_, fun s mb r h => ?_, fun s mb r h => ?_, fun s mb r => queueRelease_releases,
    fun s mb r => dugoutStatus_answers, fun s mb r => dugoutSpillSet_sets⟩
  · obtain ⟨t, hruns, hans, hset, hdq⟩ := queueConfigure_configures h
    exact ⟨t, hruns, hans, hset.en, hset.cls, hset.policy, hset.consumer, hset.depthMax, hset.reserve, hset.hi, hset.lo, hdq⟩
  · obtain ⟨hstate, hflags⟩ := queueStatusBytes_words (argQueue r) s
    exact ⟨queueStatusBytes (argQueue r) s, queueStatusBytes_length _ s, hstate, hflags,
      fun i hi => queueStatusBytes_counter (argQueue r) s hi, queueStatus_reads h, queueStatus_clears h⟩
  · obtain ⟨t, hruns, hans, hempty, hothers⟩ := queueFlush_flushes h
    exact ⟨t, _, hruns, hans, rfl, hempty, hothers⟩

end Sys2Proof.Machine
end

section
/-! SUPPORT. What ports make the Dugout do (R275 to R293, R316, R322, R323): pushes of received cells, flushes, the age rule. All of it writes QFLAGS,
QEVT and DQ_STATUS, the Dugout's own state and counters, and what the receivers hold; a port's other state, its registers and the
timers stay. A queue's number is not bounded here: a register of an RP_ or LANE_ table never stands where QFLAGS or QEVT of any queue would. -/

namespace Sys2Proof.Machine

variable {i : Nat} {s t u : State}

/-- What each step of a loop is related to, the loop is related to. -/
theorem forEach_related {α : Type} {R : State → State → Prop} (hrefl : ∀ s, R s s) (htrans : ∀ {s t u}, R s t → R t u → R s u)
    {f : α → State → State} {l : List α} (h : ∀ a ∈ l, ∀ s, R s (f a s)) (s : State) : R s (forEach f l s) := by
  induction l generalizing s with
  | nil => exact hrefl s
  | cons a l ih => exact htrans (h a List.mem_cons_self s) (ih (fun b hb => h b (List.mem_cons_of_mem a hb)) _)

/-- Port p's own state reads what has been written to it; another port's stays. -/
@[simp] theorem portOf_portUpd_same (p : Nat) (f : Port → Port) (s : State) : portOf p (portUpd p f s) = f (portOf p s) :=
  tabGet_tabSet_same _ _ _ _

theorem portOf_portUpd_other {p q : Nat} (h : p ≠ q) (f : Port → Port) (s : State) : portOf p (portUpd q f s) = portOf p s :=
  tabGet_tabSet_other _ _ _ h

theorem portOf_congr (h : t.rally = s.rally) (p : Nat) : portOf p t = portOf p s := by rw [portOf, h, portOf]

/-- A port without what its receiver holds of the packet under way and without the adoption that it owes (R316). -/
def linkPart (x : Port) : Port := { x with adopt := false, inPkt := false, rxBuf := [], rxPoison := false, rxSop := false }

/-- DQ_STATUS, and the addresses at which QFLAGS and QEVT of a queue stand. -/
def queueAddr (a : Nat) : Prop := a = 0x3F00400000 ∨ a % 0x40 = 0x14 ∨ a % 0x40 = 0x18

/-- Two states differ by no more than the work of queues and receivers, in which no queue's counter at index `i` takes part: notes, the
registers of `queueAddr`, other counters, the Dugout's own state, and what receivers hold. -/
structure QueueWork (i : Nat) (s t : State) : Prop where
  regs : ∀ f : Fld, f.lo < 32 → ¬ noteAddr f.addr → ¬ queueAddr f.addr → getF f t = getF f s
  ctrs : ∀ k, k / 64 ≠ 0x3F00900030 → k % 8 = i → getC k t = getC k s
  ports : ∀ p, linkPart (portOf p t) = linkPart (portOf p s)
  us : t.time.us = s.time.us
  timers : ∀ k, k ≠ 1 → k ≠ 2 → tabFind t.time.deadlines k = tabFind s.time.deadlines k

theorem QueueWork.refl (s : State) : QueueWork i s s := ⟨fun _ _ _ _ => rfl, fun _ _ _ => rfl, fun _ => rfl, rfl, fun _ _ _ => rfl⟩

theorem QueueWork.trans (h : QueueWork i s t) (k : QueueWork i t u) : QueueWork i s u where
  regs f hl hn hq := (k.regs f hl hn hq).trans (h.regs f hl hn hq)
  ctrs j hj hi := (k.ctrs j hj hi).trans (h.ctrs j hj hi)
  ports p := (k.ports p).trans (h.ports p)
  us := k.us.trans h.us
  timers j h1 h2 := (k.timers j h1 h2).trans (h.timers j h1 h2)

theorem QueueWork.ofNoted (h : Noted s t) : QueueWork i s t where
  regs f hl hn _ := h.regs f hl hn
  ctrs k hk _ := h.ctrs k hk
  ports p := congrArg linkPart (portOf_congr h.rally p)
  us := h.us
  timers := h.timers

theorem QueueWork.setF {f : Fld} (ha : queueAddr f.addr) (hlo : f.lo < 32) (v : Nat) (s : State) : QueueWork i s (setF f v s) where
  regs _ hl _ hq := getF_setF_addr hl hlo (fun he => hq (he ▸ ha)) v s
  ctrs _ _ _ := rfl
  ports _ := rfl
  us := rfl
  timers _ _ _ := rfl

theorem QueueWork.addC {k : Nat} (hk : k % 8 ≠ i) (n : Nat) (s : State) : QueueWork i s (addC k n s) where
  regs _ _ _ _ := rfl
  ctrs _ _ hj := getC_addC_other n s (fun he => hk (he ▸ hj))
  ports _ := rfl
  us := rfl
  timers _ _ _ := rfl

theorem QueueWork.ofDq (s : State) (d : Dram) (x : Dq) : QueueWork i s { s with dram := d, dq := x } :=
  ⟨fun _ _ _ _ => rfl, fun _ _ _ => rfl, fun _ => rfl, rfl, fun _ _ _ => rfl⟩

theorem QueueWork.portUpd {f : Port → Port} (h : ∀ x, linkPart (f x) = linkPart x) (p : Nat) (s : State) : QueueWork i s (portUpd p f s) where
  regs _ _ _ _ := rfl
  ctrs _ _ _ := rfl
  ports q := by
    by_cases hq : q = p
    · rw [hq, portOf_portUpd_same, h]
    · rw [portOf_portUpd_other hq]
  us := rfl
  timers _ _ _ := rfl

theorem QueueWork.whenS {f : State → State} (h : ∀ s, QueueWork i s (f s)) (b : Bool) (s : State) : QueueWork i s (whenS b f s) := by
  unfold Machine.whenS
  split
  · exact h s
  · exact .refl s

theorem QueueWork.forEach {α : Type} {f : α → State → State} {l : List α} (h : ∀ a ∈ l, ∀ s, QueueWork i s (f a s)) (s : State) :
    QueueWork i s (forEach f l s) := forEach_related .refl .trans h s

theorem QueueWork.oncePerSecond (key code : Nat) (vs : List (Nat × Nat)) (s : State) :
    QueueWork i s (oncePerSecond key (sbEvent code vs) s) := by
  have hmark : QueueWork i s (rateMark key s) := ⟨fun _ _ _ _ => rfl, fun _ _ _ => rfl, fun _ => rfl, rfl, fun _ _ _ => rfl⟩
  unfold Machine.oncePerSecond atMostOnce
  split
  · exact hmark.trans (.ofNoted (Noted.sbEvent _ _ _))
  · exact .refl s

/-! The queues' registers. -/

theorem queueAddr_evt (q : Nat) : queueAddr (QEVT_NE q).addr := by
  simp only [queueAddr, QEVT_NE]
  omega

theorem queueAddr_flags (q : Nat) : queueAddr (QFLAGS_HELD q).addr := by
  simp only [queueAddr, QFLAGS_HELD]
  omega

theorem QueueWork.qevt {bit : Nat} (hb : bit < 32) (q : Nat) (s : State) : QueueWork i s (qevt q bit s) :=
  .setF (f := ⟨(QEVT_NE q).addr, bit, 1, 0⟩) (queueAddr_evt q) hb 1 s

theorem QueueWork.discard (q v : Nat) (s : State) : QueueWork i s (Machine.setF (QFLAGS_DISCARD q) v s) :=
  .setF (f := QFLAGS_DISCARD q) (queueAddr_flags q) (by simp [QFLAGS_DISCARD]) v s

theorem QueueWork.held (q v : Nat) (s : State) : QueueWork i s (Machine.setF (QFLAGS_HELD q) v s) :=
  .setF (f := QFLAGS_HELD q) (queueAddr_flags q) (by simp [QFLAGS_HELD]) v s

theorem QueueWork.depthEvents (q before : Nat) (s : State) : QueueWork i s (dqDepthEvents q before s) := by
  have h := DepthNoted.depthEvents (q := q) before s
  refine ⟨fun f hl _ hq => h.regs f hl (fun he => hq (he ▸ queueAddr_evt q)) (fun hk => hq ?_), fun k _ _ => getC_congr h.ctrs k, ?_, ?_, ?_⟩
  · have ha : f.addr = (QFLAGS_HELD q).addr := by
      simp only [fldKey, QFLAGS_HIGH] at hk
      simp only [QFLAGS_HELD]
      omega
    exact ha ▸ queueAddr_flags q
  all_goals
    obtain ⟨_, hrest⟩ := h.rest
    rw [hrest]
  · exact fun _ => rfl
  · exact fun _ _ _ => rfl

/-! Cells come and go (R279 to R282, R288, R292). -/

theorem ctDQ_index {j : Nat} (hj : j < 8) (q : Nat) : ctDQ q j % 8 = j := by
  unfold ctDQ ctrKey
  omega

theorem QueueWork.count {j : Nat} (hj : j < 8) (hi : i ≠ j) (q n : Nat) (s : State) : QueueWork i s (Machine.addC (ctDQ q j) n s) :=
  .addC (fun h => hi (h.symm.trans (ctDQ_index hj q))) n s

theorem QueueWork.remove (q n : Nat) (s : State) : QueueWork i s (dqRemove q n s) := .ofDq s s.dram _

theorem QueueWork.flushN (hi : i ≠ 5) (q n : Nat) (s : State) : QueueWork i s (dqFlushN q n s) := by
  dsimp only [dqFlushN]
  split
  · exact .refl s
  · exact (QueueWork.remove q _ s).trans ((QueueWork.count (by decide) hi q _ _).trans ((QueueWork.qevt (by decide) q _).trans (.depthEvents q _ _)))

theorem QueueWork.flush (hi : i ≠ 5) (q : Nat) (s : State) : QueueWork i s (dqFlush q s) := .flushN hi q _ s

theorem QueueWork.age (hi : i ≠ 4) (q : Nat) (s : State) : QueueWork i s (dqAge q s) := by
  dsimp only [dqAge]
  split
  · exact .refl s
  · split
    · exact .refl s
    · exact (QueueWork.remove q _ s).trans ((QueueWork.count (by decide) hi q _ _).trans ((QueueWork.qevt (by decide) q _).trans (.depthEvents q _ _)))

theorem QueueWork.spill (q : Nat) (s : State) : QueueWork i s (spillWrite q s) := by
  dsimp only [spillWrite]
  split
  · exact .refl s
  · split
    · exact .refl s
    · exact .ofDq s _ _

theorem QueueWork.land (hi : i ≠ 0) (q before place : Nat) (c : Cell) (s : State) : QueueWork i s (dqLand q before place c s) :=
  (QueueWork.ofDq s s.dram _).trans ((QueueWork.count (by decide) hi q 1 _).trans ((QueueWork.depthEvents q before _).trans (.spill q _)))

theorem QueueWork.dropNew (hi : i ≠ 2) (q : Nat) (discard : Bool) (s : State) : QueueWork i s (dqDropNew q discard s) :=
  (QueueWork.count (by decide) hi q 1 s).trans ((QueueWork.qevt (by decide) q _).trans (.whenS (.discard q 1) _ _))

theorem QueueWork.pushFull (h0 : i ≠ 0) (h2 : i ≠ 2) (h3 : i ≠ 3) (q : Nat) (c : Cell) (s : State) : QueueWork i s (dqPushFull q c s).2 := by
  have holdest : QueueWork i s (Machine.qevt q 4 (Machine.addC (ctDQ q 3) (dqHeadRun q s) (dqRemove q (dqHeadRun q s) s))) :=
    (QueueWork.remove q _ s).trans ((QueueWork.count (by decide) h3 q _ _).trans (.qevt (by decide) q _))
  dsimp only [dqPushFull]
  split
  · exact QueueWork.dropNew h2 q (isSet (QCFG_PKT_MODE q) s) s
  · split
    · split
      · exact QueueWork.dropNew h2 q (isSet (QCFG_PKT_MODE q) s) s
      · split
        · exact QueueWork.dropNew h2 q true s
        · split
          · dsimp only
            exact holdest.trans (.land h0 q _ _ c _)
          · dsimp only
            exact holdest.trans ((QueueWork.depthEvents q _ _).trans (.dropNew h2 q _ _))
    · exact .refl s

/-- A cell is pushed: IN, DROP_NEW and DROP_OLD alone may count it. -/
theorem QueueWork.push (h0 : i ≠ 0) (h2 : i ≠ 2) (h3 : i ≠ 3) (q : Nat) (c : Cell) (s : State) : QueueWork i s (dqPush q c s).2 := by
  dsimp only [dqPush, dqPushAt]
  split
  · exact QueueWork.dropNew h2 q false s
  · split
    · exact QueueWork.dropNew h2 q true s
    · refine (QueueWork.discard q 0 s).trans ?_
      split
      · exact .pushFull h0 h2 h3 q c _
      · split
        · dsimp only
          exact .land h0 q _ _ c _
        · have hfull : QueueWork i (Machine.setF (QFLAGS_DISCARD q) 0 s) (Machine.oncePerSecond rlStoreFull (sbEvent 0x0502 [])
              (Machine.setF DQ_STATUS_STORE_FULL 1 (Machine.setF (QFLAGS_DISCARD q) 0 s))) :=
            (QueueWork.setF (f := DQ_STATUS_STORE_FULL) (.inl rfl) (by decide) 1 _).trans (.oncePerSecond _ _ _ _)
          exact hfull.trans (.pushFull h0 h2 h3 q c _)

/-! A port goes down, ends its hold, comes up (R292, R293). -/

theorem QueueWork.portDown (hi : i ≠ 5) (p : Nat) (hold : Bool) (begun : Option Nat) (s : State) :
    QueueWork i s (dqPortDown p hold begun s) := by
  dsimp only [dqPortDown]
  refine .trans ?_ (.whenS (fun s => .ofNoted (Noted.sbEvent _ _ s)) _ _)
  refine .trans ?_ (.forEach (fun q _ s => ?_) _)
  · cases begun with
    | none => exact .refl s
    | some q => exact .flushN hi q _ s
  · split
    · exact .flush hi q s
    · exact .held q 1 s

theorem QueueWork.holdEnd (hi : i ≠ 5) (p : Nat) (s : State) : QueueWork i s (dqHoldEnd p s) := by
  dsimp only [dqHoldEnd]
  split
  · exact .refl s
  · exact (QueueWork.forEach (fun q _ s => .flush hi q s) s).trans (.ofNoted (Noted.sbEvent _ _ _))

theorem QueueWork.portUp (hi : i ≠ 4) (p : Nat) (s : State) : QueueWork i s (dqPortUp p s) := by
  refine .forEach (fun q _ s => ?_) s
  split
  · exact (QueueWork.age hi q s).trans (.held q 0 _)
  · exact .refl s

/-! Receivers (R316). -/

section
variable (h0 : i ≠ 0) (h2 : i ≠ 2) (h3 : i ≠ 3)
include h0 h2 h3

theorem QueueWork.rxCell (p : Nat) (b : List (BitVec 8)) (eop poison : Bool) (s : State) : QueueWork i s (rxCell p b eop poison s) := by
  unfold Machine.rxCell
  exact (QueueWork.push h0 h2 h3 _ _ s).trans (.portUpd (by exact fun _ => rfl) p _)

theorem QueueWork.rxAbort (p : Nat) (s : State) : QueueWork i s (rxAbort p s) := by
  dsimp only [Machine.rxAbort]
  split
  · refine .trans ?_ ((QueueWork.rxCell h0 h2 h3 p _ _ _ _).trans (.portUpd (by exact fun _ => rfl) p _))
    split
    · exact .refl s
    · exact .rxCell h0 h2 h3 p _ _ _ s
  · exact .refl s

theorem QueueWork.rxCut (p : Nat) (s : State) : QueueWork i s (rxCut p s) := by
  unfold Machine.rxCut
  split
  · exact .refl s
  · exact .rxAbort h0 h2 h3 p s

theorem QueueWork.rxCells (p : Nat) (eop poison : Bool) (n : Nat) (s : State) : QueueWork i s (rxCells p eop poison n s) := by
  induction n generalizing s with
  | zero => exact .refl s
  | succ n ih =>
    dsimp only [Machine.rxCells]
    split
    · exact ((QueueWork.rxCell h0 h2 h3 p _ _ _ s).trans (.portUpd (by exact fun _ => rfl) p _)).trans (ih _)
    · split
      · exact (QueueWork.rxCell h0 h2 h3 p _ _ _ s).trans (.portUpd (by exact fun _ => rfl) p _)
      · exact .refl s

theorem QueueWork.rxPush (p : Nat) (f : Frame) (s : State) : QueueWork i s (rxPush p f s) := by
  dsimp only [Machine.rxPush]
  refine .trans ?_ ((QueueWork.portUpd (by exact fun _ => rfl) p _).trans (.rxCells h0 h2 h3 p _ _ 8 _))
  split
  · exact .portUpd (by exact fun _ => rfl) p s
  · exact .portUpd (by exact fun _ => rfl) p s

end

end Sys2Proof.Machine
end

section
/-! SUPPORT. The registers of lanes and ports (spec/10) that move as lanes and ports follow their conditions, and those that stay. -/

namespace Sys2Proof.Machine

variable {s t u : State} {p : Nat}

/-- The address of the register of port p at an offset of its table. -/
def portReg (p off : Nat) : Nat := 0x3F00704000 + off + p / 4 * 0x8000 + p % 4 * 0x100

/-- The address of the register of lane L at an offset of its table. -/
def laneReg (L off : Nat) : Nat := 0x3F00700100 + off + L / 4 * 0x8000 + L % 4 * 0x100

/-- The addresses that move as lanes and ports follow their conditions: the queues' of `queueAddr`; LANE_STATUS, _LAT, _LATREF and _SLIP;
RP_STATUS. -/
def movingAddr (a : Nat) : Prop :=
  queueAddr a ∨ a % 0x100 = 0x20 ∨ a % 0x100 = 0x24 ∨ a % 0x100 = 0x28 ∨ a % 0x100 = 0x30 ∨ (0x4000 ≤ a % 0x8000 ∧ a % 0x100 = 8)

theorem not_noteAddr_laneReg (L : Nat) {off : Nat} (h : off < 0x90) : ¬ noteAddr (laneReg L off) := by
  unfold noteAddr laneReg
  omega

theorem not_noteAddr_portReg (p : Nat) {off : Nat} (h : off < 0x90) : ¬ noteAddr (portReg p off) := by
  unfold noteAddr portReg
  omega

theorem not_queueAddr_portReg (p : Nat) {off : Nat} (h : off ≤ 0x10) : ¬ queueAddr (portReg p off) := by
  unfold queueAddr portReg
  omega

theorem movingAddr_portStatus (p : Nat) : movingAddr (portReg p 8) := by
  unfold movingAddr portReg
  omega

theorem movingAddr_laneReg (L : Nat) {off : Nat} (h : off ∈ [0x20, 0x24, 0x28, 0x30]) : movingAddr (laneReg L off) := by
  simp only [List.mem_cons, List.not_mem_nil, or_false] at h
  unfold movingAddr laneReg
  omega

/-- RP_CTRL, RP_CFG, RP_LAT and RP_SEQ are not among them. -/
theorem not_movingAddr_portReg (p : Nat) {off : Nat} (h : off ∈ [0, 4, 0xC, 0x10]) : ¬ movingAddr (portReg p off) := by
  simp only [List.mem_cons, List.not_mem_nil, or_false] at h
  unfold movingAddr queueAddr portReg
  omega

/-- Nor are LANE_CTRL, LANE_TXEQ and LANE_RXEQ. -/
theorem not_movingAddr_laneReg (L : Nat) {off : Nat} (h : off ∈ [0, 4, 8]) : ¬ movingAddr (laneReg L off) := by
  simp only [List.mem_cons, List.not_mem_nil, or_false] at h
  unfold movingAddr queueAddr laneReg
  omega

/-- No register has moved but those of `movingAddr` and those that notes write. -/
def RegsStay (s t : State) : Prop := ∀ f : Fld, f.lo < 32 → ¬ noteAddr f.addr → ¬ movingAddr f.addr → getF f t = getF f s

theorem RegsStay.refl (s : State) : RegsStay s s := fun _ _ _ _ => rfl

theorem RegsStay.trans (h : RegsStay s t) (k : RegsStay t u) : RegsStay s u := fun f hl hn hm => (k f hl hn hm).trans (h f hl hn hm)

theorem RegsStay.ofRegs (h : t.regs = s.regs) : RegsStay s t := fun f _ _ _ => getF_congr h f

theorem RegsStay.ofNoted (h : Noted s t) : RegsStay s t := fun f hl hn _ => h.regs f hl hn

theorem RegsStay.ofWork {i : Nat} (h : QueueWork i s t) : RegsStay s t := fun f hl hn hm => h.regs f hl hn fun hq => hm (.inl hq)

theorem RegsStay.setF {f : Fld} (ha : movingAddr f.addr) (hlo : f.lo < 32) (v : Nat) (s : State) : RegsStay s (setF f v s) :=
  fun _ hl _ hm => getF_setF_addr hl hlo (fun he => hm (he ▸ ha)) v s

theorem RegsStay.forEach {α : Type} {f : α → State → State} {l : List α} (h : ∀ a ∈ l, ∀ s, RegsStay s (f a s)) (s : State) :
    RegsStay s (forEach f l s) := forEach_related .refl .trans h s

/-- A setting of a port stays. -/
theorem RegsStay.port (h : RegsStay s t) {f : Fld} {off : Nat} (hl : f.lo < 32) (ha : f.addr = portReg p off)
    (ho : off ∈ [0, 4, 0xC, 0x10] := by decide) : getF f t = getF f s := by
  refine h f hl (ha ▸ not_noteAddr_portReg p ?_) (ha ▸ not_movingAddr_portReg p ho)
  simp only [List.mem_cons, List.not_mem_nil, or_false] at ho
  omega

/-- A setting of a lane stays. -/
theorem RegsStay.lane (h : RegsStay s t) {L : Nat} {f : Fld} {off : Nat} (hl : f.lo < 32) (ha : f.addr = laneReg L off)
    (ho : off ∈ [0, 4, 8] := by decide) : getF f t = getF f s := by
  refine h f hl (ha ▸ not_noteAddr_laneReg L ?_) (ha ▸ not_movingAddr_laneReg L ho)
  simp only [List.mem_cons, List.not_mem_nil, or_false] at ho
  omega

/-- The registers of a port stay where queues and receivers work. -/
theorem QueueWork.port {i : Nat} (h : QueueWork i s t) {f : Fld} {off : Nat} (hl : f.lo < 32) (ha : f.addr = portReg p off)
    (ho : off ≤ 0x10 := by decide) : getF f t = getF f s :=
  h.regs f hl (ha ▸ not_noteAddr_portReg p (by omega)) (ha ▸ not_queueAddr_portReg p ho)

@[simp] theorem portOf_whSettle (p : Nat) (s : State) : portOf p (whSettle s) = portOf p s := portOf_congr (whSettle_rally s) p

@[simp] theorem timerOn_whSettle (k : Nat) (s : State) : timerOn k (whSettle s) = timerOn k s := by rw [timerOn, whSettle_time, timerOn]

@[simp] theorem getF_portUpd (f : Fld) (p : Nat) (g : Port → Port) (s : State) : getF f (portUpd p g s) = getF f s := rfl

@[simp] theorem portOf_setF (p : Nat) (f : Fld) (v : Nat) (s : State) : portOf p (setF f v s) = portOf p s := rfl

@[simp] theorem portOf_portEvent (p q : Nat) (f : Fld) (s : State) : portOf p (portEvent q f s) = portOf p s := rfl

theorem isSet_congr {f : Fld} (h : getF f t = getF f s) : isSet f t = isSet f s := by rw [isSet, h, isSet]

/-- An event bit of RP_STATUS reads 1 once it is set, and another field of RP_STATUS as before. -/
theorem getF_portEvent_same {f : Fld} (ha : f.addr = portReg p 8) (hlo : f.lo < 32) (hw : f.w = 1) (s : State) :
    getF f (portEvent p f s) = 1 := by
  rw [portEvent, getF_setF_addr hlo (by simp [LANE_STATUS_PORT_EVT]), getF_setF_same, hw]
  · rfl
  · rw [ha, portReg]
    simp only [LANE_STATUS_PORT_EVT]
    omega

theorem getF_portEvent_other {f g : Fld} (ha : f.addr = portReg p 8) (hlo : f.lo < 32) (hk : fldKey f ≠ fldKey g) (s : State) :
    getF f (portEvent p g s) = getF f s := by
  rw [portEvent, getF_setF_addr hlo (by simp [LANE_STATUS_PORT_EVT]), getF_setF_other _ _ hk]
  rw [ha, portReg]
  simp only [LANE_STATUS_PORT_EVT]
  omega

end Sys2Proof.Machine
end

section
/-! SUPPORT. A port that goes down (R322, R323), and a port that follows its conditions (R321). -/

namespace Sys2Proof.Machine

variable {s t u : State} {p c : Nat}

/-- What outlives a port's going down and its receiver's moves: the command that holds it down, and its deskew. -/
def lastingPart (x : Port) : Bool × Bool × Option Nat := (x.cmdDown, x.deskewed, x.deskewRef)

/-- What of a port does not concern its receiver is the same in ports with the same `linkPart`. -/
theorem of_linkPart {β : Type} {x y : Port} (g : Port → β) (hg : ∀ x, g (linkPart x) = g x) (h : linkPart x = linkPart y) : g x = g y := by
  rw [← hg x, h, hg]

theorem lastingPart_of_link {x y : Port} (h : linkPart x = linkPart y) : lastingPart x = lastingPart y :=
  of_linkPart lastingPart (fun _ => rfl) h

/-- The state in which a port's going down for a cause has been noted in RP_STATUS and DOWN_COUNT. -/
def downNoted (p c : Nat) (s : State) : State := incC (ctRP p 12) (setF (RP_STATUS_CAUSE p) c (portEvent p (RP_STATUS_DOWN_EV p) s))

/-- What a port's own state becomes when it goes down. -/
def portDropped (hold : Bool) (us : Nat) (x : Port) : Port := { x with
  taking := none, buf := [], bufFirst := false, bufLast := false, bufPoison := false, fabOpen := none
  replay := x.replay.filter (fun f => !f.timed), expiries := 0, ackDue := 0
  synSeen := false, synGot := false, synSent := false
  downUs := us, holding := hold }

/-- A port has dropped what it had begun; under HOLD its timer runs, under FLUSH its replay memory is empty. -/
def portLeft (p : Nat) (hold : Bool) (s : State) : State :=
  let s := stopTimer (tmReplay p) (portUpd p (portDropped hold s.time.us) s)
  if hold then startTimer (tmHold p) (getF (RP_CTRL_HOLD_MS p) s * 1000) s else replayEmpty p s

/-- The Dugout has been told that a port is down. -/
def downTold (p c : Nat) (s : State) : State :=
  dqPortDown p (isSet (RP_CTRL_POLICY p) s) (portOf p s).taking (sbEvent 0x0604 [(1, c)] (downNoted p c s))

theorem portDown_eq (p c : Nat) (s : State) : portDown p c s =
    setF (RP_STATUS_STATE p) (portStateIdle p (portLeft p (isSet (RP_CTRL_POLICY p) s) (downTold p c s)))
      (portLeft p (isSet (RP_CTRL_POLICY p) s) (downTold p c s)) := rfl

theorem downTold_work (p c : Nat) (s : State) : QueueWork 4 (downNoted p c s) (downTold p c s) :=
  (QueueWork.ofNoted (Noted.sbEvent _ _ _)).trans (.portDown (by decide) p _ _ _)

theorem portLeft_regs (p : Nat) (hold : Bool) (s : State) : (portLeft p hold s).regs = s.regs := by cases hold <;> rfl

theorem portLeft_ctrs (p : Nat) (hold : Bool) (s : State) : (portLeft p hold s).ctrs = s.ctrs := by cases hold <;> rfl

theorem portLeft_port (p : Nat) (hold : Bool) (s : State) : (portOf p (portLeft p hold s)).holding = hold ∧
    lastingPart (portOf p (portLeft p hold s)) = lastingPart (portOf p s) := by
  have hdropped : portOf p (stopTimer (tmReplay p) (portUpd p (portDropped hold s.time.us) s)) = portDropped hold s.time.us (portOf p s) :=
    portOf_portUpd_same p _ s
  cases hold with
  | true =>
    have hstarted : portOf p (portLeft p true s) = portDropped true s.time.us (portOf p s) := hdropped
    exact ⟨congrArg Port.holding hstarted, (congrArg lastingPart hstarted).trans rfl⟩
  | false =>
    have hemptied := portOf_portUpd_same p
      (fun x => { x with replay := [], oldest := getF (RP_SEQ_TX_NEXT p) s % 4096, expiries := 0 })
      (stopTimer (tmReplay p) (portUpd p (portDropped false s.time.us) s))
    rw [hdropped] at hemptied
    exact ⟨congrArg Port.holding hemptied, (congrArg lastingPart hemptied).trans rfl⟩

theorem portLeft_timer (p : Nat) (s : State) :
    tabFind (portLeft p true s).time.deadlines (tmHold p) = some (s.time.us + getF (RP_CTRL_HOLD_MS p) s * 1000) :=
  deadline_startTimer _ _ (stopTimer (tmReplay p) (portUpd p (portDropped true s.time.us) s))

theorem portStateIdle_le (p : Nat) (s : State) : portStateIdle p s ≤ 3 := by
  unfold portStateIdle
  split
  · decide
  · split
    · decide
    · split
      · decide
      · split <;> decide

/-- The counters of a port are no queue's and not the flash's. -/
theorem ctRP_note (p : Nat) {i : Nat} (hi : i < 64) : ctRP p i / 64 ≠ 0x3F00900030 := by
  simp only [ctRP, ctrKey, RP_CTRL_EN]
  omega

theorem ctRP_index (p i : Nat) : ctRP p i % 8 = i % 8 := by
  unfold ctRP ctrKey
  omega

/-- A state written from STATE's idle values is none of UP. -/
theorem getF_stateIdle (p v : Nat) (hv : v ≤ 3) (s : State) : getF (RP_STATUS_STATE p) (setF (RP_STATUS_STATE p) v s) ≠ 4 := by
  rw [getF_setF_same]
  simp only [RP_STATUS_STATE]
  omega

/-- What a port that goes down for cause `c` shows (R322, R323). -/
structure WentDown (p c : Nat) (s t : State) : Prop where
  left : getF (RP_STATUS_STATE p) t ≠ 4
  cause : getF (RP_STATUS_CAUSE p) t = c % 16
  event : getF (RP_STATUS_DOWN_EV p) t = 1
  counted : getC (ctRP p 12) t = getC (ctRP p 12) (incC (ctRP p 12) s)
  holding : (portOf p t).holding = isSet (RP_CTRL_POLICY p) s
  lasting : lastingPart (portOf p t) = lastingPart (portOf p s)
  timer : isSet (RP_CTRL_POLICY p) s = true →
    tabFind t.time.deadlines (tmHold p) = some (s.time.us + getF (RP_CTRL_HOLD_MS p) s * 1000)
  regs : RegsStay s t

theorem downNoted_regs (p c : Nat) (s : State) : RegsStay s (downNoted p c s) := by
  have hevent : RegsStay s (portEvent p (RP_STATUS_DOWN_EV p) s) :=
    (RegsStay.setF (f := RP_STATUS_DOWN_EV p) (movingAddr_portStatus p) (by simp [RP_STATUS_DOWN_EV]) 1 s).trans
      (.setF (f := LANE_STATUS_PORT_EVT p) (movingAddr_laneReg p (off := 0x20) (by decide)) (by simp [LANE_STATUS_PORT_EVT]) 1 _)
  exact hevent.trans (.setF (f := RP_STATUS_CAUSE p) (movingAddr_portStatus p) (by simp [RP_STATUS_CAUSE]) c _)

theorem portDown_wentDown (p c : Nat) (s : State) : WentDown p c s (portDown p c s) := by
  have hwork := downTold_work p c s
  have hport := portLeft_port p (isSet (RP_CTRL_POLICY p) s) (downTold p c s)
  have hstatus {f : Fld} (hl : f.lo < 32) (ha : f.addr = portReg p 8) (hk : fldKey f ≠ fldKey (RP_STATUS_STATE p)) :
      getF f (portDown p c s) = getF f (downNoted p c s) := by
    rw [portDown_eq, getF_setF_other _ _ hk, getF_congr (portLeft_regs _ _ _), hwork.port hl ha]
  have hregs : RegsStay s (downTold p c s) := (downNoted_regs p c s).trans (.ofWork hwork)
  rw [portDown_eq] at *
  refine ⟨getF_stateIdle p _ (portStateIdle_le p _) _, ?_, ?_, ?_, hport.1, hport.2.trans (lastingPart_of_link (hwork.ports p)), ?_, ?_⟩
  · rw [hstatus (by simp [RP_STATUS_CAUSE]) rfl (by simp only [fldKey, RP_STATUS_CAUSE, RP_STATUS_STATE]; omega), downNoted, getF_incC,
      getF_setF_same]
    rfl
  · rw [hstatus (by simp [RP_STATUS_DOWN_EV]) rfl (by simp only [fldKey, RP_STATUS_DOWN_EV, RP_STATUS_STATE]; omega), downNoted, getF_incC,
      getF_setF_other _ _ (by simp only [fldKey, RP_STATUS_DOWN_EV, RP_STATUS_CAUSE]; omega)]
    exact getF_portEvent_same rfl (by simp [RP_STATUS_DOWN_EV]) rfl s
  · rw [getC_setF, getC_congr (portLeft_ctrs _ _ _), hwork.ctrs _ (ctRP_note p (by decide)) (ctRP_index p 12)]
    exact getC_incC_congr rfl
  · intro hhold
    have hms : getF (RP_CTRL_HOLD_MS p) (downTold p c s) = getF (RP_CTRL_HOLD_MS p) s := hregs.port (off := 0) (by simp [RP_CTRL_HOLD_MS]) rfl
    have hus : (downTold p c s).time.us = s.time.us := hwork.us
    rw [setF_time, hhold, portLeft_timer, hms, hus]
  · exact (hregs.trans (.ofRegs (portLeft_regs _ _ _))).trans (.setF (f := RP_STATUS_STATE p) (movingAddr_portStatus p) (by simp [RP_STATUS_STATE]) _ _)

/-! RX_UP (R316, R321). -/

/-- Keeping RX_UP writes RX_UP, and what a receiver that is cut writes. -/
theorem portRx_work (p : Nat) (s : State) : ∃ u, (u = s ∨ ∃ v, u = setF (RP_STATUS_RX_UP p) v s) ∧ QueueWork 1 u (portRx p s) := by
  unfold portRx
  split
  · exact ⟨s, .inl rfl, .refl s⟩
  · split
    · exact ⟨_, .inr ⟨1, rfl⟩, .portUpd (by exact fun _ => rfl) p _⟩
    · exact ⟨_, .inr ⟨0, rfl⟩, .rxCut (by decide) (by decide) (by decide) p _⟩

theorem portRx_link (p q : Nat) (s : State) : linkPart (portOf q (portRx p s)) = linkPart (portOf q s) := by
  obtain ⟨u, rfl | ⟨v, rfl⟩, hwork⟩ := portRx_work p s
  · exact hwork.ports q
  · exact hwork.ports q

theorem portRx_regs (p : Nat) (s : State) : RegsStay s (portRx p s) := by
  obtain ⟨u, rfl | ⟨v, rfl⟩, hwork⟩ := portRx_work p s
  · exact .ofWork hwork
  · exact (RegsStay.setF (f := RP_STATUS_RX_UP p) (movingAddr_portStatus p) (by simp [RP_STATUS_RX_UP]) v s).trans (.ofWork hwork)

/-- STATE is left to the port's following. -/
theorem portRx_state (p : Nat) (s : State) : getF (RP_STATUS_STATE p) (portRx p s) = getF (RP_STATUS_STATE p) s := by
  obtain ⟨u, hu, hwork⟩ := portRx_work p s
  rw [hwork.port (by simp [RP_STATUS_STATE]) (p := p) (off := 8) rfl]
  obtain rfl | ⟨v, rfl⟩ := hu
  · rfl
  · exact getF_setF_other _ _ (by simp only [fldKey, RP_STATUS_STATE, RP_STATUS_RX_UP]; omega)

/-! Following (R321). -/

/-- A port that is not UP takes the state that its conditions give. -/
theorem portFollow_idle (h : getF (RP_STATUS_STATE p) s ≠ 4) :
    portFollow p s = setF (RP_STATUS_STATE p) (portStateIdle p (portRx p s)) (portRx p s) :=
  if_neg (by rw [portRx_state]; exact h)

/-- An UP port for which a cause holds once RX_UP is kept goes down; one for which none holds stays. -/
theorem portFollow_down (h : getF (RP_STATUS_STATE p) s = 4) (hc : portCauseNow p (portRx p s) = some c) :
    portFollow p s = portDown p c (portRx p s) := by
  dsimp only [portFollow]
  rw [portRx_state, if_pos h, hc]

theorem portFollow_stays (h : getF (RP_STATUS_STATE p) s = 4) (hc : portCauseNow p (portRx p s) = none) :
    portFollow p s = portRx p s := by
  dsimp only [portFollow]
  rw [portRx_state, if_pos h, hc]

/-- The three ways of a port that follows its conditions. -/
theorem portFollow_cases (p : Nat) (s : State) :
    (∃ v ≤ 3, portFollow p s = setF (RP_STATUS_STATE p) v (portRx p s)) ∨ (∃ c, portFollow p s = portDown p c (portRx p s)) ∨
      (portCauseNow p (portRx p s) = none ∧ portFollow p s = portRx p s) := by
  by_cases h : getF (RP_STATUS_STATE p) s = 4
  · cases hc : portCauseNow p (portRx p s) with
    | none => exact .inr (.inr ⟨rfl, portFollow_stays h hc⟩)
    | some c => exact .inr (.inl ⟨c, portFollow_down h hc⟩)
  · exact .inl ⟨_, portStateIdle_le p _, portFollow_idle h⟩

theorem portFollow_regs (p : Nat) (s : State) : RegsStay s (portFollow p s) := by
  refine (portRx_regs p s).trans ?_
  obtain ⟨v, -, hv⟩ | ⟨c, hc⟩ | ⟨-, hstays⟩ := portFollow_cases p s
  · rw [hv]
    exact .setF (f := RP_STATUS_STATE p) (movingAddr_portStatus p) (by simp [RP_STATUS_STATE]) v _
  · rw [hc]
    exact (portDown_wentDown p c _).regs
  · rw [hstays]
    exact .refl _

theorem portFollow_lasting (p : Nat) (s : State) : lastingPart (portOf p (portFollow p s)) = lastingPart (portOf p s) := by
  refine .trans ?_ (lastingPart_of_link (portRx_link p p s))
  obtain ⟨v, -, hv⟩ | ⟨c, hc⟩ | ⟨-, hstays⟩ := portFollow_cases p s
  · rw [hv, portOf_setF]
  · rw [hc]
    exact (portDown_wentDown p c _).lasting
  · rw [hstays]

/-- A port that is not UP keeps all but what its receiver holds. -/
theorem portFollow_link (h : getF (RP_STATUS_STATE p) s ≠ 4) : linkPart (portOf p (portFollow p s)) = linkPart (portOf p s) := by
  rw [portFollow_idle h, portOf_setF, portRx_link]

/-- A port that is commanded down is not UP once it has followed (R322, cause 7). -/
theorem portCauseNow_commanded (h : (portOf p s).cmdDown = true) : portCauseNow p s ≠ none := by
  unfold portCauseNow
  split
  · simp
  · split
    · simp
    · rw [Ne, List.find?_eq_none]
      exact fun hnone => hnone 7 (by decide) h

theorem portFollow_commanded (h : (portOf p s).cmdDown = true) : getF (RP_STATUS_STATE p) (portFollow p s) ≠ 4 := by
  obtain ⟨v, hle, hv⟩ | ⟨c, hc⟩ | ⟨hnone, -⟩ := portFollow_cases p s
  · rw [hv]
    exact getF_stateIdle p v hle _
  · rw [hc]
    exact (portDown_wentDown p c _).left
  · exact absurd hnone (portCauseNow_commanded ((of_linkPart Port.cmdDown (fun _ => rfl) (portRx_link p p s)).trans h))

end Sys2Proof.Machine
end

section
/-! SUPPORT. The end of a hold (R323), the entry to UP (R321, R325), and what a Rally-A sender does to its timer and to its frames (R318,
R319). -/

namespace Sys2Proof.Machine

variable {s t u : State} {p c : Nat}

/-! The replay timer and resending. -/

theorem raTimer_cases (p : Nat) (s : State) : (∃ d, raTimer p s = startTimer (tmReplay p) d s) ∨ raTimer p s = stopTimer (tmReplay p) s := by
  unfold raTimer
  split
  · exact .inr rfl
  · exact .inl ⟨_, rfl⟩

@[simp] theorem raTimer_regs (p : Nat) (s : State) : (raTimer p s).regs = s.regs := by
  obtain ⟨d, h⟩ | h := raTimer_cases p s
  · rw [h, startTimer]
  · rw [h, stopTimer]

@[simp] theorem raTimer_rally (p : Nat) (s : State) : (raTimer p s).rally = s.rally := by
  obtain ⟨d, h⟩ | h := raTimer_cases p s
  · rw [h, startTimer]
  · rw [h, stopTimer]

@[simp] theorem raTimer_out (p : Nat) (s : State) : (raTimer p s).out = s.out := by
  obtain ⟨d, h⟩ | h := raTimer_cases p s
  · rw [h, startTimer]
  · rw [h, stopTimer]

theorem raTimer_deadline {k : Nat} (h : k ≠ tmReplay p) (s : State) :
    tabFind (raTimer p s).time.deadlines k = tabFind s.time.deadlines k := by
  obtain ⟨d, hd⟩ | hd := raTimer_cases p s
  · rw [hd]
    exact tabFind_tabPut_other _ _ h
  · rw [hd]
    exact tabFind_tabDel_other _ h

/-- Frames leave again, each counted in REPLAYS. -/
def framesSent (p : Nat) (fs : List Sent) (s : State) : State :=
  forEach (fun (f : Sent) s => emit (.frame p f.bytes) (incC (ctRP p 6) s)) fs s

theorem raResend_eq (p : Nat) (s : State) : raResend p s = raTimer p (framesSent p (portOf p s).replay s) := rfl

theorem framesSent_regs (p : Nat) (fs : List Sent) (s : State) : (framesSent p fs s).regs = s.regs := by
  unfold framesSent
  exact forEach_keeps State.regs (by exact fun _ _ _ => rfl) s

theorem framesSent_rally (p : Nat) (fs : List Sent) (s : State) : (framesSent p fs s).rally = s.rally := by
  unfold framesSent
  exact forEach_keeps State.rally (by exact fun _ _ _ => rfl) s

theorem framesSent_time (p : Nat) (fs : List Sent) (s : State) : (framesSent p fs s).time = s.time := by
  unfold framesSent
  exact forEach_keeps State.time (by exact fun _ _ _ => rfl) s

/-- What had left the part, and every frame of the list, has left it. -/
theorem framesSent_out (p : Nat) (fs : List Sent) (s : State) : s.out ⊆ (framesSent p fs s).out ∧
    ∀ f ∈ fs, .frame p f.bytes ∈ (framesSent p fs s).out := by
  induction fs generalizing s with
  | nil => exact ⟨List.Subset.refl _, fun f hf => absurd hf List.not_mem_nil⟩
  | cons a fs ih =>
    obtain ⟨hkept, hsent⟩ := ih (emit (.frame p a.bytes) (incC (ctRP p 6) s))
    refine ⟨fun o ho => hkept (List.mem_append_left _ ho), fun f hf => ?_⟩
    obtain rfl | hf := List.mem_cons.1 hf
    · exact hkept (List.mem_append_right _ List.mem_cons_self)
    · exact hsent f hf

theorem raResend_regs (p : Nat) (s : State) : (raResend p s).regs = s.regs := by rw [raResend_eq, raTimer_regs, framesSent_regs]

theorem raResend_rally (p : Nat) (s : State) : (raResend p s).rally = s.rally := by rw [raResend_eq, raTimer_rally, framesSent_rally]

theorem raResend_deadline {k : Nat} (h : k ≠ tmReplay p) (s : State) :
    tabFind (raResend p s).time.deadlines k = tabFind s.time.deadlines k := by
  rw [raResend_eq, raTimer_deadline h, framesSent_time]

theorem raResend_sent {f : Sent} (hf : f ∈ (portOf p s).replay) : .frame p f.bytes ∈ (raResend p s).out := by
  rw [raResend_eq, raTimer_out]
  exact (framesSent_out p _ s).2 f hf

theorem tmHold_ne_tmReplay (p : Nat) : tmHold p ≠ tmReplay p := by
  unfold tmHold tmReplay
  omega

/-- The hold timer is none of those that notes and the Dugout move. -/
theorem QueueWork.holdTimer {i : Nat} (h : QueueWork i s t) (p : Nat) : timerOn (tmHold p) t = timerOn (tmHold p) s := by
  rw [timerOn, h.timers, timerOn]
  all_goals
    unfold tmHold
    omega

@[simp] theorem portOf_stopTimer (p k : Nat) (s : State) : portOf p (stopTimer k s) = portOf p s := rfl

/-! The end of a hold. -/

/-- What the end of a hold leaves (R323). -/
structure HoldEnded (p : Nat) (t : State) : Prop where
  holding : (portOf p t).holding = false
  replay : (portOf p t).replay = []
  flushed : getF (RP_STATUS_FLUSHED p) t = 1
  timer : timerOn (tmHold p) t = false

/-- The hold of a port is over, before the Dugout is told. -/
def holdOver (p : Nat) (s : State) : State :=
  portEvent p (RP_STATUS_FLUSHED p) (replayEmpty p (stopTimer (tmHold p) (portUpd p (fun x => { x with holding := false }) s)))

theorem holdOver_ended (p : Nat) (s : State) : HoldEnded p (holdOver p s) := by
  have hport : portOf p (holdOver p s) = { portOf p s with
      holding := false, replay := [], oldest := getF (RP_SEQ_TX_NEXT p) s % 4096, expiries := 0 } := by
    simp [holdOver, replayEmpty]
  refine ⟨congrArg Port.holding hport, congrArg Port.replay hport, getF_portEvent_same rfl (by simp [RP_STATUS_FLUSHED]) rfl _, ?_⟩
  have hdeleted : tabFind (tabDel (tabDel s.time.deadlines (tmHold p)) (tmReplay p)) (tmHold p) = none := by
    by_cases h : tmHold p = tmReplay p
    · rw [h, tabFind_tabDel_same]
    · rw [tabFind_tabDel_other _ h, tabFind_tabDel_same]
  exact congrArg Option.isSome hdeleted

theorem portHoldEnd_ended (h : (portOf p s).holding = true) : HoldEnded p (portHoldEnd p s) := by
  have hwork : QueueWork 1 (holdOver p s) (dqHoldEnd p (sbEvent 0x0606 [] (holdOver p s))) :=
    (QueueWork.ofNoted (Noted.sbEvent _ _ _)).trans (.holdEnd (by decide) p _)
  have hover := holdOver_ended p s
  have hend : portHoldEnd p s = dqHoldEnd p (sbEvent 0x0606 [] (holdOver p s)) := by
    unfold portHoldEnd
    rw [if_pos h]
    rfl
  rw [hend]
  exact {
    holding := (of_linkPart Port.holding (fun _ => rfl) (hwork.ports p)).trans hover.holding
    replay := (of_linkPart Port.replay (fun _ => rfl) (hwork.ports p)).trans hover.replay
    flushed := (hwork.port (by simp [RP_STATUS_FLUSHED]) rfl (off := 8)).trans hover.flushed
    timer := (hwork.holdTimer p).trans hover.timer }

/-- Whatever it found, a port does not hold when its hold has ended. -/
theorem portHoldEnd_holding (p : Nat) (s : State) : (portOf p (portHoldEnd p s)).holding = false := by
  by_cases h : (portOf p s).holding = true
  · exact (portHoldEnd_ended h).holding
  · rw [portHoldEnd, if_neg h]
    exact Bool.eq_false_iff.2 h

/-! The entry to UP. -/

/-- What a port that has come up shows (R321). -/
structure CameUp (p : Nat) (t : State) : Prop where
  state : getF (RP_STATUS_STATE p) t = 4
  event : getF (RP_STATUS_UP_EV p) t = 1
  holding : (portOf p t).holding = false
  timer : timerOn (tmHold p) t = false

theorem CameUp.work {i : Nat} (h : CameUp p s) (k : QueueWork i s t) : CameUp p t where
  state := (k.port (by simp [RP_STATUS_STATE]) rfl (off := 8)).trans h.state
  event := (k.port (by simp [RP_STATUS_UP_EV]) rfl (off := 8)).trans h.event
  holding := (of_linkPart Port.holding (fun _ => rfl) (k.ports p)).trans h.holding
  timer := (k.holdTimer p).trans h.timer

theorem CameUp.resend (h : CameUp p s) : CameUp p (raResend p s) where
  state := (getF_congr (raResend_regs p s) _).trans h.state
  event := (getF_congr (raResend_regs p s) _).trans h.event
  holding := (congrArg Port.holding (portOf_congr (raResend_rally p s) p)).trans h.holding
  timer := by
    rw [timerOn, raResend_deadline (tmHold_ne_tmReplay p)]
    exact h.timer

theorem CameUp.latency (h : CameUp p s) (v : Nat) : CameUp p (setF (RP_LAT_PORT_LAT p) v s) where
  state := (getF_setF_addr (by simp [RP_STATUS_STATE]) (by simp [RP_LAT_PORT_LAT])
    (by simp only [RP_STATUS_STATE, RP_LAT_PORT_LAT]; omega) v s).trans h.state
  event := (getF_setF_addr (by simp [RP_STATUS_UP_EV]) (by simp [RP_LAT_PORT_LAT])
    (by simp only [RP_STATUS_UP_EV, RP_LAT_PORT_LAT]; omega) v s).trans h.event
  holding := h.holding
  timer := h.timer

/-- A port has come up, before its latency is set and the Dugout is told. -/
def upNoted (p : Nat) (s : State) : State :=
  portEvent p (RP_STATUS_UP_EV p) (setF (RP_STATUS_STATE p) 4 (stopTimer (tmHold p) (portUpd p (fun x => { x with holding := false }) s)))

theorem upNoted_cameUp (p : Nat) (s : State) : CameUp p (upNoted p s) where
  state := by
    rw [upNoted, getF_portEvent_other rfl (by simp [RP_STATUS_STATE]) (by simp only [fldKey, RP_STATUS_STATE, RP_STATUS_UP_EV]; omega),
      getF_setF_same]
    rfl
  event := getF_portEvent_same rfl (by simp [RP_STATUS_UP_EV]) rfl _
  holding := by simp [upNoted]
  timer := timerOn_stopTimer (tmHold p) (portUpd p (fun x => { x with holding := false }) s)

/-- The Dugout has been told that a port is up, and event 0x0605 has been written. -/
def upTold (p : Nat) (s : State) : State :=
  let lat := getF (LANE_LAT_RX_LAT p) (upNoted p s) +
    if portWidth p (upNoted p s) = 1 then 0 else 66 * getF (RP_LAT_DESKEW p) (upNoted p s)
  let outage := if (portOf p s).downUs = 0 then 0 else min (s.time.us - (portOf p s).downUs) 0xFFFFFFFF
  let same := (portLanes p s).all (fun L => isSet (LANE_STATUS_LAT_SAME L) s)
  dqPortUp p (sbEvent 0x0605 [(4, outage), (1, natOfBool same)] (setF (RP_LAT_PORT_LAT p) lat (upNoted p s)))

theorem portUp_eq (p : Nat) (s : State) :
    portUp p s = if isSet (RP_CTRL_RALLY_A p) (upTold p s) then raResend p (upTold p s) else upTold p s := rfl

theorem upTold_cameUp (p : Nat) (s : State) : CameUp p (upTold p s) :=
  ((upNoted_cameUp p s).latency _).work ((QueueWork.ofNoted (i := 1) (Noted.sbEvent _ _ _)).trans (.portUp (by decide) p _))

theorem portUp_cameUp (p : Nat) (s : State) : CameUp p (portUp p s) := by
  rw [portUp_eq]
  split
  · exact (upTold_cameUp p s).resend
  · exact upTold_cameUp p s

end Sys2Proof.Machine
end

section
/-! A Rally port's states (R309 to R311, R321 to R323), clause by clause. -/

namespace Sys2Proof.Machine

variable {s : State} {p : Fin 128}

/-! Up and down. -/

theorem portUp_comesUp (hready : portReady p s = true) (hdown : getF (RP_STATUS_STATE p) s ≠ 4) : ∃ t, Runs (.portUp p) s t ∧
    getF (RP_STATUS_STATE p) t = 4 ∧ getF (RP_STATUS_UP_EV p) t = 1 ∧ (portOf p t).holding = false ∧ timerOn (tmHold p) t = false := by
  have hup := portUp_cameUp p s
  have hexec : exec (.portUp p) s = fin (portUp p s) := congrArg fin (if_pos (by simp [hready, hdown]))
  exact ⟨_, hexec, by simpa using hup.state, by simpa using hup.event, by simpa using hup.holding, by simpa using hup.timer⟩

theorem portUp_notReady (h : portReady p s = false) : Does (.portUp p) s s :=
  does_fin (v := s) (congrArg fin (if_neg (by simp [h]))) (Noted.refl s)

/-- The first cause that holds is one of R322's codes. -/
theorem portCauseNow_lt {p c : Nat} (h : portCauseNow p s = some c) : c < 16 := by
  unfold portCauseNow at h
  split at h
  · cases h
    decide
  · split at h
    · cases h
      decide
    · have hmem := List.mem_of_find?_eq_some h
      simp only [List.mem_cons, List.not_mem_nil, or_false] at hmem
      omega

theorem portDown_follows (hen : isSet (RP_CTRL_EN p) s = true) : exec (.portDown p) s = fin (portFollow p s) :=
  congrArg fin (if_pos hen)

/-- A port whose RX_UP is right has no receive side to keep. -/
theorem portRx_right {p : Nat} (h : rxUpNow p s = isSet (RP_STATUS_RX_UP p) s) : portRx p s = s := if_pos h

theorem portDown_goesDown {c : Nat} (hen : isSet (RP_CTRL_EN p) s = true) (hup : getF (RP_STATUS_STATE p) s = 4)
    (hrx : rxUpNow p s = isSet (RP_STATUS_RX_UP p) s) (hc : portCauseNow p s = some c) : ∃ t, Runs (.portDown p) s t ∧
    getF (RP_STATUS_STATE p) t ≠ 4 ∧ getF (RP_STATUS_CAUSE p) t = c ∧ getF (RP_STATUS_DOWN_EV p) t = 1 ∧
    getC (ctRP p 12) t = getC (ctRP p 12) (incC (ctRP p 12) s) ∧ (portOf p t).holding = isSet (RP_CTRL_POLICY p) s ∧
    (isSet (RP_CTRL_POLICY p) s = true →
      tabFind t.time.deadlines (tmHold p) = some (s.time.us + 1000 * getF (RP_CTRL_HOLD_MS p) s)) := by
  have hfollow : portFollow p s = portDown p c s := by
    rw [portFollow_down hup (by rw [portRx_right hrx]; exact hc), portRx_right hrx]
  have hdown := portDown_wentDown p c s
  have hcause : getF (RP_STATUS_CAUSE p) (portDown p c s) = c := hdown.cause.trans (Nat.mod_eq_of_lt (portCauseNow_lt hc))
  refine ⟨_, portDown_follows hen, ?_⟩
  rw [hfollow, getF_whSettle, getF_whSettle, getF_whSettle, getC_whSettle, portOf_whSettle, whSettle_time, Nat.mul_comm]
  exact ⟨hdown.left, hcause, hdown.event, hdown.counted, hdown.holding, hdown.timer⟩

theorem portDown_noCause (hen : isSet (RP_CTRL_EN p) s = true) (hup : getF (RP_STATUS_STATE p) s = 4)
    (hrx : rxUpNow p s = isSet (RP_STATUS_RX_UP p) s) (hc : portCauseNow p s = none) : Does (.portDown p) s s := by
  have hfollow : portFollow p s = s := by
    rw [portFollow_stays hup (by rw [portRx_right hrx]; exact hc), portRx_right hrx]
  exact does_fin ((portDown_follows hen).trans (congrArg fin hfollow)) (Noted.refl s)

/-! Hold. -/

theorem holdMsExpiry_ends (ht : timerOn (tmHold p) s = true) (hh : (portOf p s).holding = true) : ∃ t, Runs (.holdMsExpiry p) s t ∧
    (portOf p t).holding = false ∧ (portOf p t).replay = [] ∧ getF (RP_STATUS_FLUSHED p) t = 1 ∧ timerOn (tmHold p) t = false := by
  have hexec : exec (.holdMsExpiry p) s = fin (portHoldEnd p (expire (tmHold p) s)) := congrArg fin (if_pos ht)
  have hended := portHoldEnd_ended (s := expire (tmHold p) s) hh
  exact ⟨_, hexec, by simpa using hended.holding, by simpa using hended.replay, by simpa using hended.flushed, by simpa using hended.timer⟩

theorem holdMsExpiry_off (ht : timerOn (tmHold p) s = false) : Does (.holdMsExpiry p) s s :=
  does_fin (v := s) (congrArg fin (if_neg (by simp [ht]))) (Noted.refl s)

/-! Deskew. -/

theorem deskewComplete_idle {d : Fin 33} (h : deskewing p s = false) : Does (.deskewComplete p d) s s :=
  does_fin (v := s) (congrArg fin (if_neg (by simp [h]))) (Noted.refl s)

/-- Port p with its deskew at a depth for the first time since REARM, before it follows. -/
def deskewSet (p d : Nat) (s : State) : State :=
  setF (RP_LAT_PORT_LAT p) (getF (LANE_LAT_RX_LAT p) s + 66 * d) (setF (RP_LAT_DESKEW p) d
    (portUpd p (fun x => { x with deskewed := true, deskewRef := some d, amTries := 0, amMissed := [] }) s))

theorem deskewDone_first {p d : Nat} (h : deskewing p s = true) (hfirst : (portOf p s).deskewRef = none) :
    deskewDone p d s = portFollow p (deskewSet p d s) := by
  unfold deskewDone
  rw [if_pos h, hfirst]
  dsimp only [Option.isSome, Option.getD]
  rw [if_neg (by simp)]
  rfl

theorem deskewComplete_captures {d : Fin 33} (h : deskewing p s = true) (hfirst : (portOf p s).deskewRef = none) :
    ∃ t, Runs (.deskewComplete p d) s t ∧ (portOf p t).deskewed = true ∧ (portOf p t).deskewRef = some d.val ∧
      getF (RP_LAT_DESKEW p) t = d.val ∧ getF (RP_LAT_PORT_LAT p) t = (getF (LANE_LAT_RX_LAT p) s + 66 * d.val) % 65536 := by
  have hexec : exec (.deskewComplete p d) s = fin (portFollow p (deskewSet p d s)) := congrArg fin (deskewDone_first h hfirst)
  have hlasting := portFollow_lasting p (deskewSet p d s)
  have hset : portOf p (deskewSet p d s) = { portOf p s with deskewed := true, deskewRef := some d.val, amTries := 0, amMissed := [] } := by
    simp [deskewSet]
  have hregs := portFollow_regs p (deskewSet p d s)
  rw [hset] at hlasting
  refine ⟨_, hexec, ?_, ?_, ?_, ?_⟩
  · rw [portOf_whSettle]
    exact congrArg (fun x => x.2.1) hlasting
  · rw [portOf_whSettle]
    exact congrArg (fun x => x.2.2) hlasting
  · rw [getF_whSettle, hregs.port (by simp [RP_LAT_DESKEW]) rfl (off := 0xC), deskewSet,
      getF_setF_other _ _ (by simp only [fldKey, RP_LAT_DESKEW, RP_LAT_PORT_LAT]; omega), getF_setF_same]
    exact Nat.mod_eq_of_lt (by simp only [RP_LAT_DESKEW]; omega)
  · rw [getF_whSettle, hregs.port (by simp [RP_LAT_PORT_LAT]) rfl (off := 0xC), deskewSet, getF_setF_same]
    rfl

theorem deskewFail_idle (h : deskewing p s = false) : Does (.deskewFail p) s s :=
  does_fin (v := s) (congrArg fin (if_neg (by simp [h]))) (Noted.refl s)

theorem deskewFail_flags (h : deskewing p s = true) :
    Does (.deskewFail p) s (setF (LANE_STATUS_PORT_EVT p) 1 (setF (RP_STATUS_DESKEW_FAIL p) 1 s)) :=
  does_fin (congrArg fin (if_pos h)) (Noted.sbEvent 0x0609 [] _)

/-! Alignment markers. -/

section
variable {k : Fin 4} (hd : (portOf p s).deskewed = true) (hk : k.val < portWidth p s)
include hd hk

theorem alignmentMarker_inLine : Does (.alignmentMarker p k .inLine) s
    (portUpd p (fun x => { x with amMissed := tabSet 0 x.amMissed k 0 }) s) :=
  does_fin (congrArg fin (if_pos ⟨hd, hk⟩)) (Noted.refl _)

theorem alignmentMarker_firstMiss (hm : tabGet 0 (portOf p s).amMissed k = 0) : Does (.alignmentMarker p k .missing) s
    (portUpd p (fun x => { x with amMissed := tabSet 0 x.amMissed k 1 }) s) :=
  does_fin (congrArg fin ((if_pos ⟨hd, hk⟩).trans (if_pos hm))) (Noted.refl _)

/-- A marker out of line, or the second missing in a row, loses the deskew. -/
theorem alignmentMarker_loses {m : MarkerIn} (hm : m = .outOfLine ∨ m = .missing ∧ tabGet 0 (portOf p s).amMissed k ≠ 0) :
    ∃ t, Runs (.alignmentMarker p k m) s t ∧ (portOf p t).deskewed = false := by
  have hlost : markerLane p k m s = portFollow p (portUpd p (fun x => { x with deskewed := false, amMissed := [] }) s) := by
    obtain rfl | ⟨rfl, hmissed⟩ := hm
    · exact if_pos ⟨hd, hk⟩
    · exact (if_pos ⟨hd, hk⟩).trans (if_neg hmissed)
  have hlasting := portFollow_lasting p (portUpd p (fun x => { x with deskewed := false, amMissed := [] }) s)
  rw [portOf_portUpd_same] at hlasting
  refine ⟨_, congrArg fin hlost, ?_⟩
  rw [portOf_whSettle]
  exact congrArg (fun x => x.2.1) hlasting

end

/-- Settles O45: up, down, hold, deskew and alignment markers, one by one. -/
theorem rallyPortStates : Obligations.RallyPortStates := by
  unfold Obligations.RallyPortStates
  refine ⟨fun s p => portUp_comesUp, fun s p => portUp_notReady, fun s p c hen hup hrx => ?_, fun s p => holdMsExpiry_ends,
    fun s p => holdMsExpiry_off, fun s p d => ?_, fun s p => ?_, fun s p k hd hk => ?_⟩
  · exact ⟨portDown_goesDown hen hup hrx, portDown_noCause hen hup hrx⟩
  · exact ⟨deskewComplete_idle, deskewComplete_captures⟩
  · exact ⟨deskewFail_idle, deskewFail_flags⟩
  · exact ⟨alignmentMarker_inLine hd hk, alignmentMarker_loses hd hk (.inl rfl), alignmentMarker_firstMiss hd hk,
      fun hm => alignmentMarker_loses hd hk (.inr ⟨rfl, by omega⟩)⟩

end Sys2Proof.Machine
end

section
/-! Rally-F frames at a port that feeds its region (R312 to R317), and frames that a region's blocks make (R314, R315), clause by clause. -/

namespace Sys2Proof.Machine

variable {s : State} {p : Fin 128} {b : List (BitVec 8)} {f : Frame}

theorem rallyFFrameReceive_notReceiving (h : rallyRx p false s = false) : Does (.rallyFFrameReceive p b) s s :=
  does_fin (v := s) (congrArg fin (if_pos (by simp [h]))) (Noted.refl s)

/-- A frame that is presented on RP_RX leaves the part, and changes nothing else. -/
theorem rxPresent_noted (p : Nat) (f : Frame) (lost bad : Bool) (s : State) : Noted s (rxPresent p f lost bad s) := Noted.emit _ s

theorem mem_out_emit (o : Out) (s : State) : o ∈ (emit o s).out := List.mem_append_right _ List.mem_cons_self

section
variable (hrx : rallyRx p false s = true)
include hrx

theorem rallyFFrame_good (hparse : frameParse false b = .good f) : rallyFFrame p b s = rallyFGood p f s := by
  unfold rallyFFrame
  rw [hrx, if_neg (by decide), hparse]

theorem rallyFFrame_badCrc (hdst : isSet (RP_CTRL_RX_DST p) s = true) (hparse : frameParse false b = .badCrc f) :
    rallyFFrame p b s = rxPresent p f false true (incC (ctRP p 2) s) := by
  unfold rallyFFrame
  rw [hrx, if_neg (by decide), hparse]
  exact if_pos hdst

theorem rallyFFrame_broken (hdst : isSet (RP_CTRL_RX_DST p) s = true) (hparse : frameParse false b = .broken) :
    rallyFFrame p b s = incC (ctRP p 5) s := by
  have hcut : isSet (RP_CTRL_RX_DST p) (incC (ctRP p 5) s) = true := hdst
  unfold rallyFFrame
  rw [hrx, if_neg (by decide), hparse]
  exact if_pos (by rw [hcut, Bool.or_true])

end

/-- A data frame in sequence at a port that feeds its region is presented as it came (R315, R316). -/
theorem rallyFGood_inSequence {p : Nat} (hdst : isSet (RP_CTRL_RX_DST p) s = true) (hkind : f.kind = 0) (hadopt : (portOf p s).adopt = false)
    (hseq : f.seq = getF (RP_SEQ_RX_EXP p) s) :
    rallyFGood p f s = rxPresent p f false false (setF (RP_SEQ_RX_EXP p) (f.seq + 1) (incC (ctRP p 1) s)) := by
  have hdata : ¬ (f.kind = 1 ∧ portTiming p s = false) := by simp [hkind]
  have hknown : (portOf p (incC (ctRP p 1) s)).adopt = false := hadopt
  have hgap : (f.seq + 65536 - getF (RP_SEQ_RX_EXP p) (incC (ctRP p 1) s)) % 65536 = 0 := by
    rw [getF_incC, ← hseq, Nat.add_sub_cancel_left]
  have hdst' : isSet (RP_CTRL_RX_DST p) (setF (RP_SEQ_RX_EXP p) (f.seq + 1) (incC (ctRP p 1) s)) = true := by
    rw [isSet_congr (getF_setF_addr (by simp [RP_CTRL_RX_DST]) (by simp [RP_SEQ_RX_EXP]) ?_ _ _)]
    · exact hdst
    · simp only [RP_CTRL_RX_DST, RP_SEQ_RX_EXP]
      omega
  unfold rallyFGood
  rw [if_neg hdata]
  simp only [hknown, Bool.false_eq_true, if_false, hgap, if_true, hkind]
  rw [rxDeliver, if_pos hdst']
  rfl

theorem rallyFFrameReceive_delivers (hrx : rallyRx p false s = true) (hdst : isSet (RP_CTRL_RX_DST p) s = true)
    (hparse : frameParse false b = .good f) (hkind : f.kind = 0) (hadopt : (portOf p s).adopt = false)
    (hseq : f.seq = getF (RP_SEQ_RX_EXP p) s) : ∃ t, Runs (.rallyFFrameReceive p b) s t ∧
      Noted (setF (RP_SEQ_RX_EXP p) (f.seq + 1) (incC (ctRP p 1) s)) t ∧
      .fabric (p.val / 8) 4 (f.stampS + 65536 * f.stampT + 2 ^ 32 * framePad f.data.length)
        (natOfBool f.sop + 2 * natOfBool f.eop + 4 * natOfBool f.poison) f.data ∈ t.out := by
  have hgood := (rallyFFrame_good hrx hparse).trans (rallyFGood_inSequence hdst hkind hadopt hseq)
  exact ⟨_, congrArg fin hgood, (rxPresent_noted p f false false _).trans (Noted.whSettle _), mem_out_whSettle (mem_out_emit _ _)⟩

theorem rallyFFrameReceive_marks (hrx : rallyRx p false s = true) (hdst : isSet (RP_CTRL_RX_DST p) s = true)
    (hparse : frameParse false b = .badCrc f) : ∃ t, Runs (.rallyFFrameReceive p b) s t ∧ Noted (incC (ctRP p 2) s) t ∧
      .fabric (p.val / 8) 4 (f.stampS + 65536 * f.stampT + 2 ^ 32 * framePad f.data.length)
        (natOfBool f.sop + 2 * natOfBool f.eop + 4 * natOfBool f.poison + 16) f.data ∈ t.out :=
  ⟨_, congrArg fin (rallyFFrame_badCrc hrx hdst hparse), (rxPresent_noted p f false true _).trans (Noted.whSettle _),
    mem_out_whSettle (mem_out_emit _ _)⟩

theorem rallyFFrameReceive_broken (hrx : rallyRx p false s = true) (hdst : isSet (RP_CTRL_RX_DST p) s = true)
    (hparse : frameParse false b = .broken) : Does (.rallyFFrameReceive p b) s (incC (ctRP p 5) s) :=
  does_fin (congrArg fin (rallyFFrame_broken hrx hdst hparse)) (Noted.refl _)

/-! Frames that leave. -/

/-- The Rally-F frame of a payload that leaves port p now (R312, R314). -/
def frameNow (p : Nat) (data : List (BitVec 8)) (sop eop poison : Bool) (s : State) : Frame :=
  ⟨false, 0, sop, eop, poison, s.clk.slot, s.clk.turn % 65536, none, getF (RP_SEQ_TX_NEXT p) s, data⟩

theorem txSend_rallyF {p : Nat} (ha : isSet (RP_CTRL_RALLY_A p) s = false) (data : List (BitVec 8)) (sop eop poison timed bad : Bool) :
    txSend p data sop eop poison timed bad s = emit (.frame p (frameSeal bad (frameNow p data sop eop poison s)))
      (setF (RP_SEQ_TX_NEXT p) (getF (RP_SEQ_TX_NEXT p) s + 1) (incC (ctRP p 0) s)) := by
  simp only [txSend, ha, Bool.false_eq_true, false_and, if_false]
  rfl

/-- One block of a region makes a frame of its own: the bytes that are not padding (R315). -/
theorem txFabric_oneBlock {p : Nat} (hdev : s.dev.state ≠ .quiesce) (w : BitVec 64) (sop eop : Bool) (pad : Fin 8) :
    txFabric p ⟨[w], sop, eop, pad, false⟩ s = txSend p ((leBytes 8 w.toNat).take (8 - pad.val)) sop eop false false false s := by
  unfold txFabric
  rw [if_neg (by simp [hdev])]
  simp [whenS]

theorem rallyTxFrame_sends (hup : getF (RP_STATUS_STATE p) s = 4) (hsrc : isSet (RP_CTRL_TX_SRC p) s = true) (hdev : s.dev.state ≠ .quiesce)
    (ha : isSet (RP_CTRL_RALLY_A p) s = false) (w : BitVec 64) (sop eop : Bool) (pad : Fin 8) :
    ∃ t, Runs (.rallyTxFrame p ⟨[w], sop, eop, pad, false⟩) s t ∧
      Noted (setF (RP_SEQ_TX_NEXT p) (getF (RP_SEQ_TX_NEXT p) s + 1) (incC (ctRP p 0) s)) t ∧
      .frame p (frameSeal false ⟨false, 0, sop, eop, false, s.clk.slot, s.clk.turn % 65536, none, getF (RP_SEQ_TX_NEXT p) s,
        (leBytes 8 w.toNat).take (8 - pad.val)⟩) ∈ t.out := by
  have hsent := (txFabric_oneBlock (p := p) hdev w sop eop pad).trans (txSend_rallyF ha _ sop eop false false false)
  have hexec : exec (.rallyTxFrame p ⟨[w], sop, eop, pad, false⟩) s = fin (txFabric p ⟨[w], sop, eop, pad, false⟩ s) :=
    congrArg fin ((if_pos hup).trans (if_pos hsrc))
  exact ⟨_, hexec.trans (congrArg fin hsent), (Noted.emit _ _).trans (Noted.whSettle _), mem_out_whSettle (mem_out_emit _ _)⟩

theorem rallyTxFrame_notUp {x : FabTx} (h : getF (RP_STATUS_STATE p) s ≠ 4) : Does (.rallyTxFrame p x) s s :=
  does_fin (v := s) (congrArg fin (if_neg h)) (Noted.refl s)

end Sys2Proof.Machine
end

section
/-! Rally-A at a port (R318 to R320, R324): frames, acknowledgements, the replay timer and SYNC, clause by clause. -/

namespace Sys2Proof.Machine

variable {s : State} {p : Fin 128} {b : List (BitVec 8)} {f : Frame}

/-! Frames (R320). -/

/-- A good frame's ACK is the one that its bytes announce, and its SEQ has twelve bits. -/
theorem frameParse_good (h : frameParse true b = .good f) : f.ack = frameAck b ∧ f.seq < 4096 := by
  dsimp only [frameParse] at h
  obtain ⟨⟨-, -, -, -, -, -, -, -, -, hseq⟩, hcrc⟩ | ⟨-, hbroken⟩ := ite_eq_iff.1 h
  · obtain ⟨-, hgood⟩ | ⟨-, hbad⟩ := ite_eq_iff.1 hcrc
    · cases hgood
      exact ⟨rfl, hseq rfl⟩
    · cases hbad
  · cases hbroken

/-- A good frame without an ACK is taken on its own sequence (R320). -/
theorem rallyAFrame_good (hrx : rallyRx p true s = true) (hparse : frameParse true b = .good f) (hack : f.ack = none) (alone : Bool) :
    rallyAFrame p b alone s = rallyAGood p f alone s := by
  unfold rallyAFrame
  rw [hrx, if_neg (by decide), ← (frameParse_good hparse).1, hack, hparse]

/-- The ACK block that carries a sequence number (R312, R320). -/
def ackBlock (n : Nat) : List (BitVec 8) := blockSeal ([0xAC, 0] ++ leBytes 2 n ++ [0, 0])

/-- A port that expects the frame after `e` acknowledges `e`. -/
theorem raAckBytes_last {p e : Nat} {u : State} (he : e < 4096) (h : getF (RP_SEQ_RX_EXP p) u = (e + 1) % 4096) :
    raAckBytes p u = ackBlock e := by
  have hlast : (getF (RP_SEQ_RX_EXP p) u + 4095) % 4096 = e := by omega
  rw [raAckBytes, hlast]
  rfl

/-- A standalone acknowledgement leaves the registers, the counters and the Dugout as they are. -/
theorem raAckDue_alone (p : Nat) (u : State) : raAckDue p true u = raAckSend p u := by
  unfold raAckDue
  exact if_pos (.inl rfl)

/-- A frame that lies `n` behind the one that is expected. -/
theorem rallyAGood_behind {p n : Nat} (hkind : f.kind = 0) (hn : n = (getF (RP_SEQ_RX_EXP p) s % 4096 + 4096 - f.seq) % 4096) (h1 : 1 ≤ n) :
    rallyAGood p f true s = if n ≤ 256 then raAckSend p (incC (ctRP p 7) s) else incC (ctRP p 8) s := by
  have hne : f.seq ≠ getF (RP_SEQ_RX_EXP p) s % 4096 := fun he => by omega
  unfold rallyAGood
  simp only [hkind, Nat.zero_ne_one, if_false, hne, ← hn, h1, true_and, raAckDue_alone]

section
variable (hrx : rallyRx p true s = true) (hparse : frameParse true b = .good f) (hack : f.ack = none) (hkind : f.kind = 0)
include hrx hparse hack hkind

theorem rallyAFrameReceive_takes (hseq : f.seq = getF (RP_SEQ_RX_EXP p) s % 4096) (hfits : raFits p f s = true) :
    ∃ t, Runs (.rallyAFrameReceive p b true) s t ∧ getF (RP_SEQ_RX_EXP p) t = (f.seq + 1) % 4096 ∧
      getC (ctRP p 1) t = getC (ctRP p 1) (incC (ctRP p 1) s) ∧
      .frame p (blockSeal ([0xAC, 0] ++ leBytes 2 f.seq ++ [0, 0])) ∈ t.out := by
  have htaken : rallyAGood p f true s =
      raAckSend p (setF (RP_SEQ_RX_EXP p) ((f.seq + 1) % 4096) (rxPush p f (incC (ctRP p 1) s))) := by
    unfold rallyAGood
    simp only [hkind, Nat.zero_ne_one, if_false, hseq, if_true, hfits, raAckDue_alone]
  have hwork : QueueWork 1 (incC (ctRP p 1) s) (rxPush p f (incC (ctRP p 1) s)) := .rxPush (by decide) (by decide) (by decide) p f _
  have hexp (u : State) : getF (RP_SEQ_RX_EXP p) (setF (RP_SEQ_RX_EXP p) ((f.seq + 1) % 4096) u) = (f.seq + 1) % 4096 := by
    rw [getF_setF_same]
    exact Nat.mod_eq_of_lt (by simp only [RP_SEQ_RX_EXP]; omega)
  refine ⟨_, congrArg fin ((rallyAFrame_good hrx hparse hack true).trans htaken), ?_, ?_, mem_out_whSettle ?_⟩
  · rw [getF_whSettle]
    exact hexp _
  · rw [getC_whSettle]
    exact hwork.ctrs _ (ctRP_note p (by decide)) (ctRP_index p 1)
  · rw [raAckSend, raAckBytes_last (frameParse_good hparse).2 (hexp _)]
    exact mem_out_emit _ _

theorem rallyAFrameReceive_noRoom (hseq : f.seq = getF (RP_SEQ_RX_EXP p) s % 4096) (hfits : raFits p f s = false) :
    Does (.rallyAFrameReceive p b true) s (incC (ctRP p 10) s) := by
  have hleft : rallyAGood p f true s = incC (ctRP p 10) s := by
    unfold rallyAGood
    simp only [hkind, Nat.zero_ne_one, if_false, hseq, if_true, hfits, Bool.false_eq_true]
  exact does_fin (congrArg fin ((rallyAFrame_good hrx hparse hack true).trans hleft)) (Noted.refl _)

theorem rallyAFrameReceive_repeats {n : Nat} (hn : n = (getF (RP_SEQ_RX_EXP p) s % 4096 + 4096 - f.seq) % 4096) (h1 : 1 ≤ n) (h256 : n ≤ 256) :
    ∃ t, Runs (.rallyAFrameReceive p b true) s t ∧ t.dq = s.dq ∧ getF (RP_SEQ_RX_EXP p) t = getF (RP_SEQ_RX_EXP p) s ∧
      getC (ctRP p 7) t = getC (ctRP p 7) (incC (ctRP p 7) s) := by
  have hgood := (rallyAGood_behind hkind hn h1).trans (if_pos h256)
  refine ⟨_, congrArg fin ((rallyAFrame_good hrx hparse hack true).trans hgood), ?_, ?_, ?_⟩
  · rw [whSettle_dq]
    rfl
  · rw [getF_whSettle]
    rfl
  · rw [getC_whSettle]
    rfl

theorem rallyAFrameReceive_ahead {n : Nat} (hn : n = (getF (RP_SEQ_RX_EXP p) s % 4096 + 4096 - f.seq) % 4096) (h256 : 256 < n) :
    Does (.rallyAFrameReceive p b true) s (incC (ctRP p 8) s) := by
  have hgood := (rallyAGood_behind hkind hn (by omega)).trans (if_neg (by omega))
  exact does_fin (congrArg fin ((rallyAFrame_good hrx hparse hack true).trans hgood)) (Noted.refl _)

end

/-! Acknowledgements (R313, R318). -/

/-- Freeing frames before a SEQ (R318). -/
theorem portOf_raFree (p e : Nat) (s : State) : (portOf p (raFree p e s)).oldest = e ∧ (portOf p (raFree p e s)).expiries = 0 ∧
    ∀ x ∈ (portOf p (raFree p e s)).replay, x ∈ (portOf p s).replay := by
  unfold raFree
  dsimp only
  rw [portOf_congr (raTimer_rally _ _), portOf_portUpd_same]
  exact ⟨rfl, rfl, fun x hx => (List.mem_filter.1 hx).1⟩

section
variable {w : BitVec 64} (hrx : rallyRx p true s = true) (hkind : w.toNat % 256 = 0xAC)
include hrx hkind

theorem exec_ack : exec (.ack p w) s = fin (raAckBlock p (leBytes 8 w.toNat) s) := congrArg fin (if_pos (by simp [hrx, hkind]))

theorem ack_badCrc (hcrc : fieldAt (leBytes 8 w.toNat) 6 2 ≠ blockCrc (leBytes 8 w.toNat)) : Does (.ack p w) s (incC (ctRP p 9) s) :=
  does_fin ((exec_ack hrx hkind).trans (congrArg fin (if_neg hcrc))) (Noted.refl _)

theorem exec_ack_good (hcrc : fieldAt (leBytes 8 w.toNat) 6 2 = blockCrc (leBytes 8 w.toNat)) :
    exec (.ack p w) s = fin (raAck p (fieldAt (leBytes 8 w.toNat) 2 2 % 4096) s) :=
  (exec_ack hrx hkind).trans (congrArg fin (if_pos hcrc))

theorem ack_stale {a : Nat} (hcrc : fieldAt (leBytes 8 w.toNat) 6 2 = blockCrc (leBytes 8 w.toNat))
    (ha : a = fieldAt (leBytes 8 w.toNat) 2 2 % 4096) (hout : unacked p s ≤ (a + 4096 - (portOf p s).oldest) % 4096) : Does (.ack p w) s s := by
  subst ha
  exact does_fin (v := s) ((exec_ack_good hrx hkind hcrc).trans (congrArg fin (if_neg (Nat.not_lt.2 hout)))) (Noted.refl s)

theorem ack_frees {a : Nat} (hcrc : fieldAt (leBytes 8 w.toNat) 6 2 = blockCrc (leBytes 8 w.toNat))
    (ha : a = fieldAt (leBytes 8 w.toNat) 2 2 % 4096) (hin : (a + 4096 - (portOf p s).oldest) % 4096 < unacked p s) :
    ∃ t, Runs (.ack p w) s t ∧ (portOf p t).oldest = (a + 1) % 4096 ∧ (portOf p t).expiries = 0 ∧
      ∀ x ∈ (portOf p t).replay, x ∈ (portOf p s).replay := by
  subst ha
  refine ⟨_, (exec_ack_good hrx hkind hcrc).trans (congrArg fin (if_pos hin)), ?_⟩
  rw [portOf_whSettle]
  exact portOf_raFree p _ s

end

/-! The replay timer (R319). -/

section
variable (ht : timerOn (tmReplay p) s = true) (hup : getF (RP_STATUS_STATE p) s = 4)
include ht hup

/-- Port p after one more expiry of its replay timer in a row. -/
def expiryNoted (p : Nat) (s : State) : State :=
  portUpd p (fun x => { x with expiries := (portOf p s).expiries + 1 }) (expire (tmReplay p) s)

theorem exec_replayExpiry : exec (.rallyReplayTimerExpiry p) s =
    fin (if getF (RP_CFG_RA_RETRY p) s ≤ (portOf p s).expiries + 1 then portDown p 6 (expiryNoted p s) else raResend p (expiryNoted p s)) :=
  congrArg fin (if_pos (by simp [ht, hup]))

theorem rallyReplayTimerExpiry_resends (hretry : (portOf p s).expiries + 1 < getF (RP_CFG_RA_RETRY p) s) :
    ∃ t, Runs (.rallyReplayTimerExpiry p) s t ∧ (portOf p t).expiries = (portOf p s).expiries + 1 ∧ getF (RP_STATUS_STATE p) t = 4 ∧
      (portOf p t).replay = (portOf p s).replay ∧ ∀ x ∈ (portOf p s).replay, .frame p x.bytes ∈ t.out := by
  have hport : portOf p (expiryNoted p s) = { portOf p s with expiries := (portOf p s).expiries + 1 } := portOf_portUpd_same p.val _ _
  have hexec := (exec_replayExpiry ht hup).trans (congrArg fin (if_neg (Nat.not_le.2 hretry)))
  refine ⟨_, hexec, ?_, ?_, ?_, fun x hx => mem_out_whSettle (raResend_sent (by rw [hport]; exact hx))⟩
  · rw [portOf_whSettle, portOf_congr (raResend_rally _ _), hport]
  · rw [getF_whSettle, getF_congr (raResend_regs _ _)]
    exact hup
  · rw [portOf_whSettle, portOf_congr (raResend_rally _ _), hport]

theorem rallyReplayTimerExpiry_givesUp (hretry : getF (RP_CFG_RA_RETRY p) s ≤ (portOf p s).expiries + 1) :
    ∃ t, Runs (.rallyReplayTimerExpiry p) s t ∧ getF (RP_STATUS_STATE p) t ≠ 4 ∧ getF (RP_STATUS_CAUSE p) t = 6 ∧
      getF (RP_STATUS_DOWN_EV p) t = 1 := by
  have hdown := portDown_wentDown p 6 (expiryNoted p s)
  refine ⟨_, (exec_replayExpiry ht hup).trans (congrArg fin (if_pos hretry)), ?_⟩
  rw [getF_whSettle, getF_whSettle, getF_whSettle]
  exact ⟨hdown.left, hdown.cause, hdown.event⟩

end

/-! SYNC (R321, R324). -/

/-- The peer's RX_EXP moves the sender and not the port's STATE. -/
theorem syncSender_state {p : Nat} (e : Nat) (h : getF (RP_STATUS_STATE p) s ≠ 4) :
    getF (RP_STATUS_STATE p) (syncSender p e s) = getF (RP_STATUS_STATE p) s := by
  have hfree : (raFree p e s).regs = s.regs := raTimer_regs p _
  dsimp only [syncSender]
  split
  · rw [if_neg (by rw [getF_congr hfree]; exact h), getF_stopTimer, getF_congr hfree]
  · rw [(Noted.sbEvent _ _ _).regs _ (by simp [RP_STATUS_STATE]) (not_noteAddr_portReg p (off := 8) (by decide)),
      getF_setF_addr (by simp [RP_STATUS_STATE]) (by simp [RP_SEQ_TX_NEXT])]
    · rfl
    · simp only [RP_STATUS_STATE, RP_SEQ_TX_NEXT]
      omega

/-- A port in SYNC has seen its peer's SYNC and sent its own. -/
def synced (p : Nat) (seen : Bool) (s : State) : State :=
  let s := portUpd p (fun y => { y with synSeen := true, synGot := y.synGot || seen }) s
  portUpd p (fun y => { y with synSent := true }) (emit (.frame p (syncBytes p s)) s)

theorem portOf_synced (p : Nat) (seen : Bool) (s : State) :
    portOf p (synced p seen s) = { portOf p s with synSeen := true, synGot := (portOf p s).synGot || seen, synSent := true } := by
  have hemit (o : Out) (u : State) : portOf p (emit o u) = portOf p u := rfl
  simp [synced, hemit]

/-- A port that has answered in SYNC keeps what it has noted of the handshake as it follows its conditions. -/
theorem portFollow_synced {p : Nat} {u : State} (seen : Bool) (h : getF (RP_STATUS_STATE p) u = 3) :
    (portOf p (portFollow p (synced p seen u))).synSeen = true ∧ (portOf p (portFollow p (synced p seen u))).synSent = true ∧
      (seen = true → (portOf p (portFollow p (synced p seen u))).synGot = true) := by
  have hstate : getF (RP_STATUS_STATE p) (synced p seen u) = 3 := h
  have hlink := portFollow_link (p := p) (s := synced p seen u) (by rw [hstate]; decide)
  rw [portOf_synced] at hlink
  exact ⟨of_linkPart Port.synSeen (fun _ => rfl) hlink, of_linkPart Port.synSent (fun _ => rfl) hlink,
    fun hseen => (of_linkPart Port.synGot (fun _ => rfl) hlink).trans (by simp [hseen])⟩

theorem sync_completes {x : SyncIn} (hrx : rallyRx p true s = true) (hcrc : x.crcOk = true) (ha : x.rallyA = true)
    (hstate : getF (RP_STATUS_STATE p) s = 3) : ∃ t, Runs (.sync p x) s t ∧ (portOf p t).synSeen = true ∧ (portOf p t).synSent = true ∧
      (x.seen = true → (portOf p t).synGot = true) := by
  have hkept : getF (RP_STATUS_STATE p) (syncSender p (x.rxExp.toNat % 4096) s) = 3 :=
    (syncSender_state _ (by rw [hstate]; decide)).trans hstate
  have hsync : syncIn p x s = portFollow p (synced p x.seen (syncSender p (x.rxExp.toNat % 4096) s)) := by
    unfold syncIn
    rw [if_pos (by simp [hrx, hcrc, ha])]
    exact if_pos hkept
  refine ⟨_, congrArg fin hsync, ?_⟩
  rw [portOf_whSettle]
  exact portFollow_synced x.seen hkept

theorem sync_ignored {x : SyncIn} (h : x.crcOk = false ∨ x.rallyA = false) : Does (.sync p x) s s := by
  have hnot : (rallyRx p true s && x.crcOk && x.rallyA) = false := by
    obtain h | h := h
    · rw [h, Bool.and_false, Bool.false_and]
    · rw [h, Bool.and_false]
  exact does_fin (v := s) (congrArg fin (if_neg (by rw [hnot]; decide))) (Noted.refl s)

/-- Settles O44: frames and blocks at a Rally port, one by one. -/
theorem rallyFrames : Obligations.RallyFrames := by
  unfold Obligations.RallyFrames
  refine ⟨fun s p b => rallyFFrameReceive_notReceiving, fun s p b hrx hdst => ?_, fun s p b f hrx hparse hack hkind => ?_,
    fun s p w hrx hkind => ?_, fun s p ht hup => ?_, fun s p x => sync_completes, fun s p x => sync_ignored,
    fun s p w sop eop pad hup hsrc hdev ha => rallyTxFrame_sends hup hsrc hdev ha w sop eop pad, fun s p x => rallyTxFrame_notUp⟩
  · exact ⟨fun f => rallyFFrameReceive_delivers hrx hdst, fun f => rallyFFrameReceive_marks hrx hdst, rallyFFrameReceive_broken hrx hdst⟩
  · exact ⟨rallyAFrameReceive_takes hrx hparse hack hkind, rallyAFrameReceive_noRoom hrx hparse hack hkind, fun n hn =>
      ⟨rallyAFrameReceive_repeats hrx hparse hack hkind hn, rallyAFrameReceive_ahead hrx hparse hack hkind hn⟩⟩
  · exact ⟨ack_badCrc hrx hkind, fun hcrc a ha => ⟨ack_frees hrx hkind hcrc ha, ack_stale hrx hkind hcrc ha⟩⟩
  · exact ⟨rallyReplayTimerExpiry_resends ht hup, rallyReplayTimerExpiry_givesUp ht hup⟩

end Sys2Proof.Machine
end

section
/-! SUPPORT. A port's settings (R309): what the writes of RP_CTRL and RP_CFG store, and what switching a port on and off leaves of it. -/

namespace Sys2Proof.Machine

variable {s t : State} {p : Nat}

/-- The settings of a port that PORT_CONFIGURE's answer is judged by, as its two words give them. -/
structure PortHolds (p ctrl cfg : Nat) (s : State) : Prop where
  rallyA : getF (RP_CTRL_RALLY_A p) s = bitsOf ctrl 1 1
  lanes : getF (RP_CTRL_LANES p) s = bitsOf ctrl 2 2
  policy : getF (RP_CTRL_POLICY p) s = bitsOf ctrl 6 1
  holdMs : getF (RP_CTRL_HOLD_MS p) s = bitsOf ctrl 16 16
  rxQueue : getF (RP_CFG_RX_QUEUE p) s = bitsOf cfg 0 12

/-- What settings depend on: the fields of RP_CTRL beside EN, and RP_CFG. -/
theorem PortHolds.of_same {ctrl cfg : Nat} (h : PortHolds p ctrl cfg s)
    (hctrl : ∀ lo w rst, 0 < lo → lo < 32 → getF ⟨portReg p 0, lo, w, rst⟩ t = getF ⟨portReg p 0, lo, w, rst⟩ s)
    (hcfg : ∀ lo w rst, lo < 32 → getF ⟨portReg p 4, lo, w, rst⟩ t = getF ⟨portReg p 4, lo, w, rst⟩ s) : PortHolds p ctrl cfg t where
  rallyA := (hctrl 1 1 0 (by decide) (by decide)).trans h.rallyA
  lanes := (hctrl 2 2 0 (by decide) (by decide)).trans h.lanes
  policy := (hctrl 6 1 0 (by decide) (by decide)).trans h.policy
  holdMs := (hctrl 16 16 0xA (by decide) (by decide)).trans h.holdMs
  rxQueue := (hcfg 0 12 0 (by decide)).trans h.rxQueue

/-- The two words written read back, field by field. -/
theorem portHolds_fields (p ctrl cfg : Nat) (s : State) : PortHolds p ctrl cfg (rpCfgFields p cfg (rpCtrlFields p ctrl s)) := by
  constructor
  all_goals
    simp (disch := (simp only [fldKey, RP_CTRL_RALLY_A, RP_CTRL_LANES, RP_CTRL_TX_SRC, RP_CTRL_RX_DST, RP_CTRL_POLICY, RP_CTRL_RX_REQ,
      RP_CTRL_LAT_STRICT, RP_CTRL_HOLD_MS, RP_CFG_RX_QUEUE, RP_CFG_RA_TIMER, RP_CFG_RA_RETRY]; omega)) only
      [rpCfgFields, rpCtrlFields, getF_setF_other, getF_setF_same]
    exact Nat.mod_mod _ _

/-- EN is written by itself (R8). -/
theorem getF_en_fields (p ctrl cfg : Nat) (s : State) :
    getF (RP_CTRL_EN p) (rpCfgFields p cfg (rpCtrlFields p ctrl s)) = getF (RP_CTRL_EN p) s := by
  simp (disch := (simp only [fldKey, RP_CTRL_EN, RP_CTRL_RALLY_A, RP_CTRL_LANES, RP_CTRL_TX_SRC, RP_CTRL_RX_DST, RP_CTRL_POLICY,
    RP_CTRL_RX_REQ, RP_CTRL_LAT_STRICT, RP_CTRL_HOLD_MS, RP_CFG_RX_QUEUE, RP_CFG_RA_TIMER, RP_CFG_RA_RETRY]; omega)) only
    [rpCfgFields, rpCtrlFields, getF_setF_other]

/-- The fields of a write are written whatever its checks find. -/
theorem portWriteCheck_fields (p ctrl cfg : Nat) (s : State) :
    (portWriteCheck p ctrl cfg s).2 = rpCfgFields p cfg (rpCtrlFields p ctrl s) := by
  dsimp only [portWriteCheck]
  split
  · rfl
  · split <;> rfl

/-! Switching a port on and off (R321, R324). -/

/-- What a port that stops leaves before its own registers are cleared. -/
def portStopping (p : Nat) (s : State) : State :=
  rxCut p (if getF (RP_STATUS_STATE p) s = 4 then dqPortDown p (isSet (RP_CTRL_POLICY p) s) (portOf p s).taking s else s)

/-- The registers that a port clears as it stops. -/
def portCleared (p : Nat) (s : State) : State :=
  setF (RP_SEQ_RX_EXP p) 0 (setF (RP_STATUS_RX_UP p) 0 (setF (RP_STATUS_STATE p) 0 (setF (RP_CTRL_EN p) 0 s)))

/-- A port that starts with its own state as after a reset, its replay memory empty at TX_NEXT. -/
def portStarting (p : Nat) (s : State) : State :=
  setF (RP_CTRL_EN p) 1 (portSet p { portInit with oldest := getF (RP_SEQ_TX_NEXT p) s % 4096 } s)

theorem portEnable_same {en : Bool} (h : en = isSet (RP_CTRL_EN p) s) : portEnable p en s = s := if_pos h

theorem portEnable_starts (h : isSet (RP_CTRL_EN p) s = false) : portEnable p true s = portFollow p (portStarting p s) :=
  (if_neg (by rw [h]; decide)).trans (if_pos rfl)

theorem portEnable_stops (h : isSet (RP_CTRL_EN p) s = true) : portEnable p false s =
    portCleared p (stopTimer (tmReplay p) (stopTimer (tmHold p) (portSet p portInit (portStopping p s)))) :=
  (if_neg (by rw [h]; decide)).trans (if_neg (by decide))

theorem portStopping_work (p : Nat) (s : State) : QueueWork 1 s (portStopping p s) := by
  refine .trans ?_ (.rxCut (by decide) (by decide) (by decide) p _)
  split
  · exact .portDown (by decide) p _ _ s
  · exact .refl s

/-- Stopping clears no setting but EN. -/
theorem getF_portCleared {f : Fld} {off : Nat} (hl : f.lo < 32) (ha : f.addr = portReg p off) (ho : off ∈ [0, 4])
    (hk : fldKey f ≠ fldKey (RP_CTRL_EN p)) (s : State) : getF f (portCleared p s) = getF f s := by
  simp only [List.mem_cons, List.not_mem_nil, or_false] at ho
  have hother {g : Fld} {x : Nat} (hg : g.addr = portReg p x) (hx : x = 8 ∨ x = 0x10) (hgl : g.lo < 32) (u : State) :
      getF f (setF g 0 u) = getF f u :=
    getF_setF_addr hl hgl (by rw [ha, hg]; simp only [portReg]; omega) 0 u
  rw [portCleared, hother (x := 0x10) rfl (.inr rfl) (by simp [RP_SEQ_RX_EXP]), hother (x := 8) rfl (.inl rfl) (by simp [RP_STATUS_RX_UP]),
    hother (x := 8) rfl (.inl rfl) (by simp [RP_STATUS_STATE]), getF_setF_other _ _ hk]

/-- Every setting but EN stays when a port is switched on or off. -/
theorem getF_portEnable {f : Fld} {off : Nat} (hl : f.lo < 32) (ha : f.addr = portReg p off) (ho : off ∈ [0, 4])
    (hk : fldKey f ≠ fldKey (RP_CTRL_EN p)) (en : Bool) (s : State) : getF f (portEnable p en s) = getF f s := by
  have hmoves : off ∈ [0, 4, 0xC, 0x10] ∧ off ≤ 0x10 := by
    simp only [List.mem_cons, List.not_mem_nil, or_false] at ho ⊢
    omega
  by_cases hsame : en = isSet (RP_CTRL_EN p) s
  · rw [portEnable_same hsame]
  · cases en with
    | true =>
      rw [portEnable_starts (by simpa using hsame), (portFollow_regs p _).port hl ha hmoves.1, portStarting, getF_setF_other _ _ hk]
      rfl
    | false =>
      rw [portEnable_stops (by simpa using hsame), getF_portCleared hl ha ho hk, getF_stopTimer, getF_stopTimer]
      exact (portStopping_work p s).port hl ha hmoves.2

/-- EN is what it was switched to. -/
theorem getF_en_portEnable (h : getF (RP_CTRL_EN p) s ≤ 1) (en : Bool) : getF (RP_CTRL_EN p) (portEnable p en s) = natOfBool en := by
  by_cases hsame : en = isSet (RP_CTRL_EN p) s
  · rw [portEnable_same hsame, hsame, isSet, natOfBool]
    by_cases hset : getF (RP_CTRL_EN p) s = 1
    · simp [hset]
    · simp only [hset, decide_false, Bool.false_eq_true, if_false]
      omega
  · cases en with
    | true =>
      rw [portEnable_starts (by simpa using hsame), (portFollow_regs p _).port (by simp [RP_CTRL_EN]) rfl (off := 0), portStarting,
        getF_setF_same]
      rfl
    | false =>
      rw [portEnable_stops (by simpa using hsame), portCleared,
        getF_setF_addr (by simp [RP_CTRL_EN]) (by simp [RP_SEQ_RX_EXP]) (by simp only [RP_CTRL_EN, RP_SEQ_RX_EXP]; omega),
        getF_setF_addr (by simp [RP_CTRL_EN]) (by simp [RP_STATUS_RX_UP]) (by simp only [RP_CTRL_EN, RP_STATUS_RX_UP]; omega),
        getF_setF_addr (by simp [RP_CTRL_EN]) (by simp [RP_STATUS_STATE]) (by simp only [RP_CTRL_EN, RP_STATUS_STATE]; omega), getF_setF_same]
      rfl

theorem PortHolds.enable {ctrl cfg : Nat} (h : PortHolds p ctrl cfg s) (en : Bool) : PortHolds p ctrl cfg (portEnable p en s) := by
  refine h.of_same (fun lo w rst h0 hl => getF_portEnable hl rfl (by decide) ?_ en s)
    (fun lo w rst hl => getF_portEnable hl rfl (by decide) ?_ en s)
  all_goals
    simp only [fldKey, RP_CTRL_EN, portReg]
    omega

theorem PortHolds.stay {ctrl cfg : Nat} (h : PortHolds p ctrl cfg s) (k : RegsStay s t) : PortHolds p ctrl cfg t :=
  h.of_same (fun _ _ _ _ hl => k.port hl rfl) (fun _ _ _ hl => k.port hl rfl)

/-- No answer writes a register of a port. -/
theorem Sealed.port {m off : Nat} (h : Sealed m s t) (hp : p < 128) {f : Fld} (hl : f.lo < 32) (ha : f.addr = portReg p off)
    (ho : off ≤ 0x10 := by decide) : getF f t = getF f s :=
  h.regsBelow hl (by rw [ha]; simp only [portReg]; omega)

theorem PortHolds.sealed {ctrl cfg m : Nat} (h : PortHolds p ctrl cfg s) (hp : p < 128) (k : Sealed m s t) : PortHolds p ctrl cfg t :=
  h.of_same (fun _ _ _ _ hl => k.port hp hl rfl) (fun _ _ _ hl => k.port hp hl rfl)

theorem Sealed.rally {m : Nat} (h : Sealed m s t) : t.rally = s.rally := by
  obtain ⟨_, _, _, _, _, rfl⟩ := h.rest
  rfl

end Sys2Proof.Machine
end

section
/-! The commands of the Rally ports (R309, R323), command by command. -/

namespace Sys2Proof.Machine

variable {s : State} {mb : Fin 14} {r : Req} {p : Nat}

/-! PORT_CONFIGURE. -/

theorem portConfigure_port (h : Asks sheetPortConfigure mb r s) : arg r 0 1 < 128 := by
  have hargs := h.args
  dsimp only [sheetPortConfigure, plainSheet] at hargs
  have hargs := (argsLen_none hargs).2
  simp only [Bool.and_eq_true, decide_eq_true_eq] at hargs
  exact hargs.1.1

/-- PORT_CONFIGURE stores its two words, and switches the port on or off. -/
theorem portConfigure_configures (h : Asks sheetPortConfigure mb r s) (hen : getF (RP_CTRL_EN (arg r 0 1)) s ≤ 1) :
    ∃ t, Runs (.portConfigure mb) s t ∧ Answered r stOk [] false t ∧ getF (RP_CTRL_EN (arg r 0 1)) t = bitsOf (arg r 4 4) 0 1 ∧
      PortHolds (arg r 0 1) (arg r 4 4) (arg r 8 4) t := by
  have hp := portConfigure_port h
  obtain ⟨t, hruns, hans, hsealed⟩ := runs_answered (i := .portConfigure mb) rfl h rfl
  rw [portWriteCheck_fields] at hsealed
  refine ⟨t, hruns, hans, ?_, (((portHolds_fields _ _ _ _).enable _).stay (portFollow_regs _ _)).sealed hp hsealed⟩
  rw [hsealed.port hp (by simp [RP_CTRL_EN]) rfl (off := 0), (portFollow_regs _ _).port (by simp [RP_CTRL_EN]) rfl (off := 0),
    getF_en_portEnable (by rw [getF_en_fields, getF_seqPop]; exact hen), natOfBool_bitOf]

/-! PORT_STATUS. -/

@[simp] theorem rpStatusWord_seqPop (p : Nat) (s : State) : rpStatusWord p (seqPop s) = rpStatusWord p s := by
  simp [rpStatusWord, unacked, portOf_congr (seqPop_rally s)]

/-- The answer of PORT_STATUS: the port's three words and its fourteen counters. -/
def portStatusBytes (p : Nat) (s : State) : List (BitVec 8) :=
  leBytes 4 (rpStatusWord p s) ++
    leBytes 4 (getF (RP_LAT_PORT_LAT p) s + 2 ^ 16 * getF (RP_LAT_DESKEW p) s) ++
    leBytes 4 (getF (RP_SEQ_TX_NEXT p) s + 2 ^ 16 * getF (RP_SEQ_RX_EXP p) s) ++
    ((natsFrom 0 14).map (fun i => ctrBytes (ctRP p i) s)).flatten

theorem portStatusBytes_seqPop (p : Nat) (s : State) : portStatusBytes p (seqPop s) = portStatusBytes p s := by
  simp [portStatusBytes, ctrBytes]

theorem portStatusBytes_length (p : Nat) (s : State) : (portStatusBytes p s).length = 96 := by
  rw [portStatusBytes, List.length_append, length_pieces fun i => ctrBytes_length (ctRP p i) s]
  simp

theorem portStatusBytes_status (p : Nat) (s : State) : fieldAt (portStatusBytes p s) 0 4 = rpStatusWord p s % 2 ^ 32 := by
  simp [portStatusBytes, List.append_assoc, fieldAt_first]

/-- A counter of six bytes among others that follow a head. -/
theorem fieldAt_counter {n i : Nat} (key : Nat → Nat) (head : List (BitVec 8)) (s : State) (hi : i < n) :
    fieldAt (head ++ ((natsFrom 0 n).map (fun i => ctrBytes (key i) s)).flatten) (head.length + 6 * i) 6 = (getC (key i) s).val % 2 ^ 48 := by
  rw [fieldAt_right _ _ _ _ (by omega), fieldAt, Nat.add_sub_cancel_left, take_drop_pieces (fun i => ctrBytes_length (key i) s) hi,
    Nat.zero_add, ctrBytes, leNat_leBytes]
  rfl

theorem portStatusBytes_counter (p : Nat) (s : State) {i : Nat} (hi : i < 14) :
    fieldAt (portStatusBytes p s) (12 + 6 * i) 6 = (getC (ctRP p i) s).val % 2 ^ 48 := fieldAt_counter (ctRP p) _ s hi

theorem portStatus_answers (h : Asks sheetPortStatus mb r s) :
    Oks (.portStatus mb) mb r (portStatusBytes (arg r 0 1) s) s (seqPop s) :=
  oks_fin rfl h rfl (Noted.refl _) (portStatusBytes_seqPop _ s)

/-! PORT_CONTROL. -/

theorem portControl_port (h : Asks sheetPortControl mb r s) : arg r 0 1 < 128 := by
  have hargs := h.args
  dsimp only [sheetPortControl, plainSheet] at hargs
  have hargs := (argsLen_none hargs).2
  simp only [Bool.and_eq_true, decide_eq_true_eq] at hargs
  exact hargs.1

/-- What PORT_CONTROL leaves before its answer, `u`, it leaves with its answer, which is the port's STATE. -/
theorem portControl_leaves {u : State} (h : Asks sheetPortControl mb r s)
    (hrun : sheetPortControl.run r (seqPop s) = (replyOk (leBytes 1 (getF (RP_STATUS_STATE (arg r 0 1)) u)), u)) :
    ∃ t, Runs (.portControl mb) s t ∧ Answered r stOk (leBytes 1 (getF (RP_STATUS_STATE (arg r 0 1)) u)) false t ∧
      portOf (arg r 0 1) t = portOf (arg r 0 1) u ∧ getF (RP_STATUS_STATE (arg r 0 1)) t = getF (RP_STATUS_STATE (arg r 0 1)) u := by
  obtain ⟨t, hruns, hans, hsealed⟩ := runs_answered (i := .portControl mb) rfl h hrun
  exact ⟨t, hruns, hans, portOf_congr hsealed.rally _,
    hsealed.port (portControl_port h) (by simp [RP_STATUS_STATE]) rfl (off := 8)⟩

/-- A port's command to stay down, as it follows it. -/
def portCommanded (p : Nat) (down : Bool) (s : State) : State := portFollow p (portUpd p (fun x => { x with cmdDown := down }) s)

theorem portCommanded_port (p : Nat) (down : Bool) (s : State) : (portOf p (portCommanded p down s)).cmdDown = down := by
  have hlasting := portFollow_lasting p (portUpd p (fun x => { x with cmdDown := down }) s)
  rw [portOf_portUpd_same] at hlasting
  exact congrArg (fun x => x.1) hlasting

theorem portCommanded_down (p : Nat) (s : State) : getF (RP_STATUS_STATE p) (portCommanded p true s) ≠ 4 :=
  portFollow_commanded (by rw [portOf_portUpd_same])

theorem portControl_holdsDown (h : Asks sheetPortControl mb r s) (ha : arg r 1 1 = 0) : ∃ t n, Runs (.portControl mb) s t ∧
    Answered r stOk (leBytes 1 n) false t ∧ (portOf (arg r 0 1) t).cmdDown = true ∧ getF (RP_STATUS_STATE (arg r 0 1)) t = n ∧ n ≠ 4 := by
  obtain ⟨t, hruns, hans, hport, hstate⟩ := portControl_leaves (u := portCommanded (arg r 0 1) true (seqPop s)) h (by
    simp only [sheetPortControl, plainSheet, ha]
    rfl)
  exact ⟨t, _, hruns, hans, by rw [hport, portCommanded_port], hstate, portCommanded_down _ _⟩

theorem portControl_letsUp (h : Asks sheetPortControl mb r s) (ha : arg r 1 1 = 1) : ∃ t n, Runs (.portControl mb) s t ∧
    Answered r stOk (leBytes 1 n) false t ∧ (portOf (arg r 0 1) t).cmdDown = false ∧ getF (RP_STATUS_STATE (arg r 0 1)) t = n := by
  obtain ⟨t, hruns, hans, hport, hstate⟩ := portControl_leaves (u := portCommanded (arg r 0 1) false (seqPop s)) h (by
    simp only [sheetPortControl, plainSheet, ha]
    rfl)
  exact ⟨t, _, hruns, hans, by rw [hport, portCommanded_port], hstate⟩

theorem portControl_endsHold (h : Asks sheetPortControl mb r s) (ha : arg r 1 1 = 3) : ∃ t, Runs (.portControl mb) s t ∧
    (portOf (arg r 0 1) t).holding = false := by
  obtain ⟨t, hruns, -, hport, -⟩ := portControl_leaves (u := portHoldEnd (arg r 0 1) (seqPop s)) h (by
    simp only [sheetPortControl, plainSheet, ha])
  exact ⟨t, hruns, by rw [hport, portHoldEnd_holding]⟩

/-- Settles O43: the ports' commands, one by one. -/
theorem portCommands : Obligations.PortCommands := by
  unfold Obligations.PortCommands
  refine ⟨fun s mb r h hen => ?_, fun s mb r h => ?_, fun s mb r h => ?_⟩
  · obtain ⟨t, hruns, hans, hset, hholds⟩ := portConfigure_configures h hen
    exact ⟨t, hruns, hans, hset, hholds.rallyA, hholds.lanes, hholds.policy, hholds.holdMs, hholds.rxQueue⟩
  · exact ⟨portStatusBytes (arg r 0 1) s, portStatus_answers h, portStatusBytes_length _ s, portStatusBytes_status _ s,
      fun i hi => portStatusBytes_counter _ s hi⟩
  · exact ⟨portControl_holdsDown h, portControl_letsUp h, portControl_endsHold h⟩

end Sys2Proof.Machine
end

section
/-! SUPPORT. A lane that no enabled port uses (R303): which writes leave it so, and what its lock state's changes come to. -/

namespace Sys2Proof.Machine

variable {s t : State} {L : Nat}

/-! The ports of a lane are read from RP_CTRL alone. -/

theorem portsOfLane_congr (he : enabledPorts t = enabledPorts s) (hl : ∀ p, getF (RP_CTRL_LANES p) t = getF (RP_CTRL_LANES p) s) :
    portsOfLane L t = portsOfLane L s := by
  simp only [portsOfLane, portLanes, portWidth, he, hl]

theorem rpKeyPort_laneReg {f : Fld} {M off : Nat} (ha : f.addr = laneReg M off) (ho : off < 0x90) (hl : f.lo < 32) :
    rpKeyPort (fldKey f) = none := by
  have haddr : fldKey f / 32 = f.addr := by
    simp only [fldKey]
    omega
  unfold rpKeyPort
  rw [haddr, if_neg]
  rw [ha, laneReg]
  omega

/-- Writing a lane's register enables no port, and changes no port's lanes. -/
theorem portsOfLane_setF {f : Fld} {M off : Nat} (ha : f.addr = laneReg M off) (ho : off < 0x90) (hl : f.lo < 32) (v : Nat) (s : State) :
    portsOfLane L (setF f v s) = portsOfLane L s := by
  refine portsOfLane_congr (filterMap_tabSet (fun v => ?_) _ _ _) fun p => getF_setF_addr (by simp [RP_CTRL_LANES]) hl ?_ v s
  · simp [rpKeyPort_laneReg ha ho hl]
  · rw [ha, laneReg]
    simp only [RP_CTRL_LANES]
    omega

theorem portsOfLane_sbEvent (code : Nat) (vs : List (Nat × Nat)) (s : State) : portsOfLane L (sbEvent code vs s) = portsOfLane L s :=
  portsOfLane_congr (enabledPorts_sbEvent code vs s) fun p =>
    (Noted.sbEvent code vs s).regs _ (by simp [RP_CTRL_LANES]) (not_noteAddr_portReg p (off := 0) (by decide))

theorem portsOfLane_oncePerSecond (key code : Nat) (vs : List (Nat × Nat)) (s : State) :
    portsOfLane L (oncePerSecond key (sbEvent code vs) s) = portsOfLane L s := by
  unfold oncePerSecond atMostOnce
  split
  · exact portsOfLane_sbEvent code vs (rateMark key s)
  · rfl

/-- An event that is written at most once a second leaves a lane's registers alone. -/
theorem getF_oncePerSecond {f : Fld} {off : Nat} (hl : f.lo < 32) (ha : f.addr = laneReg L off) (ho : off < 0x90) (key code : Nat)
    (vs : List (Nat × Nat)) (s : State) : getF f (oncePerSecond key (sbEvent code vs) s) = getF f s := by
  unfold oncePerSecond atMostOnce
  split
  · exact (Noted.sbEvent code vs (rateMark key s)).regs f hl (ha ▸ not_noteAddr_laneReg L ho)
  · rfl

/-! With no port, nothing follows and no deskew is lost. -/

theorem laneFollow_noPorts (h : portsOfLane L s = []) : laneFollow L s = s := by rw [laneFollow, h, forEach]

theorem deskewDrop_noPorts (h : portsOfLane L s = []) : deskewDrop L s = s := by rw [deskewDrop, h, forEach]

/-- A lane has left LOCKED (R303, R304): counted, flagged, its slips forgotten, event 0x0601. -/
def lockLeft (L : Nat) (s : State) : State :=
  oncePerSecond (0x06010000 + L) (sbEvent 0x0601 [(2, L)]) (setF (LANE_SLIP_SLIP_POS L) 0 (setF (LANE_STATUS_LOCK_LOST L) 1 (incC (ctLane L 1) s)))

theorem portsOfLane_lockLeft (L : Nat) (s : State) : portsOfLane L (lockLeft L s) = portsOfLane L s := by
  rw [lockLeft, portsOfLane_oncePerSecond,
    portsOfLane_setF (M := L) (off := 0x30) rfl (by decide) (by simp [LANE_SLIP_SLIP_POS]),
    portsOfLane_setF (M := L) (off := 0x20) rfl (by decide) (by simp [LANE_STATUS_LOCK_LOST])]
  rfl

theorem portsOfLane_lockState (L v : Nat) (s : State) : portsOfLane L (setF (LANE_STATUS_LOCK_STATE L) v s) = portsOfLane L s :=
  portsOfLane_setF (M := L) (off := 0x20) rfl (by decide) (by simp [LANE_STATUS_LOCK_STATE]) v s

/-- A lane that is not LOCKED, or that enters LOCKED, changes its state and no more. -/
theorem laneTo_stays {st : Nat} (hports : portsOfLane L s = []) (h : laneLocked L s = false ∨ st = 3) :
    laneTo L st s = setF (LANE_STATUS_LOCK_STATE L) st s := by
  have hnot : ¬ (laneLocked L s = true ∧ st ≠ 3) := by
    rintro ⟨hlocked, hst⟩
    obtain h | h := h
    · rw [hlocked] at h
      cases h
    · exact hst h
  unfold laneTo
  rw [if_neg hnot]
  exact laneFollow_noPorts ((portsOfLane_lockState L st s).trans hports)

/-- A lane that leaves LOCKED counts it and forgets its slips. -/
theorem laneTo_leaves {st : Nat} (hports : portsOfLane L s = []) (h : laneLocked L s = true) (hst : st ≠ 3) :
    laneTo L st s = setF (LANE_STATUS_LOCK_STATE L) st (lockLeft L s) := by
  have hleft : portsOfLane L (lockLeft L s) = [] := (portsOfLane_lockLeft L s).trans hports
  have hdrop : deskewDrop L (lockLeft L s) = lockLeft L s := deskewDrop_noPorts hleft
  have hto : laneTo L st s = laneFollow L (setF (LANE_STATUS_LOCK_STATE L) st (deskewDrop L (lockLeft L s))) := by
    unfold laneTo
    rw [if_pos ⟨h, hst⟩]
    rfl
  rw [hto, hdrop]
  exact laneFollow_noPorts ((portsOfLane_lockState L st _).trans hleft)

/-- A field of LANE_STATUS that a change of the lock state does not concern. -/
theorem getF_laneTo {f : Fld} {st : Nat} (hports : portsOfLane L s = []) (ha : f.addr = laneReg L 0x20) (hl : f.lo < 32)
    (hstate : fldKey f ≠ fldKey (LANE_STATUS_LOCK_STATE L)) (hlost : fldKey f ≠ fldKey (LANE_STATUS_LOCK_LOST L)) :
    getF f (laneTo L st s) = getF f s := by
  have hslip (u : State) : getF f (setF (LANE_SLIP_SLIP_POS L) 0 u) = getF f u :=
    getF_setF_addr hl (by simp [LANE_SLIP_SLIP_POS]) (by rw [ha]; simp only [laneReg, LANE_SLIP_SLIP_POS]; omega) 0 u
  by_cases h : laneLocked L s = true ∧ st ≠ 3
  · rw [laneTo_leaves hports h.1 h.2, getF_setF_other _ _ hstate, lockLeft, getF_oncePerSecond hl ha (by decide), hslip,
      getF_setF_other _ _ hlost, getF_incC]
  · rw [laneTo_stays hports (by simpa only [not_and_or, not_not, Bool.not_eq_true] using h), getF_setF_other _ _ hstate]

theorem getF_state_laneTo {st : Nat} (hports : portsOfLane L s = []) (hst : st < 4) :
    getF (LANE_STATUS_LOCK_STATE L) (laneTo L st s) = st := by
  by_cases h : laneLocked L s = true ∧ st ≠ 3
  · rw [laneTo_leaves hports h.1 h.2, getF_setF_same]
    exact Nat.mod_eq_of_lt hst
  · rw [laneTo_stays hports (by simpa only [not_and_or, not_not, Bool.not_eq_true] using h), getF_setF_same]
    exact Nat.mod_eq_of_lt hst

end Sys2Proof.Machine
end

section
/-! Lanes that no enabled port uses (R303 to R307, R329), clause by clause. -/

namespace Sys2Proof.Machine

variable {s : State} {L : Fin 128}

/-! Slips (R304, R305). -/

theorem rawWidth_pos_le (code : Nat) : 0 < rawWidth code ∧ rawWidth code ≤ 64 := by
  match code with
  | 0 | 1 | 2 | 3 | 4 => decide
  | _ + 5 => exact (by decide : 0 < 16 ∧ 16 ≤ 64)

theorem laneW_pos (L : Nat) (s : State) : 0 < laneW L s := (rawWidth_pos_le _).1

theorem laneW_le (L : Nat) (s : State) : laneW L s ≤ 64 := (rawWidth_pos_le _).2

/-- A lane's boundary one slip further. -/
def slipped (L : Nat) (s : State) : State := setF (LANE_SLIP_SLIP_POS L) ((getF (LANE_SLIP_SLIP_POS L) s + 1) % laneW L s) s

theorem getF_slipped {L : Nat} (s : State) : getF (LANE_SLIP_SLIP_POS L) (slipped L s) = (getF (LANE_SLIP_SLIP_POS L) s + 1) % laneW L s := by
  have hlt : (getF (LANE_SLIP_SLIP_POS L) s + 1) % laneW L s < 2 ^ 7 :=
    (Nat.mod_lt _ (laneW_pos L s)).trans_le ((laneW_le L s).trans (by decide))
  rw [slipped, getF_setF_same]
  exact Nat.mod_eq_of_lt hlt

/-- A slip moves SLIP_POS and no other register of the lane. -/
theorem getF_slipped_other {f : Fld} {L : Nat} (hl : f.lo < 32) (ha : f.addr ≠ (LANE_SLIP_SLIP_POS L).addr) (s : State) :
    getF f (slipped L s) = getF f s := getF_setF_addr hl (by simp [LANE_SLIP_SLIP_POS]) ha _ s

theorem laneLocked_slipped (L : Nat) (s : State) : laneLocked L (slipped L s) = laneLocked L s := by
  rw [laneLocked, getF_slipped_other (by simp [LANE_STATUS_LOCK_STATE]) (by simp only [LANE_STATUS_LOCK_STATE, LANE_SLIP_SLIP_POS]; omega),
    laneLocked]

theorem laneRaw_slipped (L : Nat) (s : State) : laneRaw L (slipped L s) = laneRaw L s := by
  rw [laneRaw, getF_slipped_other (by simp [LANE_CTRL_MODE]) (by simp only [LANE_CTRL_MODE, LANE_SLIP_SLIP_POS]; omega), laneRaw]

theorem laneW_slipped (L : Nat) (s : State) : laneW L (slipped L s) = laneW L s := by
  rw [laneW, getF_slipped_other (by simp [LANE_CTRL_WIDTH]) (by simp only [LANE_CTRL_WIDTH, LANE_SLIP_SLIP_POS]; omega), laneW]

theorem laneSlip_raw {L : Nat} (h : laneRaw L s = true) : laneSlip L s =
    if laneLocked L s then setF (LANE_LAT_RX_LAT L) (rxLat L (slipped L s)) (slipped L s) else slipped L s := by
  rw [← laneLocked_slipped]
  exact if_pos h

theorem laneSlip_moves (hraw : laneRaw L s = true) (hlocked : laneLocked L s = false) :
    Does (.laneSlip L) s (setF (LANE_SLIP_SLIP_POS L) ((getF (LANE_SLIP_SLIP_POS L) s + 1) % laneW L s) s) :=
  does_fin (congrArg fin ((laneSlip_raw hraw).trans (if_neg (by rw [hlocked]; decide)))) (Noted.refl _)

theorem laneSlip_movesLocked (hraw : laneRaw L s = true) (hlocked : laneLocked L s = true) : ∃ t, Runs (.laneSlip L) s t ∧
    getF (LANE_SLIP_SLIP_POS L) t = (getF (LANE_SLIP_SLIP_POS L) s + 1) % laneW L s ∧
    getF (LANE_LAT_RX_LAT L) t = 6 * laneW L s + 32 + getF (LANE_SLIP_SLIP_POS L) t := by
  have hpos (v : Nat) : getF (LANE_SLIP_SLIP_POS L) (setF (LANE_LAT_RX_LAT L) v (slipped L s)) =
      (getF (LANE_SLIP_SLIP_POS L) s + 1) % laneW L s := by
    rw [getF_setF_addr (by simp [LANE_SLIP_SLIP_POS]) (by simp [LANE_LAT_RX_LAT])
      (by simp only [LANE_SLIP_SLIP_POS, LANE_LAT_RX_LAT]; omega), getF_slipped]
  have hlat : rxLat L (slipped L s) = 6 * laneW L s + 32 + (getF (LANE_SLIP_SLIP_POS L) s + 1) % laneW L s := by
    rw [rxLat, if_pos (by rw [laneRaw_slipped]; exact hraw), laneW_slipped, getF_slipped]
  have hlt := Nat.mod_lt (getF (LANE_SLIP_SLIP_POS L) s + 1) (laneW_pos L s)
  have hle := laneW_le L s
  refine ⟨_, congrArg fin ((laneSlip_raw hraw).trans (if_pos hlocked)), ?_⟩
  rw [getF_whSettle, getF_whSettle, hpos, getF_setF_same, hlat]
  exact ⟨rfl, Nat.mod_eq_of_lt (by simp only [LANE_LAT_RX_LAT]; omega)⟩

theorem laneSlip_notRaw (h : laneRaw L s = false) : Does (.laneSlip L) s s :=
  does_fin (v := s) (congrArg fin (if_neg (by simp [h]))) (Noted.refl s)

/-! REARM (R307) and eye scans (R329). -/

/-- The lane's latency reference is forgotten. -/
def rearmed (L : Nat) (s : State) : State := { s with rally := { s.rally with latSet := s.rally.latSet.filter (· ≠ L) } }

theorem rearm_forgets (hports : portsOfLane L s = []) : Does (.rearm L) s (rearmed L s) := by
  have hnone : portsOfLane L (rearmed L s) = [] := hports
  have hrearm : laneRearm L s = rearmed L s := by
    have hunfold : laneRearm L s = laneFollow L (forEach (fun p s => portUpd p (fun x => { x with
        latBad := false, deskewRef := if p = L.val then none else x.deskewRef }) s) (portsOfLane L (rearmed L s)) (rearmed L s)) := rfl
    rw [hunfold, hnone, forEach]
    exact laneFollow_noPorts hnone
  exact does_fin (congrArg fin hrearm) (Noted.refl _)

theorem eyeScanStart_starts (h : laneLocked L s = true) : Does (.eyeScanStart L) s (setF (LANE_ES_RESULT_ERRORS L) 0
    (setF (LANE_ES_RESULT_DONE L) 0 { s with rally := { s.rally with eye := L.val :: s.rally.eye.filter (· ≠ L.val) } })) :=
  does_fin (congrArg fin (if_pos h)) (Noted.refl _)

theorem eyeScanStart_refused (h : laneLocked L s = false) : Does (.eyeScanStart L) s (setF (LANE_STATUS_CFG_REJECT L) 1 s) :=
  does_fin (congrArg fin (if_neg (by simp [h]))) (Noted.sbEvent 0x060A [] _)

theorem eyeScanPointDone_ends {e : BitVec 36} (h : s.rally.eye.contains L.val = true) : Does (.eyeScanPointDone L e) s
    (setF (LANE_ES_RESULT_DONE L) 1 (setF (LANE_ES_RESULT_ERRORS L) (min e.toNat 0xFFFF)
      { s with rally := { s.rally with eye := s.rally.eye.filter (· ≠ L.val) } })) :=
  does_fin (congrArg fin (if_pos h)) (Noted.refl _)

theorem eyeScanPointDone_idle {e : BitVec 36} (h : s.rally.eye.contains L.val = false) : Does (.eyeScanPointDone L e) s s :=
  does_fin (v := s) (congrArg fin (if_neg (by rw [h]; decide))) (Noted.refl s)

/-! Lock (R303, R305 to R307). -/

theorem laneLocked_of_state {n : Nat} (h : getF (LANE_STATUS_LOCK_STATE L) s = n) (hn : n ≠ 3) : laneLocked L s = false :=
  decide_eq_false (h ▸ hn)

/-- The signal is there. -/
def signalSeen (L : Nat) (s : State) : State := setF (LANE_STATUS_SIG L) 1 s

theorem laneCdrLock_hunts (hports : portsOfLane L s = []) (hstate : getF (LANE_STATUS_LOCK_STATE L) s = 1)
    (hquad : quadLocked (L.val / 4) s = true) (hraw : laneRaw L s = false) :
    Does (.laneCdrLock L) s (setF (LANE_STATUS_LOCK_STATE L) 2 (setF (LANE_STATUS_SIG L) 1 s)) := by
  have hstate' : getF (LANE_STATUS_LOCK_STATE L) (signalSeen L s) = 1 :=
    (getF_setF_other _ _ (by simp only [fldKey, LANE_STATUS_LOCK_STATE, LANE_STATUS_SIG]; omega)).trans hstate
  have hraw' : laneRaw L (signalSeen L s) = false := by
    rw [laneRaw, signalSeen, getF_setF_addr (by simp [LANE_CTRL_MODE]) (by simp [LANE_STATUS_SIG])
      (by simp only [LANE_CTRL_MODE, LANE_STATUS_SIG]; omega)]
    exact hraw
  have hports' : portsOfLane L (signalSeen L s) = [] :=
    (portsOfLane_setF (M := L) (off := 0x20) rfl (by decide) (by simp [LANE_STATUS_SIG]) 1 s).trans hports
  have hcdr : laneCdr L s = laneTo L 2 (signalSeen L s) := (if_pos ⟨hstate, hquad⟩).trans (if_neg (by rw [← signalSeen, hraw']; decide))
  exact does_fin (congrArg fin (hcdr.trans (laneTo_stays hports' (.inl (laneLocked_of_state hstate' (by decide)))))) (Noted.refl _)

/-- The latencies of a lane that locks. -/
def latenciesSet (L : Nat) (s : State) : State := setF (LANE_LAT_TX_LAT L) 264 (setF (LANE_LAT_RX_LAT L) 462 s)

theorem portsOfLane_latenciesSet (L : Nat) (s : State) : portsOfLane L (latenciesSet L s) = portsOfLane L s := by
  rw [latenciesSet, portsOfLane_setF (M := L) (off := 0x24) rfl (by decide) (by simp [LANE_LAT_TX_LAT]),
    portsOfLane_setF (M := L) (off := 0x24) rfl (by decide) (by simp [LANE_LAT_RX_LAT])]

/-- A lock's latency becomes the reference, or is compared with it (R307). -/
def latencyJudged (L lat : Nat) (s : State) : State :=
  if s.rally.latSet.contains L then (if getF (LANE_LATREF_LAT_REF L) s = lat then setF (LANE_STATUS_LAT_SAME L) 1 s else latChanged L s)
  else setF (LANE_STATUS_LAT_SAME L) 1 (setF (LANE_LATREF_LAT_REF L) lat { s with rally := { s.rally with latSet := L :: s.rally.latSet } })

theorem laneLock_eq (L lat : Nat) (s : State) : laneLock L lat s =
    laneTo L 3 (latencyJudged L lat (setF (LANE_LAT_TX_LAT L) (txLat L s) (setF (LANE_LAT_RX_LAT L) lat s))) := rfl

/-- A 64b/66b lane that has its block lock takes the latencies of R305 and R306. -/
theorem laneBlockLock_locks {L : Nat} (hstate : getF (LANE_STATUS_LOCK_STATE L) s = 2) (hraw : laneRaw L s = false) :
    laneBlockLock L none s = laneTo L 3 (latencyJudged L 462 (latenciesSet L s)) := by
  have hrx : rxLat L s = 462 := if_neg (by rw [hraw]; decide)
  have htx : txLat L s = 264 := if_neg (by rw [hraw]; decide)
  have hlock : laneBlockLock L none s = laneLock L (rxLat L s) s := if_pos hstate
  rw [hlock, hrx, laneLock_eq, htx]
  rfl

/-- The lane has a reference from now on. -/
def referenceKnown (L : Nat) (s : State) : State := { s with rally := { s.rally with latSet := L :: s.rally.latSet } }

theorem getF_referenceKnown (f : Fld) (L : Nat) (s : State) : getF f (referenceKnown L s) = getF f s := rfl

/-- The first lock since REARM sets the reference. -/
def referenceSet (L : Nat) (s : State) : State := setF (LANE_STATUS_LAT_SAME L) 1 (setF (LANE_LATREF_LAT_REF L) 462 (referenceKnown L s))

theorem latencyJudged_first {L : Nat} (h : s.rally.latSet.contains L = false) : latencyJudged L 462 s = referenceSet L s :=
  if_neg (by rw [h]; decide)

/-- A lock whose latency is not the reference's is noted. -/
def changeNoted (L : Nat) (s : State) : State :=
  sbEvent 0x0603 [] (setF (LANE_STATUS_LAT_CHANGED L) 1 (setF (LANE_STATUS_LAT_SAME L) 0 s))

theorem portsOfLane_changeNoted (L : Nat) (s : State) : portsOfLane L (changeNoted L s) = portsOfLane L s := by
  rw [changeNoted, portsOfLane_sbEvent, portsOfLane_setF (M := L) (off := 0x20) rfl (by decide) (by simp [LANE_STATUS_LAT_CHANGED]),
    portsOfLane_setF (M := L) (off := 0x20) rfl (by decide) (by simp [LANE_STATUS_LAT_SAME])]

theorem latencyJudged_changed {L : Nat} (hports : portsOfLane L s = []) (h : s.rally.latSet.contains L = true)
    (href : getF (LANE_LATREF_LAT_REF L) s ≠ 462) : latencyJudged L 462 s = changeNoted L s := by
  have hnone : portsOfLane L (changeNoted L s) = [] := (portsOfLane_changeNoted L s).trans hports
  have hchanged : latChanged L s = forEach (fun p s =>
      if isSet (RP_CTRL_LAT_STRICT p) s then
        let s := portUpd p (fun x => { x with latBad := true }) s
        if getF (RP_STATUS_STATE p) s = 4 then s else setF (RP_STATUS_CAUSE p) 8 s
      else s) (portsOfLane L (changeNoted L s)) (changeNoted L s) := rfl
  rw [latencyJudged, if_pos h, if_neg href, hchanged, hnone, forEach]

theorem laneBlockLock_first (hports : portsOfLane L s = []) (hstate : getF (LANE_STATUS_LOCK_STATE L) s = 2) (hraw : laneRaw L s = false)
    (hset : s.rally.latSet.contains L.val = false) : ∃ t, Runs (.laneBlockLock L none) s t ∧ getF (LANE_STATUS_LOCK_STATE L) t = 3 ∧
      getF (LANE_LAT_RX_LAT L) t = 462 ∧ getF (LANE_LAT_TX_LAT L) t = 264 ∧ getF (LANE_LATREF_LAT_REF L) t = 462 ∧
      getF (LANE_STATUS_LAT_SAME L) t = 1 ∧ t.rally.latSet.contains L.val = true := by
  have hports' : portsOfLane L (referenceSet L (latenciesSet L s)) = [] := by
    rw [referenceSet, portsOfLane_setF (M := L) (off := 0x20) rfl (by decide) (by simp [LANE_STATUS_LAT_SAME]),
      portsOfLane_setF (M := L) (off := 0x28) rfl (by decide) (by simp [LANE_LATREF_LAT_REF])]
    exact (portsOfLane_latenciesSet L s).trans hports
  have hlock := (laneBlockLock_locks hstate hraw).trans
    ((congrArg (laneTo L 3) (latencyJudged_first (s := latenciesSet L s) hset)).trans (laneTo_stays hports' (.inr rfl)))
  have hknown : (referenceSet L (latenciesSet L s)).rally.latSet.contains L.val = true := by
    simp [referenceSet, referenceKnown]
  refine ⟨_, congrArg fin hlock, ?_⟩
  simp (disch := (simp only [fldKey, LANE_STATUS_LOCK_STATE, LANE_LAT_RX_LAT, LANE_LAT_TX_LAT, LANE_LATREF_LAT_REF,
    LANE_STATUS_LAT_SAME]; omega)) only [getF_whSettle, whSettle_rally, setF_rally, referenceSet, latenciesSet,
    getF_referenceKnown, getF_setF_other, getF_setF_same]
  exact ⟨rfl, rfl, rfl, rfl, rfl, hknown⟩

theorem laneBlockLock_changed (hports : portsOfLane L s = []) (hstate : getF (LANE_STATUS_LOCK_STATE L) s = 2) (hraw : laneRaw L s = false)
    (hset : s.rally.latSet.contains L.val = true) (href : getF (LANE_LATREF_LAT_REF L) s ≠ 462) : ∃ t, Runs (.laneBlockLock L none) s t ∧
      getF (LANE_STATUS_LOCK_STATE L) t = 3 ∧ getF (LANE_STATUS_LAT_SAME L) t = 0 ∧ getF (LANE_STATUS_LAT_CHANGED L) t = 1 ∧
      getF (LANE_LATREF_LAT_REF L) t = getF (LANE_LATREF_LAT_REF L) s := by
  have hnone := (portsOfLane_latenciesSet L s).trans hports
  have hsame : getF (LANE_LATREF_LAT_REF L) (latenciesSet L s) = getF (LANE_LATREF_LAT_REF L) s := by
    simp (disch := (simp only [fldKey, LANE_LAT_RX_LAT, LANE_LAT_TX_LAT, LANE_LATREF_LAT_REF]; omega)) only [latenciesSet, getF_setF_other]
  have hchanged := latencyJudged_changed hnone hset (by rw [hsame]; exact href)
  have hlock := (laneBlockLock_locks hstate hraw).trans ((congrArg (laneTo L 3) hchanged).trans
    (laneTo_stays ((portsOfLane_changeNoted L _).trans hnone) (.inr rfl)))
  have hnoted {f : Fld} {off : Nat} (hl : f.lo < 32) (ha : f.addr = laneReg L off) (ho : off < 0x90) :
      getF f (changeNoted L (latenciesSet L s)) =
        getF f (setF (LANE_STATUS_LAT_CHANGED L) 1 (setF (LANE_STATUS_LAT_SAME L) 0 (latenciesSet L s))) :=
    (Noted.sbEvent _ _ _).regs f hl (ha ▸ not_noteAddr_laneReg L ho)
  refine ⟨_, congrArg fin hlock, ?_⟩
  simp (disch := (simp only [fldKey, LANE_STATUS_LOCK_STATE, LANE_STATUS_LAT_SAME, LANE_STATUS_LAT_CHANGED, LANE_LATREF_LAT_REF]; omega)) only
    [getF_whSettle, getF_setF_other, getF_setF_same,
    hnoted (f := LANE_STATUS_LAT_SAME L) (off := 0x20) (by simp [LANE_STATUS_LAT_SAME]) rfl (by decide),
    hnoted (f := LANE_STATUS_LAT_CHANGED L) (off := 0x20) (by simp [LANE_STATUS_LAT_CHANGED]) rfl (by decide),
    hnoted (f := LANE_LATREF_LAT_REF L) (off := 0x28) (by simp [LANE_LATREF_LAT_REF]) rfl (by decide), hsame]
  exact ⟨rfl, rfl, rfl, trivial⟩

/-! Loss (R303). -/

theorem laneLockLoss_hunts (hports : portsOfLane L s = []) (hlocked : laneLocked L s = true) (hraw : laneRaw L s = false) :
    ∃ t, Runs (.laneLockLoss L) s t ∧ getF (LANE_STATUS_LOCK_STATE L) t = 2 ∧ getF (LANE_STATUS_LOCK_LOST L) t = 1 ∧
      getF (LANE_SLIP_SLIP_POS L) t = 0 ∧ getC (ctLane L 0) t = getC (ctLane L 0) (addC (ctLane L 0) 24 s) ∧
      getC (ctLane L 1) t = getC (ctLane L 1) (incC (ctLane L 1) s) := by
  have hloss : laneLockLoss L s = laneTo L 2 (addC (ctLane L 0) 24 s) := if_pos (by simp [hlocked, hraw])
  have hto := hloss.trans (laneTo_leaves (s := addC (ctLane L 0) 24 s) hports hlocked (by decide))
  have hkey {i : Nat} (hi : i < 64) : ctLane L i / 64 ≠ 0x3F00900030 := by
    simp only [ctLane, ctrKey, LANE_CTRL_TX_EN]
    omega
  have hcount {i : Nat} (hi : i < 64) (u : State) : getC (ctLane L i) (lockLeft L u) = getC (ctLane L i) (incC (ctLane L 1) u) :=
    getC_oncePerSecond (hkey hi) _ _ _ _
  have hother : ctLane L 0 ≠ ctLane L 1 := by
    simp only [ctLane, ctrKey]
    omega
  refine ⟨_, congrArg fin hto, ?_⟩
  rw [getF_whSettle, getF_whSettle, getF_whSettle, getC_whSettle, getC_whSettle, getC_setF, getC_setF, hcount (by decide), hcount (by decide)]
  refine ⟨(getF_setF_same _ _ _).trans rfl, ?_, ?_, getC_addC_other _ _ hother, getC_incC_congr (getC_addC_other _ _ hother.symm)⟩
  · rw [getF_setF_other _ _ (by simp only [fldKey, LANE_STATUS_LOCK_STATE, LANE_STATUS_LOCK_LOST]; omega), lockLeft,
      getF_oncePerSecond (by simp [LANE_STATUS_LOCK_LOST]) rfl (off := 0x20) (by decide),
      getF_setF_other _ _ (by simp only [fldKey, LANE_SLIP_SLIP_POS, LANE_STATUS_LOCK_LOST]; omega), getF_setF_same]
    rfl
  · rw [getF_setF_other _ _ (by simp only [fldKey, LANE_STATUS_LOCK_STATE, LANE_SLIP_SLIP_POS]; omega), lockLeft,
      getF_oncePerSecond (by simp [LANE_SLIP_SLIP_POS]) rfl (off := 0x30) (by decide), getF_setF_same]
    rfl

/-- A lane whose signal is lost, before its state changes. -/
def signalLost (L : Nat) (s : State) : State :=
  oncePerSecond (0x06020000 + L) (sbEvent 0x0602 [(2, L)]) (setF (LANE_STATUS_SIG L) 0 (setF (LANE_STATUS_LOS L) 1 s))

theorem lossOfSignal_loses (hports : portsOfLane L s = []) (hstate : getF (LANE_STATUS_LOCK_STATE L) s ≠ 0) :
    ∃ t, Runs (.lossOfSignal L true) s t ∧ getF (LANE_STATUS_LOCK_STATE L) t = 1 ∧ getF (LANE_STATUS_SIG L) t = 0 ∧
      getF (LANE_STATUS_LOS L) t = 1 := by
  have hloss : laneLoss L true s = laneTo L 1 (signalLost L s) := if_neg hstate
  have hnone : portsOfLane L (signalLost L s) = [] := by
    rw [signalLost, portsOfLane_oncePerSecond, portsOfLane_setF (M := L) (off := 0x20) rfl (by decide) (by simp [LANE_STATUS_SIG]),
      portsOfLane_setF (M := L) (off := 0x20) rfl (by decide) (by simp [LANE_STATUS_LOS])]
    exact hports
  refine ⟨_, congrArg fin hloss, ?_⟩
  rw [getF_whSettle, getF_whSettle, getF_whSettle]
  refine ⟨getF_state_laneTo hnone (by decide), ?_, ?_⟩
  · rw [getF_laneTo hnone rfl (by simp [LANE_STATUS_SIG]) (by simp only [fldKey, LANE_STATUS_SIG, LANE_STATUS_LOCK_STATE]; omega)
        (by simp only [fldKey, LANE_STATUS_SIG, LANE_STATUS_LOCK_LOST]; omega), signalLost,
      getF_oncePerSecond (by simp [LANE_STATUS_SIG]) rfl (off := 0x20) (by decide), getF_setF_same]
    rfl
  · rw [getF_laneTo hnone rfl (by simp [LANE_STATUS_LOS]) (by simp only [fldKey, LANE_STATUS_LOS, LANE_STATUS_LOCK_STATE]; omega)
        (by simp only [fldKey, LANE_STATUS_LOS, LANE_STATUS_LOCK_LOST]; omega), signalLost,
      getF_oncePerSecond (by simp [LANE_STATUS_LOS]) rfl (off := 0x20) (by decide),
      getF_setF_other _ _ (by simp only [fldKey, LANE_STATUS_LOS, LANE_STATUS_SIG]; omega), getF_setF_same]
    rfl

theorem lossOfSignal_idle {b : Bool} (h : getF (LANE_STATUS_LOCK_STATE L) s = 0) : Does (.lossOfSignal L b) s s :=
  does_fin (v := s) (congrArg fin (if_pos h)) (Noted.refl s)

/-- Settles O41: slips, REARM, eye scans, lock and loss, one by one. -/
theorem laneRows : Obligations.LaneRows := by
  unfold Obligations.LaneRows
  exact ⟨fun s L => laneSlip_moves, fun s L => laneSlip_movesLocked, fun s L => laneSlip_notRaw, fun s L => rearm_forgets,
    fun s L => ⟨eyeScanStart_starts, eyeScanStart_refused⟩, fun s L e => ⟨eyeScanPointDone_ends, eyeScanPointDone_idle⟩,
    fun s L => laneCdrLock_hunts,
    fun s L hports hstate hraw => ⟨laneBlockLock_first hports hstate hraw, laneBlockLock_changed hports hstate hraw⟩,
    fun s L => laneLockLoss_hunts, fun s L => lossOfSignal_loses, fun s L b => lossOfSignal_idle⟩

end Sys2Proof.Machine
end

section
/-! SUPPORT. What a lane's changes leave of settings (R303, R307), and what a lane's enables and settings store (R297, R301, R327). -/

namespace Sys2Proof.Machine

variable {s t : State} {L : Nat}

/-! A lane's lock state moves, and ports with it: settings stay. -/

theorem laneFollow_regs (L : Nat) (s : State) : RegsStay s (laneFollow L s) := .forEach (fun p _ s => portFollow_regs p s) s

theorem deskewDrop_regs (L : Nat) (s : State) : RegsStay s (deskewDrop L s) := by
  refine .forEach (fun p _ s => ?_) s
  split
  · exact .refl s
  · exact .ofRegs rfl

/-- A write of one of a lane's status registers. -/
theorem RegsStay.laneStatus (f : Fld) (v : Nat) (s : State) {off : Nat} (ha : f.addr = laneReg L off) (hl : f.lo < 32)
    (ho : off ∈ [0x20, 0x24, 0x28, 0x30] := by decide) : RegsStay s (Machine.setF f v s) := .setF (ha ▸ movingAddr_laneReg L ho) hl v s

theorem lockLeft_regs (L : Nat) (s : State) : RegsStay s (lockLeft L s) := by
  have hflags : RegsStay s (setF (LANE_SLIP_SLIP_POS L) 0 (setF (LANE_STATUS_LOCK_LOST L) 1 (incC (ctLane L 1) s))) :=
    (RegsStay.ofRegs (t := incC (ctLane L 1) s) rfl).trans
      ((RegsStay.laneStatus (LANE_STATUS_LOCK_LOST L) 1 _ (off := 0x20) rfl (by simp [LANE_STATUS_LOCK_LOST])).trans
        (.laneStatus (LANE_SLIP_SLIP_POS L) 0 _ (off := 0x30) rfl (by simp [LANE_SLIP_SLIP_POS])))
  exact hflags.trans (.ofWork (.oncePerSecond (i := 0) _ _ _ _))

theorem laneTo_regs (L st : Nat) (s : State) : RegsStay s (laneTo L st s) := by
  have hstate (u : State) : RegsStay u (laneFollow L (setF (LANE_STATUS_LOCK_STATE L) st u)) :=
    (RegsStay.laneStatus (LANE_STATUS_LOCK_STATE L) st u (off := 0x20) rfl (by simp [LANE_STATUS_LOCK_STATE])).trans (laneFollow_regs L _)
  unfold laneTo
  split
  · exact ((lockLeft_regs L s).trans (deskewDrop_regs L (lockLeft L s))).trans (hstate _)
  · exact hstate s

theorem laneRun_regs (L : Nat) (s : State) : RegsStay s (laneRun L s) := by
  dsimp only [laneRun]
  split
  · split
    · exact .refl s
    · exact (RegsStay.laneStatus (LANE_STATUS_SIG L) 0 s (off := 0x20) rfl (by simp [LANE_STATUS_SIG])).trans (laneTo_regs L 0 _)
  · split
    · exact laneTo_regs L 1 s
    · exact .refl s

/-! A lane's enables (R301). -/

/-- A lane with its enables set, and what follows from them. -/
theorem laneEnables_regs (L : Nat) (tx rx : Bool) (s : State) :
    RegsStay (setB (LANE_CTRL_RX_EN L) rx (setB (LANE_CTRL_TX_EN L) tx s)) (laneEnables L tx rx s) := by
  dsimp only [laneEnables]
  refine .trans ?_ ((laneRun_regs L _).trans (laneFollow_regs L _))
  split
  · exact .laneStatus (LANE_LAT_TX_LAT L) _ _ (off := 0x24) rfl (by simp [LANE_LAT_TX_LAT])
  · exact .refl _

theorem natOfBool_mod (b : Bool) : natOfBool b % 2 ^ 1 = natOfBool b := by cases b <;> rfl

theorem getF_en_laneEnables (L : Nat) (tx rx : Bool) (s : State) : getF (LANE_CTRL_TX_EN L) (laneEnables L tx rx s) = natOfBool tx ∧
    getF (LANE_CTRL_RX_EN L) (laneEnables L tx rx s) = natOfBool rx := by
  rw [(laneEnables_regs L tx rx s).lane (by simp [LANE_CTRL_TX_EN]) rfl (off := 0),
    (laneEnables_regs L tx rx s).lane (by simp [LANE_CTRL_RX_EN]) rfl (off := 0), setB, setB,
    getF_setF_other _ _ (by simp only [fldKey, LANE_CTRL_TX_EN, LANE_CTRL_RX_EN]; omega), getF_setF_same, getF_setF_same]
  exact ⟨natOfBool_mod tx, natOfBool_mod rx⟩

/-- Every other setting of the lane stays. -/
theorem getF_laneEnables {f : Fld} {off : Nat} (hl : f.lo < 32) (ha : f.addr = laneReg L off) (ho : off ∈ [0, 4, 8])
    (htx : fldKey f ≠ fldKey (LANE_CTRL_TX_EN L)) (hrx : fldKey f ≠ fldKey (LANE_CTRL_RX_EN L)) (tx rx : Bool) (s : State) :
    getF f (laneEnables L tx rx s) = getF f s := by
  rw [(laneEnables_regs L tx rx s).lane hl ha ho, setB, setB, getF_setF_other _ _ hrx, getF_setF_other _ _ htx]

/-! LANE_CTRL, LANE_TXEQ and LANE_RXEQ as words. -/

/-- Freezing the taps writes LANE_DFE0 to LANE_DFE2. -/
theorem getF_tapsFreeze {f : Fld} {off : Nat} (hl : f.lo < 32) (ha : f.addr = laneReg L off) (ho : off ∈ [0, 4, 8]) (s : State) :
    getF f (tapsFreeze L s) = getF f s := by
  simp only [List.mem_cons, List.not_mem_nil, or_false] at ho
  refine forEach_keeps (getF f) (fun t ht s => ?_) s
  have hrange := mem_natsFrom.1 ht
  refine (getF_congr (s := setF (tapFld L t) (freeNat s) s) rfl f).trans (getF_setF_addr hl ?_ ?_ _ s)
  · simp only [tapFld]
    omega
  · rw [ha]
    simp only [tapFld, LANE_DFE0_TAP1, laneReg]
    omega

/-- LANE_RXEQ is written with DFE_TAPS last (R327). -/
theorem getF_taps_rxeqFields (L w : Nat) (s : State) : getF (LANE_RXEQ_DFE_TAPS L) (rxeqFields L w s) = bitsOf w 8 4 :=
  (getF_setF_same _ _ _).trans (Nat.mod_mod _ _)

/-- LANE_CTRL and LANE_TXEQ are not written with LANE_RXEQ. -/
theorem getF_rxeqFields {f : Fld} {off : Nat} (hl : f.lo < 32) (ha : f.addr = laneReg L off) (ho : off ∈ [0, 4]) (w : Nat) (s : State) :
    getF f (rxeqFields L w s) = getF f s := by
  simp only [List.mem_cons, List.not_mem_nil, or_false] at ho
  have hset {g : Fld} (hg : g.addr = laneReg L 8) (hgl : g.lo < 32) (v : Nat) (u : State) : getF f (setF g v u) = getF f u :=
    getF_setF_addr hl hgl (by rw [ha, hg]; simp only [laneReg]; omega) v u
  dsimp only [rxeqFields]
  rw [hset rfl (by simp [LANE_RXEQ_DFE_TAPS]), hset rfl (by simp [LANE_RXEQ_DFE_MODE]), hset rfl (by simp [LANE_RXEQ_CTLE_AUTO]),
    hset rfl (by simp [LANE_RXEQ_CTLE])]
  split
  · refine getF_tapsFreeze hl ha ?_ s
    simp only [List.mem_cons, List.not_mem_nil, or_false]
    omega
  · rfl

theorem getF_pre_txeqFields (L w : Nat) (s : State) : getF (LANE_TXEQ_PRE L) (txeqFields L w s) = bitsOf w 4 4 := by
  rw [txeqFields, getF_setF_other _ _ (by simp only [fldKey, LANE_TXEQ_PRE, LANE_TXEQ_POST]; omega), getF_setF_same]
  exact Nat.mod_mod _ _

/-- LANE_CTRL is not written with LANE_TXEQ. -/
theorem getF_txeqFields {f : Fld} (hl : f.lo < 32) (ha : f.addr = laneReg L 0) (w : Nat) (s : State) :
    getF f (txeqFields L w s) = getF f s := by
  have hset {g : Fld} (hg : g.addr = laneReg L 4) (hgl : g.lo < 32) (v : Nat) (u : State) : getF f (setF g v u) = getF f u :=
    getF_setF_addr hl hgl (by rw [ha, hg]; simp only [laneReg]; omega) v u
  rw [txeqFields, hset rfl (by simp [LANE_TXEQ_POST]), hset rfl (by simp [LANE_TXEQ_PRE]), hset rfl (by simp [LANE_TXEQ_SWING])]

theorem getF_laneCtrlFields (L w : Nat) (s : State) : getF (LANE_CTRL_MODE L) (laneCtrlFields L w s) = bitsOf w 2 2 ∧
    getF (LANE_CTRL_RATE_D L) (laneCtrlFields L w s) = bitsOf w 8 5 := by
  simp (disch := (simp only [fldKey, LANE_CTRL_MODE, LANE_CTRL_RATE_D, LANE_CTRL_WIDTH, LANE_CTRL_TX_POL, LANE_CTRL_RX_POL,
    LANE_CTRL_POL_LOCK, LANE_CTRL_SCR_EN, LANE_CTRL_LOOP, LANE_CTRL_PRBS]; omega)) only [laneCtrlFields, getF_setF_other, getF_setF_same]
  exact ⟨Nat.mod_mod _ _, Nat.mod_mod _ _⟩

/-- The settings of a lane that LANE_CONFIGURE's answer is judged by, as its three words give them. -/
structure LaneHolds (L ctrl txeq rxeq : Nat) (s : State) : Prop where
  txEn : getF (LANE_CTRL_TX_EN L) s = bitsOf ctrl 0 1
  rxEn : getF (LANE_CTRL_RX_EN L) s = bitsOf ctrl 1 1
  mode : getF (LANE_CTRL_MODE L) s = bitsOf ctrl 2 2
  rate : getF (LANE_CTRL_RATE_D L) s = bitsOf ctrl 8 5
  pre : getF (LANE_TXEQ_PRE L) s = bitsOf txeq 4 4
  taps : getF (LANE_RXEQ_DFE_TAPS L) s = bitsOf rxeq 8 4

/-- A lane with three words stored and its enables as the first has them. -/
def laneConfigured (L ctrl txeq rxeq : Nat) (s : State) : State :=
  laneEnables L (bitOf ctrl 0) (bitOf ctrl 1) (rxeqFields L rxeq (txeqFields L txeq (laneCtrlFields L ctrl s)))

theorem laneHolds_configured (L ctrl txeq rxeq : Nat) (s : State) : LaneHolds L ctrl txeq rxeq (laneConfigured L ctrl txeq rxeq s) := by
  obtain ⟨htx, hrx⟩ := getF_en_laneEnables L (bitOf ctrl 0) (bitOf ctrl 1)
    (rxeqFields L rxeq (txeqFields L txeq (laneCtrlFields L ctrl s)))
  obtain ⟨hmode, hrate⟩ := getF_laneCtrlFields L ctrl s
  have hctrl {lo w rst : Nat} (h1 : 1 < lo) (h32 : lo < 32) : getF ⟨laneReg L 0, lo, w, rst⟩ (laneConfigured L ctrl txeq rxeq s) =
      getF ⟨laneReg L 0, lo, w, rst⟩ (laneCtrlFields L ctrl s) := by
    rw [laneConfigured, getF_laneEnables h32 rfl (by decide), getF_rxeqFields h32 rfl (by decide), getF_txeqFields h32 rfl]
    all_goals
      simp only [fldKey, LANE_CTRL_TX_EN, LANE_CTRL_RX_EN, laneReg]
      omega
  refine ⟨htx.trans (natOfBool_bitOf _ _), hrx.trans (natOfBool_bitOf _ _), (hctrl (by decide) (by decide)).trans hmode,
    (hctrl (by decide) (by decide)).trans hrate, ?_, ?_⟩
  · rw [laneConfigured, getF_laneEnables (by simp [LANE_TXEQ_PRE]) rfl (off := 4) (by decide),
      getF_rxeqFields (by simp [LANE_TXEQ_PRE]) rfl (off := 4) (by decide), getF_pre_txeqFields]
    all_goals
      simp only [fldKey, LANE_CTRL_TX_EN, LANE_CTRL_RX_EN, LANE_TXEQ_PRE]
      omega
  · rw [laneConfigured, getF_laneEnables (by simp [LANE_RXEQ_DFE_TAPS]) rfl (off := 8) (by decide), getF_taps_rxeqFields]
    all_goals
      simp only [fldKey, LANE_CTRL_TX_EN, LANE_CTRL_RX_EN, LANE_RXEQ_DFE_TAPS]
      omega

/-- No answer writes a register of a lane. -/
theorem Sealed.lane {m off : Nat} (h : Sealed m s t) (hL : L < 128) {f : Fld} (hl : f.lo < 32) (ha : f.addr = laneReg L off)
    (ho : off < 0x90 := by decide) : getF f t = getF f s :=
  h.regsBelow hl (by rw [ha]; simp only [laneReg]; omega)

theorem LaneHolds.sealed {ctrl txeq rxeq m : Nat} (h : LaneHolds L ctrl txeq rxeq s) (hL : L < 128) (k : Sealed m s t) :
    LaneHolds L ctrl txeq rxeq t where
  txEn := (k.lane hL (by simp [LANE_CTRL_TX_EN]) rfl (off := 0)).trans h.txEn
  rxEn := (k.lane hL (by simp [LANE_CTRL_RX_EN]) rfl (off := 0)).trans h.rxEn
  mode := (k.lane hL (by simp [LANE_CTRL_MODE]) rfl (off := 0)).trans h.mode
  rate := (k.lane hL (by simp [LANE_CTRL_RATE_D]) rfl (off := 0)).trans h.rate
  pre := (k.lane hL (by simp [LANE_TXEQ_PRE]) rfl (off := 4)).trans h.pre
  taps := (k.lane hL (by simp [LANE_RXEQ_DFE_TAPS]) rfl (off := 8)).trans h.taps

/-! Slips one after another (R304). -/

/-- A slip moves the boundary and keeps what decides how. -/
theorem laneSlip_steps (hraw : laneRaw L s = true) : getF (LANE_SLIP_SLIP_POS L) (laneSlip L s) =
    (getF (LANE_SLIP_SLIP_POS L) s + 1) % laneW L s ∧ laneRaw L (laneSlip L s) = true ∧ laneW L (laneSlip L s) = laneW L s := by
  have hslipped : laneRaw L (slipped L s) = true := (laneRaw_slipped L s).trans hraw
  rw [laneSlip_raw hraw]
  split
  · have hlat {f : Fld} {off : Nat} (hl : f.lo < 32) (ha : f.addr = laneReg L off) (ho : off ∈ [0, 0x30]) :
        getF f (setF (LANE_LAT_RX_LAT L) (rxLat L (slipped L s)) (slipped L s)) = getF f (slipped L s) := by
      simp only [List.mem_cons, List.not_mem_nil, or_false] at ho
      exact getF_setF_addr hl (by simp [LANE_LAT_RX_LAT]) (by rw [ha]; simp only [laneReg, LANE_LAT_RX_LAT]; omega) _ _
    refine ⟨?_, ?_, ?_⟩
    · rw [hlat (by simp [LANE_SLIP_SLIP_POS]) rfl (off := 0x30) (by decide), getF_slipped]
    · rw [laneRaw, hlat (by simp [LANE_CTRL_MODE]) rfl (off := 0) (by decide)]
      exact hslipped
    · rw [laneW, hlat (by simp [LANE_CTRL_WIDTH]) rfl (off := 0) (by decide)]
      exact laneW_slipped L s
  · exact ⟨getF_slipped s, hslipped, laneW_slipped L s⟩

/-- As many slips as a list is long. -/
theorem getF_forEach_laneSlip (l : List Nat) (hraw : laneRaw L s = true) (hpos : getF (LANE_SLIP_SLIP_POS L) s < laneW L s) :
    getF (LANE_SLIP_SLIP_POS L) (forEach (fun _ s => laneSlip L s) l s) = (getF (LANE_SLIP_SLIP_POS L) s + l.length) % laneW L s := by
  induction l generalizing s with
  | nil => exact (Nat.mod_eq_of_lt hpos).symm
  | cons a l ih =>
    obtain ⟨hstep, hraw', hwidth⟩ := laneSlip_steps hraw
    have hlt : getF (LANE_SLIP_SLIP_POS L) (laneSlip L s) < laneW L (laneSlip L s) := by
      rw [hstep, hwidth]
      exact Nat.mod_lt _ (laneW_pos L s)
    rw [forEach, ih hraw' hlt, hwidth, hstep, Nat.mod_add_mod, List.length_cons, Nat.add_assoc, Nat.add_comm 1]

theorem getF_laneSlips (n : Nat) (hraw : laneRaw L s = true) (hpos : getF (LANE_SLIP_SLIP_POS L) s < laneW L s) :
    getF (LANE_SLIP_SLIP_POS L) (laneSlips L n s) = (getF (LANE_SLIP_SLIP_POS L) s + n) % laneW L s := by
  rw [laneSlips, getF_forEach_laneSlip _ hraw hpos, natsFrom_length]

end Sys2Proof.Machine
end

section
/-! SUPPORT. What a quad's commands leave of its registers (R297, R298). -/

namespace Sys2Proof.Machine

variable {s t : State} {q : Nat}

/-- Three registers of a quad. -/
def quadReg (q off : Nat) : Nat := 0x3F00700000 + off + q * 0x8000

/-- Lanes and ports that follow leave a quad's registers alone. -/
theorem RegsStay.quad (h : RegsStay s t) (hq : q < 32) {f : Fld} {off : Nat} (hl : f.lo < 32) (ha : f.addr = quadReg q off)
    (ho : off ∈ [0, 4, 8] := by decide) : getF f t = getF f s := by
  simp only [List.mem_cons, List.not_mem_nil, or_false] at ho
  refine h f hl ?_ ?_
  all_goals
    simp only [ha, noteAddr, movingAddr, queueAddr, quadReg]
    omega

/-- So do the PLLs. -/
theorem not_pllAddr_quadReg (q off : Nat) : ¬ pllAddr (quadReg q off) := by
  unfold pllAddr quadReg
  omega

theorem Sealed.quad {m off : Nat} (h : Sealed m s t) (hq : q < 32) {f : Fld} (hl : f.lo < 32) (ha : f.addr = quadReg q off)
    (ho : off ≤ 8 := by decide) : getF f t = getF f s :=
  h.regsBelow hl (by rw [ha]; simp only [quadReg]; omega)

theorem portsFollow_regs (s : State) : RegsStay s (portsFollow s) := .forEach (fun p _ s => portFollow_regs p s) s

/-- The lanes of a quad that stops go to CDR. -/
theorem quadDrop_regs (q : Nat) (s : State) : RegsStay (quadShow q s) (quadDrop q s) := by
  refine (portsFollow_regs _).trans (.forEach (fun L _ s => ?_) _)
  split
  · exact .refl s
  · exact laneTo_regs L 1 s

/-- The lanes of a quad that locks leave OFF. -/
theorem quadLock_regs (q : Nat) (s : State) : RegsStay (quadShow q s) (quadLock q s) :=
  .forEach (fun L _ s => (laneRun_regs L s).trans (laneFollow_regs L _)) _

/-- QUAD_STATUS.STATE is the PLL's. -/
theorem getF_state_quadShow (q : Nat) (s : State) :
    getF (QUAD_STATUS_STATE q) (quadShow q s) = getF (PLL_STATUS_STATE (31 + q)) s % 4 := getF_setF_same _ _ _

/-- Showing the PLL's state writes nothing else. -/
theorem getF_quadShow {f : Fld} {off : Nat} (hl : f.lo < 32) (ha : f.addr = quadReg q off) (ho : off ∈ [0, 4]) (s : State) :
    getF f (quadShow q s) = getF f s := by
  simp only [List.mem_cons, List.not_mem_nil, or_false] at ho
  exact getF_setF_addr hl (by simp [QUAD_STATUS_STATE]) (by rw [ha]; simp only [quadReg, QUAD_STATUS_STATE]; omega) _ s

theorem getF_state_pllStop (p : Nat) (s : State) : getF (PLL_STATUS_STATE p) (pllStop p s) = 0 := by
  rw [pllStop, getF_pllFails, getF_setF_other, getF_setF_other, getF_setF_same]
  · rfl
  all_goals
    simp only [fldKey, PLL_STATUS_STATE, PLL_STATUS_FREQ_BAD, PLL_PHASE_PHASE_OK]
    omega

/-- A quad that is switched off: its PLL is OFF. -/
theorem quadEnable_off (hq : q < 32) (s : State) : getF (QUAD_CTRL_EN q) (quadEnable q false s) = 0 ∧
    getF (QUAD_STATUS_STATE q) (quadEnable q false s) = 0 := by
  have hregs : RegsStay (quadShow q (pllStop (31 + q) (setB (QUAD_CTRL_EN q) false s))) (quadEnable q false s) := quadDrop_regs q _
  refine ⟨?_, ?_⟩
  · rw [hregs.quad hq (by simp [QUAD_CTRL_EN]) rfl (off := 0), getF_quadShow (by simp [QUAD_CTRL_EN]) rfl (off := 0) (by decide),
      getF_pllStop (by simp [QUAD_CTRL_EN]) (not_pllAddr_quadReg q 0) (by omega), setB, getF_setF_same]
    rfl
  · rw [hregs.quad hq (by simp [QUAD_STATUS_STATE]) rfl (off := 8), getF_state_quadShow, getF_state_pllStop]

/-- A quad that is switched on: its PLL locks, and its settings stay. -/
theorem quadEnable_on (hq : q < 32) (s : State) : getF (QUAD_CTRL_EN q) (quadEnable q true s) = 1 ∧
    getF (QUAD_STATUS_STATE q) (quadEnable q true s) = 1 ∧
    ∀ (f : Fld) (off : Nat), f.lo < 32 → f.addr = quadReg q off → off ∈ [0, 4] → fldKey f ≠ fldKey (QUAD_CTRL_EN q) →
      getF f (quadEnable q true s) = getF f s := by
  have hon : quadEnable q true s = quadShow q (pllStart (31 + q) (setB (QUAD_CTRL_EN q) true s)) := rfl
  rw [hon]
  refine ⟨?_, ?_, fun f off hl ha ho hk => ?_⟩
  · rw [getF_quadShow (by simp [QUAD_CTRL_EN]) rfl (off := 0) (by decide),
      getF_pllStart (by simp [QUAD_CTRL_EN]) (not_pllAddr_quadReg q 0) (by omega), setB, getF_setF_same]
    rfl
  · rw [getF_state_quadShow, (pllStart_status _ _).2.1]
  · rw [getF_quadShow hl ha ho, getF_pllStart hl (ha ▸ not_pllAddr_quadReg q off) (by omega), setB, getF_setF_other _ _ hk]

/-- A quad whose PLL has locked. -/
def quadLocks (q : Nat) (s : State) : State := quadLock q (setF (PLL_STATUS_STATE (31 + q)) 2 (pllLockedSet (31 + q) true s))

theorem getF_state_quadLocks (hq : q < 32) (s : State) : getF (QUAD_STATUS_STATE q) (quadLocks q s) = 2 := by
  rw [quadLocks, (quadLock_regs q _).quad hq (by simp [QUAD_STATUS_STATE]) rfl (off := 8), getF_state_quadShow, getF_setF_same]
  rfl

theorem getF_quadLocks (hq : q < 32) {f : Fld} {off : Nat} (hl : f.lo < 32) (ha : f.addr = quadReg q off) (ho : off ∈ [0, 4]) (s : State) :
    getF f (quadLocks q s) = getF f s := by
  have hmoves : off ∈ [0, 4, 8] := by
    simp only [List.mem_cons, List.not_mem_nil, or_false] at ho ⊢
    omega
  rw [quadLocks, (quadLock_regs q _).quad hq hl ha hmoves, getF_quadShow hl ha ho,
    getF_setF_pll _ _ hl (by simp [PLL_STATUS_STATE]) (ha ▸ not_pllAddr_quadReg q off), getF_pllLockedSet]
  simp only [pllAddr, PLL_STATUS_STATE]
  omega

/-- The settings of a QUAD_CONFIGURE are stored. -/
theorem getF_quadSettings {r : Req} (hkhz : arg r 8 4 < 2 ^ 19) (s : State) :
    getF (QUAD_CTRL_QM (arg r 0 1)) (quadSettings r s) = arg r 4 1 ∧ getF (QUAD_REF_REF_KHZ (arg r 0 1)) (quadSettings r s) = arg r 8 4 := by
  have hqm : arg r 4 1 < 2 ^ 8 := fieldAt_lt _ 4 1
  refine ⟨?_, (getF_setF_same _ _ _).trans (Nat.mod_eq_of_lt hkhz)⟩
  rw [quadSettings, getF_setF_addr (by simp [QUAD_CTRL_QM]) (by simp [QUAD_REF_REF_KHZ])
    (by simp only [QUAD_CTRL_QM, QUAD_REF_REF_KHZ]; omega), getF_setF_same]
  exact Nat.mod_eq_of_lt hqm

end Sys2Proof.Machine
end

section
/-! The commands of the lanes (R296 to R299, R303, R304, R327, R329), command by command. -/

namespace Sys2Proof.Machine

variable {s : State} {mb : Fin 14} {r : Req}

/-- A sheet that is asked and answers any end: the state `t` reached holds the answer, and is `u` but for it. -/
theorem runs_replied {i : Instr} {sh : Sheet} {m : Nat} {r : Req} {s u : State} {st : Nat} {p : List (BitVec 8)}
    (he : exec i s = fin (runSheet sh m s)) (h : Asks sh m r s) (hrun : sh.run r (seqPop s) = (⟨st, p, none⟩, u)) (hst : st < 0xFFFF) :
    ∃ t, Runs i s t ∧ Answered r st p false t ∧ Sealed m u t := by
  obtain ⟨hans, hsealed⟩ := runSheet_answers h hrun hst
  exact ⟨_, he, hans.whSettle, hsealed.trans (Sealed.whSettle m _)⟩

/-! LANE_STATUS. -/

/-- The answer of LANE_STATUS: the lane's five words and its four counters. -/
def laneStatusBytes (L : Nat) (s : State) : List (BitVec 8) :=
  leBytes 4 (laneCtrlWord L s) ++ leBytes 4 (laneStatusWord L s) ++
    leBytes 4 (getF (LANE_LAT_RX_LAT L) s + 2 ^ 16 * getF (LANE_LAT_TX_LAT L) s) ++
    leBytes 4 (getF (LANE_LATREF_LAT_REF L) s) ++ leBytes 4 (lanePhaseWord L s) ++
    ((natsFrom 0 4).map (fun i => ctrBytes (ctLane L i) s)).flatten

theorem laneStatusBytes_seqPop (L : Nat) (s : State) : laneStatusBytes L (seqPop s) = laneStatusBytes L s := by
  simp [laneStatusBytes, ctrBytes, laneCtrlWord, laneStatusWord, lanePhaseWord, phaseValid, laneLocked]

theorem laneStatusBytes_length (L : Nat) (s : State) : (laneStatusBytes L s).length = 44 := by
  rw [laneStatusBytes, List.length_append, length_pieces fun i => ctrBytes_length (ctLane L i) s]
  simp

theorem laneStatusBytes_words (L : Nat) (s : State) : fieldAt (laneStatusBytes L s) 0 4 = laneCtrlWord L s % 2 ^ 32 ∧
    fieldAt (laneStatusBytes L s) 4 4 = laneStatusWord L s % 2 ^ 32 := by
  simp [laneStatusBytes, List.append_assoc, fieldAt_skip, fieldAt_first]

theorem laneStatusBytes_counter (L : Nat) (s : State) {i : Nat} (hi : i < 4) :
    fieldAt (laneStatusBytes L s) (20 + 6 * i) 6 = (getC (ctLane L i) s).val % 2 ^ 48 := fieldAt_counter (ctLane L) _ s hi

theorem laneStatus_answers (h : Asks sheetLaneStatus mb r s) : Oks (.laneStatus mb) mb r (laneStatusBytes (arg r 0 1) s) s (seqPop s) :=
  oks_fin rfl h rfl (Noted.refl _) (laneStatusBytes_seqPop _ s)

/-! LANE_CONFIGURE. -/

theorem laneConfigure_lane (h : Asks sheetLaneConfigure mb r s) : arg r 0 1 < 128 := by
  have hargs := h.args
  dsimp only [sheetLaneConfigure, plainSheet] at hargs
  have hargs := (argsLen_none hargs).2
  simp only [laneConfigOk, Bool.and_eq_true, decide_eq_true_eq] at hargs
  exact hargs.1.1.1.1

/-- LANE_CONFIGURE stores its words, and switches the lane's sides as they say. -/
theorem laneConfigure_configures (h : Asks sheetLaneConfigure mb r s) : ∃ t, Runs (.laneConfigure mb) s t ∧ Answered r stOk [] false t ∧
    LaneHolds (arg r 0 1) (arg r 4 4) (arg r 8 4) (arg r 12 4) t := by
  have hrun : sheetLaneConfigure.run r (seqPop s) = (replyOk [],
      laneConfigured (arg r 0 1) (arg r 4 4) (arg r 8 4) (arg r 12 4) (laneEnables (arg r 0 1) false false (seqPop s))) := rfl
  obtain ⟨t, hruns, hans, hsealed⟩ := runs_answered (i := .laneConfigure mb) rfl h hrun
  exact ⟨t, hruns, hans, (laneHolds_configured _ _ _ _ _).sealed (laneConfigure_lane h) hsealed⟩

/-! LANE_SLIP_SEARCH. -/

/-- A slip search is asked of a lane of the part that is RAW and LOCKED. -/
theorem laneSlipSearch_lane {hit : Option (Fin 64)} (h : Asks (sheetLaneSlipSearch hit) mb r s) : arg r 0 1 < 128 ∧
    laneRaw (arg r 0 1) (seqPop s) = true := by
  have hargs := h.args
  dsimp only [sheetLaneSlipSearch, plainSheet] at hargs
  have hargs := (argsLen_none hargs).2
  simp only [Bool.and_eq_true, decide_eq_true_eq] at hargs
  have hstate := h.state
  simp only [sheetLaneSlipSearch, ite_eq_left_iff, reduceCtorEq, imp_false, not_not, Bool.and_eq_true] at hstate
  exact ⟨hargs.1.1, hstate.1⟩

@[simp] theorem laneW_seqPop (L : Nat) (s : State) : laneW L (seqPop s) = laneW L s := by rw [laneW, getF_seqPop, laneW]

/-- The position after so many slips of the request's lane. -/
theorem getF_slipSearch {hit : Option (Fin 64)} (h : Asks (sheetLaneSlipSearch hit) mb r s)
    (hpos : getF (LANE_SLIP_SLIP_POS (arg r 0 1)) s < laneW (arg r 0 1) s) (n : Nat) :
    getF (LANE_SLIP_SLIP_POS (arg r 0 1)) (laneSlips (arg r 0 1) n (seqPop s)) =
      (getF (LANE_SLIP_SLIP_POS (arg r 0 1)) s + n) % laneW (arg r 0 1) s := by
  rw [getF_laneSlips n (laneSlipSearch_lane h).2 (by rw [getF_seqPop, laneW_seqPop]; exact hpos), getF_seqPop, laneW_seqPop]

theorem laneSlipSearch_finds {k : Fin 64} (h : Asks (sheetLaneSlipSearch (some k)) mb r s) (hk : k.val < laneW (arg r 0 1) s)
    (hpos : getF (LANE_SLIP_SLIP_POS (arg r 0 1)) s < laneW (arg r 0 1) s) : ∃ t n,
      n = (getF (LANE_SLIP_SLIP_POS (arg r 0 1)) s + k.val) % laneW (arg r 0 1) s ∧ Runs (.laneSlipSearch mb (some k)) s t ∧
      Answered r stOk (leBytes 1 n) false t ∧ getF (LANE_SLIP_SLIP_POS (arg r 0 1)) t = n := by
  have hrun : (sheetLaneSlipSearch (some k)).run r (seqPop s) =
      (replyOk (leBytes 1 (getF (LANE_SLIP_SLIP_POS (arg r 0 1)) (laneSlips (arg r 0 1) k.val (seqPop s)))),
        laneSlips (arg r 0 1) k.val (seqPop s)) := if_pos (by rw [laneW_seqPop]; exact hk)
  obtain ⟨t, hruns, hans, hsealed⟩ := runs_answered (i := .laneSlipSearch mb (some k)) rfl h hrun
  refine ⟨t, _, (getF_slipSearch h hpos k.val), hruns, hans, ?_⟩
  exact hsealed.lane (laneSlipSearch_lane h).1 (by simp [LANE_SLIP_SLIP_POS]) rfl (off := 0x30)

/-- W slips that find nothing come back to where they began. -/
theorem laneSlipSearch_timesOut (h : Asks (sheetLaneSlipSearch none) mb r s)
    (hpos : getF (LANE_SLIP_SLIP_POS (arg r 0 1)) s < laneW (arg r 0 1) s) : ∃ t, Runs (.laneSlipSearch mb none) s t ∧
      Answered r stTimeout [] false t ∧ getF (LANE_SLIP_SLIP_POS (arg r 0 1)) t = getF (LANE_SLIP_SLIP_POS (arg r 0 1)) s := by
  obtain ⟨t, hruns, hans, hsealed⟩ := runs_replied (i := .laneSlipSearch mb none) rfl h rfl (by decide)
  refine ⟨t, hruns, hans, ?_⟩
  rw [hsealed.lane (laneSlipSearch_lane h).1 (by simp [LANE_SLIP_SLIP_POS]) rfl (off := 0x30), getF_slipSearch h hpos, laneW_seqPop,
    Nat.add_mod_right, Nat.mod_eq_of_lt hpos]

/-! LANE_EYE_SCAN. -/

/-- The answer of LANE_EYE_SCAN: the number of points, and what each counted. -/
def eyeScanBytes (n : Nat) (es : List (BitVec 16)) : List (BitVec 8) :=
  leBytes 2 n ++ ((natsFrom 0 n).map (fun i => leBytes 2 (listGet 0 es i).toNat)).flatten

theorem eyeScanBytes_length (n : Nat) (es : List (BitVec 16)) : (eyeScanBytes n es).length = 2 + 2 * n := by
  rw [eyeScanBytes, List.length_append, length_pieces fun i => leBytes_length 2 _, leBytes_length]

theorem eyeScanBytes_points {n : Nat} (hn : n < 2 ^ 16) (es : List (BitVec 16)) : fieldAt (eyeScanBytes n es) 0 2 = n :=
  (fieldAt_first 2 n _).trans (Nat.mod_eq_of_lt hn)

theorem eyeScanBytes_point {n i : Nat} (hi : i < n) (es : List (BitVec 16)) :
    fieldAt (eyeScanBytes n es) (2 + 2 * i) 2 = (listGet 0 es i).toNat := by
  rw [eyeScanBytes, fieldAt_skip _ _ _ _ _ (Nat.le_add_right 2 _), fieldAt, Nat.add_sub_cancel_left,
    take_drop_pieces (fun i => leBytes_length 2 (listGet 0 es i).toNat) hi, Nat.zero_add, leNat_leBytes]
  exact Nat.mod_eq_of_lt (listGet 0 es i).isLt

/-- An eye scan is of a lane of the part, and of at most 1,900 points. -/
theorem laneEyeScan_lane {es : List (BitVec 16)} (h : Asks (sheetLaneEyeScan es) mb r s) : arg r 0 1 < 128 ∧ eyePoints r ≤ 1900 := by
  have hargs := h.args
  dsimp only [sheetLaneEyeScan, plainSheet] at hargs
  have hargs := (argsLen_none hargs).2
  simp only [eyeScanOk, Bool.and_eq_true, decide_eq_true_eq] at hargs
  obtain ⟨⟨⟨⟨⟨⟨⟨⟨⟨hL, -⟩, -⟩, -⟩, -⟩, -⟩, -⟩, -⟩, hn⟩, -⟩ := hargs
  exact ⟨hL, hn⟩

theorem laneEyeScan_scans {es : List (BitVec 16)} (h : Asks (sheetLaneEyeScan es) mb r s) : ∃ t, Runs (.laneEyeScan mb es) s t ∧
    Answered r stOk (eyeScanBytes (eyePoints r) es) false t ∧ getF (LANE_ES_RESULT_DONE (arg r 0 1)) t = 1 := by
  obtain ⟨t, hruns, hans, hsealed⟩ := runs_answered (i := .laneEyeScan mb es) rfl h rfl
  rw [List.map_map] at hans
  refine ⟨t, hruns, hans, ?_⟩
  rw [hsealed.lane (laneEyeScan_lane h).1 (by simp [LANE_ES_RESULT_DONE]) rfl (off := 0x54),
    getF_setF_other _ _ (by simp only [fldKey, LANE_ES_RESULT_DONE, LANE_ES_RESULT_ERRORS]; omega), getF_setF_same]
  rfl

/-! QUAD_CONFIGURE. -/

theorem quadConfigure_args {b : Bool} (h : Asks (sheetQuadConfigure b) mb r s) : arg r 0 1 < 32 ∧ arg r 8 4 < 2 ^ 19 := by
  have hargs := h.args
  dsimp only [sheetQuadConfigure, plainSheet] at hargs
  have hargs := (argsLen_none hargs).2
  simp only [Bool.and_eq_true, decide_eq_true_eq] at hargs
  obtain ⟨⟨⟨⟨⟨⟨⟨hq, -⟩, -⟩, -⟩, -⟩, -⟩, hkhz⟩, -⟩ := hargs
  exact ⟨hq, hkhz⟩

/-- The quad of a request stopped, with its settings, and switched as the request says. -/
def quadConfigured (r : Req) (en : Bool) (s : State) : State :=
  quadEnable (arg r 0 1) en (quadSettings r (quadEnable (arg r 0 1) false s))

theorem quadConfigure_locks (h : Asks (sheetQuadConfigure true) mb r s) (hen : arg r 5 1 = 1) : ∃ t, Runs (.quadConfigure mb true) s t ∧
    Answered r stOk [2] false t ∧ getF (QUAD_CTRL_EN (arg r 0 1)) t = 1 ∧ getF (QUAD_STATUS_STATE (arg r 0 1)) t = 2 ∧
    getF (QUAD_CTRL_QM (arg r 0 1)) t = arg r 4 1 ∧ getF (QUAD_REF_REF_KHZ (arg r 0 1)) t = arg r 8 4 := by
  obtain ⟨hq, hkhz⟩ := quadConfigure_args h
  have hstate := getF_state_quadLocks hq (quadConfigured r true (seqPop s))
  have hrun : (sheetQuadConfigure true).run r (seqPop s) =
      (replyOk (leBytes 1 2), quadLocks (arg r 0 1) (quadConfigured r true (seqPop s))) := by
    rw [← hstate]
    simp only [sheetQuadConfigure, plainSheet, hen]
    rfl
  obtain ⟨t, hruns, hans, hsealed⟩ := runs_answered (i := .quadConfigure mb true) rfl h hrun
  obtain ⟨hon, -, hkept⟩ := quadEnable_on hq (quadSettings r (quadEnable (arg r 0 1) false (seqPop s)))
  obtain ⟨hqm, href⟩ := getF_quadSettings hkhz (quadEnable (arg r 0 1) false (seqPop s))
  refine ⟨t, hruns, hans, ?_, ?_, ?_, ?_⟩
  · rw [hsealed.quad hq (by simp [QUAD_CTRL_EN]) rfl (off := 0), getF_quadLocks hq (by simp [QUAD_CTRL_EN]) rfl (off := 0) (by decide)]
    exact hon
  · rw [hsealed.quad hq (by simp [QUAD_STATUS_STATE]) rfl (off := 8), hstate]
  · rw [hsealed.quad hq (by simp [QUAD_CTRL_QM]) rfl (off := 0), getF_quadLocks hq (by simp [QUAD_CTRL_QM]) rfl (off := 0) (by decide)]
    exact (hkept _ 0 (by simp [QUAD_CTRL_QM]) rfl (by decide) (by simp only [fldKey, QUAD_CTRL_QM, QUAD_CTRL_EN]; omega)).trans hqm
  · rw [hsealed.quad hq (by simp [QUAD_REF_REF_KHZ]) rfl (off := 4),
      getF_quadLocks hq (by simp [QUAD_REF_REF_KHZ]) rfl (off := 4) (by decide)]
    exact (hkept _ 4 (by simp [QUAD_REF_REF_KHZ]) rfl (by decide) (by simp only [fldKey, QUAD_REF_REF_KHZ, QUAD_CTRL_EN]; omega)).trans href

theorem quadConfigure_timesOut (h : Asks (sheetQuadConfigure false) mb r s) (hen : arg r 5 1 = 1) : ∃ t,
    Runs (.quadConfigure mb false) s t ∧ Answered r stTimeout [] false t ∧ getF (QUAD_STATUS_STATE (arg r 0 1)) t = 1 := by
  have hq := (quadConfigure_args h).1
  have hrun : (sheetQuadConfigure false).run r (seqPop s) = (replySt stTimeout, quadConfigured r true (seqPop s)) := by
    simp only [sheetQuadConfigure, plainSheet, hen]
    rfl
  obtain ⟨t, hruns, hans, hsealed⟩ := runs_replied (i := .quadConfigure mb false) rfl h hrun (by decide)
  refine ⟨t, hruns, hans, ?_⟩
  rw [hsealed.quad hq (by simp [QUAD_STATUS_STATE]) rfl (off := 8)]
  exact (quadEnable_on hq _).2.1

theorem quadConfigure_off {b : Bool} (h : Asks (sheetQuadConfigure b) mb r s) (hen : arg r 5 1 = 0) : ∃ t,
    Runs (.quadConfigure mb b) s t ∧ Answered r stOk [0] false t ∧ getF (QUAD_CTRL_EN (arg r 0 1)) t = 0 ∧
      getF (QUAD_STATUS_STATE (arg r 0 1)) t = 0 := by
  have hq := (quadConfigure_args h).1
  obtain ⟨hoff, hstate⟩ := quadEnable_off hq (quadSettings r (quadEnable (arg r 0 1) false (seqPop s)))
  have hrun : (sheetQuadConfigure b).run r (seqPop s) = (replyOk (leBytes 1 0), quadConfigured r false (seqPop s)) := by
    rw [← hstate]
    simp only [sheetQuadConfigure, plainSheet, hen]
    rfl
  obtain ⟨t, hruns, hans, hsealed⟩ := runs_answered (i := .quadConfigure mb b) rfl h hrun
  refine ⟨t, hruns, hans, ?_, ?_⟩
  · rw [hsealed.quad hq (by simp [QUAD_CTRL_EN]) rfl (off := 0)]
    exact hoff
  · rw [hsealed.quad hq (by simp [QUAD_STATUS_STATE]) rfl (off := 8)]
    exact hstate

/-- Settles O42: the lanes' and the quads' commands, one by one. -/
theorem laneCommands : Obligations.LaneCommands := by
  unfold Obligations.LaneCommands
  refine ⟨fun s mb r h => ?_, fun s mb r h => ?_, fun s mb r k => laneSlipSearch_finds, fun s mb r => laneSlipSearch_timesOut,
    fun s mb r es h => ?_, fun s mb r => quadConfigure_locks, fun s mb r => quadConfigure_timesOut, fun s mb r b => quadConfigure_off⟩
  · obtain ⟨hctrl, hstatus⟩ := laneStatusBytes_words (arg r 0 1) s
    exact ⟨laneStatusBytes (arg r 0 1) s, laneStatus_answers h, laneStatusBytes_length _ s, hctrl, hstatus,
      fun i hi => laneStatusBytes_counter _ s hi⟩
  · obtain ⟨t, hruns, hans, hholds⟩ := laneConfigure_configures h
    exact ⟨t, hruns, hans, hholds.txEn, hholds.rxEn, hholds.mode, hholds.rate, hholds.pre, hholds.taps⟩
  · obtain ⟨t, hruns, hans, hdone⟩ := laneEyeScan_scans h
    have hn := (laneEyeScan_lane h).2
    exact ⟨t, _, hruns, hans, eyeScanBytes_length _ es, eyeScanBytes_points (by omega) es, fun i hi => eyeScanBytes_point hi es, hdone⟩

end Sys2Proof.Machine
end
